-- ==== Sys2Proof/Word.lean ====
section
/-! DEFINITION. The word types of the QM60 (R3, R67, R80, R106) and nothing else: bytes, instruction words, 64-bit
registers, the 96-bit accumulator and the lane masks. Every helper on them that a test could show wrong is in
`Machine/Bits.lean`. -/

namespace Sys2Proof

/-- A byte of memory (R3). -/
abbrev Byte := BitVec 8
/-- A 32-bit word: an instruction or literal word (R67), or one lane of a vector register (R97). -/
abbrev Word := BitVec 32
/-- A 64-bit word: a uniform register (R151), an address (R187), a special register (R86). -/
abbrev DWord := BitVec 64
/-- The A96 accumulator value (R106). -/
abbrev Acc := BitVec 96
/-- One bit per lane of a group, lane l at bit l (R80, R167). -/
abbrev Mask := BitVec 64

end Sys2Proof
end

