-- ==== Sys2Proof/Machine/Bits.lean ====
section
/-! DEFINITION. Bit-field, byte-order and bit-count helpers (R3, R8, R9). -/

namespace Sys2Proof.Machine

/-- The number that a list of bytes holds, lowest address first (R3). -/
def bytesNat : List Byte → Nat
  | [] => 0
  | b :: t => b.toNat + 256 * bytesNat t

/-- The `n` lowest bytes of a number, lowest first (R3). -/
def natBytes : Nat → Nat → List Byte
  | 0, _ => []
  | n + 1, v => BitVec.ofNat 8 v :: natBytes n (v / 256)

/-- Bits [lo + n − 1 : lo] of a number. -/
def fld (v lo n : Nat) : Nat := v / 2 ^ lo % 2 ^ n

/-- The signed value of the `n` low bits (R9). -/
def sextInt (v n : Nat) : Int := if v % 2 ^ n < 2 ^ (n - 1) then (v % 2 ^ n : Int) else (v % 2 ^ n : Int) - 2 ^ n

/-- sat(x, lo, hi) of R9. -/
def satInt (x lo hi : Int) : Int := if x < lo then lo else if hi < x then hi else x

/-- Set bits of a number, among its `n` low bits. -/
def popNat : Nat → Nat → Nat
  | 0, _ => 0
  | n + 1, v => v % 2 + popNat n (v / 2)

/-- Zero bits above the highest set bit, among `n` bits; `n` for zero. -/
def clzNat : Nat → Nat → Nat
  | 0, _ => 0
  | n + 1, v => if v / 2 ^ n % 2 = 1 then 0 else 1 + clzNat n v

/-- Zero bits below the lowest set bit, among `n` bits; `n` for zero. -/
def ctzNat : Nat → Nat → Nat
  | 0, _ => 0
  | n + 1, v => if v % 2 = 1 then 0 else 1 + ctzNat n (v / 2)

/-- The `n` low bits in reverse order. -/
def brevNat : Nat → Nat → Nat
  | 0, _ => 0
  | n + 1, v => (v % 2) * 2 ^ n + brevNat n (v / 2)

/-- The `n` low bytes in reverse order. -/
def bswapNat (n v : Nat) : Nat := bytesNat (natBytes n v).reverse

/-- The lanes whose bit is set, in increasing order (R8). -/
def laneList (m : Mask) : List Nat := (List.range 64).filter (fun l => m.getLsbD l)

/-- The mask that names one lane. -/
def laneBit (l : Nat) : Mask := BitVec.ofNat 64 (2 ^ l)

/-- The lowest set lane, or 64. -/
def firstLane (m : Mask) : Nat := ctzNat 64 m.toNat

/-- One element of a list of 64 lanes. -/
def laneOf (v : List Word) (l : Nat) : Word := v.getD l 0

/-- All lanes zero. -/
def zeroLanes : List Word := List.replicate 64 0

/-- The lanes of `new` where the mask is set, of `old` elsewhere. -/
def mergeLanes (m : Mask) (new old : List Word) : List Word :=
  (List.range 64).map (fun l => if m.getLsbD l then laneOf new l else laneOf old l)

/-- A list of 64 lanes computed lane by lane. -/
def mapLanes (f : Nat → Word) : List Word := (List.range 64).map f

/-- ⌈a / b⌉. -/
def ceilDiv (a b : Nat) : Nat := (a + b - 1) / b

/-- Rotation of the 12 low bits (R313). -/
def rotl12 (v n : Nat) : Nat := (v * 2 ^ n + v / 2 ^ (12 - n)) % 4096

/-- The least element of a list under a key; the first of equals. -/
def leastBy {α : Type} (key : α → Nat) : List α → Option α
  | [] => none
  | a :: t =>
    match leastBy key t with
    | none => some a
    | some b => if key a ≤ key b then some a else some b

/-- Inserts into a sorted list of numbers without repeats. -/
def insertNat : List Nat → Nat → List Nat
  | [], k => [k]
  | j :: t, k => if k < j then k :: j :: t else if k = j then j :: t else j :: insertNat t k

end Sys2Proof.Machine
end

