-- ==== Sys2Proof/Machine/Sha.lean ====
section
/-! DEFINITION. The signatures of firmware images and of in-field test packages (R379, R380, R407): SHA-512 (FIPS 180-4) and RSASSA-PSS of RSA-4096
(RFC 8017). A byte string is the number it forms with its first byte most significant, beside its length. PRESUMED: log entry 121. -/

namespace Sys2Proof.Machine

/-! ## SHA-512 -/

/-- The constants of the 80 rounds. -/
def shaK : List Nat :=
  [0x428A2F98D728AE22, 0x7137449123EF65CD, 0xB5C0FBCFEC4D3B2F, 0xE9B5DBA58189DBBC, 0x3956C25BF348B538, 0x59F111F1B605D019,
   0x923F82A4AF194F9B, 0xAB1C5ED5DA6D8118, 0xD807AA98A3030242, 0x12835B0145706FBE, 0x243185BE4EE4B28C, 0x550C7DC3D5FFB4E2,
   0x72BE5D74F27B896F, 0x80DEB1FE3B1696B1, 0x9BDC06A725C71235, 0xC19BF174CF692694] ++
  [0xE49B69C19EF14AD2, 0xEFBE4786384F25E3, 0x0FC19DC68B8CD5B5, 0x240CA1CC77AC9C65, 0x2DE92C6F592B0275, 0x4A7484AA6EA6E483,
   0x5CB0A9DCBD41FBD4, 0x76F988DA831153B5, 0x983E5152EE66DFAB, 0xA831C66D2DB43210, 0xB00327C898FB213F, 0xBF597FC7BEEF0EE4,
   0xC6E00BF33DA88FC2, 0xD5A79147930AA725, 0x06CA6351E003826F, 0x142929670A0E6E70] ++
  [0x27B70A8546D22FFC, 0x2E1B21385C26C926, 0x4D2C6DFC5AC42AED, 0x53380D139D95B3DF, 0x650A73548BAF63DE, 0x766A0ABB3C77B2A8,
   0x81C2C92E47EDAEE6, 0x92722C851482353B, 0xA2BFE8A14CF10364, 0xA81A664BBC423001, 0xC24B8B70D0F89791, 0xC76C51A30654BE30,
   0xD192E819D6EF5218, 0xD69906245565A910, 0xF40E35855771202A, 0x106AA07032BBD1B8] ++
  [0x19A4C116B8D2D0C8, 0x1E376C085141AB53, 0x2748774CDF8EEB99, 0x34B0BCB5E19B48A8, 0x391C0CB3C5C95A63, 0x4ED8AA4AE3418ACB,
   0x5B9CCA4F7763E373, 0x682E6FF3D6B2B8A3, 0x748F82EE5DEFB2FC, 0x78A5636F43172F60, 0x84C87814A1F0AB72, 0x8CC702081A6439EC,
   0x90BEFFFA23631E28, 0xA4506CEBDE82BDE9, 0xBEF9A3F7B2C67915, 0xC67178F2E372532B] ++
  [0xCA273ECEEA26619C, 0xD186B8C721C0C207, 0xEADA7DD6CDE0EB1E, 0xF57D4F7FEE6ED178, 0x06F067AA72176FBA, 0x0A637DC5A2C898A6,
   0x113F9804BEF90DAE, 0x1B710B35131C471B, 0x28DB77F523047D84, 0x32CAAB7B40C72493, 0x3C9EBE0A15C9BEBC, 0x431D67C49C100D4C,
   0x4CC5D4BECB3E42B6, 0x597F299CFC657E2A, 0x5FCB6FAB3AD6FAEC, 0x6C44198C4A475817]

/-- The first value of the eight words. -/
def shaH : List Nat :=
  [0x6A09E667F3BCC908, 0xBB67AE8584CAA73B, 0x3C6EF372FE94F82B, 0xA54FF53A5F1D36F1, 0x510E527FADE682D1, 0x9B05688C2B3E6C1F,
   0x1F83D9ABFB41BD6B, 0x5BE0CD19137E2179]

/-- Rotation of a 64-bit word to the right. -/
def shaRot (x n : Nat) : Nat := (x >>> n) ||| ((x <<< (64 - n)) % 2 ^ 64)

/-- The message schedule, from a window of 16 words. -/
def shaWords : Nat → List Nat → List Nat
  | 0, _ => []
  | _, [] => []
  | n + 1, w :: rest =>
    let a := rest.getD 13 0
    let b := rest.headD 0
    let s1 := (shaRot a 19) ^^^ (shaRot a 61) ^^^ (a >>> 6)
    let s0 := (shaRot b 1) ^^^ (shaRot b 8) ^^^ (b >>> 7)
    w :: shaWords n (rest ++ [(s1 + rest.getD 8 0 + s0 + w) % 2 ^ 64])

/-- The eight working words. -/
structure Sha where
  a : Nat
  b : Nat
  c : Nat
  d : Nat
  e : Nat
  f : Nat
  g : Nat
  h : Nat
  deriving DecidableEq, Repr

/-- One round. -/
def Sha.round (x : Sha) (k w : Nat) : Sha :=
  let s1 := (shaRot x.e 14) ^^^ (shaRot x.e 18) ^^^ (shaRot x.e 41)
  let ch := (x.e &&& x.f) ^^^ ((2 ^ 64 - 1 - x.e) &&& x.g)
  let t1 := x.h + s1 + ch + k + w
  let s0 := (shaRot x.a 28) ^^^ (shaRot x.a 34) ^^^ (shaRot x.a 39)
  let maj := (x.a &&& x.b) ^^^ (x.a &&& x.c) ^^^ (x.b &&& x.c)
  { a := (t1 + s0 + maj) % 2 ^ 64, b := x.a, c := x.b, d := x.c, e := (x.d + t1) % 2 ^ 64, f := x.e, g := x.f, h := x.g }

/-- The rounds of a block. -/
def Sha.rounds (x : Sha) : List Nat → List Nat → Sha
  | k :: ks, w :: ws => (x.round k w).rounds ks ws
  | _, _ => x

/-- The value after one more block of 1,024 bits. -/
def Sha.block (x : Sha) (b : Nat) : Sha :=
  let y := x.rounds shaK (shaWords 80 ((List.range 16).map (fun i => (b >>> (64 * (15 - i))) % 2 ^ 64)))
  let add := fun (m n : Nat) => (m + n) % 2 ^ 64
  { a := add x.a y.a, b := add x.b y.b, c := add x.c y.c, d := add x.d y.d, e := add x.e y.e, f := add x.f y.f, g := add x.g y.g, h := add x.h y.h }

/-- The digest of a message of `len` bytes. PRESUMED: log entry 121. -/
def sha512 (len msg : Nat) : Nat :=
  let n := (len + 17 + 127) / 128
  let m := ((msg * 256 + 0x80) <<< (8 * (128 * n - len - 1))) + 8 * len
  let word := fun i => shaH.getD i 0
  let first : Sha := { a := word 0, b := word 1, c := word 2, d := word 3, e := word 4, f := word 5, g := word 6, h := word 7 }
  let r := (List.range n).foldl (fun (x : Sha) i => x.block ((m >>> (1024 * (n - 1 - i))) % 2 ^ 1024)) first
  [r.a, r.b, r.c, r.d, r.e, r.f, r.g, r.h].foldl (fun v w => v * 2 ^ 64 + w) 0

/-! ## RSASSA-PSS (RFC 8017) with RSA-4096, SHA-512 in both places, a salt of 64 bytes -/

/-- `n` blocks of the mask of a 64-byte seed (MGF1). PRESUMED: log entry 121. -/
def mgfBlocks (seed n : Nat) : Nat := (List.range n).foldl (fun v i => v * 2 ^ 512 + sha512 68 (seed * 2 ^ 32 + i)) 0

/-- x to the power e modulo n, by the bits of e. -/
def powMod (x n : Nat) : Nat → Nat → Nat
  | 0, _ => 1 % n
  | fuel + 1, e =>
    if e = 0 then 1 % n
    else
      let h := powMod x n fuel (e / 2)
      let q := h * h % n
      if e % 2 = 1 then q * x % n else q

/-- A public key of 4,096 bits. -/
structure PublicKey where
  modulus : Nat := 0
  exponent : Nat := 0
  deriving DecidableEq, Repr, Inhabited

/-- The hash by which the fuse store names a key: over its modulus and its exponent, of 512 and 8 bytes. PRESUMED: log entry 121. -/
def PublicKey.hash (k : PublicKey) : Nat := sha512 520 (k.modulus * 2 ^ 64 + k.exponent)

/-- A signature is good for a digest. PRESUMED: log entry 121. -/
def PublicKey.verifies (k : PublicKey) (digest sig : Nat) : Bool :=
  decide (2 ^ 4095 ≤ k.modulus) && decide (k.modulus < 2 ^ 4096) && decide (sig < k.modulus) &&
    (let em := powMod sig k.modulus 64 k.exponent
     let h := (em >>> 8) % 2 ^ 512
     let db := ((em >>> 520) ^^^ (mgfBlocks h 7 >>> 8)) % 2 ^ 3575
     decide (em % 256 = 0xBC) && decide (em < 2 ^ 4095) && decide (db / 2 ^ 512 = 1) && decide (sha512 136 (digest * 2 ^ 512 + db % 2 ^ 512) = h))

/-- A signature of the bytes of a message is good. -/
def PublicKey.signs (k : PublicKey) (sig : Nat) (msg : List Byte) : Bool :=
  k.verifies (sha512 msg.length (msg.foldl (fun v b => v * 256 + b.toNat) 0)) sig

/-- A list of bytes as a number, the first byte most significant. -/
def beNat (bs : List Byte) : Nat := bs.foldl (fun v b => v * 256 + b.toNat) 0

end Sys2Proof.Machine
end

