-- ==== Sys2Proof/Machine/Tab.lean ====
section
/-! DEFINITION. Sparse tables: association lists with strictly rising keys.  Every
indexed collection of the machine (registers, plots, frames, leases, ...) is such a
list, so that a state is plain data.  A key that is not listed stands for the default
that the reader of the table names. -/

namespace Sys2Proof.Machine

/-- A sparse table, keys strictly rising. -/
abbrev Tab (α : Type) := List (Nat × α)

/-- The entry listed under `k`. -/
def tabFind {α : Type} : Tab α → Nat → Option α
  | [], _ => none
  | (j, a) :: t, k => if j = k then some a else tabFind t k

/-- The entry under `k`, or the default `d` where none is listed. -/
def tabGet {α : Type} (d : α) (t : Tab α) (k : Nat) : α :=
  match tabFind t k with
  | some a => a
  | none => d

/-- Lists `a` under `k`, in the place the key order gives. -/
def tabPut {α : Type} : Tab α → Nat → α → Tab α
  | [], k, a => [(k, a)]
  | (j, b) :: t, k, a =>
    if k < j then (k, a) :: (j, b) :: t
    else if k = j then (k, a) :: t
    else (j, b) :: tabPut t k a

/-- Removes whatever is listed under `k`. -/
def tabDel {α : Type} : Tab α → Nat → Tab α
  | [], _ => []
  | (j, b) :: t, k => if j = k then tabDel t k else (j, b) :: tabDel t k

/-- Writes `a` under `k` in a table whose unlisted entries read `d`: an entry equal to the
default is not listed. -/
def tabSet {α : Type} [DecidableEq α] (d : α) (t : Tab α) (k : Nat) (a : α) : Tab α :=
  if a = d then tabDel t k else tabPut t k a

/-- Changes the entry under `k`, reading an unlisted one as `d`. -/
def tabMod {α : Type} (d : α) (t : Tab α) (k : Nat) (f : α → α) : Tab α :=
  tabPut t k (f (tabGet d t k))

/-- The keys strictly rise. -/
def tabSorted {α : Type} : Tab α → Bool
  | [] => true
  | [_] => true
  | (j, _) :: (k, b) :: t => decide (j < k) && tabSorted ((k, b) :: t)

end Sys2Proof.Machine
end

