-- ==== Sys2Proof/Syntax.lean ====
section
/-! DEFINITION. The steps of the QM60: one constructor of `Instr` for each row of spec/opcode_table.json. The first 219
rows are instruction words; their constructors carry the fields of the row as the bits they are (R69, R72, R79, R84). The
other 148 rows are the device's own steps and the outside world's (spec/95_what_each_step_holds.md): they have no encoding;
what such a step acts on (a plot, a group, an operation, a message) stands in the state, in `State.ev`, when it runs. -/

namespace Sys2Proof

/-- The steps of the device. -/
inductive Instr where
  /-- VADD_I32 (R128): Adds 32-bit integer elements modulo 2^32. -/
  | vaddI32 (d : BitVec 7) (a : BitVec 7) (b : BitVec 7) (x : BitVec 3)
  /-- VSUB_I32 (R128): Subtracts 32-bit integer elements modulo 2^32. -/
  | vsubI32 (d : BitVec 7) (a : BitVec 7) (b : BitVec 7) (x : BitVec 3)
  /-- VADDS_I32 (R128): Adds signed 32-bit elements with saturation. -/
  | vaddsI32 (d : BitVec 7) (a : BitVec 7) (b : BitVec 7) (x : BitVec 3)
  /-- VADDS_N32 (R128): Adds unsigned 32-bit elements with saturation. -/
  | vaddsN32 (d : BitVec 7) (a : BitVec 7) (b : BitVec 7) (x : BitVec 3)
  /-- VSUBS_I32 (R128): Subtracts signed 32-bit elements with saturation. -/
  | vsubsI32 (d : BitVec 7) (a : BitVec 7) (b : BitVec 7) (x : BitVec 3)
  /-- VSUBS_N32 (R128): Subtracts unsigned 32-bit elements with saturation. -/
  | vsubsN32 (d : BitVec 7) (a : BitVec 7) (b : BitVec 7) (x : BitVec 3)
  /-- VMUL_I32 (R128): Multiplies 32-bit elements, keeping the low 32 bits. -/
  | vmulI32 (d : BitVec 7) (a : BitVec 7) (b : BitVec 7) (x : BitVec 3)
  /-- VMULH_I32 (R128): Writes the high 32 bits of the signed product. -/
  | vmulhI32 (d : BitVec 7) (a : BitVec 7) (b : BitVec 7) (x : BitVec 3)
  /-- VMULH_N32 (R128): Writes the high 32 bits of the unsigned product. -/
  | vmulhN32 (d : BitVec 7) (a : BitVec 7) (b : BitVec 7) (x : BitVec 3)
  /-- VMAD_I32 (R128): Multiplies and adds an addend modulo 2^32. -/
  | vmadI32 (d : BitVec 7) (a : BitVec 7) (b : BitVec 7) (x : BitVec 3)
  /-- VMIN_I32 (R128): Signed 32-bit minimum. -/
  | vminI32 (d : BitVec 7) (a : BitVec 7) (b : BitVec 7) (x : BitVec 3)
  /-- VMAX_I32 (R128): Signed 32-bit maximum. -/
  | vmaxI32 (d : BitVec 7) (a : BitVec 7) (b : BitVec 7) (x : BitVec 3)
  /-- VMIN_N32 (R128): Unsigned 32-bit minimum. -/
  | vminN32 (d : BitVec 7) (a : BitVec 7) (b : BitVec 7) (x : BitVec 3)
  /-- VMAX_N32 (R128): Unsigned 32-bit maximum. -/
  | vmaxN32 (d : BitVec 7) (a : BitVec 7) (b : BitVec 7) (x : BitVec 3)
  /-- VAND (R128): Bitwise AND of elements. -/
  | vand (d : BitVec 7) (a : BitVec 7) (b : BitVec 7) (x : BitVec 3)
  /-- VOR (R128): Bitwise OR of elements. -/
  | vor (d : BitVec 7) (a : BitVec 7) (b : BitVec 7) (x : BitVec 3)
  /-- VXOR (R128): Bitwise XOR of elements. -/
  | vxor (d : BitVec 7) (a : BitVec 7) (b : BitVec 7) (x : BitVec 3)
  /-- VANDN (R128): Bitwise A AND NOT B of elements. -/
  | vandn (d : BitVec 7) (a : BitVec 7) (b : BitVec 7) (x : BitVec 3)
  /-- VSHL (R128): Shifts elements left by B[4:0]. -/
  | vshl (d : BitVec 7) (a : BitVec 7) (b : BitVec 7) (x : BitVec 3)
  /-- VSHR_N32 (R128): Logical right shift of elements. -/
  | vshrN32 (d : BitVec 7) (a : BitVec 7) (b : BitVec 7) (x : BitVec 3)
  /-- VSHR_I32 (R128): Arithmetic right shift of elements. -/
  | vshrI32 (d : BitVec 7) (a : BitVec 7) (b : BitVec 7) (x : BitVec 3)
  /-- VROL (R128): Rotates elements left by B[4:0]. -/
  | vrol (d : BitVec 7) (a : BitVec 7) (b : BitVec 7) (x : BitVec 3)
  /-- VUN_I (R129): Applies the integer unary sub-operation that B selects. -/
  | vunI (d : BitVec 7) (a : BitVec 7) (s : BitVec 7) (x : BitVec 3)
  /-- VMOV (R130): Copies elements bit for bit. -/
  | vmov (d : BitVec 7) (a : BitVec 7) (x : BitVec 3)
  /-- VLI (R130): Writes a sign-extended 7-bit immediate to every element. -/
  | vli (d : BitVec 7) (i : BitVec 7) (x : BitVec 3)
  /-- VSEL (R132): Selects A or B per lane by a mask register. -/
  | vsel (d : BitVec 7) (a : BitVec 7) (b : BitVec 7) (k : BitVec 3)
  /-- VCMP_I32 (R131): Signed compare of a block into a mask bit per lane. -/
  | vcmpI32 (k : BitVec 3) (c : BitVec 4) (a : BitVec 7) (b : BitVec 7) (x : BitVec 3)
  /-- VCMP_N32 (R131): Unsigned compare of a block into a mask bit per lane. -/
  | vcmpN32 (k : BitVec 3) (c : BitVec 4) (a : BitVec 7) (b : BitVec 7) (x : BitVec 3)
  /-- VCMP_F32 (R131): FP32 compare of a block into a mask bit per lane. -/
  | vcmpF32 (k : BitVec 3) (c : BitVec 4) (a : BitVec 7) (b : BitVec 7) (x : BitVec 3)
  /-- VCMP_F64 (R131): FP64 compare of a block into a mask bit per lane. -/
  | vcmpF64 (k : BitVec 3) (c : BitVec 4) (a : BitVec 7) (b : BitVec 7) (x : BitVec 3)
  /-- VLANE (R130): Writes each lane's number into its elements. -/
  | vlane (d : BitVec 7) (x : BitVec 3)
  /-- VADD_F32 (R133): FP32 addition rounded once. -/
  | vaddF32 (d : BitVec 7) (a : BitVec 7) (b : BitVec 7) (x : BitVec 3)
  /-- VSUB_F32 (R133): FP32 subtraction rounded once. -/
  | vsubF32 (d : BitVec 7) (a : BitVec 7) (b : BitVec 7) (x : BitVec 3)
  /-- VMUL_F32 (R133): FP32 multiplication rounded once. -/
  | vmulF32 (d : BitVec 7) (a : BitVec 7) (b : BitVec 7) (x : BitVec 3)
  /-- VFMA_F32 (R133): FP32 fused multiply-add rounded once. -/
  | vfmaF32 (d : BitVec 7) (a : BitVec 7) (b : BitVec 7) (x : BitVec 3)
  /-- VMIN_F32 (R133): FP32 minimum with NaN and signed-zero rules. -/
  | vminF32 (d : BitVec 7) (a : BitVec 7) (b : BitVec 7) (x : BitVec 3)
  /-- VMAX_F32 (R133): FP32 maximum with NaN and signed-zero rules. -/
  | vmaxF32 (d : BitVec 7) (a : BitVec 7) (b : BitVec 7) (x : BitVec 3)
  /-- VUN_F32 (R135): Applies the FP32 unary sub-operation that B selects. -/
  | vunF32 (d : BitVec 7) (a : BitVec 7) (s : BitVec 7) (x : BitVec 3)
  /-- VSFU_F32 (R136): Evaluates the special function that B selects on FP32 elements. -/
  | vsfuF32 (d : BitVec 7) (a : BitVec 7) (s : BitVec 7) (x : BitVec 3)
  /-- VDIV_F32 (R133): Correctly rounded FP32 division. -/
  | vdivF32 (d : BitVec 7) (a : BitVec 7) (b : BitVec 7) (x : BitVec 3)
  /-- VCOPYSIGN_F32 (R133): Copies the magnitude of A with the sign of B. -/
  | vcopysignF32 (d : BitVec 7) (a : BitVec 7) (b : BitVec 7) (x : BitVec 3)
  /-- VADD_F64 (R133): FP64 addition on register pairs. -/
  | vaddF64 (d : BitVec 7) (a : BitVec 7) (b : BitVec 7) (x : BitVec 3)
  /-- VMUL_F64 (R133): FP64 multiplication on register pairs. -/
  | vmulF64 (d : BitVec 7) (a : BitVec 7) (b : BitVec 7) (x : BitVec 3)
  /-- VFMA_F64 (R133): FP64 fused multiply-add rounded once. -/
  | vfmaF64 (d : BitVec 7) (a : BitVec 7) (b : BitVec 7) (x : BitVec 3)
  /-- VMIN_F64 (R133): FP64 minimum. -/
  | vminF64 (d : BitVec 7) (a : BitVec 7) (b : BitVec 7) (x : BitVec 3)
  /-- VMAX_F64 (R133): FP64 maximum. -/
  | vmaxF64 (d : BitVec 7) (a : BitVec 7) (b : BitVec 7) (x : BitVec 3)
  /-- VUN_F64 (R135): Applies the FP64 unary sub-operation that B selects. -/
  | vunF64 (d : BitVec 7) (a : BitVec 7) (s : BitVec 7) (x : BitVec 3)
  /-- VDIV_F64 (R133): Correctly rounded FP64 division. -/
  | vdivF64 (d : BitVec 7) (a : BitVec 7) (b : BitVec 7) (x : BitVec 3)
  /-- VSQRT_F64 (R133): Correctly rounded FP64 square root. -/
  | vsqrtF64 (d : BitVec 7) (a : BitVec 7) (x : BitVec 3)
  /-- VADD_BF16X2 (R138): Packed BF16 addition per half. -/
  | vaddBf16x2 (d : BitVec 7) (a : BitVec 7) (b : BitVec 7) (x : BitVec 3)
  /-- VMUL_BF16X2 (R138): Packed BF16 multiplication per half. -/
  | vmulBf16x2 (d : BitVec 7) (a : BitVec 7) (b : BitVec 7) (x : BitVec 3)
  /-- VFMA_BF16X2 (R138): Packed BF16 fused multiply-add per half. -/
  | vfmaBf16x2 (d : BitVec 7) (a : BitVec 7) (b : BitVec 7) (x : BitVec 3)
  /-- VMAX_BF16X2 (R138): Packed BF16 maximum per half. -/
  | vmaxBf16x2 (d : BitVec 7) (a : BitVec 7) (b : BitVec 7) (x : BitVec 3)
  /-- VADD_F16X2 (R138): Packed FP16 addition per half. -/
  | vaddF16x2 (d : BitVec 7) (a : BitVec 7) (b : BitVec 7) (x : BitVec 3)
  /-- VMUL_F16X2 (R138): Packed FP16 multiplication per half. -/
  | vmulF16x2 (d : BitVec 7) (a : BitVec 7) (b : BitVec 7) (x : BitVec 3)
  /-- VFMA_F16X2 (R138): Packed FP16 fused multiply-add per half. -/
  | vfmaF16x2 (d : BitVec 7) (a : BitVec 7) (b : BitVec 7) (x : BitVec 3)
  /-- VMAX_F16X2 (R138): Packed FP16 maximum per half. -/
  | vmaxF16x2 (d : BitVec 7) (a : BitVec 7) (b : BitVec 7) (x : BitVec 3)
  /-- VCVT (R139): Converts each element by the conversion code in B. -/
  | vcvt (d : BitVec 7) (a : BitVec 7) (c : BitVec 7) (x : BitVec 3)
  /-- VPK8 (R141): Packs FP32 elements into 8-bit elements of the given format. -/
  | vpk8 (d : BitVec 7) (a : BitVec 7) (c : BitVec 7) (x : BitVec 3)
  /-- VUPK8 (R141): Unpacks 8-bit elements into FP32 values. -/
  | vupk8 (d : BitVec 7) (a : BitVec 7) (c : BitVec 7) (x : BitVec 3)
  /-- VPK4 (R141): Packs FP32 elements into 4-bit elements of the given format. -/
  | vpk4 (d : BitVec 7) (a : BitVec 7) (c : BitVec 7) (x : BitVec 3)
  /-- VUPK4 (R141): Unpacks 4-bit elements into FP32 values. -/
  | vupk4 (d : BitVec 7) (a : BitVec 7) (c : BitVec 7) (x : BitVec 3)
  /-- VSHFL_IDX (R143): Reads each element from the lane that B indexes. -/
  | vshflIdx (d : BitVec 7) (a : BitVec 7) (b : BitVec 7) (x : BitVec 3)
  /-- VSHFL_XOR (R143): Reads from lane l XOR (W>>e). -/
  | vshflXor (d : BitVec 7) (a : BitVec 7) (e : BitVec 3) (x : BitVec 3)
  /-- VSHFL_UP (R143): Reads from lane l minus (W>>e). -/
  | vshflUp (d : BitVec 7) (a : BitVec 7) (e : BitVec 3) (x : BitVec 3)
  /-- VSHFL_DN (R143): Reads from lane l plus (W>>e). -/
  | vshflDn (d : BitVec 7) (a : BitVec 7) (e : BitVec 3) (x : BitVec 3)
  /-- VSWP2 (R143): Reads from lane l XOR 1. -/
  | vswp2 (d : BitVec 7) (a : BitVec 7) (x : BitVec 3)
  /-- VRED (R144): Reduces over segments of lanes by a fixed butterfly. -/
  | vred (d : BitVec 7) (a : BitVec 7) (s : BitVec 4) (p : BitVec 3) (x : BitVec 3)
  /-- VSCAN (R145): Forms an inclusive prefix within segments of lanes. -/
  | vscan (d : BitVec 7) (a : BitVec 7) (s : BitVec 4) (p : BitVec 3) (x : BitVec 3)
  /-- VDOT4_I8 (R146): Adds the signed 8-bit dot product of four bytes to the addend. -/
  | vdot4I8 (d : BitVec 7) (a : BitVec 7) (b : BitVec 7) (x : BitVec 3)
  /-- VDOT4_N8 (R146): Adds the unsigned 8-bit dot product of four bytes to the addend. -/
  | vdot4N8 (d : BitVec 7) (a : BitVec 7) (b : BitVec 7) (x : BitVec 3)
  /-- VDOT8_I4 (R146): Adds the signed 4-bit dot product of eight nibbles to the addend. -/
  | vdot8I4 (d : BitVec 7) (a : BitVec 7) (b : BitVec 7) (x : BitVec 3)
  /-- VDOT4_E4M3 (R147): Adds the exact E4M3 dot product to an FP32 addend, rounded once. -/
  | vdot4E4m3 (d : BitVec 7) (a : BitVec 7) (b : BitVec 7) (x : BitVec 3)
  /-- VDSQ4_E4M3 (R147): Adds the exact E4M3 squared distance to an FP32 addend. -/
  | vdsq4E4m3 (d : BitVec 7) (a : BitVec 7) (b : BitVec 7) (x : BitVec 3)
  /-- VDSQ2_BF16 (R147): Adds the exact BF16 squared distance to an FP32 addend. -/
  | vdsq2Bf16 (d : BitVec 7) (a : BitVec 7) (b : BitVec 7) (x : BitVec 3)
  /-- VHAMM (R146): Adds the popcount of A XOR B to the addend. -/
  | vhamm (d : BitVec 7) (a : BitVec 7) (b : BitVec 7) (x : BitVec 3)
  /-- VSIEVE (R148): Offers one key and index pair per included lane to the plot's Sieve. -/
  | vsieve (a : BitVec 7) (b : BitVec 7)
  /-- VLD_B8 (R191): Loads zero-extended bytes into a block. -/
  | vldB8 (d : BitVec 7) (a : BitVec 7) (f : BitVec 1) (n : BitVec 1) (s : BitVec 5) (x : BitVec 3)
  /-- VLD_I8 (R191): Loads sign-extended bytes into a block. -/
  | vldI8 (d : BitVec 7) (a : BitVec 7) (f : BitVec 1) (n : BitVec 1) (s : BitVec 5) (x : BitVec 3)
  /-- VLD_B16 (R191): Loads zero-extended halves into a block. -/
  | vldB16 (d : BitVec 7) (a : BitVec 7) (f : BitVec 1) (n : BitVec 1) (s : BitVec 5) (x : BitVec 3)
  /-- VLD_I16 (R191): Loads sign-extended halves into a block. -/
  | vldI16 (d : BitVec 7) (a : BitVec 7) (f : BitVec 1) (n : BitVec 1) (s : BitVec 5) (x : BitVec 3)
  /-- VLD_B32 (R191): Loads 32-bit words into a block. -/
  | vldB32 (d : BitVec 7) (a : BitVec 7) (f : BitVec 1) (n : BitVec 1) (s : BitVec 5) (x : BitVec 3)
  /-- VLD_B64 (R191): Loads 64-bit values into register pairs. -/
  | vldB64 (d : BitVec 7) (a : BitVec 7) (f : BitVec 1) (n : BitVec 1) (s : BitVec 5) (x : BitVec 3)
  /-- VLD_B128 (R191): Loads 128-bit values into register quadruples. -/
  | vldB128 (d : BitVec 7) (a : BitVec 7) (f : BitVec 1) (n : BitVec 1) (s : BitVec 5) (x : BitVec 3)
  /-- VLDF (R197): Loads granule rows in fragment layout and sets descriptor shadows. -/
  | vldf (d : BitVec 7) (a : BitVec 7) (f : BitVec 1) (n : BitVec 1) (s : BitVec 5) (x : BitVec 3)
  /-- VST_B8 (R192): Stores bytes from a block. -/
  | vstB8 (d : BitVec 7) (a : BitVec 7) (f : BitVec 1) (n : BitVec 1) (s : BitVec 5) (x : BitVec 3)
  /-- VST_B16 (R192): Stores halves from a block. -/
  | vstB16 (d : BitVec 7) (a : BitVec 7) (f : BitVec 1) (n : BitVec 1) (s : BitVec 5) (x : BitVec 3)
  /-- VST_B32 (R192): Stores 32-bit words from a block. -/
  | vstB32 (d : BitVec 7) (a : BitVec 7) (f : BitVec 1) (n : BitVec 1) (s : BitVec 5) (x : BitVec 3)
  /-- VST_B64 (R192): Stores 64-bit values from register pairs. -/
  | vstB64 (d : BitVec 7) (a : BitVec 7) (f : BitVec 1) (n : BitVec 1) (s : BitVec 5) (x : BitVec 3)
  /-- VST_B128 (R192): Stores 128-bit values from register quadruples. -/
  | vstB128 (d : BitVec 7) (a : BitVec 7) (f : BitVec 1) (n : BitVec 1) (s : BitVec 5) (x : BitVec 3)
  /-- VSTF (R198): Stores fragment data together with block descriptors. -/
  | vstf (d : BitVec 7) (a : BitVec 7) (f : BitVec 1) (n : BitVec 1) (s : BitVec 5) (x : BitVec 3)
  /-- VLDT (R218): Loads 32-bit elements from a READY shared tile. -/
  | vldt (d : BitVec 7) (a : BitVec 7) (f : BitVec 1) (t : BitVec 5) (x : BitVec 3)
  /-- VSTT (R218): Stores 32-bit elements into a READY shared tile. -/
  | vstt (d : BitVec 7) (a : BitVec 7) (f : BitVec 1) (t : BitVec 5) (x : BitVec 3)
  /-- VATOM_ADD_N32 (R203): Atomic 32-bit integer add per included lane. -/
  | vatomAddN32 (d : BitVec 7) (a : BitVec 7) (f : BitVec 1) (n : BitVec 1) (s : BitVec 5) (c : BitVec 2) (r : BitVec 1)
  /-- VATOM_ADD_F32 (R203): Atomic FP32 add per included lane. -/
  | vatomAddF32 (d : BitVec 7) (a : BitVec 7) (f : BitVec 1) (n : BitVec 1) (s : BitVec 5) (c : BitVec 2) (r : BitVec 1)
  /-- VATOM_MIN_I32 (R203): Atomic signed minimum per lane. -/
  | vatomMinI32 (d : BitVec 7) (a : BitVec 7) (f : BitVec 1) (n : BitVec 1) (s : BitVec 5) (c : BitVec 2) (r : BitVec 1)
  /-- VATOM_MAX_I32 (R203): Atomic signed maximum per lane. -/
  | vatomMaxI32 (d : BitVec 7) (a : BitVec 7) (f : BitVec 1) (n : BitVec 1) (s : BitVec 5) (c : BitVec 2) (r : BitVec 1)
  /-- VATOM_MIN_N32 (R203): Atomic unsigned minimum per lane. -/
  | vatomMinN32 (d : BitVec 7) (a : BitVec 7) (f : BitVec 1) (n : BitVec 1) (s : BitVec 5) (c : BitVec 2) (r : BitVec 1)
  /-- VATOM_MAX_N32 (R203): Atomic unsigned maximum per lane. -/
  | vatomMaxN32 (d : BitVec 7) (a : BitVec 7) (f : BitVec 1) (n : BitVec 1) (s : BitVec 5) (c : BitVec 2) (r : BitVec 1)
  /-- VATOM_AND (R203): Atomic bitwise AND per lane. -/
  | vatomAnd (d : BitVec 7) (a : BitVec 7) (f : BitVec 1) (n : BitVec 1) (s : BitVec 5) (c : BitVec 2) (r : BitVec 1)
  /-- VATOM_OR (R203): Atomic bitwise OR per lane. -/
  | vatomOr (d : BitVec 7) (a : BitVec 7) (f : BitVec 1) (n : BitVec 1) (s : BitVec 5) (c : BitVec 2) (r : BitVec 1)
  /-- VATOM_XOR (R203): Atomic bitwise XOR per lane. -/
  | vatomXor (d : BitVec 7) (a : BitVec 7) (f : BitVec 1) (n : BitVec 1) (s : BitVec 5) (c : BitVec 2) (r : BitVec 1)
  /-- VATOM_XCHG (R203): Atomic exchange per lane. -/
  | vatomXchg (d : BitVec 7) (a : BitVec 7) (f : BitVec 1) (n : BitVec 1) (s : BitVec 5) (c : BitVec 2) (r : BitVec 1)
  /-- VATOM_CAS (R203): Atomic compare-and-swap per lane against the prefix operand. -/
  | vatomCas (d : BitVec 7) (a : BitVec 7) (f : BitVec 1) (n : BitVec 1) (s : BitVec 5) (c : BitVec 2) (r : BitVec 1)
  /-- VATOM_ADD_N64 (R203): Atomic 64-bit integer add per lane. -/
  | vatomAddN64 (d : BitVec 7) (a : BitVec 7) (f : BitVec 1) (n : BitVec 1) (s : BitVec 5) (c : BitVec 2) (r : BitVec 1)
  /-- XPFX (R77): Prefix that applies mask, zeroing, rounding, saturation and a fourth operand to the next lane word. -/
  | xpfx (k : BitVec 3) (z : BitVec 1) (r : BitVec 3) (s : BitVec 1) (c : BitVec 7) (v : BitVec 1)
  /-- SADD (R155): 64-bit add. -/
  | sadd (d : BitVec 6) (a : BitVec 6) (b : BitVec 6)
  /-- SSUB (R155): 64-bit subtract. -/
  | ssub (d : BitVec 6) (a : BitVec 6) (b : BitVec 6)
  /-- SMUL (R155): 64-bit multiply, low half. -/
  | smul (d : BitVec 6) (a : BitVec 6) (b : BitVec 6)
  /-- SMULH_I64 (R155): High 64 bits of the signed product. -/
  | smulhI64 (d : BitVec 6) (a : BitVec 6) (b : BitVec 6)
  /-- SMULH_N64 (R155): High 64 bits of the unsigned product. -/
  | smulhN64 (d : BitVec 6) (a : BitVec 6) (b : BitVec 6)
  /-- SDIV (R155): Signed division truncated towards zero. -/
  | sdiv (d : BitVec 6) (a : BitVec 6) (b : BitVec 6)
  /-- SREM (R155): Signed remainder. -/
  | srem (d : BitVec 6) (a : BitVec 6) (b : BitVec 6)
  /-- SAND (R155): 64-bit AND. -/
  | sand (d : BitVec 6) (a : BitVec 6) (b : BitVec 6)
  /-- SOR (R155): 64-bit OR. -/
  | sor (d : BitVec 6) (a : BitVec 6) (b : BitVec 6)
  /-- SXOR (R155): 64-bit XOR. -/
  | sxor (d : BitVec 6) (a : BitVec 6) (b : BitVec 6)
  /-- SSHL (R155): 64-bit left shift by B[5:0]. -/
  | sshl (d : BitVec 6) (a : BitVec 6) (b : BitVec 6)
  /-- SSHR (R155): 64-bit logical right shift by B[5:0]. -/
  | sshr (d : BitVec 6) (a : BitVec 6) (b : BitVec 6)
  /-- SMIN (R155): Signed 64-bit minimum. -/
  | smin (d : BitVec 6) (a : BitVec 6) (b : BitVec 6)
  /-- SMAX (R155): Signed 64-bit maximum. -/
  | smax (d : BitVec 6) (a : BitVec 6) (b : BitVec 6)
  /-- SUN (R156): Applies the 64-bit unary operation that F selects. -/
  | sun (d : BitVec 6) (a : BitVec 6) (f : BitVec 6)
  /-- SADDI (R157): Adds a sign-extended 12-bit immediate. -/
  | saddi (d : BitVec 6) (a : BitVec 6) (i : BitVec 12)
  /-- SANDI (R157): ANDs a sign-extended 12-bit immediate. -/
  | sandi (d : BitVec 6) (a : BitVec 6) (i : BitVec 12)
  /-- SORI (R157): ORs a sign-extended 12-bit immediate. -/
  | sori (d : BitVec 6) (a : BitVec 6) (i : BitVec 12)
  /-- SSHLI (R157): Left shift by an immediate count. -/
  | sshli (d : BitVec 6) (a : BitVec 6) (i : BitVec 6)
  /-- SSHRI (R157): Logical right shift by an immediate count. -/
  | sshri (d : BitVec 6) (a : BitVec 6) (i : BitVec 6)
  /-- SCMP (R158): Writes 1 or 0 by a signed or unsigned compare. -/
  | scmp (d : BitVec 6) (a : BitVec 6) (b : BitVec 6) (u : BitVec 1) (c : BitVec 4)
  /-- SLI (R159): Writes a sign-extended 18-bit immediate. -/
  | sli (d : BitVec 6) (i : BitVec 18)
  /-- SLIT (R159): Writes a sign-extended 32-bit literal word. -/
  | slit (d : BitVec 6) (lit : Word)
  /-- SLIT64 (R159): Writes a 64-bit value from two literal words. -/
  | slit64 (d : BitVec 6) (lo hi : Word)
  /-- SEXT (R160): Extracts a zero-extended bit field. -/
  | sext (d : BitVec 6) (a : BitVec 6) (p : BitVec 6) (l : BitVec 6)
  /-- SEXTS (R160): Extracts a sign-extended bit field. -/
  | sexts (d : BitVec 6) (a : BitVec 6) (p : BitVec 6) (l : BitVec 6)
  /-- SINS (R160): Inserts a bit field into D. -/
  | sins (d : BitVec 6) (a : BitVec 6) (p : BitVec 6) (l : BitVec 6)
  /-- SSELNZ (R161): Selects A or B, with tag and base, by a tested register. -/
  | sselnz (d : BitVec 6) (a : BitVec 6) (b : BitVec 6) (f : BitVec 6)
  /-- RADD (R162): Adds an offset to a tagged reference. -/
  | radd (d : BitVec 6) (a : BitVec 6) (b : BitVec 6)
  /-- RADDI (R162): Adds an immediate offset to a tagged reference. -/
  | raddi (d : BitVec 6) (a : BitVec 6) (i : BitVec 12)
  /-- RTAG (R162): Writes the tag bit of a register. -/
  | rtag (d : BitVec 6) (a : BitVec 6)
  /-- RBASE (R162): Writes a reference to the base object of a tagged reference. -/
  | rbase (d : BitVec 6) (a : BitVec 6)
  /-- OINIT (R164): Zeroes a range of the arena and writes a private object header. -/
  | oinit (d : BitVec 6) (a : BitVec 6) (b : BitVec 6)
  /-- OFREE (R165): Frees the team's private object and clears its tags. -/
  | ofree (a : BitVec 6)
  /-- OSTAT (R166): Reads an object header by a device-scope acquire load. -/
  | ostat (d : BitVec 6) (a : BitVec 6)
  /-- ORESET (R165): Zeroes every word of the team's private object after the header. -/
  | oreset (a : BitVec 6)
  /-- SBAL (R167): Writes all W bits of a mask into an s register. -/
  | sbal (d : BitVec 6) (k : BitVec 3)
  /-- KSET (R167): Sets a mask from an s register. -/
  | kset (k : BitVec 3) (a : BitVec 6)
  /-- KOP (R167): Combines masks by the operation that F selects. -/
  | kop (d : BitVec 3) (a : BitVec 3) (b : BitVec 3) (p : BitVec 3)
  /-- SFIRST (R167): Writes the lowest lane set in a mask, or W. -/
  | sfirst (d : BitVec 6) (k : BitVec 3)
  /-- BR (R169): Transfers the bundle unconditionally. -/
  | br (o : BitVec 24)
  /-- BZ (R169): Transfers the bundle when an s register is zero. -/
  | bz (t : BitVec 6) (o : BitVec 18)
  /-- BNZ (R169): Transfers the bundle when an s register is non-zero. -/
  | bnz (t : BitVec 6) (o : BitVec 18)
  /-- BKANY (R169): Transfers the bundle when any bundle lane of a mask is set. -/
  | bkany (k : BitVec 3) (o : BitVec 18)
  /-- BKNONE (R169): Transfers the bundle when no bundle lane of a mask is set. -/
  | bknone (k : BitVec 3) (o : BitVec 18)
  /-- BL (R55): Splits the bundle between the target and the next clause by a mask. -/
  | bl (k : BitVec 3) (o : BitVec 18)
  /-- CALL (R170): Writes the return header address to s62 and transfers. -/
  | call (o : BitVec 24)
  /-- CALLX (R170): Writes the link to sD and transfers to sA. -/
  | callx (d : BitVec 6) (a : BitVec 6)
  /-- JMPX (R170): Transfers to the address in sA. -/
  | jmpx (a : BitVec 6)
  /-- EXIT (R171): Retires the lanes of the issuing bundle. -/
  | exit
  /-- WFL (R172): Holds until every named flag reads zero. -/
  | wfl (m : BitVec 12)
  /-- NOP (R171): Has no effect. -/
  | nop
  /-- BAR (R174): Arrives at a barrier and waits for the phase. -/
  | bar (s : BitVec 2) (n : BitVec 4)
  /-- BARR (R174): Arrives at a barrier. -/
  | barr (s : BitVec 2) (n : BitVec 4)
  /-- BARW (R174): Waits for the phase of the group's last arrival. -/
  | barw (s : BitVec 2) (n : BitVec 4)
  /-- MWAIT (R176): Holds until a watched word differs from sD. -/
  | mwait (d : BitVec 6) (a : BitVec 6) (i : BitVec 12)
  /-- FENCE (R177): Orders the group's memory instructions at a scope. -/
  | fence (k : BitVec 2) (s : BitVec 3)
  /-- FENCENG (R231): Holds until the group's earlier copies and memory drains complete. -/
  | fenceng
  /-- RACQ (R60): Maps further register rows, waiting for them if needed. -/
  | racq (n : BitVec 3)
  /-- RACQ_TRY (R60): Maps further rows if free and reports success. -/
  | racqTry (d : BitVec 6) (n : BitVec 3)
  /-- RREL (R61): Releases the group's highest register rows. -/
  | rrel (n : BitVec 3)
  /-- SLD (R207): Uniform load of 1 to 8 bytes. -/
  | sld (d : BitVec 6) (b : BitVec 6) (i : BitVec 6) (w : BitVec 2) (s : BitVec 1) (f : BitVec 1) (c : BitVec 2)
  /-- SST (R207): Uniform store of 1 to 8 bytes. -/
  | sst (d : BitVec 6) (b : BitVec 6) (i : BitVec 6) (w : BitVec 2) (f : BitVec 1) (c : BitVec 2)
  /-- SATOM (R205): One 64-bit atomic for the bundle. -/
  | satom (d : BitVec 6) (a : BitVec 6) (b : BitVec 6) (s : BitVec 2) (p : BitVec 3) (f : BitVec 1)
  /-- RLD (R208): Loads a reference, tagging it where it names a live object header. -/
  | rld (d : BitVec 6) (b : BitVec 6) (i : BitVec 6) (f : BitVec 1) (c : BitVec 2)
  /-- RST (R209): Stores a reference with escape checks. -/
  | rst (d : BitVec 6) (b : BitVec 6) (i : BitVec 6) (f : BitVec 1) (c : BitVec 2)
  /-- PUB (R210): Publishes an object graph and stores its reference. -/
  | pub (a : BitVec 6) (b : BitVec 6) (f : BitVec 1) (z : BitVec 1) (s : BitVec 2)
  /-- PFH (R220): Hands a hint block to the PGC for page prefetch. -/
  | pfh (a : BitVec 6) (f : BitVec 1)
  /-- ADV_NEED (R222): Asks the PGC to queue fills for a range. -/
  | advNeed (a : BitVec 6) (b : BitVec 6)
  /-- ADV_COLD (R222): Sets the access counters of a range's resident frames to zero. -/
  | advCold (a : BitVec 6) (b : BitVec 6)
  /-- ADV_WARM (R222): Sets the access counters of a range's resident frames to 0xFFFF. -/
  | advWarm (a : BitVec 6) (b : BitVec 6)
  /-- TSET (R215): Defines a shared tile owned by the team. -/
  | tset (t : BitVec 6) (a : BitVec 6) (b : BitVec 6) (r : BitVec 1)
  /-- TSTAT (R216): Reads a shared tile's ownership and state. -/
  | tstat (d : BitVec 6) (t : BitVec 6)
  /-- TDROP (R217): Moves a READY tile to EMPTY. -/
  | tdrop (t : BitVec 6)
  /-- TDROP_FREE (R217): Makes a tile entry unowned. -/
  | tdropFree (t : BitVec 6)
  /-- CPY (R223): Submits a copy command to the least-loaded engine of the die. -/
  | cpy (d : BitVec 6) (a : BitVec 6) (f : BitVec 1)
  /-- CPY_CE (R223): Submits a copy command to a named engine. -/
  | cpyCe (d : BitVec 6) (a : BitVec 6) (b : BitVec 6) (f : BitVec 1)
  /-- CPYQ (R224): Submits a chain of command blocks to one engine. -/
  | cpyq (d : BitVec 6) (a : BitVec 6) (b : BitVec 6) (f : BitVec 1)
  /-- MXP (R238): Issues one matrix pass into an accumulator slot. -/
  | mxp (a : BitVec 6) (f : BitVec 1)
  /-- MXD (R248): Drains a region of a slot to memory or registers. -/
  | mxd (d : BitVec 6) (a : BitVec 6) (f : BitVec 1)
  /-- MXZ_DEFINE (R246): Defines an accumulator slot of a given shape. -/
  | mxzDefine (d : BitVec 6) (a : BitVec 6) (s : BitVec 3) (f : BitVec 1)
  /-- MXZ_CLR (R246): Clears a slot's entries, status and mask. -/
  | mxzClr (d : BitVec 6) (s : BitVec 3) (f : BitVec 1)
  /-- MXZ_FREE (R246): Frees a slot and its units. -/
  | mxzFree (d : BitVec 6) (s : BitVec 3) (f : BitVec 1)
  /-- MXQ (R247): Reads a slot's status word. -/
  | mxq (d : BitVec 6) (s : BitVec 3) (f : BitVec 1)
  /-- SVINIT (R255): Claims and configures the plot's Sieve. -/
  | svinit (d : BitVec 6) (a : BitVec 6) (t : BitVec 1) (m : BitVec 1)
  /-- SVINIT_FREE (R255): Releases the Sieve held by the team. -/
  | svinitFree (d : BitVec 6)
  /-- SVGET (R256): Snapshots the retained Sieve pairs and stores them best first. -/
  | svget (d : BitVec 6) (a : BitVec 6) (c : BitVec 1) (f : BitVec 1)
  /-- LAUNCH (R34): Reads a launch block, checks it and enqueues the launch. -/
  | launch (d : BitVec 6) (a : BitVec 6) (f : BitVec 1) (q : BitVec 4)
  /-- LWAIT (R178): Reads or awaits the completion word of a launch. -/
  | lwait (d : BitVec 6) (a : BitVec 6) (t : BitVec 1)
  /-- HSIG (R179): Raises an MSI-X vector after earlier fences complete. -/
  | hsig (n : BitVec 6)
  /-- SRD (R180): Reads a special register. -/
  | srd (d : BitVec 6) (r : BitVec 12)
  /-- SWR (R180): Writes a special register. -/
  | swr (a : BitVec 6) (r : BitVec 12)
  /-- TRAP (R181): Raises SWTRAP with a code. -/
  | trap (c : BitVec 18)
  /-- BRK (R181): Raises BREAK, or halts under a debugger. -/
  | brk (c : BitVec 18)
  /-- TRES_REPLAY (R182): Resolves a trapped group by replay. -/
  | tresReplay (d : BitVec 6) (a : BitVec 6)
  /-- TRES_SKIP (R182): Resolves a trapped group by skipping the word or access. -/
  | tresSkip (d : BitVec 6) (a : BitVec 6)
  /-- TRES_KILL (R182): Ends the trapped group's team. -/
  | tresKill (d : BitVec 6) (a : BitVec 6)
  /-- ICINV (R183): Invalidates instruction-cache lines of a range on every plot. -/
  | icinv (a : BitVec 6) (b : BitVec 6)
  /-- ICINV_ALL (R183): Invalidates every instruction-cache line of the context. -/
  | icinvAll
  /-- MARK (R184): Emits a mark trace record. -/
  | mark (a : BitVec 6) (t : BitVec 6)
  /-- TLBI_RANGE (R186): Drops translations of a context that overlap a range. -/
  | tlbiRange (c : BitVec 6) (a : BitVec 6) (b : BitVec 6)
  /-- TLBI_CONTEXT (R186): Drops every translation of a context. -/
  | tlbiContext (c : BitVec 6) (a : BitVec 6) (b : BitVec 6)
  /-- TLBI_DEVICE (R186): Drops every translation of every context. -/
  | tlbiDevice (c : BitVec 6) (a : BitVec 6) (b : BitVec 6)
  /-- LEASE_INSTALL (R320): Installs a lease record into a lease-table entry. -/
  | leaseInstall (d : BitVec 6) (a : BitVec 6) (b : BitVec 6)
  /-- LEASE_RENEW (R329): Sends RENEW for a lease and waits for the answer. -/
  | leaseRenew (d : BitVec 6) (a : BitVec 6) (b : BitVec 6)
  /-- LEASE_RETURN (R329): Sends RETURN for a lease and waits for the answer. -/
  | leaseReturn (d : BitVec 6) (a : BitVec 6)
  /-- LEASE_READ (R186): Stores a lease-table entry's record to memory. -/
  | leaseRead (d : BitVec 6) (a : BitVec 6) (b : BitVec 6)
  /-- PMOVE (R338): Moves or copies one 64 KiB page and rewrites its PTE. -/
  | pmove (d : BitVec 6) (a : BitVec 6)
  /-- BIAS (R332): Takes ownership of HBM lines from the host and sets device bias. -/
  | bias (d : BitVec 6) (a : BitVec 6) (b : BitVec 6)
  /-- PSPLIT (R310): Splits a 2 MiB leaf into a table of 64 KiB entries. -/
  | psplit (d : BitVec 6) (a : BitVec 6) (b : BitVec 6)
  /-- ACNT_READ (R186): Reads a frame's access counter. -/
  | acntRead (d : BitVec 6) (a : BitVec 6)
  /-- ACNT_READ_CLEAR (R186): Reads and clears a frame's access counter. -/
  | acntReadClear (d : BitVec 6) (a : BitVec 6)
  /-- ACNT_WRITE (R186): Writes a frame's access counter. -/
  | acntWrite (d : BitVec 6) (a : BitVec 6) (b : BitVec 6)
  /-- LANE_RESULT_WRITE (R49): A fixed-latency register-operation's result is written and its FPSTAT bits ORed in. Operands: (g q : Nat) -/
  | laneResultWrite
  /-- RACQ_SERVE (R60): A waiting blocking racq receives its rows, oldest first. Operands: (plot : Nat) -/
  | racqServe
  /-- LAUNCH_BLOCK_CHECK (R34): A launch block read returns; the block is checked, serialised, enqueued and sD written. Operands: (g op : Nat) -/
  | launchBlockCheck
  /-- PLACE_CLUSTER (R40): The placer places the next cluster of a ready launch when a rectangle can take it. -/
  | placeCluster
  /-- COMMIT_POINT (R288): A commit point occurs once the group's earlier memory instructions are performed, fixing the entries it covers. Operands: (tm : Nat) -/
  | commitPoint
  /-- COMMIT_ENTRY_DRAIN (R289): A commit-buffer entry is written into the L1 once its grains are held in M. Operands: (tm blk : Nat) -/
  | commitEntryDrain
  /-- PAIR_COMMIT_COMPARE (R291): Both twins have reached a commit point and their signatures are compared. Operands: (tm : Nat) -/
  | pairCommitCompare
  /-- PAIR_FORWARD (R368): The primary's result of a forwarded access arrives at the waiting twin. Operands: (g : Nat) -/
  | pairForward
  /-- PAIRED_WORD_MATCH (R370): The other twin issues the matching cpy, launch, hsig or pub, which the primary then performs once. Operands: (tm : Nat) -/
  | pairedWordMatch
  /-- MWAIT_WAKE (R176): A wake event re-reads the watched word of a holding mwait. Operands: (g : Nat) -/
  | mwaitWake
  /-- MWAIT_TIMEOUT (R176): 65,536 or 4,096 cycles pass since the last read and the mwait reads again. Operands: (g : Nat) -/
  | mwaitTimeout
  /-- OBJECT_FORM_COMPLETE (R164): The hold of oinit, ofree or oreset ends after its blocks are written. Operands: (g : Nat) -/
  | objectFormComplete
  /-- MEMORY_ACCESS_PERFORM (R200): An access is checked and performed at performance, or logged on failure. Operands: (g op : Nat) -/
  | memoryAccessPerform
  /-- LOAD_COMPLETE (R193): Every destination element of a load is written and its flag decremented. Operands: (g op : Nat) -/
  | loadComplete
  /-- STORE_COMPLETE (R193): Every element of a store is placed and its flag decremented. Operands: (g op : Nat) -/
  | storeComplete
  /-- ATOMIC_STEP (R203): An atomic operation is performed indivisibly at its place of performance. Operands: (g op : Nat) -/
  | atomicStep
  /-- ATOMIC_COMPLETE (R203): An atomic's steps are performed and old values returned. Operands: (g op : Nat) -/
  | atomicComplete
  /-- HANDLER_TEAM_PLACE (R349): The placer places a handler team after its record write completes. Operands: (c : Nat) -/
  | handlerTeamPlace
  /-- OPERAND_LOG_REPLAY (R345): A REPLAY entry is performed whole once older entries are FREE. Operands: (g : Nat) -/
  | operandLogReplay
  /-- GLEANER_WALK (R211): A granted walker traces and then publishes the objects of a pub. Operands: (die : Nat) -/
  | gleanerWalk
  /-- PFH_HANDOFF (R220): A hint block read completes and the PGC accepts or rejects it, queuing fills. Operands: (g op : Nat) -/
  | pfhHandoff
  /-- SIEVE_PAIR_ENTRY (R148): Offered pairs enter the Sieve 8 cycles after their operation enters the datapath. Operands: (plot : Nat) -/
  | sievePairEntry
  /-- SVGET_SNAPSHOT (R256): svget snapshots the retained set once earlier vsieve pairs have entered. Operands: (g op : Nat) -/
  | svgetSnapshot
  /-- CPY_REGISTER (R229): A read command block registers its ranges in the range-lock table once entries fit. Operands: (plot : Nat) -/
  | cpyRegister
  /-- CE_DISPATCH (R230): A registered command whose named tiles reach the needed state goes to its engine queue. Operands: (plot : Nat) -/
  | ceDispatch
  /-- CE_COPY (R226): An engine runs a COPY command. Operands: (ce : Nat) -/
  | ceCopy
  /-- CE_FILL (R226): An engine runs a FILL command. Operands: (ce : Nat) -/
  | ceFill
  /-- CE_CONVERT (R226): An engine runs a CONVERT command. Operands: (ce : Nat) -/
  | ceConvert
  /-- CE_GATHER (R226): An engine runs a GATHER command. Operands: (ce : Nat) -/
  | ceGather
  /-- CE_SCATTER (R226): An engine runs a SCATTER command. Operands: (ce : Nat) -/
  | ceScatter
  /-- CE_REDUCE (R226): An engine runs a REDUCE command. Operands: (ce : Nat) -/
  | ceReduce
  /-- CE_SEGMENT (R391): An engine serves one 4 KiB segment of a command by weighted round-robin. Operands: (ce : Nat) -/
  | ceSegment
  /-- CE_COMMAND_COMPLETE (R230): A command completes: writes visible, signal word, sD, flag. Operands: (ce : Nat) -/
  | ceCommandComplete
  /-- PEER_WRITE_COMPLETION (R394): A peer acknowledges a write and returns its checksum value. Operands: (ce : Nat) (sum : Word) (cmd : Nat) (malformed : Bool) -/
  | peerWriteCompletion
  /-- SPLIT_BROADCAST_ARRIVAL (R245): An A-source broadcast arrives and a split part forms and is compared. Operands: (quad : Nat) -/
  | splitBroadcastArrival
  /-- MXE_GRANT (R236): The quad grants an eligible pass or drain. Operands: (quad : Nat) -/
  | mxeGrant
  /-- MXE_PASS_COMPLETE (R237): A pass completes and its slot returns to READY. Operands: (quad : Nat) -/
  | mxePassComplete
  /-- MXD_BLOCK_CHECK (R250): A drain block read returns; the drain is checked and registers its locks. Operands: (g op : Nat) -/
  | mxdBlockCheck
  /-- MXD_ROW_WRITE (R251): A granted drain writes one row of its region. Operands: (quad : Nat) -/
  | mxdRowWrite
  /-- MXD_DRAIN_COMPLETE (R252): A drain completes: writes visible, locks released, sD, FPSTAT, flag. Operands: (quad : Nat) -/
  | mxdDrainComplete
  /-- MXZ_COMPLETE (R246): mxz completes; a define takes effect and sD and the flag are written. Operands: (g op : Nat) -/
  | mxzComplete
  /-- MXQ_RESULT (R247): mxq writes the slot status 16 cycles after issue. Operands: (g op : Nat) -/
  | mxqResult
  /-- DIRECTORY_READ (R265): The home slice serves a read request for a grain. Operands: (plot dpa : Nat) -/
  | directoryRead
  /-- DIRECTORY_WRITE (R265): The home slice serves a write ownership request for a grain. Operands: (plot dpa : Nat) -/
  | directoryWrite
  /-- OWNER_FORWARD (R265): A forwarded request reaches the owning L1, which supplies data and downgrades. Operands: (plot dpa : Nat) -/
  | ownerForward
  /-- QUAD_INVALIDATE (R265): An invalidation reaches a quad, whose L1s drop the grain and acknowledge once. Operands: (quad dpa : Nat) -/
  | quadInvalidate
  /-- INVALIDATION_ACK (R265): An acknowledgement reaches the home slice; the write request is performed after the last. Operands: (quad dpa : Nat) -/
  | invalidationAck
  /-- L1_WRITEBACK (R265): An evicted M or O grain is written back to its home slice. Operands: (plot dpa : Nat) -/
  | l1Writeback
  /-- L2_FILL (R261): Data from HBM or pool fills an L2 line after a miss. Operands: (dpa : Nat) -/
  | l2Fill
  /-- L2SCR_WRITE (R271): A write changing L2SCR.REQ sets BUSY and starts scratch conversion. Operands: (die : Nat) (v : DWord) -/
  | l2scrWrite
  /-- L2SCR_CONVERT_DONE (R271): Every slice has converted; CUR takes REQ and BUSY clears. Operands: (die : Nat) -/
  | l2scrConvertDone
  /-- DEAD_FILLED (R275): A DEAD frame's fill ends, held accesses proceed and DEAD_FILLED is enqueued. Operands: (frame : Nat) -/
  | deadFilled
  /-- SCRUB_READ (R276): The scrubber reads and checks the next block of its stack. Operands: (stack : Nat) -/
  | scrubRead
  /-- SCRUB_WRITEBACK (R276): A corrected block write-back reaches the controller and is kept only if its version is current. Operands: (stack : Nat) -/
  | scrubWriteback
  /-- PAGE_WALK (R305): A TLB miss walks the page tables, setting A and D or raising a PAGE record. Operands: (plot ctx : Nat) (va : DWord) (acc : AccKind) -/
  | pageWalk
  /-- TLBI_REQUEST (R313): A tlbi reaches a plot, which consults its Bloom filter or searches. Operands: (plot : Nat) -/
  | tlbiRequest
  /-- TLBI_ACK (R186): A plot's tlbi acknowledgement reaches the issuer; the last completes the tlbi. Operands: (plot : Nat) -/
  | tlbiAck
  /-- ICINV_REQUEST (R183): An icinv reaches a plot, which invalidates and acknowledges after 40 cycles. Operands: (plot g : Nat) -/
  | icinvRequest
  /-- ICINV_ACK (R183): An icinv acknowledgement arrives; the last ends the hold. Operands: (plot g : Nat) -/
  | icinvAck
  /-- BLOOM_REBUILD (R314): Every 2^20 ticks or after a full flush the plot rebuilds its Bloom filter. Operands: (plot : Nat) -/
  | bloomRebuild
  /-- FILL_BLOCK_ARRIVAL (R316): One block of a frame fill arrives with its metadata and becomes available. Operands: (frame : Nat) -/
  | fillBlockArrival
  /-- COUNTER_HALVING (R318): Every 2^20 ticks all frame access counters are halved. -/
  | counterHalving
  /-- RENEW_DUE (R325): TICK reaches expiry minus LEASEMARGIN and a RENEW_DUE record is enqueued. Operands: (lease : Nat) -/
  | renewDue
  /-- LEASE_EXPIRY (R325): TICK reaches LR.EXPIRY and the lease becomes EXPIRED. Operands: (lease : Nat) -/
  | leaseExpiry
  /-- REVOKE_DEADLINE (R325): A revocation deadline passes before return and the lease becomes EXPIRED. Operands: (lease : Nat) -/
  | revokeDeadline
  /-- POOL_READ_TIMEOUT (R325): A pool read unanswered for 2^24 ticks completes as a LEASE record. Operands: (g op : Nat) -/
  | poolReadTimeout
  /-- ANSWER_LIMIT (R329): A Rhaod request unanswered for 2^22 ticks completes with status 3. Operands: (lease : Nat) -/
  | answerLimit
  /-- GRANT (R329): A GRANT answer sets the lease expiry and VALID state. Operands: (m : BitVec 256) -/
  | grant
  /-- REFUSE (R329): A REFUSE answer completes a renew or return with status 2. Operands: (m : BitVec 256) -/
  | refuse
  /-- RETURNED (R329): A RETURNED answer frees the lease entry. Operands: (m : BitVec 256) -/
  | returned
  /-- REVOKE (R330): A REVOKE message makes a lease REVOKING and is acknowledged. Operands: (m : BitVec 256) -/
  | revoke
  /-- NODE_FAIL (R326): A NODE_FAIL message sets the node's leases FAILED and enqueues POOL_FAIL. Operands: (m : BitVec 256) -/
  | nodeFail
  /-- RHAOD_DISCARD (R330): A malformed or unmatched Rhaod message is discarded and counted. Operands: (m : BitVec 256) -/
  | rhaodDiscard
  /-- BISNP (R331): A back-invalidation snoop invalidates copies, blocks the range, answers BIRsp and enqueues BINV. Operands: (dpa size : Nat) -/
  | bisnp
  /-- FQPOP (R335): A read of FQPOP takes the oldest untaken fault record. -/
  | fqpop
  /-- FQRES_REPLAY (R337): Resolves a fault record by replay or retry. Operands: (slot : Nat) (cause : BitVec 8) -/
  | fqresReplay
  /-- FQRES_PAGE (R337): Resolves a fault record with a PAGE outcome. Operands: (slot : Nat) (cause : BitVec 8) -/
  | fqresPage
  /-- FQRES_LEASE (R337): Resolves a fault record with a LEASE outcome. Operands: (slot : Nat) (cause : BitVec 8) -/
  | fqresLease
  /-- FQRES_POOL_LOST (R337): Resolves a fault record with a POOL_LOST outcome. Operands: (slot : Nat) (cause : BitVec 8) -/
  | fqresPoolLost
  /-- FQRES_PROT (R337): Resolves a fault record with a PROT outcome. Operands: (slot : Nat) (cause : BitVec 8) -/
  | fqresProt
  /-- FQRES_CHECKSUM (R337): Resolves a fault record with a CHECKSUM outcome. Operands: (slot : Nat) (cause : BitVec 8) -/
  | fqresChecksum
  /-- FQRES_CLOSE (R337): Closes a fault record, acting as outcome 1 for non-informational kinds. Operands: (slot : Nat) (cause : BitVec 8) -/
  | fqresClose
  /-- FRAME_MARK_DEAD (R274): Marks a frame DEAD and discards its cached copies. Operands: (arg : BitVec 48) -/
  | frameMarkDead
  /-- FRAME_FLUSH (R336): Writes back and invalidates every copy of a unit. Operands: (arg : BitVec 48) -/
  | frameFlush
  /-- FRAME_EVICT (R336): Flushes a unit and frees its frame. Operands: (arg : BitVec 48) -/
  | frameEvict
  /-- FRAME_RESERVE (R336): Evicts a frame and removes it from cache service. Operands: (arg : BitVec 48) -/
  | frameReserve
  /-- FRAME_RELEASE (R336): Returns a reserved frame to cache service. Operands: (arg : BitVec 48) -/
  | frameRelease
  /-- FRAME_DISCARD (R336): Drops every copy of a unit and its frame without write-back. Operands: (arg : BitVec 48) -/
  | frameDiscard
  /-- FRAME_EVICT_GROUP (R319): Evicts every frame of a MODEL group. Operands: (arg : BitVec 48) -/
  | frameEvictGroup
  /-- FRAME_SET_HOST_BIAS (R332): Sets a frame's controller bias bit to host. Operands: (arg : BitVec 48) -/
  | frameSetHostBias
  /-- FRAME_RETIRE (R336): Drops a frame's copies and adds it to the retired-frame list. Operands: (arg : BitVec 48) -/
  | frameRetire
  /-- FRAMECTL_INVALID_OP (R335): A FRAMECTL operation code 9-15 sets FRAMESTAT to 1. Operands: (op : BitVec 4) -/
  | framectlInvalidOp
  /-- HOST_ANSWER (R389): A write of PGCANS1 delivers a host answer as a record or discards it as late. Operands: (value info : DWord) -/
  | hostAnswer
  /-- STANDBY_PGC_TAKEOVER (R333): After the active PGC traps, the standby starts serving the fault queue. -/
  | standbyPgcTakeover
  /-- TIME_SLICE_EXPIRY (R354): A plot's time slice expires and a bank swap is made or the slice restarts. Operands: (plot : Nat) -/
  | timeSliceExpiry
  /-- SPILL_ENGINE (R355): After a swap the spill engine saves the outgoing set and restores the next. Operands: (plot : Nat) -/
  | spillEngine
  /-- HALT (R402): A HALTREQ halt stops the groups of its scope. Operands: (req : DWord) -/
  | halt
  /-- RESUME (R402): A HALTREQ resume applies queued actions and lets groups issue again. Operands: (req : DWord) -/
  | resume
  /-- STEP (R402): A HALTREQ step issues one clause of a halted group. Operands: (req : DWord) -/
  | step
  /-- DEBUGGER_REGISTER_WRITE (R359): A debugger write to a group register takes effect at once. Operands: (g : Nat) (reg : DbgReg) (v : DWord) -/
  | debuggerRegisterWrite
  /-- TSTOP_ARM (R401): Writing TSTOPCTL.ARM arms a tick stop. -/
  | tstopArm
  /-- TICK_STOP (R401): TICK reaches TSTOPT and every clock domain stops. -/
  | tickStop
  /-- TSTOP_RELEASE (R401): Writing RELEASE restarts every domain together. -/
  | tstopRelease
  /-- TRRING_WRITE (R400): A write of TRRING is accepted only for a 2 MiB-aligned ring of reserved frames. Operands: (die : Nat) (v : DWord) -/
  | trringWrite
  /-- ICACHE_FILL (R405): An instruction-cache miss fills a line with its breakpoint bits. Operands: (plot ctx : Nat) (va : DWord) -/
  | icacheFill
  /-- HEARTBEAT_SEND (R372): A plot sends its heartbeat to each neighbour at its tick in the period. Operands: (plot : Nat) -/
  | heartbeatSend
  /-- HEARTBEAT (R372): A vote flit of kind HEARTBEAT arrives and is counted. Operands: (plot dir : Nat) (f : BitVec 256) -/
  | heartbeat
  /-- PERIOD_EVALUATION (R373): At the last tick of a period each plot updates its neighbours' vote states. Operands: (plot : Nat) -/
  | periodEvaluation
  /-- ACCUSE (R374): An ACCUSE flit arrives and is counted; a majority decides a cull. Operands: (plot dir : Nat) (f : BitVec 256) -/
  | accuse
  /-- WITHDRAW (R373): A WITHDRAW flit arrives and removes an accusation. Operands: (plot dir : Nat) (f : BitVec 256) -/
  | withdraw
  /-- CULL (R374): A CULL flit arrives; the unit keeps the smallest cull tick. Operands: (src hops : Nat) (f : BitVec 256) -/
  | cull
  /-- CULL_TICK (R375): The cull tick is reached and the plot is fenced. Operands: (plot : Nat) -/
  | cullTick
  /-- SELF_TEST_END (R376): The resident self-test ends 2^25 ticks after it starts and APPEAL is sent on a pass. Operands: (plot : Nat) (pass : Bool) -/
  | selfTestEnd
  /-- APPEAL (R376): An APPEAL flit arrives and its attestation check starts. Operands: (plot dir : Nat) (f : BitVec 256) -/
  | appeal
  /-- ATTEST_CHECK_END (R376): An attestation check ends 100 ticks after APPEAL and READMIT is sent on a pass. Operands: (plot : Nat) (f : BitVec 256) -/
  | attestCheckEnd
  /-- READMIT (R376): A READMIT flit arrives and is counted; a majority announces readmission. Operands: (src hops : Nat) (f : BitVec 256), of a vote (plot dir : Nat) (f : BitVec 256) -/
  | readmit
  /-- READMISSION_TICK (R377): The readmission tick returns the plot in service and empty. Operands: (plot : Nat) -/
  | readmissionTick
  /-- OPERATING_TIME_SAVE (R378): Every 2^36 ticks firmware writes the operating-time count to flash. -/
  | operatingTimeSave
  /-- TEST_DELIVER (R380): TESTCTL op 0 reads and verifies an in-field test package. Operands: (readFailed : Bool) -/
  | testDeliver
  /-- REGRAFT_TEST (R380): TESTCTL op 1 starts a self-test of a culled plot. -/
  | regraftTest
  /-- FIELD_TEST_RUN (R379): Once a withdrawn plot holds no team, the scan controller runs the package on it. Operands: (plot : Nat) -/
  | fieldTestRun
  /-- FIELD_TEST_RESULT (R379): An in-field test ends, ending the withdrawal or setting self-fail. Operands: (plot : Nat) (pass : Bool) -/
  | fieldTestResult
  /-- DOORBELL (R388): A DOORBELL write starts the context's root team. Operands: (ctx : Nat) (va : DWord) -/
  | doorbell
  /-- CONTEXT_RESET (R395): Writing RESETCTL.GO resets one context. Operands: (ctx : Nat) -/
  | contextReset
  /-- FUNCTION_LEVEL_RESET (R384): A PCIe function-level reset performs the per-context reset of that function. Operands: (fn : Nat) -/
  | functionLevelReset
  /-- FABRIC_MEM_REQUEST (R396): A host or peer request to this device's memory is served. Operands: (req : FabricReq) -/
  | fabricMemRequest
  /-- REGISTER_WRITE (R6): A write to a register without behaviour of its own, ignoring reserved fields. Operands: (space : RegSpace) (off : Nat) (v : DWord) -/
  | registerWrite
  /-- POWER_ON (R407): A power-on reset runs the boot sequence. Operands: (starts : List BootFacts) -/
  | powerOn
  /-- PERST (R407): A PCIe fundamental reset of port 0 resets the device and boots. Operands: (starts : List BootFacts) -/
  | perst
  /-- BOOT_WATCHDOG (R407): Step 7 not reached 2^34 ticks after reset fails the start. Operands: (starts : List BootFacts) -/
  | bootWatchdog
  /-- POWER_SAMPLE (R411): Every 2^20 ticks firmware samples power and temperatures and acts. Operands: (sample : PowerReading), or none -/
  | powerSample
  /-- HBM_RATE_SWITCH (R412): A channel's rate switch stall ends and waiting requests proceed. Operands: (stack ch : Nat) -/
  | hbmRateSwitch
  /-- MANAGEMENT_RESET (R413): A vendor management message requests a device reset. Operands: (starts : List BootFacts) -/
  | managementReset
  /-- CLEAR_FAILED_START (R413): A vendor management message clears the failed-start count. -/
  | clearFailedStart
  /-- MGMT_REGISTER_READ (R413): A vendor management message reads an identification or management register. Operands: (num : BitVec 12) -/
  | mgmtRegisterRead
  /-- MGMT_PWRCAP_WRITE (R410): A vendor management message writes PWRCAP, clamped to its range. Operands: (watts : DWord) -/
  | mgmtPwrcapWrite
  /-- PLDM_FIRMWARE_UPDATE (R413): A PLDM firmware update delivers a new image written to module flash. Operands: (image : FirmwareImage) -/
  | pldmFirmwareUpdate
  /-- PLDM_MONITORING (R413): A PLDM monitoring request reports power, coolant and HBM temperatures. -/
  | pldmMonitoring
  /-- MCTP_CONTROL (R413): An MCTP control message is served by the management endpoint. Operands: (code : BitVec 8) -/
  | mctpControl
  /-- EMPTY_SLOT (R404): A plot cycle passes in which the slot's group issues nothing, and the slot is charged one stall reason and the eligibility count. Operands: (plot : Nat) -/
  | emptySlot
  /-- HOST_SWAP_REQUEST (R354): Host software requests a bank swap of a plot, which swaps when the shadow bank holds a restored set. Operands: (plot : Nat) -/
  | hostSwapRequest
  /-- PMOVE_COMPLETE (R338): A pmove's copy and PTE write finish, its held accesses are released and its status is written. -/
  | pmoveComplete
  /-- PSPLIT_COMPLETE (R310): A psplit's final compare-and-swap succeeds, after retries that copy A and D set by walkers, and its status is written. -/
  | psplitComplete
  /-- BIAS_COMPLETE (R332): A bias ends when the host has answered each line or failed to within the bound, and the count of flipped pages is written. Operands: (answered : Nat) -/
  | biasComplete
  /-- FRAMECTL_COMPLETE (R336): A FRAMECTL operation completes once its last recall, write-back, invalidation and controller acknowledgement are done, and the PGC's next word may issue. -/
  | framectlComplete
  /-- SOFT_ERROR (R363): A stored bit of an HBM block or an L2 line is corrupted, so a later read finds a corrected or uncorrectable error. Operands: (e : SoftError) -/
  | softError
  /-- PLOT_FAILURE (R373): A plot's core and router stop, or begin to babble, so that its heartbeats go missing or turn malformed. Operands: (plot : Nat) (babble : Bool) -/
  | plotFailure
  /-- MSIX_UNMASK (R390): Host software unmasks an MSI-X vector whose message is pending, and the message is sent. Operands: (ctx vec : Nat) -/
  | msixUnmask
  deriving DecidableEq, Repr

end Sys2Proof
end

