-- ==== Sys2Proof/Machine/State.lean ====
section
/-! DEFINITION. The state of the machine as plain data. Every field's docstring is one line: its width, the rule of spec/
that names it, and its value at reset. A structure's default field values are the values of a unit that nothing has used;
`State.reset` is the machine after step 7 of the boot sequence (R407). -/

namespace Sys2Proof.Machine

/-! ## What the steps without an encoding act on -/

/-- Kinds of memory access (FQ.ACC, R334). -/
inductive AccKind where
  | read | write | fetch | atomic
  deriving DecidableEq, Repr, Inhabited

/-- A register of a group that a debugger can write (R359). -/
inductive DbgReg where
  | v (r lane : Nat) | s (r : Nat) | k (r : Nat)
  deriving DecidableEq, Repr, Inhabited

/-- What one start of the device meets at the steps of R407: physical facts that no rule determines. -/
structure BootFacts where
  /-- step 1: the fuse store could be read -/
  fuseOk : Bool
  /-- step 2: the module flash could be read -/
  flashOk : Bool
  /-- step 4: every HBM channel trained -/
  trained : Bool
  /-- step 4: firmware puts cross-channel parity in force -/
  parity : Bool
  /-- step 5: plots that fail the resident self-test -/
  failedPlots : List Nat
  /-- step 6: the ports that link, each with its speed in GT/s (64, or 32 as a fallback) and its lanes (16, or 8) (R382) -/
  links : Tab (Nat × Nat)
  /-- step 7 was reached within 2^34 ticks -/
  inTime : Bool
  deriving DecidableEq, Repr, Inhabited

/-- What the module's sensors show (R411, R414): power in watts, the temperature of every HBM channel that is listed
(stack, channel, degrees) and of every die that is listed. A channel or die not listed is at 60 degrees. -/
structure PowerReading where
  watts : Nat
  channels : List (Nat × Nat × Nat)
  dies : Tab Nat
  /-- coolant temperature, degrees -/
  coolant : Nat
  /-- what the starts meet that a thermal trip of this sample leads to (R414) -/
  boots : List BootFacts
  deriving DecidableEq, Repr, Inhabited

/-- The header of an in-field test package (R380). -/
structure TestPackage where
  id : Nat
  kind : Nat
  count : Nat
  total : Nat
  /-- bytes 8-63 are zero -/
  headerZero : Bool
  deriving DecidableEq, Repr, Inhabited

/-- A request of host software or of a peer to this device's memory (R396). -/
inductive FabricReq where
  | read (dpa n : Nat)
  /-- bytes; the loader's metadata words of the blocks from the first on, none for a plain store (R108) -/
  | write (dpa : Nat) (data : List Byte) (desc : List (BitVec 48))
  /-- part of a peer CE's REDUCE at this device's home: FP32 (or A96) addends, with the checksum's operands of `peerWrite`; for an EGC stream the
  number of values (R226, R393, R394) -/
  | reduce (dpa : Nat) (a96 : Bool) (data : List Byte) (sum : Nat) (running : BitVec 32) (pos : Nat) (final : Bool) (egc : Option Nat)
  /-- part of a peer command's stream: destination, kind of checksum (0 none, 1 SUM32, 2 CRC32C), the running value and the bytes of the
  stream before this part, whether this is the final write; for an EGC stream, CMD.CFMT (0 for A96) and the number of values (R393, R394) -/
  | peerWrite (dpa : Nat) (data : List Byte) (sum : Nat) (running : BitVec 32) (pos : Nat) (final : Bool) (egc : Option (Nat × Nat))
  deriving DecidableEq, Repr, Inhabited

/-- Where a register write without behaviour of its own arrives (R6, R385, R398): a context's window, the PF's BAR0
controls, or the debug port. -/
inductive RegSpace where
  | window (ctx : Nat) | pf | debug
  /-- VF Enable of the PF's SR-IOV capability (R384, R408) -/
  | sriov
  deriving DecidableEq, Repr, Inhabited

/-- A firmware image offered by PLDM (R408, R413), with its public key and its signature (R407). -/
structure FirmwareImage where
  version : BitVec 32
  bytes : List Byte
  key : PublicKey
  sig : Nat
  deriving DecidableEq, Repr, Inhabited

/-- A corrupted stored bit (R360, R363): in an HBM block (correctable or not), or in an L2 line. -/
inductive SoftError where
  | hbm (dpa : Nat) (correctable : Bool)
  | l2 (dpa : Nat)
  deriving DecidableEq, Repr, Inhabited


/-- The operand of an event that numbers do not hold. -/
inductive Ext where
  | none
  | acc (k : AccKind)
  | reg (r : DbgReg)
  | space (r : RegSpace)
  | boots (b : List BootFacts)
  | power (r : PowerReading)
  | request (r : FabricReq)
  | image (i : FirmwareImage)
  | error (e : SoftError)
  deriving DecidableEq, Repr, Inhabited

/-- The operands of a step without an encoding, in the order its constructor's docstring names them: numbers in `a`, `b`;
a 64-bit value in `v`; a message in `f`; a truth value in `flag`; anything else in `ext`. -/
structure Ev where
  a : Nat := 0
  b : Nat := 0
  v : DWord := 0
  f : BitVec 256 := 0
  flag : Bool := false
  ext : Ext := .none
  deriving DecidableEq, Repr, Inhabited

/-- A step in the agenda: the cycle from which it is due, the step, its operands. -/
structure Due where
  due : Nat := 0
  what : Instr := .nop
  ev : Ev := {}
  deriving DecidableEq, Repr, Inhabited

/-! ## Registers of a group -/

/-- A uniform register (R151): value, reference tag and reference base. -/
structure SReg where
  /-- 64 | R151 10_uniform_instructions.md | 0 (R44) -/
  val : DWord := 0
  /-- 1 | R151 10_uniform_instructions.md | 0 (R44) -/
  tag : Bool := false
  /-- 64 | R151 10_uniform_instructions.md | 0: DESIGN CHOICE 0 (log entry 2), meaningful only while tag is 1 -/
  base : DWord := 0
  deriving DecidableEq, Repr, Inhabited

/-- The name of a register of a group: vector, uniform, mask, flag. -/
inductive RegId where
  | v (n : Nat) | s (n : Nat) | k (n : Nat) | f (n : Nat)
  deriving DecidableEq, Repr, Inhabited

/-- The fields of an XPFX word (R76). -/
structure Prefix where
  k : BitVec 3 := 0
  z : Bool := false
  rm : BitVec 3 := 0
  sat : Bool := false
  c : BitVec 7 := 0
  cv : Bool := false
  deriving DecidableEq, Repr, Inhabited

/-- An entry of a group's frontier (R51). -/
structure FrontEntry where
  /-- 64 | R51 03_execution.md | LB.ENTRY (R44) -/
  addr : DWord
  /-- 64 | R51 03_execution.md | all lanes (R44) -/
  lanes : Mask
  /-- counter | R53 03_execution.md | 0 -/
  age : Nat := 0
  /-- while the target's header mark is still to be checked (R54): clause and index of the transferring word, and where its
  lanes go if a handler skips it -/
  from? : Option (DWord × Nat × DWord) := none
  /-- the fetch of its clause has missed the instruction cache and is counted in SLIPCNT | R405 26_debug.md | 0 -/
  slipped : Bool := false
  deriving DecidableEq, Repr, Inhabited

/-- The clause that a bundle is issuing: the words latched at its start (R54, R183) and the place reached. -/
structure Clause where
  /-- 64 | R68 05_encoding.md | clause address -/
  addr : DWord
  /-- 32 | R67 05_encoding.md | the header -/
  hdr : Word
  /-- LEN+1 words | R68 05_encoding.md | the words as fetched -/
  words : List Word
  /-- 17 | R403 26_debug.md | breakpoint bits of the header and the words, as the line was filled -/
  brk : BitVec 17 := 0
  /-- 5 | R54 03_execution.md | next word -/
  idx : Nat := 0
  /-- 64 | R52 03_execution.md | lanes of the bundle -/
  lanes : Mask
  /-- XPFX waiting for its lane word (R76) -/
  pfx : Option Prefix := none
  /-- the word at idx is the second of a pair whose first has issued this cycle (R47) -/
  second : Bool := false
  /-- the breakpoint of the word at idx has been taken (R403) -/
  brkDone : Bool := false
  deriving DecidableEq, Repr, Inhabited

/-- A fixed-latency result not yet written (R49): the register, the lanes to write with their values (or the bits of a mask),
the cycle in which it is written, the exceptions to record then (R103). -/
structure Pending where
  reg : RegId
  lanes : Mask
  vals : List Word := []
  bits : Mask := 0
  avail : Nat
  fp : BitVec 6 := 0
  deriving DecidableEq, Repr, Inhabited

/-! ## Traps and the operand log -/

/-- Where a failed check points (R200): element, lane, address, INFO. -/
structure Failure where
  /-- TR.CLASS code (R340) -/
  cls : Nat
  /-- TR.CAUSE -/
  cause : Nat
  /-- element and lane, when a lane form (TR.LANEV) -/
  at? : Option (Nat × Nat) := none
  addr : DWord := 0
  info : DWord := 0
  /-- 64 | R348 20_faults.md | TICK at which it was captured, where it is not delivered at once -/
  tick : Option Nat := none
  deriving DecidableEq, Repr, Inhabited

/-- State of an operand-log entry (R344). -/
inductive LogState where
  | pending | trapped | replay
  deriving DecidableEq, Repr, Inhabited

/-- An occupied entry of a group's operand log (R342): the operation it holds and its place in the order of logging. -/
structure LogEntry where
  op : Nat
  st : LogState
  order : Nat
  /-- the failure that was logged -/
  f : Failure := { cls := 0, cause := 0 }
  deriving DecidableEq, Repr, Inhabited

/-- Where a variable-latency word stands. -/
inductive OpState where
  /-- issued; its access is to come -/
  | issued
  /-- its block or its first access has been read; the rest is to come -/
  | blockRead
  /-- performed; the completion is to come -/
  | performed
  /-- failed while the log was full (R343) -/
  | heldFail (f : Failure)
  /-- in the operand log -/
  | logged (slot : Nat)
  deriving DecidableEq, Repr, Inhabited

/-- A granule captured from registers (R240): descriptor and 64 bytes. -/
structure Granule where
  desc : BitVec 48 := 0
  data : BitVec 512 := 0
  deriving DecidableEq, Repr, Inhabited

/-- A variable-latency word or an object form in flight, with the operands captured at issue (R193, R342). DEDUCED: log entry 14. -/
structure MemOp where
  word : Instr := .nop
  pfx : Prefix := {}
  hasPfx : Bool := false
  clause : DWord := 0
  idx : Nat := 0
  /-- the completion flag incremented at issue; none for an object form -/
  flag : Option Nat := none
  /-- included lanes -/
  lanes : Mask := 0
  /-- lanes of the bundle -/
  bundle : Mask := 0
  /-- value, tag and base of every s register read, in the order of the word's fields -/
  src : List SReg := []
  /-- per-lane offsets read from A -/
  offs : List DWord := []
  /-- cycles in which its register-operations enter the datapath (R48, R193) -/
  entries : List Nat := []
  /-- store data or atomic operands: one list of 64 lanes for each register -/
  data : List (List Word) := []
  /-- descriptors captured by vstf: register-major, four quarters each -/
  descs : List (BitVec 48) := []
  /-- compare values of vatom.cas -/
  cmp : List Word := []
  st : OpState := .issued
  /-- values to write at completion: register and its 64 lanes -/
  res : List (Nat × List Word) := []
  /-- uniform result to write at completion -/
  sres : Option SReg := none
  /-- registers still to be written at completion that a debugger has written since (R359) -/
  dropped : List RegId := []
  /-- block or record read by the word -/
  blk : BitVec 512 := 0
  /-- B operand of a split pass, captured at issue (R238, R245) -/
  gran : List Granule := []
  /-- next lane of an atomic -/
  lane : Nat := 0
  /-- commands or parts still outstanding -/
  left : Nat := 0
  /-- status gathered so far -/
  status : Nat := 0
  /-- the primary performs it for both twins (R368, R370): its number among the group's forwarded words -/
  fwd : Option Nat := none
  /-- a pmove holds a page of its access (R338) -/
  moving : Bool := false
  deriving DecidableEq, Repr, Inhabited

/-- What a group at issue is held for (R152, R232 and the privileged forms of R185). -/
inductive Hold where
  | flags (mask : BitVec 12)
  /-- a second arrival: until the phase completes, then arrive -/
  | barPrev (b : Nat) (clu wait : Bool) (phase : Nat)
  /-- an arrival: until the group's earlier memory instructions are performed and its commit has drained -/
  | barDrain (b : Nat) (clu : Bool) (begun : Bool)
  /-- until the phase completes; then the first cycle at which the group may issue (R175) -/
  | barWait (b : Nat) (clu : Bool) (phase : Nat)
  | until (cycle : Nat)
  /-- a privileged form whose status is written when it completes (R185) -/
  | status (d : BitVec 6) (v : DWord) (cycle : Nat)
  | mwait (d : BitVec 6) (addr : DWord) (ref : Option DWord) (wake : Bool) (next : Nat) (op : Nat)
  | fence (kind scope : Nat) (begun : Bool) (done : Option Nat)
  | lwait (d : BitVec 6) (serial : Nat)
  | hsig (n : Nat)
  | ostat (op : Nat)
  | objForm (op : Nat)
  | icinv (acks : Nat)
  | pubWalk (op : Nat)
  | fenceng
  /-- tset and tdrop: the word is tried again -/
  | tile (i : Instr)
  /-- rows asked for, and its place in the order of requests (R60) -/
  | racq (n order : Nat)
  /-- a privileged form, until its completion event; acknowledgements still to come -/
  | priv (i : Instr) (acks : Nat)
  | frameCtl
  deriving DecidableEq, Repr, Inhabited

/-- An arrival by `barr` that has not counted yet (R174): the barrier, the operations that come before it (those named before
`before`), and whether its commit has been asked for (1) or has begun (2). The group goes on meanwhile (R152). -/
structure Arrival where
  b : Nat
  clu : Bool
  before : Nat
  st : Nat := 0
  deriving DecidableEq, Repr, Inhabited

/-- Where a group's register bank is (R352). -/
inductive Loc where
  | active | shadow | spilled (image : Nat) | gone
  deriving DecidableEq, Repr, Inhabited

/-- One group (R10, R44, R352), or the single lane of a PGC (R154, R333). -/
structure Group where
  /-- 1 | R333 18_translation.md | the active and the standby PGC are groups 0 and 1 -/
  pgc : Bool := false
  /-- 6 | R62 03_execution.md | at placement -/
  ctx : Nat := 0
  /-- key of the team -/
  team : Nat := 0
  /-- 9 | R62 03_execution.md | PLOTID (384, 385 for the PGCs, R13) -/
  plot : Nat := 0
  /-- 3 | R62 03_execution.md | GSLOT.SLOT -/
  slot : Nat := 0
  /-- 3 | R62 03_execution.md | GSLOT.RANK -/
  rank : Nat := 0
  /-- bank that holds the group | R352 20_faults.md | active -/
  loc : Loc := .active
  /-- 3 | R62 03_execution.md | ROWMAP.COUNT = LB.ROWS -/
  rows : Nat := 2
  /-- 96 × 64 lanes × 32 | R44 03_execution.md | 0: v0-v95 -/
  v : Tab (List Word) := []
  /-- 96 × 4 × 48 | R196 11_memory_instructions.md | 0: descriptor shadows, key 4·register + quarter -/
  desc : Tab (BitVec 48) := []
  /-- 64 × (64 + 1 + 64) | R151 10_uniform_instructions.md | 0: s0-s63 -/
  s : Tab SReg := []
  /-- 8 × 64 | R80 05_encoding.md | 0: k1-k7 -/
  k : Tab Mask := []
  /-- 12 × 8 | R57 03_execution.md | 0: f0-f11 -/
  f : Tab Nat := []
  /-- 6 | R102 07_numbers.md | 0: FPSTAT sticky exception bits -/
  fpstat : BitVec 6 := 0
  /-- the bits ORed into FPSTAT in a cycle, and that cycle: a write of that cycle comes before them | R103 07_numbers.md | none -/
  fpOr : Nat × BitVec 6 := (0, 0)
  /-- up to 64 entries | R51 03_execution.md | one entry at LB.ENTRY with all lanes (R44) -/
  frontier : List FrontEntry := []
  /-- the clause in progress | R54 03_execution.md | none -/
  clause : Option Clause := none
  /-- holding form | R152 10_uniform_instructions.md | none -/
  hold : Option Hold := none
  /-- arrivals that wait for the group's earlier accesses or for their commit | R174 10_uniform_instructions.md | none -/
  arrivals : List Arrival := []
  /-- trap deliveries unresolved that hold the group, by TR.SEQ | R346 20_faults.md | none -/
  trapHold : List Nat := []
  /-- 1 | R347, R349 20_faults.md | 0: a dropped record holds the group for good -/
  lostHold : Bool := false
  /-- 1 | R402 26_debug.md | 0: halted by a debugger -/
  halted : Bool := false
  /-- 1 | R402 26_debug.md | 0: a step is running one clause -/
  stepping : Bool := false
  /-- tres actions queued by a halt (R182, R358): log slot or 15, action, class | none -/
  queuedTres : List (Nat × Nat × Nat × Nat) := []
  /-- 8 entries | R342 20_faults.md | FREE: operand log -/
  log : Tab LogEntry := []
  /-- failures held while the log is full, in order | R343 20_faults.md | none -/
  heldFails : List Nat := []
  /-- variable-latency words outstanding | R58 03_execution.md | none -/
  ops : Tab MemOp := []
  /-- fixed-latency results outstanding | R49 03_execution.md | none -/
  pend : Tab Pending := []
  /-- 32 | R351 20_faults.md | 0: SWAPCNT.N -/
  swapcnt : Nat := 0
  /-- operations in REPLAY at a restore, performed before the group's first issue | R357 20_faults.md | none -/
  restoring : List Nat := []
  /-- split broadcasts that parts still have to take | R245 12_matrix_instructions.md | 0 -/
  bcast : Nat := 0
  /-- the twin has issued the matching word and the operands agree (R370) | R370 22_reliability.md | 0 -/
  pairOk : Bool := false
  /-- forwarded words that the group has issued | R368 22_reliability.md | 0 -/
  fwdNo : Nat := 0
  deriving DecidableEq, Repr, Inhabited

/-! ## Teams, clusters, contexts -/

/-- An entry of a team's commit buffer (R287): one 64-byte block of virtual memory. -/
structure CBEntry where
  /-- virtual block address div 64 -/
  blk : Nat
  /-- bytes buffered, by offset in the block -/
  bytes : Tab Byte := []
  /-- reference tags of the words the entry writes by a tagged rst, 8 bits -/
  tags : BitVec 8 := 0
  /-- descriptor a formatted store gives the block -/
  desc : Option (BitVec 48) := none
  /-- the commit the entry belongs to, once one has begun -/
  commit : Option Nat := none
  /-- no-allocate (R194) -/
  na : Bool := false
  /-- the PGC is resolving a fault of the drain (R290) -/
  faulted : Bool := false
  /-- its drain has begun: the write takes its path (R265) -/
  sent : Bool := false
  deriving DecidableEq, Repr, Inhabited

/-- A result of the primary for its twin (R368): the rank of the groups, the number of the word among their forwarded words, and what it writes. -/
structure Forwarded where
  rank : Nat
  no : Nat
  sres : Option SReg := none
  res : List (Nat × List Word) := []
  descs : List (BitVec 48) := []
  deriving DecidableEq, Repr, Inhabited

/-- What a commit is for (R288). -/
inductive CommitKind where
  | fence (gid : Nat) (scope : Nat)
  | barrier (gid : Nat) (b : Nat) (clu wait : Bool)
  | pub (gid op : Nat)
  | exit
  | highWater
  | spill
  deriving DecidableEq, Repr, Inhabited

/-- A commit that has begun (R289), or, for a paired team, waits for its twin's (R291). -/
structure Commit where
  id : Nat
  kind : CommitKind
  /-- waiting for the twin's matching commit point -/
  unpaired : Bool := false
  /-- 64 | R369 22_reliability.md | the signature of the interval that the commit point ends -/
  sig : DWord := 0
  deriving DecidableEq, Repr, Inhabited

/-- A barrier (R173). -/
structure Barrier where
  /-- counter | R173 10_uniform_instructions.md | 0 -/
  phase : Nat := 0
  /-- set of groups | R173 10_uniform_instructions.md | empty -/
  arrived : List Nat := []
  /-- cycle of the latest completion | R175 10_uniform_instructions.md | 0 -/
  doneAt : Nat := 0
  deriving DecidableEq, Repr, Inhabited

/-- A resident or ended team (R29, R44). -/
structure Team where
  /-- 1 | R63 03_execution.md | 1 while not ended -/
  live : Bool := true
  /-- 6 | R10 00_scope.md | context -/
  ctx : Nat := 0
  /-- 24 | R42 03_execution.md | TEAMSER -/
  serial : Nat := 0
  /-- 32 | R36 03_execution.md | LSERIAL; 0 for a handler team (R349) -/
  lserial : Nat := 0
  /-- key of the cluster instance -/
  cluster : Nat := 0
  /-- 9 | R40 03_execution.md | plot -/
  plot : Nat := 0
  /-- groups not exited, in rank order -/
  groups : List Nat := []
  /-- all groups of the team, in rank order -/
  allGroups : List Nat := []
  /-- 4 | R31 03_execution.md | TEAMX -/
  tx : Nat := 0
  /-- 4 | R31 03_execution.md | TEAMY -/
  ty : Nat := 0
  /-- 3 × 16 | R31 03_execution.md | CLUX, CLUY, CLUZ -/
  clu : Nat × Nat × Nat := (0, 0, 0)
  /-- 64 | R44 03_execution.md | LB.ARGS -/
  args : DWord := 0
  /-- 64 | R44 03_execution.md | ARENABASE -/
  arenaBase : DWord := 0
  /-- 64 | R44 03_execution.md | ARENALIM -/
  arenaLim : DWord := 0
  /-- 6 | R33 03_execution.md | LB.SHARED in 4 KiB units -/
  shared : Nat := 0
  /-- up to 192 KiB | R187 11_memory_instructions.md | 0: the team's share of the shared partition -/
  shmem : Tab Byte := []
  /-- up to 1,024 entries | R287 16_consistency.md | empty -/
  cb : List CBEntry := []
  /-- commits begun, oldest first | R289 16_consistency.md | none -/
  commits : List Commit := []
  /-- 16 barriers | R173 10_uniform_instructions.md | phase 0, no arrivals -/
  bars : Tab Barrier := []
  /-- 1 | R33 03_execution.md | LB.ADMIN -/
  admin : Bool := false
  /-- 1 | R33 03_execution.md | LB.IDEM -/
  idem : Bool := false
  /-- 1 | R33 03_execution.md | LB.PAIRED -/
  paired : Bool := false
  /-- the twin team | R43 03_execution.md | none -/
  twin : Option Nat := none
  /-- 1 | R43 03_execution.md | this is the primary -/
  primary : Bool := false
  /-- 64 | R369 22_reliability.md | 0: signature since the last commit point -/
  sig : DWord := 0
  /-- the primary: results on their way to the twin; the twin: results that have arrived | R368 22_reliability.md | none -/
  forwarded : List Forwarded := []
  /-- 1 | R366 22_reliability.md | 0: committed -/
  committed : Bool := false
  /-- pub walks in progress | R209 11_memory_instructions.md | 0 -/
  walks : Nat := 0
  /-- 3 | R33 03_execution.md | LB.PRIO -/
  prio : Nat := 0
  /-- 2 | R348 20_faults.md | 0: handler depth -/
  depth : Nat := 0
  /-- handler team: TRAPREC and the TR.SEQ delivered to it | R349 20_faults.md | none -/
  trapRec : Option (DWord × Nat) := none
  deriving DecidableEq, Repr, Inhabited

/-- A cluster instance (R277): one placement of a cluster. -/
structure Cluster where
  live : Bool := true
  ctx : Nat := 0
  lserial : Nat := 0
  /-- linear index in the grid (R31) -/
  index : Nat := 0
  /-- 9 | R30 03_execution.md | origin plot -/
  origin : Nat := 0
  /-- 3 | R30 03_execution.md | LB.SHAPE -/
  shape : Nat := 0
  /-- teams, in plot order (serials kept until the instance ends, R298) -/
  teams : List Nat := []
  /-- 16 barriers | R173 10_uniform_instructions.md | phase 0, no arrivals -/
  bars : Tab Barrier := []
  /-- 1 | R32 03_execution.md | LB.FUSEL1 -/
  fused : Bool := false
  /-- relaunches so far | R367 22_reliability.md | 0 -/
  relaunches : Nat := 0
  /-- the instance of the twins | R43 03_execution.md | none -/
  twin : Option Nat := none
  /-- 1 | R349 20_faults.md | a handler team's own instance -/
  handler : Bool := false
  deriving DecidableEq, Repr, Inhabited

/-- An accepted launch whose grid has not completed (R36, R37). -/
structure Launch where
  /-- 32 | R36 03_execution.md | launch serial -/
  serial : Nat
  /-- 4 | R37 03_execution.md | queue 0-15; 16 for the root team's launch (R388) -/
  queue : Nat
  /-- 512 | R33 03_execution.md | the launch block as read -/
  blk : BitVec 512
  /-- plot that accepted it, for the hand-over (R45); none for a root team's launch -/
  plot : Option Nat := none
  /-- 48 | R40 03_execution.md | next linear cluster index to place -/
  nextCluster : Nat := 0
  /-- clusters that have ended for good -/
  ended : Nat := 0
  /-- 1 | R64 03_execution.md | a team was lost or killed -/
  lost : Bool := false
  /-- 1 | R64 03_execution.md | cancelled by a context reset -/
  cancelled : Bool := false
  /-- instances to place again (index, relaunches), ahead of the unplaced clusters | R367 22_reliability.md | none -/
  again : List (Nat × Nat) := []
  /-- the grid has completed; its completion word is being written -/
  done : Bool := false
  deriving DecidableEq, Repr, Inhabited

/-- An arena of the context's heap (R297, R387): offset and length in 64 KiB units. -/
structure Arena where
  off : Nat
  len : Nat
  /-- 1 | R297 16_consistency.md | 0: retain bit -/
  retain : Bool := false
  team : Nat := 0
  /-- returned, with 64 KiB units that are still to be written with zeros before the heap gives any part of it out again (R297) -/
  back : Option (List Nat) := none
  deriving DecidableEq, Repr, Inhabited

/-- A trap that is not resolved (R347, R350). -/
structure TrapRec where
  /-- 32 | R348 20_faults.md | TR.SEQ -/
  seq : Nat
  /-- slot of the trap area -/
  slot : Nat
  /-- the held group; none for a team delivery -/
  gid : Option Nat
  team : Nat
  /-- operand-log entry, or 15 -/
  logslot : Nat
  /-- class code -/
  cls : Nat
  /-- 512 | R348 20_faults.md | the record -/
  data : BitVec 512
  /-- the record has been written -/
  written : Bool := false
  /-- the 72 cycles after its write have passed: its handler may start (R349) -/
  ready : Bool := false
  /-- the handler team placed for it -/
  handler : Option Nat := none
  deriving DecidableEq, Repr, Inhabited

/-- A delivery that waits for a free slot of the trap area (R347). -/
structure WaitTrap where
  gid : Option Nat
  team : Nat
  f : Failure
  logslot : Nat
  word : Nat
  clause : DWord
  deriving DecidableEq, Repr, Inhabited

/-- A checksum chain slot (R228): kind of checksum and running value. -/
structure Chain where
  kind : Nat
  value : BitVec 32
  deriving DecidableEq, Repr, Inhabited

/-- A context (R384-R390). -/
structure Context where
  /-- 3 | R386 24_links.md | 0: CTXCFG.HPRIO -/
  hprio : BitVec 3 := 0
  /-- 3 | R386 24_links.md | 2: CTXCFG.HROWS -/
  hrows : BitVec 3 := 2
  /-- 1 | R386 24_links.md | 0: CTXCFG.TRACE -/
  trace : Bool := false
  /-- 1 | R386 24_links.md | 0: CTXCFG.EN -/
  en : Bool := false
  /-- 64 | R386 24_links.md | 0 -/
  ptroot : DWord := 0
  /-- 64 | R386 24_links.md | 0 -/
  handler : DWord := 0
  /-- 64 | R386 24_links.md | 0 -/
  trapArea : DWord := 0
  /-- 64 | R386 24_links.md | 0 -/
  spillArea : DWord := 0
  /-- 64 | R386 24_links.md | 0 -/
  arenaHeap : DWord := 0
  /-- 64 | R386 24_links.md | 0 -/
  arenaSize : DWord := 0
  /-- 64 | R386 24_links.md | 0 -/
  walkScr : DWord := 0
  /-- 64 | R386 24_links.md | 0 -/
  walkSize : DWord := 0
  /-- 4 | R386 24_links.md | 1: QOS.CEW -/
  cew : BitVec 4 := 1
  /-- 4 | R386 24_links.md | 1: QOS.HBMW -/
  hbmw : BitVec 4 := 1
  /-- 64 | R386 24_links.md | 0 -/
  vecEn : DWord := 0
  /-- 64 | R386 24_links.md | 0 -/
  vecDrop : DWord := 0
  /-- 2 | R386 24_links.md | 0: RESETCTL.REASON -/
  reason : BitVec 2 := 0
  /-- 16 | R386 24_links.md | 0: RESETCTL.GEN -/
  gen : BitVec 16 := 0
  /-- 1 | R386 24_links.md | 0: RESETCTL.BUSY -/
  busy : Bool := false
  /-- 64 | R388 24_links.md | 0: ROOTSTAT -/
  rootStat : DWord := 0
  /-- 1 | R388 24_links.md | 0: a root team has been accepted -/
  rootDone : Bool := false
  /-- 66 | R390 24_links.md | 0: MSI-X pending bits -/
  msixPending : BitVec 66 := 0
  /-- 66 | R390 24_links.md | 1s: MSI-X mask bits. PRESUMED all ones (PCIe MSI-X, log entry 3) -/
  msixMask : BitVec 66 := BitVec.allOnes 66
  /-- 1 | R390 24_links.md | 0: MSI-X function mask. PRESUMED 0 (PCIe MSI-X, log entry 3) -/
  msixAll : Bool := false
  /-- 32 | R36 03_execution.md | 1: serial the next accepted launch receives -/
  nextSerial : Nat := 1
  /-- 24 | R42 03_execution.md | 1: serial the next placed team receives -/
  nextTeam : Nat := 1
  /-- 16 queues of up to 256 launches, accepted and not complete | R37 03_execution.md | empty -/
  launches : List Launch := []
  /-- status of remembered complete launches, latest first | R38 03_execution.md | none -/
  complete : List (Nat × Nat) := []
  /-- arenas given out | R297 16_consistency.md | none -/
  arenas : List Arena := []
  /-- 255 slots | R228 11_memory_instructions.md | closed -/
  chains : Tab Chain := []
  /-- unresolved traps | R350 20_faults.md | none -/
  traps : List TrapRec := []
  /-- deliveries that wait for a trap-area slot, oldest first | R347 20_faults.md | none -/
  waitTraps : List WaitTrap := []
  /-- 32 | R348 20_faults.md | TR.SEQ of the next delivery: DESIGN CHOICE 0 (log entry 2) -/
  trapSeq : Nat := 0
  /-- 12 | R347 20_faults.md | trap-area pointer: DESIGN CHOICE 0 (log entry 2) -/
  trapPtr : Nat := 0
  /-- 32 | R351 20_faults.md | 0: TRAPDROP -/
  trapDrop : Nat := 0
  /-- 64 | R406 26_debug.md | 0: HINTREJ -/
  hintRej : DWord := 0
  /-- a debug halt of the whole context is in force: groups placed later are halted too | R358, R402 | 0 -/
  dbgHalt : Bool := false
  deriving DecidableEq, Repr, Inhabited

/-! ## Plots -/

/-- State of an owned shared-tile entry (R214). -/
inductive TileState where
  | empty | filling | ready | draining
  deriving DecidableEq, Repr, Inhabited

/-- An owned entry of a plot's shared-tile table (R214). -/
structure Tile where
  team : Nat
  /-- 64-byte units in the team's share -/
  off : Nat
  len : Nat
  st : TileState
  deriving DecidableEq, Repr, Inhabited

/-- The plot's Sieve (R148, R255). -/
structure Sieve where
  /-- owner | R255 12_matrix_instructions.md | free -/
  team : Option Nat := none
  /-- 8 | R255 12_matrix_instructions.md | 0: k -/
  k : Nat := 0
  /-- 1 | R255 12_matrix_instructions.md | 0: max order -/
  max : Bool := false
  /-- 1 | R255 12_matrix_instructions.md | 0: INT32 keys -/
  int : Bool := false
  /-- up to 128 pairs (key, index), best first | R255 12_matrix_instructions.md | empty -/
  pairs : List (Word × Word) := []
  /-- 32 | R256 12_matrix_instructions.md | 0: refusals, saturating -/
  refused : Nat := 0
  /-- pairs offered by vsieve words that have not entered yet, oldest first | R148 09_lane_instructions.md | none -/
  queue : List (Word × Word × Nat) := []
  deriving DecidableEq, Repr, Inhabited

/-- An entry of the range-lock table (R229): a range of 64-byte blocks of one context. -/
structure RltEntry where
  ctx : Nat
  /-- first and last virtual block -/
  lo : Nat
  hi : Nat
  /-- locked against reads as well as writes -/
  reads : Bool
  /-- the command, or the word of the drain, that holds it -/
  owner : Nat
  /-- the range is of a team's share of the shared partition: that team -/
  share : Option Nat := none
  deriving DecidableEq, Repr, Inhabited

/-- Ranges that wait in the plot for entries of the range-lock table (R229, R250). -/
structure RangeWait where
  owner : Nat
  ranges : List RltEntry
  deriving DecidableEq, Repr, Inhabited

/-- A lane instruction in the plot's lane backend (R48): the entry cycle of each of its register-operations, and the cycles
each holds the datapath. -/
structure BackOp where
  first : Nat
  last : Nat
  /-- entry cycles of the operations -/
  entries : List Nat
  /-- the datapath is free after this cycle -/
  busyTo : Nat
  deriving DecidableEq, Repr, Inhabited

/-- A TLB entry (R312). -/
structure TlbEntry where
  ctx : Nat
  /-- VA div page size, with the level's page size in bits -/
  vpn : Nat
  bits : Nat
  pte : DWord
  deriving DecidableEq, Repr, Inhabited

/-- Coherence state of a grain in an L1 (R264). -/
inductive Coh where
  | m | o | e | s
  deriving DecidableEq, Repr, Inhabited

/-- A line of an L1 (R266): line number, grain bytes, coherence state of each 32-byte sector that is valid. -/
structure L1Line where
  line : Nat
  grain : Nat
  sect : Tab Coh := []
  deriving DecidableEq, Repr, Inhabited

/-- A line of the instruction cache (R403, R405): context, virtual line of 64 bytes, the words as fetched, header marks, whether marks exist,
breakpoint bits. -/
structure ILine where
  ctx : Nat
  vline : Nat
  words : List Word
  marks : BitVec 16
  checked : Bool
  brk : BitVec 16 := 0
  deriving DecidableEq, Repr, Inhabited

/-- What a plot keeps about one neighbour (R373, R381). -/
structure Nbr where
  /-- 2 | R381 22_reliability.md | 0, or 3 without a live neighbour -/
  st : Nat := 0
  /-- 3 | R381 22_reliability.md | 0 -/
  miss : Nat := 0
  /-- plots known here to accuse the neighbour | R374 22_reliability.md | none -/
  accusers : List Nat := []
  /-- well-formed heartbeats of this period | R373 22_reliability.md | 0 -/
  good : Nat := 0
  /-- malformed heartbeats of this period | R373 22_reliability.md | 0 -/
  bad : Nat := 0
  /-- vote flits of this period | R373 22_reliability.md | 0 -/
  flits : Nat := 0
  /-- a flit of this period made the neighbour babble (SEQ or self-fail) | R373 22_reliability.md | 0 -/
  babble : Bool := false
  /-- last SEQ received and the period it came in | R373 22_reliability.md | none -/
  lastSeq : Option (Nat × Nat) := none
  /-- consecutive good periods while in ACCUSE | R373 22_reliability.md | 0 -/
  clean : Nat := 0
  /-- plots that have voted to readmit the neighbour | R376 22_reliability.md | none -/
  readmit : List Nat := []
  deriving DecidableEq, Repr, Inhabited

/-- A resident set (R352) that is not in the active bank: the groups, by slot. -/
structure ResidentSet where
  groups : List Nat := []
  image : Option Nat := none
  deriving DecidableEq, Repr, Inhabited

/-- Progress of the spill engine (R355). -/
inductive SpillStep where
  | idle
  /-- step 1: drain the outgoing teams' commit buffers -/
  | drain
  /-- step 2: write the shadow bank and the outgoing teams' state -/
  | save
  /-- step 3: restore the incoming teams' state -/
  | restoreTeams
  /-- step 4: restore the next waiting set into the shadow bank -/
  | restoreSet
  deriving DecidableEq, Repr, Inhabited

/-- One plot (R10, R14). -/
structure Plot where
  /-- device cycle at which CYCLE last read 0 | R19 01_device.md | 0 -/
  cycleBase : Nat := 0
  /-- 1 | R375 22_reliability.md | 0: culled -/
  culled : Bool := false
  /-- 1 | R378 22_reliability.md | 0: retired -/
  retired : Bool := false
  /-- the plot has no HB answer: its router is silent (PLOT_FAILURE) or babbles | R373 22_reliability.md | 0 -/
  failed : Nat := 0
  /-- withdrawn for an in-field test | R379 22_reliability.md | 0 -/
  withdrawn : Bool := false
  /-- 16 | R380 22_reliability.md | 0: id of the last in-field package that named the plot, as HB.RESULT reports it -/
  pkg : Nat := 0
  /-- an in-field test runs on it | R379 22_reliability.md | 0 -/
  testing : Bool := false
  /-- power withholds new teams | R411 28_bringup.md | 0 -/
  withheld : Bool := false
  /-- 1 | R373 22_reliability.md | 0: HB.HEALTH[3], self-fail -/
  selfFail : Bool := false
  /-- corrected errors of its die when the plot last sent a heartbeat | R371 22_reliability.md | 0 -/
  hbCe : Nat := 0
  /-- tick of the cull in force (APPEAL) | R376 22_reliability.md | 0 -/
  cullTick : Nat := 0
  /-- earliest announced cull tick | R374 22_reliability.md | none -/
  cullAt : Option Nat := none
  /-- earliest announced readmission tick | R376 22_reliability.md | none -/
  readmitAt : Option Nat := none
  /-- end tick of a self-test that is running | R376 22_reliability.md | none -/
  testEnd : Option Nat := none
  /-- the next cull is a stranding cull | R374 22_reliability.md | 0 -/
  stranded : Bool := false
  /-- 8 slots | R46 03_execution.md | empty: group of each slot of the active bank -/
  slots : List (Option Nat) := [none, none, none, none, none, none, none, none]
  /-- the shadow bank | R352 20_faults.md | empty -/
  shadow : Option ResidentSet := none
  /-- spilled sets that wait | R355 20_faults.md | none -/
  spilled : List ResidentSet := []
  /-- the outgoing set that the spill engine is saving | R355 20_faults.md | none -/
  outgoing : Option ResidentSet := none
  /-- spill engine | R355 20_faults.md | idle -/
  spill : SpillStep := .idle
  /-- last cycle of a swap's blackout | R353 20_faults.md | 0 -/
  blackout : Nat := 0
  /-- 0, 64, 128, 192 KiB | R41 03_execution.md | 0: shared partition -/
  partition : Nat := 0
  /-- 24 entries | R214 11_memory_instructions.md | unowned -/
  tiles : Tab Tile := []
  /-- the Sieve | R255 12_matrix_instructions.md | free -/
  sieve : Sieve := {}
  /-- tile entries of teams that are carried out, by tile | R352, R355 20_faults.md | none -/
  savedTiles : List (Nat × Tile) := []
  /-- Sieves of teams that are carried out | R352, R355 20_faults.md | none -/
  savedSieves : List Sieve := []
  /-- 48 entries | R229 11_memory_instructions.md | empty -/
  rlt : List RltEntry := []
  /-- up to 16 instructions | R48 03_execution.md | empty: lane backend -/
  backend : List BackOp := []
  /-- cycle after which the datapath is free | R48 03_execution.md | 0 -/
  dataFree : Nat := 0
  /-- 9 × 64 | R406 26_debug.md | 0: ELIG1-ELIG8 (ELIG0 is CYCLE less their sum, R404) -/
  elig : Tab Nat := []
  /-- eligible groups of the cycle in progress, counted in ELIG at its end | R404 26_debug.md | 0 -/
  eligNow : Nat := 0
  /-- the write-back of the L1 at the end of a fusion holds the plot until this cycle (R268) -/
  flushTo : Nat := 0
  /-- 64 | R406 26_debug.md | 0: ISSUED -/
  issued : Nat := 0
  /-- 64 | R406 26_debug.md | 0: SLIPCNT -/
  slip : Nat := 0
  /-- 16 × 64 | R406 26_debug.md | 0: STALL(r), but for NO_GROUP (CYCLE less the rest, R404) -/
  stall : Tab Nat := []
  /-- 24 | R351 20_faults.md | 1,000,000: TSLICE -/
  tslice : Nat := 1000000
  /-- 64 | R351 20_faults.md | 0: SLOTPART -/
  slotPart : DWord := 0
  /-- writes of TSLICE and SLOTPART that take effect at the next slice boundary | R351 20_faults.md | none -/
  tsliceNext : Option Nat := none
  slotPartNext : Option DWord := none
  /-- tick of the last swap or restart | R354 20_faults.md | 0 -/
  sliceStart : Nat := 0
  /-- a slice expiry deferred by a halt | R357 20_faults.md | 0 -/
  expiryDeferred : Bool := false
  /-- a request of the host for a swap that a debug halt defers | R354 20_faults.md | false -/
  swapAsked : Bool := false
  /-- 256 KiB less the partition, 8-way | R266 14_memory.md | empty: L1 lines, key 8·set + way -/
  l1 : Tab L1Line := []
  /-- 7 bits per set | R262 14_memory.md | 0: tree pseudo-LRU. DESIGN CHOICE 0 (log entry 2) -/
  l1Lru : Tab Nat := []
  /-- 256 entries | R312 18_translation.md | empty: L1 TLB -/
  tlb : Tab TlbEntry := []
  /-- 255 | R312 18_translation.md | 0: tree pseudo-LRU of the L1 TLB. DESIGN CHOICE 0 (log entry 2) -/
  tlbLru : Nat := 0
  /-- 4,096 | R313 18_translation.md | 0: Bloom filter -/
  bloom : BitVec 4096 := 0
  /-- a rebuild is in progress until this cycle | R314 18_translation.md | 0 -/
  bloomBusy : Nat := 0
  /-- 32 KiB | R14 01_device.md | empty: instruction cache -/
  icache : List ILine := []
  /-- instruction-line fetches outstanding (context, virtual line) | R405 26_debug.md | none -/
  fetching : List (Nat × Nat) := []
  /-- fetch failures still to be reported (context, virtual line, failure) | R199 11_memory_instructions.md | none -/
  fetchFail : List (Nat × Nat × Failure) := []
  /-- 4 neighbours | R381 22_reliability.md | OK: NBRVOTE -/
  nbr : Tab Nbr := []
  /-- 16 | R371 22_reliability.md | 0: HB.SEQ -/
  hbSeq : Nat := 0
  /-- 32 | R381 22_reliability.md | 0: CULLDROP -/
  cullDrop : Nat := 0
  /-- commands and drains that wait in the plot for range locks, oldest first | R229 11_memory_instructions.md | none -/
  waiting : List RangeWait := []
  deriving DecidableEq, Repr, Inhabited

/-! ## Engines -/

/-- State of a copy command (R223-R230). -/
inductive CmdState where
  /-- the block is being read -/
  | reading
  /-- in the plot, before its range locks -/
  | plot
  /-- registered; waits for its tiles -/
  | locked
  /-- in its engine's queue -/
  | queued
  | running
  /-- held by a record of the fault queue -/
  | faulted
  /-- its last write is done; the completion is to come -/
  | finished
  /-- a peer computes its checksum (R394) -/
  | peer
  deriving DecidableEq, Repr, Inhabited

/-- The translation of a page that an engine keeps for its command (R227): first address, bits, leaf entry, through the replica. -/
structure KeptPage where
  base : Nat
  bits : Nat
  pte : Nat
  replica : Bool := false
  deriving DecidableEq, Repr, Inhabited

/-- A copy command. -/
structure Cmd where
  gid : Nat
  team : Nat
  ctx : Nat
  plot : Nat
  /-- the variable-latency word that submitted it -/
  op : Nat
  /-- index in its batch -/
  idx : Nat := 0
  batch : Bool := false
  ce : Nat := 0
  blk : BitVec 512 := 0
  st : CmdState := .reading
  /-- bytes or elements done -/
  pos : Nat := 0
  status : Nat := 0
  /-- checksum of the stream so far: value, and the partial word of SUM32 (bytes, count) -/
  sum : BitVec 32 := 0
  sumLen : Nat := 0
  /-- CRC32C continues from the chain's value at start -/
  start : BitVec 32 := 0
  /-- checksum mismatches of a replicated CONVERT (R339) -/
  tries : Nat := 0
  /-- source through the replica lease -/
  replica : Bool := false
  /-- the signal word has met a fault (R230) -/
  sigFault : Bool := false
  /-- the engine has begun the command (R228) -/
  started : Bool := false
  /-- its named tiles have left EMPTY or READY (R214) -/
  tiles : Bool := false
  /-- CONVERT: elements of the source block at `pos` already written, and granules of the row written (R226) -/
  skip : Nat := 0
  out : Nat := 0
  /-- CONVERT of an EGC stream: bits consumed (R123) -/
  bit : Nat := 0
  /-- codes of the stream's last group that no row has taken yet (R120) -/
  carry : List Nat := []
  /-- the stream arrives from pool or peer: its bytes enter the checksum before they are decoded (R393) -/
  rawSum : Bool := false
  /-- pages of its ranges that the engine has reached (R227) -/
  pages : List KeptPage := []
  deriving DecidableEq, Repr, Inhabited

/-- A copy engine (R392). -/
structure Ce where
  /-- 64 commands | R392 24_links.md | empty -/
  queue : List Nat := []
  /-- the command whose segment is being moved -/
  busy : Option Nat := none
  /-- context served last and segments left of its round | R391 24_links.md | none -/
  rr : Option (Nat × Nat) := none
  deriving DecidableEq, Repr, Inhabited

/-- State of an accumulator slot (R234). -/
inductive SlotState where
  | filling | ready | draining
  deriving DecidableEq, Repr, Inhabited

/-- An owned accumulator slot (R233). -/
structure AccSlot where
  team : Nat
  /-- rows and columns in 32s -/
  tr : Nat
  tc : Nat
  unit : Nat
  st : SlotState := .ready
  /-- 6 | R116 07_numbers.md | 0: sticky status -/
  status : BitVec 6 := 0
  /-- mask record: mode, d, constant code, value | R243 12_matrix_instructions.md | none -/
  mask : Nat × Int × Nat × Word := (0, 0, 0, 0)
  deriving DecidableEq, Repr, Inhabited

/-- An entry of a quad's reservation table (R235): a pass part or a drain. -/
structure MxReq where
  drain : Bool
  gid : Nat
  team : Nat
  op : Nat
  plot : Nat
  gslot : Nat
  /-- accumulator slot -/
  slot : Nat := 0
  /-- entry cycle, once in the order of R236 -/
  entry : Option Nat := none
  granted : Option Nat := none
  /-- parameter block (pass) or drain block -/
  blk : BitVec 512 := 0
  a : List Granule := []
  b : List Granule := []
  /-- part number of a split pass; its A-source group and word, once the broadcast has been taken (R245) -/
  part : Option Nat := none
  asrc : Option (Nat × Nat) := none
  /-- rows of a drain written -/
  row : Nat := 0
  /-- destination and scale blocks translated by the drain's checks: virtual block, DPA -/
  xlat : List (Nat × Nat) := []
  /-- register results of a drain -/
  out : List (Nat × Nat × Granule) := []
  status : BitVec 6 := 0
  /-- the team has ended: no register or memory write any more (R253) -/
  cut : Bool := false
  deriving DecidableEq, Repr, Inhabited

/-- A broadcast of an A operand that is on its way to a quad, or waits there for its B-source (R245). -/
structure Bcast where
  id : Nat
  gid : Nat
  op : Nat
  bsrc : Nat
  blk : BitVec 512 := 0
  a : List Granule := []
  arrived : Bool := false
  deriving DecidableEq, Repr, Inhabited

/-- One quad's matrix engine (R233). -/
structure Quad where
  /-- 8 slots | R233 12_matrix_instructions.md | EMPTY -/
  slots : Tab AccSlot := []
  /-- 32,768 × 96 | R233 12_matrix_instructions.md | 0: accumulator entries, key 1024·unit + 32·row + column -/
  acc : Tab Acc := []
  /-- 16 entries | R235 12_matrix_instructions.md | empty: reservation table -/
  resv : Tab MxReq := []
  /-- broadcasts on the way or waiting, oldest first | R245 12_matrix_instructions.md | none -/
  bcasts : List Bcast := []
  /-- first cycle at which the next pass may be granted | R237 12_matrix_instructions.md | 0 -/
  arrayFree : Nat := 0
  /-- first cycle at which the drain path is free | R237 12_matrix_instructions.md | 0 -/
  drainFree : Nat := 0
  /-- withdrawn for an in-field test | R379 22_reliability.md | 0 -/
  withdrawn : Bool := false
  deriving DecidableEq, Repr, Inhabited

/-! ## Dies, HBM, leases -/

/-- State of a directory entry other than Uncached (R264). -/
inductive DirState where
  | shared | exclusive | modified | owned
  deriving DecidableEq, Repr, Inhabited

/-- A directory entry (R264): state, owner plot, one sharer bit per quad. -/
structure DirEntry where
  st : DirState
  owner : Nat := 0
  sharers : BitVec 96 := 0
  deriving DecidableEq, Repr, Inhabited

/-- A line of an L2 slice (R261). -/
structure L2Line where
  line : Nat
  /-- grain in force, bytes | R263 14_memory.md -/
  grain : Nat
  /-- 16 | R261 14_memory.md | valid bits -/
  valid : BitVec 16 := 0
  /-- 16 | R261 14_memory.md | dirty bits -/
  dirty : BitVec 16 := 0
  /-- 6 | R362 22_reliability.md | owner tag -/
  owner : Nat := 0
  /-- directory entry of each grain, by first sector -/
  dir : Tab DirEntry := []
  deriving DecidableEq, Repr, Inhabited

/-- One die's shared units (R14). -/
structure Die where
  /-- 32 slices × 192 sets × 16 ways | R261 14_memory.md | empty: key (192·slice + set)·16 + way -/
  l2 : Tab L2Line := []
  /-- 15 per set | R262 14_memory.md | 0: tree pseudo-LRU. DESIGN CHOICE 0 (log entry 2) -/
  l2Lru : Tab Nat := []
  /-- quarantined ways, 16·slice + way | R363 22_reliability.md | from the fuse store -/
  quarantined : List Nat := []
  /-- 3 | R270 14_memory.md | 0: L2SCR.CUR -/
  scrCur : Nat := 0
  /-- 3 | R270 14_memory.md | 0: L2SCR.REQ -/
  scrReq : Nat := 0
  /-- 1 | R270 14_memory.md | 0: L2SCR.BUSY -/
  scrBusy : Bool := false
  /-- 8,192 entries in 8 ways | R312 18_translation.md | empty: L2 TLB, key 8·set + way -/
  tlb : Tab TlbEntry := []
  /-- 7 per set | R312 18_translation.md | 0: tree pseudo-LRU. DESIGN CHOICE 0 (log entry 2) -/
  tlbLru : Tab Nat := []
  /-- walkers busy, of 4: group, word, walker | R213 11_memory_instructions.md | 0 -/
  walkers : List (Nat × Nat × Nat) := []
  /-- pub requests that wait for a walker (group, op), oldest first | R213 11_memory_instructions.md | none -/
  pubQueue : List (Nat × Nat) := []
  /-- 16 | R381 22_reliability.md | 0: RASCNT.POISON -/
  rasPoison : Nat := 0
  /-- 16 | R381 22_reliability.md | 0: RASCNT.UE -/
  rasUe : Nat := 0
  /-- 16 | R381 22_reliability.md | 0: RASCNT.CWD -/
  rasCwd : Nat := 0
  /-- 16 | R381 22_reliability.md | 0: RASCNT.CE -/
  rasCe : Nat := 0
  /-- 64 | R398 26_debug.md | TRRING: DESIGN CHOICE 0 (log entry 2) -/
  trRing : DWord := 0
  /-- 64 | R398 26_debug.md | TRHEAD: DESIGN CHOICE 0 (log entry 2) -/
  trHead : Nat := 0
  /-- 64 | R398 26_debug.md | TRTAIL: DESIGN CHOICE 0 (log entry 2) -/
  trTail : Nat := 0
  /-- 64 | R406 26_debug.md | 0: TRDROP -/
  trDrop : Nat := 0
  deriving DecidableEq, Repr, Inhabited

/-- A fill in progress (R316): unit, demanded block, blocks arrived, the context whose access asked for it (R337). -/
structure Fill where
  unit : Nat
  first : Nat
  done : Nat := 0
  ctx : Nat := 0
  deriving DecidableEq, Repr, Inhabited

/-- An HBM frame that is not in its reset state (R315). -/
structure Frame where
  /-- 48 | R315 18_translation.md | caches no unit -/
  tag : Option Nat := none
  /-- 1,024 | R315 18_translation.md | 0: block valid bits -/
  valid : BitVec 1024 := 0
  /-- 1,024 | R315 18_translation.md | 0: block dirty bits -/
  dirty : BitVec 1024 := 0
  /-- 16 | R315, R318 18_translation.md | 0: access counter -/
  count : Nat := 0
  /-- 1 | R315 18_translation.md | 0: reserved -/
  reserved : Bool := false
  /-- 2 | R315 18_translation.md | RCLASS of the page that filled it -/
  rclass : Nat := 0
  /-- 15 | R315 18_translation.md | MGROUP of the page that filled it -/
  mgroup : Nat := 0
  /-- 1 | R274 14_memory.md | 0: DEAD -/
  dead : Bool := false
  /-- zero fill in progress until this cycle | R275 14_memory.md | none -/
  zeroing : Option Nat := none
  /-- the cycle of the latest increments of the access counter, and their number | R318 18_translation.md | the model's own, DESIGN CHOICE none (log entry 4) -/
  served : Nat × Nat := (0, 0)
  /-- 1 | R332 18_translation.md | 0: host bias -/
  bias : Bool := false
  /-- 1 | R336 18_translation.md | 0: retired -/
  retired : Bool := false
  /-- page-cache fill in progress | R316 18_translation.md | none -/
  fill : Option Fill := none
  deriving DecidableEq, Repr, Inhabited

/-- An outstanding Rhaod request of a lease (R329). -/
structure LeaseReq where
  tag : Nat
  ret : Bool
  sent : Nat
  /-- expiry asked -/
  expiry : DWord := 0
  /-- state before a return -/
  before : Nat := 1
  /-- who waits: the unit's group; none for a context reset -/
  waiter : Option Nat := none
  deriving DecidableEq, Repr, Inhabited

/-- A lease-table entry that is not FREE as at reset (R320). -/
structure Lease where
  /-- 256 | R320 18_translation.md | 0: the record (LR.STATE in [99:96]) -/
  data : BitVec 256 := 0
  /-- revocation deadline | R325 18_translation.md | none -/
  deadline : Option Nat := none
  /-- RENEW_DUE has been enqueued | R325 18_translation.md | 0 -/
  dueSent : Bool := false
  /-- outstanding Rhaod request | R329 18_translation.md | none -/
  req : Option LeaseReq := none
  /-- a reset of this context returns the lease; whether the RETURN has been sent | R395 24_links.md | none -/
  resetBy : Option (Nat × Bool) := none
  deriving DecidableEq, Repr, Inhabited

/-! ## The PGC's fault queue -/

/-- What a record of the fault queue stops (FQ.SRC, R337). -/
inductive FqTarget where
  | group (gid op : Nat)
  | fetch (gid : Nat) (vline : Nat)
  | engine (cmd : Nat)
  | drain (team : Nat) (blk : Nat)
  /-- the completion word of a launch -/
  | word (ctx serial : Nat)
  /-- the write of a trap record -/
  | trap (ctx seq : Nat)
  /-- a spill of a plot (R387) -/
  | spill (plot : Nat)
  /-- the read of a launch block that a doorbell names (R388) -/
  | root (ctx va : Nat)
  /-- the range that a back-invalidation blocks (R331) -/
  | binv (id : Nat)
  /-- a plot's walk on its own (R309) -/
  | walk (plot ctx va : Nat) (acc : AccKind)
  /-- a fill that waits under MODELCAP (R319) -/
  | model (dpa rclass mgroup : Nat)
  | info
  deriving DecidableEq, Repr, Inhabited

/-- The fields of a fault-queue record that its sender gives (R334). -/
structure FqFields where
  kind : Nat
  ctx : Nat := 0
  src : Nat := 0
  acc : Nat := 0
  gslot : Nat := 0
  plot : Nat := 0
  team : Nat := 0
  detail : Nat := 0
  node : Nat := 0
  lease : Nat := 0
  addr : Nat := 0
  deriving DecidableEq, Repr, Inhabited

/-- A record of the fault queue (R334). -/
structure FqRec where
  /-- 256 | R334 18_translation.md | the record -/
  data : BitVec 256
  taken : Bool := false
  order : Nat
  target : FqTarget
  deriving DecidableEq, Repr, Inhabited

/-- The pager cores' shared state (R333-R336). -/
structure Pgc where
  /-- 1,024 slots | R334 18_translation.md | empty -/
  fq : Tab FqRec := []
  /-- requests held while the queue is full, oldest first | R334 18_translation.md | none -/
  fqWait : List (FqFields × FqTarget) := []
  /-- records on their way from a plot to the PGC, with the cycle in which each arrives | R415 01_device.md | none -/
  fqRoad : List (Nat × FqFields × FqTarget) := []
  /-- order of the next record -/
  fqNext : Nat := 0
  /-- 64 | R335 18_translation.md | 0: FRAMESTAT -/
  frameStat : Nat := 0
  /-- 64 | R335 18_translation.md | 0: MODELCAP -/
  modelCap : DWord := 0
  /-- 64 | R335 18_translation.md | 0x0100_0000: LEASEMARGIN -/
  leaseMargin : DWord := 0x01000000
  /-- 64 | R335 18_translation.md | 0: PCBYPASS -/
  pcBypass : DWord := 0
  /-- 64 | R335 18_translation.md | 0: LATEANS -/
  lateAns : DWord := 0
  /-- 64 | R335 18_translation.md | 0: RHBAD -/
  rhBad : DWord := 0
  /-- 16 | R329 18_translation.md | tag of the next Rhaod request: DESIGN CHOICE 0 (log entry 2) -/
  tag : Nat := 0
  /-- the PGC that serves: 0 active, 1 standby | R333 18_translation.md | 0 -/
  serving : Nat := 0
  /-- tick at which the standby starts | R333 18_translation.md | none -/
  takeover : Option Nat := none
  /-- DPA ranges blocked by back-invalidation: first, length, name of the block in its record | R331 18_translation.md | none -/
  blocked : List (Nat × Nat × Nat) := []
  /-- pages that a pmove holds (context, DPA of the page's leaf entry) | R338 18_translation.md | none -/
  moving : List (Nat × Nat) := []
  /-- records resolved whose resolution is on its way to a plot: by name, the record | R415 01_device.md | none -/
  answers : Tab FqRec := []
  /-- the clause that the serving PGC fetches, and the cycle in which its words are at hand; without a path none | R415 01_device.md | none -/
  codeAt : Option (Nat × Option Nat) := none
  deriving DecidableEq, Repr, Inhabited

/-! ## Host, debug, boot -/

/-- What the device sends out of the package, in order. -/
inductive Msg where
  /-- MSI-X message of a context's function (R390) -/
  | msix (ctx vec : Nat)
  /-- Rhaod lease message through a port (R327) -/
  | rhaod (port node : Nat) (data : BitVec 256)
  /-- CXL back-invalidation response (R331) -/
  | biRsp (dpa size : Nat)
  /-- data answered to a fabric read (R396) -/
  | readData (dpa : Nat) (data : List Byte) (poison : Bool)
  /-- the final write of a peer's command is done: whether its EGC stream was well-formed, and its checksum's value (R394) -/
  | peerDone (ok : Bool) (value : BitVec 32)
  /-- the EGC stream of a command to a peer: port, DPA, stream (R393) -/
  | egcStream (port dpa : Nat) (stream : List Byte)
  /-- write or peer traffic of an engine that leaves the package: port, DPA, bytes (R383) -/
  | engineOut (port dpa n : Nat)
  /-- answer to a management read of a register (R413) -/
  | mgmtReg (num : Nat) (value : DWord)
  /-- answer to an MCTP control message (R413) -/
  | mctp (code : Nat) (body : DWord)
  /-- PLDM monitoring answer (R413): power, coolant, the temperature of every channel that the last sample listed -/
  | pldm (watts coolant : Nat) (channels : List (Nat × Nat × Nat))
  /-- asynchronous management event (R413): 0 minimal mode, 1 thermal step, 2 fatal capacity, 3 plot retirement -/
  | event (kind arg : Nat)
  deriving DecidableEq, Repr, Inhabited

/-- Debug and host registers that are not a context's. -/
structure Regs where
  /-- 64 | R398 26_debug.md | DBGOWN: DESIGN CHOICE 0 (log entry 2) -/
  dbgOwn : DWord := 0
  /-- 64 | R398 26_debug.md | TSTOPT: DESIGN CHOICE 0 (log entry 2) -/
  tstopt : DWord := 0
  /-- 1 | R398 26_debug.md | TSTOPCTL.ARM: DESIGN CHOICE 0 (log entry 2) -/
  arm : Bool := false
  /-- 1 | R398 26_debug.md | TSTOPCTL.STOPPED: DESIGN CHOICE 0 (log entry 2) -/
  stopped : Bool := false
  /-- 64 × 64 | R398 26_debug.md | BRKMAP: DESIGN CHOICE 0 (log entry 2) -/
  brkMap : Tab DWord := []
  /-- 64 × 64 | R398 26_debug.md | BRKWIN: DESIGN CHOICE 0 (log entry 2) -/
  brkWin : Tab DWord := []
  /-- halt, resume and step requests written during a tick stop | R401 26_debug.md | none -/
  haltReqs : List DWord := []
  /-- 64 | R389 24_links.md | PGCANS0: DESIGN CHOICE 0 (log entry 2) -/
  pgcAns0 : DWord := 0
  /-- 11 | R385 24_links.md | DOMID: DESIGN CHOICE 0 (log entry 2) -/
  domId : BitVec 11 := 0
  /-- 64 | R380 22_reliability.md | 0: TESTADDR -/
  testAddr : DWord := 0
  /-- 16 | R380 22_reliability.md | 0: TESTCTL.REJECTS -/
  testRejects : Nat := 0
  /-- 9 | R380 22_reliability.md | 0: TESTCTL.PLOT -/
  testPlot : Nat := 0
  /-- 19 | R380 22_reliability.md | 0: TESTCTL.LEN -/
  testLen : Nat := 0
  /-- 4 | R380 22_reliability.md | 0: TESTCTL.STATUS -/
  testStatus : Nat := 0
  /-- 1 | R380 22_reliability.md | 0: TESTCTL.BUSY -/
  testBusy : Bool := false
  /-- 2 | R380 22_reliability.md | 0: TESTCTL.OP -/
  testOp : Nat := 0
  /-- operation in progress: OP, PLOT and LEN of its GO | R380 22_reliability.md | none -/
  testRun : Nat × Nat × Nat := (0, 0, 0)
  deriving DecidableEq, Repr, Inhabited

/-- The fuse store and the module flash, which survive a device reset (R407, R378). -/
structure Nvm where
  /-- retired plots | R378 22_reliability.md | none. DESIGN CHOICE none (log entry 2) -/
  retiredPlots : List Nat := []
  /-- up to 4,096 per stack | R363 22_reliability.md | none. DESIGN CHOICE none (log entry 2): retired frames -/
  retiredFrames : List Nat := []
  /-- quarantined ways, 512·die + 16·slice + way | R363 22_reliability.md | none. DESIGN CHOICE none (log entry 2) -/
  quarantined : List Nat := []
  /-- 32 | R407 28_bringup.md | minimum firmware version: DESIGN CHOICE 0 (log entry 2) -/
  minVersion : BitVec 32 := 0
  /-- two SHA-512 key hashes, each with its revoke bit | R407 28_bringup.md | DESIGN CHOICE 0, unrevoked (log entry 2) -/
  keys : List (BitVec 512 × Bool) := [(0, false), (0, false)]
  /-- image in flash with its version, key and signature, loaded into PGC memory at boot | R407 28_bringup.md | DESIGN CHOICE an empty image of
  version 0, key and signature 0 (log entry 6) -/
  image : FirmwareImage := { version := 0, bytes := [], key := {}, sig := 0 }
  /-- 2 | R409 28_bringup.md | 0: FAILS -/
  fails : Nat := 0
  /-- 4 | R409 28_bringup.md | 0: CAUSE -/
  cause : Nat := 0
  /-- 4 | R409 28_bringup.md | 0: STEP -/
  step : Nat := 0
  /-- operating time last written, ticks | R378 22_reliability.md | 0. DESIGN CHOICE 0 (log entry 2) -/
  opTime : Nat := 0
  /-- operating time of the last two regrafts of each plot | R378 22_reliability.md | none -/
  regrafts : Tab (List Nat) := []
  deriving DecidableEq, Repr, Inhabited

/-- Start-up and power (R407-R414). -/
structure Boot where
  /-- 2 | R409 28_bringup.md | SRC: 0, power-on -/
  src : Nat := 0
  /-- 32 | R409 28_bringup.md | 0: FWVER -/
  fwver : BitVec 32 := 0
  /-- minimal mode | R408 28_bringup.md | 0 -/
  minimal : Bool := false
  /-- a start is running and has not reached step 7 -/
  starting : Bool := false
  /-- 1 | R23 01_device.md | 1: MEMCAPS.PARITY -/
  parity : Bool := true
  /-- operating time at the last reset | R378 22_reliability.md | 0 -/
  opBase : Nat := 0
  /-- 11 | R410 28_bringup.md | 1,800: PWRCAP -/
  pwrcap : Nat := 1800
  /-- 8 × 32 × 2 | R412 28_bringup.md | 0: HBMRATE, key 32·stack + channel -/
  rate : Tab Nat := []
  /-- channels in a switch: end cycle of the stall, the new code, and the code ordered meanwhile | R412 28_bringup.md | none -/
  switching : Tab (Nat × Nat × Option Nat) := []
  /-- dies above 110 degrees in the last sample | R414 28_bringup.md | none -/
  hot : List Nat := []
  /-- what the sensors show until they show something else (the outside world sets it) | R411 28_bringup.md | DESIGN CHOICE 0 watts, 60 degrees
  (log entry 2) -/
  sensed : PowerReading := { watts := 0, channels := [], dies := [], coolant := 0, boots := [] }
  /-- trained ports: speed in GT/s and lanes | R382 24_links.md, R408 28_bringup.md | DESIGN CHOICE all eight at 64 GT/s and 16 lanes (log entry 2) -/
  links : Tab (Nat × Nat) := (List.range 8).map (fun p => (p, 64, 16))
  /-- 1 | R408 28_bringup.md | VF enable: PRESUMED 0 (PCIe; log entry 123) -/
  vfEnable : Bool := false
  /-- last sample: watts | R413 28_bringup.md | 0. DESIGN CHOICE 0 (log entry 2) -/
  watts : Nat := 0
  /-- last sample: coolant, degrees | R413 28_bringup.md | 0. DESIGN CHOICE 0 (log entry 2) -/
  coolant : Nat := 0
  /-- last sample: channel temperatures | R413 28_bringup.md | none. DESIGN CHOICE none (log entry 2) -/
  temps : List (Nat × Nat × Nat) := []
  deriving DecidableEq, Repr, Inhabited

/-! ## The machine -/

/-- Memory: bytes by DPA. -/
abbrev Memory := List Host.Cell

/-- The one form of a memory (R273: what nothing has written reads zero): addresses strictly rise, and no zero byte is listed.
DEDUCED: log entry 18. -/
def Memory.wf (m : Memory) : Bool := tabSorted m && m.all (fun c => decide (c.2 ≠ 0))

/-- The whole machine. -/
structure State where
  /-- core cycles since the device left reset; TICK is this div 2 mod 2^64 | R17, R18 01_device.md | 0 -/
  cycle : Nat := 0
  /-- units that have still to take their turn in this cycle (plots 0-383, 384 the serving PGC) | R46 03_execution.md | none -/
  todo : List Nat := []
  /-- steps of the device and of the outside world that are due, earliest first (MODEL's own) | log entry 4 | none -/
  agenda : List Due := []
  /-- operands of the step that is running, when it has no encoding (MODEL's own) | log entry 4 | none -/
  ev : Ev := {}
  /-- counter of the free values (MODEL's own) | log entry 5 | 0 -/
  fresh : Nat := 0
  /-- counter that names operations, commands, teams, groups (MODEL's own) | log entry 4 | 2 -/
  nextId : Nat := 2
  /-- bytes by DPA, canonical, unlisted bytes read 0 | R108 07_numbers.md, R259 14_memory.md | nothing listed -/
  mem : Memory := []
  /-- 64 per block of HBM, scratch, pool and peer | R108 07_numbers.md | 0: DESC[47:0] and AUX tags and marks, by DPA div 64 -/
  desc : Tab (BitVec 48) := []
  /-- per block that is dirty in the caches, what its own memory still holds (64 bytes as a number, DESC[47:0]), by DPA div 64: what a
  discard without write-back leaves | R262 14_memory.md, R336 18_translation.md | none -/
  under : Tab (Nat × BitVec 48) := []
  /-- counter per block | R276 14_memory.md | 0: write versions, by the block's place div 64 -/
  versions : Tab Nat := []
  /-- CXL switches on the fabric route to each node: the topology sets it, and no step changes it (MODEL's own) | R27 01_device.md | 1:
  DESIGN CHOICE 1 (log entry 91) -/
  switches : Tab Nat := []
  /-- poisoned blocks, by DPA div 64 | R361 22_reliability.md | none -/
  poison : List Nat := []
  /-- HBM errors that wait to be found: DPA div 64, correctable | R360 22_reliability.md | none -/
  eccErrors : List (Nat × Bool) := []
  /-- corrupted blocks of L2 lines that wait to be found, by DPA div 64 | R363 22_reliability.md | none -/
  l2Errors : List Nat := []
  /-- pending write-backs of the scrubbers, by stack: DPA div 64, the 64 bytes as corrected, the write version that was read
  | R276 14_memory.md | none -/
  scrub : Tab (Nat × Nat × Nat) := []
  groups : Tab Group := []
  teams : Tab Team := []
  clusters : Tab Cluster := []
  ctxs : Tab Context := []
  plots : Tab Plot := []
  quads : Tab Quad := []
  dies : Tab Die := []
  ces : Tab Ce := []
  cmds : Tab Cmd := []
  frames : Tab Frame := []
  leases : Tab Lease := []
  pgc : Pgc := {}
  regs : Regs := {}
  nvm : Nvm := {}
  boot : Boot := {}
  /-- context the placer served last | R40 03_execution.md | none -/
  placerLast : Option Nat := none
  /-- LIVE.INSERV is 384 less the plots culled, failed at boot or retired | R24 01_device.md | 384 -/
  outbox : List Msg := []
  deriving DecidableEq, Repr, Inhabited

/-- Why the machine stops. -/
inductive Fault where
  /-- Raised by every meaning of an instruction word when no group or PGC is at issue: there is no unit whose registers the
  word could name. The hardware never issues a word so. Safe: it adds no behaviour. -/
  | noIssuer
  deriving DecidableEq, Repr

/-- Why a step has no meaning. -/
inductive Refusal where
  /-- Raised by an arm of `exec` that has no meaning yet. Safe. -/
  | notModelled (mnemonic : String)
  deriving DecidableEq, Repr

/-- The group of a PGC at start: one lane at offset 0 of its own memory (R333). -/
def pgcGroup (n : Nat) : Group :=
  { pgc := true, plot := 384 + n, rows := 0,
    frontier := [{ addr := 0x00F800000000, lanes := 1 }] }

/-- The machine right after reset: step 7 of R407 is done, TICK reads 0, and every register holds the value of its Reset
column, or the value log entry 2 names. The heartbeats of plots 0 and 256 are due in tick 0 (R372). DESIGN CHOICE: log entry 6. -/
def State.reset : State :=
  { groups := [(0, pgcGroup 0), (1, { pgcGroup 1 with loc := .gone })]
    agenda := [{ what := .heartbeatSend, ev := { a := 0 } }, { what := .heartbeatSend, ev := { a := 256 } }] }

end Sys2Proof.Machine
end

