-- ==== Sys2Proof/Machine/Operands.lean ====
section
/-! DEFINITION. What the fields of an instruction word name, without regard to any state: the operand blocks of lane words
(R70-R75, R140, R188), the prefix fields each form accepts (R72, R77), the registers, masks and flags each uniform word reads
and writes (R80-R84), the checks of causes 2 to 5 that depend on the word alone (R85), the datapath classes (R48, R126). -/

namespace Sys2Proof.Machine

/-! ## Operand blocks -/

/-- Rows and columns of an extent (R71). -/
def shapeOf (x : BitVec 3) : Nat × Nat :=
  match x.toNat with
  | 0 => (1, 1) | 1 => (1, 2) | 2 => (1, 4) | 3 => (1, 8) | 4 => (1, 16) | 5 => (2, 16) | 6 => (4, 16) | _ => (2, 8)

/-- A register operand of a lane word: the code of R70, registers per element, shape. -/
structure Opnd where
  code : Nat
  w : Nat := 1
  rows : Nat := 1
  cols : Nat := 1
  deriving DecidableEq, Repr, Inhabited

/-- The operand names a vector register (R70). -/
def Opnd.isV (o : Opnd) : Bool := decide (o.code < 96)

/-- The registers of a v operand, element by element (R71, R188). -/
def Opnd.regs (o : Opnd) : List Nat :=
  if o.isV then (List.range o.rows).flatMap (fun r => (List.range (o.w * o.cols)).map (fun c => o.code + 16 * r + c)) else []

/-- Register-operations that an operand of this shape makes (R48). -/
def Opnd.count (o : Opnd) : Nat := o.rows * o.cols * o.w

/-- The placement rules of R71 and R188. DEDUCED: log entry 25 (the offset of vatom.add.n64 is even whatever it names, R72). -/
def Opnd.placed (o : Opnd) : Bool :=
  !o.isV || (decide (o.code % 16 + o.w * o.cols ≤ 16) && decide (o.code % o.w = 0) && decide (o.code + 16 * (o.rows - 1) ≤ 95))

/-- The register an operand names. -/
def Opnd.ids (o : Opnd) : List RegId := if o.isV then o.regs.map RegId.v else [RegId.s (o.code - 96)]

/-- A block operand of the word's extent. -/
def blockOf (c : BitVec 7) (x : BitVec 3) (w : Nat := 1) : Opnd :=
  { code := c.toNat, w := w, rows := (shapeOf x).1, cols := (shapeOf x).2 }

/-- A block operand whose columns are packed `n` to a register (R140). -/
def packedOf (c : BitVec 7) (x : BitVec 3) (n : Nat) : Opnd :=
  { code := c.toNat, rows := (shapeOf x).1, cols := (shapeOf x).2 / n }

/-- A single register. -/
def oneOf (c : BitVec 7) (w : Nat := 1) : Opnd := { code := c.toNat, w := w }

/-! ## Lane forms -/

/-- The prefix fields a form accepts, by the letters of R72. -/
structure Accepts where
  k : Bool := true
  z : Bool := true
  m : Bool := false
  s : Bool := false
  c : Bool := false
  deriving DecidableEq, Repr, Inhabited

/-- What a lane word names. -/
structure LaneForm where
  /-- v destination -/
  dst : Option Opnd := none
  /-- sources in A and B -/
  srcs : List Opnd := []
  /-- D read as data or operand (stores, atomics) -/
  data : Option Opnd := none
  /-- D is the addend when CV = 0 -/
  fused : Bool := false
  /-- block of the fourth operand -/
  c : Opnd := { code := 0 }
  /-- mask written -/
  km : Option Nat := none
  /-- masks read by the word's own fields -/
  kr : List Nat := []
  acc : Accepts := {}
  /-- cause 2: kinds of registers -/
  kinds : Bool := true
  /-- cause 3: codes within their lists -/
  codes : Bool := true
  /-- cause 4: alignments beyond R71 -/
  shapes : Bool := true
  /-- the form requires PFX.CV = 1 -/
  needsC : Bool := false
  /-- flag select of a variable-latency form -/
  sel : Option Nat := none
  /-- base s register -/
  base : Option Nat := none
  /-- register-operations, where they are not those of D -/
  ops : Option Nat := none
  /-- cycles from entry to result (R126) -/
  lat : Nat := 8
  /-- cycles each operation holds the datapath (R48) -/
  busy : Nat := 1
  deriving DecidableEq, Repr, Inhabited

def kz : Accepts := {}
def kzs : Accepts := { s := true }
/-- M* of R72: PFX.RM only with rint. -/
def rintOnly (s : BitVec 7) : Accepts := { m := decide (s = 5) }
def kzms : Accepts := { m := true, s := true }

/-- A form with destination and two sources of one width. -/
def lane2 (d a b : BitVec 7) (x : BitVec 3) (acc : Accepts) (w lat busy : Nat) : LaneForm :=
  { dst := some (blockOf d x w), srcs := [blockOf a x w, blockOf b x w], acc := acc, lat := lat, busy := busy }

/-- A fused form: the addend is C or D (R72). -/
def lane3 (d a b : BitVec 7) (x : BitVec 3) (acc : Accepts) (w lat : Nat) : LaneForm :=
  { dst := some (blockOf d x w), srcs := [blockOf a x w, blockOf b x w], fused := true, c := blockOf d x w,
    acc := { acc with c := true }, lat := lat }

/-- A form with one source. -/
def lane1 (d a : BitVec 7) (x : BitVec 3) (acc : Accepts) (w lat busy : Nat) : LaneForm :=
  { dst := some (blockOf d x w), srcs := [blockOf a x w], acc := acc, lat := lat, busy := busy }

/-- A compare (R73, R131): it counts the registers of one source operand (R48). -/
def laneCmp (k : BitVec 3) (c : BitVec 4) (a b : BitVec 7) (x : BitVec 3) (w lat : Nat) (float : Bool) : LaneForm :=
  { srcs := [blockOf a x w, blockOf b x w], km := some k.toNat, lat := lat, ops := some (blockOf a x w).count,
    codes := decide (k ≠ 0) && (decide (c.toNat < 6) || (float && (decide (c = 8) || decide (c = 9)))) }

/-- A lane load (R188, R190). -/
def laneLoad (d a : BitVec 7) (f : BitVec 1) (s : BitVec 5) (x : BitVec 3) (w : Nat) : LaneForm :=
  { dst := some (blockOf d x w), srcs := [oneOf a], sel := some f.toNat, base := some s.toNat }

/-- A lane store: D is the data, and may name an s register unless it is 16 bytes wide (R190). -/
def laneStore (d a : BitVec 7) (f : BitVec 1) (s : BitVec 5) (x : BitVec 3) (w : Nat) : LaneForm :=
  { data := some (blockOf d x w), srcs := [oneOf a], sel := some f.toNat, base := some s.toNat, acc := { z := false },
    kinds := decide (w < 4) || decide (d.toNat < 96) }

/-- A lane atomic (R202): D is the operand, and the destination of the old value when X[0] = 1. -/
def laneAtom (d a : BitVec 7) (f : BitVec 1) (s : BitVec 5) (r : BitVec 1) (w : Nat) : LaneForm :=
  { data := some (oneOf d w), srcs := [oneOf a w], sel := some f.toNat, base := some s.toNat,
    dst := if r = 1 then some (oneOf d w) else none, acc := { z := false }, kinds := decide (d.toNat < 96), ops := some w }

/-- vcvt: registers per element of A and of D by conversion code (R139). -/
def cvtWidths (c : Nat) : Nat × Nat :=
  match c with
  | 4 => (2, 1) | 6 => (2, 1) | 8 => (2, 1) | 5 => (1, 2) | 7 => (1, 2) | _ => (1, 1)

/-- Format codes that vpk8 and vupk8 accept (R141). -/
def fmt8 (c : BitVec 7) : Bool := decide (c = 1) || decide (c = 2) || decide (c = 8) || decide (c = 9)
/-- Format codes that vpk4 and vupk4 accept (R141). -/
def fmt4 (c : BitVec 7) : Bool := decide (c = 3) || decide (c = 12)

/-- What a lane word names; none for any other step. DEDUCED: log entry 43. -/
def laneForm : Instr → Option LaneForm
  | .vaddI32 d a b x | .vsubI32 d a b x | .vaddsI32 d a b x | .vaddsN32 d a b x | .vsubsI32 d a b x | .vsubsN32 d a b x
  | .vmulI32 d a b x | .vmulhI32 d a b x | .vmulhN32 d a b x | .vminI32 d a b x | .vmaxI32 d a b x | .vminN32 d a b x
  | .vmaxN32 d a b x | .vand d a b x | .vor d a b x | .vxor d a b x | .vandn d a b x | .vshl d a b x | .vshrN32 d a b x
  | .vshrI32 d a b x | .vrol d a b x => some (lane2 d a b x kz 1 8 1)
  | .vmadI32 d a b x => some (lane3 d a b x kz 1 8)
  | .vunI d a s x => some { lane1 d a x kz 1 8 1 with codes := decide (s.toNat < 8) }
  | .vmov d a x => some (lane1 d a x kz 1 8 1)
  | .vli d _ x => some { dst := some (blockOf d x) }
  | .vsel d a b k =>
    some { dst := some (oneOf d), srcs := [oneOf a, oneOf b], kr := [k.toNat], codes := decide (k ≠ 0),
           acc := { k := false, z := false } }
  | .vcmpI32 k c a b x => some (laneCmp k c a b x 1 8 false)
  | .vcmpN32 k c a b x => some (laneCmp k c a b x 1 8 false)
  | .vcmpF32 k c a b x => some (laneCmp k c a b x 1 8 true)
  | .vcmpF64 k c a b x => some (laneCmp k c a b x 2 16 true)
  | .vlane d x => some { dst := some (blockOf d x) }
  | .vaddF32 d a b x | .vsubF32 d a b x | .vmulF32 d a b x | .vaddBf16x2 d a b x | .vmulBf16x2 d a b x | .vaddF16x2 d a b x
  | .vmulF16x2 d a b x => some (lane2 d a b x kzms 1 8 1)
  | .vfmaF32 d a b x | .vfmaBf16x2 d a b x | .vfmaF16x2 d a b x => some (lane3 d a b x kzms 1 8)
  | .vminF32 d a b x | .vmaxF32 d a b x | .vcopysignF32 d a b x | .vmaxBf16x2 d a b x | .vmaxF16x2 d a b x =>
    some (lane2 d a b x kz 1 8 1)
  | .vunF32 d a s x => some { lane1 d a x (rintOnly s) 1 8 1 with codes := decide (s.toNat < 7) }
  | .vsfuF32 d a s x => some { lane1 d a x kz 1 24 4 with codes := decide (s.toNat < 10) }
  | .vdivF32 d a b x => some (lane2 d a b x kzms 1 48 8)
  | .vaddF64 d a b x | .vmulF64 d a b x => some (lane2 d a b x kzms 2 16 1)
  | .vfmaF64 d a b x => some (lane3 d a b x kzms 2 16)
  | .vminF64 d a b x | .vmaxF64 d a b x => some (lane2 d a b x kz 2 16 1)
  | .vunF64 d a s x => some { lane1 d a x (rintOnly s) 2 16 1 with codes := decide (s.toNat < 7) }
  | .vdivF64 d a b x => some (lane2 d a b x kzms 2 96 16)
  | .vsqrtF64 d a x => some (lane1 d a x kzms 2 96 16)
  | .vcvt d a c x =>
    let w := cvtWidths c.toNat
    some { dst := some (blockOf d x w.2), srcs := [blockOf a x w.1], acc := kzms, codes := decide (c.toNat < 0x17),
           lat := (if w = (1, 1) then 8 else 16) }
  | .vpk8 d a c x =>
    some { dst := some (packedOf d x 4), srcs := [blockOf a x], acc := kzms, codes := fmt8 c,
           shapes := decide (4 ≤ (shapeOf x).2) }
  | .vupk8 d a c x =>
    some { dst := some (blockOf d x), srcs := [packedOf a x 4], codes := fmt8 c,
           shapes := decide (4 ≤ (shapeOf x).2) }
  | .vpk4 d a c x =>
    some { dst := some (packedOf d x 8), srcs := [blockOf a x], acc := kzms, codes := fmt4 c,
           shapes := decide (8 ≤ (shapeOf x).2) }
  | .vupk4 d a c x =>
    some { dst := some (blockOf d x), srcs := [packedOf a x 8], codes := fmt4 c,
           shapes := decide (8 ≤ (shapeOf x).2) }
  | .vshflIdx d a b x => some (lane2 d a b x kz 1 12 1)
  | .vshflXor d a e x | .vshflUp d a e x | .vshflDn d a e x =>
    some { lane1 d a x kz 1 12 1 with codes := decide (1 ≤ e.toNat) && decide (e.toNat ≤ 6) }
  | .vswp2 d a x => some (lane1 d a x kz 1 12 1)
  | .vred d a s _ x | .vscan d a s _ x => some { lane1 d a x kz 1 12 1 with codes := decide (s.toNat ≤ 6) }
  | .vdot4I8 d a b x | .vdot4N8 d a b x | .vdot8I4 d a b x => some (lane3 d a b x kzs 1 8)
  | .vdot4E4m3 d a b x | .vdsq4E4m3 d a b x | .vdsq2Bf16 d a b x => some (lane3 d a b x { m := true } 1 8)
  | .vhamm d a b x => some (lane3 d a b x kz 1 8)
  | .vsieve a b => some { srcs := [oneOf a, oneOf b], acc := { z := false }, ops := some 1 }
  | .vldB8 d a f _ s x | .vldI8 d a f _ s x | .vldB16 d a f _ s x | .vldI16 d a f _ s x | .vldB32 d a f _ s x =>
    some (laneLoad d a f s x 1)
  | .vldB64 d a f _ s x => some (laneLoad d a f s x 2)
  | .vldB128 d a f _ s x => some (laneLoad d a f s x 4)
  | .vldf d a f _ s x => some { laneLoad d a f s x 1 with kinds := decide (96 ≤ a.toNat) }
  | .vstB8 d a f _ s x | .vstB16 d a f _ s x | .vstB32 d a f _ s x => some (laneStore d a f s x 1)
  | .vstB64 d a f _ s x => some (laneStore d a f s x 2)
  | .vstB128 d a f _ s x => some (laneStore d a f s x 4)
  | .vstf d a f _ s x => some { laneStore d a f s x 1 with kinds := decide (96 ≤ a.toNat) }
  | .vldt d a f t x => some { laneLoad d a f 0 x 1 with base := none, codes := decide (t.toNat < 24) }
  | .vstt d a f t x => some { laneStore d a f 0 x 1 with base := none, codes := decide (t.toNat < 24) }
  | .vatomAddN32 d a f _ s _ r | .vatomAddF32 d a f _ s _ r | .vatomMinI32 d a f _ s _ r | .vatomMaxI32 d a f _ s _ r
  | .vatomMinN32 d a f _ s _ r | .vatomMaxN32 d a f _ s _ r | .vatomAnd d a f _ s _ r | .vatomOr d a f _ s _ r
  | .vatomXor d a f _ s _ r | .vatomXchg d a f _ s _ r => some (laneAtom d a f s r 1)
  | .vatomCas d a f _ s _ r =>
    some { laneAtom d a f s r 1 with acc := { z := false, c := true }, needsC := true, c := oneOf d }
  | .vatomAddN64 d a f _ s _ r => some { laneAtom d a f s r 2 with shapes := decide (a.toNat % 2 = 0) }
  | _ => none

/-- The fourth operand of a word under a prefix (R77). -/
def LaneForm.fourth (l : LaneForm) (p : Prefix) : Option Opnd := if p.cv then some { l.c with code := p.c.toNat } else none

/-- Every operand block of a word under a prefix. -/
def LaneForm.opnds (l : LaneForm) (p : Prefix) : List Opnd :=
  l.dst.toList ++ l.srcs ++ l.data.toList ++ (l.fourth p).toList

/-- The destination names a v register (R70). -/
def LaneForm.dstV (l : LaneForm) : Bool := match l.dst with | some o => o.isV | none => true

/-- A prefix field that is not zero and that the form does not accept, or another breach of R78. -/
def LaneForm.prefixBad (l : LaneForm) (p : Prefix) : Bool :=
  (decide (p.k ≠ 0) && !l.acc.k) || (p.z && !l.acc.z) || (decide (p.rm ≠ 0) && !l.acc.m) || (p.sat && !l.acc.s)
    || (p.cv && !l.acc.c) || (!p.cv && decide (p.c ≠ 0)) || (p.z && decide (p.k = 0)) || decide (6 ≤ p.rm.toNat)

/-- The first check of causes 2 to 5 that a lane word fails (R85). DEDUCED: log entry 25. -/
def LaneForm.cause (l : LaneForm) (p : Prefix) : Option Nat :=
  if !l.dstV || !l.kinds then some 2
  else if !l.codes then some 3
  else if !((l.opnds p).all Opnd.placed) || !l.shapes then some 4
  else if l.prefixBad p || (l.needsC && !p.cv) then some 5
  else none

/-- Registers and masks that a lane word reads (R49). -/
def LaneForm.reads (l : LaneForm) (p : Prefix) : List RegId :=
  (l.srcs ++ l.data.toList ++ (l.fourth p).toList ++ (if l.fused && !p.cv then l.dst.toList else [])).flatMap Opnd.ids
    ++ (l.base.toList.map RegId.s) ++ ((if p.k = 0 then l.kr else p.k.toNat :: l.kr).filter (fun k => decide (k ≠ 0))).map RegId.k

/-- Registers and masks that a lane word writes. -/
def LaneForm.writes (l : LaneForm) : List RegId := l.dst.toList.flatMap Opnd.ids ++ l.km.toList.map RegId.k

/-- Register-operations of a lane word (R48). -/
def LaneForm.regOps (l : LaneForm) : Nat :=
  match l.ops with
  | some n => n
  | none => match l.dst with
    | some o => o.count
    | none => match l.data with
      | some o => o.count
      | none => 1

/-- The highest vector register that a word names lies in a row below `m` (R59). -/
def LaneForm.rowsOk (l : LaneForm) (p : Prefix) (m : Nat) : Bool :=
  (l.opnds p).all (fun o => o.regs.all (fun r => decide (r / 16 < m)))

/-! ## Uniform forms -/

/-- What a uniform word names. -/
structure UniForm where
  /-- s registers read -/
  sr : List (BitVec 6) := []
  /-- s register written -/
  sw : Option (BitVec 6) := none
  /-- masks read -/
  kr : List (BitVec 3) := []
  /-- mask written -/
  kw : Option (BitVec 3) := none
  /-- sources that must be references (R153) -/
  tagged : List (BitVec 6) := []
  sel : Option Nat := none
  /-- cause 2 beyond the fields that the decoder checks -/
  fields : Bool := true
  /-- cause 3 -/
  codes : Bool := true
  /-- cause 4 -/
  aligned : Bool := true
  /-- transfers control (R54) -/
  transfer : Bool := false
  /-- privileged form (R185) -/
  priv : Bool := false
  /-- illegal on the PGC (R154) -/
  notPgc : Bool := false
  deriving DecidableEq, Repr, Inhabited

/-- A three-register form. -/
def uni3 (d a b : BitVec 6) : UniForm := { sr := [a, b], sw := some d }
/-- A two-register form. -/
def uni2 (d a : BitVec 6) : UniForm := { sr := [a], sw := some d }
/-- A privileged form. -/
def uniPriv (d : Option (BitVec 6)) (sr : List (BitVec 6)) : UniForm := { sr := sr, sw := d, priv := true }

/-- Special register numbers that a chapter assigns (R20, R62, R86, R335, R351, R381, R386, R406, R409, R410, R412). -/
def srAssigned (n : Nat) : Bool :=
  (decide (n ≤ 0x015) && decide (n ≠ 0x00F)) || decide (n = 0x020) || (decide (0x030 ≤ n) && decide (n ≤ 0x033))
  || (decide (0x040 ≤ n) && decide (n ≤ 0x04C)) || (decide (0x050 ≤ n) && decide (n ≤ 0x05F))
  || (decide (0x080 ≤ n) && decide (n ≤ 0x087)) || (decide (0x0C0 ≤ n) && decide (n ≤ 0x0CC))
  || (decide (0x100 ≤ n) && decide (n ≤ 0x109)) || decide (n = 0x200) || decide (n = 0x201)
  || (decide (0x210 ≤ n) && decide (n ≤ 0x217))

/-- What a uniform word names; none for any other step. -/
def uniForm : Instr → Option UniForm
  | .sadd d a b | .ssub d a b | .smul d a b | .smulhI64 d a b | .smulhN64 d a b | .sdiv d a b | .srem d a b | .sand d a b
  | .sor d a b | .sxor d a b | .sshl d a b | .sshr d a b | .smin d a b | .smax d a b => some (uni3 d a b)
  | .sun d a f => some { uni2 d a with codes := decide (f.toNat < 8) }
  | .saddi d a _ | .sandi d a _ | .sori d a _ => some (uni2 d a)
  | .sshli d a _ | .sshri d a _ => some (uni2 d a)
  | .scmp d a b _ c => some { uni3 d a b with codes := decide (c.toNat < 6) }
  | .sli d _ => some { sw := some d }
  | .slit d _ => some { sw := some d }
  | .slit64 d _ _ => some { sw := some d }
  | .sext d a p l | .sexts d a p l => some { uni2 d a with codes := decide (p.toNat + l.toNat + 1 ≤ 64) }
  | .sins d a p l => some { sr := [d, a], sw := some d, codes := decide (p.toNat + l.toNat + 1 ≤ 64) }
  | .sselnz d a b f => some { sr := [a, b, f], sw := some d }
  | .radd d a b => some { uni3 d a b with tagged := [a] }
  | .raddi d a _ => some { uni2 d a with tagged := [a] }
  | .rtag d a => some (uni2 d a)
  | .rbase d a => some { uni2 d a with tagged := [a] }
  | .oinit d a b => some { uni3 d a b with notPgc := true }
  | .ofree a | .oreset a => some { sr := [a], tagged := [a], notPgc := true }
  | .ostat d a => some { uni2 d a with tagged := [a] }
  | .sbal d k | .sfirst d k => some { kr := [k], sw := some d, notPgc := true }
  | .kset k a => some { sr := [a], kw := some k, codes := decide (k ≠ 0), notPgc := true }
  | .kop d a b p =>
    some { kr := [a, b], kw := some d, codes := decide (d ≠ 0) && decide (p.toNat < 6),
           fields := decide (p.toNat < 4) || decide (6 ≤ p.toNat) || decide (b = 0), notPgc := true }
  | .br _ => some { transfer := true }
  | .bz t _ | .bnz t _ => some { sr := [t], transfer := true }
  | .bkany k _ | .bknone k _ | .bl k _ => some { kr := [k], transfer := true, notPgc := true }
  | .call _ => some { sw := some 62, transfer := true }
  | .callx d a => some { uni2 d a with transfer := true }
  | .jmpx a => some { sr := [a], transfer := true }
  | .exit => some { transfer := true, notPgc := true }
  | .wfl _ => some {}
  | .nop => some {}
  | .bar s _ | .barr s _ | .barw s _ => some { codes := decide (s.toNat < 2), notPgc := true }
  | .mwait d a _ => some { sr := [d, a], sw := some d }
  | .fence _ s => some { codes := decide (s.toNat < 5) }
  | .fenceng => some {}
  | .racq n => some { codes := decide (1 ≤ n.toNat) && decide (n.toNat ≤ 4), notPgc := true }
  | .racqTry d n => some { sw := some d, codes := decide (1 ≤ n.toNat) && decide (n.toNat ≤ 4), notPgc := true }
  | .rrel n => some { codes := decide (1 ≤ n.toNat) && decide (n.toNat ≤ 4), notPgc := true }
  | .sld d b i w s f _ => some { sr := [b, i], sw := some d, sel := some f.toNat, codes := !(decide (w = 3) && decide (s = 1)) }
  | .sst d b i _ f _ => some { sr := [d, b, i], sel := some f.toNat }
  | .satom d a b _ p f => some { sr := (if p = 7 then [d, a, b] else [a, b]), sw := some d, sel := some f.toNat }
  | .rld d b i f _ => some { sr := [b, i], sw := some d, sel := some f.toNat }
  | .rst d b i f _ => some { sr := [d, b, i], sel := some f.toNat }
  | .pub a b f _ s => some { sr := [a, b], tagged := [a], sel := some f.toNat, codes := decide (s.toNat < 3) }
  | .pfh a f => some { sr := [a], sel := some f.toNat }
  | .advNeed a b | .advCold a b | .advWarm a b => some { sr := [a, b] }
  | .tset t a b _ => some { sr := [a, b], codes := decide (t.toNat < 24), notPgc := true }
  | .tstat d t => some { sw := some d, codes := decide (t.toNat < 24), notPgc := true }
  | .tdrop t | .tdropFree t => some { codes := decide (t.toNat < 24), notPgc := true }
  | .cpy d a f => some { uni2 d a with sel := some f.toNat, notPgc := true }
  | .cpyCe d a b f | .cpyq d a b f => some { uni3 d a b with sel := some f.toNat, notPgc := true }
  | .mxp a f => some { sr := [a, a + 1, a + 2, a + 3], sel := some f.toNat, aligned := decide (a.toNat % 4 = 0), notPgc := true }
  | .mxd d a f => some { uni2 d a with sel := some f.toNat, notPgc := true }
  | .mxzDefine d a _ f => some { uni2 d a with sel := some f.toNat, notPgc := true }
  | .mxzClr d _ f | .mxzFree d _ f | .mxq d _ f => some { sw := some d, sel := some f.toNat, notPgc := true }
  | .svinit d a _ _ => some { uni2 d a with notPgc := true }
  | .svinitFree d => some { sw := some d, notPgc := true }
  | .svget d a _ f => some { uni2 d a with sel := some f.toNat, notPgc := true }
  | .launch d a f _ => some { uni2 d a with sel := some f.toNat, notPgc := true }
  | .lwait d a _ => some { uni2 d a with notPgc := true }
  | .hsig _ => some {}
  | .srd d r => some { sw := some d, codes := srAssigned r.toNat }
  | .swr a r => some { sr := [a], codes := srAssigned r.toNat }
  | .trap _ | .brk _ => some {}
  | .tresReplay d a | .tresSkip d a | .tresKill d a => some { uni2 d a with notPgc := true }
  | .icinv a b => some { sr := [a, b] }
  | .icinvAll => some {}
  | .mark a _ => some { sr := [a] }
  | .tlbiRange c a b | .tlbiContext c a b | .tlbiDevice c a b => some (uniPriv none [c, a, b])
  | .leaseInstall d a b | .leaseRenew d a b | .leaseRead d a b => some (uniPriv (some d) [a, b])
  | .leaseReturn d a => some (uniPriv (some d) [a])
  | .pmove d a => some (uniPriv (some d) [a])
  | .bias d a b | .psplit d a b => some (uniPriv (some d) [a, b])
  | .acntRead d a | .acntReadClear d a => some (uniPriv (some d) [a])
  | .acntWrite d a b => some (uniPriv (some d) [a, b])
  | _ => none

/-- The first check of causes 2 to 4 that a uniform word fails (R85). -/
def UniForm.cause (u : UniForm) : Option Nat :=
  if !u.fields then some 2 else if !u.codes then some 3 else if !u.aligned then some 4 else none

def sId (n : BitVec 6) : List RegId := if n = 63 then [] else [RegId.s n.toNat]
def kId (n : BitVec 3) : List RegId := if n = 0 then [] else [RegId.k n.toNat]

/-- Registers and masks that a uniform word reads. -/
def UniForm.reads (u : UniForm) : List RegId := u.sr.flatMap sId ++ u.kr.flatMap kId
/-- Registers and masks that a uniform word writes. -/
def UniForm.writes (u : UniForm) : List RegId := u.sw.toList.flatMap sId ++ u.kw.toList.flatMap kId

/-! ## Every word -/

/-- The first check of causes 2 to 5 that a word fails by its own fields, without a prefix; none for a step without an
encoding. DEDUCED: log entry 7. DEDUCED: log entry 43. -/
def staticCause (i : Instr) : Option Nat :=
  match laneForm i with
  | some l =>
    if !l.dstV || !l.kinds then some 2
    else if !l.codes then some 3
    else if !((l.opnds {}).all Opnd.placed) || !l.shapes then some 4
    else none
  | none =>
    match uniForm i with
    | some u => u.cause
    | none => none

/-- The word is of the lane set (R69). -/
def isLane (i : Instr) : Bool := (laneForm i).isSome

/-- Registers and masks that a word reads, under a prefix. -/
def regReads (i : Instr) (p : Prefix) : List RegId :=
  match laneForm i with
  | some l => l.reads p
  | none => match uniForm i with | some u => u.reads | none => []

/-- Registers and masks that a word writes. -/
def regWrites (i : Instr) : List RegId :=
  match laneForm i with
  | some l => l.writes
  | none => match uniForm i with | some u => u.writes | none => []

/-- Flag select of a variable-latency word (R81). -/
def flagSel (i : Instr) : Option Nat :=
  match laneForm i with
  | some l => l.sel
  | none => match uniForm i with | some u => u.sel | none => none

/-- The word transfers control (R54). -/
def isTransfer (i : Instr) : Bool := match uniForm i with | some u => u.transfer | none => false

end Sys2Proof.Machine
end

