-- ==== Sys2Proof/WellFormed.lean ====
section
/-! DEFINITION. Well-formed instructions: the word passes the checks of causes 2, 3 and 4 of R85 that its own fields decide.
The checks that depend on the state (prefix, flags, rows, privilege, addresses) are in `Machine/Checks.lean`. -/

namespace Sys2Proof

/-- The instruction is one that the device executes for some state (R70-R75, R80, R84, R149). A step without an encoding has
no fields to check. -/
def Instr.wf (i : Instr) : Bool := decide (Machine.staticCause i = none)

end Sys2Proof
end

