-- ==== Sys2Proof/Decode.lean ====
section
/-! DEFINITION. The decoder and the encoder, both written from R67-R84 and the encoding columns of the instruction chapters.
`decode` is total on every list of words and rejects by name; `encode` gives the words of an instruction. A word's rejection
is cause 1, 2, 3, 5 or 7 of R85; what depends on more than the word's fields is in `Machine/Operands.lean`. -/

namespace Sys2Proof

/-- Why a word is no instruction (R85). -/
inductive DecodeError where
  /-- cause 1: opcode not assigned -/
  | unassigned
  /-- cause 2: a field that must be zero (or 63) is not -/
  | reservedField
  /-- cause 3: an operation code or a mask index outside its listed values -/
  | badCode
  /-- cause 5: bits [7:0] of XPFX are not zero (R78) -/
  | prefixField
  /-- cause 7: a literal word is missing (R68) -/
  | missingLiteral
  deriving DecidableEq, Repr

/-- The cause of R85 that a rejection stands for. -/
def DecodeError.cause : DecodeError → Nat
  | .unassigned => 1
  | .reservedField => 2
  | .badCode => 3
  | .prefixField => 5
  | .missingLiteral => 7

/-! ## Word layouts -/

/-- A lane word (R69). -/
def packLane (op d a b : BitVec 7) (x : BitVec 3) : Word := 0#1 ++ op ++ d ++ a ++ b ++ x

/-- A uniform word of the UR layout (R79); UI, UL, UB, UC and UM share its boundaries. -/
def packUni (op : BitVec 7) (d a b f : BitVec 6) : Word := 1#1 ++ op ++ d ++ a ++ b ++ f

/-- XPFX (R76). -/
def packPfx (k : BitVec 3) (z : BitVec 1) (r : BitVec 3) (s : BitVec 1) (c : BitVec 7) (v : BitVec 1) : Word :=
  0xFF#8 ++ k ++ z ++ r ++ s ++ c ++ v ++ 0#8

/-- OP, bits [30:24] of either layout. -/
def wordOp (w : Word) : BitVec 7 := w.extractLsb' 24 7

/-! ## Decoding -/

/-- The lane opcode map (R72). -/
def decodeLane (op : Nat) (d a b : BitVec 7) (x : BitVec 3) : Except DecodeError Instr :=
  match op with
  | 0x01 => .ok (.vaddI32 d a b x)
  | 0x02 => .ok (.vsubI32 d a b x)
  | 0x03 => .ok (.vaddsI32 d a b x)
  | 0x04 => .ok (.vaddsN32 d a b x)
  | 0x05 => .ok (.vsubsI32 d a b x)
  | 0x06 => .ok (.vsubsN32 d a b x)
  | 0x07 => .ok (.vmulI32 d a b x)
  | 0x08 => .ok (.vmulhI32 d a b x)
  | 0x09 => .ok (.vmulhN32 d a b x)
  | 0x0A => .ok (.vmadI32 d a b x)
  | 0x0B => .ok (.vminI32 d a b x)
  | 0x0C => .ok (.vmaxI32 d a b x)
  | 0x0D => .ok (.vminN32 d a b x)
  | 0x0E => .ok (.vmaxN32 d a b x)
  | 0x0F => .ok (.vand d a b x)
  | 0x10 => .ok (.vor d a b x)
  | 0x11 => .ok (.vxor d a b x)
  | 0x12 => .ok (.vandn d a b x)
  | 0x13 => .ok (.vshl d a b x)
  | 0x14 => .ok (.vshrN32 d a b x)
  | 0x15 => .ok (.vshrI32 d a b x)
  | 0x16 => .ok (.vrol d a b x)
  | 0x17 => .ok (.vunI d a b x)
  | 0x18 => if b = 0 then .ok (.vmov d a x) else .error .reservedField
  | 0x19 => if b = 0 then .ok (.vli d a x) else .error .reservedField
  | 0x1A => .ok (.vsel d a b x)
  | 0x1B => .ok (.vcmpI32 (d.extractLsb' 4 3) (d.extractLsb' 0 4) a b x)
  | 0x1C => .ok (.vcmpN32 (d.extractLsb' 4 3) (d.extractLsb' 0 4) a b x)
  | 0x1D => .ok (.vcmpF32 (d.extractLsb' 4 3) (d.extractLsb' 0 4) a b x)
  | 0x1E => .ok (.vcmpF64 (d.extractLsb' 4 3) (d.extractLsb' 0 4) a b x)
  | 0x1F => if a = 0 ∧ b = 0 then .ok (.vlane d x) else .error .reservedField
  | 0x20 => .ok (.vaddF32 d a b x)
  | 0x21 => .ok (.vsubF32 d a b x)
  | 0x22 => .ok (.vmulF32 d a b x)
  | 0x23 => .ok (.vfmaF32 d a b x)
  | 0x24 => .ok (.vminF32 d a b x)
  | 0x25 => .ok (.vmaxF32 d a b x)
  | 0x26 => .ok (.vunF32 d a b x)
  | 0x27 => .ok (.vsfuF32 d a b x)
  | 0x28 => .ok (.vdivF32 d a b x)
  | 0x29 => .ok (.vcopysignF32 d a b x)
  | 0x2B => .ok (.vaddF64 d a b x)
  | 0x2C => .ok (.vmulF64 d a b x)
  | 0x2D => .ok (.vfmaF64 d a b x)
  | 0x2E => .ok (.vminF64 d a b x)
  | 0x2F => .ok (.vmaxF64 d a b x)
  | 0x30 => .ok (.vunF64 d a b x)
  | 0x31 => .ok (.vdivF64 d a b x)
  | 0x32 => if b = 0 then .ok (.vsqrtF64 d a x) else .error .reservedField
  | 0x34 => .ok (.vaddBf16x2 d a b x)
  | 0x35 => .ok (.vmulBf16x2 d a b x)
  | 0x36 => .ok (.vfmaBf16x2 d a b x)
  | 0x37 => .ok (.vmaxBf16x2 d a b x)
  | 0x38 => .ok (.vaddF16x2 d a b x)
  | 0x39 => .ok (.vmulF16x2 d a b x)
  | 0x3A => .ok (.vfmaF16x2 d a b x)
  | 0x3B => .ok (.vmaxF16x2 d a b x)
  | 0x3C => .ok (.vcvt d a b x)
  | 0x3D => .ok (.vpk8 d a b x)
  | 0x3E => .ok (.vupk8 d a b x)
  | 0x3F => .ok (.vpk4 d a b x)
  | 0x40 => .ok (.vupk4 d a b x)
  | 0x41 => .ok (.vshflIdx d a b x)
  | 0x42 => if b.extractLsb' 3 4 = 0 then .ok (.vshflXor d a (b.extractLsb' 0 3) x) else .error .reservedField
  | 0x43 => if b.extractLsb' 3 4 = 0 then .ok (.vshflUp d a (b.extractLsb' 0 3) x) else .error .reservedField
  | 0x44 => if b.extractLsb' 3 4 = 0 then .ok (.vshflDn d a (b.extractLsb' 0 3) x) else .error .reservedField
  | 0x45 => if b = 0 then .ok (.vswp2 d a x) else .error .reservedField
  | 0x46 => .ok (.vred d a (b.extractLsb' 3 4) (b.extractLsb' 0 3) x)
  | 0x47 => .ok (.vscan d a (b.extractLsb' 3 4) (b.extractLsb' 0 3) x)
  | 0x48 => .ok (.vdot4I8 d a b x)
  | 0x49 => .ok (.vdot4N8 d a b x)
  | 0x4A => .ok (.vdot8I4 d a b x)
  | 0x4B => .ok (.vdot4E4m3 d a b x)
  | 0x4C => .ok (.vdsq4E4m3 d a b x)
  | 0x4D => .ok (.vdsq2Bf16 d a b x)
  | 0x4E => .ok (.vhamm d a b x)
  | 0x4F => if d = 0 ∧ x = 0 then .ok (.vsieve a b) else .error .reservedField
  | 0x50 => .ok (.vldB8 d a (b.extractLsb' 6 1) (b.extractLsb' 5 1) (b.extractLsb' 0 5) x)
  | 0x51 => .ok (.vldI8 d a (b.extractLsb' 6 1) (b.extractLsb' 5 1) (b.extractLsb' 0 5) x)
  | 0x52 => .ok (.vldB16 d a (b.extractLsb' 6 1) (b.extractLsb' 5 1) (b.extractLsb' 0 5) x)
  | 0x53 => .ok (.vldI16 d a (b.extractLsb' 6 1) (b.extractLsb' 5 1) (b.extractLsb' 0 5) x)
  | 0x54 => .ok (.vldB32 d a (b.extractLsb' 6 1) (b.extractLsb' 5 1) (b.extractLsb' 0 5) x)
  | 0x55 => .ok (.vldB64 d a (b.extractLsb' 6 1) (b.extractLsb' 5 1) (b.extractLsb' 0 5) x)
  | 0x56 => .ok (.vldB128 d a (b.extractLsb' 6 1) (b.extractLsb' 5 1) (b.extractLsb' 0 5) x)
  | 0x57 => .ok (.vldf d a (b.extractLsb' 6 1) (b.extractLsb' 5 1) (b.extractLsb' 0 5) x)
  | 0x58 => .ok (.vstB8 d a (b.extractLsb' 6 1) (b.extractLsb' 5 1) (b.extractLsb' 0 5) x)
  | 0x59 => .ok (.vstB16 d a (b.extractLsb' 6 1) (b.extractLsb' 5 1) (b.extractLsb' 0 5) x)
  | 0x5A => .ok (.vstB32 d a (b.extractLsb' 6 1) (b.extractLsb' 5 1) (b.extractLsb' 0 5) x)
  | 0x5B => .ok (.vstB64 d a (b.extractLsb' 6 1) (b.extractLsb' 5 1) (b.extractLsb' 0 5) x)
  | 0x5C => .ok (.vstB128 d a (b.extractLsb' 6 1) (b.extractLsb' 5 1) (b.extractLsb' 0 5) x)
  | 0x5D => .ok (.vstf d a (b.extractLsb' 6 1) (b.extractLsb' 5 1) (b.extractLsb' 0 5) x)
  | 0x5E => if b.extractLsb' 5 1 = 0 then .ok (.vldt d a (b.extractLsb' 6 1) (b.extractLsb' 0 5) x) else .error .reservedField
  | 0x5F => if b.extractLsb' 5 1 = 0 then .ok (.vstt d a (b.extractLsb' 6 1) (b.extractLsb' 0 5) x) else .error .reservedField
  | 0x60 => .ok (.vatomAddN32 d a (b.extractLsb' 6 1) (b.extractLsb' 5 1) (b.extractLsb' 0 5) (x.extractLsb' 1 2) (x.extractLsb' 0 1))
  | 0x61 => .ok (.vatomAddF32 d a (b.extractLsb' 6 1) (b.extractLsb' 5 1) (b.extractLsb' 0 5) (x.extractLsb' 1 2) (x.extractLsb' 0 1))
  | 0x62 => .ok (.vatomMinI32 d a (b.extractLsb' 6 1) (b.extractLsb' 5 1) (b.extractLsb' 0 5) (x.extractLsb' 1 2) (x.extractLsb' 0 1))
  | 0x63 => .ok (.vatomMaxI32 d a (b.extractLsb' 6 1) (b.extractLsb' 5 1) (b.extractLsb' 0 5) (x.extractLsb' 1 2) (x.extractLsb' 0 1))
  | 0x64 => .ok (.vatomMinN32 d a (b.extractLsb' 6 1) (b.extractLsb' 5 1) (b.extractLsb' 0 5) (x.extractLsb' 1 2) (x.extractLsb' 0 1))
  | 0x65 => .ok (.vatomMaxN32 d a (b.extractLsb' 6 1) (b.extractLsb' 5 1) (b.extractLsb' 0 5) (x.extractLsb' 1 2) (x.extractLsb' 0 1))
  | 0x66 => .ok (.vatomAnd d a (b.extractLsb' 6 1) (b.extractLsb' 5 1) (b.extractLsb' 0 5) (x.extractLsb' 1 2) (x.extractLsb' 0 1))
  | 0x67 => .ok (.vatomOr d a (b.extractLsb' 6 1) (b.extractLsb' 5 1) (b.extractLsb' 0 5) (x.extractLsb' 1 2) (x.extractLsb' 0 1))
  | 0x68 => .ok (.vatomXor d a (b.extractLsb' 6 1) (b.extractLsb' 5 1) (b.extractLsb' 0 5) (x.extractLsb' 1 2) (x.extractLsb' 0 1))
  | 0x69 => .ok (.vatomXchg d a (b.extractLsb' 6 1) (b.extractLsb' 5 1) (b.extractLsb' 0 5) (x.extractLsb' 1 2) (x.extractLsb' 0 1))
  | 0x6A => .ok (.vatomCas d a (b.extractLsb' 6 1) (b.extractLsb' 5 1) (b.extractLsb' 0 5) (x.extractLsb' 1 2) (x.extractLsb' 0 1))
  | 0x6B => .ok (.vatomAddN64 d a (b.extractLsb' 6 1) (b.extractLsb' 5 1) (b.extractLsb' 0 5) (x.extractLsb' 1 2) (x.extractLsb' 0 1))
  | _ => .error .unassigned

/-- The uniform opcode map (R84) but for the literal forms and XPFX. -/
def decodeUni (op : Nat) (d a b f : BitVec 6) : Except DecodeError Instr :=
  match op with
  | 0x01 => if f = 0 then .ok (.sadd d a b) else .error .reservedField
  | 0x02 => if f = 0 then .ok (.ssub d a b) else .error .reservedField
  | 0x03 => if f = 0 then .ok (.smul d a b) else .error .reservedField
  | 0x04 => if f = 0 then .ok (.smulhI64 d a b) else .error .reservedField
  | 0x05 => if f = 0 then .ok (.smulhN64 d a b) else .error .reservedField
  | 0x06 => if f = 0 then .ok (.sdiv d a b) else .error .reservedField
  | 0x07 => if f = 0 then .ok (.srem d a b) else .error .reservedField
  | 0x08 => if f = 0 then .ok (.sand d a b) else .error .reservedField
  | 0x09 => if f = 0 then .ok (.sor d a b) else .error .reservedField
  | 0x0A => if f = 0 then .ok (.sxor d a b) else .error .reservedField
  | 0x0B => if f = 0 then .ok (.sshl d a b) else .error .reservedField
  | 0x0C => if f = 0 then .ok (.sshr d a b) else .error .reservedField
  | 0x0D => if f = 0 then .ok (.smin d a b) else .error .reservedField
  | 0x0E => if f = 0 then .ok (.smax d a b) else .error .reservedField
  | 0x0F => if b = 0 then .ok (.sun d a f) else .error .reservedField
  | 0x10 => .ok (.saddi d a (b ++ f))
  | 0x11 => .ok (.sandi d a (b ++ f))
  | 0x12 => .ok (.sori d a (b ++ f))
  | 0x13 => if b = 0 then .ok (.sshli d a f) else .error .reservedField
  | 0x14 => if b = 0 then .ok (.sshri d a f) else .error .reservedField
  | 0x15 => if f.extractLsb' 5 1 = 0 then .ok (.scmp d a b (f.extractLsb' 4 1) (f.extractLsb' 0 4)) else .error .reservedField
  | 0x16 => .ok (.sli d (a ++ b ++ f))
  | 0x19 => .ok (.sext d a b f)
  | 0x1A => .ok (.sexts d a b f)
  | 0x1B => .ok (.sins d a b f)
  | 0x1C => .ok (.sselnz d a b f)
  | 0x20 => if f = 0 then .ok (.radd d a b) else .error .reservedField
  | 0x21 => .ok (.raddi d a (b ++ f))
  | 0x22 => if b = 0 ∧ f = 0 then .ok (.rtag d a) else .error .reservedField
  | 0x23 => if b = 0 ∧ f = 0 then .ok (.rbase d a) else .error .reservedField
  | 0x24 => if f = 0 then .ok (.oinit d a b) else .error .reservedField
  | 0x25 => if d = 63 ∧ b = 0 ∧ f = 0 then .ok (.ofree a) else .error .reservedField
  | 0x26 => if b = 0 ∧ f = 0 then .ok (.ostat d a) else .error .reservedField
  | 0x27 => if d = 63 ∧ b = 0 ∧ f = 0 then .ok (.oreset a) else .error .reservedField
  | 0x28 => if b = 0 ∧ f = 0 then if a.extractLsb' 3 3 = 0 then .ok (.sbal d (a.extractLsb' 0 3)) else .error .badCode else .error .reservedField
  | 0x29 => if b = 0 ∧ f = 0 then if d.extractLsb' 3 3 = 0 then .ok (.kset (d.extractLsb' 0 3) a) else .error .badCode else .error .reservedField
  | 0x2A => if f.extractLsb' 3 3 = 0 then if d.extractLsb' 3 3 = 0 ∧ a.extractLsb' 3 3 = 0 ∧ b.extractLsb' 3 3 = 0 then .ok (.kop (d.extractLsb' 0 3) (a.extractLsb' 0 3) (b.extractLsb' 0 3) (f.extractLsb' 0 3)) else if (f = 4 ∨ f = 5) ∧ b ≠ 0 then .error .reservedField else .error .badCode else .error .reservedField
  | 0x2B => if b = 0 ∧ f = 0 then if a.extractLsb' 3 3 = 0 then .ok (.sfirst d (a.extractLsb' 0 3)) else .error .badCode else .error .reservedField
  | 0x30 => .ok (.br (d ++ a ++ b ++ f))
  | 0x31 => .ok (.bz d (a ++ b ++ f))
  | 0x32 => .ok (.bnz d (a ++ b ++ f))
  | 0x33 => if d.extractLsb' 3 3 = 0 then .ok (.bkany (d.extractLsb' 0 3) (a ++ b ++ f)) else .error .badCode
  | 0x34 => if d.extractLsb' 3 3 = 0 then .ok (.bknone (d.extractLsb' 0 3) (a ++ b ++ f)) else .error .badCode
  | 0x35 => if d.extractLsb' 3 3 = 0 then .ok (.bl (d.extractLsb' 0 3) (a ++ b ++ f)) else .error .badCode
  | 0x36 => .ok (.call (d ++ a ++ b ++ f))
  | 0x37 => if b = 0 ∧ f = 0 then .ok (.callx d a) else .error .reservedField
  | 0x38 => if d = 63 ∧ b = 0 ∧ f = 0 then .ok (.jmpx a) else .error .reservedField
  | 0x39 => if d = 63 ∧ a = 0 ∧ b = 0 ∧ f = 0 then .ok .exit else .error .reservedField
  | 0x3A => if d = 63 ∧ a = 0 then .ok (.wfl (b ++ f)) else .error .reservedField
  | 0x3B => if d = 63 ∧ a = 0 ∧ b = 0 ∧ f = 0 then .ok .nop else .error .reservedField
  | 0x40 => if d = 63 ∧ a = 0 ∧ b = 0 then .ok (.bar (f.extractLsb' 4 2) (f.extractLsb' 0 4)) else .error .reservedField
  | 0x41 => if d = 63 ∧ a = 0 ∧ b = 0 then .ok (.barr (f.extractLsb' 4 2) (f.extractLsb' 0 4)) else .error .reservedField
  | 0x42 => if d = 63 ∧ a = 0 ∧ b = 0 then .ok (.barw (f.extractLsb' 4 2) (f.extractLsb' 0 4)) else .error .reservedField
  | 0x43 => .ok (.mwait d a (b ++ f))
  | 0x44 => if d = 63 ∧ a = 0 ∧ b = 0 ∧ f.extractLsb' 5 1 = 0 then .ok (.fence (f.extractLsb' 3 2) (f.extractLsb' 0 3)) else .error .reservedField
  | 0x45 => if d = 63 ∧ a = 0 ∧ b = 0 ∧ f = 0 then .ok .fenceng else .error .reservedField
  | 0x46 =>
    if a = 0 ∧ b = 0 ∧ f.extractLsb' 4 2 = 0 then
      (if f.extractLsb' 3 1 = 1 then .ok (.racqTry d (f.extractLsb' 0 3))
       else if d = 63 then .ok (.racq (f.extractLsb' 0 3)) else .error .reservedField)
    else .error .reservedField
  | 0x47 => if d = 63 ∧ a = 0 ∧ b = 0 ∧ f.extractLsb' 3 3 = 0 then .ok (.rrel (f.extractLsb' 0 3)) else .error .reservedField
  | 0x48 => .ok (.sld d a b (f.extractLsb' 4 2) (f.extractLsb' 3 1) (f.extractLsb' 2 1) (f.extractLsb' 0 2))
  | 0x49 => if f.extractLsb' 3 1 = 0 then .ok (.sst d a b (f.extractLsb' 4 2) (f.extractLsb' 2 1) (f.extractLsb' 0 2)) else .error .reservedField
  | 0x4A => .ok (.satom d a b (f.extractLsb' 4 2) (f.extractLsb' 1 3) (f.extractLsb' 0 1))
  | 0x4B => if f.extractLsb' 3 1 = 0 then if f.extractLsb' 4 2 = 3 then .ok (.rld d a b (f.extractLsb' 2 1) (f.extractLsb' 0 2)) else .error .badCode else .error .reservedField
  | 0x4C => if f.extractLsb' 3 1 = 0 then if f.extractLsb' 4 2 = 3 then .ok (.rst d a b (f.extractLsb' 2 1) (f.extractLsb' 0 2)) else .error .badCode else .error .reservedField
  | 0x4D => if d = 63 ∧ f.extractLsb' 4 2 = 0 then .ok (.pub a b (f.extractLsb' 3 1) (f.extractLsb' 2 1) (f.extractLsb' 0 2)) else .error .reservedField
  | 0x4E => if d = 63 ∧ b = 0 ∧ f.extractLsb' 1 5 = 0 then .ok (.pfh a (f.extractLsb' 0 1)) else .error .reservedField
  | 0x4F =>
    if d = 63 ∧ f.extractLsb' 2 4 = 0 then
      (if f = 0 then .ok (.advNeed a b) else if f = 1 then .ok (.advCold a b)
       else if f = 2 then .ok (.advWarm a b) else .error .badCode)
    else .error .reservedField
  | 0x50 => if f.extractLsb' 1 5 = 0 then .ok (.tset d a b (f.extractLsb' 0 1)) else .error .reservedField
  | 0x51 => if b = 0 ∧ f = 0 then .ok (.tstat d a) else .error .reservedField
  | 0x52 =>
    if a = 0 ∧ b = 0 then
      (if f = 0 then .ok (.tdrop d) else if f = 1 then .ok (.tdropFree d) else .error .reservedField)
    else .error .reservedField
  | 0x53 =>
    if f.extractLsb' 2 4 = 0 then
      (if f.extractLsb' 1 1 = 1 then .ok (.cpyCe d a b (f.extractLsb' 0 1))
       else if b = 63 then .ok (.cpy d a (f.extractLsb' 0 1)) else .error .reservedField)
    else .error .reservedField
  | 0x54 => if f.extractLsb' 1 5 = 0 then .ok (.cpyq d a b (f.extractLsb' 0 1)) else .error .reservedField
  | 0x55 => if d = 63 ∧ b = 0 ∧ f.extractLsb' 1 5 = 0 then .ok (.mxp a (f.extractLsb' 0 1)) else .error .reservedField
  | 0x56 => if b = 0 ∧ f.extractLsb' 1 5 = 0 then .ok (.mxd d a (f.extractLsb' 0 1)) else .error .reservedField
  | 0x57 =>
    if b = 0 then
      (if f.extractLsb' 4 2 = 0 then .ok (.mxzDefine d a (f.extractLsb' 1 3) (f.extractLsb' 0 1))
       else if f.extractLsb' 4 2 = 3 then .error .badCode
       else if a = 0 then
         (if f.extractLsb' 4 2 = 1 then .ok (.mxzClr d (f.extractLsb' 1 3) (f.extractLsb' 0 1))
          else .ok (.mxzFree d (f.extractLsb' 1 3) (f.extractLsb' 0 1)))
       else .error .reservedField)
    else .error .reservedField
  | 0x58 => if a = 0 ∧ b = 0 ∧ f.extractLsb' 4 2 = 0 then .ok (.mxq d (f.extractLsb' 1 3) (f.extractLsb' 0 1)) else .error .reservedField
  | 0x59 =>
    if b = 0 ∧ f.extractLsb' 3 3 = 0 then
      (if f.extractLsb' 2 1 = 0 then .ok (.svinit d a (f.extractLsb' 1 1) (f.extractLsb' 0 1))
       else if a = 0 ∧ f = 4 then .ok (.svinitFree d) else .error .reservedField)
    else .error .reservedField
  | 0x5A => if b = 0 ∧ f.extractLsb' 2 4 = 0 then .ok (.svget d a (f.extractLsb' 1 1) (f.extractLsb' 0 1)) else .error .reservedField
  | 0x5C => if b = 0 ∧ f.extractLsb' 5 1 = 0 then .ok (.launch d a (f.extractLsb' 4 1) (f.extractLsb' 0 4)) else .error .reservedField
  | 0x5D => if b = 0 ∧ f.extractLsb' 1 5 = 0 then .ok (.lwait d a (f.extractLsb' 0 1)) else .error .reservedField
  | 0x5E => if d = 63 ∧ a = 0 ∧ b = 0 then .ok (.hsig f) else .error .reservedField
  | 0x60 => if a = 0 then .ok (.srd d (b ++ f)) else .error .reservedField
  | 0x61 => if d = 63 then .ok (.swr a (b ++ f)) else .error .reservedField
  | 0x62 => if d = 63 then .ok (.trap (a ++ b ++ f)) else .error .reservedField
  | 0x65 => if d = 63 then .ok (.brk (a ++ b ++ f)) else .error .reservedField
  | 0x63 =>
    if b = 0 ∧ f.extractLsb' 2 4 = 0 then
      (if f = 0 then .ok (.tresReplay d a) else if f = 1 then .ok (.tresSkip d a)
       else if f = 2 then .ok (.tresKill d a) else .error .badCode)
    else .error .reservedField
  | 0x64 =>
    if d = 63 then
      (if f = 0 then .ok (.icinv a b) else if f = 1 ∧ a = 0 ∧ b = 0 then .ok .icinvAll
       else .error .reservedField)
    else .error .reservedField
  | 0x66 => if d = 63 ∧ b = 0 then .ok (.mark a f) else .error .reservedField
  | 0x68 =>
    if f.extractLsb' 2 4 = 0 then
      (if f = 0 then .ok (.tlbiRange d a b) else if f = 1 then .ok (.tlbiContext d a b)
       else if f = 2 then .ok (.tlbiDevice d a b) else .error .badCode)
    else .error .reservedField
  | 0x69 =>
    if f.extractLsb' 3 3 = 0 then
      (if f = 0 then .ok (.leaseInstall d a b) else if f = 1 then .ok (.leaseRenew d a b)
       else if f = 2 then (if b = 0 then .ok (.leaseReturn d a) else .error .reservedField)
       else if f = 3 then .ok (.leaseRead d a b) else .error .badCode)
    else .error .reservedField
  | 0x6A => if b = 0 ∧ f = 0 then .ok (.pmove d a) else .error .reservedField
  | 0x6B => if f = 0 then .ok (.bias d a b) else .error .reservedField
  | 0x6C => if f = 0 then .ok (.psplit d a b) else .error .reservedField
  | 0x6D =>
    if f.extractLsb' 2 4 = 0 then
      (if f = 0 then (if b = 0 then .ok (.acntRead d a) else .error .reservedField)
       else if f = 1 then (if b = 0 then .ok (.acntReadClear d a) else .error .reservedField)
       else if f = 2 then .ok (.acntWrite d a b) else .error .badCode)
    else .error .reservedField
  | _ => .error .unassigned

/-- XPFX (R76, R78). -/
def decodePfx (w : Word) : Except DecodeError Instr :=
  if w.extractLsb' 0 8 = 0 then
    .ok (.xpfx (w.extractLsb' 21 3) (w.extractLsb' 20 1) (w.extractLsb' 17 3) (w.extractLsb' 16 1)
      (w.extractLsb' 9 7) (w.extractLsb' 8 1))
  else .error .prefixField

/-- The literal forms (R159): the word, then its literal words. -/
def decodeLit (op : Nat) (d a b f : BitVec 6) (rest : List Word) : Except DecodeError Instr :=
  if a = 0 ∧ b = 0 ∧ f = 0 then
    match op, rest with
    | 0x17, l :: _ => .ok (.slit d l)
    | 0x18, l :: h :: _ => .ok (.slit64 d l h)
    | _, _ => .error .missingLiteral
  else .error .reservedField

/-- The instruction that starts a list of words (R69, R79). DEDUCED: log entry 7. -/
def decode : List Word → Except DecodeError Instr
  | [] => .error .missingLiteral
  | w :: rest =>
    if w.extractLsb' 31 1 = 0 then
      decodeLane (wordOp w).toNat (w.extractLsb' 17 7) (w.extractLsb' 10 7) (w.extractLsb' 3 7) (w.extractLsb' 0 3)
    else if wordOp w = 0x7F then decodePfx w
    else if wordOp w = 0x17 ∨ wordOp w = 0x18 then
      decodeLit (wordOp w).toNat (w.extractLsb' 18 6) (w.extractLsb' 12 6) (w.extractLsb' 6 6) (w.extractLsb' 0 6) rest
    else
      decodeUni (wordOp w).toNat (w.extractLsb' 18 6) (w.extractLsb' 12 6) (w.extractLsb' 6 6) (w.extractLsb' 0 6)

/-- How many words an instruction takes in its clause (R68). -/
def wordCount : Instr → Nat
  | .slit .. => 2
  | .slit64 .. => 3
  | _ => 1

/-- The bytes of one word as the memory holds them, lowest address first (R3). -/
def wordBytes (w : Word) : List Byte :=
  [w.extractLsb' 0 8, w.extractLsb' 8 8, w.extractLsb' 16 8, w.extractLsb' 24 8]

/-- The words that a list of bytes holds (R3); bytes short of a word are dropped. -/
def bytesWords : List Byte → List Word
  | b0 :: b1 :: b2 :: b3 :: t => (b3 ++ b2 ++ b1 ++ b0) :: bytesWords t
  | _ => []

/-- Decoding from bytes: total, for any bytes. -/
def decodeBytes (bs : List Byte) : Except DecodeError Instr := decode (bytesWords bs)

/-- The words of bits `w`, numbered from the first word's bit 0, as bytes in memory: three words, the longest instruction
(R159). -/
def tableBytes (nbits w : Nat) : List Byte :=
  let v := w % 2 ^ nbits
  wordBytes (BitVec.ofNat 32 v) ++ wordBytes (BitVec.ofNat 32 (v / 2 ^ 32)) ++ wordBytes (BitVec.ofNat 32 (v / 2 ^ 64))

/-- The instruction of an opcode-table word. -/
def decodeTableWord (nbits w : Nat) : Option Instr :=
  match decodeBytes (tableBytes nbits w) with
  | .ok i => some i
  | .error _ => none

/-! ## Encoding -/

/-- The words of an instruction (R69, R76, R79, R159); none for a step that is no instruction word. -/
def encode : Instr → List Word
  | .vaddI32 d a b x => [packLane 0x01#7 d a b x]
  | .vsubI32 d a b x => [packLane 0x02#7 d a b x]
  | .vaddsI32 d a b x => [packLane 0x03#7 d a b x]
  | .vaddsN32 d a b x => [packLane 0x04#7 d a b x]
  | .vsubsI32 d a b x => [packLane 0x05#7 d a b x]
  | .vsubsN32 d a b x => [packLane 0x06#7 d a b x]
  | .vmulI32 d a b x => [packLane 0x07#7 d a b x]
  | .vmulhI32 d a b x => [packLane 0x08#7 d a b x]
  | .vmulhN32 d a b x => [packLane 0x09#7 d a b x]
  | .vmadI32 d a b x => [packLane 0x0A#7 d a b x]
  | .vminI32 d a b x => [packLane 0x0B#7 d a b x]
  | .vmaxI32 d a b x => [packLane 0x0C#7 d a b x]
  | .vminN32 d a b x => [packLane 0x0D#7 d a b x]
  | .vmaxN32 d a b x => [packLane 0x0E#7 d a b x]
  | .vand d a b x => [packLane 0x0F#7 d a b x]
  | .vor d a b x => [packLane 0x10#7 d a b x]
  | .vxor d a b x => [packLane 0x11#7 d a b x]
  | .vandn d a b x => [packLane 0x12#7 d a b x]
  | .vshl d a b x => [packLane 0x13#7 d a b x]
  | .vshrN32 d a b x => [packLane 0x14#7 d a b x]
  | .vshrI32 d a b x => [packLane 0x15#7 d a b x]
  | .vrol d a b x => [packLane 0x16#7 d a b x]
  | .vunI d a s x => [packLane 0x17#7 d a s x]
  | .vmov d a x => [packLane 0x18#7 d a 0#7 x]
  | .vli d i x => [packLane 0x19#7 d i 0#7 x]
  | .vsel d a b k => [packLane 0x1A#7 d a b k]
  | .vcmpI32 k c a b x => [packLane 0x1B#7 (k ++ c) a b x]
  | .vcmpN32 k c a b x => [packLane 0x1C#7 (k ++ c) a b x]
  | .vcmpF32 k c a b x => [packLane 0x1D#7 (k ++ c) a b x]
  | .vcmpF64 k c a b x => [packLane 0x1E#7 (k ++ c) a b x]
  | .vlane d x => [packLane 0x1F#7 d 0#7 0#7 x]
  | .vaddF32 d a b x => [packLane 0x20#7 d a b x]
  | .vsubF32 d a b x => [packLane 0x21#7 d a b x]
  | .vmulF32 d a b x => [packLane 0x22#7 d a b x]
  | .vfmaF32 d a b x => [packLane 0x23#7 d a b x]
  | .vminF32 d a b x => [packLane 0x24#7 d a b x]
  | .vmaxF32 d a b x => [packLane 0x25#7 d a b x]
  | .vunF32 d a s x => [packLane 0x26#7 d a s x]
  | .vsfuF32 d a s x => [packLane 0x27#7 d a s x]
  | .vdivF32 d a b x => [packLane 0x28#7 d a b x]
  | .vcopysignF32 d a b x => [packLane 0x29#7 d a b x]
  | .vaddF64 d a b x => [packLane 0x2B#7 d a b x]
  | .vmulF64 d a b x => [packLane 0x2C#7 d a b x]
  | .vfmaF64 d a b x => [packLane 0x2D#7 d a b x]
  | .vminF64 d a b x => [packLane 0x2E#7 d a b x]
  | .vmaxF64 d a b x => [packLane 0x2F#7 d a b x]
  | .vunF64 d a s x => [packLane 0x30#7 d a s x]
  | .vdivF64 d a b x => [packLane 0x31#7 d a b x]
  | .vsqrtF64 d a x => [packLane 0x32#7 d a 0#7 x]
  | .vaddBf16x2 d a b x => [packLane 0x34#7 d a b x]
  | .vmulBf16x2 d a b x => [packLane 0x35#7 d a b x]
  | .vfmaBf16x2 d a b x => [packLane 0x36#7 d a b x]
  | .vmaxBf16x2 d a b x => [packLane 0x37#7 d a b x]
  | .vaddF16x2 d a b x => [packLane 0x38#7 d a b x]
  | .vmulF16x2 d a b x => [packLane 0x39#7 d a b x]
  | .vfmaF16x2 d a b x => [packLane 0x3A#7 d a b x]
  | .vmaxF16x2 d a b x => [packLane 0x3B#7 d a b x]
  | .vcvt d a c x => [packLane 0x3C#7 d a c x]
  | .vpk8 d a c x => [packLane 0x3D#7 d a c x]
  | .vupk8 d a c x => [packLane 0x3E#7 d a c x]
  | .vpk4 d a c x => [packLane 0x3F#7 d a c x]
  | .vupk4 d a c x => [packLane 0x40#7 d a c x]
  | .vshflIdx d a b x => [packLane 0x41#7 d a b x]
  | .vshflXor d a e x => [packLane 0x42#7 d a (0#4 ++ e) x]
  | .vshflUp d a e x => [packLane 0x43#7 d a (0#4 ++ e) x]
  | .vshflDn d a e x => [packLane 0x44#7 d a (0#4 ++ e) x]
  | .vswp2 d a x => [packLane 0x45#7 d a 0#7 x]
  | .vred d a s p x => [packLane 0x46#7 d a (s ++ p) x]
  | .vscan d a s p x => [packLane 0x47#7 d a (s ++ p) x]
  | .vdot4I8 d a b x => [packLane 0x48#7 d a b x]
  | .vdot4N8 d a b x => [packLane 0x49#7 d a b x]
  | .vdot8I4 d a b x => [packLane 0x4A#7 d a b x]
  | .vdot4E4m3 d a b x => [packLane 0x4B#7 d a b x]
  | .vdsq4E4m3 d a b x => [packLane 0x4C#7 d a b x]
  | .vdsq2Bf16 d a b x => [packLane 0x4D#7 d a b x]
  | .vhamm d a b x => [packLane 0x4E#7 d a b x]
  | .vsieve a b => [packLane 0x4F#7 0#7 a b 0#3]
  | .vldB8 d a f n s x => [packLane 0x50#7 d a (f ++ n ++ s) x]
  | .vldI8 d a f n s x => [packLane 0x51#7 d a (f ++ n ++ s) x]
  | .vldB16 d a f n s x => [packLane 0x52#7 d a (f ++ n ++ s) x]
  | .vldI16 d a f n s x => [packLane 0x53#7 d a (f ++ n ++ s) x]
  | .vldB32 d a f n s x => [packLane 0x54#7 d a (f ++ n ++ s) x]
  | .vldB64 d a f n s x => [packLane 0x55#7 d a (f ++ n ++ s) x]
  | .vldB128 d a f n s x => [packLane 0x56#7 d a (f ++ n ++ s) x]
  | .vldf d a f n s x => [packLane 0x57#7 d a (f ++ n ++ s) x]
  | .vstB8 d a f n s x => [packLane 0x58#7 d a (f ++ n ++ s) x]
  | .vstB16 d a f n s x => [packLane 0x59#7 d a (f ++ n ++ s) x]
  | .vstB32 d a f n s x => [packLane 0x5A#7 d a (f ++ n ++ s) x]
  | .vstB64 d a f n s x => [packLane 0x5B#7 d a (f ++ n ++ s) x]
  | .vstB128 d a f n s x => [packLane 0x5C#7 d a (f ++ n ++ s) x]
  | .vstf d a f n s x => [packLane 0x5D#7 d a (f ++ n ++ s) x]
  | .vldt d a f t x => [packLane 0x5E#7 d a (f ++ 0#1 ++ t) x]
  | .vstt d a f t x => [packLane 0x5F#7 d a (f ++ 0#1 ++ t) x]
  | .vatomAddN32 d a f n s c r => [packLane 0x60#7 d a (f ++ n ++ s) (c ++ r)]
  | .vatomAddF32 d a f n s c r => [packLane 0x61#7 d a (f ++ n ++ s) (c ++ r)]
  | .vatomMinI32 d a f n s c r => [packLane 0x62#7 d a (f ++ n ++ s) (c ++ r)]
  | .vatomMaxI32 d a f n s c r => [packLane 0x63#7 d a (f ++ n ++ s) (c ++ r)]
  | .vatomMinN32 d a f n s c r => [packLane 0x64#7 d a (f ++ n ++ s) (c ++ r)]
  | .vatomMaxN32 d a f n s c r => [packLane 0x65#7 d a (f ++ n ++ s) (c ++ r)]
  | .vatomAnd d a f n s c r => [packLane 0x66#7 d a (f ++ n ++ s) (c ++ r)]
  | .vatomOr d a f n s c r => [packLane 0x67#7 d a (f ++ n ++ s) (c ++ r)]
  | .vatomXor d a f n s c r => [packLane 0x68#7 d a (f ++ n ++ s) (c ++ r)]
  | .vatomXchg d a f n s c r => [packLane 0x69#7 d a (f ++ n ++ s) (c ++ r)]
  | .vatomCas d a f n s c r => [packLane 0x6A#7 d a (f ++ n ++ s) (c ++ r)]
  | .vatomAddN64 d a f n s c r => [packLane 0x6B#7 d a (f ++ n ++ s) (c ++ r)]
  | .xpfx k z r s c v => [packPfx k z r s c v]
  | .sadd d a b => [packUni 0x01#7 d a b 0#6]
  | .ssub d a b => [packUni 0x02#7 d a b 0#6]
  | .smul d a b => [packUni 0x03#7 d a b 0#6]
  | .smulhI64 d a b => [packUni 0x04#7 d a b 0#6]
  | .smulhN64 d a b => [packUni 0x05#7 d a b 0#6]
  | .sdiv d a b => [packUni 0x06#7 d a b 0#6]
  | .srem d a b => [packUni 0x07#7 d a b 0#6]
  | .sand d a b => [packUni 0x08#7 d a b 0#6]
  | .sor d a b => [packUni 0x09#7 d a b 0#6]
  | .sxor d a b => [packUni 0x0A#7 d a b 0#6]
  | .sshl d a b => [packUni 0x0B#7 d a b 0#6]
  | .sshr d a b => [packUni 0x0C#7 d a b 0#6]
  | .smin d a b => [packUni 0x0D#7 d a b 0#6]
  | .smax d a b => [packUni 0x0E#7 d a b 0#6]
  | .sun d a f => [packUni 0x0F#7 d a 0#6 f]
  | .saddi d a i => [packUni 0x10#7 d a (i.extractLsb' 6 6) (i.extractLsb' 0 6)]
  | .sandi d a i => [packUni 0x11#7 d a (i.extractLsb' 6 6) (i.extractLsb' 0 6)]
  | .sori d a i => [packUni 0x12#7 d a (i.extractLsb' 6 6) (i.extractLsb' 0 6)]
  | .sshli d a i => [packUni 0x13#7 d a 0#6 i]
  | .sshri d a i => [packUni 0x14#7 d a 0#6 i]
  | .scmp d a b u c => [packUni 0x15#7 d a b (0#1 ++ u ++ c)]
  | .sli d i => [packUni 0x16#7 d (i.extractLsb' 12 6) (i.extractLsb' 6 6) (i.extractLsb' 0 6)]
  | .slit d lit => [packUni 0x17#7 d 0#6 0#6 0#6, lit]
  | .slit64 d lo hi => [packUni 0x18#7 d 0#6 0#6 0#6, lo, hi]
  | .sext d a p l => [packUni 0x19#7 d a p l]
  | .sexts d a p l => [packUni 0x1A#7 d a p l]
  | .sins d a p l => [packUni 0x1B#7 d a p l]
  | .sselnz d a b f => [packUni 0x1C#7 d a b f]
  | .radd d a b => [packUni 0x20#7 d a b 0#6]
  | .raddi d a i => [packUni 0x21#7 d a (i.extractLsb' 6 6) (i.extractLsb' 0 6)]
  | .rtag d a => [packUni 0x22#7 d a 0#6 0#6]
  | .rbase d a => [packUni 0x23#7 d a 0#6 0#6]
  | .oinit d a b => [packUni 0x24#7 d a b 0#6]
  | .ofree a => [packUni 0x25#7 63#6 a 0#6 0#6]
  | .ostat d a => [packUni 0x26#7 d a 0#6 0#6]
  | .oreset a => [packUni 0x27#7 63#6 a 0#6 0#6]
  | .sbal d k => [packUni 0x28#7 d (0#3 ++ k) 0#6 0#6]
  | .kset k a => [packUni 0x29#7 (0#3 ++ k) a 0#6 0#6]
  | .kop d a b p => [packUni 0x2A#7 (0#3 ++ d) (0#3 ++ a) (0#3 ++ b) (0#3 ++ p)]
  | .sfirst d k => [packUni 0x2B#7 d (0#3 ++ k) 0#6 0#6]
  | .br o => [packUni 0x30#7 (o.extractLsb' 18 6) (o.extractLsb' 12 6) (o.extractLsb' 6 6) (o.extractLsb' 0 6)]
  | .bz t o => [packUni 0x31#7 t (o.extractLsb' 12 6) (o.extractLsb' 6 6) (o.extractLsb' 0 6)]
  | .bnz t o => [packUni 0x32#7 t (o.extractLsb' 12 6) (o.extractLsb' 6 6) (o.extractLsb' 0 6)]
  | .bkany k o => [packUni 0x33#7 (0#3 ++ k) (o.extractLsb' 12 6) (o.extractLsb' 6 6) (o.extractLsb' 0 6)]
  | .bknone k o => [packUni 0x34#7 (0#3 ++ k) (o.extractLsb' 12 6) (o.extractLsb' 6 6) (o.extractLsb' 0 6)]
  | .bl k o => [packUni 0x35#7 (0#3 ++ k) (o.extractLsb' 12 6) (o.extractLsb' 6 6) (o.extractLsb' 0 6)]
  | .call o => [packUni 0x36#7 (o.extractLsb' 18 6) (o.extractLsb' 12 6) (o.extractLsb' 6 6) (o.extractLsb' 0 6)]
  | .callx d a => [packUni 0x37#7 d a 0#6 0#6]
  | .jmpx a => [packUni 0x38#7 63#6 a 0#6 0#6]
  | .exit => [packUni 0x39#7 63#6 0#6 0#6 0#6]
  | .wfl m => [packUni 0x3A#7 63#6 0#6 (m.extractLsb' 6 6) (m.extractLsb' 0 6)]
  | .nop => [packUni 0x3B#7 63#6 0#6 0#6 0#6]
  | .bar s n => [packUni 0x40#7 63#6 0#6 0#6 (s ++ n)]
  | .barr s n => [packUni 0x41#7 63#6 0#6 0#6 (s ++ n)]
  | .barw s n => [packUni 0x42#7 63#6 0#6 0#6 (s ++ n)]
  | .mwait d a i => [packUni 0x43#7 d a (i.extractLsb' 6 6) (i.extractLsb' 0 6)]
  | .fence k s => [packUni 0x44#7 63#6 0#6 0#6 (0#1 ++ k ++ s)]
  | .fenceng => [packUni 0x45#7 63#6 0#6 0#6 0#6]
  | .racq n => [packUni 0x46#7 63#6 0#6 0#6 (0#3 ++ n)]
  | .racqTry d n => [packUni 0x46#7 d 0#6 0#6 (1#3 ++ n)]
  | .rrel n => [packUni 0x47#7 63#6 0#6 0#6 (0#3 ++ n)]
  | .sld d b i w s f c => [packUni 0x48#7 d b i (w ++ s ++ f ++ c)]
  | .sst d b i w f c => [packUni 0x49#7 d b i (w ++ 0#1 ++ f ++ c)]
  | .satom d a b s p f => [packUni 0x4A#7 d a b (s ++ p ++ f)]
  | .rld d b i f c => [packUni 0x4B#7 d b i (6#3 ++ f ++ c)]
  | .rst d b i f c => [packUni 0x4C#7 d b i (6#3 ++ f ++ c)]
  | .pub a b f z s => [packUni 0x4D#7 63#6 a b (0#2 ++ f ++ z ++ s)]
  | .pfh a f => [packUni 0x4E#7 63#6 a 0#6 (0#5 ++ f)]
  | .advNeed a b => [packUni 0x4F#7 63#6 a b 0#6]
  | .advCold a b => [packUni 0x4F#7 63#6 a b 1#6]
  | .advWarm a b => [packUni 0x4F#7 63#6 a b 2#6]
  | .tset t a b r => [packUni 0x50#7 t a b (0#5 ++ r)]
  | .tstat d t => [packUni 0x51#7 d t 0#6 0#6]
  | .tdrop t => [packUni 0x52#7 t 0#6 0#6 0#6]
  | .tdropFree t => [packUni 0x52#7 t 0#6 0#6 1#6]
  | .cpy d a f => [packUni 0x53#7 d a 63#6 (0#5 ++ f)]
  | .cpyCe d a b f => [packUni 0x53#7 d a b (1#5 ++ f)]
  | .cpyq d a b f => [packUni 0x54#7 d a b (0#5 ++ f)]
  | .mxp a f => [packUni 0x55#7 63#6 a 0#6 (0#5 ++ f)]
  | .mxd d a f => [packUni 0x56#7 d a 0#6 (0#5 ++ f)]
  | .mxzDefine d a s f => [packUni 0x57#7 d a 0#6 (0#2 ++ s ++ f)]
  | .mxzClr d s f => [packUni 0x57#7 d 0#6 0#6 (1#2 ++ s ++ f)]
  | .mxzFree d s f => [packUni 0x57#7 d 0#6 0#6 (2#2 ++ s ++ f)]
  | .mxq d s f => [packUni 0x58#7 d 0#6 0#6 (0#2 ++ s ++ f)]
  | .svinit d a t m => [packUni 0x59#7 d a 0#6 (0#4 ++ t ++ m)]
  | .svinitFree d => [packUni 0x59#7 d 0#6 0#6 4#6]
  | .svget d a c f => [packUni 0x5A#7 d a 0#6 (0#4 ++ c ++ f)]
  | .launch d a f q => [packUni 0x5C#7 d a 0#6 (0#1 ++ f ++ q)]
  | .lwait d a t => [packUni 0x5D#7 d a 0#6 (0#5 ++ t)]
  | .hsig n => [packUni 0x5E#7 63#6 0#6 0#6 n]
  | .srd d r => [packUni 0x60#7 d 0#6 (r.extractLsb' 6 6) (r.extractLsb' 0 6)]
  | .swr a r => [packUni 0x61#7 63#6 a (r.extractLsb' 6 6) (r.extractLsb' 0 6)]
  | .trap c => [packUni 0x62#7 63#6 (c.extractLsb' 12 6) (c.extractLsb' 6 6) (c.extractLsb' 0 6)]
  | .brk c => [packUni 0x65#7 63#6 (c.extractLsb' 12 6) (c.extractLsb' 6 6) (c.extractLsb' 0 6)]
  | .tresReplay d a => [packUni 0x63#7 d a 0#6 0#6]
  | .tresSkip d a => [packUni 0x63#7 d a 0#6 1#6]
  | .tresKill d a => [packUni 0x63#7 d a 0#6 2#6]
  | .icinv a b => [packUni 0x64#7 63#6 a b 0#6]
  | .icinvAll => [packUni 0x64#7 63#6 0#6 0#6 1#6]
  | .mark a t => [packUni 0x66#7 63#6 a 0#6 t]
  | .tlbiRange c a b => [packUni 0x68#7 c a b 0#6]
  | .tlbiContext c a b => [packUni 0x68#7 c a b 1#6]
  | .tlbiDevice c a b => [packUni 0x68#7 c a b 2#6]
  | .leaseInstall d a b => [packUni 0x69#7 d a b 0#6]
  | .leaseRenew d a b => [packUni 0x69#7 d a b 1#6]
  | .leaseReturn d a => [packUni 0x69#7 d a 0#6 2#6]
  | .leaseRead d a b => [packUni 0x69#7 d a b 3#6]
  | .pmove d a => [packUni 0x6A#7 d a 0#6 0#6]
  | .bias d a b => [packUni 0x6B#7 d a b 0#6]
  | .psplit d a b => [packUni 0x6C#7 d a b 0#6]
  | .acntRead d a => [packUni 0x6D#7 d a 0#6 0#6]
  | .acntReadClear d a => [packUni 0x6D#7 d a 0#6 1#6]
  | .acntWrite d a b => [packUni 0x6D#7 d a b 2#6]
  | .laneResultWrite => []
  | .racqServe => []
  | .launchBlockCheck => []
  | .placeCluster => []
  | .commitPoint => []
  | .commitEntryDrain => []
  | .pairCommitCompare => []
  | .pairForward => []
  | .pairedWordMatch => []
  | .mwaitWake => []
  | .mwaitTimeout => []
  | .objectFormComplete => []
  | .memoryAccessPerform => []
  | .loadComplete => []
  | .storeComplete => []
  | .atomicStep => []
  | .atomicComplete => []
  | .handlerTeamPlace => []
  | .operandLogReplay => []
  | .gleanerWalk => []
  | .pfhHandoff => []
  | .sievePairEntry => []
  | .svgetSnapshot => []
  | .cpyRegister => []
  | .ceDispatch => []
  | .ceCopy => []
  | .ceFill => []
  | .ceConvert => []
  | .ceGather => []
  | .ceScatter => []
  | .ceReduce => []
  | .ceSegment => []
  | .ceCommandComplete => []
  | .peerWriteCompletion => []
  | .splitBroadcastArrival => []
  | .mxeGrant => []
  | .mxePassComplete => []
  | .mxdBlockCheck => []
  | .mxdRowWrite => []
  | .mxdDrainComplete => []
  | .mxzComplete => []
  | .mxqResult => []
  | .directoryRead => []
  | .directoryWrite => []
  | .ownerForward => []
  | .quadInvalidate => []
  | .invalidationAck => []
  | .l1Writeback => []
  | .l2Fill => []
  | .l2scrWrite => []
  | .l2scrConvertDone => []
  | .deadFilled => []
  | .scrubRead => []
  | .scrubWriteback => []
  | .pageWalk => []
  | .tlbiRequest => []
  | .tlbiAck => []
  | .icinvRequest => []
  | .icinvAck => []
  | .bloomRebuild => []
  | .fillBlockArrival => []
  | .counterHalving => []
  | .renewDue => []
  | .leaseExpiry => []
  | .revokeDeadline => []
  | .poolReadTimeout => []
  | .answerLimit => []
  | .grant => []
  | .refuse => []
  | .returned => []
  | .revoke => []
  | .nodeFail => []
  | .rhaodDiscard => []
  | .bisnp => []
  | .fqpop => []
  | .fqresReplay => []
  | .fqresPage => []
  | .fqresLease => []
  | .fqresPoolLost => []
  | .fqresProt => []
  | .fqresChecksum => []
  | .fqresClose => []
  | .frameMarkDead => []
  | .frameFlush => []
  | .frameEvict => []
  | .frameReserve => []
  | .frameRelease => []
  | .frameDiscard => []
  | .frameEvictGroup => []
  | .frameSetHostBias => []
  | .frameRetire => []
  | .framectlInvalidOp => []
  | .hostAnswer => []
  | .standbyPgcTakeover => []
  | .timeSliceExpiry => []
  | .spillEngine => []
  | .halt => []
  | .resume => []
  | .step => []
  | .debuggerRegisterWrite => []
  | .tstopArm => []
  | .tickStop => []
  | .tstopRelease => []
  | .trringWrite => []
  | .icacheFill => []
  | .heartbeatSend => []
  | .heartbeat => []
  | .periodEvaluation => []
  | .accuse => []
  | .withdraw => []
  | .cull => []
  | .cullTick => []
  | .selfTestEnd => []
  | .appeal => []
  | .attestCheckEnd => []
  | .readmit => []
  | .readmissionTick => []
  | .operatingTimeSave => []
  | .testDeliver => []
  | .regraftTest => []
  | .fieldTestRun => []
  | .fieldTestResult => []
  | .doorbell => []
  | .contextReset => []
  | .functionLevelReset => []
  | .fabricMemRequest => []
  | .registerWrite => []
  | .powerOn => []
  | .perst => []
  | .bootWatchdog => []
  | .powerSample => []
  | .hbmRateSwitch => []
  | .managementReset => []
  | .clearFailedStart => []
  | .mgmtRegisterRead => []
  | .mgmtPwrcapWrite => []
  | .pldmFirmwareUpdate => []
  | .pldmMonitoring => []
  | .mctpControl => []
  | .emptySlot => []
  | .hostSwapRequest => []
  | .pmoveComplete => []
  | .psplitComplete => []
  | .biasComplete => []
  | .framectlComplete => []
  | .softError => []
  | .plotFailure => []
  | .msixUnmask => []

end Sys2Proof
end

