-- ==== Sys2Proof/Config.lean ====
section
/-! DEFINITION. What an implementation fixes and what the specification leaves open. A free value is an opaque constant:
nothing in the model evaluates it, so that every statement holds for each of its values (DESIGN CHOICE: log entry 5). Each is applied to a
number that `State.fresh` supplies, so that no two uses need agree. -/

namespace Sys2Proof.Config

/-- Which of the FP32 values within the bound of R136 or R137 an SFU function delivers. DESIGN CHOICE: log entry 15. -/
opaque freeSfu : Nat → Nat
/-- The descriptor that vstf writes for data of an s register, which has no shadow (R196, R198). DESIGN CHOICE: log entry 5. -/
opaque freeShadow : Nat → BitVec 48
/-- Whether an action that the device makes "within" a bound of time is made at this evaluation. DESIGN CHOICE: log entry 16. -/
opaque freeChoice : Nat → Bool
/-- A 64-bit value that no rule determines. DESIGN CHOICE: log entry 5. -/
opaque freeWord : Nat → BitVec 64

/-- The attestation tag of a plot's self-test (R376), under the key that the scan controllers hold, over the plot's id, the result and the
cull tick packed as one number. DESIGN CHOICE: log entry 76. -/
opaque attestTag : Nat → BitVec 64
/-- PBR id of the host's node, which no lease names (R383). DESIGN CHOICE: log entry 120. -/
opaque hostNode : Nat

end Sys2Proof.Config
end

