-- ==== Sys2Proof/Machine/Ops.lean ====
section
/-! DEFINITION. The named operations on the state that every meaning shares: units, registers, the agenda, physical memory
with its page cache, descriptors and poison. -/

namespace Sys2Proof.Machine

/-! ## Units -/

/-- TICK (R17, R18). -/
def State.tick (s : State) : Nat := s.cycle / 2 % 2 ^ 64

def State.group (s : State) (g : Nat) : Group := tabGet {} s.groups g
def State.setGroup (s : State) (g : Nat) (x : Group) : State := { s with groups := tabPut s.groups g x }
/-- Changes an entry of a table where it is listed. -/
def tabUpd {α : Type} (t : Tab α) (k : Nat) (f : α → α) : Tab α :=
  match tabFind t k with
  | some x => tabPut t k (f x)
  | none => t
def State.modGroup (s : State) (g : Nat) (f : Group → Group) : State := { s with groups := tabUpd s.groups g f }
def State.team (s : State) (t : Nat) : Team := tabGet { live := false } s.teams t
def State.modTeam (s : State) (t : Nat) (f : Team → Team) : State := { s with teams := tabUpd s.teams t f }
def State.cluster (s : State) (c : Nat) : Cluster := tabGet { live := false } s.clusters c
def State.modCluster (s : State) (c : Nat) (f : Cluster → Cluster) : State := { s with clusters := tabUpd s.clusters c f }
def State.ctx (s : State) (c : Nat) : Context := tabGet {} s.ctxs c
def State.modCtx (s : State) (c : Nat) (f : Context → Context) : State := { s with ctxs := tabMod {} s.ctxs c f }
def State.plot (s : State) (p : Nat) : Plot := tabGet {} s.plots p
def State.modPlot (s : State) (p : Nat) (f : Plot → Plot) : State := { s with plots := tabMod {} s.plots p f }
def State.quad (s : State) (q : Nat) : Quad := tabGet {} s.quads q
def State.modQuad (s : State) (q : Nat) (f : Quad → Quad) : State := { s with quads := tabMod {} s.quads q f }
def State.die (s : State) (d : Nat) : Die := tabGet {} s.dies d
def State.modDie (s : State) (d : Nat) (f : Die → Die) : State := { s with dies := tabMod {} s.dies d f }
def State.ce (s : State) (e : Nat) : Ce := tabGet {} s.ces e
def State.modCe (s : State) (e : Nat) (f : Ce → Ce) : State := { s with ces := tabMod {} s.ces e f }
def State.cmd? (s : State) (c : Nat) : Option Cmd := tabFind s.cmds c
def State.modCmd (s : State) (c : Nat) (f : Cmd → Cmd) : State := { s with cmds := tabUpd s.cmds c f }
def State.frame (s : State) (f : Nat) : Frame := tabGet {} s.frames f
def State.setFrame (s : State) (f : Nat) (x : Frame) : State := { s with frames := tabSet {} s.frames f x }
def State.modFrame (s : State) (f : Nat) (h : Frame → Frame) : State := s.setFrame f (h (s.frame f))
def State.lease (s : State) (i : Nat) : Lease := tabGet {} s.leases i
def State.modLease (s : State) (i : Nat) (f : Lease → Lease) : State :=
  { s with leases := tabSet {} s.leases i (f (s.lease i)) }
def State.modPgc (s : State) (f : Pgc → Pgc) : State := { s with pgc := f s.pgc }
def State.modRegs (s : State) (f : Regs → Regs) : State := { s with regs := f s.regs }
def State.modNvm (s : State) (f : Nvm → Nvm) : State := { s with nvm := f s.nvm }
def State.modBoot (s : State) (f : Boot → Boot) : State := { s with boot := f s.boot }
/-- One message out of the package. -/
def State.emit (s : State) (m : Msg) : State := { s with outbox := s.outbox ++ [m] }
/-- A name for a new operation, command, team, group or commit. -/
def State.bump (s : State) : State := { s with nextId := s.nextId + 1 }

/-! ## Geometry (R13, R15, R16) -/

def plotX (p : Nat) : Nat := p % 24
def plotY (p : Nat) : Nat := p / 24
/-- Die of a plot (R13); a PGC reads 4 or 5. -/
def plotDie (p : Nat) : Nat := if p < 384 then plotX p / 12 + 2 * (plotY p / 8) else p - 380
/-- Quad of a plot (R13). -/
def plotQuad (p : Nat) : Nat := (plotY p / 2) * 12 + plotX p / 2
/-- The four plots of a quad. -/
def quadPlots (q : Nat) : List Nat :=
  let o := (q / 12) * 2 * 24 + (q % 12) * 2
  [o, o + 1, o + 24, o + 25]
/-- Neighbour n of a plot: 0 north, 1 east, 2 south, 3 west (R371). -/
def plotNbr (p n : Nat) : Option Nat :=
  match n with
  | 0 => if plotY p = 0 then none else some (p - 24)
  | 1 => if plotX p = 23 then none else some (p + 1)
  | 2 => if plotY p = 15 then none else some (p + 24)
  | 3 => if plotX p = 0 then none else some (p - 1)
  | _ => none
def plotNbrs (p : Nat) : List Nat := (List.range 4).filterMap (plotNbr p)
/-- Plots in service (R24). -/
def State.inService (s : State) (p : Nat) : Bool :=
  let x := s.plot p
  decide (p < 384) && !x.culled && !x.retired
/-- Length of the dimension-ordered path (R16) when no detour is in force. -/
def hopsXY (p q : Nat) : Nat :=
  (if plotX p ≤ plotX q then plotX q - plotX p else plotX p - plotX q) +
  (if plotY p ≤ plotY q then plotY q - plotY p else plotY p - plotY q)
/-- Die crossings of that path. -/
def crossXY (p q : Nat) : Nat :=
  (if plotX p / 12 = plotX q / 12 then 0 else 1) + (if plotY p / 8 = plotY q / 8 then 0 else 1)

/-- Plots on the x-then-y path from p to q. -/
def pathXY (p q : Nat) : List Nat :=
  let x0 := plotX p; let x1 := plotX q; let y0 := plotY p; let y1 := plotY q
  let xs := if x0 ≤ x1 then (List.range (x1 - x0 + 1)).map (fun i => x0 + i) else (List.range (x0 - x1 + 1)).map (fun i => x0 - i)
  let ys := if y0 ≤ y1 then (List.range (y1 - y0 + 1)).map (fun i => y0 + i) else (List.range (y0 - y1 + 1)).map (fun i => y0 - i)
  xs.map (fun x => y0 * 24 + x) ++ (ys.drop 1).map (fun y => y * 24 + x1)

/-- One round of the distances to `q` over plots in service, breadth first. -/
def distRound (ok : Nat → Bool) (d : Tab Nat) (front : List Nat) (n : Nat) : Tab Nat × List Nat :=
  front.foldl (fun (acc : Tab Nat × List Nat) p =>
    (plotNbrs p).foldl (fun (a : Tab Nat × List Nat) r =>
      if ok r && (tabFind a.1 r).isNone then (tabPut a.1 r (n + 1), a.2 ++ [r]) else a) acc) (d, [])

def distLoop (ok : Nat → Bool) : Nat → Tab Nat → List Nat → Nat → Tab Nat
  | 0, d, _, _ => d
  | f + 1, d, front, n =>
    match front with
    | [] => d
    | _ => let r := distRound ok d front n; distLoop ok f r.1 r.2 (n + 1)

/-- Hops and die crossings of the detour from p to q: a shortest path through plots in service that takes, at every hop, the
first move of the list of R16; none where no path exists. -/
def detourLoop (ok : Nat → Bool) (dist : Tab Nat) (q : Nat) : Nat → Nat → Nat → Nat → Option (Nat × Nat)
  | 0, _, _, _ => none
  | f + 1, p, hops, cr =>
    if p = q then some (hops, cr) else
    let toX := if plotX p < plotX q then [1] else if plotX q < plotX p then [3] else []
    let toY := if plotY p < plotY q then [2] else if plotY q < plotY p then [0] else []
    let d := tabGet 1000 dist p
    let next := ((toX ++ toY ++ [2, 0, 1, 3]).filterMap (plotNbr p)).filter
      (fun r => ok r && decide (tabGet 1000 dist r + 1 = d))
    match next with
    | r :: _ => detourLoop ok dist q f r (hops + 1) (cr + if plotDie p = plotDie r then 0 else 1)
    | [] => none

/-- Hops and die crossings of the path in force between two plots (R16). -/
def State.path (s : State) (p q : Nat) : Option (Nat × Nat) :=
  if (pathXY p q).all (fun r => !(s.plot r).culled) then some (hopsXY p q, crossXY p q)
  else
    let ok := fun r => !(s.plot r).culled
    detourLoop ok (distLoop ok 384 [(q, 0)] [q] 0) q 400 p 0 0

/-- The router at which a unit's messages to or from router `b` enter the mesh, with the cost of its edge link: a PGC's is the edge port of
the other end's row (R415). -/
def entryPort (a b : Nat) : Nat × Nat :=
  if a = 384 then (plotY b * 24, 2 + 64) else if a = 385 then (plotY b * 24 + 23, 2 + 64) else (a, 0)

/-- Cycles of one way along the path in force: 2 per hop and 64 per die crossing (R27); a PGC adds its edge link (R415). None where no path
leads there (R16). DESIGN CHOICE: log entry 10. -/
def State.way? (s : State) (p q : Nat) : Option Nat :=
  let ep := entryPort p q
  let eq := entryPort q ep.1
  (s.path ep.1 eq.1).map (fun x => 2 * x.1 + 64 * x.2 + ep.2 + eq.2)

/-- The same count where a path exists. DESIGN CHOICE: log entry 10. -/
def State.wayCycles (s : State) (p q : Nat) : Nat := (s.way? p q).getD 0

/-- A unit drops a message of the mesh: CULLDROP of its router counts it (R16, R375, R381). -/
def State.dropAt (s : State) (p : Nat) : State := s.modPlot p (fun x => { x with cullDrop := (x.cullDrop + 1) % 2 ^ 32 })

/-! ## The agenda -/

/-- Inserts a step after every step that is due no later. DESIGN CHOICE: log entry 4. -/
def agendaInsert : List Due → Due → List Due
  | [], x => [x]
  | y :: t, x => if x.due < y.due then x :: y :: t else y :: agendaInsert t x

/-- A step becomes due at a cycle. -/
def State.atCycle (s : State) (c : Nat) (i : Instr) (e : Ev) : State :=
  { s with agenda := agendaInsert s.agenda { due := c, what := i, ev := e } }

/-- A step becomes due `n` cycles from now. DESIGN CHOICE: log entry 10. -/
def State.after (s : State) (n : Nat) (i : Instr) (e : Ev) : State := s.atCycle (s.cycle + n) i e

/-- A step becomes due at a tick (R17). -/
def State.atTick (s : State) (t : Nat) (i : Instr) (e : Ev) : State := s.atCycle (2 * t) i e

/-- The step with these operands is in the agenda. -/
def State.scheduled (s : State) (i : Instr) (e : Ev) : Bool :=
  s.agenda.any (fun x => decide (x.what = i) && decide (x.ev = e))

/-- As `after`, unless the agenda brings the same step by then. -/
def State.afterOnce (s : State) (n : Nat) (i : Instr) (e : Ev) : State :=
  if s.agenda.any (fun x => decide (x.what = i) && decide (x.ev = e) && decide (x.due ≤ s.cycle + n)) then s else s.after n i e

/-- A message from one unit to another, sent after `n` cycles: it acts at its arrival; without a path it is dropped at the router where it enters the
mesh (R16). -/
def State.send (s : State) (p q n : Nat) (i : Instr) (e : Ev) : State :=
  match s.way? p q with
  | some c => s.after (n + c) i e
  | none => s.dropAt (entryPort p q).1

/-- Removes every occurrence of a step from the agenda. -/
def State.unschedule (s : State) (i : Instr) (e : Ev) : State :=
  { s with agenda := s.agenda.filter (fun x => !(decide (x.what = i) && decide (x.ev = e))) }

/-! ## Registers of a group -/

/-- s0-s63; s63 reads as zero, untagged (R80, R151). -/
def Group.readS (g : Group) (n : Nat) : SReg := if n = 63 then {} else tabGet {} g.s n
/-- A write to s63 is discarded (R80). -/
def Group.writeS (g : Group) (n : Nat) (x : SReg) : Group :=
  if n = 63 then g else { g with s := tabSet {} g.s n x }
/-- An untagged write (R151). -/
def Group.writeSV (g : Group) (n : Nat) (v : DWord) : Group := g.writeS n { val := v }
/-- k1-k7; k0 reads as the lanes of the issuing bundle (R80). -/
def Group.readK (g : Group) (bundle : Mask) (n : Nat) : Mask := if n = 0 then bundle else tabGet 0 g.k n
def Group.writeK (g : Group) (n : Nat) (m : Mask) : Group := { g with k := tabSet 0 g.k n m }
/-- One vector register, 64 lanes. -/
def Group.readV (g : Group) (r : Nat) : List Word := tabGet zeroLanes g.v r
def Group.writeV (g : Group) (r : Nat) (v : List Word) : Group := { g with v := tabSet zeroLanes g.v r v }
/-- Writes the lanes of a mask (R8, R77). -/
def Group.writeVM (g : Group) (m : Mask) (r : Nat) (v : List Word) : Group := g.writeV r (mergeLanes m v (g.readV r))
def Group.readF (g : Group) (n : Nat) : Nat := tabGet 0 g.f n
def Group.writeF (g : Group) (n v : Nat) : Group := { g with f := tabSet 0 g.f n v }
def Group.incF (g : Group) (n : Option Nat) : Group := match n with | some k => g.writeF k (g.readF k + 1) | none => g
def Group.decF (g : Group) (n : Option Nat) : Group := match n with | some k => g.writeF k (g.readF k - 1) | none => g
def Group.readDesc (g : Group) (r q : Nat) : BitVec 48 := tabGet 0 g.desc (4 * r + q)
def Group.writeDesc (g : Group) (r q : Nat) (d : BitVec 48) : Group := { g with desc := tabSet 0 g.desc (4 * r + q) d }
/-- Bits are ORed into FPSTAT in cycle `c` (R102, R103). -/
def Group.orFp (g : Group) (c : Nat) (x : BitVec 6) : Group :=
  { g with fpstat := g.fpstat ||| x, fpOr := (c, (if g.fpOr.1 = c then g.fpOr.2 else 0) ||| x) }
/-- The bits ORed into FPSTAT in cycle `c` so far: an `swr` of that cycle takes effect before them (R103). -/
def Group.fpLate (g : Group) (c : Nat) : BitVec 6 := if g.fpOr.1 = c then g.fpOr.2 else 0

/-- Writes a pending result into its register in cycle `c` and records its exceptions (R49, R103). -/
def Group.writePending (g : Group) (c : Nat) (p : Pending) : Group :=
  let h := match p.reg with
    | .v r => g.writeVM p.lanes r p.vals
    | .k n => g.writeK n ((p.bits &&& p.lanes) ||| (g.readK 0 n &&& ~~~p.lanes))
    | _ => g
  h.orFp c p.fp

/-- Every pending result of a group is written at once: before a swap, a halt or a handler's launch captures the group (R127). -/
def State.flushPend (s : State) (gid : Nat) : State :=
  s.modGroup gid (fun g => { (g.pend.foldl (fun h e => h.writePending s.cycle e.2) g) with pend := [] })

/-- Rows n, n + 1, ... are (un)mapped: their registers read zero and their shadows are zero (R44, R60, R196). -/
def Group.zeroRows (g : Group) (n m : Nat) : Group :=
  { g with v := g.v.filter (fun e => !(decide (16 * n ≤ e.1) && decide (e.1 < 16 * m))),
           desc := g.desc.filter (fun e => !(decide (64 * n ≤ e.1) && decide (e.1 < 64 * m))) }

/-! ## The Sieve of a team -/

/-- The Sieve that a team holds on a plot, where it stands: in the plot, or carried away with its team (R352, R355). -/
def Plot.sieveOf (x : Plot) (t : Nat) : Sieve :=
  if x.sieve.team = some t then x.sieve else (x.savedSieves.find? (fun v => decide (v.team = some t))).getD {}
/-- Changes the Sieve of a team. -/
def Plot.modSieve (x : Plot) (t : Nat) (f : Sieve → Sieve) : Plot :=
  if x.sieve.team = some t then { x with sieve := f x.sieve }
  else { x with savedSieves := x.savedSieves.map (fun v => if v.team = some t then f v else v) }

/-! ## Physical memory -/

/-- Frame in which a DPA lies (R259). -/
def frameOf (dpa : Nat) : Nat := dpa / 65536
/-- Usable HBM in GiB (R23). -/
def State.hbmGib (s : State) : Nat := if s.boot.parity then 252 else 288
/-- Frames of HBM (R259). -/
def State.hbmFrames (s : State) : Nat := s.hbmGib * 16384
/-- Frames of one die (R259, R315). -/
def State.dieFrames (s : State) : Nat := s.hbmFrames / 4
/-- The stack of its die in which an HBM frame lies: the specification gives no interleaving (DESIGN CHOICE: log entry 13). -/
def State.hbmStack (s : State) (f : Nat) : Nat := 2 * (f / s.dieFrames) + f % 2
/-- The channel of its stack that serves a byte of HBM (DESIGN CHOICE: log entry 13). -/
def hbmChannel (p : Nat) : Nat := p / 512 % 32
def isHbm (s : State) (dpa : Nat) : Bool := decide (dpa < s.hbmFrames * 65536)
/-- Scratch aperture of a die (R259): die and offset. -/
def scratchOf (dpa : Nat) : Option (Nat × Nat) :=
  if 0x00F000000000 ≤ dpa ∧ dpa < 0x00F004000000 then
    let d := (dpa - 0x00F000000000) / 0x01000000
    let o := (dpa - 0x00F000000000) % 0x01000000
    if o < 0x00C00000 then some (d, o) else none
  else none
def isPool (dpa : Nat) : Bool := decide (0x0001000000000000 ≤ dpa) && decide (dpa < 0x0002000000000000)
def isHost (dpa : Nat) : Bool := decide (0x0004000000000000 ≤ dpa) && decide (dpa < 0x0008000000000000)
def isPeer (dpa : Nat) : Bool := decide (0x0008000000000000 ≤ dpa) && decide (dpa < 0x0010000000000000)
def isPgcMem (dpa : Nat) : Bool := decide (0x00F800000000 ≤ dpa) && decide (dpa < 0x00F800100000)
/-- Memory whose blocks carry a metadata word (R108, R197). DEDUCED: log entry 72. -/
def hasMeta (dpa : Nat) : Bool := !isHost dpa

/-- Home die of a line (R260). -/
def State.homeDie (s : State) (dpa : Nat) : Nat :=
  if isHbm s dpa then frameOf dpa / s.dieFrames
  else match scratchOf dpa with
    | some (d, _) => d
    | none => (fld dpa 16 2) ^^^ (fld dpa 24 2)
/-- Home slice of a line (R260, R272). -/
def homeSlice (dpa : Nat) : Nat :=
  match scratchOf dpa with
  | some (_, o) => (o / 512) % 32
  | none => (fld dpa 9 5) ^^^ (fld dpa 14 5) ^^^ (fld dpa 19 5) ^^^ (fld dpa 24 5)
/-- Set of a line in its slice (R260, R272). -/
def homeSet (dpa : Nat) : Nat :=
  match scratchOf dpa with
  | some (_, o) => (o / 16384) % 192
  | none => (fld dpa 14 38) % 192
/-- Plot at whose router a slice sits (R15). -/
def slicePlot (die sl : Nat) : Nat := ((die / 2) * 8 + sl / 4) * 24 + (die % 2) * 12 + 3 * (sl % 4) + 1
/-- Router of the home slice of a DPA. -/
def State.homePlot (s : State) (dpa : Nat) : Nat := slicePlot (s.homeDie dpa) (homeSlice dpa)

/-- The eight frames of the set in which a pool unit may be cached (R315). -/
def State.unitFrames (s : State) (u : Nat) : List Nat :=
  let d := s.homeDie (u * 65536)
  let set := (u / 4) % (s.dieFrames / 8)
  (List.range 8).map (fun i => d * s.dieFrames + 8 * set + i)

/-- The frame that caches a unit (R315). -/
def State.frameFor (s : State) (u : Nat) : Option Nat :=
  (s.unitFrames u).find? (fun f => decide ((s.frame f).tag = some u))

/-- The frame that holds the block of a pool DPA (R315, R316). -/
def State.frameHolding (s : State) (dpa : Nat) : Option Nat :=
  if isPool dpa then
    match s.frameFor (frameOf dpa) with
    | some f => if (s.frame f).valid.getLsbD (dpa % 65536 / 64) then some f else none
    | none => none
  else none

/-- Where the bytes of a DPA are: the frame that caches its block, or its own place. -/
def State.phys (s : State) (dpa : Nat) : Nat :=
  match s.frameHolding dpa with
  | some f => f * 65536 + dpa % 65536
  | none => dpa

/-- The block of a place lies in a DEAD frame, and no cache holds it dirty: it reads zero (R274, R275). -/
def State.deadAt (s : State) (p : Nat) : Bool := isHbm s p && (s.frame (frameOf p)).dead && (tabFind s.under (p / 64)).isNone

/-- A byte at its place: a DEAD frame reads zero (R274). -/
def State.rawByte (s : State) (p : Nat) : Byte := if s.deadAt p then 0 else tabGet 0 s.mem p

/-- One byte of memory (R108, R273: what nothing has written reads zero). DEDUCED: log entry 18. -/
def State.readByte (s : State) (dpa : Nat) : Byte := s.rawByte (s.phys dpa)

/-- `n` bytes from a DPA. -/
def State.readMem (s : State) (dpa n : Nat) : List Byte := (List.range n).map (fun i => s.readByte (dpa + i))
/-- The number that `n` bytes hold. -/
def State.readNat (s : State) (dpa n : Nat) : Nat := bytesNat (s.readMem dpa n)

/-- The zero fill that the first write to reach a DEAD frame at its controller starts (R275): the frame leaves the DEAD state and reads zero, but for the
blocks that a cache holds dirty. The fill writes every block, so that a scrubber's result is older than it, and an error is gone with what stood
there (R276). -/
def State.fillDead (s : State) (f : Nat) : State :=
  let stays := fun (b : Nat) => decide (b / 1024 ≠ f) || (tabFind s.under b).isSome
  let s1 : State := { s with mem := s.mem.filter (fun c => stays (c.1 / 64)),
                             desc := s.desc.filter (fun c => stays c.1),
                             poison := s.poison.filter stays,
                             eccErrors := s.eccErrors.filter (fun e => decide (e.1 / 1024 ≠ f)),
                             scrub := s.scrub.filter (fun e => decide (e.2.1 / 1024 ≠ f)) }
  (s1.modFrame f (fun x => { x with dead := false, zeroing := some (s.cycle + 1024) })).after 1024 .deadFilled { a := f }

/-- A write that no cache holds is about to reach a place: a DEAD frame is filled first. -/
def State.wakeFrame (s : State) (p : Nat) : State := if s.deadAt p then s.fillDead (frameOf p) else s

/-- A block of a cached unit becomes dirty (R315). -/
def State.markDirty (s : State) (dpa : Nat) : State :=
  match s.frameHolding dpa with
  | some f => s.modFrame f (fun x => { x with dirty := x.dirty ||| BitVec.ofNat 1024 (2 ^ (dpa % 65536 / 64)) })
  | none => s

/-- Writes one byte at its place; the write version of its block moves on (R276). DEDUCED: log entry 65. -/
def State.pokeByte (s : State) (p : Nat) (b : Byte) : State :=
  { s with mem := tabSet 0 s.mem p b, versions := tabMod 0 s.versions (p / 64) (fun n => n + 1) }

/-- Writes one byte of memory. -/
def State.writeByte (s : State) (dpa : Nat) (b : Byte) : State :=
  let p := s.phys dpa
  ((s.wakeFrame p).pokeByte p b).markDirty dpa

/-- Writes bytes from a DPA upward. -/
def State.writeMem (s : State) : Nat → List Byte → State
  | _, [] => s
  | a, b :: t => (s.writeByte a b).writeMem (a + 1) t

/-- DESC[47:0] of the block of a DPA (R108): zero in a DEAD frame and where no metadata exists. DEDUCED: log entry 18. -/
def State.readDesc (s : State) (dpa : Nat) : BitVec 48 :=
  if hasMeta dpa then
    let p := s.phys dpa
    if s.deadAt p then 0 else tabGet 0 s.desc (p / 64)
  else 0

/-- Writes DESC[47:0] of the block of a DPA (R108). -/
def State.writeDesc (s : State) (dpa : Nat) (d : BitVec 48) : State :=
  if hasMeta dpa then
    let p := s.phys dpa
    let s1 := s.wakeFrame p
    { s1 with desc := tabSet 0 s1.desc (p / 64) d }
  else s

/-- Format of a block's descriptor. -/
def descFmt (d : BitVec 48) : Nat := (d.extractLsb' 0 8).toNat
/-- Reference tag of word i of an OBJ block (R108). -/
def descTag (d : BitVec 48) (i : Nat) : Bool := d.getLsbD (16 + i)
/-- Sets or clears the reference tag of word i. A block that takes a tag is an OBJ block from then on (R108, R296): one that was not takes FMT OBJ
with no other tag. DEDUCED: log entry 92. -/
def descSetTag (d : BitVec 48) (i : Nat) (t : Bool) : BitVec 48 :=
  if t then (if descFmt d = 0x40 then d else 0x40) ||| BitVec.ofNat 48 (2 ^ (16 + i)) else d &&& ~~~ (BitVec.ofNat 48 (2 ^ (16 + i)))

/-- The block is poisoned (R361); a read of a DEAD frame reports no error (R274). -/
def State.poisoned (s : State) (dpa : Nat) : Bool :=
  let p := s.phys dpa
  s.poison.contains (p / 64) && !s.deadAt p
/-- DEDUCED: log entry 78. -/
def State.setPoison (s : State) (dpa : Nat) : State := { s with poison := insertNat s.poison (s.phys dpa / 64) }
/-- A write that covers the whole block clears its poison (R361), and an error of what stood there is gone with it. -/
def State.clearPoison (s : State) (dpa : Nat) : State :=
  let b := s.phys dpa / 64
  { s with poison := s.poison.filter (fun x => decide (x ≠ b)), eccErrors := s.eccErrors.filter (fun e => decide (e.1 ≠ b)) }

/-- Clears the tags of the OBJ words of which `n` bytes from a DPA write any (R192, R203, R296). -/
def State.clearTags (s : State) (dpa n : Nat) : State :=
  (List.range n).foldl (fun t i =>
    let a := dpa + i
    let d := t.readDesc a
    if descFmt d = 0x40 then t.writeDesc a (descSetTag d (a % 64 / 8) false) else t) s

/-- A plain store (R192): the bytes, and the tags of the words they touch cleared. DEDUCED: log entry 1. -/
def State.storeMem (s : State) (dpa : Nat) (bs : List Byte) : State :=
  let s1 := (s.writeMem dpa bs).clearTags dpa bs.length
  if dpa % 64 = 0 ∧ bs.length = 64 then s1.clearPoison dpa else s1

/-- Zeroes a range of blocks and their descriptors. -/
def State.zeroRange (s : State) (lo n : Nat) : State :=
  { s with mem := s.mem.filter (fun c => !(decide (lo ≤ c.1) && decide (c.1 < lo + n))),
           desc := s.desc.filter (fun c => !(decide (lo ≤ c.1 * 64) && decide (c.1 * 64 < lo + n))),
           poison := s.poison.filter (fun b => !(decide (lo ≤ b * 64) && decide (b * 64 < lo + n))),
           eccErrors := s.eccErrors.filter (fun e => !(decide (lo ≤ e.1 * 64) && decide (e.1 * 64 < lo + n))),
           scrub := s.scrub.filter (fun e => !(decide (lo ≤ e.2.1 * 64) && decide (e.2.1 * 64 < lo + n))) }

/-- Copies blocks with their metadata words and poison (R316, R317, R338, R361), address to place. -/
def State.copyBlock (s : State) (src dst : Nat) : State :=
  let bs := (List.range 64).map (fun i => s.rawByte (src + i))
  let d := if hasMeta src && !s.deadAt src then tabGet 0 s.desc (src / 64) else 0
  let bad := s.poison.contains (src / 64) && !s.deadAt src
  let s1 := (List.range 64).foldl (fun t i => t.pokeByte (dst + i) (bs.getD i 0)) s
  let s2 : State := if hasMeta dst then { s1 with desc := tabSet 0 s1.desc (dst / 64) d } else s1
  { s2 with poison := if bad then insertNat s2.poison (dst / 64) else s2.poison.filter (fun x => decide (x ≠ dst / 64)),
            eccErrors := s2.eccErrors.filter (fun e => decide (e.1 ≠ dst / 64)) }

end Sys2Proof.Machine
end

