-- ==== Sys2Proof/Machine/Fq.lean ====
section
/-! DEFINITION. The fault queue of the pager core (R334, R335, R337), trace records (R399, R400), error vectors (R390). -/

namespace Sys2Proof.Machine

/-- FQ.ACC (R334). -/
def AccKind.code : AccKind → Nat
  | .read => 0 | .write => 1 | .fetch => 2 | .atomic => 3

/-- The record as 256 bits (R334), with the context's generation and TICK at enqueue. -/
def State.fqPack (s : State) (f : FqFields) : BitVec 256 :=
  BitVec.ofNat 256 (f.kind + f.ctx * 2 ^ 8 + (s.ctx f.ctx).gen.toNat * 2 ^ 16 + f.src * 2 ^ 56 + f.acc * 2 ^ 58
    + f.gslot * 2 ^ 60 + f.plot * 2 ^ 63 + f.team * 2 ^ 72 + f.detail * 2 ^ 96 + f.node * 2 ^ 104 + f.lease * 2 ^ 116
    + (f.addr % 2 ^ 64) * 2 ^ 128 + s.tick * 2 ^ 192)

/-- The lowest slot that holds no record (R334). -/
def fqFree (q : Tab FqRec) : Option Nat := (List.range 1024).find? (fun i => (tabFind q i).isNone)

/-- Stores a record in a slot, in PGC memory too (R334). -/
def State.fqPlace (s : State) (i : Nat) (d : BitVec 256) (t : FqTarget) : State :=
  let s1 := s.modPgc (fun p => { p with fq := tabPut p.fq i { data := d, order := p.fqNext, target := t }, fqNext := p.fqNext + 1 })
  s1.writeMem (0x00F800080000 + 32 * i) (natBytes 32 d.toNat)

/-- A unit enqueues a record; while the queue is full its request is held (R334). -/
def State.enqueue (s : State) (f : FqFields) (t : FqTarget) : State :=
  match (if s.pgc.fqWait.isEmpty then fqFree s.pgc.fq else none) with
  | some i => s.fqPlace i (s.fqPack f) t
  | none => s.modPgc (fun p => { p with fqWait := p.fqWait ++ [(f, t)] })

/-- A plot sends a record of its own to the PGC that serves, over the path in force and the PGC's edge port (R415). -/
def State.report (s : State) (f : FqFields) (t : FqTarget) : State :=
  match s.way? f.plot (384 + s.pgc.serving) with
  | some n => s.modPgc (fun p => { p with fqRoad := p.fqRoad ++ [(s.cycle + n, f, t)] })
  | none => s.dropAt f.plot

/-- The records that have arrived are enqueued, in the order in which they were sent. -/
def State.fqArrivals (s : State) : State :=
  let here := s.pgc.fqRoad.filter (fun e => decide (e.1 ≤ s.cycle))
  if here.isEmpty then s
  else here.foldl (fun t e => t.enqueue e.2.1 e.2.2) (s.modPgc (fun p => { p with fqRoad := p.fqRoad.filter (fun e => decide (s.cycle < e.1)) }))

/-- Frees a slot; the oldest held request takes it (R334, R335). -/
def State.fqRelease (s : State) (i : Nat) : State :=
  let s1 := s.modPgc (fun p => { p with fq := tabDel p.fq i })
  match s1.pgc.fqWait with
  | (f, t) :: rest => (s1.modPgc (fun p => { p with fqWait := rest })).fqPlace i (s1.fqPack f) t
  | [] => s1

/-- The slots whose record satisfies a test are freed (R337 at a context reset). -/
def State.fqDrop (s : State) (f : FqRec → Bool) : State :=
  let test := fun (d : FqFields) (t : FqTarget) => f { data := s.fqPack d, order := 0, target := t }
  let s0 := s.modPgc (fun p => { p with fqWait := p.fqWait.filter (fun e => !test e.1 e.2), fqRoad := p.fqRoad.filter (fun e => !test e.2.1 e.2.2), answers := p.answers.filter (fun e => !f e.2) })
  ((s0.pgc.fq.filter (fun e => f e.2)).map (fun e => e.1)).foldl (fun t i => t.fqRelease i) s0

/-- FQ.CTX of a record. -/
def fqCtx (d : BitVec 256) : Nat := (d.extractLsb' 8 6).toNat
/-- FQ.KIND of a record. -/
def fqKind (d : BitVec 256) : Nat := (d.extractLsb' 0 8).toNat

/-! ## Trace records -/

/-- A trace record (R399). -/
def State.tracePack (s : State) (kind tag ctx gslot plot team aux value : Nat) : BitVec 256 :=
  BitVec.ofNat 256 (s.tick + kind * 2 ^ 64 + tag * 2 ^ 112 + ctx * 2 ^ 118 + gslot * 2 ^ 124 + plot * 2 ^ 127
    + team * 2 ^ 136 + (aux % 2 ^ 32) * 2 ^ 160 + (value % 2 ^ 64) * 2 ^ 192)

/-- Die d's trace unit writes a record to its ring or drops it (R400). TRTAIL counts modulo 65,536. DESIGN CHOICE: log entry 122. -/
def State.traceWrite (s : State) (d : Nat) (r : BitVec 256) : State :=
  let x := s.die d
  if x.trRing = 0 then s
  else
    let next := (x.trHead + 1) % 65536
    if next = x.trTail % 65536 then s.modDie d (fun y => { y with trDrop := (y.trDrop + 1) % 2 ^ 64 })
    else (s.writeMem (x.trRing.toNat + 32 * x.trHead) (natBytes 32 r.toNat)).modDie d (fun y => { y with trHead := next })

/-- A unit emits a trace record of a context (R399): only while the context is traced. DEDUCED: log entry 58. -/
def State.trace (s : State) (die kind tag ctx gslot plot team aux value : Nat) : State :=
  if (s.ctx ctx).trace then s.traceWrite die (s.tracePack kind tag ctx gslot plot team aux value) else s

/-! ## Interrupt vectors -/

/-- Raises MSI-X vector n of a context's function under the mask rules (R390). PRESUMED: log entry 3. -/
def State.raiseVector (s : State) (c n : Nat) : State :=
  if (s.ctx c).msixMask.getLsbD n ∨ (s.ctx c).msixAll then
    s.modCtx c (fun x => { x with msixPending := x.msixPending ||| BitVec.ofNat 66 (2 ^ n) })
  else s.emit (.msix c n)

/-- The context's error vector (R390). -/
def State.errorVector (s : State) (c : Nat) : State := s.raiseVector c 64

/-- Saturating counts of RASCNT (R381). -/
def sat16 (n : Nat) : Nat := if n < 65535 then n + 1 else 65535

end Sys2Proof.Machine
end

