-- ==== Sys2Proof/Machine/Cache.lean ====
section
/-! DEFINITION. Replacement (R262), the L2 and its directory (R261-R265), the L1 (R266-R268), the HBM page cache (R315-R319).
The caches hold states, tags and dirty bits; the bytes are in the one coherent memory (DEDUCED: log entry 1). -/

namespace Sys2Proof.Machine

/-! ## Tree pseudo-LRU (R262) -/

/-- Sets the bits on the path to an entry so that each points away from it. `lv` levels remain; `node` is the tree node. -/
def plruTouch : Nat → Nat → Nat → Nat → Nat
  | 0, _, _, bits => bits
  | lv + 1, node, idx, bits =>
    let dir := idx / 2 ^ lv % 2
    let b1 := if dir = 1 then bits - (bits / 2 ^ node % 2) * 2 ^ node else bits - (bits / 2 ^ node % 2) * 2 ^ node + 2 ^ node
    plruTouch lv (2 * node + dir) idx b1

/-- The entry reached by following the bits, passing over subtrees with no eligible entry. -/
def plruVictim (ok : Nat → Bool) : Nat → Nat → Nat → Nat → Option Nat
  | 0, _, base, _ => if ok base then some base else none
  | lv + 1, node, base, bits =>
    let b := bits / 2 ^ node % 2
    let sub := fun (d : Nat) => plruVictim ok lv (2 * node + d) (base + d * 2 ^ lv) bits
    match sub b with
    | some r => some r
    | none => sub (1 - b)

/-! ## mwait watches -/

/-- A line leaves a plot's L1 through invalidation or downgrade: the groups that watch it wake (R176). DEDUCED: log entry 86. -/
def State.wakeWatch (s : State) (p line : Nat) : State :=
  (s.plot p).slots.foldl (fun t x =>
    match x with
    | some g =>
      match (t.group g).hold with
      | some (.mwait d a r _ n l) =>
        if l = line then (t.modGroup g (fun y => { y with hold := some (.mwait d a r true n l) })).afterOnce 0 .mwaitWake { a := g }
        else t
      | _ => t
    | none => t) s

/-! ## The L1 (R266, R267) -/

/-- Sets of a plot's L1 (R266). -/
def l1Sets (x : Plot) : Nat := (256 - x.partition) / 4

/-- The plot whose L1 holds a line for a plot: its own, or the fused slice (R267). -/
def State.l1Home (s : State) (p dpa : Nat) : Nat :=
  match (s.plot p).slots.findSome? (fun x => x.bind (fun g =>
      let c := s.cluster (s.team (s.group g).team).cluster
      if c.fused && c.live then some c else none)) with
  | some c =>
    let n := c.teams.length
    let h := (fld dpa 9 4) ^^^ (fld dpa 13 4) ^^^ (fld dpa 17 4)
    (s.team (c.teams.getD (h % n) 0)).plot
  | none => p

def State.l1Key (s : State) (p dpa : Nat) : Option Nat :=
  let x := s.plot p
  let set := (dpa / 512) % (l1Sets x)
  (List.range 8).findSome? (fun w =>
    match tabFind x.l1 (8 * set + w) with
    | some l => if l.line = dpa / 512 then some (8 * set + w) else none
    | none => none)

/-- Coherence state of the grain of a DPA in a plot's L1. -/
def State.l1State (s : State) (p dpa : Nat) : Option Coh :=
  match s.l1Key p dpa with
  | some k =>
    match tabFind (s.plot p).l1 k with
    | some l => tabFind l.sect (dpa % 512 / 32)
    | none => none
  | none => none

/-- A hit sets the bits on its path (R262). -/
def State.l1Touch (s : State) (p dpa : Nat) : State :=
  match s.l1Key p dpa with
  | some k => s.modPlot p (fun x => { x with l1Lru := tabSet 0 x.l1Lru (k / 8) (plruTouch 3 1 (k % 8) (tabGet 0 x.l1Lru (k / 8))) })
  | none => s

/-- The sectors of the grain of a DPA. -/
def grainSectors (grain dpa : Nat) : List Nat :=
  let first := (dpa % 512) / grain * grain / 32
  (List.range (grain / 32)).map (fun i => first + i)

/-- Drops a grain from an L1 (R265). DEDUCED: log entry 65. -/
def State.l1Drop (s : State) (p dpa grain : Nat) : State :=
  match s.l1Key p dpa with
  | some k =>
    match tabFind (s.plot p).l1 k with
    | some l =>
      let sect := (grainSectors grain dpa).foldl (fun t i => tabDel t i) l.sect
      let s1 := s.modPlot p (fun x => { x with l1 := if sect.isEmpty then tabDel x.l1 k else tabPut x.l1 k { l with sect := sect } })
      if (tabFind l.sect (dpa % 512 / 32)).isSome then s1.wakeWatch p (dpa / 512) else s1
    | none => s
  | none => s

/-- Sets the state of a grain in an L1, allocating its line by tree pseudo-LRU (R262, R266). DEDUCED: log entry 1. -/
def State.l1Set (s : State) (p dpa grain : Nat) (c : Coh) : State :=
  let x := s.plot p
  let set := (dpa / 512) % (l1Sets x)
  let lru := tabGet 0 x.l1Lru set
  let way :=
    match s.l1Key p dpa with
    | some k => k % 8
    | none =>
      match (List.range 8).find? (fun w => (tabFind x.l1 (8 * set + w)).isNone) with
      | some w => w
      | none => (plruVictim (fun _ => true) 3 1 0 lru).getD 0
  let old : L1Line :=
    match tabFind x.l1 (8 * set + way) with
    | some l => if l.line = dpa / 512 then l else { line := dpa / 512, grain := grain }
    | none => { line := dpa / 512, grain := grain }
  let evicted := match tabFind x.l1 (8 * set + way) with
    | some l => if l.line = dpa / 512 then none else some l.line
    | none => none
  let l := { old with sect := (grainSectors grain dpa).foldl (fun t i => tabPut t i c) old.sect }
  let s1 := s.modPlot p (fun y => { y with l1 := tabPut y.l1 (8 * set + way) l, l1Lru := tabSet 0 y.l1Lru set (plruTouch 3 1 way lru) })
  match evicted with
  | some ln => s1.wakeWatch p ln
  | none => s1

/-- Lines of a plot's L1 that hold a grain in M or O, which a flush writes back. -/
def Plot.l1Dirty (x : Plot) : Nat := (x.l1.filter (fun l => l.2.sect.any (fun c => decide (c.2 = .m) || decide (c.2 = .o)))).length

/-- Writes back and invalidates a plot's whole L1 (R268, R377). -/
def State.l1Flush (s : State) (p : Nat) : State := s.modPlot p (fun x => { x with l1 := [], l1Lru := [] })

/-- Cycles of the write-back of a plot's L1: one for each sector in M or O. DESIGN CHOICE: log entry 11. -/
def State.flushCycles (s : State) (p : Nat) : Nat :=
  (s.plot p).l1.foldl (fun n e => n + (e.2.sect.filter (fun c => decide (c.2 = .m) || decide (c.2 = .o))).length) 0

/-! ## The L2 and its directory (R261-R265) -/

/-- Ways of a slice that serve as scratch, from way 15 downward, passing over quarantined ones (R271). -/
def scratchWays (x : Die) (sl n : Nat) : List Nat :=
  ((List.range 16).reverse.filter (fun w => !(x.quarantined.contains (16 * sl + w)))).take n

/-- Ways of a slice that serve as cache. -/
def cacheWays (x : Die) (sl : Nat) : List Nat :=
  let n := if x.scrBusy then Nat.max x.scrCur x.scrReq else x.scrCur
  let sc := scratchWays x sl n
  (List.range 16).filter (fun w => !(x.quarantined.contains (16 * sl + w)) && !(sc.contains w))

def l2Base (dpa : Nat) : Nat := (192 * homeSlice dpa + homeSet dpa) * 16

/-- Key of the L2 line of a DPA in its home die. -/
def State.l2Key (s : State) (dpa : Nat) : Option Nat :=
  let x := s.die (s.homeDie dpa)
  let b := l2Base dpa
  (List.range 16).findSome? (fun w =>
    match tabFind x.l2 (b + w) with
    | some l => if l.line = dpa / 512 then some (b + w) else none
    | none => none)

def State.l2Line (s : State) (dpa : Nat) : Option L2Line :=
  match s.l2Key dpa with
  | some k => tabFind (s.die (s.homeDie dpa)).l2 k
  | none => none

def State.setL2 (s : State) (dpa k : Nat) (l : L2Line) : State :=
  s.modDie (s.homeDie dpa) (fun x => { x with l2 := tabPut x.l2 k l })

/-- Every plot that may hold a copy of a line. -/
def State.l1Holders (s : State) (dpa : Nat) : List Nat :=
  (s.plots.filter (fun e => e.2.l1.any (fun l => decide (l.2.line = dpa / 512)))).map (fun e => e.1)

/-- Recalls every L1 copy of a line (R262). -/
def State.recallLine (s : State) (dpa : Nat) : State :=
  (s.l1Holders dpa).foldl (fun t p => t.l1Drop p (dpa / 512 * 512) 512) s

/-- The blocks of a line are clean from now on: memory holds what the caches hold. -/
def State.cleanLine (s : State) (dpa : Nat) : State := { s with under := s.under.filter (fun e => decide (e.1 / 8 ≠ dpa / 512)) }

/-- A write-back reaches the controller of a block (R275, R276): it starts the zero fill of a DEAD frame, advances the block's write version, and an
error of what stood there is gone. -/
def State.blockWritten (s : State) (blk : Nat) : State :=
  let b := s.phys (blk * 64) / 64
  let s1 := if isHbm s (b * 64) && (s.frame (frameOf (b * 64))).dead then s.fillDead (frameOf (b * 64)) else s
  { s1 with versions := tabMod 0 s1.versions b (fun n => n + 1), eccErrors := s1.eccErrors.filter (fun e => decide (e.1 ≠ b)) }

/-- The dirty blocks of a line are written back: their memory holds what the caches held. -/
def State.settleLine (s : State) (dpa : Nat) : State :=
  ((s.under.filter (fun e => decide (e.1 / 8 = dpa / 512))).foldl (fun t e => t.blockWritten e.1) s).cleanLine dpa

/-- The dirty blocks of a line are lost: their memory holds what it held before they became dirty. DEDUCED: log entry 82. -/
def State.loseLine (s : State) (dpa : Nat) : State :=
  ((s.under.filter (fun e => decide (e.1 / 8 = dpa / 512))).foldl (fun (t : State) e =>
    let p := t.phys (e.1 * 64)
    let u := (List.range 64).foldl (fun (v : State) i => v.pokeByte (p + i) (BitVec.ofNat 8 (e.2.1 / 256 ^ i))) t
    { u with desc := tabSet 0 u.desc (p / 64) e.2.2 }) s).cleanLine dpa

/-- Removes the L2 line of a DPA and every L1 copy of it; its dirty blocks are written back. -/
def State.l2Drop (s : State) (dpa : Nat) : State :=
  match s.l2Key dpa with
  | some k => (((s.recallLine dpa).modDie (s.homeDie dpa) (fun x => { x with l2 := tabDel x.l2 k }))).settleLine dpa
  | none => s.recallLine dpa

/-- Removes the L2 line of a DPA and every L1 copy of it without write-back (R274, R336, R363). -/
def State.l2Discard (s : State) (dpa : Nat) : State := (s.loseLine dpa).l2Drop dpa

/-! ## Errors (R360, R362, R363) -/

/-- The frame that holds a DPA: its own in HBM, or the one that caches its unit. -/
def State.holdingFrame (s : State) (dpa : Nat) : Option Nat :=
  if isHbm s dpa then some (frameOf dpa) else if isPool dpa then s.frameFor (frameOf dpa) else none

/-- Zeroes the scratch lines that the j-th scratch way of a slice holds (R272). -/
def State.zeroScratchWay (s : State) (d sl j : Nat) : State :=
  (List.range 192).foldl (fun (t : State) i =>
    t.zeroRange (0x00F000000000 + d * 0x01000000 + (192 * j + i) * 16384 + sl * 512) 512) s

/-- The lines that a way of a slice holds. -/
def Die.wayLines (x : Die) (sl w : Nat) : List Nat :=
  (x.l2.filter (fun e => decide (e.1 / 16 / 192 = sl) && decide (e.1 % 16 = w))).map (fun e => e.2.line)

/-- The dirty blocks of a line of which some L1 holds the grain in M or O: such a copy, poisoned, is recalled and written back poisoned (R361, R363).
DEDUCED: log entry 64. -/
def State.dirtyCopies (s : State) (l : L2Line) : List Nat :=
  ((List.range 8).filter (fun i => l.dirty.getLsbD (2 * i) && s.plots.any (fun e => e.2.l1.any (fun x => decide (x.2.line = l.line) &&
    [2 * i, 2 * i + 1].any (fun k => decide (tabFind x.2.sect k = some .m) || decide (tabFind x.2.sect k = some .o)))))).map (fun i => 8 * l.line + i)

/-- Steps 1 to 3 of R363 for a line with a block in error: when no dirty block of it is in error the line is dropped; otherwise its dirty blocks are lost,
and the owner tag's context is contained. The frame is retired. The L2 is inclusive, so that the L1 copies are recalled with the line. DEDUCED: log
entry 64. DEDUCED: log entry 64. -/
def State.containLine (s : State) (blk : Nat) : State :=
  let dpa := blk * 64
  let s0 : State := { s with l2Errors := s.l2Errors.filter (fun b => decide (b / 8 ≠ blk / 8)) }
  match s0.l2Line dpa with
  | none => s0
  | some l =>
    let lost := s.l2Errors.any (fun b => decide (b / 8 = blk / 8) && l.dirty.getLsbD (b % 8 * 2))
    let s1 := if lost then
        (((((s0.dirtyCopies l).foldl (fun t b => t.setPoison (b * 64)) (s0.l2Discard dpa)).modDie (s.homeDie dpa)
          (fun y => { y with rasUe := sat16 y.rasUe })).enqueue
          { kind := 13, ctx := l.owner, src := 3, addr := l.line * 512 } .info).after 0 .contextReset { a := l.owner, flag := true })
      else s0.l2Drop dpa
    match s1.holdingFrame dpa with | some f => s1.after 0 .frameRetire { a := f, flag := true } | none => s1

/-- A line's storage is read for its write-back: an error in it is found then (R363). -/
def State.writeBackLine (s : State) (line : Nat) : State :=
  match s.l2Errors.find? (fun b => decide (b / 8 = line)), s.l2Line (line * 512) with
  | some b, some l => if l.dirty = 0 then s.l2Drop (line * 512) else s.containLine b
  | _, _ => s.l2Drop (line * 512)

/-- A way leaves service in every set of its slice (R363): its lines are written back and dropped. Where it served as scratch, its scratch lines read
zero, and the lines of the way that takes its place are written back (R271). DEDUCED: log entry 64. -/
def State.quarantineWay (s : State) (d sl w : Nat) : State :=
  let x := s.die d
  let ways := (List.range 16).reverse.filter (fun v => !(x.quarantined.contains (16 * sl + v)))
  -- while a conversion runs, the ways that it adds or removes count as scratch
  let n := if x.scrBusy then Nat.max x.scrCur x.scrReq else x.scrCur
  let scratch := ways.take n
  let s1 := (x.wayLines sl w).foldl State.writeBackLine s
  let s2 := match (scratch.zip (List.range 16)).find? (fun e => decide (e.1 = w)) with
    | some (_, j) => (((ways.drop n).head?.map (x.wayLines sl)).getD []).foldl State.writeBackLine (s1.zeroScratchWay d sl j)
    | none => s1
  (s2.modDie d (fun y => { y with quarantined := insertNat y.quarantined (16 * sl + w) })).modNvm
    (fun n => { n with quarantined := insertNat n.quarantined (512 * d + 16 * sl + w) })

/-- A slice finds an uncorrectable error in a block of a line that it holds (R363): the line is contained, and its way quarantined.
DEDUCED: log entry 64. -/
def State.l2Uncorrectable (s : State) (blk : Nat) : State :=
  match s.l2Key (blk * 64) with
  | some k => (s.containLine blk).quarantineWay (s.homeDie (blk * 64)) (homeSlice (blk * 64)) (k % 16)
  | none => { s with l2Errors := s.l2Errors.filter (fun b => decide (b ≠ blk)) }

/-- An access, a recall or a conversion reads the storage of a line that the slice holds. -/
def State.l2Storage (s : State) (dpa : Nat) : State :=
  match s.l2Errors.find? (fun b => decide (b / 8 = dpa / 512)) with
  | some b => s.l2Uncorrectable b
  | none => s

/-- A memory controller reads a block (R360): corrected, rebuilt from parity, read again from the pool, or poisoned. -/
def State.eccReadAt (s : State) (p : Nat) : State :=
  match s.eccErrors.find? (fun e => decide (e.1 = p / 64)) with
  | none => s
  | some (b, corr) =>
    let f := frameOf p
    let x := s.frame f
    if !isHbm s p || x.dead then s
    else
      let s1 : State := { s with eccErrors := s.eccErrors.filter (fun e => decide (e.1 ≠ b)) }
      let d := f / s.dieFrames
      let leased := match x.tag with
        | some u => (match s.leases.find? (fun e =>
            let lo := (e.2.data.extractLsb' 128 64).toNat
            [1, 2, 4].contains (e.2.data.extractLsb' 96 4).toNat && decide (lo ≤ u * 65536) && decide (u * 65536 < lo + (e.2.data.extractLsb' 104 8).toNat * 2 ^ 30)) with
          | some _ => true | none => false)
        | none => false
      if corr then s1.modDie d (fun y => { y with rasCe := sat16 y.rasCe })
      else if s.boot.parity then s1.modDie d (fun y => { y with rasCwd := sat16 y.rasCwd })
      else
        match x.tag, decide (x.dirty = 0) && leased with
        | some u, true => (s1.copyBlock (u * 65536 + p % 65536 / 64 * 64) (p / 64 * 64)).modDie d (fun y => { y with rasCwd := sat16 y.rasCwd })
        | _, _ => ({ s1 with poison := insertNat s1.poison b } : State).modDie d (fun y => { y with rasUe := sat16 y.rasUe })

/-- The controller reads the block of a DPA, where its bytes are. -/
def State.eccRead (s : State) (dpa : Nat) : State := s.eccReadAt (s.phys dpa)

/-- The controllers read the blocks of a grain. -/
def State.eccGrain (s : State) (grain dpa : Nat) : State :=
  ((grainSectors (Nat.max grain 64) dpa).filter (fun i => decide (i % 2 = 0))).foldl (fun (t : State) i => t.eccRead (dpa / 512 * 512 + 32 * i)) s

/-- A block that an access needs from below the L2 is checked before the access uses it. -/
def State.eccMiss (s : State) (dpa : Nat) : State :=
  if s.eccErrors.isEmpty then s
  else
    match s.l2Line dpa with
    | some l => if l.valid.getLsbD (dpa % 512 / 32) then s else s.eccRead dpa
    | none => s.eccRead dpa

/-- Recalls, writes back and drops the L2 line of a DPA (R262). The write-back of a dirty line reads its storage. -/
def State.l2Evict (s : State) (dpa : Nat) : State :=
  let s1 := match s.l2Line dpa with
    | some l => if l.dirty = 0 then ({ s with l2Errors := s.l2Errors.filter (fun b => decide (b / 8 ≠ dpa / 512)) } : State) else s.l2Storage dpa
    | none => s
  s1.l2Drop dpa

/-- The way that takes a line: a scratch line's own scratch way (R272), which nothing evicts; otherwise a free cache way, or the victim of the
tree (R262). -/
def State.l2Way (s : State) (dpa : Nat) : Option Nat :=
  let x := s.die (s.homeDie dpa)
  let b := l2Base dpa
  let sl := homeSlice dpa
  let free := fun (ws : List Nat) => ws.find? (fun w => (tabFind x.l2 (b + w)).isNone)
  match scratchOf dpa with
  | some (_, o) =>
    let ws := scratchWays x sl (Nat.max x.scrCur x.scrReq)
    free ((ws.drop (o / 16384 / 192)).take 1 ++ ws)
  | none =>
    match free (cacheWays x sl) with
    | some w => some w
    | none => plruVictim (fun w => (cacheWays x sl).contains w) 4 1 0 (tabGet 0 x.l2Lru (b / 16))

/-- A missing line takes a way. An eviction that finds an error in the victim takes the way out of service, and another one is chosen. -/
def State.l2Place (dpa grain : Nat) (blocks : BitVec 16) : Nat → State → State
  | 0, s => s
  | n + 1, s =>
    match s.l2Way dpa with
    | none => s
    | some w =>
      let d := s.homeDie dpa
      let b := l2Base dpa
      let s1 := match tabFind (s.die d).l2 (b + w) with
        | some l => s.l2Evict (l.line * 512)
        | none => s
      if (s1.die d).quarantined.contains (16 * homeSlice dpa + w) then State.l2Place dpa grain blocks n s1
      else s1.modDie d (fun y =>
        { y with l2 := tabPut y.l2 (b + w) { line := dpa / 512, grain := grain, valid := blocks },
                 l2Lru := tabSet 0 y.l2Lru (b / 16) (plruTouch 4 1 w (tabGet 0 y.l2Lru (b / 16))) })

/-- The line of a DPA is in its home slice, after an eviction and a fill if it missed (R261, R262). The second component says
whether it missed. -/
def State.l2Ensure (s0 : State) (dpa grain : Nat) : State × Bool :=
  let s := s0.l2Storage dpa
  let d := s.homeDie dpa
  let b := l2Base dpa
  let blocks := (grainSectors (Nat.max grain 64) dpa).foldl (fun (m : BitVec 16) i => m ||| BitVec.ofNat 16 (2 ^ i)) 0
  match s.l2Key dpa with
  | some k =>
    match tabFind (s.die d).l2 k with
    | some l =>
      let miss := decide (l.valid &&& blocks ≠ blocks)
      let s1 := (if miss then s.eccGrain grain dpa else s).setL2 dpa k { l with valid := l.valid ||| blocks }
      (s1.modDie d (fun x => { x with l2Lru := tabSet 0 x.l2Lru (b / 16) (plruTouch 4 1 (k % 16) (tabGet 0 x.l2Lru (b / 16))) }), miss)
    | none => (s, true)
  | none => (State.l2Place dpa grain blocks 16 (s.eccGrain grain dpa), true)

/-- Grain in force for a DPA: the line's, or the page's when the line is not in the L2 (R263). -/
def State.grainOf (s : State) (dpa grain : Nat) : Nat :=
  match s.l2Line dpa with
  | some l => l.grain
  | none => grain

/-- Key of a grain's directory entry in its line. -/
def dirKey (grain dpa : Nat) : Nat := (dpa % 512) / grain * grain / 32

/-- Directory entry of the grain of a DPA; none is Uncached (R264). -/
def State.dirEntry (s : State) (dpa : Nat) : Option DirEntry :=
  match s.l2Line dpa with
  | some l => tabFind l.dir (dirKey l.grain dpa)
  | none => none

def State.setDir (s : State) (dpa : Nat) (e : Option DirEntry) : State :=
  match s.l2Key dpa with
  | some k =>
    match tabFind (s.die (s.homeDie dpa)).l2 k with
    | some l =>
      s.setL2 dpa k { l with dir := match e with | some x => tabPut l.dir (dirKey l.grain dpa) x | none => tabDel l.dir (dirKey l.grain dpa) }
    | none => s
  | none => s

/-- What a block's memory holds is kept while the block is dirty; scratch lines have no memory behind them (R272). The block of a DEAD frame enters the
cache as zero bytes with a zero descriptor (R274). DEDUCED: log entry 64. -/
def State.keepUnder (s : State) (dpa : Nat) : State :=
  if (scratchOf dpa).isSome || (tabFind s.under (dpa / 64)).isSome then s
  else
    let s1 := if s.deadAt dpa then s.zeroRange (dpa / 64 * 64) 64 else s
    { s1 with under := tabPut s1.under (dpa / 64) (s1.readNat (dpa / 64 * 64) 64, s1.readDesc dpa) }

/-- A block of a line becomes dirty in the L2, under a context's owner tag; a line dirty under another tag is written back
first (R362). DEDUCED: log entry 64. -/
def State.l2Dirty (s : State) (dpa ctx : Nat) : State :=
  match s.l2Key dpa with
  | some k =>
    match tabFind (s.die (s.homeDie dpa)).l2 k with
    | some l =>
      let bit := BitVec.ofNat 16 (3 * 2 ^ (dpa % 512 / 64 * 2))
      let retag := decide (l.dirty ≠ 0) && decide (l.owner ≠ ctx)
      let s1 := (if retag then s.settleLine dpa else s).keepUnder dpa
      s1.setL2 dpa k { l with dirty := (if retag then 0 else l.dirty) ||| bit, owner := ctx }
    | none => s
  | none => s

/-- The home slice forwards a read to the owner (R265): a Modified owner moves to O, an Exclusive one to S. Answers the state
after. -/
def State.forwardOwner (s : State) (dpa : Nat) (e : DirEntry) : State × DirState :=
  let g := s.grainOf dpa 512
  match s.l1State e.owner dpa with
  | some .m => ((s.l1Set e.owner dpa g .o).wakeWatch e.owner (dpa / 512), .owned)
  | some .o => (s, .owned)
  | some .e => ((s.l1Set e.owner dpa g .s).wakeWatch e.owner (dpa / 512), .shared)
  | some .s => (s, .shared)
  | none => (s, .shared)

def quadBit (p : Nat) : BitVec 96 := BitVec.ofNat 96 (2 ^ plotQuad p)

/-- Drops a grain from the L1s of one quad, but for one plot (R265). -/
def State.invalidateQuad (s : State) (q dpa : Nat) (keep : Option Nat) : State :=
  let g := s.grainOf dpa 512
  (quadPlots q).foldl (fun t p => if keep = some p then t else t.l1Drop p dpa g) s

/-- The home slice serves a read request (R265). DEDUCED: log entry 1. A read by the plot that the directory still names as owner, whose L1 has dropped the
grain, takes E, or S of an Owned one, and leaves the directory. DESIGN CHOICE: log entry 113. -/
def State.serveRead (s : State) (p dpa grain : Nat) : State :=
  let s1 := (s.l2Ensure dpa grain).1
  let g := s1.grainOf dpa grain
  -- a slice without a way for the line has no directory entry for it, and no L1 keeps a copy (R264)
  if (s1.l2Key dpa).isNone then s1 else
  match s1.dirEntry dpa with
  | none => (s1.setDir dpa (some { st := .exclusive, owner := p, sharers := quadBit p })).l1Set p dpa g .e
  | some e =>
    if e.st = .shared then (s1.setDir dpa (some { e with sharers := e.sharers ||| quadBit p })).l1Set p dpa g .s
    else if e.owner = p then
      s1.l1Set p dpa g (if e.st = .owned then .s else .e)
    else
      let r := s1.forwardOwner dpa e
      (r.1.setDir dpa (some { e with st := r.2, sharers := e.sharers ||| quadBit p })).l1Set p dpa g .s

/-- The home slice serves a write (ownership) request (R265): every plot of every quad in the vector but the requester is
invalidated, and the owner's data recalled. DEDUCED: log entry 1. -/
def State.serveWrite (s : State) (p dpa grain : Nat) : State :=
  let s1 := (s.l2Ensure dpa grain).1
  let g := s1.grainOf dpa grain
  if (s1.l2Key dpa).isNone then s1 else
  let s2 := match s1.dirEntry dpa with
    | none => s1
    | some e => ((List.range 96).filter (fun q => e.sharers.getLsbD q)).foldl (fun t q => t.invalidateQuad q dpa (some p)) s1
  (s2.setDir dpa (some { st := .modified, owner := p, sharers := quadBit p })).l1Set p dpa g .m

/-- The home slice takes a grain for itself (R269): every L1 copy is invalidated or recalled. -/
def State.serveHome (s : State) (dpa grain : Nat) : State :=
  let s1 := (s.l2Ensure dpa grain).1
  let s2 := match s1.dirEntry dpa with
    | none => s1
    | some e => ((List.range 96).filter (fun q => e.sharers.getLsbD q)).foldl (fun t q => t.invalidateQuad q dpa none) s1
  s2.setDir dpa none

/-- Every cached copy of a line is invalidated (R331). -/
def State.dropLine (s : State) (dpa : Nat) : State := s.l2Evict dpa

/-- The lines of a 64 KiB unit or frame that an L2 holds. -/
def State.unitLines (s : State) (u : Nat) : List Nat :=
  s.dies.flatMap (fun d => (d.2.l2.filter (fun l => decide (l.2.line / 128 = u))).map (fun l => l.2.line))

/-- Every cached copy of a 64 KiB unit or frame is written back and dropped (R336). -/
def State.dropUnit (s : State) (u : Nat) : State := (s.unitLines u).foldl (fun t l => t.l2Evict (l * 512)) s

/-- Every cached copy of a 64 KiB unit or frame is dropped without write-back (R274, R336). -/
def State.loseUnit (s : State) (u : Nat) : State := (s.unitLines u).foldl (fun t l => t.l2Discard (l * 512)) s

/-! ## The HBM page cache (R315-R319) -/

/-- A frame serves an L2 miss: its counter increments, saturating (R318). -/
def State.frameServed (s : State) (f : Nat) : State :=
  s.modFrame f (fun x => { x with
    count := if x.count < 65535 then x.count + 1 else x.count
    served := (s.cycle, if x.served.1 = s.cycle then x.served.2 + 1 else 1) })

/-- `acnt` writes a frame's counter: the increments of the same cycle come after it (R318). -/
def Frame.setCount (x : Frame) (cycle n : Nat) : Frame :=
  { x with count := Nat.min 65535 (n + (if x.served.1 = cycle then x.served.2 else 0)) }

/-- State of a lease (R323). -/
def leaseState (d : BitVec 256) : Nat := (d.extractLsb' 96 4).toNat
/-- The lease whose window holds a pool or peer DPA. -/
def State.leaseAt (s : State) (dpa : Nat) : Option Nat :=
  (s.leases.find? (fun e =>
    let b := (e.2.data.extractLsb' 128 64).toNat
    let n := (e.2.data.extractLsb' 104 8).toNat * 2 ^ 30
    decide (leaseState e.2.data ≠ 0) && decide (b ≤ dpa) && decide (dpa < b + n))).map (fun e => e.1)

/-- A frame is held: its lease is not VALID, RENEWING or REVOKING (R324). -/
def State.frameHeld (s : State) (f : Nat) : Bool :=
  match (s.frame f).tag with
  | some u =>
    match s.leaseAt (u * 65536) with
    | some i => !([1, 2, 4].contains (leaseState (s.lease i).data))
    | none => true
  | none => false

/-- Writes a frame's dirty blocks back to the pool with their metadata words (R317, R336). -/
def State.writeBackFrame (s : State) (f : Nat) : State :=
  match (s.frame f).tag with
  | some u =>
    let x := s.frame f
    let s1 := ((List.range 1024).filter (fun i => x.dirty.getLsbD i)).foldl
      (fun t i => (t.eccReadAt (f * 65536 + 64 * i)).copyBlock (f * 65536 + 64 * i) (u * 65536 + 64 * i)) s
    s1.modFrame f (fun y => { y with dirty := 0 })
  | none => s

/-- The frame caches no unit any more (R318: its counter reads 0). -/
def State.freeFrame (s : State) (f : Nat) : State :=
  s.modFrame f (fun x => { x with tag := none, valid := 0, dirty := 0, count := 0, rclass := 0, mgroup := 0, fill := none })

/-- The victim of a unit's set (R317). -/
def State.fillVictim (s : State) (u : Nat) : Option Nat :=
  let fs := (s.unitFrames u).filter (fun f => let x := s.frame f; !x.reserved && !x.retired)
  match fs.find? (fun f => (s.frame f).tag.isNone) with
  | some f => some f
  | none =>
    leastBy (fun f => (s.frame f).count) (fs.filter (fun f =>
      let x := s.frame f
      x.tag.isSome && !(s.frameHeld f) && decide (x.rclass ≠ 2) && decide (x.rclass ≠ 3) && x.fill.isNone))

/-- Frames that MODEL pages hold (R319). -/
def State.modelFrames (s : State) : List Nat := (s.frames.filter (fun e => e.2.tag.isSome && decide (e.2.rclass = 2))).map (fun e => e.1)

/-- How a miss of the page cache ends. -/
inductive FillOut where
  | started (f : Nat) | bypass | modelFull
  deriving DecidableEq, Repr

/-- An L2 miss on a unit that no frame holds: chooses a victim frame and starts a fill, or bypasses (R316-R319). DEDUCED: log entry 19. -/
def State.pageFill (s : State) (dpa rclass mgroup ctx : Nat) : State × FillOut :=
  let u := frameOf dpa
  let okLease := match s.leaseAt dpa with
    | some i => decide (leaseState (s.lease i).data = 1) || decide (leaseState (s.lease i).data = 2)
    | none => false
  if !okLease then (s, .bypass)
  else if rclass = 2 ∧ s.pgc.modelCap ≠ 0 ∧ s.pgc.modelCap.toNat ≤ s.modelFrames.length then (s, .modelFull)
  else
    match s.fillVictim u with
    | none => (s.modPgc (fun p => { p with pcBypass := p.pcBypass + 1 }), .bypass)
    | some f =>
      let s1 := (match (s.frame f).tag with
        | some v => ((s.dropUnit v).writeBackFrame f).freeFrame f
        | none => s).wakeFrame (f * 65536)
      let blk := dpa % 65536 / 64
      let s2 := s1.copyBlock (u * 65536 + 64 * blk) (f * 65536 + 64 * blk)
      let s3 := s2.modFrame f (fun x => { x with tag := some u, valid := BitVec.ofNat 1024 (2 ^ blk), dirty := 0, count := 1,
                                                 rclass := rclass, mgroup := mgroup, fill := some { unit := u, first := blk, done := 1, ctx := ctx } })
      (s3.after 2 .fillBlockArrival { a := f }, .started f)

/-- The access of an L2 miss to pool memory reaches the page cache (R316). Class STREAM never does. DEDUCED: log entry 21. -/
def State.pageCache (s : State) (dpa rclass mgroup ctx : Nat) : State × FillOut :=
  if isPool dpa && decide (rclass ≠ 1) then
    match s.frameFor (frameOf dpa) with
    | some f => (s.frameServed f, .started f)
    | none => s.pageFill dpa rclass mgroup ctx
  else (s, .bypass)

/-! ## Accesses that no plot's caches take (R263, R269, R275, R316, R412) -/

/-- The L2 holds the block of a DPA. -/
def State.l2Holds (s : State) (dpa : Nat) : Bool :=
  match s.l2Line dpa with | some l => l.valid.getLsbD (dpa % 512 / 32) | none => false

/-- The channel of an HBM place, numbered over the stacks. -/
def State.channelOf (s : State) (p : Nat) : Nat := 32 * s.hbmStack (frameOf p) + hbmChannel p

/-- Cycles for which a request to an HBM place waits at its controller: for the zero fill of a DEAD frame (R275), for the end of its channel's stall
(R412). -/
def State.hbmWait (s : State) (p : Nat) : Nat :=
  if isHbm s p then
    Nat.max (match (s.frame (frameOf p)).zeroing with | some c => c - s.cycle | none => 0)
      (match tabFind s.boot.switching (s.channelOf p) with | some x => x.1 - s.cycle | none => 0)
  else 0

/-- Cycles for which an access to a pool block waits until the fill of its frame has brought it (R316). -/
def State.fillWait (s : State) (dpa : Nat) : Nat :=
  match (if isPool dpa then s.frameFor (frameOf dpa) else none) with
  | some f =>
    (match (s.frame f).fill with
     | some w => if (s.frame f).valid.getLsbD (dpa % 65536 / 64) then 0
         else Nat.max 1 (2 * ((dpa % 65536 / 64 + 1024 - w.first) % 1024 + 1 - w.done))
     | none => 0)
  | none => 0

/-- Cycles for which an access that the L2 does not serve waits (R275, R316, R412). -/
def State.blockWait (s : State) (dpa : Nat) : Option Nat :=
  if s.l2Holds dpa then none
  else
    let n := Nat.max (s.hbmWait (s.phys dpa)) (s.fillWait dpa)
    if n = 0 then none else some n

/-- Some frame or channel makes accesses wait. -/
def State.anyWait (s : State) : Bool := !s.boot.switching.isEmpty || s.frames.any (fun e => e.2.zeroing.isSome || e.2.fill.isSome)

/-- A write that no cache takes reaches a place (R275): a DEAD frame's zero fill starts, and the write waits for it as for any other. Answers the wait. -/
def State.uncached (s : State) (dpa : Nat) : State × Nat :=
  let t := if s.l2Holds dpa then s else s.wakeFrame (s.phys dpa)
  (t, (t.blockWait dpa).getD 0)

/-- A write that no leaf entry names (the PGC's, the host's, a peer's) is performed at the home slice: a line that the slice holds gives up its L1
copies, and none enters the L2 without its page's grain (R263, R269). -/
def State.ownHome (s : State) (dpa : Nat) : State := if (s.l2Line dpa).isSome then s.serveHome dpa (s.grainOf dpa 512) else s

/-- A unit without a cache writes bytes at the home slice of a DPA. -/
def State.homeStore (s : State) (dpa : Nat) (bs : List Byte) : State := (s.ownHome dpa).storeMem dpa bs

end Sys2Proof.Machine
end

