-- ==== Sys2Proof/Machine/Xlat.lean ====
section
/-! DEFINITION. Translation: the table walk (R305-R309), the TLBs and the Bloom filter (R310-R314), the leases an access meets
(R320-R323), blocked ranges (R331). -/

namespace Sys2Proof.Machine

/-! ## Entries -/

def pteV (e : Nat) : Bool := fld e 0 1 = 1
def pteLeaf (e : Nat) : Bool := fld e 1 1 = 1
def pteR (e : Nat) : Bool := fld e 4 1 = 1
def pteW (e : Nat) : Bool := fld e 5 1 = 1
def pteX (e : Nat) : Bool := fld e 6 1 = 1
def pteFmt (e : Nat) : Nat := fld e 7 2
/-- Coherence grain in bytes (R263). -/
def pteGrain (e : Nat) : Nat := match fld e 9 2 with | 0 => 32 | 1 => 128 | _ => 512
def pteLoc (e : Nat) : Nat := fld e 13 2
/-- RCLASS applies to pool pages; any other reads as PINNED (R307). -/
def pteClass (e : Nat) : Nat := if pteLoc e = 1 then fld e 15 2 else 3
def pteMgroup (e : Nat) : Nat := fld e 48 15
def pteShro (e : Nat) : Bool := fld e 12 1 = 1
def pteD (e : Nat) : Bool := fld e 20 1 = 1

/-- How an access's translation ends. -/
inductive Xlat where
  /-- the byte's DPA and its leaf entry -/
  | ok (dpa pte : Nat)
  /-- cause 18: kind and detail of the record, lease index (R309, R323, R331) -/
  | miss (kind detail lease : Nat)
  /-- cause 19: a permission failure (R309) -/
  | perm
  deriving DecidableEq, Repr

/-- Where tables may lie (R306). -/
def tablePlace (s : State) (dpa : Nat) : Bool := isHbm s dpa || isPgcMem dpa || isHost dpa

/-- Frames a TARGET may name (R308): usable HBM, or the scratch aperture. -/
def frameNamed (s : State) (dpa : Nat) : Bool := isHbm s dpa || (scratchOf dpa).isSome

/-- The DPA of byte `o` of a page of 2^bits bytes (R308); none where TARGET breaks the rule. -/
def pteDpa (s : State) (e bits o : Nat) : Option Nat :=
  let size := 2 ^ bits
  match pteLoc e with
  | 0 =>
    let t := fld e 21 27
    if t % (size / 65536) = 0 ∧ frameNamed s (t * 65536) then some (t * 65536 + o) else none
  | 2 =>
    let a := fld e 21 27 * size
    if a < 2 ^ 50 then some (0x0004000000000000 + a + o) else none
  | _ => some (((s.lease (fld e 36 12)).data.extractLsb' 128 64).toNat + fld e 21 15 * size + o)

/-- A leaf at a level whose pages have 2^bits bytes is malformed (R309). -/
def leafMalformed (s : State) (e bits : Nat) : Bool :=
  let sz := match bits with | 16 => 0 | 21 => 1 | _ => 2
  decide (fld e 63 1 = 1) || decide (pteFmt e = 3) || decide (fld e 9 2 = 3) || decide (fld e 2 2 ≠ sz)
    || (pteShro e && pteW e) || (decide (pteMgroup e ≠ 0) && decide (pteClass e ≠ 2)) || (pteDpa s e bits 0).isNone

/-- What a walk finds. -/
inductive WalkOut where
  | leaf (entry pte bits : Nat)
  /-- FQ.DETAIL: 0 invalid, 1 malformed -/
  | bad (detail : Nat)
  deriving DecidableEq, Repr

/-- The walk from a table (R305, R306): the remaining levels, as (index low bit, index width, page bits of a leaf or 0). -/
def walkFrom (s : State) (va : Nat) : List (Nat × Nat × Nat) → Nat → WalkOut
  | [], _ => .bad 1
  | (lo, n, bits) :: rest, table =>
    if !tablePlace s table then .bad 1
    else
      let a := table + 8 * fld va lo n
      let e := s.readNat a 8
      if !pteV e then .bad 0
      else if pteLeaf e then
        (if bits = 0 then .bad 0 else if leafMalformed s e bits then .bad 1 else .leaf a e bits)
      else if rest.isEmpty then .bad 1
      else
        let next := fld e 8 44 * 256
        let small := match rest with | [_] => true | _ => false
        if fld e 52 12 ≠ 0 ∨ fld e 2 6 ≠ 0 ∨ (!small ∧ next % 4096 ≠ 0) then .bad 1
        else walkFrom s va rest next

/-- The addresses of the entries that a walk reads (R305, R311). -/
def walkReads (s : State) (va : Nat) : List (Nat × Nat × Nat) → Nat → List Nat
  | [], _ => []
  | (lo, n, _) :: rest, table =>
    if !tablePlace s table then []
    else
      let a := table + 8 * fld va lo n
      let e := s.readNat a 8
      a :: (if pteV e && !pteLeaf e then walkReads s va rest (fld e 8 44 * 256) else [])

/-- The five levels (R305). -/
def walkLevels : List (Nat × Nat × Nat) := [(48, 9, 0), (39, 9, 0), (30, 9, 30), (21, 9, 21), (16, 5, 16)]

def State.walk (s : State) (c : Nat) (va : Nat) : WalkOut := walkFrom s va walkLevels (s.ctx c).ptroot.toNat

/-- The controllers check the blocks of the entries that a walk reads (R360). -/
def State.walkEcc (s : State) (c va : Nat) : State :=
  if s.eccErrors.isEmpty then s else (walkReads s va walkLevels (s.ctx c).ptroot.toNat).foldl (fun t a => t.eccMiss a) s

/-- The walker sets A, and D on a write through the entry (R307): an indivisible OR at the entry's home. -/
def State.setAD (s : State) (entry e : Nat) (write : Bool) : State × Nat :=
  let e1 := if fld e 19 1 = 1 then e else e + 2 ^ 19
  let e2 := if write && pteW e && !pteD e1 then e1 + 2 ^ 20 else e1
  if e2 = e then (s, e) else (s.writeMem entry (natBytes 8 e2), e2)

/-! ## TLBs (R312-R314) -/

/-- The entry of a table of TLB entries that translates an address. -/
def tlbHit (t : Tab TlbEntry) (c va : Nat) : Option (Nat × TlbEntry) :=
  t.find? (fun e => decide (e.2.ctx = c) && decide (e.2.vpn = va / 2 ^ e.2.bits))

/-- The Bloom key of a 2 MiB region or of an address (R313): CTXID and VA[56:21]. -/
def bloomKey (c va : Nat) : Nat := c * 2 ^ 36 + fld va 21 36

/-- The three hashes (R313). -/
def bloomHash (k : Nat) : List Nat :=
  let a := fld k 0 12; let b := fld k 12 12; let c := fld k 24 12; let d := fld k 36 6
  [a ^^^ b ^^^ c ^^^ d, a ^^^ rotl12 b 4 ^^^ rotl12 c 8 ^^^ (d * 64 % 4096), rotl12 a 7 ^^^ b ^^^ rotl12 c 2 ^^^ d]

def bloomAdd (f : BitVec 4096) (k : Nat) : BitVec 4096 :=
  (bloomHash k).foldl (fun m i => m ||| BitVec.ofNat 4096 (2 ^ i)) f

/-- A region may be held. -/
def bloomMay (f : BitVec 4096) (k : Nat) : Bool := (bloomHash k).all (fun i => f.getLsbD i)

/-- The 2 MiB regions of a TLB entry's page, as keys. -/
def entryKeys (e : TlbEntry) : List Nat :=
  let va := e.vpn * 2 ^ e.bits
  if e.bits ≤ 21 then [bloomKey e.ctx va] else (List.range (2 ^ (e.bits - 21))).map (fun i => bloomKey e.ctx (va + i * 2 ^ 21))

/-- Fills an entry into a plot's L1 TLB (R312) and its key into the filter (R313). -/
def State.tlbFill (s : State) (p : Nat) (e : TlbEntry) : State :=
  let x := s.plot p
  let t := x.tlb.filter (fun y => !(decide (y.2.ctx = e.ctx) && decide (y.2.vpn = e.vpn) && decide (y.2.bits = e.bits)))
  let i := match (List.range 256).find? (fun i => (tabFind t i).isNone) with
    | some i => i
    | none => (plruVictim (fun _ => true) 8 1 0 x.tlbLru).getD 0
  s.modPlot p (fun y => { y with tlb := tabPut t i e, tlbLru := plruTouch 8 1 i x.tlbLru, bloom := (entryKeys e).foldl bloomAdd y.bloom })

/-- Fills an entry into a die's L2 TLB (R312). The set of an entry is its page number modulo 1,024 (DESIGN CHOICE: log entry 9). -/
def State.l2tlbFill (s : State) (d : Nat) (e : TlbEntry) : State :=
  let x := s.die d
  let set := e.vpn % 1024
  let lru := tabGet 0 x.tlbLru set
  let t := x.tlb.filter (fun y => !(decide (y.2.ctx = e.ctx) && decide (y.2.vpn = e.vpn) && decide (y.2.bits = e.bits)))
  let w := match (List.range 8).find? (fun w => (tabFind t (8 * set + w)).isNone) with
    | some w => w
    | none => (plruVictim (fun _ => true) 3 1 0 lru).getD 0
  s.modDie d (fun y => { y with tlb := tabPut t (8 * set + w) e, tlbLru := tabSet 0 y.tlbLru set (plruTouch 3 1 w lru) })

/-- A hit in a die's L2 TLB sets the bits on its path (R262, R312). -/
def State.l2tlbTouch (s : State) (d k : Nat) : State :=
  s.modDie d (fun y => { y with tlbLru := tabSet 0 y.tlbLru (k / 8) (plruTouch 3 1 (k % 8) (tabGet 0 y.tlbLru (k / 8))) })

/-- A TLB entry may serve an access: the first write through an entry whose D is clear walks (R307). -/
def entryServes (e : TlbEntry) (write : Bool) : Bool := !write || pteD e.pte.toNat || !pteW e.pte.toNat

/-- The leaf entry that translates an address for a plot: L1 TLB, then L2 TLB, then a walk, each filling the levels before it
(R311, R312). -/
def State.lookup (s : State) (p c va : Nat) (write : Bool) : State × WalkOut :=
  match (tlbHit (s.plot p).tlb c va).filter (fun e => entryServes e.2 write) with
  | some (i, e) =>
    (s.modPlot p (fun x => { x with tlbLru := plruTouch 8 1 i x.tlbLru }), .leaf 0 e.pte.toNat e.bits)
  | none =>
    match (tlbHit (s.die (plotDie p)).tlb c va).filter (fun e => entryServes e.2 write) with
    | some (k, e) => ((s.l2tlbTouch (plotDie p) k).tlbFill p e, .leaf 0 e.pte.toNat e.bits)
    | none =>
      let s := s.walkEcc c va
      match s.walk c va with
      | .bad d => (s, .bad d)
      | .leaf a e bits =>
        let r := s.setAD a e write
        let t : TlbEntry := { ctx := c, vpn := va / 2 ^ bits, bits := bits, pte := BitVec.ofNat 64 r.2 }
        ((r.1.l2tlbFill (plotDie p) t).tlbFill p t, .leaf a r.2 bits)

/-- As `lookup`, for a unit without a TLB (engines, the placer): a walk each time. -/
def State.lookupWalk (s0 : State) (c va : Nat) (write : Bool) : State × WalkOut :=
  let s := s0.walkEcc c va
  match s.walk c va with
  | .bad d => (s, .bad d)
  | .leaf a e bits => let r := s.setAD a e write; (r.1, .leaf a r.2 bits)

/-! ## Rights, leases, frames -/

/-- What kind of access asks for a translation; a formatted write may change an SDB block (R309). -/
inductive Use where
  | read | write | fetch | atomic | fmtWrite
  deriving DecidableEq, Repr

def Use.writes : Use → Bool
  | .write => true | .atomic => true | .fmtWrite => true | _ => false
/-- The use reads: all but a plain or formatted write. -/
def Use.reads : Use → Bool
  | .write => false | .fmtWrite => false | _ => true
def Use.acc : Use → AccKind
  | .read => .read | .write => .write | .fetch => .fetch | .atomic => .atomic | .fmtWrite => .write

/-- The rights of a leaf entry allow the use (R199, R309). -/
def pteAllows (e : Nat) : Use → Bool
  | .read => pteR e
  | .write => pteW e && decide (pteFmt e ≠ 1)
  | .fetch => pteX e
  | .atomic => pteR e && pteW e && decide (pteFmt e ≠ 1)
  | .fmtWrite => pteW e

/-- The lease that a pool or peer access goes through allows it (R321, R323). -/
def leaseCheck (s : State) (e bits o dpa : Nat) (u : Use) : Option Xlat :=
  let i := fld e 36 12
  let r := (s.lease i).data
  let off := fld e 21 15 * 2 ^ bits + o
  let st := leaseState r
  if st = 0 then some (.miss 1 1 i)
  else if (r.extractLsb' 104 8).toNat * 2 ^ 30 ≤ off then some .perm
  else if u.writes && !r.getLsbD 88 then some .perm
  else if u.reads && !r.getLsbD 87 then some .perm
  else
    let inFrame := (s.frameHolding dpa).isSome && !u.writes
    match st with
    | 1 => none
    | 2 => none
    | 3 => if inFrame then none else some (.miss 2 0 i)
    | 4 => none
    | 5 => if inFrame then none else some (.miss 4 0 i)
    | _ => some (.miss 2 0 i)

/-- Scratch bytes of a die that may be accessed (R272): c of 3 MiB. -/
def scratchLimit (x : Die) : Nat := 3 * 2 ^ 20 * (if x.scrBusy then Nat.min x.scrCur x.scrReq else x.scrCur)

/-- The frame or the aperture that a DPA names can be accessed (R272, R336). -/
def placeAllows (s : State) (dpa : Nat) : Bool :=
  match scratchOf dpa with
  | some (d, o) => decide (o < scratchLimit (s.die d))
  | none => !(isHbm s dpa && (s.frame (frameOf dpa)).retired)

/-- The range of a back-invalidation blocks a DPA (R331). -/
def State.isBlocked (s : State) (dpa : Nat) : Bool :=
  s.pgc.blocked.any (fun b => decide (b.1 ≤ dpa) && decide (dpa < b.1 + b.2.1))

/-- From a leaf entry to the DPA of a byte. -/
def State.throughPte (s : State) (e bits va : Nat) (u : Use) : Xlat :=
  if !pteAllows e u then .perm
  else
    let o := va % 2 ^ bits
    match pteDpa s e bits o with
    | none => .miss 1 1 0
    | some dpa =>
      if s.isBlocked dpa then .miss 1 3 0
      else if pteLoc e = 1 ∨ pteLoc e = 3 then
        match leaseCheck s e bits o dpa u with
        | some x => x
        | none => .ok dpa e
      else if placeAllows s dpa then .ok dpa e else .perm

/-- Translates an address of a context for a plot (R305-R312). -/
def State.translate (s : State) (p c va : Nat) (u : Use) : State × Xlat :=
  let r := s.lookup p c va u.writes
  match r.2 with
  | .bad d => (r.1, .miss 1 d 0)
  | .leaf _ e bits => (r.1, r.1.throughPte e bits va u)

/-- Translates for a unit without a TLB. DESIGN CHOICE: log entry 9. -/
def State.translateWalk (s : State) (c va : Nat) (u : Use) : State × Xlat :=
  let r := s.lookupWalk c va u.writes
  match r.2 with
  | .bad d => (r.1, .miss 1 d 0)
  | .leaf _ e bits => (r.1, r.1.throughPte e bits va u)

/-- The DPA and the leaf entry of an address that has a valid translation, whatever rights it gives (R220, R222, R309). -/
def State.validPage (s : State) (c va : Nat) : Option (Nat × Nat) :=
  match s.walk c va with
  | .bad _ => none
  | .leaf _ e bits =>
    match pteDpa s e bits (va % 2 ^ bits) with
    | none => none
    | some dpa =>
      if s.isBlocked dpa || ((decide (pteLoc e = 1) || decide (pteLoc e = 3)) && decide (leaseState (s.lease (fld e 36 12)).data = 0)) then none
      else some (dpa, e)

/-- Drops the translations that satisfy a test from the commands that engines run (R186, R227). -/
def State.cmdTlbDrop (s : State) (f : TlbEntry → Bool) : State :=
  { s with cmds := s.cmds.map (fun e => (e.1, { e.2 with pages := e.2.pages.filter (fun p =>
      !f { ctx := e.2.ctx, vpn := p.base / 2 ^ p.bits, bits := p.bits, pte := BitVec.ofNat 64 p.pte }) })) }

/-- Drops the TLB entries that satisfy a test from every L1 TLB and L2 TLB, and from the engines (R186). -/
def State.tlbDrop (s : State) (f : TlbEntry → Bool) : State :=
  State.cmdTlbDrop { s with plots := s.plots.map (fun e => (e.1, { e.2 with tlb := e.2.tlb.filter (fun t => !f t.2) })),
                            dies := s.dies.map (fun e => (e.1, { e.2 with tlb := e.2.tlb.filter (fun t => !f t.2) })) } f

/-- An entry of a context that overlaps a range (R186). -/
def tlbOverlaps (c lo len : Nat) (e : TlbEntry) : Bool :=
  decide (e.ctx = c) && decide (0 < len) && decide (e.vpn * 2 ^ e.bits < lo + len) && decide (lo < (e.vpn + 1) * 2 ^ e.bits)

/-- A pmove holds the page of an address (R338). -/
def State.isMoving (s : State) (c va : Nat) : Bool :=
  s.pgc.moving.any (fun m => decide (m.1 = c) && (match s.walk c (va % 2 ^ 57) with | .leaf a _ _ => decide (a = m.2) | .bad _ => false))

/-! ## What a context's tables map -/

/-- Leaf entries under a table, with the bits of their pages and their own addresses. Only an entry with a byte listed in memory can be valid. -/
def State.tableLeaves (s : State) : List (Nat × Nat × Nat) → Nat → List (Nat × Nat × Nat)
  | [], _ => []
  | (_, n, bits) :: rest, table =>
    if !tablePlace s table then []
    else
      let cells := s.mem.filter (fun c => decide (table ≤ c.1) && decide (c.1 < table + 8 * 2 ^ n))
      ((cells.map (fun c => (c.1 - table) / 8)).eraseDups).flatMap (fun k =>
        let e := s.readNat (table + 8 * k) 8
        let next := fld e 8 44 * 256
        let small := match rest with | [_] => true | _ => false
        if !pteV e then []
        else if pteLeaf e then (if bits = 0 ∨ leafMalformed s e bits then [] else [(e, bits, table + 8 * k)])
        else if rest.isEmpty ∨ fld e 52 12 ≠ 0 ∨ fld e 2 6 ≠ 0 ∨ (!small ∧ next % 4096 ≠ 0) then []
        else s.tableLeaves rest next)

/-- Leaf entries of a context's tables. -/
def State.ctxLeaves (s : State) (c : Nat) : List (Nat × Nat × Nat) := s.tableLeaves walkLevels (s.ctx c).ptroot.toNat

/-- The leaf entry of an enabled context that maps a DPA. -/
def State.leafOf (s : State) (dpa : Nat) : Option Nat :=
  (s.ctxs.filter (fun e => e.2.en)).findSome? (fun e => ((s.ctxLeaves e.1).find? (fun l =>
    match pteDpa s l.1 l.2.1 0 with | some b => decide (b ≤ dpa) && decide (dpa < b + 2 ^ l.2.1) | none => false)).map (fun l => l.1))

/-- The enabled context whose tables map a DPA. -/
def State.leafCtx (s : State) (dpa : Nat) : Nat :=
  (((s.ctxs.filter (fun e => e.2.en)).find? (fun e => (s.ctxLeaves e.1).any (fun l =>
    match pteDpa s l.1 l.2.1 0 with | some b => decide (b ≤ dpa) && decide (dpa < b + 2 ^ l.2.1) | none => false))).map (fun e => e.1)).getD 0

/-! ## Effective addresses (R187) -/

/-- What an effective address names. -/
inductive Space where
  | virt (va : Nat)
  | shared (off : Nat)
  | outside
  deriving DecidableEq, Repr

def spaceOf (e : DWord) : Space :=
  if e.toNat < 2 ^ 57 then .virt e.toNat
  else if e.toNat / 2 ^ 32 = 0xFF000000 then .shared (e.toNat % 2 ^ 32)
  else .outside

end Sys2Proof.Machine
end

