-- ==== Sys2Proof/Machine/Team.lean ====
section
/-! DEFINITION. Taking a trap (R340, R341, R346-R349), the end of a team (R253, R297, R367), barriers (R173), grid completion
(R64), commits (R286-R291). -/

namespace Sys2Proof.Machine

/-! ## Barriers (R173-R175) -/

/-- Participants of a team's or a cluster's barrier: groups that have not exited. -/
def State.participants (s : State) (tid : Nat) (clu : Bool) : List Nat :=
  if clu then (s.cluster (s.team tid).cluster).teams.flatMap (fun t => if (s.team t).live then (s.team t).groups else [])
  else (s.team tid).groups

def State.barrier (s : State) (tid : Nat) (clu : Bool) (b : Nat) : Barrier :=
  if clu then tabGet {} (s.cluster (s.team tid).cluster).bars b else tabGet {} (s.team tid).bars b

def State.setBarrier (s : State) (tid : Nat) (clu : Bool) (b : Nat) (x : Barrier) : State :=
  if clu then s.modCluster (s.team tid).cluster (fun c => { c with bars := tabSet {} c.bars b x })
  else s.modTeam tid (fun t => { t with bars := tabSet {} t.bars b x })

/-- A phase completes in the cycle in which every participant has arrived (R173). -/
def State.barrierCheck (s : State) (tid : Nat) (clu : Bool) (b : Nat) : State :=
  let x := s.barrier tid clu b
  if x.arrived.isEmpty then s
  else if (s.participants tid clu).all (fun g => x.arrived.contains g) then
    s.setBarrier tid clu b { phase := x.phase + 1, arrived := [], doneAt := s.cycle }
  else s

/-- An arrival counts (R174). -/
def State.barrierArrive (s : State) (gid tid : Nat) (clu : Bool) (b : Nat) : State :=
  let x := s.barrier tid clu b
  (s.setBarrier tid clu b { x with arrived := insertNat x.arrived gid }).barrierCheck tid clu b

/-- Every barrier of a team and of its cluster instance is checked after a participant has left (R173). -/
def State.barriersCheck (s : State) (tid : Nat) : State :=
  (List.range 16).foldl (fun t b => (t.barrierCheck tid false b).barrierCheck tid true b) s

/-! ## The trap record (R348) -/

/-- The record of a delivery. -/
def State.trapPack (s : State) (c : Nat) (gid : Option Nat) (tid : Nat) (f : Failure) (seq logslot word : Nat) (clause : DWord) :
    BitVec 512 :=
  let t := s.team tid
  let g := match gid with | some x => s.group x | none => {}
  let plot := match gid with | some _ => g.plot | none => t.plot
  let lane := match f.at? with | some (k, l) => k * 2 ^ 318 + l * 2 ^ 312 + 2 ^ 311 | none => 0
  BitVec.ofNat 512 (f.tick.getD s.tick + f.addr.toNat * 2 ^ 64 + clause.toNat * 2 ^ 128 + f.info.toNat * 2 ^ 192 + f.cls * 2 ^ 256
    + f.cause * 2 ^ 264 + word * 2 ^ 282 + logslot * 2 ^ 286 + c * 2 ^ 290 + g.slot * 2 ^ 296 + plot * 2 ^ 299
    + t.depth * 2 ^ 308 + (if gid.isSome then 2 ^ 310 else 0) + lane + t.serial * 2 ^ 328 + t.lserial * 2 ^ 352 + seq * 2 ^ 384)

/-- The next slot of the trap area that holds no unresolved trap, from the context's pointer (R347). -/
def trapSlot (x : Context) : Option Nat :=
  ((List.range 4096).map (fun i => (x.trapPtr + i) % 4096)).find? (fun i => x.traps.all (fun t => decide (t.slot ≠ i)))

def Context.modTrap (x : Context) (seq : Nat) (f : TrapRec → TrapRec) : Context :=
  { x with traps := x.traps.map (fun t => if t.seq = seq then f t else t) }
def Context.dropTrap (x : Context) (seq : Nat) : Context :=
  { x with traps := x.traps.filter (fun t => decide (t.seq ≠ seq)) }

/-- A record cannot be written: it is dropped, the group stays held, the error vector is raised (R347). The count wraps
(R351). DESIGN CHOICE: log entry 115. -/
def State.trapDropped (s : State) (c seq : Nat) : State :=
  let g := (s.ctx c).traps.find? (fun t => decide (t.seq = seq))
  let s1 := (s.modCtx c (fun x => { x.dropTrap seq with trapDrop := (x.trapDrop + 1) % 2 ^ 32 })).errorVector c
  match g.bind (fun t => t.gid) with
  | some gid => s1.modGroup gid (fun y => { y with lostHold := true, trapHold := y.trapHold.filter (fun q => decide (q ≠ seq)) })
  | none => s1

/-- Writes a trap record into the trap area; the handler team is placed 72 cycles after the write (R347, R349). The write waits for a pmove of its page
(R338), for a fill and for a stalled channel (R275, R316, R412): the same step with its flag set tries it again. -/
def State.trapWrite (s : State) (c seq : Nat) : State :=
  match (s.ctx c).traps.find? (fun t => decide (t.seq = seq)) with
  | none => s
  | some r =>
    let va := (s.ctx c).trapArea.toNat + 64 * r.slot
    let x := s.translateWalk c va .write
    if s.isMoving c va then s.after 1 .handlerTeamPlace { a := c, b := seq, flag := true } else
    match x.2 with
    | .ok dpa _ =>
      let y := x.1.uncached dpa
      if 0 < y.2 then y.1.after y.2 .handlerTeamPlace { a := c, b := seq, flag := true }
      else ((y.1.homeStore dpa (natBytes 64 r.data.toNat)).modCtx c (fun z => z.modTrap seq (fun t => { t with written := true }))).after 72
        .handlerTeamPlace { a := c, b := seq }
    | .miss k d l =>
      let t := x.1.team r.team
      x.1.enqueue { kind := k, ctx := c, src := 3, acc := 1, plot := t.plot, team := t.serial, detail := d, lease := l, addr := va }
        (.trap c seq)
    | .perm => x.1.trapDropped c seq

/-! ## The end of a team -/

/-- Releases the range locks of an owner (R229, R252). -/
def State.rltRelease (s : State) (p owner : Nat) : State :=
  (s.modPlot p (fun x => { x with rlt := x.rlt.filter (fun e => decide (e.owner ≠ owner)), waiting := x.waiting.filter (fun e => decide (e.owner ≠ owner)) })).afterOnce 0 .cpyRegister { a := p }

/-- A part of a split pass has been discarded: it counts as settled for its A-source, whose flag falls with the last (R245). -/
def State.partDiscarded (s : State) (ag aop : Nat) (taken : Bool) : State :=
  let s1 := if taken then s else s.modGroup ag (fun g => { g with bcast := g.bcast - 1 })
  match tabFind (s1.group ag).ops aop with
  | none => s1
  | some o =>
    if o.left ≤ 1 then s1.afterOnce 0 .storeComplete { a := ag, b := aop }
    else s1.modGroup ag (fun g => { g with ops := tabPut g.ops aop { o with left := o.left - 1 } })

/-- The A-source plot that a split block names, by its number in the cluster (R238). -/
def mxAPlot (b : Nat) : Nat := fld b 131 4

/-- The quads at the end of a team (R253): a part goes with the A-source that its block names, one whose broadcast has not been taken or not been sent yet
included, and with its B-source, for whose A-source it then counts as settled (R245). DEDUCED: log entry 52. -/
def State.endMxe (s : State) (tid : Nat) : State :=
  let awaitsUs := fun (r : MxReq) => r.part.isSome && r.asrc.isNone &&
    decide (((s.cluster (s.team r.team).cluster).teams[mxAPlot r.blk.toNat]?) = some tid)
  let ours := fun (r : MxReq) => decide (r.team = tid) || awaitsUs r ||
    (match r.asrc with | some (ag, _) => decide ((s.group ag).team = tid) | none => false)
  let parts := s.quads.flatMap (fun e =>
    e.2.resv.filterMap (fun r => if decide (r.2.team = tid) && r.2.granted.isNone then r.2.asrc.map (fun a => (a.1, a.2, true)) else none)
    ++ e.2.bcasts.filterMap (fun b => if (s.group b.bsrc).team = tid then some (b.gid, b.op, false) else none))
  let locks := s.quads.flatMap (fun e => (e.2.resv.filter (fun r => ours r.2 && r.2.drain)).map
    (fun r => (r.2.plot, r.2.op)))
  let s1 : State := { s with quads := s.quads.map (fun e =>
    (e.1, { e.2 with
      resv := (e.2.resv.filter (fun r => !(ours r.2 && r.2.granted.isNone))).map
        (fun r => (r.1, if decide (r.2.team = tid) && r.2.drain then { r.2 with cut := true } else r.2)),
      bcasts := e.2.bcasts.filter (fun b => decide ((s.group b.gid).team ≠ tid) && decide ((s.group b.bsrc).team ≠ tid)),
      slots := e.2.slots.filter (fun x => decide (x.2.team ≠ tid)) })) }
  let s2 := (parts.filter (fun p => decide ((s.group p.1).team ≠ tid))).foldl (fun (t : State) p => t.partDiscarded p.1 p.2.1 p.2.2) s1
  let s3 := s2.quads.foldl (fun (t : State) e => if e.2.resv.isEmpty then t else t.afterOnce 0 .mxeGrant { a := e.1 }) s2
  locks.foldl (fun t l => t.rltRelease l.1 l.2) s3

/-- Units of a returned arena are written with zeros and zero descriptors (R297): the lines of their pages leave the caches, and a frame that caches a
pool page of them reads zero too. A unit whose page cannot be written now is answered: it is still to be zeroed. -/
def State.zeroArena (s : State) (c : Nat) (a : Arena) (units : List Nat) : State × List Nat :=
  units.foldl (fun (r : State × List Nat) i =>
    let u := r.1
    match (u.translateWalk c ((u.ctx c).arenaHeap.toNat + (a.off + i) * 65536) .fmtWrite).2 with
    | .ok dpa _ =>
      let v := u.loseUnit (frameOf dpa)
      ((match v.frameFor (frameOf dpa) with
       | some f => v.zeroRange (f * 65536) 65536
       | none => v).zeroRange dpa 65536, r.2)
    | _ => (u, r.2 ++ [i])) (s, [])

/-- A returned arena is zeroed as far as its pages can be written; it is back in the heap once every block of it is zero (R297).
DESIGN CHOICE: log entry 117. -/
def State.returnArena (s : State) (c : Nat) (a : Arena) : State :=
  let r := s.zeroArena c a (a.back.getD (List.range a.len))
  let keep := fun (as : List Arena) => if r.2.isEmpty then as.filter (fun y => decide (y ≠ a))
    else as.map (fun y => if y = a then { y with back := some r.2 } else y)
  let s1 := r.1.modCtx c (fun x => { x with arenas := keep x.arenas })
  if r.2.isEmpty then s1 else s1.afterOnce 4096 .placeCluster {}

/-- The fate of a team's arena (R297): returned and zeroed unless its retain bit is set. -/
def State.endArena (s : State) (tid : Nat) : State :=
  let c := (s.team tid).ctx
  ((s.ctx c).arenas.filter (fun a => decide (a.team = tid) && !a.retain)).foldl (fun t a => t.returnArena c a) s

/-- The placer zeroes what it could not zero before (R297). DESIGN CHOICE: log entry 117. -/
def State.returnArenas (s : State) : State :=
  s.ctxs.foldl (fun t e => (e.2.arenas.filter (fun a => a.back.isSome)).foldl (fun u a => u.returnArena e.1 a) t) s

/-- The groups of a team leave every bank. -/
def Plot.dropGroups (x : Plot) (gs : List Nat) : Plot :=
  { x with
    slots := x.slots.map (fun g => match g with | some y => if gs.contains y then none else some y | none => none),
    shadow := x.shadow.map (fun r => { r with groups := r.groups.filter (fun y => !gs.contains y) }),
    outgoing := x.outgoing.map (fun r => { r with groups := r.groups.filter (fun y => !gs.contains y) }),
    spilled := x.spilled.map (fun r => { r with groups := r.groups.filter (fun y => !gs.contains y) }) }

/-- Ends a team: its slots, rows, share, tiles, Sieve, commit buffer, log entries, unresolved group traps and matrix slots are freed (R63, R214, R253,
R255, R290, R297, R344, R350). `how` is TRC.AUX of its trace record: 0 exit, 1 lost, 2 killed, 3 relaunched, 4 reset. -/
def State.freeTeam (s : State) (tid how : Nat) : State :=
  let t := s.team tid
  if !t.live then s
  else
    let s1 := ((s.trace (plotDie t.plot) 2 0 t.ctx 0 t.plot t.serial how t.lserial).endMxe tid).endArena tid
    let s2 := s1.modPlot t.plot (fun x =>
      { (x.dropGroups t.allGroups) with
        tiles := x.tiles.filter (fun e => decide (e.2.team ≠ tid)),
        savedTiles := x.savedTiles.filter (fun e => decide (e.2.team ≠ tid)),
        savedSieves := x.savedSieves.filter (fun v => decide (v.team ≠ some tid)),
        sieve := if x.sieve.team = some tid then {} else x.sieve })
    let s3 : State := { s2 with groups := s2.groups.filter (fun e => !(t.allGroups.contains e.1)),
                                cmds := s2.cmds.filter (fun e => !(decide (e.2.team = tid) && decide (e.2.st = .reading))) }
    let s4 := s3.modTeam tid (fun x => { x with live := false, groups := [], cb := [], commits := [], shmem := [], forwarded := [] })
    let s5 := s4.modCtx t.ctx (fun x => { x with
      traps := x.traps.filter (fun r => decide (r.team ≠ tid) || r.gid.isNone),
      waitTraps := x.waitTraps.filter (fun r => decide (r.team ≠ tid) || r.gid.isNone) })
    let s6 := s5.modDie (plotDie t.plot) (fun x => { x with
      walkers := x.walkers.filter (fun w => !(t.allGroups.contains w.1)),
      pubQueue := x.pubQueue.filter (fun w => !(t.allGroups.contains w.1)) })
    ((s6.barriersCheck tid).afterOnce 0 .placeCluster {}).afterOnce 0 .racqServe { a := t.plot }

/-! ## Grid completion (R64) -/

/-- Number of clusters of a launch (R31). -/
def Launch.clusters (l : Launch) : Nat :=
  (l.blk.extractLsb' 64 16).toNat * (l.blk.extractLsb' 80 16).toNat * (l.blk.extractLsb' 96 16).toNat
/-- The launch has clusters that have never been placed. -/
def Launch.unplaced (l : Launch) : Bool := decide (l.nextCluster < l.clusters) && !l.cancelled
/-- LB.SIGNAL. -/
def Launch.signal (l : Launch) : Nat := (l.blk.extractLsb' 384 57).toNat
def Launch.paired (l : Launch) : Bool := l.blk.getLsbD 124
def Launch.prio (l : Launch) : Nat := (l.blk.extractLsb' 121 3).toNat
/-- Completion status (R64). -/
def Launch.status (l : Launch) : Nat := if l.cancelled then 3 else if l.lost then 2 else 1

def State.modLaunch (s : State) (c serial : Nat) (f : Launch → Launch) : State :=
  s.modCtx c (fun x => { x with launches := x.launches.map (fun l => if l.serial = serial then f l else l) })
def State.launch? (s : State) (c serial : Nat) : Option Launch := (s.ctx c).launches.find? (fun l => decide (l.serial = serial))

/-- The launch is complete and remembered (R38); its entry leaves the queues. -/
def State.retireLaunch (s : State) (c serial : Nat) : State :=
  s.modCtx c (fun x => { x with launches := x.launches.filter (fun l => decide (l.serial ≠ serial)) })

/-! ## Taking a trap -/

/-- Ends a team without relaunch (R182): the grid's completion status becomes 2. -/
def State.killTeamRaw (s : State) (tid : Nat) : State :=
  let t := s.team tid
  (s.freeTeam tid 2).modLaunch t.ctx t.lserial (fun l => { l with lost := true })

/-- A trap of the PGC stops it; the standby takes over within 4,096 ticks (R333). -/
def State.stopPgc (s : State) (gid : Nat) : State :=
  let s1 := s.modGroup gid (fun g => { g with loc := .gone, clause := none, hold := none })
  if gid = 0 then (s1.modPgc (fun p => { p with takeover := some (s.tick + 4096), codeAt := none })).atTick (s.tick + 4096) .standbyPgcTakeover {}
  else s1

/-- Taking a trap: the record, the hold of the group, whose step of a debugger ends (R402), the handler team (R341, R346, R347); without a free slot, or behind deliveries that wait for
one, it waits too. A trap of a depth-3 team is not delivered (R349). -/
def State.deliver (s : State) (c : Nat) (gid : Option Nat) (tid : Nat) (f : Failure) (logslot word : Nat) (clause : DWord) : State :=
  let t := s.team tid
  if t.depth = 3 then
    (((s.killTeamRaw tid).modCluster t.cluster (fun x => { x with live := false })).modCtx c (fun x => { x with trapDrop := (x.trapDrop + 1) % 2 ^ 32 })).errorVector c
  else
    match (if (s.ctx c).waitTraps.isEmpty then trapSlot (s.ctx c) else none) with
    | none =>
      let s0 := match gid with | some g => s.modGroup g (fun y => { y with stepping := false }) | none => s
      s0.modCtx c (fun x => { x with waitTraps := x.waitTraps ++
        [{ gid := gid, team := tid, f := { f with tick := some (f.tick.getD s.tick) }, logslot := logslot, word := word, clause := clause }] })
    | some sl =>
      let seq := (s.ctx c).trapSeq
      let r : TrapRec := { seq := seq, slot := sl, gid := gid, team := tid, logslot := logslot, cls := f.cls,
                           data := s.trapPack c gid tid f seq logslot word clause }
      let s1 := s.modCtx c (fun x => { x with traps := x.traps ++ [r], trapSeq := (seq + 1) % 2 ^ 32, trapPtr := (sl + 1) % 4096 })
      let s2 := match gid with
        | some g => (s1.flushPend g).modGroup g (fun y => { y with trapHold := y.trapHold ++ [seq], stepping := false })
        | none => s1
      let plot := match gid with | some g => (s.group g).plot | none => t.plot
      (s2.trace (plotDie plot) 3 0 c (match gid with | some g => (s.group g).slot | none => 0) plot t.serial
        (f.cls * 2 ^ 18 + f.cause) f.addr.toNat).trapWrite c seq

/-- The deliveries of a context that wait for a slot of its trap area, oldest first, as far as slots are free (R347). DEDUCED: log entry 38. -/
def State.trapsDelivered (s : State) (c : Nat) : Nat → State
  | 0 => s
  | n + 1 =>
    match (s.ctx c).waitTraps with
    | [] => s
    | w :: rest =>
      if (trapSlot (s.ctx c)).isNone then s
      else
        let s1 := (s.modCtx c (fun x => { x with waitTraps := [] })).deliver c w.gid w.team w.f w.logslot w.word w.clause
        (s1.modCtx c (fun x => { x with waitTraps := x.waitTraps ++ rest })).trapsDelivered c n

/-- Every context's deliveries that wait, once slots are free. DEDUCED: log entry 38. -/
def State.trapWaiters (s : State) : State :=
  (s.ctxs.filter (fun e => !e.2.waitTraps.isEmpty)).foldl (fun t e => t.trapsDelivered e.1 e.2.waitTraps.length) s

/-- A resolved trap frees its slot and its part of the hold (R346, R347). DEDUCED: log entry 38. -/
def State.trapResolved (s : State) (c seq : Nat) : State :=
  let g := ((s.ctx c).traps.find? (fun t => decide (t.seq = seq))).bind (fun t => t.gid)
  let s1 := s.modCtx c (fun x => x.dropTrap seq)
  match g with
  | some gid => s1.modGroup gid (fun y => { y with trapHold := y.trapHold.filter (fun q => decide (q ≠ seq)) })
  | none => s1

/-- A group raises a trap at performance or at issue (R341); the PGC stops (R333). -/
def State.trapGroup (s : State) (gid : Nat) (f : Failure) (logslot word : Nat) (clause : DWord) : State :=
  let g := s.group gid
  if g.pgc then s.stopPgc gid else s.deliver g.ctx (some gid) g.team f logslot word clause

/-- A trap of a context that no team raised (R64). -/
def State.trapContext (s : State) (c : Nat) (f : Failure) : State := s.deliver c none 0 f 15 0 0

/-- Writes a launch's completion word (R64); it completes for R38 in the same cycle. The write waits as any other does (R275, R316, R338, R412): the
placer tries it again. -/
def State.signalLaunch (s : State) (c serial : Nat) : State :=
  match s.launch? c serial with
  | none => s
  | some l =>
    if l.signal = 0 then s.retireLaunch c serial
    else
      let x := s.translateWalk c l.signal .write
      let again := fun (t : State) (n : Nat) => t.after n .placeCluster { a := c, b := serial, flag := true }
      if s.isMoving c l.signal then again s 1 else
      match x.2 with
      | .ok dpa _ =>
        let y := x.1.uncached dpa
        if 0 < y.2 then again y.1 y.2
        else (y.1.homeStore dpa (natBytes 8 (serial + l.status * 2 ^ 32))).retireLaunch c serial
      | .miss k d i => x.1.enqueue { kind := k, ctx := c, src := 3, acc := 1, detail := d, lease := i, addr := l.signal } (.word c serial)
      | .perm => (x.1.retireLaunch c serial).trapContext c { cls := 4, cause := 19, addr := BitVec.ofNat 64 l.signal }

/-- Every team of a grid has ended (R64). -/
def State.gridComplete (s : State) (c serial : Nat) : State :=
  match s.launch? c serial with
  | none => s
  | some l =>
    if l.done then s
    else
      let s1 := (s.modLaunch c serial (fun x => { x with done := true })).modCtx c
        (fun x => { x with complete := ((serial, l.status) :: x.complete).take 65536 })
      (s1.signalLaunch c serial).afterOnce 0 .placeCluster {}

/-- A cluster of a launch has ended for good; the grid completes with its last one. -/
def State.clusterEnded (s : State) (c serial : Nat) : State :=
  let s1 := s.modLaunch c serial (fun l => { l with ended := l.ended + 1 })
  match s1.launch? c serial with
  | some l => if l.ended ≥ l.clusters ∧ l.clusters ≤ l.nextCluster ∧ l.again.isEmpty then s1.gridComplete c serial else s1
  | none => s1

/-- Every plot of a fused instance writes back and invalidates its L1 (R268); none is free before the last has done so, and the placer looks again
then. -/
def State.flushFused (s : State) (cid : Nat) : State :=
  let ps := (s.cluster cid).teams.map (fun t => (s.team t).plot)
  let n := ps.foldl (fun m p => Nat.max m (s.flushCycles p)) 0
  let s1 := ps.foldl (fun u p => (u.l1Flush p).modPlot p (fun x => { x with flushTo := s.cycle + n })) s
  if n = 0 then s1 else s1.after n .placeCluster {}

/-- The instance ends once no team of it lives; a fused one flushes its L1 arrays (R268). The end of the pair's second
instance ends the cluster. -/
def State.instanceCheck (s : State) (cid : Nat) : State :=
  let c := s.cluster cid
  if !c.live || c.teams.any (fun t => (s.team t).live) then s
  else
    let s0 := if c.fused then s.flushFused cid else s
    let s1 := s0.modCluster cid (fun x => { x with live := false })
    if c.handler then s1
    else
      match c.twin with
      | some w => if (s1.cluster w).live then s1 else s1.clusterEnded c.ctx c.lserial
      | none => s1.clusterEnded c.ctx c.lserial

/-- Ends a team without relaunch and settles its instance (R182). DEDUCED: log entry 48. -/
def State.killTeam (s : State) (tid : Nat) : State := (s.killTeamRaw tid).instanceCheck (s.team tid).cluster

/-! ## The relaunch rule (R366, R367) -/

/-- Both instances of a paired cluster, or the one. -/
def State.instancePair (s : State) (cid : Nat) : List Nat :=
  match (s.cluster cid).twin with
  | some w => [cid, w]
  | none => [cid]

/-- A team has ended by poison, a cull, a mismatch or an unresolved drain: its instance is relaunched or lost (R367). -/
def State.endInstance (s : State) (tid : Nat) : State :=
  let cid := (s.team tid).cluster
  let c := s.cluster cid
  if !c.live then s
  else if c.handler then
    let r := (s.team tid).trapRec
    let s1 := (s.freeTeam tid 1).modCluster cid (fun x => { x with live := false })
    match r with
    | some (_, seq) =>
      (s1.modCtx c.ctx (fun x => x.modTrap seq (fun t => { t with handler := none, ready := false }))).after 72
        .handlerTeamPlace { a := c.ctx, b := seq }
    | none => s1
  else
    let cids := s.instancePair cid
    let teams := cids.flatMap (fun i => (s.cluster i).teams)
    let again := teams.all (fun t => !(s.team t).committed || (s.team t).idem) && decide (c.relaunches < 3)
    let s0 := (cids.filter (fun i => (s.cluster i).fused)).foldl (fun u i => u.flushFused i) s
    let s1 := teams.foldl (fun u t => u.freeTeam t (if again then 3 else 1)) s0
    let s2 := cids.foldl (fun u i => u.modCluster i (fun x => { x with live := false })) s1
    if again then
      (s2.modLaunch c.ctx c.lserial (fun l => { l with again := l.again ++ [(c.index, c.relaunches + 1)] })).afterOnce 0 .placeCluster {}
    else
      let twin := match (s.team tid).twin with | some w => (s.team w).serial | none => 0
      let s3 := s2.modLaunch c.ctx c.lserial (fun l => { l with lost := true })
      (s3.deliver c.ctx none tid { cls := 19, cause := 0, info := BitVec.ofNat 64 twin } 15 0 0).clusterEnded c.ctx c.lserial

/-- A team consumes poison (R365). -/
def State.consumePoison (s : State) (tid : Nat) : State :=
  let t := s.team tid
  (s.modDie (plotDie t.plot) (fun x => { x with rasPoison := sat16 x.rasPoison })).endInstance tid

/-! ## Commits (R286-R291) -/

/-- A team has committed (R366). -/
def State.markCommitted (s : State) (tid : Nat) : State := s.modTeam tid (fun t => { t with committed := true })

/-- The oldest commit of a team goes on: one step for each of its entries, or one that ends an empty commit (R289). -/
def State.startDrain (s : State) (tid : Nat) : State :=
  match (s.team tid).commits with
  | [] => s
  | c :: _ =>
    if c.unpaired then s
    else
      match (s.team tid).cb.filter (fun e => decide (e.commit = some c.id)) with
      | [] => s.after 0 .commitEntryDrain { a := tid, b := 0, flag := true }
      | es => es.foldl (fun u e => u.after 1 .commitEntryDrain { a := tid, b := e.blk }) s

/-- Starts a commit of every entry that belongs to none (R289), behind the commits that have begun; a paired team's waits for its
twin (R291). -/
def State.beginCommit (s : State) (tid : Nat) (k : CommitKind) : State :=
  let id := s.nextId
  let t := s.team tid
  let s1 := s.bump.modTeam tid (fun x => { x with
    commits := x.commits ++ [{ id := id, kind := k, unpaired := x.paired, sig := x.sig }],
    sig := 0,
    cb := x.cb.map (fun e => if e.commit.isNone then { e with commit := some id } else e) })
  if t.paired then s1.afterOnce 0 .pairCommitCompare { a := tid }
  else if 1 < (s1.team tid).commits.length then s1
  else s1.startDrain tid

/-- A commit point of a team may have come (R288). -/
def State.askCommit (s : State) (tid : Nat) : State := s.afterOnce 0 .commitPoint { a := tid }

/-- Occupied entries that count for the high-water mark (R287, R291). -/
def cbCount (t : Team) : Nat := if t.paired then (t.cb.filter (fun e => e.commit.isNone)).length else t.cb.length

/-- Entries that hold buffer room beside a team's own: those of the set that a swap has taken out, until they have drained (R355). -/
def State.outgoingEntries (s : State) (tid : Nat) : Nat :=
  match (s.plot (s.team tid).plot).outgoing with
  | some r => (((r.groups.map (fun g => (s.group g).team)).eraseDups).filter (fun t => decide (t ≠ tid))).foldl (fun n t => n + (s.team t).cb.length) 0
  | none => 0

/-- Entries occupied as a team's store finds them (R287, R355). -/
def State.cbHeld (s : State) (tid : Nat) : Nat := (s.team tid).cb.length + s.outgoingEntries tid

/-- A free entry exists for a block (R287). -/
def State.cbHasRoom (s : State) (tid blk : Nat) : Bool :=
  (s.team tid).cb.any (fun e => decide (e.blk = blk) && e.commit.isNone) || decide (s.cbHeld tid < 1024)

/-- Stores bytes of one block, by offset, into the commit buffer (R287); `tag` when a tagged rst writes the word. DESIGN CHOICE: an entry that plain
and no-allocate stores share carries the hint of the latest one (log entry 95). -/
def State.cbStore (s : State) (tid blk : Nat) (bs : Tab Byte) (tag na : Bool) (desc : Option (BitVec 48)) : State :=
  let t := s.team tid
  let words := bs.foldl (fun (m : BitVec 8) b => m ||| BitVec.ofNat 8 (2 ^ (b.1 / 8))) 0
  let put := fun (e : CBEntry) =>
    { e with bytes := bs.foldl (fun m p => tabPut m p.1 p.2) e.bytes, tags := if tag then e.tags ||| words else e.tags &&& ~~~words,
             desc := match desc with | some d => some d | none => e.desc, na := na }
  if t.cb.any (fun e => decide (e.blk = blk) && e.commit.isNone) then
    s.modTeam tid (fun x => { x with cb := x.cb.map (fun e => if e.blk = blk ∧ e.commit.isNone then put e else e) })
  else
    let s1 := s.modTeam tid (fun x => { x with cb := x.cb ++ [put { blk := blk }] })
    if 768 ≤ cbCount (s1.team tid) then s1.beginCommit tid .highWater else s1

/-- The byte of a virtual address that the team's commit buffer holds, the latest entry first (R189, R286). -/
def cbByte (t : Team) (va : Nat) : Option Byte :=
  (t.cb.reverse.find? (fun e => decide (e.blk = va / 64) && (tabFind e.bytes (va % 64)).isSome)).bind (fun e => tabFind e.bytes (va % 64))

/-- The reference tag of the word of a virtual address as the team's buffer holds it. -/
def cbTag (t : Team) (va : Nat) : Option Bool :=
  (t.cb.reverse.find? (fun e => decide (e.blk = va / 64) && e.bytes.any (fun x => decide (x.1 / 8 = va % 64 / 8)))).map
    (fun e => e.tags.getLsbD (va % 64 / 8))

end Sys2Proof.Machine
end

