-- ==== Sys2Proof/Machine/Mem.lean ====
section
/-! DEFINITION. One access at performance: the checks of causes 18 to 23 (R199-R201, R204, R219, R229), the read and the write of
one element (R189, R191, R192, R286), the paired team's signature (R369). -/

namespace Sys2Proof.Machine

/-! ## Trap classes (R340) -/
def clsIllegal : Nat := 1
def clsRegRow : Nat := 2
def clsMisalign : Nat := 3
def clsProt : Nat := 7
def clsEscapeRead : Nat := 8
def clsEscapeWrite : Nat := 9
def clsEscapeStore : Nat := 10
def clsBounds : Nat := 11
def clsFrozen : Nat := 12
def clsRangeLock : Nat := 13
def clsMxfmt : Nat := 14
def clsTile : Nat := 15
def clsAtomicScope : Nat := 16
/-- Class of a translation failure by the kind of its record. -/
def clsOfKind (k : Nat) : Nat := match k with | 2 => 5 | 4 => 6 | _ => 4
/-- Kind of the record of a translation failure by its class. -/
def kindOfCls (c : Nat) : Nat := match c with | 5 => 2 | 6 => 4 | _ => 1

/-- Where an element is. -/
inductive Place where
  | mem (dpa pte : Nat)
  | sh (off : Nat)
  deriving DecidableEq, Repr

/-! ## Object headers (R295) -/

def hdrState (h : Nat) : Nat := fld h 62 2
def hdrScope (h : Nat) : Nat := fld h 60 2
def hdrOwner (h : Nat) : Nat := fld h 36 24
def hdrSize (h : Nat) : Nat := fld h 16 20

/-- The object at header address `h` is private to the team (R201). -/
def privateTo (t : Team) (h hdr : Nat) : Bool :=
  decide (hdrState hdr = 1) && decide (hdrOwner hdr = t.serial) && decide (t.arenaBase.toNat ≤ h) && decide (h < t.arenaLim.toNat)

/-- The team lies within the scope of a published or frozen object (R201, R298). -/
def State.inScope (s : State) (tid hdr : Nat) : Bool :=
  match hdrScope hdr with
  | 0 => (s.cluster (s.team tid).cluster).teams.any (fun t => decide ((s.team t).serial = hdrOwner hdr))
  | _ => true

/-- The 8-byte header at a virtual address of a context. DESIGN CHOICE: the plot's own lookup asks for the page's R right (log entry 94). -/
def State.headerAt (s : State) (p c h : Nat) : State × Xlat × Nat :=
  let x := s.translate p c (h % 2 ^ 57) .read
  match x.2 with
  | .ok dpa pte => let t := x.1.eccMiss dpa; (t, .ok dpa pte, t.readNat dpa 8)
  | y => (x.1, y, 0)

/-- The checks of a header against an access (R201), the lowest cause first: a published or frozen one of scope 3 raises PROT with cause 19 (R295). -/
def objectState (s : State) (tid h hdr addr n : Nat) (write : Bool) : Option (Nat × Nat) :=
  if 2 ≤ hdrState hdr ∧ hdrScope hdr = 3 then some (clsProt, 19)
  else if addr < h + 8 ∨ h + 64 * hdrSize hdr < addr + n ∨ hdrState hdr = 0 then some (clsBounds, 20)
  else if hdrState hdr = 1 then
    (if privateTo (s.team tid) h hdr then none else some (if write then clsEscapeWrite else clsEscapeRead, 21))
  else if hdrState hdr = 3 ∧ write then some (clsFrozen, 21)
  else if s.inScope tid hdr then none
  else some (if write then clsEscapeWrite else clsEscapeRead, 21)

/-! ## Locks (R219, R229) -/

/-- A virtual range meets a locked range of the plot in the same context. -/
def State.rangeLocked (s : State) (p c va n : Nat) (write : Bool) : Bool :=
  (s.plot p).rlt.any (fun e => decide (e.ctx = c) && e.share.isNone && decide (e.lo ≤ (va + n - 1) / 64) && decide (va / 64 ≤ e.hi) && (write || e.reads))

/-- An offset range of a team's share meets a locked range of it. -/
def State.shareLocked (s : State) (p tid off n : Nat) (write : Bool) : Bool :=
  (s.plot p).rlt.any (fun e => decide (e.share = some tid) && decide (e.lo ≤ (off + n - 1) / 64) && decide (off / 64 ≤ e.hi) && (write || e.reads))

/-- Shared bytes of a tile of the team that is FILLING or DRAINING. -/
def State.tileLocked (s : State) (p tid off n : Nat) : Bool :=
  (s.plot p).tiles.any (fun e => decide (e.2.team = tid) && (decide (e.2.st = .filling) || decide (e.2.st = .draining))
    && decide (e.2.off * 64 < off + n) && decide (off < (e.2.off + e.2.len) * 64))

/-! ## The checks of one element -/

/-- A failure of one element. DEDUCED: log entry 26. -/
def elemFail (cls cause addr : Nat) (info : Nat := 0) : Failure :=
  { cls := cls, cause := cause, addr := BitVec.ofNat 64 addr, info := BitVec.ofNat 64 info }

/-- Placement of an atomic of a scope (R204): 0 team, 1 cluster, 2 device, 3 system. -/
def atomicPlaceOk (scope : Nat) (pl : Place) (priv : Bool) : Bool :=
  match pl with
  | .sh _ => decide (scope = 0)
  | .mem dpa pte =>
    if pteClass pte = 1 then false
    else if scope = 0 then priv && (scratchOf dpa).isNone
    else !(decide (scope = 3) && decide (pteLoc pte = 1))

/-- The lower of two failures: by cause, then element, then lane (R200). -/
def worseOf (a b : Option Failure) : Option Failure :=
  match a, b with
  | none, x => x
  | x, none => x
  | some x, some y =>
    let key := fun (f : Failure) => (f.cause * 128 + (f.at?.getD (0, 0)).1) * 128 + (f.at?.getD (0, 0)).2
    if key y < key x then some y else some x

/-- What the header that a tagged base names says of an access (R201): causes 18 to 21 of the header and of the object; whether the object is private
to the team. Nothing for an untagged base. DESIGN CHOICE: log entry 94. -/
def State.refCheck (s : State) (gid : Nat) (ref : Option DWord) (addr : DWord) (n : Nat) (u : Use) : State × Option Failure × Bool :=
  match ref with
  | none => (s, none, false)
  | some h =>
    let g := s.group gid
    let y := s.headerAt g.plot g.ctx h.toNat
    match y.2.1 with
    | .miss k d l => (y.1, some (elemFail (clsOfKind k) 18 h.toNat (d + 256 * l)), false)
    | .perm => (y.1, some (elemFail clsProt 19 h.toNat), false)
    | .ok _ hp =>
      if pteFmt hp ≠ 2 then (y.1, some (elemFail clsProt 19 h.toNat), false)
      else
        (y.1, (objectState y.1 g.team h.toNat y.2.2 addr.toNat n u.writes).map (fun c => elemFail c.1 c.2 addr.toNat),
         privateTo (y.1.team g.team) h.toNat y.2.2)

/-- Checks one element at performance, for a group of a team: the lowest of causes 18 to 23 that applies (R199-R201). `ref` is the base of a
tagged base register; `scope` is given for an atomic; `fmt` for vldf and vstf. DEDUCED: log entry 28. DESIGN CHOICE: ATOMIC_SCOPE for an atomic of
a wider scope than team to the shared window (log entry 93). -/
def State.checkElem (s : State) (gid : Nat) (ref : Option DWord) (addr : DWord) (n : Nat) (u : Use) (scope : Option Nat) (fmt : Bool) :
    State × Option Failure × Place :=
  let g := s.group gid
  if g.pgc then
    (s.eccMiss addr.toNat, if (scratchOf addr.toNat).isSome && !placeAllows s addr.toNat then some (elemFail clsProt 19 addr.toNat) else none, .mem addr.toNat 0)
  else
    match spaceOf addr with
    | .outside => (s, some (elemFail clsProt 16 addr.toNat), .sh 0)
    | .shared off =>
      let y := s.refCheck gid ref addr n u
      let f := if s.tileLocked g.plot g.team off n || s.shareLocked g.plot g.team off n u.writes then some (elemFail clsRangeLock 22 addr.toNat)
        else match scope with
          | some sc => if sc = 0 then none else some (elemFail clsAtomicScope 23 addr.toNat)
          | none => none
      (y.1, worseOf y.2.1 f, .sh off)
    | .virt va =>
      let x : State × Xlat := (match s.translate g.plot g.ctx va u with
        | (t, .ok dpa pte) => (t.eccMiss dpa, .ok dpa pte)
        | y => y)
      let y := x.1.refCheck gid ref addr n u
      match x.2 with
      | .miss k d l => (y.1, some (elemFail (clsOfKind k) 18 va (d + 256 * l)), .sh 0)
      | .perm => (y.1, worseOf (some (elemFail clsProt 19 va)) y.2.1, .sh 0)
      | .ok dpa pte =>
        let pl := Place.mem dpa pte
        let page := if decide (pteFmt pte = 2) = ref.isSome && !(ref.isSome && fmt) then none else some (elemFail clsProt 19 va)
        let late :=
          if y.1.rangeLocked g.plot g.ctx va n u.writes then some (elemFail clsRangeLock 22 va)
          else match scope with
            | some sc => if atomicPlaceOk sc pl y.2.2 then none else some (elemFail clsAtomicScope 23 va)
            | none => none
        (y.1, worseOf page (worseOf y.2.1 late), pl)

/-! ## Reading and writing one element -/

/-- A line of this page may be cached in the L1 and the L2 (R266, R319, R331). DEDUCED: log entry 19. -/
def cacheable (dpa pte : Nat) : Bool :=
  !isHost dpa && decide (pteClass pte ≠ 1) && (!isPeer dpa || pteShro pte)

/-- What follows the start of a fill: one that MODELCAP holds waits behind its record (R319), which names the context of the access (R337). -/
def State.afterFill (r : State × FillOut) (dpa rclass mgroup ctx : Nat) : State :=
  match r.2 with
  | .modelFull =>
    if r.1.pgc.fq.any (fun e => match e.2.target with | .model a _ _ => decide (frameOf a = frameOf dpa) | _ => false) then r.1
    else r.1.enqueue { kind := 10, ctx := ctx, src := 3, addr := dpa } (.model dpa rclass mgroup)
  | _ => r.1

/-- The page cache serves an L2 miss of a context's access (R316). -/
def State.servePool (s : State) (dpa pte ctx : Nat) : State :=
  State.afterFill (s.pageCache dpa (pteClass pte) (pteMgroup pte) ctx) dpa (pteClass pte) (pteMgroup pte) ctx

/-- A plot's read reaches the caches (R265). -/
def State.touchRead (s : State) (p dpa pte ctx : Nat) : State :=
  if !cacheable dpa pte then s
  else
    let h := s.l1Home p dpa
    if (s.l1State h dpa).isSome then s.l1Touch h dpa
    else
      let miss := (s.l2Ensure dpa (pteGrain pte)).2
      let s1 := s.serveRead h dpa (pteGrain pte)
      if miss then s1.servePool dpa pte ctx else s1

/-- A plot's write takes the grain to M (R265). -/
def State.touchWrite (s : State) (p dpa pte ctx : Nat) : State :=
  if !cacheable dpa pte then s
  else
    let h := s.l1Home p dpa
    let s1 := match s.l1State h dpa with
      | some .m => s.l1Touch h dpa
      | some .e => s.l1Set h dpa (s.grainOf dpa (pteGrain pte)) .m
      | _ =>
        let miss := (s.l2Ensure dpa (pteGrain pte)).2
        let t := s.serveWrite h dpa (pteGrain pte)
        if miss then t.servePool dpa pte ctx else t
    s1.l2Dirty dpa ctx

/-- A write of a context is performed at the home slice, which takes the grain for itself; the line is dirty under the context's
owner tag (R269, R362). DEDUCED: log entry 64. -/
def State.homeWrite (s : State) (dpa pte ctx : Nat) : State :=
  if !cacheable dpa pte then s
  else
    let miss := (s.l2Ensure dpa (pteGrain pte)).2
    let t := s.serveHome dpa (pteGrain pte)
    (if miss then t.servePool dpa pte ctx else t).l2Dirty dpa ctx

/-- Some byte of a range of memory is poisoned (R361). -/
def State.rangePoisoned (s : State) (dpa n : Nat) : Bool := (List.range n).any (fun i => s.poisoned (dpa + i))

/-- The bytes a group reads at a place: the team's own buffered bytes ahead of memory (R189). -/
def State.loadElem (s : State) (gid : Nat) (addr : DWord) (pl : Place) (n : Nat) : List Byte :=
  let g := s.group gid
  match pl with
  | .sh off => (List.range n).map (fun i => tabGet 0 (s.team g.team).shmem (off + i))
  | .mem dpa _ =>
    if g.pgc then s.readMem dpa n
    else (List.range n).map (fun i =>
      match cbByte (s.team g.team) (addr.toNat + i) with
      | some b => b
      | none => s.readByte (dpa + i))

/-- CRC-64/ECMA-182 (R369) of one more byte. -/
def crc64Byte (c : BitVec 64) (b : Byte) : BitVec 64 :=
  (List.range 8).foldl (fun (r : BitVec 64) _ => if r.getLsbD 63 then (r <<< 1) ^^^ 0x42F0E1EBA9EA3693 else r <<< 1)
    (c ^^^ (b.zeroExtend 64 <<< 56))

/-- One record of the signature: address, size with bit 15 for an atomic, data (R369). -/
def crc64Record (addr : Nat) (n : Nat) (atomic : Bool) (data : List Byte) : BitVec 64 :=
  (natBytes 8 addr ++ natBytes 2 (n + if atomic then 0x8000 else 0) ++ data).foldl crc64Byte 0

/-- Adds a record to a paired team's signature. -/
def State.sign (s : State) (tid addr n : Nat) (atomic : Bool) (data : List Byte) : State :=
  s.modTeam tid (fun t => if t.paired then { t with sig := t.sig + crc64Record addr n atomic data } else t)

/-- A store to the watched word wakes the team's mwait (R176). -/
def State.wakeWord (s : State) (tid addr n : Nat) : State :=
  (s.team tid).groups.foldl (fun t g =>
    match (t.group g).hold with
    | some (.mwait d a r _ nx l) =>
      if a.toNat < addr + n ∧ addr < a.toNat + 8 then
        (t.modGroup g (fun y => { y with hold := some (.mwait d a r true nx l) })).afterOnce 0 .mwaitWake { a := g }
      else t
    | _ => t) s

/-- Sets or clears the reference tags of the OBJ words that `n` bytes from a DPA touch (R296). -/
def State.tagWords (s : State) (dpa n : Nat) (on : Bool) : State :=
  (List.range n).foldl (fun t i => t.writeDesc (dpa + i) (descSetTag (t.readDesc (dpa + i)) ((dpa + i) % 64 / 8) on)) s

/-- Writes one element at once (R286): shared memory, the L1 for a private object or a team's atomic, memory itself for the PGC.
`tag` for a tagged rst to an object word. -/
def State.storeNow (s : State) (gid : Nat) (addr : DWord) (pl : Place) (bs : List Byte) (tag : Bool) : State :=
  let g := s.group gid
  match pl with
  | .sh off =>
    (s.modTeam g.team (fun t => { t with shmem := ((List.range bs.length).zip bs).foldl (fun m p => tabSet 0 m (off + p.1) p.2) t.shmem })).wakeWord
      g.team addr.toNat bs.length
  | .mem dpa pte =>
    if g.pgc then (s.ownHome dpa).storeMem dpa bs
    else
      let s1 := (s.touchWrite g.plot dpa pte g.ctx).storeMem dpa bs
      (if pteFmt pte = 2 then s1.tagWords dpa bs.length tag else s1).wakeWord g.team addr.toNat bs.length

/-- The object that a tagged base names is private to the group's team. -/
def State.refPrivate (s : State) (gid : Nat) (ref : Option DWord) : Bool :=
  let g := s.group gid
  match ref with
  | none => false
  | some h => let y := s.headerAt g.plot g.ctx h.toNat; privateTo (s.team g.team) h.toNat y.2.2

/-! ## Whole instructions (R200) -/

/-- An element of an access: index, lane, address, bytes. -/
structure Elem where
  k : Nat
  lane : Nat
  addr : DWord
  n : Nat
  deriving DecidableEq, Repr, Inhabited

/-- Checks every included element before any is performed (R200). Answers the failure to report and every element's place. -/
def State.checkElems (s : State) (gid : Nat) (ref : Option DWord) (u : Use) (scope : Option Nat) (fmt : Bool) :
    List Elem → State × Option Failure × List (Elem × Place)
  | [] => (s, none, [])
  | e :: t =>
    let x := s.checkElem gid ref e.addr e.n u scope fmt
    let f := x.2.1.map (fun y => { y with at? := some (e.k, e.lane) })
    let r := x.1.checkElems gid ref u scope fmt t
    (r.1, worseOf f r.2.1, (e, x.2.2) :: r.2.2)

end Sys2Proof.Machine
end

