-- ==== Sys2Proof/Machine/Addr.lean ====
section
/-! DEFINITION. The unit at issue and what it names: the group or PGC whose turn it is, the clause, the prefix, the included
lanes (R46, R76, R77), operand values (R70), the captured operands of a variable-latency word (R193, R342) and the addresses
its elements have (R187, R188, R197, R207, R218). -/

namespace Sys2Proof.Machine

abbrev Result := Host.Outcome State Fault Refusal

/-! ## The unit at issue -/

/-- CYCLE of a plot (R19). -/
def State.plotCycle (s : State) (p : Nat) : Nat := s.cycle - (s.plot p).cycleBase

/-- The group whose slot a plot's cycle is (R46); for unit 384 the PGC that serves. -/
def State.slotGroup (s : State) (p : Nat) : Option Nat :=
  if p = 384 then (if s.pgc.takeover.isSome then none else some s.pgc.serving)
  else ((s.plot p).slots.getD (s.plotCycle p % 8) none)

/-- The issuing unit: a group, a copy of its state, and the clause in progress. -/
structure Issuer where
  gid : Nat
  g : Group
  c : Clause
  deriving DecidableEq, Repr, Inhabited

/-- The unit whose turn it is, when it has a clause in progress. -/
def State.issuer? (s : State) : Option Issuer :=
  match s.todo with
  | [] => none
  | p :: _ =>
    match s.slotGroup p with
    | none => none
    | some gid =>
      match tabFind s.groups gid with
      | none => none
      | some g => g.clause.map (fun c => { gid := gid, g := g, c := c })

/-- HDR.LEN + 1 (R67). -/
def hdrWords (h : Word) : Nat := fld h.toNat 28 4 + 1
def hdrWait (h : Word) : BitVec 12 := h.extractLsb' 16 12
/-- HDR.SETA (0) or HDR.SETB (1). -/
def hdrSet (h : Word) (sel : Nat) : Nat := if sel = 0 then fld h.toNat 12 4 else fld h.toNat 8 4
def hdrPrio (h : Word) : Nat := fld h.toNat 0 8

def Issuer.pfx (u : Issuer) : Prefix := u.c.pfx.getD {}
def Issuer.hasPfx (u : Issuer) : Bool := u.c.pfx.isSome
/-- Lanes of the bundle. -/
def Issuer.lanes (u : Issuer) : Mask := u.c.lanes
/-- Bundle lanes included by PFX.K (R77). -/
def Issuer.incl (u : Issuer) : Mask :=
  if u.pfx.k = 0 then u.c.lanes else u.c.lanes &&& u.g.readK u.c.lanes u.pfx.k.toNat
/-- TR.WORD: the word, or its XPFX (R78, R348). -/
def Issuer.word (u : Issuer) : Nat := if u.hasPfx then u.c.idx - 1 else u.c.idx
/-- Address of the word at issue (R68). -/
def Issuer.addr (u : Issuer) : DWord := u.c.addr + BitVec.ofNat 64 (4 * (u.c.idx + 1))
/-- The header that follows the clause (R68, R170). -/
def Issuer.nextHeader (u : Issuer) : DWord := u.c.addr + BitVec.ofNat 64 (4 * (u.c.words.length + 1))
/-- The flag that a word's flag select names (R57, R81). -/
def Issuer.flagOf (u : Issuer) (i : Instr) : Option Nat := (flagSel i).map (hdrSet u.c.hdr)
/-- Value of an s register. -/
def Issuer.sv (u : Issuer) (n : BitVec 6) : DWord := (u.g.readS n.toNat).val
def Issuer.sreg (u : Issuer) (n : BitVec 6) : SReg := u.g.readS n.toNat
/-- The word's literals and itself are the last of the clause. -/
def Issuer.isLast (u : Issuer) (i : Instr) : Bool := decide (u.c.idx + wordCount i = u.c.words.length)

/-! ## Operand values (R70, R71, R134) -/

/-- Element (r, c) of an operand in a lane, as the bits of its registers, the lowest register lowest. An s register gives its
64 bits to a two-register element and its low 32 bits to any other. -/
def Group.elem (g : Group) (o : Opnd) (r c l : Nat) : Nat :=
  if o.isV then
    (List.range o.w).foldr (fun j acc => (laneOf (g.readV (o.code + 16 * r + o.w * c + j)) l).toNat + 2 ^ 32 * acc) 0
  else (let v := (g.readS (o.code - 96)).val.toNat; if o.w = 1 then v % 2 ^ 32 else v)

/-! ## Captured operands (R193, R342) -/

/-- The registers of data or operand of a word, one list of 64 lanes each, element by element. -/
def Group.dataLists (g : Group) (o : Opnd) : List (List Word) :=
  if o.isV then o.regs.map g.readV
  else
    let v := (g.readS (o.code - 96)).val.toNat
    (List.range o.count).map (fun j => List.replicate 64 (BitVec.ofNat 32 (v / 2 ^ (32 * (j % o.w)))))

/-- The offset of each lane: 64 bits for a pair, otherwise a 32-bit value (R188, R202, R218). -/
def Group.offsets (g : Group) (o : Opnd) : List DWord := (List.range 64).map (fun l => BitVec.ofNat 64 (g.elem o 0 0 l))

/-- What a variable-latency word or object form carries with it. DEDUCED: log entry 14. -/
def Issuer.capture (u : Issuer) (i : Instr) : MemOp :=
  let base : MemOp := { word := i, pfx := u.pfx, hasPfx := u.hasPfx, clause := u.c.addr, idx := u.word, flag := u.flagOf i,
                        lanes := u.incl, bundle := u.c.lanes }
  match laneForm i with
  | some l =>
    let sOnly := fun (o : Opnd) => if o.isV then [] else [u.g.readS (o.code - 96)]
    { base with
      src := (l.base.toList.map u.g.readS) ++ l.srcs.flatMap sOnly
      offs := match l.srcs with | o :: _ => u.g.offsets o | [] => []
      data := match l.data with | some o => u.g.dataLists o | none => []
      descs := match i, l.data with
        | .vstf .., some o => if o.isV then o.regs.flatMap (fun r => (List.range 4).map (u.g.readDesc r)) else []
        | _, _ => []
      cmp := match l.fourth u.pfx with | some o => (u.g.dataLists o).getD 0 [] | none => [] }
  | none =>
    match uniForm i with
    | some f => { base with src := f.sr.map (fun n => u.g.readS n.toNat) }
    | none => base

/-! ## Addresses -/

/-- Bytes of one element of a memory form (R190, R203, R207). -/
def elemBytes : Instr → Nat
  | .vldB8 .. | .vldI8 .. | .vstB8 .. => 1
  | .vldB16 .. | .vldI16 .. | .vstB16 .. => 2
  | .vldB64 .. | .vstB64 .. | .vatomAddN64 .. | .satom .. | .rld .. | .rst .. | .mwait .. => 8
  | .vldB128 .. | .vstB128 .. => 16
  | .sld _ _ _ w _ _ _ => 2 ^ w.toNat
  | .sst _ _ _ w _ _ => 2 ^ w.toNat
  | _ => 4

/-- Elements of the block of a lane memory form. -/
def elemCount (i : Instr) : Nat :=
  match laneForm i with
  | some l =>
    match i with
    | .vatomAddN32 .. | .vatomAddF32 .. | .vatomMinI32 .. | .vatomMaxI32 .. | .vatomMinN32 .. | .vatomMaxN32 .. | .vatomAnd ..
    | .vatomOr .. | .vatomXor .. | .vatomXchg .. | .vatomCas .. | .vatomAddN64 .. => 1
    | _ => match l.dst with
      | some o => o.rows * o.cols
      | none => match l.data with | some o => o.rows * o.cols | none => 1
  | none => 1

/-- The shared-tile id that a tile form names. -/
def tileOf : Instr → Option Nat
  | .vldt _ _ _ t _ | .vstt _ _ _ t _ => some t.toNat
  | _ => none

/-- The cycle in which the register-operation of a data register enters the datapath (R48); 0 for a word without any. -/
def MemOp.entryOf (o : MemOp) (j : Nat) : Nat := o.entries.getD j (o.entries.getLast?.getD 0)

/-- The captured data and descriptors of a register whose operation has not entered the datapath by cycle `c` follow the register (R193).
DEDUCED: log entry 14. -/
def MemOp.recapture (g : Group) (c : Nat) (o : MemOp) : MemOp :=
  match laneForm o.word with
  | none => o
  | some l =>
    let late := fun (j : Nat) => decide (c < o.entryOf j)
    { o with
      data := match l.data with
        | some d => (o.data.zip (List.range o.data.length)).map (fun e => if late e.2 then (g.dataLists d).getD e.2 e.1 else e.1)
        | none => o.data
      descs := match o.word, l.data with
        | .vstf .., some d => if d.isV then (o.descs.zip (List.range o.descs.length)).map (fun e =>
            if late (e.2 / 4) then g.readDesc (d.regs.getD (e.2 / 4) 0) (e.2 % 4) else e.1) else o.descs
        | _, _ => o.descs
      cmp := match l.fourth o.pfx with
        | some q => if late (o.entries.length - 1) then (g.dataLists q).getD 0 [] else o.cmp
        | none => o.cmp }

/-- Registers of a group have been written: the operations that have still to read them take the new values (R193). DEDUCED: log entry 14. -/
def Group.recapture (g : Group) (c : Nat) : Group := { g with ops := g.ops.map (fun e => (e.1, e.2.recapture g c)) }

/-- Base value of an operation: the first s register it captured. -/
def MemOp.base (o : MemOp) : SReg := o.src.getD 0 {}
/-- The granule pitch value of vldf and vstf (R195). -/
def MemOp.pitch (o : MemOp) : DWord := (o.src.getD 1 {}).val

/-- Address of element k in a lane (R188, R197, R202); for a tile form the offset in the tile (R218). -/
def MemOp.laneAddr (o : MemOp) (k l : Nat) : DWord :=
  let off := o.offs.getD l 0
  match o.word with
  | .vldf .. | .vstf .. =>
    o.base.val + BitVec.ofNat 64 ((4 * k + l / 16) * (fld o.pitch.toNat 0 15 * 64) + 4 * (l % 16))
  | .vldt .. | .vstt .. => BitVec.ofNat 64 (off.toNat % 2 ^ 32 + 4 * k * 64)
  | .vatomAddN64 .. => o.base.val + off
  | i => o.base.val + (off.setWidth 32).signExtend 64 + BitVec.ofNat 64 (k * elemBytes i * 64)

/-- Address of a uniform memory form (R205, R207). -/
def MemOp.uniAddr (o : MemOp) : DWord :=
  match o.word with
  | .sld _ _ _ _ _ _ c => o.base.val + ((o.src.getD 1 {}).val <<< c.toNat)
  | .rld _ _ _ _ c => o.base.val + ((o.src.getD 1 {}).val <<< c.toNat)
  | .sst _ _ _ _ _ c => (o.src.getD 1 {}).val + ((o.src.getD 2 {}).val <<< c.toNat)
  | .rst _ _ _ _ c => (o.src.getD 1 {}).val + ((o.src.getD 2 {}).val <<< c.toNat)
  | .satom _ _ _ _ p _ => if p = 7 then (o.src.getD 1 {}).val else o.base.val
  | .mwait _ _ i => (o.src.getD 1 {}).val + i.setWidth 64
  | _ => o.base.val

/-- The base register of a memory form, whose tag makes the access an object access (R201). -/
def MemOp.ref (o : MemOp) : Option DWord :=
  let b := match o.word with
    | .sst .. | .rst .. | .mwait .. => o.src.getD 1 {}
    | .satom _ _ _ _ p _ => if p = 7 then o.src.getD 1 {} else o.base
    | .vldt .. | .vstt .. => {}
    | _ => o.base
  if b.tag then some b.base else none

/-- Registers per element of the data of a store or an atomic. -/
def dataWidth (i : Instr) : Nat := match laneForm i with | some l => (match l.data with | some o => o.w | none => 1) | none => 1

/-- The `n` bytes of element k of lane l of a store or an atomic (R190, R203, R207); for rst of a reference, its base (R209). -/
def MemOp.elemData (o : MemOp) (k l n : Nat) : List Byte :=
  if isLane o.word then
    let w := dataWidth o.word
    ((List.range w).flatMap (fun j => natBytes 4 (laneOf (o.data.getD (k * w + j) []) l).toNat)).take n
  else
    match o.word with
    | .satom _ _ _ _ p _ => natBytes n (o.src.getD (if p = 7 then 2 else 1) {}).val.toNat
    | .rst .. => natBytes n (let r := o.src.getD 0 {}; (if r.tag then r.base else r.val).toNat)
    | .svget .. => natBytes 4 (laneOf (o.data.getD 0 []) k).toNat ++ natBytes 4 (laneOf (o.data.getD 1 []) k).toNat
    | _ => natBytes n (o.src.getD 0 {}).val.toNat

/-- Scope of an atomic (R74, R205). -/
def atomicScope : Instr → Option Nat
  | .vatomAddN32 _ _ _ _ _ c _ | .vatomAddF32 _ _ _ _ _ c _ | .vatomMinI32 _ _ _ _ _ c _ | .vatomMaxI32 _ _ _ _ _ c _
  | .vatomMinN32 _ _ _ _ _ c _ | .vatomMaxN32 _ _ _ _ _ c _ | .vatomAnd _ _ _ _ _ c _ | .vatomOr _ _ _ _ _ c _
  | .vatomXor _ _ _ _ _ c _ | .vatomXchg _ _ _ _ _ c _ | .vatomCas _ _ _ _ _ c _ | .vatomAddN64 _ _ _ _ _ c _ => some c.toNat
  | .satom _ _ _ c _ _ => some c.toNat
  | _ => none

/-- The tile that an operation names, as the plot's table holds it. -/
def State.tileAt (s : State) (p t : Nat) : Option Tile := tabFind (s.plot p).tiles t

/-- A team's tile: in the plot's table, or saved with the team (R352). -/
def State.teamTile (s : State) (p tid t : Nat) : Option Tile :=
  let saved := ((s.plot p).savedTiles.find? (fun e => decide (e.1 = t) && decide (e.2.team = tid))).map (fun e => e.2)
  match s.tileAt p t with
  | some e => if e.team = tid then some e else saved
  | none => saved

/-- The address of the shared window (R187). -/
def sharedWindow : DWord := 0xFF00000000000000

/-- Every element of an access, in the order of k and then lane. A tile form's elements are at their shared offsets. DEDUCED: log entry 26. An
outstanding tile form uses the offset that its tile has when it is performed. DESIGN CHOICE: log entry 96. -/
def State.opElems (s : State) (gid : Nat) (o : MemOp) : List Elem :=
  if isLane o.word then
    let n := elemBytes o.word
    let shift : DWord := match tileOf o.word with
      | some t => match s.teamTile (s.group gid).plot (s.group gid).team t with
        | some e => sharedWindow + BitVec.ofNat 64 (e.off * 64)
        | none => sharedWindow
      | none => 0
    (List.range (elemCount o.word)).flatMap (fun k => (laneList o.lanes).map (fun l =>
      { k := k, lane := l, addr := shift + o.laneAddr k l, n := n }))
  else [{ k := 0, lane := 0, addr := o.uniAddr, n := elemBytes o.word }]

end Sys2Proof.Machine
end

