-- ==== Sys2Proof/Machine/Flags.lean ====
section
/-! DEFINITION. Scalar formats, rounding and the FPSTAT exceptions (R96-R106): every float result of the device is an exact
value rounded once by `deliver`, which also computes the exception bits. -/

namespace Sys2Proof.Machine

/-! ## FPSTAT (R102) -/

abbrev Fp := BitVec 6
def fpInvalid : Fp := 1
def fpDivzero : Fp := 2
def fpOverflow : Fp := 4
def fpUnderflow : Fp := 8
def fpInexact : Fp := 16
def fpSaturated : Fp := 32

/-! ## Formats (R96, R106) -/

/-- A binary format: exponent bits, bias, fraction bits, and how the highest codes are used. -/
structure Fmt where
  eb : Nat
  bias : Nat
  fb : Nat
  /-- the format encodes infinities -/
  hasInf : Bool := true
  /-- the format encodes NaNs -/
  hasNan : Bool := true
  deriving DecidableEq, Repr

def f64 : Fmt := { eb := 11, bias := 1023, fb := 52 }
def f32 : Fmt := { eb := 8, bias := 127, fb := 23 }
def bf16 : Fmt := { eb := 8, bias := 127, fb := 7 }
def f16 : Fmt := { eb := 5, bias := 15, fb := 10 }
def e5m2 : Fmt := { eb := 5, bias := 15, fb := 2 }
def e4m3 : Fmt := { eb := 4, bias := 7, fb := 3, hasInf := false }
def fp4 : Fmt := { eb := 2, bias := 1, fb := 1, hasInf := false, hasNan := false }
def a96 : Fmt := { eb := 15, bias := 16383, fb := 80 }

/-- An exact value: ±m·2^e, an infinity, or a NaN (signalling or quiet). Zero keeps its sign. -/
inductive Val where
  | nan (sig : Bool)
  | inf (neg : Bool)
  | fin (neg : Bool) (m : Nat) (e : Int)
  deriving DecidableEq, Repr, Inhabited

/-- The value of a code (R96, R98, R99). -/
def unpack (f : Fmt) (bits : Nat) : Val :=
  let neg := decide (bits / 2 ^ (f.eb + f.fb) % 2 = 1)
  let e := bits / 2 ^ f.fb % 2 ^ f.eb
  let m := bits % 2 ^ f.fb
  if f.hasInf && decide (e = 2 ^ f.eb - 1) then
    (if m = 0 then .inf neg else .nan (decide (m / 2 ^ (f.fb - 1) = 0)))
  else if f.hasNan && !f.hasInf && decide (e = 2 ^ f.eb - 1) && decide (m = 2 ^ f.fb - 1) then .nan false
  else if e = 0 then .fin neg m (1 - (f.bias : Int) - f.fb)
  else .fin neg (2 ^ f.fb + m) ((e : Int) - f.bias - f.fb)

def signBit (f : Fmt) (neg : Bool) : Nat := if neg then 2 ^ (f.eb + f.fb) else 0

/-- Canonical NaNs (R99). -/
def canonNan (f : Fmt) : Nat :=
  if f.hasInf then (2 ^ f.eb - 1) * 2 ^ f.fb + 2 ^ (f.fb - 1) else if f.hasNan then 2 ^ (f.eb + f.fb) - 1 else 0
/-- An infinity of a format that has one. -/
def infCode (f : Fmt) (neg : Bool) : Nat := signBit f neg + (2 ^ f.eb - 1) * 2 ^ f.fb
/-- Code of the largest finite magnitude (R96). -/
def maxMag (f : Fmt) : Nat :=
  if f.hasInf then (2 ^ f.eb - 1) * 2 ^ f.fb - 1 else if f.hasNan then 2 ^ (f.eb + f.fb) - 2 else 2 ^ (f.eb + f.fb) - 1
def maxCode (f : Fmt) (neg : Bool) : Nat := signBit f neg + maxMag f

/-! ## Rounding (R100) -/

/-- Rounding modes. -/
inductive RM where
  | rne | rtz | rdn | rup | rna
  deriving DecidableEq, Repr

/-- PFX.RM and its default (R76, R101). -/
def rmOf (code : Nat) (dflt : RM) : RM :=
  match code with
  | 1 => .rne | 2 => .rtz | 3 => .rdn | 4 => .rup | 5 => .rna | _ => dflt

/-- m / 2^k rounded to a whole number by a mode, k ≥ 0, for a magnitude of a sign; and whether it was inexact. -/
def roundBits (rm : RM) (neg : Bool) (m k : Nat) : Nat × Bool :=
  let q := m / 2 ^ k
  let r := m % 2 ^ k
  if r = 0 then (q, false)
  else
    let up := match rm with
      | .rne => decide (2 ^ k < 2 * r) || (decide (2 * r = 2 ^ k) && decide (q % 2 = 1))
      | .rna => decide (2 ^ k ≤ 2 * r)
      | .rtz => false
      | .rdn => neg
      | .rup => !neg
    (if up then q + 1 else q, true)

/-- m·2^e rounded to a multiple of 2^q: the multiple, and whether it was inexact. -/
def roundTo (rm : RM) (neg : Bool) (m : Nat) (e q : Int) : Nat × Bool :=
  if q ≤ e then (m * 2 ^ (e - q).toNat, false) else roundBits rm neg m (q - e).toNat

/-- The exponent of the highest bit of m·2^e, for m ≠ 0. -/
def topExp (m : Nat) (e : Int) : Int := e + Nat.log2 m

/-- n·2^q as the magnitude code of a format, for a value of the format's grid: n < 2^(fb+1). -/
def magCode (f : Fmt) (n : Nat) (q : Int) : Nat :=
  if n < 2 ^ f.fb then n else ((q + f.fb + f.bias).toNat) * 2 ^ f.fb + (n - 2 ^ f.fb)

/-- What an overflow delivers (R105). -/
def overflowCode (f : Fmt) (rm : RM) (sat neg : Bool) : Nat × Fp :=
  let away := match rm with
    | .rne => true | .rna => true | .rtz => false | .rdn => neg | .rup => !neg
  let fl := fpOverflow ||| fpInexact
  if !f.hasNan then (maxCode f neg, fl ||| fpSaturated)
  else if sat then (maxCode f neg, fl ||| fpSaturated)
  else if away then (if f.hasInf then infCode f neg else canonNan f, fl)
  else (maxCode f neg, fl)

/-- Rounds an exact value to a format once (R100, R102, R105). A NaN becomes the canonical NaN without a flag: the operation
that met it has set INVALID. -/
def deliver (f : Fmt) (rm : RM) (sat : Bool) : Val → Nat × Fp
  | .nan _ => if f.hasNan then (canonNan f, 0) else (0, fpInvalid)
  | .inf neg =>
    if f.hasInf then (infCode f neg, 0)
    else if f.hasNan then (if sat then (maxCode f neg, fpSaturated) else (canonNan f, 0))
    else (maxCode f neg, fpSaturated)
  | .fin neg m e =>
    if m = 0 then (signBit f neg, 0)
    else
      let emin : Int := 1 - (f.bias : Int)
      let te := topExp m e
      -- rounding with an unbounded exponent
      let un := roundTo rm neg m e (te - f.fb)
      let big := if un.1 = 2 ^ (f.fb + 1) then te + 1 else te
      let bigMag : Nat := if un.1 = 2 ^ (f.fb + 1) then 2 ^ f.fb else un.1
      let maxE : Int := ((maxMag f / 2 ^ f.fb : Nat) : Int) - f.bias
      let maxM := maxMag f % 2 ^ f.fb + 2 ^ f.fb
      if maxE < big ∨ (big = maxE ∧ maxM < bigMag) then overflowCode f rm sat neg
      else
        let q : Int := if te - f.fb < emin - f.fb then emin - f.fb else te - f.fb
        let r := roundTo rm neg m e q
        let n := if r.1 = 2 ^ (f.fb + 1) then 2 ^ f.fb else r.1
        let q1 := if r.1 = 2 ^ (f.fb + 1) then q + 1 else q
        let fl : Fp := if r.2 then (if big < emin then fpInexact ||| fpUnderflow else fpInexact) else 0
        (signBit f neg + magCode f n q1, fl)

/-! ## Exact operations (R98, R99) -/

def Val.isNan : Val → Bool | .nan _ => true | _ => false
def Val.isSig : Val → Bool | .nan s => s | _ => false
def Val.neg : Val → Val
  | .nan s => .nan s
  | .inf n => .inf (!n)
  | .fin n m e => .fin (!n) m e
def Val.sign : Val → Bool | .nan _ => false | .inf n => n | .fin n _ _ => n
def Val.isZero : Val → Bool | .fin _ m _ => decide (m = 0) | _ => false
def Val.isInf : Val → Bool | .inf _ => true | _ => false

/-- INVALID when an operand is a signalling NaN. -/
def sigFl (l : List Val) : Fp := if l.any Val.isSig then fpInvalid else 0

/-- Signed mantissa at a common exponent. -/
def sm (neg : Bool) (m : Nat) (e base : Int) : Int :=
  let v : Int := ((m * 2 ^ (e - base).toNat : Nat) : Int)
  if neg then -v else v

def minInt (a b : Int) : Int := if a ≤ b then a else b

/-- Exact sum (R98); the sign of an exact zero depends on the rounding mode. -/
def addV (rm : RM) (a b : Val) : Val × Fp :=
  match a, b with
  | .fin n1 m1 e1, .fin n2 m2 e2 =>
    let e := minInt e1 e2
    let t := sm n1 m1 e1 e + sm n2 m2 e2 e
    if t = 0 then
      (.fin (if m1 = 0 ∧ m2 = 0 ∧ n1 = n2 then n1 else decide (rm = .rdn)) 0 0, 0)
    else (.fin (decide (t < 0)) t.natAbs e, 0)
  | .nan _, _ => (.nan false, sigFl [a, b])
  | _, .nan _ => (.nan false, sigFl [a, b])
  | .inf n1, .inf n2 => if n1 = n2 then (.inf n1, 0) else (.nan false, fpInvalid)
  | .inf n, .fin .. => (.inf n, 0)
  | .fin .., .inf n => (.inf n, 0)

/-- Exact product (R99). -/
def mulV (a b : Val) : Val × Fp :=
  match a, b with
  | .fin n1 m1 e1, .fin n2 m2 e2 => (.fin (n1 != n2) (m1 * m2) (e1 + e2), 0)
  | .nan _, _ => (.nan false, sigFl [a, b])
  | _, .nan _ => (.nan false, sigFl [a, b])
  | .inf n1, .inf n2 => (.inf (n1 != n2), 0)
  | .inf n1, .fin n2 m _ => if m = 0 then (.nan false, fpInvalid) else (.inf (n1 != n2), 0)
  | .fin n1 m _, .inf n2 => if m = 0 then (.nan false, fpInvalid) else (.inf (n1 != n2), 0)

/-- A × B + C, exact. 0 × ∞ is INVALID whatever C; a signalling C is INVALID too. -/
def fmaV (rm : RM) (a b c : Val) : Val × Fp :=
  let p := mulV a b
  if p.1.isNan then (.nan false, p.2 ||| sigFl [c])
  else addV rm p.1 c

/-- Quotient with a sticky last bit: enough for one rounding to any format (R101, R133). -/
def divV (a b : Val) : Val × Fp :=
  match a, b with
  | .nan _, _ => (.nan false, sigFl [a, b])
  | _, .nan _ => (.nan false, sigFl [a, b])
  | .inf _, .inf _ => (.nan false, fpInvalid)
  | .inf n1, .fin n2 _ _ => (.inf (n1 != n2), 0)
  | .fin n1 _ _, .inf n2 => (.fin (n1 != n2) 0 0, 0)
  | .fin n1 m1 e1, .fin n2 m2 e2 =>
    if m2 = 0 then (if m1 = 0 then (.nan false, fpInvalid) else (.inf (n1 != n2), fpDivzero))
    else if m1 = 0 then (.fin (n1 != n2) 0 0, 0)
    else
      let k := 70 + Nat.log2 m2
      let q := m1 * 2 ^ k / m2
      let r := m1 * 2 ^ k % m2
      (.fin (n1 != n2) (2 * q + if r = 0 then 0 else 1) (e1 - e2 - k - 1), 0)

/-- Floor of the square root, by Newton steps from above. -/
def isqrtLoop : Nat → Nat → Nat → Nat
  | 0, _, x => x
  | n + 1, v, x =>
    let y := (x + v / x) / 2
    if y < x then isqrtLoop n v y else x
def isqrt (v : Nat) : Nat := if v = 0 then 0 else isqrtLoop (Nat.log2 v + 4) v (2 ^ (Nat.log2 v / 2 + 1))

/-- Square root with a sticky last bit (R133, R136). -/
def sqrtV (a : Val) : Val × Fp :=
  match a with
  | .nan _ => (.nan false, sigFl [a])
  | .inf false => (.inf false, 0)
  | .inf true => (.nan false, fpInvalid)
  | .fin n m e =>
    if m = 0 then (.fin n 0 0, 0)
    else if n then (.nan false, fpInvalid)
    else
      let k : Nat := if e % 2 = 0 then 140 else 141
      let v := m * 2 ^ k
      let r := isqrt v
      (.fin false (2 * r + if r * r = v then 0 else 1) ((e - k) / 2 - 1), 0)

/-- Order of two values that are not NaN: A < B. −0 and +0 compare equal (R131). -/
def ltV (a b : Val) : Bool :=
  match a, b with
  | .fin n1 m1 e1, .fin n2 m2 e2 =>
    let e := minInt e1 e2
    decide (sm n1 m1 e1 e < sm n2 m2 e2 e)
  | .inf n1, .inf n2 => n1 && !n2
  | .inf n, _ => n
  | _, .inf n => !n
  | _, _ => false
def eqV (a b : Val) : Bool := !a.isNan && !b.isNan && !ltV a b && !ltV b a

/-- vmin and vmax (R133): which operand is delivered; none for two NaNs. −0 orders below +0. -/
def pickMin (a b : Val) : Option Bool :=
  match a.isNan, b.isNan with
  | true, true => none
  | true, false => some false
  | false, true => some true
  | false, false =>
    if ltV a b then some true else if ltV b a then some false else some (a.sign || !b.sign)

/-- The smaller (or larger) of two codes of a format, with its flags (R133). -/
def minMaxCode (f : Fmt) (max : Bool) (a b : Nat) : Nat × Fp :=
  let x := unpack f a; let y := unpack f b
  let fl := sigFl [x, y]
  if x.isNan && y.isNan then (canonNan f, fl)
  else if x.isNan then (b, fl)
  else if y.isNan then (a, fl)
  else
    let first := match pickMin x y with | some t => t | none => true
    ((if first = max then b else a), fl)

/-- The comparisons of R73 on floats; INVALID on a signalling NaN (R131). -/
def cmpV (c : Nat) (a b : Val) : Bool :=
  let un := a.isNan || b.isNan
  match c with
  | 0 => !un && eqV a b
  | 1 => un || !eqV a b
  | 2 => !un && ltV a b
  | 3 => !un && !ltV b a
  | 4 => !un && ltV b a
  | 5 => !un && !ltV a b
  | 8 => un
  | 9 => !un
  | _ => false

/-- A value rounded to a whole number (R135): a zero takes the sign of the value. -/
def rintV (rm : RM) (v : Val) : Val × Fp :=
  match v with
  | .nan s => (.nan false, if s then fpInvalid else 0)
  | .inf n => (.inf n, 0)
  | .fin n m e => if 0 ≤ e then (.fin n m e, 0) else (.fin n (roundBits rm n m (-e).toNat).1 0, 0)

/-- A − floor(A), exact (R135). -/
def fracV (v : Val) : Val × Fp :=
  match v with
  | .nan s => (.nan false, if s then fpInvalid else 0)
  | .inf _ => (.nan false, fpInvalid)
  | .fin n m e =>
    if 0 ≤ e then (.fin false 0 0, 0)
    else
      let k := (-e).toNat
      let r := m % 2 ^ k
      (.fin false (if r = 0 then 0 else if n then 2 ^ k - r else r) e, 0)

/-! ## Conversions (R104, R105) -/

/-- Float to float. -/
def convF (src dst : Fmt) (rm : RM) (sat : Bool) (bits : Nat) : Nat × Fp :=
  let v := unpack src bits
  let r := deliver dst rm sat v
  (r.1, r.2 ||| sigFl [v])

/-- An exact value to an integer range, clamped; the result as an integer. A value that is clamped sets no INEXACT beside INVALID and
SATURATED, whatever fraction it loses. DESIGN CHOICE: log entry 89. -/
def convInt (rm : RM) (lo hi : Int) (v : Val) : Int × Fp :=
  match v with
  | .nan _ => (0, fpInvalid)
  | .inf n => (if n then lo else hi, fpInvalid ||| fpSaturated)
  | .fin n m e =>
    let r := if 0 ≤ e then (m * 2 ^ e.toNat, false) else roundBits rm n m (-e).toNat
    let i : Int := if n then -(r.1 : Int) else r.1
    if i < lo then (lo, fpInvalid ||| fpSaturated)
    else if hi < i then (hi, fpInvalid ||| fpSaturated)
    else (i, if r.2 then fpInexact else 0)

/-- An integer as an exact value. -/
def intV (i : Int) : Val := .fin (decide (i < 0)) i.natAbs 0

/-- An integer as the bits of a word of `n` bits. -/
def intBits (i : Int) (n : Nat) : Nat := (i % (2 ^ n : Int)).toNat

/-- Integer to narrower integer (R104). -/
def narrowInt (sat : Bool) (lo hi : Int) (n : Nat) (i : Int) : Int × Fp :=
  if sat then (if i < lo then (lo, fpSaturated) else if hi < i then (hi, fpSaturated) else (i, 0))
  else (if lo < 0 then sextInt (intBits i n) n else (intBits i n : Int), 0)

/-- A sum of exact values, without rounding (R147): INVALID for a signalling term, and for infinities of both signs among the terms, in
whatever order they stand. -/
def sumV (rm : RM) (l : List Val) : Val × Fp :=
  (match l with
    | [] => .fin false 0 0
    | a :: t => t.foldl (fun acc v => (addV rm acc v).1) a,
   sigFl l ||| (if l.contains (.inf true) && l.contains (.inf false) then fpInvalid else 0))

end Sys2Proof.Machine
end

