-- ==== Sys2Proof/Machine/Checks.lean ====
section
/-! DEFINITION. What stops a word at issue: the checks of R85, R153, R199 and R242 in the order of their causes (`checks`), and
the conditions under which it stays in its slot, with the stall reason charged (`waits`; R48, R49, R57, R343, R406). -/

namespace Sys2Proof.Machine

/-! ## Stall reasons (R406) -/
def stFlagWait : Nat := 0
def stTile : Nat := 1
def stBarrier : Nat := 2
def stMwait : Nat := 3
def stIcache : Nat := 4
def stRegRow : Nat := 5
def stKmask : Nat := 6
def stMxe : Nat := 7
def stCommitFull : Nat := 8
def stPair : Nat := 9
def stFault : Nat := 10
def stGleaner : Nat := 11
def stNoGroup : Nat := 12
def stHalt : Nat := 13
def stPipe : Nat := 14
def stOther : Nat := 15

/-! ## Checks of a word without its addresses -/

def fail (cls cause : Nat) : Option Failure := some { cls := cls, cause := cause }
def ill (cause : Nat) : Option Failure := fail clsIllegal cause

/-- The first of several checks that fails. -/
def firstOf : List (Option Failure) → Option Failure
  | [] => none
  | some f :: _ => some f
  | none :: t => firstOf t

/-- A check: the failure unless the condition holds. -/
def needs (c : Bool) (f : Option Failure) : Option Failure := if c then none else f

/-- The word is illegal on a PGC (R154). -/
def pgcIllegal (i : Instr) : Bool :=
  match uniForm i with
  | some f => f.notPgc
  | none => true

/-- Causes 3 that depend on registers: row counts (R60, R61) and k of svinit (R255). -/
def dynCodes (u : Issuer) (i : Instr) : Bool :=
  match i with
  | .racq n => decide (u.g.rows + n.toNat ≤ 6)
  | .racqTry _ n => decide (u.g.rows + n.toNat ≤ 6)
  | .rrel n => decide (2 + n.toNat ≤ u.g.rows)
  | .svinit _ a _ _ => decide (1 ≤ (u.sv a).toNat) && decide ((u.sv a).toNat ≤ 128)
  | _ => true

/-- Causes 2 to 5 (R85). -/
def fieldCause (u : Issuer) (i : Instr) : Option Nat :=
  match laneForm i with
  | some l => l.cause u.pfx
  | none => if u.hasPfx then some 5 else if (staticCause i).isNone && !dynCodes u i then some 3 else staticCause i

/-- Causes 2 to 5 that the word alone shows, whatever its registers hold. -/
def wordCause (u : Issuer) (i : Instr) : Option Nat :=
  match laneForm i with
  | some l => l.cause u.pfx
  | none => if u.hasPfx then some 5 else staticCause i

/-- The team of the issuing group. -/
def State.uTeam (s : State) (u : Issuer) : Team := s.team u.g.team

/-- Special registers that `swr` may write (R102, R335). -/
def srWritable (n : Nat) : Bool := decide (n = 0x013) || decide (n = 0x101) || decide (n = 0x102) || decide (n = 0x104) || decide (n = 0x106)

/-- A register of the PGC's space read or written by a group, or TRAPREC outside a handler team (R180). -/
def srForbidden (s : State) (u : Issuer) (n : Nat) : Bool :=
  (decide (0x100 ≤ n) && decide (n < 0x200) && !u.g.pgc) || (decide (n = 0x020) && (u.g.pgc || (s.uTeam u).trapRec.isNone))

/-- Cause 11 (R85, R180, R182, R185): the form is not for this unit. DEDUCED: log entry 23. -/
def privBad (s : State) (u : Issuer) (i : Instr) : Bool :=
  let admin := (s.uTeam u).admin && !u.g.pgc
  match i with
  | .srd _ r => srForbidden s u r.toNat
  | .swr _ r => srForbidden s u r.toNat || !srWritable r.toNat
  | .tresReplay .. | .tresSkip .. | .tresKill .. => (s.uTeam u).trapRec.isNone
  | .tlbiRange c _ _ | .tlbiContext c _ _ => !u.g.pgc && !(admin && decide (c = 63))
  | .acntRead .. => !u.g.pgc && !admin
  | _ => match uniForm i with
    | some f => f.priv && !u.g.pgc
    | none => false

/-- Cause 13 (R153). -/
def tagBad (u : Issuer) (i : Instr) : Bool :=
  match uniForm i with
  | some f => f.tagged.any (fun n => !(u.sreg n).tag)
  | none => false

/-! ## Checks of addresses at issue (R199) -/

/-- The share of a team in bytes (R187). -/
def Team.shareBytes (t : Team) : Nat := t.shared * 4096

/-- DPAs that a PGC may access (R333). -/
def pgcWindow (s : State) (a : DWord) : Bool :=
  isHbm s a.toNat || (scratchOf a.toNat).isSome || isHost a.toNat || isPgcMem a.toNat

/-- Causes 14, 16 and 17 of one element of `n` bytes aligned to `al`. -/
def elemIssue (s : State) (u : Issuer) (a : DWord) (n al : Nat) : Option Failure :=
  if a.toNat % al ≠ 0 then some { cls := clsMisalign, cause := 14, addr := a }
  else if u.g.pgc then (if pgcWindow s a then none else some { cls := clsProt, cause := 16, addr := a })
  else
    match spaceOf a with
    | .virt _ => none
    | .outside => some { cls := clsProt, cause := 16, addr := a }
    | .shared off => if off + n ≤ (s.uTeam u).shareBytes then none else some { cls := clsBounds, cause := 17, addr := a }

/-- The failure to report among the elements of a lane form: least cause, then k, then lane (R200). -/
def worstElem : List (Option Failure) → Option Failure
  | [] => none
  | f :: t => worseOf f (worstElem t)

/-- Tile checks of vldt and vstt (R218). -/
def tileIssue (s : State) (u : Issuer) (o : MemOp) (t : Nat) : Option Failure :=
  let idx := (List.range (elemCount o.word)).flatMap (fun k => (laneList o.lanes).map (fun l => (k, l)))
  let bad := fun (f : Nat → Bool) (cls cause : Nat) => worstElem (idx.map (fun e =>
    let a := o.laneAddr e.1 e.2
    if f a.toNat then some ({ cls := cls, cause := cause, at? := some e, addr := a } : Failure) else none))
  let tile := s.tileAt u.g.plot t
  let mine := match tile with | some e => decide (e.team = u.g.team) | none => false
  let len := match tile with | some e => e.len * 64 | none => 0
  firstOf [bad (fun a => decide (a % 4 ≠ 0)) clsMisalign 14,
    needs mine (some { cls := clsTile, cause := 15, info := BitVec.ofNat 64 t }),
    bad (fun a => decide (len < a + 4)) clsBounds 17]

/-- Issue checks of a lane memory form. -/
def laneIssue (s : State) (u : Issuer) (i : Instr) : Option Failure :=
  let o := u.capture i
  match tileOf i with
  | some t => tileIssue s u o t
  | none =>
    match i with
    | .vldf .. | .vstf .. =>
      if o.base.val.toNat % 64 ≠ 0 then some { cls := clsMisalign, cause := 14, addr := o.base.val }
      else worstElem ((s.opElems u.gid o).map (fun e => (elemIssue s u e.addr 4 4).map (fun f => { f with at? := some (e.k, e.lane) })))
    | _ => worstElem ((s.opElems u.gid o).map (fun e => (elemIssue s u e.addr e.n e.n).map (fun f => { f with at? := some (e.k, e.lane) })))

/-- The team holds the plot's Sieve (R148, R256). -/
def holdsSieve (s : State) (u : Issuer) : Bool := decide ((s.plot u.g.plot).sieve.team = some u.g.team)

/-- Checks of tset (R215). -/
def tsetIssue (s : State) (u : Issuer) (t : Nat) (off len : DWord) : Option Failure :=
  let other := match s.tileAt u.g.plot t with | some e => decide (e.team ≠ u.g.team) | none => false
  firstOf [needs (decide (off.toNat % 64 = 0) && decide (len.toNat % 64 = 0) && decide (len ≠ 0)) (fail clsMisalign 14),
    needs (!other) (some { cls := clsTile, cause := 15, info := BitVec.ofNat 64 t }),
    needs (decide (off.toNat + len.toNat ≤ (s.uTeam u).shareBytes)) (fail clsBounds 17)]

/-- Checks of oinit (R164). -/
def oinitIssue (s : State) (u : Issuer) (a b : DWord) : Option Failure :=
  let n := fld b.toNat 16 20
  let t := s.uTeam u
  if a.toNat % 64 ≠ 0 then some { cls := clsMisalign, cause := 14, addr := a }
  else if b.toNat / 2 ^ 36 ≠ 0 ∨ n = 0 then some { cls := clsBounds, cause := 17, addr := a }
  else if a.toNat < t.arenaBase.toNat ∨ t.arenaLim.toNat < a.toNat + 64 * n then some { cls := clsBounds, cause := 17, addr := a }
  else none

/-- The destination of `pub` (R210); the PGC's is a DPA (R333). A destination outside virtual space is refused at issue. DESIGN CHOICE: log entry 107. -/
def pubIssue (s : State) (u : Issuer) (b : SReg) : Option Failure :=
  if b.val.toNat % 8 ≠ 0 then some { cls := clsMisalign, cause := 14, addr := b.val }
  else if u.g.pgc then (if pgcWindow s b.val then none else some { cls := clsProt, cause := 16, addr := b.val })
  else match spaceOf b.val with
    | .virt _ => none
    | _ => some { cls := clsProt, cause := 16, addr := b.val }

/-- The header that an object form names by the base of its tagged operand: headers are 64-byte aligned and lie in virtual space (R163,
R199, R295). DEDUCED: log entry 41. -/
def headerIssue (s : State) (u : Issuer) (h : DWord) : Option Failure :=
  if h.toNat % 64 ≠ 0 then some { cls := clsMisalign, cause := 14, addr := h }
  else if u.g.pgc then elemIssue s u h 8 8
  else match spaceOf h with
    | .virt _ => none
    | _ => some { cls := clsProt, cause := 16, addr := h }

/-- The address checks at issue of every form (R199). DESIGN CHOICE: tlbi's range has no alignment (log entry 97). -/
def addrIssue (s : State) (u : Issuer) (i : Instr) : Option Failure :=
  let block := fun (a : BitVec 6) (n : Nat) => elemIssue s u (u.sv a) n 64
  match i with
  | .sld .. | .sst .. | .satom .. | .rld .. | .rst .. =>
    elemIssue s u (u.capture i).uniAddr (elemBytes i) (elemBytes i)
  | .mwait .. => elemIssue s u (u.capture i).uniAddr 8 8
  | .callx _ a | .jmpx a =>
    if (u.sv a).toNat % 4 ≠ 0 then some { cls := clsMisalign, cause := 14, addr := u.sv a } else none
  | .launch _ a _ _ => block a 64
  | .cpy _ a _ | .cpyCe _ a _ _ | .mxd _ a _ | .pfh a _ => block a 64
  -- a count outside 1 to 64 completes at once and nothing is done (R224)
  | .cpyq _ a b _ => if 1 ≤ (u.sv b).toNat ∧ (u.sv b).toNat ≤ 64 then block a (64 * (u.sv b).toNat) else none
  | .pub _ b _ _ _ => pubIssue s u (u.sreg b)
  | .svget _ a _ _ =>
    firstOf [needs (decide ((u.sv a).toNat % 8 = 0)) (some { cls := clsMisalign, cause := 14, addr := u.sv a }),
      needs (holdsSieve s u) (fail clsTile 15), elemIssue s u (u.sv a) 0 8]
  | .vsieve .. => needs (holdsSieve s u) (fail clsTile 15)
  | .oinit _ a b => oinitIssue s u (u.sv a) (u.sv b)
  | .ofree a | .oreset a | .ostat _ a => headerIssue s u (u.sreg a).base
  | .tset t a b _ => tsetIssue s u t.toNat (u.sv a) (u.sv b)
  | .tdrop t | .tdropFree t =>
    needs (match s.tileAt u.g.plot t.toNat with | some e => decide (e.team = u.g.team) | none => false)
      (some { cls := clsTile, cause := 15, info := t.setWidth 64 })
  | .leaseInstall _ _ b | .leaseRead _ _ b => elemIssue s u (u.sv b) 32 1
  | .pmove _ a => elemIssue s u (u.sv a) 32 32
  | .psplit _ a b => worseOf (elemIssue s u (u.sv a) 8 8) (elemIssue s u (u.sv b) 256 256)
  | .bias _ a b =>
    firstOf [needs (decide ((u.sv a).toNat % 65536 = 0) && decide ((u.sv b).toNat % 65536 = 0)) (some { cls := clsMisalign, cause := 14, addr := u.sv a }),
      needs (isHbm s (u.sv a).toNat) (some { cls := clsProt, cause := 16, addr := u.sv a })]
  | _ => if isLane i && (flagSel i).isSome then laneIssue s u i else none

/-! ## Checks of the matrix forms (R242, R246) -/

/-- The parameter block of mxp (R239). -/
def Issuer.mxpBlock (u : Issuer) (a : BitVec 6) : Nat :=
  (List.range 4).foldr (fun j acc => (u.g.readS (a.toNat + j)).val.toNat + 2 ^ 64 * acc) 0

/-- Fields of the block. -/
def mxSlot (b : Nat) : Nat := fld b 0 3
def mxARow (b : Nat) : Nat := fld b 3 2
def mxBRow (b : Nat) : Nat := fld b 5 3
def mxM (b : Nat) : Nat := 4 * (fld b 8 6 + 1)
def mxN (b : Nat) : Nat := 4 * (fld b 14 5 + 1)
def mxTri (b : Nat) : Nat := fld b 20 2
def mxConst (b : Nat) : Nat := fld b 22 2
def mxDiag (b : Nat) : Int := sextInt (fld b 24 16) 16
def mxClass (b : Nat) : Nat := fld b 40 3
def mxVal (b : Nat) : Word := BitVec.ofNat 32 (fld b 64 32)
def mxSplit (b : Nat) : Bool := decide (fld b 128 1 = 1)
def mxNq (b : Nat) : Nat := fld b 129 2
def mxARank (b : Nat) : Nat := fld b 135 3
/-- B-source of part q: plot within its quad, rank. -/
def mxBSrc (b q : Nat) : Nat × Nat := (fld b (138 + 5 * q + 3) 2, fld b (138 + 5 * q) 3)

/-- Width of a cluster of a shape code in plots (R30). -/
def shapeWidth (sh : Nat) : Nat := match sh with | 0 => 1 | 1 => 2 | 2 => 4 | 3 => 2 | 4 => 6 | 5 => 2 | _ => 1
def shapeHeight (sh : Nat) : Nat := match sh with | 0 => 1 | 1 => 2 | 2 => 2 | 3 => 4 | 4 => 2 | 5 => 6 | _ => 1

/-- Cluster-relative plot index, part index and plot in its quad of a team (R244). -/
def State.relPlot (s : State) (t : Team) : Nat := t.ty * shapeWidth (s.cluster t.cluster).shape + t.tx
def State.partOf (s : State) (t : Team) : Nat := (t.ty / 2) * (shapeWidth (s.cluster t.cluster).shape / 2) + t.tx / 2
def inQuadOf (t : Team) : Nat := t.tx % 2 + 2 * (t.ty % 2)

/-- The issuing group is the A-source of a block (R245). -/
def isASource (s : State) (u : Issuer) (b : Nat) : Bool :=
  !mxSplit b || (decide (mxAPlot b = s.relPlot (s.uTeam u)) && decide (mxARank b = u.g.rank))
/-- The part of which the issuing group is the B-source. -/
def bSourcePart (s : State) (u : Issuer) (b : Nat) : Option Nat :=
  if !mxSplit b then some 0
  else
    let q := s.partOf (s.uTeam u)
    if q ≤ mxNq b ∧ mxBSrc b q = (inQuadOf (s.uTeam u), u.g.rank) then some q else none

/-- The format codes of a class (R109, R112). -/
def fmtClass (f : Nat) : Option Nat :=
  match f with
  | 0x20 => some 0 | 0x18 => some 1 | 0x10 => some 2 | 0x11 => some 2 | 0x01 => some 3 | 0x02 => some 3 | 0x08 => some 3
  | 0x09 => some 3 | 0x03 => some 4 | 0x0C => some 4 | _ => none

/-- Every field of the block lies within its values (cause 24; R239, R242). -/
def mxpFieldsOk (s : State) (u : Issuer) (b : Nat) : Bool :=
  let c := s.cluster (s.uTeam u).cluster
  let split := mxSplit b
  decide (b / 2 ^ 153 = 0) && decide (fld b 96 32 = 0) && decide (fld b 43 21 = 0) && decide (fld b 19 1 = 0)
  && decide (mxClass b ≤ 4) && decide (mxConst b ≠ 3) && decide (mxTri b ≠ 3) && decide (mxARow b ≤ 2) && decide (mxBRow b ≤ 4)
  && (decide (mxTri b ≠ 0) || (decide (mxConst b = 0) && decide (fld b 24 16 = 0) && decide (mxVal b = 0)))
  && (decide (mxConst b = 2) || decide (mxVal b = 0))
  && (if split then
        decide (mxNq b ≤ 2) && (List.range 3).all (fun q => decide (q ≤ mxNq b) || decide (mxBSrc b q = (0, 0)))
        && decide (c.shape ≠ 0) && decide (4 * (mxNq b + 1) ≤ shapeWidth c.shape * shapeHeight c.shape)
        && decide (mxAPlot b < shapeWidth c.shape * shapeHeight c.shape)
        && (isASource s u b || (bSourcePart s u b).isSome)
      else decide (fld b 129 63 = 0))

/-- Registers that the issuing group reads as the A-source and as a B-source (R240, R242). -/
def mxpARegs (s : State) (u : Issuer) (b : Nat) : List Nat :=
  if isASource s u b then (List.range (mxM b / 4)).map (fun k => 16 * mxARow b + k) else []
def mxpBRegs (s : State) (u : Issuer) (b : Nat) : List Nat :=
  if (bSourcePart s u b).isSome then (List.range (mxN b / 4)).map (fun k => 16 * mxBRow b + k) else []

/-- Checks 24, 12, 25, 26, 27 of mxp (R242). -/
def mxpIssue (s : State) (u : Issuer) (a : BitVec 6) : Option Failure :=
  let b := u.mxpBlock a
  let q := s.quad (plotQuad u.g.plot)
  let regs := mxpARegs s u b ++ mxpBRegs s u b
  let slot := tabFind q.slots (mxSlot b)
  let isB := (bSourcePart s u b).isSome
  let owned := match slot with | some x => decide (x.team = u.g.team) | none => false
  let fits := match slot with | some x => decide (mxM b ≤ 32 * x.tr) && decide (mxN b ≤ 32 * x.tc) | none => false
  firstOf [needs (mxpFieldsOk s u b) (ill 24),
    needs (regs.all (fun r => decide (r / 16 < u.g.rows))) (fail clsRegRow 12),
    needs (!isB || owned) (some { cls := clsTile, cause := 25, info := BitVec.ofNat 64 (mxSlot b) }),
    needs (!isB || fits) (fail clsBounds 26),
    needs (regs.all (fun r => (List.range 4).all (fun k => decide (fmtClass (descFmt (u.g.readDesc r k)) = some (mxClass b)))))
      (fail clsMxfmt 27)]

/-- Checks 24 and 25 of mxz (R246). -/
def mxzIssue (s : State) (u : Issuer) (i : Instr) : Option Failure :=
  let owned := fun (n : BitVec 3) => match tabFind (s.quad (plotQuad u.g.plot)).slots n.toNat with
    | some x => decide (x.team = u.g.team) | none => false
  match i with
  | .mxzDefine _ a _ _ =>
    -- TR of 32 to 256 in 32s and TC of 32 to 128 in 32s (R233)
    needs (decide ((u.sv a).toNat / 32 = 0)) (ill 24)
  | .mxzClr _ n _ | .mxzFree _ n _ => needs (owned n) (some { cls := clsTile, cause := 25, info := n.setWidth 64 })
  | _ => none

/-! ## The drain block (R249) -/

/-- Elements per granule of a class (R112). -/
def classElems (c : Nat) : Nat := 8 * 2 ^ c
/-- Fields of a drain block (R249). -/
def drSlot (b : Nat) : Nat := fld b 0 3
def drToReg (b : Nat) : Bool := decide (fld b 3 1 = 1)
def drVRow (b : Nat) : Nat := fld b 4 2
def drZero (b : Nat) : Bool := decide (fld b 6 1 = 1)
def drSat (b : Nat) : Bool := decide (fld b 7 1 = 1)
def drRm (b : Nat) : Nat := fld b 8 3
def drI0 (b : Nat) : Nat := fld b 16 8
def drM (b : Nat) : Nat := fld b 24 8 + 1
def drJ0 (b : Nat) : Nat := fld b 32 8
def drN (b : Nat) : Nat := fld b 40 8 + 1
def drFmt (b : Nat) : Nat := fld b 48 8
def drDst (b : Nat) : Nat := fld b 64 64
def drPitch (b : Nat) : Nat := fld b 128 32
def drRs (b : Nat) : Nat := fld b 256 64
def drCs (b : Nat) : Nat := fld b 320 64
def drBs (b : Nat) : Nat := fld b 384 64
def drBias (b : Nat) : Nat := fld b 448 64
/-- Bands of 64 rows that a drain's region touches (R251). -/
def drBands (b : Nat) : Nat := (drI0 b + drM b - 1) / 64 - drI0 b / 64 + 1
/-- The granules of a destination row. -/
def drGrans (b : Nat) : Nat := drN b / classElems ((fmtClass (drFmt b)).getD 0)

/-- The scale and bias ranges that are present: address and bytes. -/
def drScales (b : Nat) : List (Nat × Nat) :=
  [(drRs b, 4 * drM b), (drCs b, 4 * drN b), (drBs b, 2 * drBands b), (drBias b, 4 * drN b)].filter (fun e => decide (e.1 ≠ 0))

/-- The 64-byte blocks of a range of addresses. -/
def blocksOf (a n : Nat) : List Nat := if n = 0 then [] else (List.range ((a + n - 1) / 64 + 1 - a / 64)).map (fun i => a / 64 + i)

/-- The ranges of addresses that a drain accesses beside its block: the destination's rows, where it goes to memory, and its scales and biases (R251). -/
def drSpans (b : Nat) : List (Nat × Nat) :=
  (if drToReg b then [] else (List.range (drM b)).map (fun i => (drDst b + i * drPitch b, 64 * drGrans b))) ++ drScales b

/-- A word that is illegal on a PGC, by its opcode (R154). -/
def pgcIllegalWord (w : Word) : Bool :=
  !w.getLsbD 31 || [0x24, 0x25, 0x27, 0x28, 0x29, 0x2A, 0x2B, 0x33, 0x34, 0x35, 0x39, 0x40, 0x41, 0x42, 0x46, 0x47, 0x50, 0x51, 0x52, 0x53,
    0x54, 0x55, 0x56, 0x57, 0x58, 0x59, 0x5A, 0x5C, 0x5D, 0x63, 0x7F].contains (wordOp w).toNat

/-- The fields of an XPFX word (R76). -/
def prefixOf (w : Word) : Prefix :=
  { k := w.extractLsb' 21 3, z := w.getLsbD 20, rm := w.extractLsb' 17 3, sat := w.getLsbD 16, c := w.extractLsb' 9 7, cv := w.getLsbD 8 }

/-- The cause that a unit raises whose first word does not decode (R85): a form that is illegal on the PGC (R154) is that first; an XPFX
whose bits [7:0] are not zero is the last check of causes 1 to 5 of its unit, so that the lane word's own come before it. -/
def Clause.badCause (c : Clause) (pgc : Bool) (e : DecodeError) : Nat :=
  match c.words[c.idx]? with
  | none => e.cause
  | some w =>
    if pgc && pgcIllegalWord w then 1
    else if e ≠ .prefixField then e.cause
    else
      match c.words[c.idx + 1]? with
      | none => 5
      | some l =>
        if l.getLsbD 31 then 5
        else match decode [l] with
          | .error x => x.cause
          | .ok i => match laneForm i with | some f => (f.cause (prefixOf w)).getD 5 | none => 5

/-! ## Waiting at issue -/

/-- Register-operations of the backend that still count at a cycle, and instructions (R48). -/
def backCount (x : Plot) (c : Nat) : Nat × Nat :=
  let live := x.backend.filter (fun b => decide (c < b.last))
  (live.length, live.foldl (fun n b => n + (b.entries.filter (fun e => decide (c < e))).length) 0)

/-- Entry cycles of the n operations of a word issued at cycle c (R48): operation k enters at c + k or when the datapath is
free. `free` is the first cycle at which the datapath is free. -/
def entryCycles (busy c : Nat) : Nat → Nat → Nat → List Nat
  | 0, _, _ => []
  | n + 1, k, free =>
    let e := Nat.max (c + k) free
    e :: entryCycles busy c n (k + 1) (e + busy)

/-- A lane word fits the backend (R48): the limits of 16 and 64 hold after it is added. -/
def backFits (x : Plot) (c n busy : Nat) : Bool :=
  let b := backCount x c
  let own := (entryCycles busy c n 0 x.dataFree).filter (fun e => decide (c < e))
  decide (b.1 + (if own.isEmpty then 0 else 1) ≤ 16) && decide (b.2 + n ≤ 64)

/-- The vector registers that mxp reads (R238). -/
def dynReads (s : State) (u : Issuer) (i : Instr) : List RegId :=
  match i with
  | .mxp a _ => let b := u.mxpBlock a; (mxpARegs s u b ++ mxpBRegs s u b).map RegId.v
  | _ => []

/-- The data registers of a store or an atomic whose register-operations have not entered the datapath by cycle `c` (R193). -/
def MemOp.unread (o : MemOp) (c : Nat) : List RegId :=
  match laneForm o.word with
  | none => []
  | some l =>
    let of := fun (q : Option Opnd) => match q with
      | some d => if d.isV then ((d.regs.zip (List.range d.regs.length)).filter (fun r => decide (c < o.entryOf r.2))).map (fun r => RegId.v r.1)
          else if c < o.entryOf (o.entries.length - 1) then [.s (d.code - 96)] else []
      | none => []
    of l.data ++ of (l.fourth o.pfx)

/-- A fixed-latency result that the word reads or writes is not yet available (R49), or a uniform word writes a register whose operation has still
to enter the datapath (R193): the reason. -/
def pendWait (s : State) (u : Issuer) (i : Instr) : Option Nat :=
  let rs := regReads i u.pfx ++ dynReads s u i
  let hit := fun (l : List RegId) (k : Bool) => u.g.pend.any (fun e => l.contains e.2.reg && (match e.2.reg with | .k _ => k | _ => !k))
  if !isLane i && hit rs true then some stKmask
  else if !isLane i && u.g.ops.any (fun e => (e.2.unread s.cycle).any (fun r => (regWrites i).contains r)) then some stPipe
  else if hit rs false || hit rs true || hit (regWrites i) false || hit (regWrites i) true then some stPipe
  else none

/-- Operations of a group that occupy its log or are held in a failure (R343). -/
def loggedOps (g : Group) : List MemOp :=
  (g.log.map (fun e => e.2.op) ++ g.heldFails).filterMap (fun o => tabFind g.ops o)

/-- The word accesses memory through a variable-latency form (R58). -/
def isVarMem (i : Instr) : Bool := (flagSel i).isSome
/-- Loads, stores and atomics, whose elements R187 places. -/
def isAccess (i : Instr) : Bool :=
  (isLane i && isVarMem i) || (match i with | .sld .. | .sst .. | .satom .. | .rld .. | .rst .. => true | _ => false)

/-- The bytes that an operation touches as accesses of its group, as ranges: the elements of an access, the blocks of an object
form, the header, word or block that a form reads, the pairs that svget stores (R189). DEDUCED: log entry 88. -/
def State.opRanges (s : State) (gid : Nat) (o : MemOp) : List (Nat × Nat) :=
  let a := o.base.val.toNat
  let second := (o.src.getD 1 {}).val.toNat
  match o.word with
  | .oinit .. => [(a, 64 * fld second 16 20)]
  | .ofree .. | .oreset .. =>
    let h := o.base.base.toNat
    -- the PGC's words name their places themselves (R333)
    if (s.group gid).pgc then [(h, 64 * Nat.max 1 (hdrSize (s.readNat h 8)))] else
    match (s.translateWalk (s.group gid).ctx (h % 2 ^ 57) .read).2 with
    | .ok dpa _ => [(h, 64 * Nat.max 1 (hdrSize (s.readNat dpa 8)))]
    | _ => [(h, 64)]
  | .ostat .. => [(o.base.base.toNat, 8)]
  | .pub .. => [(second, 8)]
  | .cpy .. | .cpyCe .. | .launch .. | .pfh .. | .mxd .. => [(a, 64)]
  | .cpyq .. => [(a, 64 * Nat.min 64 second)]
  | .svget .. => [(a, 8 * (if o.lane = 1 then (o.data.getD 0 []).length else ((s.plot (s.group gid).plot).sieveOf (s.group gid).team).pairs.length))]
  | w => if isAccess w || (match w with | .mwait .. => true | _ => false)
    then (s.opElems gid o).map (fun e => (e.addr.toNat, e.n)) else []

/-- The 64-byte blocks that an operation touches; a drain's are known once its block has been read. -/
def State.opBlocks (s : State) (gid : Nat) (o : MemOp) : List Nat :=
  let drain := match o.word with | .mxd .. => if o.blk = 0 then [] else drSpans o.blk.toNat | _ => []
  ((s.opRanges gid o ++ drain).flatMap (fun r => blocksOf r.1 r.2)).eraseDups

/-- The registers that a logged pass reads, which stay pinned (R342): those that its block names. -/
def State.pinnedRegs (s : State) (u : Issuer) (o : MemOp) : List RegId :=
  match o.word with
  | .mxp .. => (mxpARegs s u o.blk.toNat ++ mxpBRegs s u o.blk.toNat).map RegId.v
  | _ => []

/-- The registers that a register drain writes, once its block is known (R251): DRN.VROW and DRN.M. -/
def MemOp.drainWrites (o : MemOp) : List RegId :=
  let b := o.blk.toNat
  match o.word with
  | .mxd .. => if drToReg b then (List.range ((drM b + 3) / 4)).map (fun k => RegId.v (16 * drVRow b + k)) else []
  | _ => []

/-- A drain whose block has still to be read: it may write any register row. -/
def MemOp.drainUnread (o : MemOp) : Bool := match o.word with | .mxd .. => decide (o.blk = 0) | _ => false

/-- A logged word writes a register that the word reads or writes, or reads one that the word writes and that stays pinned (R343). -/
def logRegs (s : State) (u : Issuer) (i : Instr) : Bool :=
  (loggedOps u.g).any (fun o =>
    let w := regWrites o.word ++ o.drainWrites
    (regReads i u.pfx ++ dynReads s u i ++ regWrites i).any (fun r => w.contains r)
    || (s.pinnedRegs u o).any (fun r => (regWrites i).contains r))

/-- The waits of R343. -/
def logWait (s : State) (u : Issuer) (i : Instr) : Bool :=
  let lo := loggedOps u.g
  !lo.isEmpty && (
    logRegs s u i
    || lo.any (fun o => (s.opBlocks u.gid (u.capture i)).any (fun b => (s.opBlocks u.gid o).contains b))
    || (isVarMem i && decide (u.g.log.length = 8)))

/-- A register that the word reads or writes has still to receive its value, a fixed-latency result (R49) or a logged word's data (R343): the word may not
issue yet, and no check of what its registers hold is made. -/
def regsWait (s : State) (u : Issuer) (i : Instr) : Bool := (pendWait s u i).isSome || logRegs s u i

/-- Every check of a word at issue, in the order of the causes (R85, R153, R199, R242, R246); those of what its registers hold, once they hold it (R49). -/
def checks (i : Instr) (u : Issuer) (s : State) : Option Failure :=
  let ready := !regsWait s u i
  firstOf [
    needs (!(u.g.pgc && pgcIllegal i)) (ill 1),
    (if ready then fieldCause u i else wordCause u i).bind ill,
    needs (match u.flagOf i with | some f => decide (f ≠ 15) | none => true) (ill 6),
    needs (!isTransfer i || u.isLast i) (ill 8),
    needs (!privBad s u i) (fail clsProt 11),
    needs (match laneForm i with | some l => l.rowsOk u.pfx u.g.rows | none => true) (fail clsRegRow 12),
    needs (!(ready && tagBad u i)) (fail clsProt 13),
    if ready then addrIssue s u i else none,
    if ready then (match i with | .mxp a _ => mxpIssue s u a | _ => mxzIssue s u i) else none]

/-- A store that may take a commit-buffer entry (R287). -/
def isStoreForm : Instr → Bool
  | .vstB8 .. | .vstB16 .. | .vstB32 .. | .vstB64 .. | .vstB128 .. | .vstf .. | .sst .. | .rst .. => true
  | _ => false

/-- Requests in a quad's reservation table that name a slot and have not been granted (R235), parts that have not formed among them.
DESIGN CHOICE: log entry 112. -/
def quadPending (q : Quad) (slot : Nat) : Nat := (q.resv.filter (fun r => decide (r.2.slot = slot) && r.2.granted.isNone)).length

/-- A slot is READY (R234). -/
def slotReady (q : Quad) (n : Nat) : Bool := match tabFind q.slots n with | some x => decide (x.st = .ready) | none => false

/-- The engine that `cpy` chooses on a plot's die: the fewest queued commands, then the lowest number (R223). -/
def State.ceLoad (s : State) (e : Nat) : Nat := (s.cmds.filter (fun c => decide (c.2.ce = e))).length
def State.ceChoice (s : State) (p : Nat) : Nat :=
  let d := plotDie p
  (leastBy s.ceLoad ((List.range 8).map (fun i => 8 * d + i))).getD (8 * d)

/-- A queue of an engine has room for n commands (R392). -/
def State.ceRoom (s : State) (e n : Nat) : Bool := decide (s.ceLoad e + n ≤ 64)

/-- Launches accepted in a queue that still have clusters to place: a launch leaves its queue with its last one (R37). -/
def queueFill (x : Context) (q : Nat) : Nat := (x.launches.filter (fun l => decide (l.queue = q) && l.unplaced)).length

/-- A store waits while 960 entries of the buffer are occupied (R287), and behind a high-water commit that waits for the twin (R291).
DEDUCED: log entry 39. -/
def State.storeWait (s : State) (tid : Nat) : Option Nat :=
  if 960 ≤ s.cbHeld tid then some stCommitFull
  else if (s.team tid).commits.any (fun c => c.unpaired && decide (c.kind = .highWater)) then some stPair else none

/-- Waits that belong to one form. -/
def formWait (s : State) (u : Issuer) (i : Instr) : Option Nat :=
  let t := s.uTeam u
  let q := s.quad (plotQuad u.g.plot)
  match i with
  | .vldt _ _ _ t _ | .vstt _ _ _ t _ =>
    (match s.tileAt u.g.plot t.toNat with | some e => if e.st = .ready then none else some stTile | none => some stTile)
  | .srd _ r => if r = 0x013 ∧ u.g.pend ≠ [] then some stPipe else none
  | .swr _ r => if r = 0x013 ∧ u.g.pend ≠ [] then some stPipe else none
  | .rst d _ _ _ _ =>
    match s.storeWait u.g.team with
    | some r => some (if (u.sreg d).tag && decide (0 < t.walks) then Nat.min r stGleaner else r)
    | none => if (u.sreg d).tag && decide (0 < t.walks) then some stGleaner else none
  | .rrel n =>
    let low := u.g.rows - n.toNat
    let hits := fun (r : RegId) => match r with | .v k => decide (low ≤ k / 16) | _ => false
    if u.g.pend.any (fun e => hits e.2.reg) || u.g.ops.any (fun e => (regWrites e.2.word ++ e.2.drainWrites).any hits || e.2.drainUnread)
    then some stPipe else none
  | .mxp a _ =>
    let b := u.mxpBlock a
    let isB := (bSourcePart s u b).isSome
    if isB && !slotReady q (mxSlot b) then some stTile
    else if (isB && decide (16 ≤ q.resv.length)) || (mxSplit b && decide (0 < u.g.bcast)) then some stMxe
    else none
  | .mxd .. => if 16 ≤ q.resv.length then some stMxe else none
  | .mxzClr _ n _ | .mxzFree _ n _ => if slotReady q n.toNat && decide (quadPending q n.toNat = 0) then none else some stTile
  | .svinit .. | .svinitFree .. => if (s.plot u.g.plot).sieve.queue.isEmpty then none else some stPipe
  | .launch _ _ _ n => if queueFill (s.ctx u.g.ctx) n.toNat < 256 then none else some stOther
  | .cpy .. => if s.ceRoom (s.ceChoice u.g.plot) 1 then none else some stOther
  | .cpyCe _ _ b _ => if s.ceRoom ((u.sv b).toNat % 32) 1 then none else some stOther
  | .cpyq _ _ b _ =>
    if 1 ≤ (u.sv b).toNat ∧ (u.sv b).toNat ≤ 64 ∧ !s.ceRoom (s.ceChoice u.g.plot) (u.sv b).toNat then some stOther else none
  | _ => if isStoreForm i then s.storeWait u.g.team else none

/-! ## Paired teams (R368, R370) -/

/-- The words of which the primary performs one instance for both twins (R370). -/
def isMatched : Instr → Bool
  | .cpy .. | .cpyCe .. | .cpyq .. | .launch .. | .hsig .. | .pub .. => true
  | _ => false

/-- An element that a team other than the pair may write: plain memory outside the shared window, or a published object that is
not frozen (R368). -/
def State.othersMayWrite (s : State) (u : Issuer) (o : MemOp) : Bool :=
  match o.ref with
  | some h =>
    let y := s.headerAt u.g.plot u.g.ctx h.toNat
    decide (hdrState y.2.2 = 2)
  | none => (s.opElems u.gid o).any (fun e => match spaceOf e.addr with | .virt _ => true | _ => false)

/-- The access or word is performed by the primary alone (R368). -/
def State.isForwarded (s : State) (u : Issuer) (i : Instr) : Bool :=
  match i with
  | .srd _ r => [1, 2, 3, 4, 7, 8].contains r.toNat
  | .satom _ _ _ c _ _ => decide (c ≠ 0)
  | .sld .. | .rld .. | .mwait .. => s.othersMayWrite u (u.capture i)
  | .vldB8 .. | .vldI8 .. | .vldB16 .. | .vldI16 .. | .vldB32 .. | .vldB64 .. | .vldB128 .. | .vldf .. => s.othersMayWrite u (u.capture i)
  | .vatomAddN32 _ _ _ _ _ c _ | .vatomAddF32 _ _ _ _ _ c _ | .vatomMinI32 _ _ _ _ _ c _ | .vatomMaxI32 _ _ _ _ _ c _
  | .vatomMinN32 _ _ _ _ _ c _ | .vatomMaxN32 _ _ _ _ _ c _ | .vatomAnd _ _ _ _ _ c _ | .vatomOr _ _ _ _ _ c _
  | .vatomXor _ _ _ _ _ c _ | .vatomXchg _ _ _ _ _ c _ | .vatomCas _ _ _ _ _ c _ | .vatomAddN64 _ _ _ _ _ c _ => decide (c ≠ 0)
  | _ => false

/-- The result of the primary that the twin's next forwarded word takes: of the group of its rank, with its number. -/
def State.forwardedFor (s : State) (u : Issuer) : Option Forwarded :=
  (s.uTeam u).forwarded.find? (fun e => decide (e.rank = u.g.rank) && decide (e.no = u.g.fwdNo))

/-- PAIR_WAIT of a paired team (R368, R370). -/
def pairWait (s : State) (u : Issuer) (i : Instr) : Bool :=
  let t := s.uTeam u
  if !t.paired then false
  else if t.primary then isMatched i && !u.g.pairOk
  else (isMatched i || s.isForwarded u i) && (s.forwardedFor u).isNone

/-- Why a word stays in its slot this cycle: the lowest code of the reasons that apply (R404). -/
def waits (i : Instr) (u : Issuer) (s : State) : Option Nat :=
  let flag := match u.flagOf i with | some f => decide (255 ≤ u.g.readF f) | none => false
  let back := match laneForm i with
    | some l => !backFits (s.plot u.g.plot) s.cycle l.regOps l.busy
    | none => false
  let l := (if flag then [stFlagWait] else []) ++ (pendWait s u i).toList ++ (formWait s u i).toList
    ++ (if pairWait s u i then [stPair] else []) ++ (if logWait s u i then [stFault] else []) ++ (if back then [stPipe] else [])
  leastBy id l

end Sys2Proof.Machine
end

