-- ==== Sys2Proof/Machine/Paths.lean ====
section
/-! DEFINITION. The paths of accesses (R16, R27, R28, R311, R412, R415): how many cycles each adds, and where the mesh drops a message that no path
takes to its destination. -/

namespace Sys2Proof.Machine

/-! ## Messages of the mesh -/

/-- A message's way: the cycles it takes, or the router that drops it, since no path through plots in service leads to its destination (R16). -/
abbrev Road := Except Nat Nat

/-- The way from router p to router q, and `n` cycles at its ends (R16, R415). -/
def State.road (s : State) (p q n : Nat) : Road :=
  match s.way? p q with
  | some c => .ok (n + c)
  | none => .error (entryPort p q).1

/-- What a message brings about becomes due at its arrival; without a path the router that finds this drops it and counts it (R16). -/
def State.along (s : State) (r : Road) (n : Nat) (i : Instr) (e : Ev) : State :=
  match r with
  | .ok c => s.after (n + c) i e
  | .error p => s.dropAt p

/-- The longer of two ways that are both taken. -/
def Road.max (a b : Road) : Road := do pure (Nat.max (← a) (← b))
/-- Two ways that are taken one after the other. -/
def Road.then (a b : Road) : Road := do pure ((← a) + (← b))

/-! ## Below the L1 -/

/-- The node of the lease through which a pool or peer address is reached. DESIGN CHOICE: log entry 91. -/
def State.leaseNode (s : State) (dpa : Nat) : Nat :=
  match s.leaseAt dpa with
  | some i => ((s.lease i).data.extractLsb' 64 12).toNat
  | none => 0

/-- Cycles of an access over the fabric (R27): 1,900, and 400 for each CXL switch beyond the first on the route to the lease's node. DESIGN CHOICE: a
route whose switches nothing states has one (log entry 91). -/
def State.fabricCycles (s : State) (dpa : Nat) : Nat := 1900 + 400 * (tabGet 1 s.switches (s.leaseNode dpa) - 1)

/-- Cycles that an uncorrectable block adds to the access that finds it (R360): 512 where parity rebuilds it, the fabric path where the pool gives it
again. -/
def State.eccCycles (s : State) (p : Nat) : Nat :=
  match s.eccErrors.find? (fun e => decide (e.1 = p / 64)) with
  | some (_, false) =>
    let x := s.frame (frameOf p)
    if x.dead then 0
    else if s.boot.parity then 512
    else match x.tag with
      | some u => if x.dirty = 0 ∧ !s.frameHeld (frameOf p) then s.fabricCycles (u * 65536) else 0
      | none => 0
  | _ => 0

/-- Cycles that HBM adds to the L2 path, by the rate code of the block's channel (R27, R412). A channel in a switch serves the request
after its stall, at the new point. -/
def State.hbmCycles (s : State) (dpa : Nat) : Nat :=
  let p := s.phys dpa
  let at? := tabFind s.boot.switching (s.channelOf p)
  let code := match at? with | some x => x.2.1 | none => tabGet 0 s.boot.rate (s.channelOf p)
  let wait := match at? with | some x => x.1 - s.cycle | none => 0
  let fill := if isHbm s p then (match (s.frame (frameOf p)).zeroing with | some c => c - s.cycle | none => 0) else 0
  384 + (if code = 1 then 96 else if code = 2 then 288 else 0) + wait + fill + s.eccCycles p

/-- The place lies outside the device: host, peer, and pool that bypasses the page cache (R27). -/
def State.offDevice (s : State) (dpa pte : Nat) : Bool :=
  isHost dpa || isPeer dpa || (isPool dpa && (decide (pteClass pte = 1) || (s.frameFor (frameOf dpa)).isNone))

/-- The device's own access to an HBM frame goes through the host home agent while the frame's bias bit reads host (R332): PTE.BIAS spares the
controller that redirection, and changes nothing of where the access goes. -/
def State.hostBiased (s : State) (dpa : Nat) : Bool := isHbm s dpa && (s.frame (frameOf dpa)).bias

/-- The L2 path from a router, with the HBM's where the home slice does not hold the block. -/
def State.l2Road (s : State) (p dpa : Nat) : Road :=
  s.road p (s.homePlot dpa) (96 + (if s.l2Holds dpa || (scratchOf dpa).isSome then 0 else s.hbmCycles dpa))

/-- The longest round trip from a home slice to the plots that a request forwards to, invalidates or recalls (R27, R265). A culled plot's copies are
gone, and its acknowledgement counts as given (R375). -/
def State.snoopRoad (s : State) (p dpa : Nat) (write : Bool) : Road :=
  let h := s.homePlot dpa
  let far := fun (q : Nat) => (s.road h q 0).map (fun c => 2 * c)
  match s.dirEntry dpa with
  | none => .ok 0
  | some e =>
    if write then
      ((((List.range 96).filter (fun q => e.sharers.getLsbD q)).flatMap quadPlots).filter (fun q => decide (q ≠ p) && !(s.plot q).culled)).foldl
        (fun m q => Road.max m (far q)) (.ok 0)
    else if e.st = .shared ∨ e.owner = p ∨ (s.plot e.owner).culled then .ok 0
    else far e.owner

/-- What an access that the L1 of plot `home` does not serve takes (R27): the L2 path with the forwards, invalidations and recalls of the home slice
(R265); else the fabric, or the host home agent. DESIGN CHOICE: log entry 10. -/
def State.missRoad (s : State) (home dpa pte : Nat) (write : Bool) : Road :=
  let out := fun (n : Nat) => (s.road home (s.homePlot dpa) 0).map (fun _ => n)
  if isHost dpa || s.hostBiased dpa then out 1900
  else if s.offDevice dpa pte && !(cacheable dpa pte && s.l2Holds dpa) then out (s.fabricCycles dpa)
  else do pure ((← s.l2Road home dpa) + (← s.snoopRoad home dpa write))

/-- Uncontended cycles of a plot's access to a place (R27): its L1, or the fused slice; else the path from the plot whose L1 it is (R267).
DESIGN CHOICE: log entry 11. DESIGN CHOICE: log entry 10. -/
def State.placeRoad (s : State) (p dpa pte : Nat) (write : Bool) : Road :=
  let home := s.l1Home p dpa
  let hit : Bool := match s.l1State home dpa with
    | some c => !write || decide (c = .m) || decide (c = .e)
    | none => false
  if hit then .ok (if home = p then 32 else 44) else s.missRoad home dpa pte write

/-- The path of a unit to a table entry, or to any word that it names by its DPA. -/
def State.dpaRoad (s : State) (p dpa : Nat) (write : Bool) : Road :=
  if isPgcMem dpa then .ok 24 else if isHost dpa || s.hostBiased dpa then .ok 1900 else s.missRoad p dpa 0 write

/-- What a plot's translation adds (R311): nothing for an L1 TLB hit, 24 for an L2 TLB hit, the L2 path of each entry that a walk reads. -/
def State.xlatRoad (s : State) (p c va : Nat) (write : Bool) : Road :=
  if ((tlbHit (s.plot p).tlb c va).filter (fun e => entryServes e.2 write)).isSome then .ok 0
  else if ((tlbHit (s.die (plotDie p)).tlb c va).filter (fun e => entryServes e.2 write)).isSome then .ok 24
  else (walkReads s va walkLevels (s.ctx c).ptroot.toNat).foldl (fun n a => do pure ((← n) + (← s.dpaRoad p a false))) (.ok 0)

/-- Uncontended cycles of an access of a group at an address. -/
def State.addrRoad (s : State) (g : Group) (a : DWord) (write : Bool) : Road :=
  if g.pgc then s.dpaRoad g.plot a.toNat write
  else
    match spaceOf a with
    | .virt va => do
      let x ← s.xlatRoad g.plot g.ctx va write
      match (s.translateWalk g.ctx va .read).2 with
      | .ok dpa pte => pure (x + (← s.placeRoad g.plot dpa pte write))
      | _ => pure (96 + x)
    | _ => .ok 24

/-- An instruction fetch (R27, R54): its translation, and the path below the L1 that its line takes. -/
def State.fetchRoad (s : State) (p c va : Nat) : Road := do
  let x ← s.xlatRoad p c va false
  match (s.translateWalk c va .fetch).2 with
  | .ok dpa pte => pure (x + (← s.missRoad p dpa pte false))
  | _ => pure (96 + x)

/-- Uncontended cycles of an atomic (R27, R204): one of team scope is performed in the team's L1 or shared memory. -/
def State.atomicRoad (s : State) (g : Group) (a : DWord) (scope : Nat) : Road :=
  let atHome := fun (p dpa : Nat) => do pure ((← s.road p (s.homePlot dpa) 120) + (← s.snoopRoad 384 dpa true))
  if g.pgc then (if isPgcMem a.toNat then .ok 24 else if isHost a.toNat then .ok 1900 else atHome g.plot a.toNat)
  else
    match spaceOf a with
    | .virt va => do
      let x ← s.xlatRoad g.plot g.ctx va true
      if scope = 0 then pure (40 + x)
      else
        match (s.translateWalk g.ctx va .read).2 with
        | .ok dpa pte =>
          if scope = 1 && (s.cluster (s.team g.team).cluster).fused then pure (x + if s.l1Home g.plot dpa = g.plot then 40 else 52)
          -- host and peer memory perform an atomic at their own home (R206, R397)
          else if isHost dpa || s.hostBiased dpa then pure (x + 1900)
          else if s.offDevice dpa pte && !(cacheable dpa pte && s.l2Holds dpa) then
            pure (x + (← (s.road g.plot (s.homePlot dpa) 0).map (fun _ => s.fabricCycles dpa)))
          -- every L1 copy, the team's own included, is invalidated or recalled first (R269)
          else pure (x + (← atHome g.plot dpa))
        | _ => pure (120 + x)
    | _ => .ok 40

end Sys2Proof.Machine
end

