-- ==== Sys2Proof/Machine/Issue.lean ====
section
/-! DEFINITION. Issuing a word (R46-R58): `issue` makes the checks, waits or applies the word's effect, advances the clause and
ends the turn or begins the second word of a pair; taking a trap at issue (R85, R341); the frontier (R51-R55); group and team
exit (R63). Every meaning of an instruction word is `issue` with the word's own effect. -/

namespace Sys2Proof.Machine

/-! ## Effects -/

/-- What a word's own effect leaves. -/
inductive Eff where
  /-- the word is done -/
  | ok (s : State)
  /-- the word stays at issue (R152, R232) -/
  | hold (s : State) (h : Hold)
  /-- control transfer: addresses with their lanes; `true` for a target whose mark is checked at its fetch (R54) -/
  | xfer (s : State) (t : List (DWord × Mask × Bool))
  /-- the word is done, and then traps (R181) -/
  | trapAfter (s : State) (f : Failure)
  deriving DecidableEq, Repr

/-! ## Turns and slots -/

/-- The unit's turn in this cycle ends. -/
def State.endTurn (s : State) : State := { s with todo := s.todo.drop 1 }

/-- A cycle of a plot passes with nothing issued (R404, R406). -/
def State.charge (s : State) (p r : Nat) : State :=
  if p < 384 then s.modPlot p (fun x => { x with stall := tabMod 0 x.stall r (fun n => (n + 1) % 2 ^ 64) }) else s

/-- An empty slot: the reason is charged, unless the first word of a pair has issued this cycle (R47). -/
def State.emptyTurn (s : State) (u : Issuer) (r : Nat) : State :=
  if u.c.second then (s.modGroup u.gid (fun g => { g with clause := g.clause.map (fun c => { c with second := false }) })).endTurn
  else (s.charge u.g.plot r).endTurn

/-! ## Frontier (R51, R53) -/

/-- Adds lanes at an address: equal addresses merge, with the larger age. -/
def addEntry : List FrontEntry → FrontEntry → List FrontEntry
  | [], e => if e.lanes = 0 then [] else [e]
  | x :: t, e =>
    if e.lanes = 0 then x :: t
    else if x.addr = e.addr then
      { x with lanes := x.lanes ||| e.lanes, age := Nat.max x.age e.age, from? := match x.from? with | some f => some f | none => e.from? } :: t
    else x :: addEntry t e

/-- Lanes reach an address. -/
def Group.addFront (g : Group) (e : FrontEntry) : Group := { g with frontier := addEntry g.frontier e }

/-- One more issue of the group (R53). -/
def Group.ageAll (g : Group) : Group := { g with frontier := g.frontier.map (fun e => { e with age := e.age + 1 }) }

/-! ## Exit (R63) -/

/-- The group has exited: nothing to issue, no hold, every flag zero. -/
def Group.exited (g : Group) : Bool :=
  g.frontier.isEmpty && g.clause.isNone && g.hold.isNone && g.trapHold.isEmpty && !g.lostHold
    && g.f.all (fun e => decide (e.2 = 0)) && decide (g.loc ≠ .gone) && !g.pgc

/-- GROUP_EXIT and, with the last group, the team's exit commit (R63, R173, R288). Arrivals that the group has still to make keep their commit points
(R174), and count at no barrier. -/
def State.exitCheck (s : State) (gid : Nat) : State :=
  match tabFind s.groups gid with
  | none => s
  | some g =>
    if !g.exited then s
    else
      let s1 := s.setGroup gid { g with loc := .gone }
      let s2 := (s1.modTeam g.team (fun t => { t with groups := t.groups.filter (fun x => decide (x ≠ gid)) })).barriersCheck g.team
      if (s2.team g.team).groups.isEmpty && (s2.team g.team).live then s2.beginCommit g.team .exit else s2

/-! ## Traps at issue (R85, R341, R346) -/

/-- A trap raised at issue: nothing of the word takes effect, and the word stays where it is; an XPFX unit starts again at its
XPFX (R78). -/
def State.trapAtIssue (s : State) (u : Issuer) (f : Failure) : State :=
  let s1 := s.modGroup u.gid (fun g => { g with clause := g.clause.map (fun c => { c with idx := u.word, pfx := none, second := false }) })
  let s2 := s1.trapGroup u.gid f 15 u.word u.c.addr
  (if u.c.second then s2 else s2.charge u.g.plot stFault).endTurn

/-! ## Advancing (R47, R54) -/

/-- The clause with its next word `n` words on; at its end the lanes move to the next header. A step ends there (R402). -/
def Group.advance (g : Group) (u : Issuer) (n : Nat) : Group :=
  let k := u.c.idx + n
  if k < u.c.words.length then
    { g with clause := some { u.c with idx := k, pfx := none, brkDone := false } }
  else
    let h := { g with clause := none }.addFront { addr := u.nextHeader, lanes := u.c.lanes }
    if h.stepping then { h with stepping := false, halted := true } else h

/-- The bundle's lanes move to the targets of a transfer. -/
def Group.transfer (g : Group) (u : Issuer) (t : List (DWord × Mask × Bool)) : Group :=
  let h := t.foldl (fun (x : Group) e => x.addFront
    { addr := e.1, lanes := e.2.1, from? := if e.2.2 then some (u.c.addr, u.c.idx, u.nextHeader) else none }) { g with clause := none }
  if h.stepping then { h with stepping := false, halted := true } else h

/-- ISSUED, once for a word or a pair, and the ages of the frontier (R53, R404). DESIGN CHOICE: log entry 27. -/
def State.countIssue (s : State) (u : Issuer) : State :=
  if u.c.second then s
  else
    let s1 := s.modGroup u.gid Group.ageAll
    if u.g.plot < 384 then s1.modPlot u.g.plot (fun x => { x with issued := (x.issued + 1) % 2 ^ 64 }) else s1

/-- Everything that a word writes, the flag it counts on included (R47). -/
def wordWrites (u : Issuer) (i : Instr) : List RegId :=
  regWrites i ++ match u.flagOf i with | some f => [.f f] | none => []
/-- Everything that a word reads. -/
def wordReads (s : State) (u : Issuer) (i : Instr) (p : Prefix) : List RegId :=
  regReads i p ++ dynReads s u i ++ match i with | .wfl m => ((List.range 12).filter (fun n => m.getLsbD n)).map RegId.f | _ => []

/-- The following word issues in the same cycle (R47). -/
def State.pairs (s : State) (u : Issuer) (i : Instr) : Bool :=
  if u.c.second || u.hasPfx || isTransfer i || u.g.pgc then false
  else
    match (s.group u.gid).clause with
    | none => false
    | some c =>
      match decode (c.words.drop c.idx) with
      | .error _ => false
      | .ok (.xpfx ..) => false
      | .ok j =>
        let v : Issuer := { u with c := c }
        (isLane i != isLane j) &&
        (wordReads s v j {} ++ wordWrites v j).all (fun r => !(wordWrites u i).contains r)

/-- What follows the word's effect in its cycle: the second word of a pair, or the end of the turn. -/
def State.afterWord (s : State) (u : Issuer) (i : Instr) : State :=
  let g := s.group u.gid
  if g.hold.isNone && g.trapHold.isEmpty && s.pairs u i then
    s.modGroup u.gid (fun x => { x with clause := x.clause.map (fun c => { c with second := true }) })
  else
    (s.modGroup u.gid (fun x => { x with clause := x.clause.map (fun c => { c with second := false }) })).endTurn

/-- The end of a word that has issued. -/
def finish (u : Issuer) (i : Instr) : Eff → State
  | .ok s => ((s.countIssue u).modGroup u.gid (fun g => g.advance u (wordCount i))).afterWord u i
  | .hold s h => ((s.countIssue u).modGroup u.gid (fun g => { (g.advance u (wordCount i)) with hold := some h })).afterWord u i
  | .xfer s t => (((s.countIssue u).modGroup u.gid (fun g => g.transfer u t)).exitCheck u.gid).endTurn
  | .trapAfter s f =>
    (((s.countIssue u).modGroup u.gid (fun g => g.advance u (wordCount i))).trapGroup u.gid f 15 u.word u.c.addr).afterWord u i

/-- Lanes that a lane operation writes: the included ones, and under PFX.Z every lane of the bundle (R191). -/
def MemOp.writeLanes (o : MemOp) : Mask := if o.pfx.z then o.bundle else o.lanes

/-- The uniform destination of a word. -/
def uniDest (i : Instr) : Option Nat := match uniForm i with | some f => f.sw.map (fun d => d.toNat) | none => none

/-- Writes an operation's results into the group's registers, but for those that a debugger has written since (R359). -/
def Group.writeResults (g : Group) (o : MemOp) : Group :=
  let h := (o.res.filter (fun r => !(o.dropped.contains (.v r.1)))).foldl (fun x r => x.writeVM o.writeLanes r.1 r.2) g
  match o.sres, uniDest o.word with
  | some v, some d => if o.dropped.contains (.s d) then h else h.writeS d v
  | _, _ => h

/-- The shadows that vldf writes (R197): each quarter with an included lane; under PFX.Z a quarter of the bundle without one is
zeroed. -/
def Group.writeShadows (g : Group) (o : MemOp) : Group :=
  match o.word with
  | .vldf .. =>
    ((o.res.zip (List.range o.res.length)).flatMap (fun r => (List.range 4).map (fun q => (r.1.1, r.2, q)))).foldl (fun x e =>
      let part := (List.range 16).map (fun i => 16 * e.2.2 + i)
      if part.any (fun l => o.lanes.getLsbD l) then x.writeDesc e.1 e.2.2 (o.descs.getD (4 * e.2.1 + e.2.2) 0)
      else if o.pfx.z && part.any (fun l => o.bundle.getLsbD l) then x.writeDesc e.1 e.2.2 0
      else x) g
  | _ => g

/-- The twin's word that the primary performs alone takes the primary's result (R368, R370): its destinations are written as the word's own
completion writes them, and its flag counts up and down at once. -/
def State.takeForwarded (s : State) (u : Issuer) (i : Instr) (e : Forwarded) : State :=
  let s0 := s.modTeam u.g.team (fun t => { t with forwarded := t.forwarded.erase e })
  let o := { u.capture i with res := e.res, sres := e.sres, descs := e.descs }
  -- a forwarded atomic enters the twin's signature with the twin's operand (R369)
  let s1 := if (atomicScope i).isNone then s0
    else (s0.opElems u.gid o).foldl (fun t x => t.sign u.g.team x.addr.toNat x.n true (o.elemData x.k x.lane x.n)) s0
  s1.modGroup u.gid (fun g => { (((g.writeResults o).writeShadows o).recapture s.cycle) with fwdNo := g.fwdNo + 1 })

/-- The result of the primary that the word takes, when the group is a twin's. -/
def State.forwardedResult (s : State) (u : Issuer) (i : Instr) : Option Forwarded :=
  let t := s.uTeam u
  if t.paired && !t.primary && (isMatched i || s.isForwarded u i) then s.forwardedFor u else none

/-- The effect of a word: its own, or the primary's result. -/
def State.effect (s : State) (u : Issuer) (i : Instr) (eff : Issuer → State → Eff) : Eff :=
  match s.forwardedResult u i with
  | some e => .ok (s.takeForwarded u i e)
  | none => eff u s

/-- Issues a word: the checks in order, the waits, the effect. -/
def issue (i : Instr) (s : State) (eff : Issuer → State → Eff) : Result :=
  match s.issuer? with
  | none => .fault .noIssuer
  | some u =>
    match checks i u s with
    | some f => .next (s.trapAtIssue u f)
    | none =>
      match waits i u s with
      | some r => .next (s.emptyTurn u r)
      | none => .next (finish u i (s.effect u i eff))

/-! ## Results of fixed-latency words -/

/-- A uniform result: written at issue, since no other word of the group can issue before it is available (R50, R150). -/
def State.setS (s : State) (u : Issuer) (d : BitVec 6) (x : SReg) : State := s.modGroup u.gid (fun g => g.writeS d.toNat x)
/-- An untagged uniform result (R151). -/
def State.setSV (s : State) (u : Issuer) (d : BitVec 6) (v : DWord) : State := s.setS u d { val := v }
/-- A mask result of a uniform word (R168). -/
def State.setK (s : State) (u : Issuer) (k : BitVec 3) (m : Mask) : State := s.modGroup u.gid (fun g => g.writeK k.toNat m)

/-- A lane word of n register-operations enters the plot's backend (R48); answers the entry cycles. -/
def State.enterBackend (s : State) (p n busy : Nat) : State × List Nat :=
  let x := s.plot p
  let es := entryCycles busy s.cycle n 0 x.dataFree
  let last := es.getLast?.getD s.cycle
  (s.modPlot p (fun y => { y with
      backend := (y.backend.filter (fun b => decide (s.cycle < b.last))) ++ [{ first := es.getD 0 s.cycle, last := last, entries := es, busyTo := last + busy }],
      dataFree := last + busy }), es)

/-- One pending result: scheduled for its cycle (R126). -/
def State.pendOne (s : State) (gid : Nat) (p : Pending) : State :=
  let k := s.nextId
  (s.bump.modGroup gid (fun g => { g with pend := tabPut g.pend k p })).atCycle p.avail .laneResultWrite { a := gid, b := k }

/-- Every result of a lane word: operation j is available its latency after its entry (R49); a compare's one result, after its
last operation. -/
def State.pendAll (s : State) (u : Issuer) (i : Instr) (ps : List Pending) : State :=
  match laneForm i with
  | none => s
  | some l =>
    let r := s.enterBackend u.g.plot l.regOps l.busy
    let skip := l.regOps - ps.length
    (ps.zip (List.range ps.length)).foldl (fun t e =>
      t.pendOne u.gid { e.1 with avail := r.2.getD (skip + e.2) s.cycle + l.lat }) r.1

/-! ## Variable-latency words (R57, R58) -/

/-- The flag counts up, the operation is in flight, and its first step is due after `n` cycles. -/
def State.startOp (s : State) (u : Issuer) (i : Instr) (n : Nat) (what : Instr) : State :=
  let k := s.nextId
  let t := s.uTeam u
  let mine := t.paired && t.primary && (isMatched i || s.isForwarded u i)
  let o := { u.capture i with fwd := if mine then some u.g.fwdNo else none }
  (s.bump.modGroup u.gid (fun g => { (g.incF o.flag) with
    ops := tabPut g.ops k o, fwdNo := if mine then g.fwdNo + 1 else g.fwdNo, pairOk := g.pairOk && !isMatched i })).after n what { a := u.gid, b := k }

/-- As `startOp`, `n` cycles after the access has taken its path. Without a path its message is dropped, and nothing performs the operation (R16). -/
def State.startAlong (s : State) (u : Issuer) (i : Instr) (r : Road) (n : Nat) (what : Instr) : State :=
  match r with
  | .ok c => s.startOp u i (c + n) what
  | .error p => ((s.startOp u i n what).unschedule what { a := u.gid, b := s.nextId }).dropAt p

/-- The primary sends a result to its twin, over the path in force between their plots (R368). -/
def State.forward (s : State) (gid : Nat) (e : Forwarded) : State :=
  let g := s.group gid
  let t := s.team g.team
  let s1 := s.modTeam g.team (fun y => { y with forwarded := y.forwarded ++ [{ e with rank := g.rank }] })
  match t.twin with
  | some w => s1.send t.plot (s.team w).plot 0 .pairForward { a := gid, b := e.no }
  | none => s1

/-- The primary performs a forwarded word at its issue or while it holds the group, and sends its result. -/
def State.forwardNow (s : State) (gid : Nat) (x : Option SReg) : State :=
  (s.modGroup gid (fun g => { g with fwdNo := g.fwdNo + 1, pairOk := false })).forward gid { rank := 0, no := (s.group gid).fwdNo, sres := x }

/-- An operation ends: its result goes to the twin, its flag counts down, and the group may have exited (R57, R63). -/
def State.endOp (s0 : State) (gid op : Nat) : State :=
  let o := tabFind (s0.group gid).ops op
  let s := match o with
    | some x => (match x.fwd with | some n => s0.forward gid { rank := 0, no := n, sres := x.sres, res := x.res, descs := x.descs } | none => s0)
    | none => s0
  (s.modGroup gid (fun g => { (g.decF (o.bind (fun x => x.flag))) with ops := tabDel g.ops op })).exitCheck gid

def State.modOp (s : State) (gid op : Nat) (f : MemOp → MemOp) : State :=
  s.modGroup gid (fun g => match tabFind g.ops op with | some o => { g with ops := tabPut g.ops op (f o) } | none => g)

end Sys2Proof.Machine
end

