-- ==== Sys2Proof/Machine/Holds.lean ====
section
/-! DEFINITION. The holding forms (R152): arriving at barriers (R174, R175), fences (R177), launch waits (R178), host signals
(R179), tiles (R215, R217), and what ends each hold. A hold whose condition holds at the end of a cycle ends there, so that the
group issues its next word in its first slot after it. -/

namespace Sys2Proof.Machine

/-! ## Earlier memory instructions (R177, R174) -/

/-- Memory instructions in the sense of R177: not copies, drains, passes or slot forms. DEDUCED: log entry 30. -/
def isMemWord (i : Instr) : Bool :=
  isAccess i || (match i with | .pub .. | .pfh .. | .svget .. | .launch .. => true | _ => false)

/-- An operation that a fence or an arrival does not wait for: it is no memory instruction, or it has been performed (a load or an
atomic has returned its data, a store is placed). -/
def MemOp.settled (o : MemOp) : Bool := !isMemWord o.word || (isStoreForm o.word && decide (o.st = .performed))

/-- Every memory instruction of the group has been performed. -/
def Group.opsPerformed (g : Group) (but : Option Nat) : Bool :=
  g.ops.all (fun e => decide (some e.1 = but) || e.2.settled)

/-- An entry of the operand log is not FREE, or a failure waits for one (R343). -/
def Group.logBusy (g : Group) : Bool := !g.log.isEmpty || !g.heldFails.isEmpty

/-- Every memory instruction that the group issued before operation `n` has been performed, those that its log holds included. -/
def Group.settledBefore (g : Group) (n : Nat) : Bool :=
  g.ops.all (fun e => decide (n ≤ e.1) || e.2.settled) && g.log.all (fun e => decide (n ≤ e.2.op)) && g.heldFails.all (fun o => decide (n ≤ o))

/-- A commit of a team begun for this group waits for its twin (R291). -/
def State.pairPending (s : State) (tid : Nat) : Bool := (s.team tid).commits.any (fun c => c.unpaired)

/-! ## Barriers -/

/-- The longest path between two plots of a cluster instance, in hops (R175). -/
def State.clusterHops (s : State) (cid : Nat) : Nat :=
  let ps := (s.cluster cid).teams.map (fun t => (s.team t).plot)
  ps.foldl (fun m p => ps.foldl (fun n q => match s.path p q with | some (h, _) => Nat.max n h | none => n) m) 0

/-- Cycles from the completion of a phase to the first issue of a group held on it (R175). -/
def State.barrierDelay (s : State) (tid : Nat) (clu : Bool) : Nat :=
  if clu then 16 + 2 * s.clusterHops (s.team tid).cluster else 8

/-- The group has arrived in the barrier's phase, or an arrival of it is on its way to count there. -/
def State.hasArrived (s : State) (gid tid : Nat) (clu : Bool) (b : Nat) : Bool :=
  (s.barrier tid clu b).arrived.contains gid || (s.group gid).arrivals.any (fun a => decide (a.b = b) && decide (a.clu = clu))

/-- What a group does after its arrival has counted: `bar` holds it on the phase it arrived in, also when that arrival completes the
phase (DEDUCED: R174 makes bar one word, R175 excepts no group from the release); after `barr` it goes on as it is. -/
def State.afterArrival (s : State) (gid : Nat) (clu wait : Bool) (b phase : Nat) : State :=
  s.modGroup gid (fun g => if wait then { g with hold := some (.barWait b clu phase) }
    else { g with arrivals := g.arrivals.filter (fun a => !(decide (a.b = b) && decide (a.clu = clu))) })

/-- The arrival counts (R174). DEDUCED: log entry 17. -/
def State.countArrival (s : State) (gid : Nat) (clu wait : Bool) (b : Nat) : State :=
  let tid := (s.group gid).team
  let phase := (s.barrier tid clu b).phase
  (s.barrierArrive gid tid clu b).afterArrival gid clu wait b phase

/-- A group begins to arrive: it waits for a phase in which it has already arrived; it arrives at once when nothing is outstanding and
the buffer is empty; otherwise the arrival waits for the group's earlier accesses and the drain: `bar` holds the group until then,
`barr` lets it go on (R152, R174). DEDUCED: log entry 17. -/
def State.beginArrival (s : State) (gid : Nat) (clu wait : Bool) (b : Nat) : State :=
  let g := s.group gid
  let t := s.team g.team
  if s.hasArrived gid g.team clu b then
    s.modGroup gid (fun x => { x with hold := some (.barPrev b clu wait (s.barrier g.team clu b).phase) })
  else if g.opsPerformed none && !g.logBusy && t.cb.isEmpty && t.commits.isEmpty && !t.paired then s.countArrival gid clu wait b
  else if wait then s.modGroup gid (fun x => { x with hold := some (.barDrain b clu false) })
  else s.modGroup gid (fun x => { x with arrivals := x.arrivals ++ [{ b := b, clu := clu, before := s.nextId }] })

/-- The phase of a hold is complete and its delay has passed at the end of this cycle (R175). -/
def State.phasePassed (s : State) (tid : Nat) (clu : Bool) (b phase delay : Nat) : Bool :=
  let x := s.barrier tid clu b
  decide (phase < x.phase) && decide (x.doneAt + delay ≤ s.cycle + 1)

/-! ## Launches (R36, R38, R178) -/

/-- Serial p is older than q (R36). -/
def serialOlder (p q : Nat) : Bool := let d := (q + 2 ^ 32 - p) % 2 ^ 32; decide (1 ≤ d) && decide (d < 2 ^ 31)

/-- A launch of a context is complete; answers its status, 0 when it is no longer remembered (R38, R178). -/
def State.launchStatus (s : State) (c serial : Nat) : Option Nat :=
  let x := s.ctx c
  match x.complete.find? (fun e => decide (e.1 = serial)) with
  | some e => some e.2
  | none =>
    if x.launches.any (fun l => decide (l.serial = serial)) then none
    else if serialOlder serial x.nextSerial then some 0 else none

/-! ## Tiles (R214-R217) -/

/-- The effect of tset, tdrop and tdrop.free on their tile; none while the tile holds the form. -/
def State.tileForm (s : State) (gid : Nat) (i : Instr) : Option State :=
  let g := s.group gid
  -- the tile entries of a team that a swap has carried out, or is still bringing in, are not on the plot (R355)
  if g.loc ≠ .active ∨ ((s.plot g.plot).spill ≠ .idle ∧ (s.plot g.plot).spill ≠ .restoreSet) then none else
  let busy := fun (t : Nat) => match s.tileAt g.plot t with
    | some e => decide (e.team = g.team) && (decide (e.st = .filling) || decide (e.st = .draining))
    | none => false
  let used := fun (n : Nat) => s.groups.any (fun e => decide (e.2.team = g.team) && !e.2.pgc && e.2.ops.any (fun o => decide (tileOf o.2.word = some n)))
  let put := fun (f : Tab Tile → Tab Tile) => s.modPlot g.plot (fun x => { x with tiles := f x.tiles })
  match i with
  | .tset t a b r =>
    if busy t.toNat then none
    else
      let off := (g.readS a.toNat).val.toNat / 64
      let len := (g.readS b.toNat).val.toNat / 64
      some (put (fun m => tabPut m t.toNat { team := g.team, off := off, len := len, st := if r = 1 then .ready else .empty }))
  | .tdrop t =>
    if busy t.toNat || used t.toNat then none
    else some (put (fun m => match tabFind m t.toNat with | some e => tabPut m t.toNat { e with st := .empty } | none => m))
  | .tdropFree t =>
    if busy t.toNat || used t.toNat then none else some (put (fun m => tabDel m t.toNat))
  | _ => some s

/-! ## Host signals (R179, R390) -/

/-- hsig: a vector that the context does not enable is discarded and counted. -/
def State.hostSignal (s : State) (c n : Nat) : State :=
  if (s.ctx c).vecEn.getLsbD n then s.raiseVector c n
  else s.modCtx c (fun x => { x with vecDrop := if x.vecDrop = BitVec.allOnes 64 then x.vecDrop else x.vecDrop + 1 })

/-! ## Charges (R152) -/

/-- An operation whose failure stands in the operand log or waits for it, or whose page a pmove holds (R338, R343). -/
def Group.opHeld (g : Group) (n : Nat) : Bool :=
  match tabFind g.ops n with
  | some o => o.moving || (match o.st with | .logged _ => true | .heldFail _ => true | _ => false)
  | none => false

/-- A drain of a team is held: by a fault that the PGC resolves, by a full fault queue (R334), or by a pmove (R338). -/
def State.drainHeld (s : State) (tid : Nat) : Bool :=
  let t := s.team tid
  t.cb.any (fun e => e.commit.isSome && (e.faulted || (!s.pgc.moving.isEmpty && s.isMoving t.ctx (e.blk * 64))))

/-- The reason charged while a form holds its group: the lowest code of those that apply (R404). DEDUCED: log entry 39. -/
def State.holdReason (s : State) (g : Group) (h : Hold) : Nat :=
  let faulty := fun (x : Bool) (r : Nat) => if x then Nat.min stFault r else r
  match h with
  | .flags _ => stFlagWait
  | .barPrev .. | .barDrain .. | .barWait .. => stBarrier
  | .mwait .. => stMwait
  | .fence .. => faulty (g.logBusy || s.drainHeld g.team) (if s.pairPending g.team then stPair else stOther)
  | .pubWalk n => faulty (g.opHeld n) (match tabFind g.ops n with | some o => if 2 ≤ o.left then stPair else stGleaner | none => stGleaner)
  | .objForm n | .ostat n => faulty (g.opHeld n) stOther
  | .tile _ => stTile
  | .racq .. => stRegRow
  | _ => stOther

/-- A copy, or a drain that is not known to go to registers (`left` 1), of the group is outstanding (R231). DEDUCED: log entry 30. -/
def Group.engineBusy (g : Group) : Bool :=
  g.ops.any (fun e => match e.2.word with | .cpy .. | .cpyCe .. | .cpyq .. => true | .mxd .. => decide (e.2.left = 0) | _ => false)

/-! ## The end of a hold -/

/-- The hold of a group ends. -/
def State.unhold (s : State) (gid : Nat) : State := s.modGroup gid (fun g => { g with hold := none })

/-- A fence has a release part (R177): every kind but acq. -/
def fenceReleases (kind : Nat) : Bool := decide (kind ≠ 2)

/-- Ends or advances the hold of a group at the end of a cycle. The new arrival of a `barr` held on the phase before begins with its release (R174, R175).
DESIGN CHOICE: log entry 106. -/
def State.releaseHold (s : State) (gid : Nat) : State :=
  let g := s.group gid
  let done := s.unhold gid
  match g.hold with
  | none => s
  | some h =>
    match h with
    | .flags m => if (List.range 12).all (fun n => !m.getLsbD n || decide (g.readF n = 0)) then done else s
    | .barPrev b clu wait ph =>
      if s.phasePassed g.team clu b ph (s.barrierDelay g.team clu) then (s.unhold gid).beginArrival gid clu wait b else s
    | .barDrain b clu begun =>
      if !begun && g.opsPerformed none && !g.logBusy then
        (s.modGroup gid (fun x => { x with hold := some (.barDrain b clu true) })).askCommit g.team
      else s
    | .barWait b clu ph => if s.phasePassed g.team clu b ph (s.barrierDelay g.team clu) then done else s
    | .until c => if c ≤ s.cycle + 1 then done else s
    | .status d v c => if c ≤ s.cycle + 1 then (s.modGroup gid (fun x => x.writeSV d.toNat v)).unhold gid else s
    | .fence kind scope begun fin =>
      match fin with
      | some c => if c ≤ s.cycle + 1 then done else s
      | none =>
        if !fenceReleases kind then done
        else if !begun && g.opsPerformed none && !g.logBusy then
          if scope < 2 ∨ g.pgc then done
          else (s.modGroup gid (fun x => { x with hold := some (.fence kind scope true none) })).askCommit g.team
        else s
    | .lwait d serial =>
      match s.launchStatus g.ctx serial with
      | some st => (s.modGroup gid (fun x => x.writeSV d.toNat (BitVec.ofNat 64 (serial + st * 2 ^ 32)))).unhold gid
      | none => s
    | .hsig n =>
      if g.pgc then (({ s with fresh := s.fresh + 1 } : State).hostSignal ((Config.freeWord s.fresh).toNat % 64) n).unhold gid else
      let t := s.team g.team
      let s1 := (s.markCommitted g.team).hostSignal g.ctx n
      if t.paired then (s1.forwardNow gid none).unhold gid else s1.unhold gid
    | .icinv acks => if acks = 0 then done else s
    | .fenceng =>
      if g.engineBusy then s else done
    | .tile i =>
      match s.tileForm gid i with
      | some t => t.unhold gid
      | none => s
    | _ => s

/-- A pub whose walk is done and whose group has performed its earlier memory instructions asks for its commit (R212): its phase
goes from 2 to 3. -/
def State.pubPoint (s : State) (gid : Nat) : State :=
  let g := s.group gid
  g.ops.foldl (fun t e =>
    match e.2 with
    | { word := .pub .., left := 2, .. } =>
      if (g.ops.filter (fun x => decide (x.1 < e.1))).all (fun x => x.2.settled) then
        (t.modOp gid e.1 (fun o => { o with left := 3 })).askCommit g.team
      else t
    | _ => t) s

/-- The arrivals of a group whose earlier memory instructions have been performed ask for their commits (R174). -/
def State.arrivalPoints (s : State) (gid : Nat) : State :=
  let g := s.group gid
  let due := fun (a : Arrival) => decide (a.st = 0) && g.settledBefore a.before
  if g.arrivals.any due then
    (s.modGroup gid (fun x => { x with arrivals := x.arrivals.map (fun a => if due a then { a with st := 1 } else a) })).askCommit g.team
  else s

/-- Every group's hold at the end of a cycle, and the commit points that its arrivals and its pubs wait for. DESIGN CHOICE: log entry 27. -/
def State.releaseHolds (s : State) : State :=
  let s1 := (s.groups.filter (fun e => e.2.hold.isSome)).foldl (fun t e => t.releaseHold e.1) s
  let s2 := (s1.groups.filter (fun e => !e.2.arrivals.isEmpty)).foldl (fun t e => t.arrivalPoints e.1) s1
  (s2.groups.filter (fun e => e.2.ops.any (fun o => decide (o.2.left = 2)))).foldl (fun t e => t.pubPoint e.1) s2

end Sys2Proof.Machine
end

