-- ==== Sys2Proof/Machine/Sfu.lean ====
section
/-! DEFINITION. The special functions (R136, R137). A function's exact value is found to more than 400 bits, as a magnitude
with a sticky last bit; the delivered value is a free choice among the FP32 values within the bound, or the one value that a
rule fixes. -/

namespace Sys2Proof.Machine

/-! ## Fixed point with 512 fraction bits -/

def fxBits : Nat := 512
def fxOne : Nat := 2 ^ fxBits
def fxMul (a b : Nat) : Nat := a * b / fxOne

/-- Σ of terms t(k+1) = step k t(k), from t(0), over n terms. -/
def series (step : Nat → Int → Int) : Nat → Nat → Int → Int
  | 0, _, _ => 0
  | n + 1, k, t => t + series step n (k + 1) (step k t)

/-- Σ z^(2k+1)/(2k+1), with or without alternating signs. -/
def oddSeries (alt : Bool) (z : Nat) (n : Nat) : Int :=
  let z2 := fxMul z z
  (List.range n).foldl (fun (acc : Int × Nat) k =>
    let t : Int := (acc.2 / (2 * k + 1) : Nat)
    (acc.1 + (if alt && decide (k % 2 = 1) then -t else t), fxMul acc.2 z2)) (0, z) |>.1

def fxLn2 : Nat := (2 * oddSeries false (fxOne / 3) 170).toNat
def fxPi : Nat := (16 * oddSeries true (fxOne / 5) 120 - 4 * oddSeries true (fxOne / 239) 40).toNat

/-- e^y for 0 ≤ y. -/
def fxExp (y : Nat) : Nat :=
  let k := y / fxLn2
  let r := y % fxLn2
  (series (fun k t => t * r / fxOne / (k + 1)) 110 0 fxOne).toNat * 2 ^ k

/-- sin θ for 0 ≤ θ ≤ π/2. -/
def fxSin (t : Nat) : Nat :=
  (series (fun k x => -(x * fxMul t t / fxOne / ((2 * k + 2) * (2 * k + 3)))) 60 0 t).toNat

/-- A magnitude m·2^e as a fixed-point number, truncated. -/
def fxOf (m : Nat) (e : Int) : Nat := if 0 ≤ e + fxBits then m * 2 ^ (e + fxBits).toNat else m / 2 ^ (-(e + fxBits)).toNat

/-- A fixed-point number that was truncated, with a sticky bit. -/
def fxVal (neg : Bool) (v : Nat) : Val := .fin neg (2 * v + 1) (-(fxBits : Int) - 1)

/-! ## The exact values -/

/-- 2^x for a finite x below 200 in magnitude on the low side. -/
def exactExp2 (neg : Bool) (m : Nat) (e : Int) : Val :=
  let y := fxOf m e
  let whole := y / fxOne
  let part := fxMul (y % fxOne) fxLn2
  if neg then
    (if 300 ≤ whole then .fin false 1 (-300)
     else if y % fxOne = 0 then .fin false 1 (-(whole : Int))
     else fxVal false (fxOne * fxOne / fxExp part / 2 ^ whole))
  else if 300 ≤ whole then .fin false 1 300
  else if y % fxOne = 0 then .fin false 1 whole
  else fxVal false (fxExp part * 2 ^ whole)

/-- log2 of a positive value. -/
def exactLog2 (m : Nat) (e : Int) : Val :=
  let n := topExp m e
  let u := fxOf m (e - n)
  if u = fxOne then intV n
  else
    let z := (u - fxOne) * fxOne / (u + fxOne)
    let f := (2 * oddSeries false z 170).toNat * fxOne / fxLn2
    let t : Int := n * fxOne + f
    if t < 0 then fxVal true (-t).toNat else fxVal false t.toNat

/-- e^(−y), y ≥ 0. -/
def fxExpNeg (y : Nat) : Nat := if 700 * fxOne < y then 0 else fxOne * fxOne / fxExp y

/-- tanh of a magnitude. -/
def exactTanh (neg : Bool) (m : Nat) (e : Int) : Val :=
  if 6 ≤ topExp m e then .fin neg (2 ^ 100 - 1) (-100)
  else
    let q := fxExpNeg (2 * fxOf m e)
    fxVal neg ((fxOne - q) * fxOne / (fxOne + q))

/-- erf of a magnitude. -/
def exactErf (neg : Bool) (m : Nat) (e : Int) : Val :=
  let x := fxOf m e
  if 6 * fxOne < x ∨ 10 ≤ topExp m e then .fin neg (2 ^ 60 - 1) (-60)
  else
    let x2 := fxMul x x
    let s := ((List.range 260).foldl (fun (acc : Int × Nat) n =>
      let t : Int := (acc.2 / (2 * n + 1) : Nat)
      (acc.1 + (if n % 2 = 1 then -t else t), fxMul acc.2 x2 / (n + 1))) ((0 : Int), x)).1.toNat
    fxVal neg (2 * s * fxOne / isqrt (fxPi * fxOne))

/-- 1/(1 + e^(−x)). -/
def exactSigm (neg : Bool) (m : Nat) (e : Int) : Val :=
  if 10 ≤ topExp m e then (if neg then .fin false 1 (-300) else .fin false (2 ^ 100 - 1) (-100))
  else
    let q := fxExpNeg (fxOf m e)
    if neg then (if q = 0 then .fin false 1 (-300) else fxVal false (q * fxOne / (fxOne + q)))
    else if q = 0 then .fin false (2 ^ 100 - 1) (-100)
    else fxVal false (fxOne * fxOne / (fxOne + q))

/-- sin(πr) and cos(πr) for x = 2k + r (R137): quarter turns and the rest. `c` for the cosine. -/
def exactTrig (c : Bool) (neg : Bool) (m : Nat) (e : Int) : Val :=
  if 1 ≤ e then .fin (if c then false else neg) (if c then 1 else 0) 0
  else
    let k := (-e).toNat
    -- |x| modulo 2, in units of 2^-k
    let u := m % 2 ^ (k + 1)
    let half := 2 ^ k
    -- quadrant q of a half-unit each: |x| mod 2 = q/2 + rest
    let q := 2 * u / half
    let rest := 2 * u % half
    -- sin(π|x|) by quadrant; the cosine is one quadrant ahead
    let qq := if c then (q + 1) % 4 else q
    let sgn := decide (2 ≤ qq) != (if c then false else neg)
    if rest = 0 then (if qq % 2 = 0 then .fin (if c then false else neg) 0 0 else .fin sgn 1 0)
    else
      let r := if qq % 2 = 0 then rest else half - rest
      fxVal sgn (fxSin (fxMul fxPi (fxOf r (-(k : Int) - 1))))

/-! ## Delivery -/

/-- A code on the line of FP32 values. -/
def ordOf (c : Nat) : Int := if c < 2 ^ 31 then (c : Int) else -((c - 2 ^ 31 : Nat) : Int)
def ofOrd (neg : Bool) (i : Int) : Nat := if i = 0 then signBit f32 neg else if i < 0 then 2 ^ 31 + i.natAbs else i.natAbs

/-- |c − v| ≤ b ulp of v (R136). -/
def withinUlp (b : Nat) (v c : Val) : Bool :=
  match v, c with
  | .fin n1 m1 e1, .fin n2 m2 e2 =>
    let te := topExp m1 e1
    let u : Int := if te < -126 then -149 else te - 23
    let e := minInt (minInt e1 e2) u
    decide ((sm n1 m1 e1 e - sm n2 m2 e2 e).natAbs ≤ b * 2 ^ (u - e).toNat)
  | _, _ => false

/-- The FP32 codes within b ulp of an exact value, the nearest first. DESIGN CHOICE: log entry 15. -/
def sfuCandidates (b : Nat) (v : Val) : List Nat :=
  let base := (deliver f32 .rne true v).1
  let offs : List Int := [0, 1, -1, 2, -2, 3, -3, 4, -4]
  ((offs.map (fun d => ofOrd v.sign (ordOf base + d))).filter (fun c =>
    decide (c % 2 ^ 31 ≤ maxMag f32) && withinUlp b v (unpack f32 c)))

/-- Flags of an exact finite result (R136). -/
def sfuFlags (v : Val) : Fp :=
  match v with
  | .fin neg m e =>
    if m = 0 then 0
    else if 128 ≤ topExp m e then fpOverflow ||| fpInexact
    else if topExp m e < -126 && (roundTo .rtz neg m e (-149)).2 then fpUnderflow ||| fpInexact
    else 0
  | _ => 0

/-- Delivers an exact value under a bound of b ulp; b = 0 for a result that a rule fixes, correctly rounded. DESIGN CHOICE: log entry 15. -/
def sfuDeliver (b n : Nat) (v : Val) : Nat × Fp :=
  let fl := sfuFlags v
  if fl &&& fpOverflow ≠ 0 then (infCode f32 v.sign, fl)
  else if b = 0 then ((deliver f32 .rne false v).1, fl)
  else
    let l := sfuCandidates b v
    (l.getD (Config.freeSfu n % Nat.max 1 l.length) (deliver f32 .rne false v).1, fl)

/-- The functions of R136 on one FP32 element; `n` numbers the free choice. -/
def sfu (op n : Nat) (x : Nat) : Nat × Fp :=
  let v := unpack f32 x
  match v with
  | .nan s => (canonNan f32, if s then fpInvalid else 0)
  | .inf neg =>
    match op with
    | 0 => (signBit f32 neg, 0)
    | 1 => if neg then (canonNan f32, fpInvalid) else (0, 0)
    | 2 => if neg then (canonNan f32, fpInvalid) else (infCode f32 false, 0)
    | 3 => if neg then (0, 0) else (infCode f32 false, 0)
    | 4 => if neg then (canonNan f32, fpInvalid) else (infCode f32 false, 0)
    | 5 => (canonNan f32, fpInvalid)
    | 6 => (canonNan f32, fpInvalid)
    | 9 => if neg then (0, 0) else (0x3F800000, 0)
    | _ => (signBit f32 neg + 0x3F800000, 0)
  | .fin neg m e =>
    match op with
    | 0 => if m = 0 then (infCode f32 neg, fpDivzero) else sfuDeliver 1 n (divV (.fin false 1 0) v).1
    | 1 =>
      if m = 0 then (infCode f32 neg, fpDivzero) else if neg then (canonNan f32, fpInvalid)
      else
        -- 1/√x = √(1/x), by the root of a quotient with 400 bits
        let k : Nat := if (400 - e) % 2 = 0 then 400 else 401
        let q := isqrt (2 ^ (2 * k) / m)
        let ex := decide (q * q * m = 2 ^ (2 * k))
        sfuDeliver 1 n (if e % 2 = 0 then .fin false (2 * q + if ex then 0 else 1) (-(k : Int) - e / 2 - 1)
          else
            let q2 := isqrt (2 ^ (2 * k) / (2 * m))
            .fin false (2 * q2 + if q2 * q2 * (2 * m) = 2 ^ (2 * k) then 0 else 1) (-(k : Int) - (e - 1) / 2 - 1))
    | 2 => let r := sqrtV v; let d := deliver f32 .rne false r.1; (d.1, r.2)
    | 3 =>
      let r := if m = 0 then Val.fin false 1 0 else exactExp2 neg m e
      let whole := decide (m = 0) || decide (0 ≤ e) || decide (m % 2 ^ (-e).toNat = 0)
      let exact := whole && decide (sfuFlags r = 0)
      sfuDeliver (if exact then 0 else 2) n r
    | 4 =>
      if m = 0 then (infCode f32 true, fpDivzero) else if neg then (canonNan f32, fpInvalid)
      else sfuDeliver (if m = 2 ^ Nat.log2 m then 0 else 2) n (exactLog2 m e)
    | 5 => sfuDeliver (if trigFixed m e then 0 else 1) n (exactTrig false neg m e)
    | 6 => sfuDeliver (if trigFixed m e then 0 else 1) n (exactTrig true neg m e)
    | 7 => if m = 0 then (signBit f32 neg, 0) else sfuDeliver 2 n (exactTanh neg m e)
    | 8 => if m = 0 then (signBit f32 neg, 0) else sfuDeliver 2 n (exactErf neg m e)
    | _ => if m = 0 then sfuDeliver 2 n (.fin false 1 (-1)) else sfuDeliver 2 n (exactSigm neg m e)
where
  /-- x is a multiple of 0.25 (R137) -/
  trigFixed (m : Nat) (e : Int) : Bool := decide (-2 ≤ e) || decide (m % 2 ^ (-e - 2).toNat = 0)

end Sys2Proof.Machine
end

