-- ==== Sys2Proof/Machine/Lane.lean ====
section
/-! DEFINITION. The common body of the lane words (R125, R142): from the results of each destination element in the 64 lanes to
the pending results of each register, under PFX.K and PFX.Z (R77) and with the FPSTAT bits of the included lanes (R103). -/

namespace Sys2Proof.Machine

/-- The FPSTAT bits of several results. -/
def orFp (l : List Fp) : Fp := l.foldl (fun a b => a ||| b) 0

/-- One destination element: its results in 64 lanes become one pending result per register; the exceptions of the included
lanes go with the first. -/
def Issuer.pendElem (u : Issuer) (o : Opnd) (r c : Nat) (res : List (Nat × Fp)) : List Pending :=
  let at_ := fun (l : Nat) => res.getD l (0, 0)
  let fl := orFp ((laneList u.incl).map (fun l => (at_ l).2))
  (List.range o.w).map (fun j =>
    { reg := .v (o.code + 16 * r + o.w * c + j)
      lanes := if u.pfx.z then u.lanes else u.incl
      vals := mapLanes (fun l => if u.incl.getLsbD l then BitVec.ofNat 32 ((at_ l).1 / 2 ^ (32 * j)) else 0)
      avail := 0
      fp := if j = 0 then fl else 0 })

/-- The elements of an operand, row by row. -/
def Opnd.elems (o : Opnd) : List (Nat × Nat) := (List.range o.rows).flatMap (fun r => (List.range o.cols).map (fun c => (r, c)))

/-- A word whose destination elements are computed lane list by lane list. -/
def laneVec (i : Instr) (s : State) (f : Issuer → LaneForm → Nat → Nat → List (Nat × Fp)) : Result :=
  issue i s (fun u t =>
    match laneForm i with
    | none => .ok t
    | some l =>
      match l.dst with
      | none => .ok t
      | some o => .ok (t.pendAll u i (o.elems.flatMap (fun e => u.pendElem o e.1 e.2 (f u l e.1 e.2)))))

/-- A word whose destination elements are computed lane by lane, in the included lanes. -/
def laneMap (i : Instr) (s : State) (f : Issuer → LaneForm → Nat → Nat → Nat → Nat × Fp) : Result :=
  laneVec i s (fun u l r c => (List.range 64).map (fun k => if u.incl.getLsbD k then f u l r c k else (0, 0)))

/-- Source n of a word. -/
def LaneForm.src (l : LaneForm) (n : Nat) : Opnd := l.srcs.getD n { code := 0 }
/-- The addend: the fourth operand, or D (R72). -/
def LaneForm.addend (l : LaneForm) (p : Prefix) : Opnd := match l.fourth p with | some o => o | none => l.dst.getD { code := 0 }

/-- An element operation on one source. -/
def laneUn (i : Instr) (s : State) (f : Prefix → Nat → Nat × Fp) : Result :=
  laneMap i s (fun u l r c k => f u.pfx (u.g.elem (l.src 0) r c k))

/-- An element operation on two sources. -/
def laneBin (i : Instr) (s : State) (f : Prefix → Nat → Nat → Nat × Fp) : Result :=
  laneMap i s (fun u l r c k => f u.pfx (u.g.elem (l.src 0) r c k) (u.g.elem (l.src 1) r c k))

/-- An element operation on two sources and the addend. -/
def laneTri (i : Instr) (s : State) (f : Prefix → Nat → Nat → Nat → Nat × Fp) : Result :=
  laneMap i s (fun u l r c k => f u.pfx (u.g.elem (l.src 0) r c k) (u.g.elem (l.src 1) r c k) (u.g.elem (l.addend u.pfx) r c k))

/-- The rounding mode of a prefix under a default (R101). -/
def Prefix.mode (p : Prefix) (d : RM) : RM := rmOf p.rm.toNat d

end Sys2Proof.Machine
end

