-- ==== Sys2Proof/Machine/LaneInt.lean ====
section
/-! DEFINITION. The integer lane words, moves, compares and selects (R128-R132). -/

namespace Sys2Proof.Machine

/-- An integer result without exceptions. -/
def w32 (n : Nat) : Nat × Fp := (n % 2 ^ 32, 0)
/-- An integer result given as an integer, modulo 2^32. -/
def i32 (n : Int) : Nat × Fp := (intBits n 32, 0)
/-- The signed value of a 32-bit element. -/
def s32 (n : Nat) : Int := sextInt n 32
/-- A saturated result (R128). -/
def satRes (lo hi v : Int) : Nat × Fp := (intBits (satInt v lo hi) 32, if v < lo ∨ hi < v then fpSaturated else 0)

def execVaddI32 (d a b : BitVec 7) (x : BitVec 3) (s : State) : Result := laneBin (.vaddI32 d a b x) s (fun _ m n => w32 (m + n))
def execVsubI32 (d a b : BitVec 7) (x : BitVec 3) (s : State) : Result := laneBin (.vsubI32 d a b x) s (fun _ m n => i32 ((m : Int) - n))
def execVaddsI32 (d a b : BitVec 7) (x : BitVec 3) (s : State) : Result :=
  laneBin (.vaddsI32 d a b x) s (fun _ m n => satRes (-(2 ^ 31)) (2 ^ 31 - 1) (s32 m + s32 n))
def execVaddsN32 (d a b : BitVec 7) (x : BitVec 3) (s : State) : Result :=
  laneBin (.vaddsN32 d a b x) s (fun _ m n => satRes 0 (2 ^ 32 - 1) ((m : Int) + n))
def execVsubsI32 (d a b : BitVec 7) (x : BitVec 3) (s : State) : Result :=
  laneBin (.vsubsI32 d a b x) s (fun _ m n => satRes (-(2 ^ 31)) (2 ^ 31 - 1) (s32 m - s32 n))
def execVsubsN32 (d a b : BitVec 7) (x : BitVec 3) (s : State) : Result :=
  laneBin (.vsubsN32 d a b x) s (fun _ m n => satRes 0 (2 ^ 32 - 1) ((m : Int) - n))
def execVmulI32 (d a b : BitVec 7) (x : BitVec 3) (s : State) : Result := laneBin (.vmulI32 d a b x) s (fun _ m n => w32 (m * n))
def execVmulhI32 (d a b : BitVec 7) (x : BitVec 3) (s : State) : Result :=
  laneBin (.vmulhI32 d a b x) s (fun _ m n => w32 (intBits (s32 m * s32 n) 64 / 2 ^ 32))
def execVmulhN32 (d a b : BitVec 7) (x : BitVec 3) (s : State) : Result := laneBin (.vmulhN32 d a b x) s (fun _ m n => w32 (m * n / 2 ^ 32))
def execVmadI32 (d a b : BitVec 7) (x : BitVec 3) (s : State) : Result := laneTri (.vmadI32 d a b x) s (fun _ m n c => w32 (m * n + c))
def execVminI32 (d a b : BitVec 7) (x : BitVec 3) (s : State) : Result :=
  laneBin (.vminI32 d a b x) s (fun _ m n => w32 (if s32 m ≤ s32 n then m else n))
def execVmaxI32 (d a b : BitVec 7) (x : BitVec 3) (s : State) : Result :=
  laneBin (.vmaxI32 d a b x) s (fun _ m n => w32 (if s32 m ≤ s32 n then n else m))
def execVminN32 (d a b : BitVec 7) (x : BitVec 3) (s : State) : Result :=
  laneBin (.vminN32 d a b x) s (fun _ m n => w32 (if m ≤ n then m else n))
def execVmaxN32 (d a b : BitVec 7) (x : BitVec 3) (s : State) : Result :=
  laneBin (.vmaxN32 d a b x) s (fun _ m n => w32 (if m ≤ n then n else m))
def execVand (d a b : BitVec 7) (x : BitVec 3) (s : State) : Result := laneBin (.vand d a b x) s (fun _ m n => w32 (m &&& n))
def execVor (d a b : BitVec 7) (x : BitVec 3) (s : State) : Result := laneBin (.vor d a b x) s (fun _ m n => w32 (m ||| n))
def execVxor (d a b : BitVec 7) (x : BitVec 3) (s : State) : Result := laneBin (.vxor d a b x) s (fun _ m n => w32 (m ^^^ n))
def execVandn (d a b : BitVec 7) (x : BitVec 3) (s : State) : Result :=
  laneBin (.vandn d a b x) s (fun _ m n => w32 (m &&& (n ^^^ (2 ^ 32 - 1))))
def execVshl (d a b : BitVec 7) (x : BitVec 3) (s : State) : Result := laneBin (.vshl d a b x) s (fun _ m n => w32 (m * 2 ^ (n % 32)))
def execVshrN32 (d a b : BitVec 7) (x : BitVec 3) (s : State) : Result := laneBin (.vshrN32 d a b x) s (fun _ m n => w32 (m / 2 ^ (n % 32)))
def execVshrI32 (d a b : BitVec 7) (x : BitVec 3) (s : State) : Result :=
  laneBin (.vshrI32 d a b x) s (fun _ m n => i32 (s32 m / (2 ^ (n % 32) : Int)))
def execVrol (d a b : BitVec 7) (x : BitVec 3) (s : State) : Result :=
  laneBin (.vrol d a b x) s (fun _ m n => let k := n % 32; w32 (m * 2 ^ k + m % 2 ^ 32 / 2 ^ (32 - k)))

/-- The single-operand operations on n bits (R129, R156). -/
def unaryOp (n op v : Nat) : Nat :=
  match op with
  | 0 => (2 ^ n - 1) - v % 2 ^ n
  | 1 => intBits (-(v : Int)) n
  | 2 => intBits ((sextInt v n).natAbs : Int) n
  | 3 => popNat n v
  | 4 => clzNat n v
  | 5 => ctzNat n v
  | 6 => brevNat n v
  | _ => bswapNat (n / 8) v

def execVunI (d a b : BitVec 7) (x : BitVec 3) (s : State) : Result := laneUn (.vunI d a b x) s (fun _ m => w32 (unaryOp 32 b.toNat m))
def execVmov (d a : BitVec 7) (x : BitVec 3) (s : State) : Result := laneUn (.vmov d a x) s (fun _ m => w32 m)
def execVli (d n : BitVec 7) (x : BitVec 3) (s : State) : Result := laneMap (.vli d n x) s (fun _ _ _ _ _ => i32 (sextInt n.toNat 7))
def execVlane (d : BitVec 7) (x : BitVec 3) (s : State) : Result := laneMap (.vlane d x) s (fun _ _ _ _ k => w32 k)
/-- vsel (R132): the mask's bit of each bundle lane. -/
def execVsel (d a b : BitVec 7) (k : BitVec 3) (s : State) : Result :=
  laneMap (.vsel d a b k) s (fun u l r c n =>
    w32 (if (u.g.readK u.lanes k.toNat).getLsbD n then u.g.elem (l.src 0) r c n else u.g.elem (l.src 1) r c n))

/-! ## Compares (R131) -/

/-- A compare: the mask bit of an included lane is the conjunction over the block; the exceptions are those of its elements. -/
def laneCompare (i : Instr) (s : State) (f : Nat → Nat → Bool × Fp) : Result :=
  issue i s (fun u t =>
    match laneForm i with
    | none => .ok t
    | some l =>
      let shape := l.src 0
      let one := fun (k : Nat) =>
        shape.elems.map (fun e => f (u.g.elem (l.src 0) e.1 e.2 k) (u.g.elem (l.src 1) e.1 e.2 k))
      let inc := (laneList u.incl).map (fun k => (k, one k))
      let bits := inc.foldl (fun (m : Mask) e => if e.2.all (fun z => z.1) then m ||| laneBit e.1 else m) 0
      let fl := orFp (inc.flatMap (fun e => e.2.map (fun z => z.2)))
      .ok (t.pendAll u i [{ reg := .k (l.km.getD 0), lanes := if u.pfx.z then u.lanes else u.incl, bits := bits, avail := 0, fp := fl }]))

/-- The conditions of R73 on integers. -/
def cmpI (c : Nat) (a b : Int) : Bool :=
  match c with
  | 0 => a = b | 1 => a ≠ b | 2 => a < b | 3 => a ≤ b | 4 => b < a | _ => b ≤ a

def execVcmpI32 (k : BitVec 3) (c : BitVec 4) (a b : BitVec 7) (x : BitVec 3) (s : State) : Result :=
  laneCompare (.vcmpI32 k c a b x) s (fun m n => (cmpI c.toNat (s32 m) (s32 n), 0))
def execVcmpN32 (k : BitVec 3) (c : BitVec 4) (a b : BitVec 7) (x : BitVec 3) (s : State) : Result :=
  laneCompare (.vcmpN32 k c a b x) s (fun m n => (cmpI c.toNat m n, 0))
/-- A float compare in a format. -/
def cmpF (f : Fmt) (c a b : Nat) : Bool × Fp :=
  let m := unpack f a; let n := unpack f b
  (cmpV c m n, sigFl [m, n])
def execVcmpF32 (k : BitVec 3) (c : BitVec 4) (a b : BitVec 7) (x : BitVec 3) (s : State) : Result :=
  laneCompare (.vcmpF32 k c a b x) s (cmpF f32 c.toNat)
def execVcmpF64 (k : BitVec 3) (c : BitVec 4) (a b : BitVec 7) (x : BitVec 3) (s : State) : Result :=
  laneCompare (.vcmpF64 k c a b x) s (cmpF f64 c.toNat)

end Sys2Proof.Machine
end

