-- ==== Sys2Proof/Machine/LaneFloat.lean ====
section
/-! DEFINITION. The float lane words: FP32 and FP64 arithmetic (R133-R135), the special functions (R136, R137), packed 16-bit
arithmetic (R138). -/

namespace Sys2Proof.Machine

/-! ## Element operations -/

/-- Rounds an exact result and adds the operation's own exceptions. -/
def finishF (f : Fmt) (rm : RM) (sat : Bool) (v : Val × Fp) : Nat × Fp :=
  let r := deliver f rm sat v.1
  (r.1, r.2 ||| v.2)

def addF (f : Fmt) (rm : RM) (sat : Bool) (a b : Nat) : Nat × Fp := finishF f rm sat (addV rm (unpack f a) (unpack f b))
def subF (f : Fmt) (rm : RM) (sat : Bool) (a b : Nat) : Nat × Fp := finishF f rm sat (addV rm (unpack f a) (unpack f b).neg)
def mulF (f : Fmt) (rm : RM) (sat : Bool) (a b : Nat) : Nat × Fp := finishF f rm sat (mulV (unpack f a) (unpack f b))
def fmaF (f : Fmt) (rm : RM) (sat : Bool) (a b c : Nat) : Nat × Fp := finishF f rm sat (fmaV rm (unpack f a) (unpack f b) (unpack f c))
def divF (f : Fmt) (rm : RM) (sat : Bool) (a b : Nat) : Nat × Fp := finishF f rm sat (divV (unpack f a) (unpack f b))
def sqrtF (f : Fmt) (rm : RM) (sat : Bool) (a : Nat) : Nat × Fp := finishF f rm sat (sqrtV (unpack f a))

/-- The unary operations of R135. -/
def unaryF (f : Fmt) (rm : RM) (op a : Nat) : Nat × Fp :=
  let top := 2 ^ (f.eb + f.fb)
  match op with
  | 0 => (if a / top % 2 = 1 then a - top else a + top, 0)
  | 1 => (a % top, 0)
  | 2 => finishF f .rne false (rintV .rdn (unpack f a))
  | 3 => finishF f .rne false (rintV .rup (unpack f a))
  | 4 => finishF f .rne false (rintV .rtz (unpack f a))
  | 5 => finishF f .rne false (rintV rm (unpack f a))
  | _ =>
    -- frac sets INEXACT, and no other bit, when rounded
    let v := fracV (unpack f a)
    let r := deliver f .rtz false v.1
    (r.1, (r.2 &&& fpInexact) ||| v.2)

/-! ## FP32 -/

def execVaddF32 (d a b : BitVec 7) (x : BitVec 3) (s : State) : Result := laneBin (.vaddF32 d a b x) s (fun p m n => addF f32 (p.mode .rne) p.sat m n)
def execVsubF32 (d a b : BitVec 7) (x : BitVec 3) (s : State) : Result := laneBin (.vsubF32 d a b x) s (fun p m n => subF f32 (p.mode .rne) p.sat m n)
def execVmulF32 (d a b : BitVec 7) (x : BitVec 3) (s : State) : Result := laneBin (.vmulF32 d a b x) s (fun p m n => mulF f32 (p.mode .rne) p.sat m n)
def execVfmaF32 (d a b : BitVec 7) (x : BitVec 3) (s : State) : Result :=
  laneTri (.vfmaF32 d a b x) s (fun p m n c => fmaF f32 (p.mode .rne) p.sat m n c)
def execVminF32 (d a b : BitVec 7) (x : BitVec 3) (s : State) : Result := laneBin (.vminF32 d a b x) s (fun _ m n => minMaxCode f32 false m n)
def execVmaxF32 (d a b : BitVec 7) (x : BitVec 3) (s : State) : Result := laneBin (.vmaxF32 d a b x) s (fun _ m n => minMaxCode f32 true m n)
def execVunF32 (d a b : BitVec 7) (x : BitVec 3) (s : State) : Result := laneUn (.vunF32 d a b x) s (fun p m => unaryF f32 (p.mode .rne) b.toNat m)
def execVdivF32 (d a b : BitVec 7) (x : BitVec 3) (s : State) : Result := laneBin (.vdivF32 d a b x) s (fun p m n => divF f32 (p.mode .rne) p.sat m n)
def execVcopysignF32 (d a b : BitVec 7) (x : BitVec 3) (s : State) : Result :=
  laneBin (.vcopysignF32 d a b x) s (fun _ m n => (m % 2 ^ 31 + n / 2 ^ 31 % 2 * 2 ^ 31, 0))

/-- Numbers for the free choices of a word: one for each element and lane. DESIGN CHOICE: log entry 5. -/
def sfuNumber (fresh r c k : Nat) : Nat := fresh + (16 * r + c) * 64 + k

/-- vsfu.f32 (R136): where the bound leaves several values, the free value chooses. -/
def execVsfuF32 (d a b : BitVec 7) (x : BitVec 3) (s : State) : Result :=
  laneMap (.vsfuF32 d a b x) { s with fresh := s.fresh + 4096 }
    (fun u l r c k => sfu b.toNat (sfuNumber s.fresh r c k) (u.g.elem (l.src 0) r c k))

/-! ## FP64 -/

def execVaddF64 (d a b : BitVec 7) (x : BitVec 3) (s : State) : Result := laneBin (.vaddF64 d a b x) s (fun p m n => addF f64 (p.mode .rne) p.sat m n)
def execVmulF64 (d a b : BitVec 7) (x : BitVec 3) (s : State) : Result := laneBin (.vmulF64 d a b x) s (fun p m n => mulF f64 (p.mode .rne) p.sat m n)
def execVfmaF64 (d a b : BitVec 7) (x : BitVec 3) (s : State) : Result :=
  laneTri (.vfmaF64 d a b x) s (fun p m n c => fmaF f64 (p.mode .rne) p.sat m n c)
def execVminF64 (d a b : BitVec 7) (x : BitVec 3) (s : State) : Result := laneBin (.vminF64 d a b x) s (fun _ m n => minMaxCode f64 false m n)
def execVmaxF64 (d a b : BitVec 7) (x : BitVec 3) (s : State) : Result := laneBin (.vmaxF64 d a b x) s (fun _ m n => minMaxCode f64 true m n)
def execVunF64 (d a b : BitVec 7) (x : BitVec 3) (s : State) : Result := laneUn (.vunF64 d a b x) s (fun p m => unaryF f64 (p.mode .rne) b.toNat m)
def execVdivF64 (d a b : BitVec 7) (x : BitVec 3) (s : State) : Result := laneBin (.vdivF64 d a b x) s (fun p m n => divF f64 (p.mode .rne) p.sat m n)
def execVsqrtF64 (d a : BitVec 7) (x : BitVec 3) (s : State) : Result := laneUn (.vsqrtF64 d a x) s (fun p m => sqrtF f64 (p.mode .rne) p.sat m)

/-! ## Packed 16-bit (R138) -/

/-- An operation on both halves. -/
def halves2 (f : Nat → Nat → Nat × Fp) (a b : Nat) : Nat × Fp :=
  let lo := f (a % 2 ^ 16) (b % 2 ^ 16)
  let hi := f (a / 2 ^ 16 % 2 ^ 16) (b / 2 ^ 16 % 2 ^ 16)
  (lo.1 + 2 ^ 16 * hi.1, lo.2 ||| hi.2)
def halves3 (f : Nat → Nat → Nat → Nat × Fp) (a b c : Nat) : Nat × Fp :=
  let lo := f (a % 2 ^ 16) (b % 2 ^ 16) (c % 2 ^ 16)
  let hi := f (a / 2 ^ 16 % 2 ^ 16) (b / 2 ^ 16 % 2 ^ 16) (c / 2 ^ 16 % 2 ^ 16)
  (lo.1 + 2 ^ 16 * hi.1, lo.2 ||| hi.2)

def execVaddBf16x2 (d a b : BitVec 7) (x : BitVec 3) (s : State) : Result :=
  laneBin (.vaddBf16x2 d a b x) s (fun p => halves2 (addF bf16 (p.mode .rne) p.sat))
def execVmulBf16x2 (d a b : BitVec 7) (x : BitVec 3) (s : State) : Result :=
  laneBin (.vmulBf16x2 d a b x) s (fun p => halves2 (mulF bf16 (p.mode .rne) p.sat))
def execVfmaBf16x2 (d a b : BitVec 7) (x : BitVec 3) (s : State) : Result :=
  laneTri (.vfmaBf16x2 d a b x) s (fun p => halves3 (fmaF bf16 (p.mode .rne) p.sat))
def execVmaxBf16x2 (d a b : BitVec 7) (x : BitVec 3) (s : State) : Result :=
  laneBin (.vmaxBf16x2 d a b x) s (fun _ => halves2 (minMaxCode bf16 true))
def execVaddF16x2 (d a b : BitVec 7) (x : BitVec 3) (s : State) : Result :=
  laneBin (.vaddF16x2 d a b x) s (fun p => halves2 (addF f16 (p.mode .rne) p.sat))
def execVmulF16x2 (d a b : BitVec 7) (x : BitVec 3) (s : State) : Result :=
  laneBin (.vmulF16x2 d a b x) s (fun p => halves2 (mulF f16 (p.mode .rne) p.sat))
def execVfmaF16x2 (d a b : BitVec 7) (x : BitVec 3) (s : State) : Result :=
  laneTri (.vfmaF16x2 d a b x) s (fun p => halves3 (fmaF f16 (p.mode .rne) p.sat))
def execVmaxF16x2 (d a b : BitVec 7) (x : BitVec 3) (s : State) : Result :=
  laneBin (.vmaxF16x2 d a b x) s (fun _ => halves2 (minMaxCode f16 true))

end Sys2Proof.Machine
end

