-- ==== Sys2Proof/Machine/LaneConv.lean ====
section
/-! DEFINITION. Conversions and packs (R139-R141). -/

namespace Sys2Proof.Machine

/-- Float to an integer of `n` bits (R104). -/
def toInt (src : Fmt) (rm : RM) (lo hi : Int) (n a : Nat) : Nat × Fp :=
  let r := convInt rm lo hi (unpack src a)
  (intBits r.1 n, r.2)

/-- Integer to float (R104). -/
def ofInt (dst : Fmt) (rm : RM) (i : Int) : Nat × Fp := deliver dst rm false (intV i)

/-- Integer to narrower integer, extended to 32 bits. -/
def narrow (sat : Bool) (lo hi : Int) (n : Nat) (i : Int) : Nat × Fp :=
  let r := narrowInt sat lo hi n i
  (intBits r.1 32, r.2)

/-- The low or the high half of D replaced (R139). -/
def intoHalf (hi : Bool) (old : Nat) (r : Nat × Fp) : Nat × Fp :=
  (if hi then old % 2 ^ 16 + 2 ^ 16 * r.1 else old / 2 ^ 16 % 2 ^ 16 * 2 ^ 16 + r.1, r.2)

/-- vcvt by its code (R139): from the bits of A's element and the old bits of D's. -/
def convert (p : Prefix) (code a old : Nat) : Nat × Fp :=
  let near := p.mode .rne
  let zero := p.mode .rtz
  match code with
  | 0x00 => toInt f32 zero (-(2 ^ 31)) (2 ^ 31 - 1) 32 a
  | 0x01 => toInt f32 zero 0 (2 ^ 32 - 1) 32 a
  | 0x02 => ofInt f32 near (s32 a)
  | 0x03 => ofInt f32 near a
  | 0x04 => convF f64 f32 near p.sat a
  | 0x05 => convF f32 f64 .rne false a
  | 0x06 => toInt f64 zero (-(2 ^ 31)) (2 ^ 31 - 1) 32 a
  | 0x07 => ofInt f64 .rne (s32 a)
  | 0x08 => toInt f64 zero 0 (2 ^ 32 - 1) 32 a
  | 0x09 => intoHalf false old (convF f32 bf16 near p.sat a)
  | 0x0A => intoHalf true old (convF f32 bf16 near p.sat a)
  | 0x0B => intoHalf false old (convF f32 f16 near p.sat a)
  | 0x0C => intoHalf true old (convF f32 f16 near p.sat a)
  | 0x0D => convF bf16 f32 .rne false (a % 2 ^ 16)
  | 0x0E => convF bf16 f32 .rne false (a / 2 ^ 16 % 2 ^ 16)
  | 0x0F => convF f16 f32 .rne false (a % 2 ^ 16)
  | 0x10 => convF f16 f32 .rne false (a / 2 ^ 16 % 2 ^ 16)
  | 0x11 => halves2 (fun m _ => convF bf16 f16 near p.sat m) a 0
  | 0x12 => halves2 (fun m _ => convF f16 bf16 near p.sat m) a 0
  | 0x13 => narrow p.sat (-128) 127 8 (s32 a)
  | 0x14 => narrow p.sat (-32768) 32767 16 (s32 a)
  | 0x15 => narrow p.sat 0 255 8 a
  | _ => narrow p.sat 0 65535 16 a

def execVcvt (d a c : BitVec 7) (x : BitVec 3) (s : State) : Result :=
  laneMap (.vcvt d a c x) s (fun u l r e k =>
    convert u.pfx c.toNat (u.g.elem (l.src 0) r e k) (u.g.elem (l.dst.getD { code := 0 }) r e k))

/-- FP32 to a packed element by format code (R141); R104's clamping for the integers. -/
def packTo (p : Prefix) (fmt a : Nat) : Nat × Fp :=
  match fmt with
  | 0x01 => toInt f32 (p.mode .rtz) (-128) 127 8 a
  | 0x02 => toInt f32 (p.mode .rtz) 0 255 8 a
  | 0x03 => toInt f32 (p.mode .rtz) (-8) 7 4 a
  | 0x08 => convF f32 e4m3 (p.mode .rne) p.sat a
  | 0x09 => convF f32 e5m2 (p.mode .rne) p.sat a
  | _ => convF f32 fp4 (p.mode .rne) p.sat a

/-- A packed element to FP32 (R141): always exact. -/
def unpackFrom (fmt a : Nat) : Nat × Fp :=
  match fmt with
  | 0x01 => ofInt f32 .rne (sextInt a 8)
  | 0x02 => ofInt f32 .rne (a % 256 : Nat)
  | 0x03 => ofInt f32 .rne (sextInt a 4)
  | 0x08 => convF e4m3 f32 .rne false a
  | 0x09 => convF e5m2 f32 .rne false a
  | _ => convF fp4 f32 .rne false a

/-- `n` elements of `w` bits packed into one register. -/
def packRow (n w : Nat) (f : Nat → Nat × Fp) : Nat × Fp :=
  (List.range n).foldl (fun (acc : Nat × Fp) i => let r := f i; (acc.1 + r.1 * 2 ^ (w * i), acc.2 ||| r.2)) (0, 0)

def execVpk8 (d a c : BitVec 7) (x : BitVec 3) (s : State) : Result :=
  laneMap (.vpk8 d a c x) s (fun u l r j k => packRow 4 8 (fun i => packTo u.pfx c.toNat (u.g.elem (l.src 0) r (4 * j + i) k)))
def execVpk4 (d a c : BitVec 7) (x : BitVec 3) (s : State) : Result :=
  laneMap (.vpk4 d a c x) s (fun u l r j k => packRow 8 4 (fun i => packTo u.pfx c.toNat (u.g.elem (l.src 0) r (8 * j + i) k)))
def execVupk8 (d a c : BitVec 7) (x : BitVec 3) (s : State) : Result :=
  laneMap (.vupk8 d a c x) s (fun u l r j k => unpackFrom c.toNat (fld (u.g.elem (l.src 0) r (j / 4) k) (8 * (j % 4)) 8))
def execVupk4 (d a c : BitVec 7) (x : BitVec 3) (s : State) : Result :=
  laneMap (.vupk4 d a c x) s (fun u l r j k => unpackFrom c.toNat (fld (u.g.elem (l.src 0) r (j / 8) k) (4 * (j % 8)) 4))

end Sys2Proof.Machine
end

