-- ==== Sys2Proof/Machine/LaneCross.lean ====
section
/-! DEFINITION. The cross-lane words (R142-R145), the distance words (R146, R147) and vsieve (R148). -/

namespace Sys2Proof.Machine

/-! ## Shuffles (R143) -/

/-- A word that copies element e of a source lane; a source outside 0 to 63 gives the lane's own value. -/
def laneShuffle (i : Instr) (s : State) (f : Issuer → LaneForm → Nat → Nat → Nat → Int) : Result :=
  laneMap i s (fun u l r c k =>
    let j := f u l r c k
    let src := if 0 ≤ j ∧ j < 64 then j.toNat else k
    w32 (u.g.elem (l.src 0) r c src))

/-- W≫e. -/
def laneOffset (e : BitVec 3) : Nat := 64 / 2 ^ e.toNat

def execVshflIdx (d a b : BitVec 7) (x : BitVec 3) (s : State) : Result :=
  laneShuffle (.vshflIdx d a b x) s (fun u l r c k => ((u.g.elem (l.src 1) r c k % 64 : Nat) : Int))
def execVshflXor (d a : BitVec 7) (e x : BitVec 3) (s : State) : Result :=
  laneShuffle (.vshflXor d a e x) s (fun _ _ _ _ k => ((k ^^^ laneOffset e : Nat) : Int))
def execVshflUp (d a : BitVec 7) (e x : BitVec 3) (s : State) : Result :=
  laneShuffle (.vshflUp d a e x) s (fun _ _ _ _ k => (k : Int) - laneOffset e)
def execVshflDn (d a : BitVec 7) (e x : BitVec 3) (s : State) : Result :=
  laneShuffle (.vshflDn d a e x) s (fun _ _ _ _ k => (k : Int) + laneOffset e)
def execVswp2 (d a : BitVec 7) (x : BitVec 3) (s : State) : Result :=
  laneShuffle (.vswp2 d a x) s (fun _ _ _ _ k => ((k ^^^ 1 : Nat) : Int))

/-! ## Reductions and scans (R144, R145) -/

/-- The identity of a reduction operation. -/
def redIdentity (op : Nat) : Nat :=
  match op with
  | 0 => 0 | 1 => 0x80000000 | 2 => 0x7FFFFFFF | 3 => 0x80000000 | 4 => 0xFFFFFFFF | 5 => 0 | 6 => 0x7F800000 | _ => 0xFF800000

/-- One step of a reduction. -/
def redOp (op a b : Nat) : Nat × Fp :=
  match op with
  | 0 => w32 (a + b)
  | 1 => addF f32 .rne false a b
  | 2 => w32 (if s32 a ≤ s32 b then a else b)
  | 3 => w32 (if s32 a ≤ s32 b then b else a)
  | 4 => w32 (Nat.min a b)
  | 5 => w32 (Nat.max a b)
  | 6 => minMaxCode f32 false a b
  | _ => minMaxCode f32 true a b

/-- A step of a reduction on values that carry the exceptions of the steps that made them. -/
def redStep (op : Nat) (a b : Nat × Fp) : Nat × Fp := let r := redOp op a.1 b.1; (r.1, r.2 ||| a.2 ||| b.2)

/-- The values that enter a reduction: identities outside the included lanes. -/
def Issuer.redInput (u : Issuer) (o : Opnd) (op r c : Nat) : List (Nat × Fp) :=
  (List.range 64).map (fun l => (if u.incl.getLsbD l then u.g.elem o r c l else redIdentity op, 0))

/-- The butterfly of R144 over distances 1, 2, 4, … below L. -/
def butterfly (op : Nat) : Nat → Nat → Nat → List (Nat × Fp) → List (Nat × Fp)
  | 0, _, _, v => v
  | n + 1, d, len, v =>
    if d < len then
      butterfly op n (2 * d) len ((List.range 64).map (fun l =>
        let m := l ^^^ d
        redStep op (v.getD (Nat.min l m) (0, 0)) (v.getD (Nat.max l m) (0, 0))))
    else v

/-- The prefix steps of R145. -/
def prefixScan (op : Nat) : Nat → Nat → Nat → List (Nat × Fp) → List (Nat × Fp)
  | 0, _, _, v => v
  | n + 1, d, len, v =>
    if d < len then
      prefixScan op n (2 * d) len ((List.range 64).map (fun l =>
        if d ≤ l % len then redStep op (v.getD (l - d) (0, 0)) (v.getD l (0, 0)) else v.getD l (0, 0)))
    else v

def execVred (d a : BitVec 7) (k : BitVec 4) (p x : BitVec 3) (s : State) : Result :=
  laneVec (.vred d a k p x) s (fun u l r c => butterfly p.toNat 7 1 (64 / 2 ^ k.toNat) (u.redInput (l.src 0) p.toNat r c))
def execVscan (d a : BitVec 7) (k : BitVec 4) (p x : BitVec 3) (s : State) : Result :=
  laneVec (.vscan d a k p x) s (fun u l r c => prefixScan p.toNat 7 1 (64 / 2 ^ k.toNat) (u.redInput (l.src 0) p.toNat r c))

/-! ## Integer distances (R146) -/

/-- Σ of the products of n fields of w bits. -/
def dotInt (sig : Bool) (n w a b : Nat) : Int :=
  (List.range n).foldl (fun (acc : Int) i =>
    let x := fld a (w * i) w; let y := fld b (w * i) w
    acc + (if sig then sextInt x w * sextInt y w else (x : Int) * y)) 0

/-- The sum with its addend: wrapped, or clamped under PFX.SAT. -/
def dotRes (p : Prefix) (sig : Bool) (v : Int) : Nat × Fp :=
  if p.sat then (if sig then satRes (-(2 ^ 31)) (2 ^ 31 - 1) v else satRes 0 (2 ^ 32 - 1) v) else i32 v

def execVdot4I8 (d a b : BitVec 7) (x : BitVec 3) (s : State) : Result :=
  laneTri (.vdot4I8 d a b x) s (fun p m n c => dotRes p true (s32 c + dotInt true 4 8 m n))
def execVdot4N8 (d a b : BitVec 7) (x : BitVec 3) (s : State) : Result :=
  laneTri (.vdot4N8 d a b x) s (fun p m n c => dotRes p false ((c : Int) + dotInt false 4 8 m n))
def execVdot8I4 (d a b : BitVec 7) (x : BitVec 3) (s : State) : Result :=
  laneTri (.vdot8I4 d a b x) s (fun p m n c => dotRes p true (s32 c + dotInt true 8 4 m n))
def execVhamm (d a b : BitVec 7) (x : BitVec 3) (s : State) : Result :=
  laneTri (.vhamm d a b x) s (fun _ m n c => w32 (c + popNat 32 (m ^^^ n)))

/-! ## Float distances (R147) -/

/-- Exact terms of a distance word: products, or squares of differences. -/
def distTerms (f : Fmt) (sq : Bool) (n w a b : Nat) : List (Val × Fp) :=
  (List.range n).map (fun i =>
    let x := unpack f (fld a (w * i) w); let y := unpack f (fld b (w * i) w)
    if sq then
      let df := addV .rne x y.neg
      let q := mulV df.1 df.1
      (q.1, df.2 ||| q.2)
    else mulV x y)

/-- The whole sum, exact, rounded once to FP32. -/
def distRes (p : Prefix) (c : Nat) (terms : List (Val × Fp)) : Nat × Fp :=
  let rm := p.mode .rne
  let v := sumV rm (unpack f32 c :: terms.map (fun t => t.1))
  finishF f32 rm false (v.1, v.2 ||| orFp (terms.map (fun t => t.2)))

def execVdot4E4m3 (d a b : BitVec 7) (x : BitVec 3) (s : State) : Result :=
  laneTri (.vdot4E4m3 d a b x) s (fun p m n c => distRes p c (distTerms e4m3 false 4 8 m n))
def execVdsq4E4m3 (d a b : BitVec 7) (x : BitVec 3) (s : State) : Result :=
  laneTri (.vdsq4E4m3 d a b x) s (fun p m n c => distRes p c (distTerms e4m3 true 4 8 m n))
def execVdsq2Bf16 (d a b : BitVec 7) (x : BitVec 3) (s : State) : Result :=
  laneTri (.vdsq2Bf16 d a b x) s (fun p m n c => distRes p c (distTerms bf16 true 2 16 m n))

/-! ## The Sieve (R148) -/

/-- vsieve: each included lane's pair enters the plot's Sieve 8 cycles after the operation enters the datapath. -/
def execVsieve (a b : BitVec 7) (s : State) : Result :=
  issue (.vsieve a b) s (fun u t =>
    match laneForm (.vsieve a b) with
    | none => .ok t
    | some l =>
      let r := t.enterBackend u.g.plot 1 1
      let at_ := r.2.getD 0 t.cycle + 8
      let pairs := (laneList u.incl).map (fun k =>
        (BitVec.ofNat 32 (u.g.elem (l.src 0) 0 0 k), BitVec.ofNat 32 (u.g.elem (l.src 1) 0 0 k), at_))
      .ok ((r.1.modPlot u.g.plot (fun x => { x with sieve := { x.sieve with queue := x.sieve.queue ++ pairs } })).atCycle at_
        .sievePairEntry { a := u.g.plot }))

end Sys2Proof.Machine
end

