-- ==== Sys2Proof/Machine/Access.lean ====
section
/-! DEFINITION. Performing a variable-latency access (R189, R191-R209): its latency (R27), its turn among the group's accesses, the
checks, the element reads, writes and atomic steps, its completion, and the operand log of a failed one (R342-R345). -/

namespace Sys2Proof.Machine

/-- The word writes memory. -/
def isWriteWord (i : Instr) : Bool := isStoreForm i || (match i with | .vstt .. => true | _ => false) || (atomicScope i).isSome

/-- Uncontended path of an operation's access: the slowest of its 32-byte sectors, with the header's path for an object access (R201). A store to memory
that is not private to its team is placed in the commit buffer once its address is translated (R193, R311). -/
def State.opRoad (s : State) (gid : Nat) (o : MemOp) : Road :=
  let g := s.group gid
  let sectors := ((s.opElems gid o).map (fun e => e.addr.toNat / 32)).eraseDups
  let head : Road := match o.ref with
    | some h => if g.pgc then .ok 0 else (s.addrRoad g h false).map (fun n => n - 32)
    | none => .ok 0
  let buffered := isStoreForm o.word && !g.pgc && !s.refPrivate gid o.ref
  let one := fun (l : Nat) =>
    let a : DWord := BitVec.ofNat 64 (l * 32)
    match atomicScope o.word with
    | some sc => s.atomicRoad g a sc
    | none =>
      if buffered && decide (spaceOf a = .virt (l * 32)) then (s.xlatRoad g.plot g.ctx (l * 32) true).map (fun n => 32 + n)
      else s.addrRoad g a (isWriteWord o.word)
  do pure ((← head) + (← sectors.foldl (fun m l => Road.max m (one l)) (.ok 24)))

/-- A memory word issues: its register-operations pass the backend, then its access takes its path (R48, R193). -/
def memWord (i : Instr) (s : State) : Result :=
  issue i s (fun u t =>
    let road := t.opRoad u.gid (u.capture i)
    match laneForm i with
    | some l =>
      let r := t.enterBackend u.g.plot l.regOps l.busy
      .ok ((r.1.startAlong u i road ((r.2.getLast?.getD t.cycle) - t.cycle) .memoryAccessPerform).modOp u.gid t.nextId
        (fun o => { o with entries := r.2 }))
    | none => .ok (t.startAlong u i road 0 .memoryAccessPerform))

/-! ## The operand log (R342-R345) -/

/-- The step that performs an operation again. -/
def opStep : Instr → Instr
  | .launch .. => .launchBlockCheck
  | .pfh .. => .pfhHandoff
  | .mxd .. => .mxdBlockCheck
  | .svget .. => .svgetSnapshot
  | .mwait .. => .mwaitWake
  | _ => .memoryAccessPerform

/-- Kind of access of a failed word (FQ.ACC). -/
def opAcc (i : Instr) : Nat :=
  if (atomicScope i).isSome then 3
  else if isWriteWord i then 1
  else match i with | .oinit .. | .ofree .. | .oreset .. | .pub .. | .svget .. => 1 | _ => 0

/-- Replays the group's oldest entry when it is in REPLAY (R345); a group that is carried out, at its restore (R357). -/
def State.tryReplay (s : State) (gid : Nat) : State :=
  let g := s.group gid
  match leastBy (fun (e : Nat × LogEntry) => e.2.order) g.log with
  | some e =>
    if e.2.st = .replay ∧ g.loc = .active then
      let road := match tabFind g.ops e.2.op with | some o => s.opRoad gid o | none => .ok 0
      if s.scheduled .operandLogReplay { a := gid, b := e.2.op } then s else s.along road 0 .operandLogReplay { a := gid, b := e.2.op }
    else s
  | none => s

/-- Enters a failure into a log entry: cause 18 enqueues a record, any other cause delivers a trap (R344). -/
def State.logFailure (s : State) (gid op slot order : Nat) (f : Failure) : State :=
  let g := s.group gid
  match tabFind g.ops op with
  | none => s
  | some o =>
    let f : Failure := { f with tick := some (f.tick.getD s.tick) }
    let put := fun (st : LogState) => (s.modGroup gid (fun x => { x with log := tabPut x.log slot { op := op, st := st, order := order, f := f } })).modOp gid op
      (fun y => { y with st := .logged slot })
    if f.cause = 18 then
      (put .pending).report { kind := kindOfCls f.cls, ctx := g.ctx, src := 0, acc := opAcc o.word, gslot := g.slot, plot := g.plot,
                               team := (s.team g.team).serial, detail := f.info.toNat % 256, lease := f.info.toNat / 256 % 4096,
                               addr := f.addr.toNat } (.group gid op)
    else (put .trapped).trapGroup gid f slot o.idx o.clause

/-- The lowest log entry that is FREE. -/
def logFree (g : Group) : Option Nat := (List.range 8).find? (fun i => (tabFind g.log i).isNone)

/-- An access has failed at performance (R200, R343, R344). -/
def State.opFailed (s : State) (gid op : Nat) (f : Failure) : State :=
  let g := s.group gid
  if g.pgc then s.stopPgc gid
  else
    match (tabFind g.ops op).map (fun (o : MemOp) => o.st) with
    | none => s
    | some (.logged slot) => s.logFailure gid op slot (match tabFind g.log slot with | some e => e.order | none => s.nextId) f
    | some _ =>
      match logFree g with
      | some slot => s.bump.logFailure gid op slot s.nextId f
      | none => (s.modOp gid op (fun o => { o with st := .heldFail { f with tick := some (f.tick.getD s.tick) } })).modGroup gid (fun x => { x with heldFails := x.heldFails ++ [op] })

/-- An entry becomes FREE: the oldest held failure is logged, and a later entry in REPLAY may start (R343, R345). -/
def State.logFreed (s : State) (gid slot : Nat) : State :=
  let s1 := s.modGroup gid (fun g => { g with log := tabDel g.log slot })
  let g := s1.group gid
  let s2 := match g.heldFails with
    | [] => s1
    | op :: rest =>
      let s3 := s1.modGroup gid (fun x => { x with heldFails := rest })
      match tabFind g.ops op with
      | some { st := .heldFail f, .. } => s3.bump.logFailure gid op slot s3.nextId f
      | _ => s3
  s2.tryReplay gid

/-- The access has been performed whole: its log entry, if it had one, becomes FREE. -/
def State.opPerformed (s : State) (gid op : Nat) : State :=
  match (tabFind (s.group gid).ops op).map (fun (o : MemOp) => o.st) with
  | some (.logged slot) => (s.modOp gid op (fun o => { o with st := .performed })).logFreed gid slot
  | some _ => s.modOp gid op (fun o => { o with st := .performed })
  | none => s

/-- The access is abandoned by `tres` skip (R182, R344): destination unchanged, flag decremented; an object form's hold ends. -/
def State.opAbandoned (s : State) (gid op : Nat) : State :=
  let st := (tabFind (s.group gid).ops op).map (fun (o : MemOp) => o.st)
  let s1 := s.modGroup gid (fun g => { g with hold := match g.hold with
    | some (.objForm n) => if n = op then none else g.hold
    | some (.ostat n) => if n = op then none else g.hold
    | some (.pubWalk n) => if n = op then none else g.hold
    | some (.mwait ..) => (match tabFind g.ops op with | some { word := .mwait .., .. } => none | _ => g.hold)
    | h => h })
  -- commands of a copy that were never read, and the entry that a drain has reserved
  let s2 := ({ s1 with cmds := s1.cmds.filter (fun e => decide (e.2.op ≠ op)),
                       quads := s1.quads.map (fun q => (q.1, { q.2 with resv := q.2.resv.filter (fun e => decide (e.2.op ≠ op)) })) } : State).endOp gid op
  match st with
  | some (.logged slot) => s2.logFreed gid slot
  | _ => s2

/-! ## Order among the group's accesses (R189) -/

/-- Two lists of ranges share a byte. -/
def rangesMeet (a b : List (Nat × Nat)) : Bool := a.any (fun x => b.any (fun y => decide (x.1 < y.1 + y.2) && decide (y.1 < x.1 + x.2)))

/-- An access of the operation has not been performed. -/
def OpState.waiting : OpState → Bool
  | .performed => false
  | _ => true

/-- An access that is neither performed nor failed. -/
def OpState.coming : OpState → Bool
  | .issued => true
  | .blockRead => true
  | _ => false

/-- An earlier access of the group to a common byte has still to be performed (R189), or an earlier one of a sibling group to a byte of the shared
window, which the plot performs in issue order (R187, R258). DEDUCED: log entry 88. -/
def State.behindEarlier (s : State) (gid op : Nat) (o : MemOp) : Bool :=
  let g := s.group gid
  let mine := s.opRanges gid o
  let shared := mine.filter (fun r => decide (2 ^ 57 ≤ r.1))
  g.ops.any (fun e => decide (e.1 < op) && e.2.st.waiting && rangesMeet (s.opRanges gid e.2) mine)
  || (!shared.isEmpty && !g.pgc && (s.team g.team).allGroups.any (fun h => decide (h ≠ gid) &&
        (s.group h).ops.any (fun e => decide (e.1 < op) && e.2.st.coming && rangesMeet (s.opRanges h e.2) shared)))

/-- The object headers that an access looks up: that of a tagged base, that of a reference which `rst` stores, that of the destination of `pub` (R201,
R209, R210). -/
def MemOp.headers (o : MemOp) : List Nat :=
  let tagged := fun (r : SReg) => if r.tag then [r.base.toNat] else []
  (o.ref.map (fun h => h.toNat)).toList ++ (match o.word with | .rst .. => tagged (o.src.getD 0 {}) | .pub .. => tagged (o.src.getD 1 {}) | _ => [])

/-- A pmove holds a page of an operation's access, or of an object header that it looks up (R338). -/
def State.opMoving (s : State) (gid : Nat) (o : MemOp) : Bool :=
  !s.pgc.moving.isEmpty && !(s.group gid).pgc && ((s.opRanges gid o ++ o.headers.map (fun h => (h, 8))).any (fun r => decide (r.1 < 2 ^ 57) &&
    (List.range ((r.1 % 65536 + r.2 + 65535) / 65536)).any (fun i => s.isMoving (s.group gid).ctx (r.1 / 65536 * 65536 + i * 65536))))

/-- The group is of an incoming set whose team state a swap has still to restore, and the operation reaches the shared window: it waits (R355). -/
def State.shareAway (s : State) (gid : Nat) (o : MemOp) : Bool :=
  let g := s.group gid
  decide (g.loc = .active) && !g.pgc && [SpillStep.drain, .save, .restoreTeams].contains (s.plot g.plot).spill
  && (s.opRanges gid o).any (fun r => decide (2 ^ 57 ≤ r.1))

/-- The operation has, or has no longer, a page that a pmove holds: its flag is charged FAULT_HELD meanwhile. -/
def State.markMoving (s : State) (gid op : Nat) (x : Bool) : State :=
  s.modGroup gid (fun g => match tabFind g.ops op with | some o => { g with ops := tabPut g.ops op { o with moving := x } } | none => g)

/-- The longest wait of an operation for blocks that it reads while their frames are being filled or their channels stall (R275, R316, R412). A store that
goes to the commit buffer waits at its drain; the PGC's words name their places themselves (R333). -/
def State.fillsWait (s : State) (gid : Nat) (o : MemOp) : Nat :=
  let g := s.group gid
  if (isStoreForm o.word && !g.pgc) || !s.anyWait then 0
  else
    (s.opRanges gid o).foldl (fun m r => if 2 ^ 57 ≤ r.1 && !g.pgc then m else
      (List.range ((r.1 % 64 + r.2 + 63) / 64)).foldl (fun k i =>
        let a := r.1 / 64 * 64 + 64 * i
        if g.pgc then Nat.max k ((s.blockWait a).getD 0)
        else match (s.translateWalk g.ctx a .read).2 with
          | .ok dpa _ => Nat.max k ((s.blockWait dpa).getD 0)
          | _ => k) m) 0

/-- What an operation does at its time (R316, R338, R355), unless an earlier access to its bytes is still to be performed, a pmove holds a page of it or its blocks are
being filled: then it looks again. DEDUCED: log entry 88. -/
def State.inTurn (s : State) (gid op : Nat) (again : Instr) (next : MemOp → State) : State :=
  match tabFind (s.group gid).ops op with
  | none => s
  | some o =>
    if o.st = .issued ∧ s.opMoving gid o then (s.markMoving gid op true).after 1 again { a := gid, b := op }
    else if o.st = .issued ∧ (s.behindEarlier gid op o ∨ s.shareAway gid o) then s.after 1 again { a := gid, b := op }
    else if o.st = .issued ∧ 0 < s.fillsWait gid o then s.after (s.fillsWait gid o) again { a := gid, b := op }
    else next o

/-! ## Loads (R190, R191, R197, R207, R208) -/

/-- The no-allocate hint of a lane form (R194). -/
def noAlloc : Instr → Bool
  | .vldB8 _ _ _ n _ _ | .vldI8 _ _ _ n _ _ | .vldB16 _ _ _ n _ _ | .vldI16 _ _ _ n _ _ | .vldB32 _ _ _ n _ _ | .vldB64 _ _ _ n _ _
  | .vldB128 _ _ _ n _ _ | .vldf _ _ _ n _ _ | .vstB8 _ _ _ n _ _ | .vstB16 _ _ _ n _ _ | .vstB32 _ _ _ n _ _ | .vstB64 _ _ _ n _ _
  | .vstB128 _ _ _ n _ _ | .vstf _ _ _ n _ _ => decide (n = 1)
  | _ => false

/-- The value of a loaded element in its registers (R190). -/
def extendLoad (i : Instr) (v : Nat) : Nat :=
  match i with
  | .vldI8 .. => intBits (sextInt v 8) 32
  | .vldI16 .. => intBits (sextInt v 16) 32
  | .sld _ _ _ w s _ _ => if s = 1 then intBits (sextInt v (8 * 2 ^ w.toNat)) 64 else v
  | _ => v

/-- Reads reach the caches, once for each 32-byte sector (R265, R194). -/
def State.touchReads (s : State) (gid : Nat) (na : Bool) (ps : List Place) : State :=
  let p := (s.group gid).plot
  if (s.group gid).pgc then s
  else
    (ps.filterMap (fun x => match x with | .mem d e => some (d / 32, e) | .sh _ => none)).eraseDups.foldl (fun t x =>
      let dpa := x.1 * 32
      if na && (t.l1State (t.l1Home p dpa) dpa).isNone && cacheable dpa x.2 then
        let r := t.l2Ensure dpa (pteGrain x.2)
        if r.2 then r.1.servePool dpa x.2 (s.group gid).ctx else r.1
      else t.touchRead p dpa x.2 (s.group gid).ctx) s

/-- A place holds poison that the read would consume (R361, R365): not where the team's own buffer supplies every byte to a form that reads it
(`own`). -/
def State.placePoisoned (s : State) (gid : Nat) (e : Elem) (pl : Place) (own : Bool := true) : Bool :=
  match pl with
  | .mem dpa _ => !s.poison.isEmpty && s.rangePoisoned dpa e.n &&
      (!own || (List.range e.n).any (fun i => (cbByte (s.team (s.group gid).team) (e.addr.toNat + i)).isNone))
  | .sh _ => false

/-- Registers a lane load writes: for register j of element k, its 64 lanes. -/
def loadRegs (i : Instr) (vals : List (Nat × Nat × Nat)) : List (Nat × List Word) :=
  match laneForm i with
  | none => []
  | some l =>
    match l.dst with
    | none => []
    | some o =>
      (o.regs.zip (List.range o.regs.length)).map (fun r =>
        let k := r.2 / o.w
        let j := r.2 % o.w
        let mine := vals.filter (fun v => decide (v.1 = k))
        (r.1, mapLanes (fun ln => match mine.find? (fun v => decide (v.2.1 = ln)) with
          | some v => BitVec.ofNat 32 (v.2.2 / 2 ^ (32 * j))
          | none => 0)))

/-- The reference that rld delivers (R208). -/
def State.rldResult (s : State) (gid : Nat) (o : MemOp) (a : DWord) (pl : Place) (v : DWord) : SReg :=
  let g := s.group gid
  match o.ref, pl with
  | some _, .mem dpa _ =>
    let t := match cbTag (s.team g.team) a.toNat with | some b => b | none => descTag (s.readDesc dpa) (dpa % 64 / 8)
    { val := v, tag := t, base := if t then v else 0 }
  | _, _ =>
    let live := !g.pgc && decide (v.toNat % 64 = 0) && decide (v.toNat < 2 ^ 57) &&
      (match (s.headerAt g.plot g.ctx v.toNat).2 with
       | (.ok _ pte, hdr) => decide (pteFmt pte = 2) && decide (hdrState hdr ≠ 0)
       | _ => false)
    { val := v, tag := live, base := if live then v else 0 }

/-- The descriptor of the block of a virtual address as the team's buffer holds it, the latest formatted store first (R189, R198). -/
def cbDesc (t : Team) (va : Nat) : Option (BitVec 48) :=
  (t.cb.reverse.find? (fun e => decide (e.blk = va / 64) && e.desc.isSome)).bind (fun e => e.desc)

/-- The descriptor that vldf gives each quarter of each register (R197). DEDUCED: log entry 29. -/
def State.vldfDescs (s : State) (gid : Nat) (o : MemOp) (ps : List (Elem × Place)) : List (BitVec 48) :=
  let p := o.pitch
  let given : BitVec 48 := BitVec.ofNat 48 ((fld p.toNat 24 8) + (fld p.toNat 16 8) * 2 ^ 8 + (fld p.toNat 32 32) * 2 ^ 16)
  (List.range (elemCount o.word)).flatMap (fun k => (List.range 4).map (fun q =>
    if p.getLsbD 15 then given
    else match ps.find? (fun x => decide (x.1.k = k) && decide (x.1.lane / 16 = q)) with
      -- host memory carries no metadata
      | some (e, .mem dpa _) => if hasMeta dpa then (cbDesc (s.team (s.group gid).team) e.addr.toNat).getD (s.readDesc dpa) else 0
      | _ => 0))

/-- A load reads every element (R191); its results wait for its completion. -/
def State.performLoad (s : State) (gid op : Nat) (o : MemOp) (ps : List (Elem × Place)) : State :=
  let vals := ps.map (fun x => (x.1.k, x.1.lane, extendLoad o.word (bytesNat (s.loadElem gid x.1.addr x.2 x.1.n))))
  let first := (vals.head?.map (fun v => v.2.2)).getD 0
  let s1 := s.touchReads gid (noAlloc o.word) (ps.map (fun x => x.2))
  let s2 := s1.modOp gid op (fun y => { y with
    res := loadRegs o.word vals
    sres := match o.word, ps with
      | .sld .., _ => some { val := BitVec.ofNat 64 first }
      | .rld .., x :: _ => some (s.rldResult gid o x.1.addr x.2 (BitVec.ofNat 64 first))
      | _, _ => none
    descs := match o.word with | .vldf .. => s.vldfDescs gid o ps | _ => y.descs })
  (s2.opPerformed gid op).after 0 .loadComplete { a := gid, b := op }

/-! ## Stores (R192, R198, R207, R209) -/

/-- The order of increasing lane, then element (R192). -/
def byLane (ps : List (Elem × Place)) : List (Elem × Place) :=
  (List.range 64).flatMap (fun l => ps.filter (fun x => decide (x.1.lane = l)))

/-- The bytes that a store leaves, by address, the later write prevailing. -/
def MemOp.storeBytes (o : MemOp) (ps : List (Elem × Place)) : Tab Byte :=
  (byLane ps).foldl (fun m x =>
    let bs := o.elemData x.1.k x.1.lane x.1.n
    ((List.range bs.length).zip bs).foldl (fun m2 b => tabPut m2 (x.1.addr.toNat + b.1) b.2) m) []

/-- The descriptor that vstf gives each block it writes: the override, or the shadow of the last quarter that writes it (R198).
Data of an s register has no shadow: a free value. -/
def State.vstfDesc (s : State) (o : MemOp) (ps : List (Elem × Place)) (blk : Nat) : Option (BitVec 48) :=
  match o.word with
  | .vstf .. =>
    let p := o.pitch
    if p.getLsbD 15 then some (BitVec.ofNat 48 ((fld p.toNat 24 8) + (fld p.toNat 16 8) * 2 ^ 8 + (fld p.toNat 32 32) * 2 ^ 16))
    else
      match ((byLane ps).filter (fun x => decide (x.1.addr.toNat / 64 = blk))).getLast? with
      | some x => some (if o.descs.isEmpty then Config.freeShadow s.fresh else o.descs.getD (4 * x.1.k + x.1.lane / 16) 0)
      | none => none
  | _ => none

/-- The store is a tagged rst to an object word (R209). -/
def MemOp.tagsWord (o : MemOp) : Bool :=
  match o.word with
  | .rst .. => (o.src.getD 0 {}).tag && o.ref.isSome
  | _ => false

/-- Puts the blocks of a store into the commit buffer in increasing order, from the n-th on; stops where no entry is free
(R287). Answers how many blocks are in. -/
def State.cbBlocks (s : State) (tid : Nat) (o : MemOp) (ps : List (Elem × Place)) (bytes : Tab Byte) : List Nat → Nat → State × Option Nat
  | [], _ => (s, none)
  | blk :: rest, n =>
    if s.cbHasRoom tid blk then
      let bs := (bytes.filter (fun b => decide (b.1 / 64 = blk))).map (fun b => (b.1 % 64, b.2))
      (s.cbStore tid blk bs o.tagsWord (noAlloc o.word) (s.vstfDesc o ps blk)).cbBlocks tid o ps bytes rest (n + 1)
    else (s, some n)

/-- The blocks of memory that a store covers whole. -/
def MemOp.fullBlocks (o : MemOp) (ps : List (Elem × Place)) : List Nat :=
  let bytes := o.storeBytes ps
  let whole := ((bytes.map (fun b => b.1 / 64)).eraseDups).filter (fun k => (List.range 64).all (fun i => (tabFind bytes (64 * k + i)).isSome))
  whole.filterMap (fun k => (ps.find? (fun x => decide (x.1.addr.toNat / 64 = k))).bind (fun x => match x.2 with
    | .mem dpa _ => some (dpa / 64 * 64) | .sh _ => none))

/-- A buffered store takes its entries from the first block that has none (R287); where the buffer is full it goes on as drains free entries. It was
checked whole before its first block (R200). -/
def State.placeBlocks (s : State) (gid op : Nat) (o : MemOp) (ps : List (Elem × Place)) : State :=
  let bytes := o.storeBytes ps
  let blks := (bytes.map (fun b => b.1 / 64)).eraseDups
  let r := s.cbBlocks (s.group gid).team o ps bytes (blks.drop o.left) o.left
  match r.2 with
  | none => (r.1.opPerformed gid op).after 0 .storeComplete { a := gid, b := op }
  | some n => ((r.1.opPerformed gid op).modOp gid op (fun y => { y with st := .blockRead, left := n })).after 1 .memoryAccessPerform { a := gid, b := op }

/-- A store places its elements (R193, R286). -/
def State.performStore (s : State) (gid op : Nat) (o : MemOp) (ps : List (Elem × Place)) : State :=
  let g := s.group gid
  let shared := ps.all (fun x => match x.2 with | .sh _ => true | .mem .. => false)
  let priv := s.refPrivate gid o.ref
  let done := fun (t : State) => (t.opPerformed gid op).after 0 .storeComplete { a := gid, b := op }
  if g.pgc || shared || priv then
    let s1 := if g.pgc || shared then s
      else ps.foldl (fun t x => t.sign g.team x.1.addr.toNat x.1.n false (o.elemData x.1.k x.1.lane x.1.n)) s
    let s2 := (byLane ps).foldl (fun t x => t.storeNow gid x.1.addr x.2 (o.elemData x.1.k x.1.lane x.1.n) o.tagsWord) s1
    done ((o.fullBlocks ps).foldl (fun t dpa => t.clearPoison dpa) s2)
  else
    (ps.foldl (fun (t : State) x => (t.sign g.team x.1.addr.toNat x.1.n false (o.elemData x.1.k x.1.lane x.1.n)).wakeWord g.team x.1.addr.toNat x.1.n)
      { s with fresh := s.fresh + 1 }).placeBlocks gid op o ps

/-- The checks of a tagged rst against the referenced object (R209). -/
def State.rstCheck (s : State) (gid : Nat) (o : MemOp) : State × Option Failure :=
  let g := s.group gid
  let r := o.src.getD 0 {}
  match o.word with
  | .rst .. =>
    if !r.tag || g.pgc then (s, none)
    else
      let h := r.base.toNat
      let x := s.headerAt g.plot g.ctx h
      match x.2.1 with
      | .miss k d l => (x.1, some (elemFail (clsOfKind k) 18 h (d + 256 * l)))
      | .perm => (x.1, some (elemFail clsProt 19 h))
      | .ok _ pte =>
        let hdr := x.2.2
        let t := s.team g.team
        if pteFmt pte ≠ 2 then (x.1, some (elemFail clsProt 19 h))
        else if hdrState hdr = 0 then (x.1, some (elemFail clsBounds 20 h))
        else if hdrState hdr ≠ 1 then (x.1, none)
        else if !privateTo t h hdr then (x.1, some (elemFail clsEscapeStore 21 o.uniAddr.toNat))
        else
          let visible := match o.ref with
            | some _ => !x.1.refPrivate gid o.ref
            | none => (match spaceOf o.uniAddr with | .shared _ => false | _ => true)
          (x.1, if visible then some (elemFail clsEscapeStore 21 o.uniAddr.toNat) else none)
  | _ => (s, none)

/-! ## Atomics (R203-R206) -/

/-- The new value of an atomic on `n` bytes, from the old value, the operand and the compare value. -/
def atomicNew (i : Instr) (old v c : Nat) : Nat :=
  match i with
  | .vatomAddN32 .. => (old + v) % 2 ^ 32
  | .vatomAddF32 .. => (addF f32 .rne false old v).1
  | .vatomMinI32 .. => if s32 old ≤ s32 v then old else v
  | .vatomMaxI32 .. => if s32 old ≤ s32 v then v else old
  | .vatomMinN32 .. => Nat.min old v
  | .vatomMaxN32 .. => Nat.max old v
  | .vatomAnd .. => old &&& v
  | .vatomOr .. => old ||| v
  | .vatomXor .. => old ^^^ v
  | .vatomXchg .. => v
  | .vatomCas .. => if old = c then v else old
  | .vatomAddN64 .. => (old + v) % 2 ^ 64
  | .satom _ _ _ _ p _ =>
    match p.toNat with
    | 0 => (old + v) % 2 ^ 64
    | 1 => old &&& v
    | 2 => old ||| v
    | 3 => old ^^^ v
    | 4 => Nat.min old v
    | 5 => Nat.max old v
    | 6 => v
    | _ => if old = c then v else old
  | _ => old

/-- One lane's step of an atomic, indivisible at its place (R203, R204). -/
def State.atomicLane (s : State) (gid op : Nat) (o : MemOp) (e : Elem) (pl : Place) : State :=
  let g := s.group gid
  let scope := (atomicScope o.word).getD 0
  let v := bytesNat (o.elemData e.k e.lane e.n)
  let c := match o.word with
    | .satom .. => (o.src.getD 0 {}).val.toNat
    | _ => (laneOf o.cmp e.lane).toNat
  let old := match pl with
    | .sh _ => bytesNat (s.loadElem gid e.addr pl e.n)
    | .mem dpa _ => s.readNat dpa e.n
  let bs := natBytes e.n (atomicNew o.word old v c)
  let s1 := match pl with
    | .sh _ => s.storeNow gid e.addr pl bs false
    | .mem dpa pte =>
      if g.pgc then s.storeNow gid e.addr pl bs false
      else if scope = 0 then s.storeNow gid e.addr pl bs false
      else
        -- at cluster scope in a fused cluster the home slice of its L1 takes M (R204, R269); otherwise the L2 home slice takes the grain for itself
        let s2 := if scope = 1 && (s.cluster (s.team g.team).cluster).fused then s.touchWrite g.plot dpa pte g.ctx else s.homeWrite dpa pte g.ctx
        let s3 := (s2.storeMem dpa bs)
        let s4 := if pteFmt pte = 2 then s3.tagWords dpa e.n false else s3
        ((if o.fwd.isSome then s4.sign g.team e.addr.toNat e.n true (natBytes e.n v) else s4).markCommitted g.team).wakeWord g.team e.addr.toNat e.n
  s1.modOp gid op (fun y => { y with
    lane := e.lane + 1
    sres := match o.word with | .satom .. => some { val := BitVec.ofNat 64 old } | _ => none
    res := match laneForm o.word with
      | some { dst := some d, .. } =>
        d.regs.zip (List.range d.regs.length) |>.map (fun r =>
          let was := match y.res.find? (fun z => decide (z.1 = r.1)) with | some z => z.2 | none => zeroLanes
          (r.1, mapLanes (fun l => if l = e.lane then BitVec.ofNat 32 (old / 2 ^ (32 * r.2)) else laneOf was l)))
      | _ => [] })

/-! ## The checks and the performance of a whole access (R200) -/

/-- What an access asks of translation. -/
def opUse (i : Instr) : Use :=
  if (atomicScope i).isSome then .atomic
  else match i with | .vstf .. => .fmtWrite | _ => if isWriteWord i then .write else .read

/-- vldf and vstf (R198, R201). -/
def isFormatted : Instr → Bool
  | .vldf .. | .vstf .. => true
  | _ => false

/-- Checks every included element, and the referenced object of rst. A tile form reaches its own tile whatever the tile's state (R219).
DESIGN CHOICE: log entry 108. -/
def State.checkOp (s : State) (gid : Nat) (o : MemOp) : State × Option Failure × List (Elem × Place) :=
  let s0 := match tileOf o.word with
    | some t => s.modPlot (s.group gid).plot (fun x => { x with tiles := match tabFind x.tiles t with
        | some e => tabPut x.tiles t { e with st := .ready } | none => x.tiles })
    | none => s
  let r0 := s0.checkElems gid o.ref (opUse o.word) (atomicScope o.word) (isFormatted o.word) (s.opElems gid o)
  let r := if (tileOf o.word).isSome then (s, r0.2) else r0
  let q := r.1.rstCheck gid o
  let strip := fun (f : Option Failure) => if isLane o.word then f else f.map (fun y => { y with at? := none })
  (q.1, worseOf (strip r.2.1) q.2, r.2.2)

/-- The access goes to the team's commit buffer, and waits at its drain. -/
def State.buffers (s : State) (gid : Nat) (o : MemOp) : Bool := isStoreForm o.word && !(s.group gid).pgc && !s.refPrivate gid o.ref

/-- The longest wait of an access's places for a fill of their frames or a stall of their channels (R275, R316, R412). -/
def State.placesWait (s : State) (gid : Nat) (o : MemOp) (ps : List (Elem × Place)) : Nat :=
  if s.buffers gid o then 0
  else ps.foldl (fun m x => match x.2 with | .mem dpa _ => Nat.max m ((s.blockWait dpa).getD 0) | .sh _ => m) 0

/-- A write of the PGC that reaches a DEAD frame starts its zero fill (R275). -/
def State.placesWake (s : State) (gid : Nat) (o : MemOp) (ps : List (Elem × Place)) : State :=
  if (s.group gid).pgc && isWriteWord o.word then
    ps.foldl (fun t x => match x.2 with | .mem dpa _ => (t.uncached dpa).1 | .sh _ => t) s
  else s

/-- The step that performs an operation again after a wait: the replay of a logged one (R345). -/
def MemOp.lookAgain (o : MemOp) (s : State) (n gid op : Nat) : State :=
  match o.st with
  | .logged _ => s.after n .operandLogReplay { a := gid, b := op }
  | _ => s.after n .memoryAccessPerform { a := gid, b := op }

/-- Performs an access: later, while an earlier access to its bytes is outstanding, its page moves or its blocks are being filled; otherwise its
checks, and then all of it or none of it. -/
def State.performAccess (s : State) (gid op : Nat) (o : MemOp) : State :=
  let g := s.group gid
  if o.st = .blockRead then s.placeBlocks gid op o ((s.opElems gid o).map (fun e => (e, .sh 0)))
  else if s.behindEarlier gid op o then o.lookAgain s 1 gid op
  else if s.opMoving gid o then o.lookAgain (s.markMoving gid op true) 1 gid op
  else
    let r := s.checkOp gid o
    match r.2.1 with
    | some f => r.1.opFailed gid op f
    | none =>
      let wide := decide (1 ≤ (atomicScope o.word).getD 0)
      let s1 := r.1.placesWake gid o r.2.2
      if 0 < s1.placesWait gid o r.2.2 then o.lookAgain s1 (s1.placesWait gid o r.2.2) gid op
      else if !isWriteWord o.word || (atomicScope o.word).isSome then
        if !g.pgc && r.2.2.any (fun x => r.1.placePoisoned gid x.1 x.2 !wide) then r.1.consumePoison g.team
        else if (atomicScope o.word).isSome then
          ((r.1.opPerformed gid op).modOp gid op (fun y => { y with st := .blockRead })).after 0 .atomicStep { a := gid, b := op }
        else r.1.performLoad gid op o r.2.2
      else r.1.performStore gid op o r.2.2

/-! ## Completion (R193, R203) -/

/-- An operation completes: its results are written and its flag counts down (R193). -/
def State.completeOp (s : State) (gid op : Nat) : State :=
  match tabFind (s.group gid).ops op with
  | none => s
  | some o => (s.modGroup gid (fun g => ((g.writeResults o).writeShadows o).recapture s.cycle)).endOp gid op

/-! ## The steps -/

/-- LOAD_COMPLETE (R193). -/
def execLoadComplete (s : State) : Result := .next (s.completeOp s.ev.a s.ev.b)
/-- STORE_COMPLETE (R193). -/
def execStoreComplete (s : State) : Result := .next (s.completeOp s.ev.a s.ev.b)
/-- ATOMIC_COMPLETE (R203). -/
def execAtomicComplete (s : State) : Result := .next ((s.opPerformed s.ev.a s.ev.b).completeOp s.ev.a s.ev.b)

/-- ATOMIC_STEP (R203): the next included lane, in increasing order; after the last, the completion. A lane whose element is refused by now, since another
step of the cycle has frozen its object or taken its page, is not performed (R200, R304): the access is logged, and goes on from that lane at its
replay. DESIGN CHOICE: log entry 118. -/
def execAtomicStep (s : State) : Result :=
  let gid := s.ev.a
  let op := s.ev.b
  match tabFind (s.group gid).ops op with
  | none => .next s
  | some o =>
    let es := (s.opElems gid o).filter (fun e => decide (o.lane ≤ e.lane))
    match leastBy (fun (e : Elem) => e.lane) es with
    | none => .next (s.after 0 .atomicComplete { a := gid, b := op })
    | some e =>
      let r := s.checkElem gid o.ref e.addr e.n .atomic (atomicScope o.word) false
      match r.2.1 with
      | some f => .next (r.1.opFailed gid op { f with at? := if isLane o.word then some (e.k, e.lane) else none })
      | none => .next ((r.1.atomicLane gid op o e r.2.2).after 0 (if es.length ≤ 1 then .atomicComplete else .atomicStep) { a := gid, b := op })

/-- LANE_RESULT_WRITE (R49): a fixed-latency result is written and its exceptions recorded. -/
def execLaneResultWrite (s : State) : Result :=
  match tabFind (s.group s.ev.a).pend s.ev.b with
  | none => .next s
  | some p => .next (s.modGroup s.ev.a (fun g => { (g.writePending s.cycle p) with pend := tabDel g.pend s.ev.b }))

end Sys2Proof.Machine
end

