-- ==== Sys2Proof/Machine/Egc.lean ====
section
/-! DEFINITION. The EGC link code (R119-R123): its types, the encoder's choices, the decoder. A value is its code: sign, exponent and
fraction in one number. -/

namespace Sys2Proof.Machine

/-- Exponent, fraction and TZ widths, and bytes of a decoded value, of a stream's type (R120). -/
structure EgcType where
  e : Nat
  f : Nat
  tz : Nat
  bytes : Nat
  deriving DecidableEq, Repr

/-- A96, FP32, FP16, BF16 (R119, R120). -/
def egcOf (a96v : Bool) (fmt : Nat) : EgcType :=
  if a96v then { e := 15, f := 80, tz := 7, bytes := 16 }
  else match fmt with
    | 0x18 => { e := 8, f := 23, tz := 5, bytes := 4 }
    | 0x11 => { e := 5, f := 10, tz := 4, bytes := 2 }
    | _ => { e := 8, f := 7, tz := 3, bytes := 2 }

/-- Exponent field, fraction field and sign of a code. -/
def egcE (t : EgcType) (v : Nat) : Nat := fld v t.f t.e
def egcF (t : EgcType) (v : Nat) : Nat := fld v 0 t.f
def egcS (t : EgcType) (v : Nat) : Nat := fld v (t.e + t.f) 1

/-- ZMAP marks a value whose E and F are both zero (R122). -/
def egcZero (t : EgcType) (v : Nat) : Bool := decide (egcE t v = 0) && decide (egcF t v = 0)

/-- The smallest width that holds a number. -/
def egcWidth (n : Nat) : Nat := if n = 0 then 0 else Nat.log2 n + 1

/-- Trailing zero bits of a fraction; a zero fraction counts as F. -/
def egcTrail (t : EgcType) (f : Nat) : Nat := ((List.range t.f).find? (fun i => decide (f / 2 ^ i % 2 = 1))).getD t.f

/-- Fields in order, each least significant bit first (R123): the number they form, and its width. -/
def egcPack : List (Nat × Nat) → Nat × Nat
  | [] => (0, 0)
  | (v, w) :: rest => let r := egcPack rest; (v % 2 ^ w + r.1 * 2 ^ w, w + r.2)

/-- A coded group of eight values, with the choices of R122. -/
def egcCoded (t : EgcType) (vs : List Nat) : List (Nat × Nat) :=
  let nz := vs.filter (fun v => !egcZero t v)
  let emax := nz.foldl (fun m v => Nat.max m (egcE t v)) 0
  let dw := nz.foldl (fun m v => Nat.max m (egcWidth (emax - egcE t v))) 0
  let tz := match nz with | [] => 0 | v :: r => r.foldl (fun m x => Nat.min m (egcTrail t (egcF t x))) (egcTrail t (egcF t v))
  let zmap := ((List.range 8).zip vs).foldl (fun m p => if egcZero t p.2 then m + 2 ^ p.1 else m) 0
  [(0, 1), (emax, t.e), (dw, 4), (tz, t.tz), (zmap, 8)] ++
    vs.flatMap (fun v => if egcZero t v then [(egcS t v, 1)]
      else [(egcS t v, 1), (emax - egcE t v, dw), (egcF t v / 2 ^ tz, t.f - tz)])

/-- A group: coded, or raw where coding takes at least as many bits as the values (R121, R122). -/
def egcGroupOut (t : EgcType) (vs : List Nat) : Nat × Nat :=
  let w := 1 + t.e + t.f
  let c := egcPack (egcCoded t vs)
  if 8 * w ≤ c.2 then egcPack ((1, 1) :: vs.map (fun v => (v, w))) else c

/-- Groups of eight; the last is filled with +0 (R120). -/
def egcGroups : Nat → List Nat → List (List Nat)
  | 0, _ => []
  | n + 1, vs => ((vs.take 8) ++ List.replicate (8 - (vs.take 8).length) 0) :: egcGroups n (vs.drop 8)

/-- The stream of a list of values, in bytes, padded to 64 bits (R123). -/
def egcEncode (t : EgcType) (vs : List Nat) : List Byte :=
  let r := egcPack ((egcGroups (ceilDiv vs.length 8) vs).map (egcGroupOut t))
  natBytes (ceilDiv r.2 64 * 8) r.1

/-- A field of a stream of `len` bits: none where the stream ends inside it (R123). -/
def egcField (str len pos n : Nat) : Option Nat := if pos + n ≤ len then some (fld str pos n) else none

/-- The values of a group from value i on, with the position after (R121). -/
def egcValuesIn (t : EgcType) (str len : Nat) (raw : Bool) (emax dw tz zmap : Nat) : Nat → Nat → Nat → Option (List Nat × Nat)
  | 0, _, pos => some ([], pos)
  | n + 1, i, pos =>
    let w := 1 + t.e + t.f
    if raw then do
      let v ← egcField str len pos w
      let r ← egcValuesIn t str len raw emax dw tz zmap n (i + 1) (pos + w)
      return (v :: r.1, r.2)
    else do
      let sg ← egcField str len pos 1
      if zmap / 2 ^ i % 2 = 1 then
        let r ← egcValuesIn t str len raw emax dw tz zmap n (i + 1) (pos + 1)
        return ((sg * 2 ^ (t.e + t.f)) :: r.1, r.2)
      else
        let delta ← egcField str len (pos + 1) dw
        let f ← egcField str len (pos + 1 + dw) (t.f - tz)
        if emax < delta then none
        else
          let r ← egcValuesIn t str len raw emax dw tz zmap n (i + 1) (pos + 1 + dw + (t.f - tz))
          return ((sg * 2 ^ (t.e + t.f) + (emax - delta) * 2 ^ t.f + f * 2 ^ tz) :: r.1, r.2)

/-- A group at a position (R121): none where it is malformed. -/
def egcGroupIn (t : EgcType) (str len pos : Nat) : Option (List Nat × Nat) := do
  let mode ← egcField str len pos 1
  if mode = 1 then egcValuesIn t str len true 0 0 0 0 8 0 (pos + 1)
  else
    let emax ← egcField str len (pos + 1) t.e
    let dw ← egcField str len (pos + 1 + t.e) 4
    let tz ← egcField str len (pos + 5 + t.e) t.tz
    let zmap ← egcField str len (pos + 5 + t.e + t.tz) 8
    if t.e < dw ∨ t.f < tz then none
    else egcValuesIn t str len false emax dw tz zmap 8 0 (pos + 13 + t.e + t.tz)

/-- `n` groups: the values of the groups before one that is malformed, and whether all are well-formed. -/
def egcDecodeFrom (t : EgcType) (str len : Nat) : Nat → Nat → List Nat × Bool
  | 0, _ => ([], true)
  | n + 1, pos =>
    match egcGroupIn t str len pos with
    | none => ([], false)
    | some (vs, p) => let r := egcDecodeFrom t str len n p; (vs ++ r.1, r.2)

/-- The `n` values of a stream (R123). -/
def egcDecode (t : EgcType) (n : Nat) (bs : List Byte) : List Nat × Bool :=
  let r := egcDecodeFrom t (bytesNat bs) (8 * bs.length) (ceilDiv n 8) 0
  (r.1.take n, r.2)

end Sys2Proof.Machine
end

