-- ==== Sys2Proof/Machine/Granule.lean ====
section
/-! DEFINITION. Granules: the expansion of block-scaled elements (R110-R113), the block exponents chosen by max-abs (R118), addition
in A96 (R98, R106, R115). The matrix engine and the copy engines share them. -/

namespace Sys2Proof.Machine

/-! ## Descriptors (R108) -/

/-- DESC.SCL and DESC.AUX. -/
def descScl (d : BitVec 48) : Nat := (d.extractLsb' 8 8).toNat
def descAux (d : BitVec 48) : Nat := (d.extractLsb' 16 32).toNat
/-- A descriptor from its fields. -/
def mkDesc (fmt scl aux : Nat) : BitVec 48 := BitVec.ofNat 48 (fmt % 256 + scl % 256 * 2 ^ 8 + aux * 2 ^ 16)

/-- Bits of an element of a class. -/
def classBits (c : Nat) : Nat := 64 / 2 ^ c

/-! ## Elements (R109, R111) -/

/-- The value of an element's code. -/
def elemVal (fmt raw : Nat) : Val :=
  match fmt with
  | 0x20 => unpack f64 raw
  | 0x18 => unpack f32 raw
  | 0x10 => unpack bf16 raw
  | 0x11 => unpack f16 raw
  | 0x01 => intV (sextInt raw 8)
  | 0x02 => intV (raw % 256 : Nat)
  | 0x03 => intV (sextInt raw 4)
  | 0x08 => unpack e4m3 raw
  | 0x09 => unpack e5m2 raw
  | _ => unpack fp4 raw

/-- A micro-scale as m·2^e (R110). DEDUCED: log entry 54. -/
def microScale (b : Nat) : Nat × Int :=
  if b / 32 = 0 then (b % 32, -7) else (32 + b % 32, ((b / 32 : Nat) : Int) - 8)

/-- The factor μ of element i (R113). -/
def elemMicro (fmt aux i : Nat) : Nat × Int := if fmt = 0x0C then microScale (fld aux (8 * (i / 32)) 8) else (1, 0)

/-- The exact value of an element of a granule, and its exceptions (R113). DEDUCED: log entry 54. -/
def expandElem (fmt scl aux i raw : Nat) : Val × Fp :=
  if scl = 255 then (.nan false, 0)
  else
    let mu := elemMicro fmt aux i
    match elemVal fmt raw with
    | .nan sg => (.nan false, if sg then fpInvalid else 0)
    | .inf n => if mu.1 = 0 then (.nan false, fpInvalid) else (.inf n, 0)
    | .fin n m e => (.fin n (m * mu.1) (e + mu.2 + ((scl : Nat) : Int) - 127), 0)

/-- Every element of a granule. -/
def expandGranule (fmt scl aux data : Nat) : List (Val × Fp) :=
  match fmtClass fmt with
  | some c => (List.range (classElems c)).map (fun i => expandElem fmt scl aux i (fld data (classBits c * i) (classBits c)))
  | none => []

/-! ## Block exponents (R118) -/

/-- m1·2^e1 ≤ m2·2^e2. -/
def leMag (m1 : Nat) (e1 : Int) (m2 : Nat) (e2 : Int) : Bool :=
  let e := minInt e1 e2
  decide (m1 * 2 ^ (e1 - e).toNat ≤ m2 * 2 ^ (e2 - e).toNat)

/-- The largest finite magnitude of some values, as m·2^e. -/
def maxAbs (l : List Val) : Nat × Int :=
  l.foldl (fun acc v => match v with
    | .fin _ m e => if leMag m e acc.1 acc.2 then acc else (m, e)
    | _ => acc) (0, 0)

/-- M of R118; none for a destination of 16 bits or more. -/
def blockMax (fmt : Nat) : Option Nat :=
  match fmt with
  | 0x08 => some 448 | 0x09 => some 57344 | 0x01 => some 127 | 0x02 => some 255 | 0x03 => some 7 | 0x0C => some 189 | _ => none

/-- The smallest e with a ≤ M·2^e, limited to −127 to 127; 0 for a = 0. -/
def blockExp (a : Nat × Int) (m : Nat) : Int :=
  if a.1 = 0 then 0
  else
    let e0 := topExp a.1 a.2 - topExp m 0
    let e := if leMag a.1 a.2 m e0 then e0 else e0 + 1
    if e < -127 then -127 else if 127 < e then 127 else e

/-- The micro-scale of a sub-block whose largest finite magnitude is `a` (R118). -/
def blockMicro (a : Nat × Int) (e : Int) : Nat :=
  if a.1 = 0 then 0
  else ((List.range 256).find? (fun b => let mu := microScale b; leMag a.1 a.2 (6 * mu.1) (mu.2 + e))).getD 255

/-- One element of a block: v / (μ·2^e), converted once (R104, R105). -/
def quantElem (fmt : Nat) (rm : RM) (sat : Bool) (mu : Nat × Int) (e : Int) (v : Val) : Nat × Fp :=
  let q : Val := match v with
    | .fin n m x => if m = 0 then .fin n 0 0 else if mu.1 = 1 then .fin n m (x - mu.2 - e) else (divV (.fin n m (x - e)) (.fin false mu.1 mu.2)).1
    | w => w
  match fmt with
  | 0x20 => deliver f64 rm sat q
  | 0x18 => deliver f32 rm sat q
  | 0x10 => deliver bf16 rm sat q
  | 0x11 => deliver f16 rm sat q
  | 0x08 => deliver e4m3 rm sat q
  | 0x09 => deliver e5m2 rm sat q
  | 0x01 => let r := convInt rm (-128) 127 q; (intBits r.1 8, r.2)
  | 0x02 => let r := convInt rm 0 255 q; (intBits r.1 8, r.2)
  | 0x03 => let r := convInt rm (-8) 7 q; (intBits r.1 4, r.2)
  | _ => deliver fp4 rm sat q

/-- A whole granule of a format: descriptor, bytes as a number, exceptions (R118). Elements beyond the list are +0. -/
def blockOut (fmt : Nat) (rm : RM) (sat : Bool) (l : List Val) : BitVec 48 × Nat × Fp :=
  let w := classBits ((fmtClass fmt).getD 0)
  let pack := fun (f : Nat → Val → Nat × Fp) =>
    (l.zip (List.range l.length)).foldl (fun (acc : Nat × Fp) v => let r := f v.2 v.1; (acc.1 + r.1 * 2 ^ (w * v.2), acc.2 ||| r.2)) (0, 0)
  match blockMax fmt with
  | none => let r := pack (fun _ v => quantElem fmt rm sat (1, 0) 0 v); (mkDesc fmt 127 0, r.1, r.2)
  | some m =>
    let e := blockExp (maxAbs l) m
    let micro := fun (k : Nat) => if fmt = 0x0C then blockMicro (maxAbs ((l.drop (32 * k)).take 32)) e else 0
    let mus := [micro 0, micro 1, micro 2, micro 3]
    let aux := mus.foldr (fun b acc => b + 256 * acc) 0
    let r := pack (fun i v => quantElem fmt rm sat (if fmt = 0x0C then microScale (mus.getD (i / 32) 0) else (1, 0)) e v)
    (mkDesc fmt (127 + e).toNat aux, r.1, r.2)

/-! ## A96 (R106, R115) -/

/-- Rounds an exact value to A96, RNE. -/
def toA96 (v : Val) : Val × Fp :=
  let r := deliver a96 .rne false v
  (unpack a96 r.1, r.2)

/-- a96_add (R115): the exact sum rounded RNE to A96. -/
def a96Add (x y : Val) : Val × Fp :=
  let r := addV .rne x y
  let q := toA96 r.1
  (q.1, r.2 ||| q.2)

/-- The A96 code of a value of that format. -/
def a96Code (v : Val) : Nat := (deliver a96 .rne false v).1

end Sys2Proof.Machine
end

