-- ==== Sys2Proof/Machine/Uniform.lean ====
section
/-! DEFINITION. The uniform words on registers, references and masks (R155-R168) and the control transfers (R169-R171). -/

namespace Sys2Proof.Machine

/-- A word that writes one untagged value (R150, R151). -/
def uniValue (i : Instr) (s : State) (d : BitVec 6) (f : Issuer → DWord) : Result :=
  issue i s (fun u t => .ok (t.setSV u d (f u)))

/-- A word that writes one register whole. -/
def uniReg (i : Instr) (s : State) (d : BitVec 6) (f : Issuer → SReg) : Result :=
  issue i s (fun u t => .ok (t.setS u d (f u)))

/-! ## Arithmetic (R155-R159) -/

def execSadd (d a b : BitVec 6) (s : State) : Result := uniValue (.sadd d a b) s d (fun u => u.sv a + u.sv b)
def execSsub (d a b : BitVec 6) (s : State) : Result := uniValue (.ssub d a b) s d (fun u => u.sv a - u.sv b)
def execSmul (d a b : BitVec 6) (s : State) : Result := uniValue (.smul d a b) s d (fun u => u.sv a * u.sv b)
/-- Bits [127:64] of a product. -/
def mulHigh (x y : Int) : DWord := BitVec.ofNat 64 (intBits (x * y) 128 / 2 ^ 64)
def execSmulhI64 (d a b : BitVec 6) (s : State) : Result :=
  uniValue (.smulhI64 d a b) s d (fun u => mulHigh (u.sv a).toInt (u.sv b).toInt)
def execSmulhN64 (d a b : BitVec 6) (s : State) : Result :=
  uniValue (.smulhN64 d a b) s d (fun u => mulHigh (u.sv a).toNat (u.sv b).toNat)
/-- sdiv: division by zero gives 0. -/
def sdivV (x y : DWord) : DWord := if y = 0 then 0 else BitVec.ofInt 64 (x.toInt.tdiv y.toInt)
/-- srem: A − B × sdiv(A, B); division by zero gives A. -/
def sremV (x y : DWord) : DWord := x - y * sdivV x y
def execSdiv (d a b : BitVec 6) (s : State) : Result := uniValue (.sdiv d a b) s d (fun u => sdivV (u.sv a) (u.sv b))
def execSrem (d a b : BitVec 6) (s : State) : Result := uniValue (.srem d a b) s d (fun u => sremV (u.sv a) (u.sv b))
def execSand (d a b : BitVec 6) (s : State) : Result := uniValue (.sand d a b) s d (fun u => u.sv a &&& u.sv b)
def execSor (d a b : BitVec 6) (s : State) : Result := uniValue (.sor d a b) s d (fun u => u.sv a ||| u.sv b)
def execSxor (d a b : BitVec 6) (s : State) : Result := uniValue (.sxor d a b) s d (fun u => u.sv a ^^^ u.sv b)
def execSshl (d a b : BitVec 6) (s : State) : Result := uniValue (.sshl d a b) s d (fun u => u.sv a <<< ((u.sv b).toNat % 64))
def execSshr (d a b : BitVec 6) (s : State) : Result := uniValue (.sshr d a b) s d (fun u => u.sv a >>> ((u.sv b).toNat % 64))
def execSmin (d a b : BitVec 6) (s : State) : Result :=
  uniValue (.smin d a b) s d (fun u => if (u.sv a).toInt ≤ (u.sv b).toInt then u.sv a else u.sv b)
def execSmax (d a b : BitVec 6) (s : State) : Result :=
  uniValue (.smax d a b) s d (fun u => if (u.sv a).toInt ≤ (u.sv b).toInt then u.sv b else u.sv a)
def execSun (d a f : BitVec 6) (s : State) : Result :=
  uniValue (.sun d a f) s d (fun u => BitVec.ofNat 64 (unaryOp 64 f.toNat (u.sv a).toNat))
def execSaddi (d a : BitVec 6) (n : BitVec 12) (s : State) : Result := uniValue (.saddi d a n) s d (fun u => u.sv a + n.signExtend 64)
def execSandi (d a : BitVec 6) (n : BitVec 12) (s : State) : Result := uniValue (.sandi d a n) s d (fun u => u.sv a &&& n.signExtend 64)
def execSori (d a : BitVec 6) (n : BitVec 12) (s : State) : Result := uniValue (.sori d a n) s d (fun u => u.sv a ||| n.signExtend 64)
def execSshli (d a n : BitVec 6) (s : State) : Result := uniValue (.sshli d a n) s d (fun u => u.sv a <<< n.toNat)
def execSshri (d a n : BitVec 6) (s : State) : Result := uniValue (.sshri d a n) s d (fun u => u.sv a >>> n.toNat)
/-- The condition of a compare: F[4] chooses signed or unsigned (R158). -/
def scmpV (uns : BitVec 1) (c : BitVec 4) (x y : DWord) : Bool :=
  if uns = 1 then cmpI c.toNat x.toNat y.toNat else cmpI c.toNat x.toInt y.toInt
def execScmp (d a b : BitVec 6) (n : BitVec 1) (c : BitVec 4) (s : State) : Result :=
  uniValue (.scmp d a b n c) s d (fun u => if scmpV n c (u.sv a) (u.sv b) then 1 else 0)
def execSli (d : BitVec 6) (n : BitVec 18) (s : State) : Result := uniValue (.sli d n) s d (fun _ => n.signExtend 64)
def execSlit (d : BitVec 6) (l : Word) (s : State) : Result := uniValue (.slit d l) s d (fun _ => l.signExtend 64)
def execSlit64 (d : BitVec 6) (lo hi : Word) (s : State) : Result := uniValue (.slit64 d lo hi) s d (fun _ => hi ++ lo)

/-! ## Fields and selection (R160, R161) -/

/-- zext(A[p+n−1:p], n), with n = F + 1. -/
def fieldZ (x : DWord) (p l : BitVec 6) : DWord := BitVec.ofNat 64 (fld x.toNat p.toNat (l.toNat + 1))
/-- sext(A[p+n−1:p], n). -/
def fieldS (x : DWord) (p l : BitVec 6) : DWord := BitVec.ofInt 64 (sextInt (fld x.toNat p.toNat (l.toNat + 1)) (l.toNat + 1))
/-- D with bits [p+n−1:p] replaced by A[n−1:0]. -/
def fieldIns (old x : DWord) (p l : BitVec 6) : DWord :=
  let m : DWord := BitVec.ofNat 64 (2 ^ (l.toNat + 1) - 1)
  (old &&& ~~~(m <<< p.toNat)) ||| ((x &&& m) <<< p.toNat)
def execSext (d a p l : BitVec 6) (s : State) : Result := uniValue (.sext d a p l) s d (fun u => fieldZ (u.sv a) p l)
def execSexts (d a p l : BitVec 6) (s : State) : Result := uniValue (.sexts d a p l) s d (fun u => fieldS (u.sv a) p l)
def execSins (d a p l : BitVec 6) (s : State) : Result := uniValue (.sins d a p l) s d (fun u => fieldIns (u.sv d) (u.sv a) p l)
def execSselnz (d a b f : BitVec 6) (s : State) : Result :=
  uniReg (.sselnz d a b f) s d (fun u => if u.sv f = 0 then u.sreg b else u.sreg a)

/-! ## References (R162) -/

/-- A derived reference: the value moves, tag and base stay. -/
def deriveRef (r : SReg) (v : DWord) : SReg := { val := v, tag := true, base := r.base }
def execRadd (d a b : BitVec 6) (s : State) : Result := uniReg (.radd d a b) s d (fun u => deriveRef (u.sreg a) (u.sv a + u.sv b))
def execRaddi (d a : BitVec 6) (n : BitVec 12) (s : State) : Result :=
  uniReg (.raddi d a n) s d (fun u => deriveRef (u.sreg a) (u.sv a + n.signExtend 64))
def execRtag (d a : BitVec 6) (s : State) : Result := uniValue (.rtag d a) s d (fun u => if (u.sreg a).tag then 1 else 0)
def execRbase (d a : BitVec 6) (s : State) : Result := uniReg (.rbase d a) s d (fun u => deriveRef (u.sreg a) (u.sreg a).base)

/-! ## Masks (R167) -/

/-- A mask as a uniform word reads it: k0 is the bundle. -/
def Issuer.kv (u : Issuer) (k : BitVec 3) : Mask := u.g.readK u.lanes k.toNat
def execSbal (d : BitVec 6) (k : BitVec 3) (s : State) : Result := uniValue (.sbal d k) s d (fun u => u.kv k)
def execSfirst (d : BitVec 6) (k : BitVec 3) (s : State) : Result := uniValue (.sfirst d k) s d (fun u => BitVec.ofNat 64 (firstLane (u.kv k)))
def execKset (k : BitVec 3) (a : BitVec 6) (s : State) : Result := issue (.kset k a) s (fun u t => .ok (t.setK u k (u.sv a)))
/-- The kop operations. -/
def kopV (p : BitVec 3) (x y : Mask) : Mask :=
  match p.toNat with
  | 0 => x &&& y | 1 => x ||| y | 2 => x ^^^ y | 3 => x &&& ~~~y | 4 => ~~~x | _ => x
def execKop (d a b p : BitVec 3) (s : State) : Result := issue (.kop d a b p) s (fun u t => .ok (t.setK u d (kopV p (u.kv a) (u.kv b))))

/-! ## Control transfer (R169-R171) -/

/-- The target of a relative transfer: the word's address plus four times its signed offset (R82). -/
def Issuer.target {n : Nat} (u : Issuer) (o : BitVec n) : DWord := u.addr + (o.signExtend 64 <<< 2)

/-- The whole bundle goes to the target or to the next header. -/
def branchIf {n : Nat} (i : Instr) (s : State) (o : BitVec n) (f : Issuer → Bool) : Result :=
  issue i s (fun u t => .xfer t [if f u then (u.target o, u.lanes, true) else (u.nextHeader, u.lanes, false)])

def execBr (o : BitVec 24) (s : State) : Result := branchIf (.br o) s o (fun _ => true)
def execBz (r : BitVec 6) (o : BitVec 18) (s : State) : Result := branchIf (.bz r o) s o (fun u => decide (u.sv r = 0))
def execBnz (r : BitVec 6) (o : BitVec 18) (s : State) : Result := branchIf (.bnz r o) s o (fun u => decide (u.sv r ≠ 0))
def execBkany (k : BitVec 3) (o : BitVec 18) (s : State) : Result := branchIf (.bkany k o) s o (fun u => decide (u.kv k &&& u.lanes ≠ 0))
def execBknone (k : BitVec 3) (o : BitVec 18) (s : State) : Result := branchIf (.bknone k o) s o (fun u => decide (u.kv k &&& u.lanes = 0))
/-- bl (R55): the bundle splits; an empty part adds no entry. -/
def execBl (k : BitVec 3) (o : BitVec 18) (s : State) : Result :=
  issue (.bl k o) s (fun u t =>
    .xfer t [(u.target o, u.lanes &&& u.kv k, true), (u.nextHeader, u.lanes &&& ~~~(u.kv k), false)])
def execCall (o : BitVec 24) (s : State) : Result :=
  issue (.call o) s (fun u t => .xfer (t.setSV u 62 u.nextHeader) [(u.target o, u.lanes, true)])
def execCallx (d a : BitVec 6) (s : State) : Result :=
  issue (.callx d a) s (fun u t => .xfer (t.setSV u d u.nextHeader) [(u.sv a, u.lanes, true)])
def execJmpx (a : BitVec 6) (s : State) : Result := issue (.jmpx a) s (fun u t => .xfer t [(u.sv a, u.lanes, true)])
/-- exit: the bundle's lanes leave the frontier (R63). -/
def execExit (s : State) : Result := issue .exit s (fun _ t => .xfer t [])
def execNop (s : State) : Result := issue .nop s (fun _ t => .ok t)

end Sys2Proof.Machine
end

