-- ==== Sys2Proof/Machine/Special.lean ====
section
/-! DEFINITION. Special registers (R18-R24, R62, R86, R102, R335, R351, R381, R386, R406, R409-R412): `srValue` says what each reads,
`srd` and `swr` (R180), `mark` (R184). -/

namespace Sys2Proof.Machine

/-! ## Values -/

/-- Plots permanently retired and plots in service (R24). -/
def State.retiredCount (s : State) : Nat := (s.plots.filter (fun e => decide (e.1 < 384) && e.2.retired)).length
def State.inServCount (s : State) : Nat :=
  384 - (s.plots.filter (fun e => decide (e.1 < 384) && (e.2.culled || e.2.retired))).length

/-- LOGSTAT (R351). -/
def logStat (g : Group) : Nat :=
  g.log.foldl (fun n e => n + match e.2.st with
    | .pending => 2 ^ e.1 | .trapped => 2 ^ (8 + e.1) | .replay => 2 ^ (16 + e.1)) 0

/-- NBRVOTE of a plot (R381). -/
def nbrVote (p : Nat) (x : Plot) : Nat :=
  (List.range 4).foldl (fun n d =>
    let b : Nbr := tabGet (if (plotNbr p d).isSome then {} else { st := 3 }) x.nbr d
    n + (b.st + Nat.min b.miss 4 * 4 + Nat.min b.accusers.length 4 * 32) * 2 ^ (8 * d)) 0

/-- RASCNT of a die (R381). -/
def rasCnt (x : Die) : Nat := x.rasCe + x.rasCwd * 2 ^ 16 + x.rasUe * 2 ^ 32 + x.rasPoison * 2 ^ 48

/-- CTXCFG (R386): HROWS of 0, 1 and 7 read as 2. -/
def hrowsOf (x : Context) : Nat := if x.hrows = 0 ∨ x.hrows = 1 ∨ x.hrows = 7 then 2 else x.hrows.toNat
def ctxCfg (x : Context) : Nat :=
  x.hprio.toNat * 2 ^ 13 + hrowsOf x * 2 ^ 10 + (if x.trace then 2 ^ 9 else 0) + (if x.en then 2 ^ 8 else 0)
/-- Weights of QOS (R386): 0 reads as 1. -/
def weightOf (w : BitVec 4) : Nat := if w = 0 then 1 else w.toNat
def qosOf (x : Context) : Nat := weightOf x.cew * 16 + weightOf x.hbmw
/-- RESETCTL (R386). -/
def resetCtl (x : Context) : Nat := x.reason.toNat * 2 ^ 32 + x.gen.toNat * 2 ^ 16 + (if x.busy then 2 else 0)

/-- A context register by its number (R386). -/
def ctxReg (x : Context) (n : Nat) : DWord :=
  match n with
  | 0x0C0 => BitVec.ofNat 64 (ctxCfg x)
  | 0x0C1 => x.ptroot
  | 0x0C2 => x.handler
  | 0x0C3 => x.trapArea
  | 0x0C4 => x.spillArea
  | 0x0C5 => x.arenaHeap
  | 0x0C6 => x.arenaSize
  | 0x0C7 => x.walkScr
  | 0x0C8 => x.walkSize
  | 0x0C9 => BitVec.ofNat 64 (qosOf x)
  | 0x0CA => x.vecEn
  | 0x0CB => x.vecDrop
  | 0x0CC => BitVec.ofNat 64 (resetCtl x)
  | _ => 0

/-- MODELLEAST (R335, R319): the resident MODEL group with the least sum of counters, lowest group first. -/
def State.modelLeast (s : State) : Nat :=
  let fs := s.modelFrames
  let groups := (fs.map (fun f => (s.frame f).mgroup)).eraseDups
  let sum := fun (m : Nat) => fs.foldl (fun n f => if (s.frame f).mgroup = m then n + (s.frame f).count else n) 0
  match leastBy (fun m => sum m * 2 ^ 15 + m) groups with
  | some m => m
  | none => 2 ^ 63

/-- The oldest record not yet taken (R335). -/
def State.fqOldest (s : State) : Option (Nat × FqRec) :=
  leastBy (fun (e : Nat × FqRec) => e.2.order) (s.pgc.fq.filter (fun e => !e.2.taken))

/-- A read of FQPOP (R335): its value, and the record taken. DESIGN CHOICE: log entry 62. -/
def State.fqPop (s : State) : State × DWord :=
  match s.fqOldest with
  | some (i, r) => (s.modPgc (fun p => { p with fq := tabPut p.fq i { r with taken := true } }), BitVec.ofNat 64 (2 ^ 63 + i))
  | none => (s, 0)

/-- BOOTREASON (R409). -/
def State.bootReason (s : State) : Nat :=
  s.boot.fwver.toNat * 2 ^ 32 + s.boot.src * 2 ^ 16 + s.nvm.step * 2 ^ 12 + s.nvm.cause * 2 ^ 8 + (if s.boot.minimal then 3 else s.nvm.fails)

/-- HBMRATE of a stack (R412). -/
def State.hbmRate (s : State) (k : Nat) : Nat :=
  (List.range 32).foldl (fun n c => n + tabGet 0 s.boot.rate (32 * k + c) * 2 ^ (2 * c)) 0

/-- Counters of a plot (R406): ELIG0 and NO_GROUP are what CYCLE leaves of the others (R404). -/
def State.plotCount (s : State) (p n : Nat) : Nat :=
  let x := s.plot p
  let sum := fun (t : Tab Nat) (but : Nat) => t.foldl (fun m e => if e.1 = but then m else m + e.2) 0
  if n = 0x040 then (s.plotCycle p + 2 ^ 64 - sum x.elig 0 % 2 ^ 64) % 2 ^ 64
  else if n ≤ 0x048 then tabGet 0 x.elig (n - 0x040)
  else if n = 0x049 then x.issued
  else if n = 0x04A then x.slip
  else if n = 0x050 + stNoGroup then (s.plotCycle p + 2 ^ 65 - x.issued - sum x.stall stNoGroup % 2 ^ 64) % 2 ^ 64
  else tabGet 0 x.stall (n - 0x050)

/-- Registers whose value is a group's, a team's, a plot's or a context's own. DESIGN CHOICE: log entry 34. -/
def srScoped (n : Nat) : Bool :=
  decide (n = 2) || (decide (4 ≤ n) && decide (n ≤ 0x015) && decide (n ≠ 7) && decide (n ≠ 0x013)) ||
  (decide (0x040 ≤ n) && decide (n ≤ 0x05F) && decide (n ≠ 0x04B)) || (decide (0x080 ≤ n) && decide (n ≤ 0x085)) ||
  decide (n = 0x087) || (decide (0x0C0 ≤ n) && decide (n ≤ 0x0CC))

/-- What a special register reads at issue. A register that belongs to a group, team, plot or context has no value stated for a
PGC: a free one. FQPOP's read is `State.fqPop`. DESIGN CHOICE: log entry 34. -/
def State.srValue (s : State) (u : Issuer) (n : Nat) : DWord :=
  let g := u.g
  let t := s.uTeam u
  let x := s.plot g.plot
  let d := plotDie g.plot
  let c := s.ctx g.ctx
  let nat := fun (v : Nat) => BitVec.ofNat 64 v
  if g.pgc && srScoped n then Config.freeWord s.fresh
  else if 0x0C0 ≤ n ∧ n ≤ 0x0CC then ctxReg c n
  else if 0x050 ≤ n ∧ n ≤ 0x05F then nat (s.plotCount g.plot n)
  else if 0x210 ≤ n ∧ n ≤ 0x217 then nat (s.hbmRate (n - 0x210))
  else
    match n with
    | 0x000 => 64
    | 0x001 => nat g.plot
    | 0x002 => nat (plotQuad g.plot)
    | 0x003 => nat d
    | 0x004 => nat (g.rank * 2 ^ 8 + g.slot)
    | 0x005 => nat t.serial
    | 0x006 => nat g.ctx
    | 0x007 => nat s.tick
    | 0x008 => nat (s.plotCycle g.plot)
    | 0x009 => nat t.tx
    | 0x00A => nat t.ty
    | 0x00B => 0
    | 0x00C => nat t.clu.1
    | 0x00D => nat t.clu.2.1
    | 0x00E => nat t.clu.2.2
    | 0x010 => t.arenaBase
    | 0x011 => t.arenaLim
    | 0x012 => t.args
    | 0x013 => g.fpstat.setWidth 64
    | 0x014 => nat g.rows
    | 0x015 => nat t.lserial
    | 0x020 => (t.trapRec.getD (0, 0)).1
    | 0x030 => nat (0x0060 * 2 ^ 16 + 1 * 2 ^ 8)
    | 0x031 => nat (64 * 2 ^ 40 + 6 * 2 ^ 32 + 24 * 2 ^ 24 + 16 * 2 ^ 16 + 4 * 2 ^ 12 + 2 * 2 ^ 8 + 8 * 2 ^ 4 + 8)
    | 0x032 => nat (4096 * 2 ^ 32 + 256 * 2 ^ 20 + s.hbmGib * 2 ^ 10 + (if s.boot.parity then 2 ^ 9 else 0) + 192)
    | 0x033 => nat (s.retiredCount * 2 ^ 16 + s.inServCount)
    | 0x04B => nat (s.die d).trDrop
    | 0x04C => c.hintRej
    | 0x080 => nat (logStat g)
    | 0x081 => nat g.swapcnt
    | 0x082 => nat x.tslice
    | 0x083 => x.slotPart
    | 0x084 => nat c.trapDrop
    | 0x085 => nat (nbrVote g.plot x)
    | 0x086 => nat (rasCnt (s.die d))
    | 0x087 => nat x.cullDrop
    | 0x103 => nat s.pgc.frameStat
    | 0x104 => s.pgc.modelCap
    | 0x105 => nat s.modelLeast
    | 0x106 => s.pgc.leaseMargin
    | 0x107 => s.pgc.pcBypass
    | 0x108 => s.pgc.lateAns
    | 0x109 => s.pgc.rhBad
    | 0x200 => nat s.bootReason
    | 0x201 => nat s.boot.pwrcap
    | n => if n ≤ 0x04A ∧ 0x040 ≤ n then nat (s.plotCount g.plot n) else 0

/-! ## srd, swr, mark -/

/-- SRD (R180): a paired team's register that R368 names goes to the twin too. -/
def execSrd (d : BitVec 6) (r : BitVec 12) (s : State) : Result :=
  issue (.srd d r) s (fun u t =>
    let p := if r = 0x100 then t.fqPop else (t, t.srValue u r.toNat)
    let t1 : State := if u.g.pgc && srScoped r.toNat then { p.1 with fresh := p.1.fresh + 1 } else p.1
    let team := t.uTeam u
    let t2 := if team.paired && team.primary && t.isForwarded u (.srd d r) then t1.forwardNow u.gid (some { val := p.2 }) else t1
    .ok (t2.setSV u d p.2))

/-- The step that resolves a record with an outcome (R335). -/
def fqresStep (out : Nat) : Instr :=
  match out with
  | 0 => .fqresReplay | 1 => .fqresPage | 2 => .fqresLease | 3 => .fqresPoolLost | 4 => .fqresProt | 5 => .fqresChecksum
  | _ => .fqresClose

/-- The step of a FRAMECTL operation (R335); its operand is FRAMECTL.ARG. -/
def frameStep (op : Nat) : Instr :=
  match op with
  | 0 => .frameMarkDead | 1 => .frameFlush | 2 => .frameEvict | 3 => .frameReserve | 4 => .frameRelease | 5 => .frameDiscard
  | 6 => .frameEvictGroup | 7 => .frameSetHostBias | 8 => .frameRetire | _ => .framectlInvalidOp

/-- SWR (R180): FPSTAT of a group; FQRES, FRAMECTL, MODELCAP and LEASEMARGIN of the PGC (R335, R336). -/
def execSwr (a : BitVec 6) (r : BitVec 12) (s : State) : Result :=
  issue (.swr a r) s (fun u t =>
    let v := u.sv a
    match r.toNat with
    | 0x013 => .ok (t.modGroup u.gid (fun g => { g with fpstat := v.setWidth 6 ||| g.fpLate t.cycle }))
    | 0x101 => .ok (t.after 0 (fqresStep (fld v.toNat 12 4)) { a := fld v.toNat 0 10, b := fld v.toNat 16 8 })
    | 0x102 =>
      let op := fld v.toNat 60 4
      .hold (t.after 0 (frameStep op) { a := if op ≤ 8 then fld v.toNat 0 48 else op }) .frameCtl
    | 0x104 => .ok (t.modPgc (fun p => { p with modelCap := v }))
    | 0x106 => .ok (t.modPgc (fun p => { p with leaseMargin := v }))
    | _ => .ok t)

/-- FQPOP (R335): the oldest record is taken. DESIGN CHOICE: log entry 62. -/
def execFqpop (s : State) : Result := .next s.fqPop.1

/-- MARK (R184). -/
def execMark (a t : BitVec 6) (s : State) : Result :=
  issue (.mark a t) s (fun u x =>
    .ok (if u.g.pgc then x
      else x.trace (plotDie u.g.plot) 7 t.toNat u.g.ctx u.g.slot u.g.plot (x.uTeam u).serial 0 (u.sv a).toNat))

end Sys2Proof.Machine
end

