-- ==== Sys2Proof/Machine/Periodic.lean ====
section
/-! DEFINITION. What falls due at fixed times, at the start of a cycle: heartbeats and their periods (R372, R373), counter halving (R318),
filter rebuilds (R314), slices (R351, R354), the scrubbers (R276), leases (R325), the operating time (R378). -/

namespace Sys2Proof.Machine

/-! ## Scrubbers (R276) -/

/-- The place of a block of HBM in the address order of its stack. DESIGN CHOICE: log entry 13. -/
def State.scrubRank (s : State) (b : Nat) : Nat := (b / 1024 % s.dieFrames) / 2 * 1024 + b % 1024

/-- The block that a stack's scrubber has reached at a tick, by its place (R276). -/
def State.scrubPos (s : State) (tick : Nat) : Nat := (tick % 2 ^ 35) * (s.dieFrames / 2 * 1024) / 2 ^ 35

/-! ## Leases (R325) -/

/-- LR.EXPIRY. -/
def lrExpiry (r : BitVec 256) : Nat := (r.extractLsb' 192 64).toNat

/-- Expiry 2^64 − 1: the lease never ends. -/
def lrNever (r : BitVec 256) : Bool := decide (lrExpiry r = 2 ^ 64 - 1)

/-- RENEW_DUE is due (R325): LR.EXPIRY less LEASEMARGIN, taken as 0 where the margin exceeds it. -/
def State.renewIsDue (s : State) (l : Lease) : Bool :=
  decide (leaseState l.data = 1) && !l.dueSent && !lrNever l.data && decide (lrExpiry l.data - s.pgc.leaseMargin.toNat ≤ s.tick)

/-! ## Timed steps -/

/-- A lease's timed steps. -/
def State.leaseTimes (s : State) : State :=
  s.leases.foldl (fun (t : State) e =>
    let t1 := if s.renewIsDue e.2 then t.afterOnce 0 .renewDue { a := e.1 } else t
    if (leaseState e.2.data = 1 ∨ leaseState e.2.data = 2) ∧ !lrNever e.2.data ∧ lrExpiry e.2.data ≤ s.tick then
      t1.afterOnce 0 .leaseExpiry { a := e.1 } else t1) s

/-- Plots k and k + 256 send their heartbeats in tick 8k of a period (R372). -/
def State.heartTimes (s : State) : State :=
  let m := s.tick % 4096
  if m % 8 ≠ 0 ∨ 2048 ≤ m then s
  else ([m / 8, m / 8 + 256].filter (fun p => decide (p < 384))).foldl (fun (t : State) p => t.after 0 .heartbeatSend { a := p }) s

/-- The last tick of a period (R373). -/
def State.periodTimes (s : State) : State :=
  if s.tick % 4096 = 4095 then (List.range 384).foldl (fun (t : State) p => t.after 0 .periodEvaluation { a := p }) s else s

/-- Counters and firmware's sample every 2^20 ticks (R318, R411), the operating time every 2^36 (R378). -/
def State.longTimes (s : State) : State :=
  let s1 := if s.tick % 2 ^ 20 = 0 then (s.after 0 .counterHalving {}).after 0 .powerSample {} else s
  if s.tick % 2 ^ 36 = 0 then s1.after 0 .operatingTimeSave {} else s1

/-- A scrubber reaches a block whose storage holds an error (R276); a read of any other block changes nothing. -/
def State.scrubTimes (s : State) : State :=
  if s.eccErrors.isEmpty ∨ s.scrubPos s.tick = s.scrubPos (s.tick - 1) then s
  else (List.range 8).foldl (fun (t : State) st =>
    if s.eccErrors.any (fun e => decide (s.hbmStack (e.1 / 1024) = st) && decide (s.scrubRank e.1 = s.scrubPos s.tick)) then t.after 0 .scrubRead { a := st }
    else t) s

/-- Filters are rebuilt every 2^20 ticks from the plot's reset (R314). -/
def State.bloomTimes (s : State) : State :=
  s.plots.foldl (fun (t : State) e =>
    if (s.cycle - e.2.cycleBase) % 2 ^ 21 = 0 ∧ s.cycle ≠ e.2.cycleBase then t.after 0 .bloomRebuild { a := e.1 } else t) s

/-- Slices that have lasted TSLICE ticks (R351, R354): the expiry takes effect at the end of the tick's first cycle. -/
def State.sliceTimes (s : State) : State :=
  s.plots.foldl (fun (t : State) e =>
    if e.2.sliceStart < s.tick ∧ (s.tick - e.2.sliceStart) % e.2.tslice = 0 ∧ !e.2.expiryDeferred then t.after 0 .timeSliceExpiry { a := e.1 } else t) s

/-- What falls due in the cycle that begins. DESIGN CHOICE: log entry 16. -/
def State.periodic (s : State) : State :=
  if s.boot.minimal || s.boot.starting then s
  else if s.cycle % 2 = 0 then s.leaseTimes.heartTimes.periodTimes.longTimes.scrubTimes.bloomTimes
  else s.sliceTimes

end Sys2Proof.Machine
end

