-- ==== Sys2Proof/Machine/Turn.lean ====
section
/-! DEFINITION. A unit's turn in a cycle: choosing a bundle (R51-R54, R56), fetching its clause (R54, R405), breakpoints (R403),
the reason charged to an empty slot (R404), and the end of a cycle: eligible groups (R404), holds, the next turns (R46). -/

namespace Sys2Proof.Machine

/-! ## Code -/

/-- The line of the instruction cache that holds a virtual address. -/
def State.iline (s : State) (p c va : Nat) : Option ILine :=
  (s.plot p).icache.find? (fun l => decide (l.ctx = c) && decide (l.vline = va / 64))

/-- A word of code as a group sees it: in its plot's instruction cache. A PGC reads its word from memory (R333). -/
def State.codeWord (s : State) (g : Group) (va : Nat) : Option Word :=
  if g.pgc then some (BitVec.ofNat 32 (s.readNat va 4))
  else (s.iline g.plot g.ctx va).map (fun l => l.words.getD (va % 64 / 4) 0)

/-- The breakpoint bit of a word (R403). -/
def State.brkBit (s : State) (g : Group) (va : Nat) : Bool :=
  match s.iline g.plot g.ctx va with
  | some l => l.brk.getLsbD (va % 64 / 4)
  | none => false

/-- The word may be the target of a transfer: its header mark is set, or its line carries no marks (R54). DEDUCED: log entry 72. -/
def State.markOk (s : State) (g : Group) (va : Nat) : Bool :=
  match s.iline g.plot g.ctx va with
  | some l => !l.checked || l.marks.getLsbD (va % 64 / 4)
  | none => true

/-- The failure that the fetch of a line has met (R199). -/
def State.fetchFailure (s : State) (g : Group) (va : Nat) : Option Failure :=
  ((s.plot g.plot).fetchFail.find? (fun f => decide (f.1 = g.ctx) && decide (f.2.1 = va / 64))).map (fun f => f.2.2)

/-- Lines of a clause of n words after its header. -/
def clauseLines (va n : Nat) : List Nat := (List.range ((va + 4 * n) / 64 + 1 - va / 64)).map (fun i => va / 64 + i)

/-- What stands before the start of an entry's clause. -/
inductive EntryState where
  /-- lines that are not in the instruction cache -/
  | fetch (lines : List Nat)
  /-- WAIT; `true` when a flag it names is held by a logged word (R343); lines of the clause that are not in the instruction cache -/
  | wait (held : Bool) (lines : List Nat)
  /-- the header is fetched and its WAIT holds, so that the entry may be chosen (R52); lines of the clause are not in the instruction cache -/
  | part (h : Word) (lines : List Nat)
  /-- the fetch or the header raises a trap: failure, clause and word of its record -/
  | bad (f : Failure) (clause : DWord) (word : Nat)
  | ready (c : Clause)
  deriving DecidableEq, Repr

/-- Flags that the group's logged words hold incremented, and those of accesses to a page that a pmove holds (R338, R343). -/
def Group.loggedFlags (g : Group) : List Nat :=
  (loggedOps g ++ (g.ops.filter (fun e => e.2.moving && decide (e.2.st = .issued))).map (fun e => e.2)).filterMap (fun o => o.flag)

/-- The state of an entry. DEDUCED: log entry 32. -/
def State.entryState (s : State) (g : Group) (e : FrontEntry) : EntryState :=
  let va := e.addr.toNat
  let outside := if g.pgc then !pgcWindow s e.addr else decide (2 ^ 57 ≤ va)
  if outside then .bad { cls := clsProt, cause := 16, addr := e.addr } e.addr 0
  else
    match s.codeWord g va with
    | none =>
      match s.fetchFailure g va with
      | some f => .bad f e.addr 0
      | none => .fetch [va / 64]
    | some h =>
      let n := hdrWords h
      let lines := if g.pgc then [] else (clauseLines va n).filter (fun l => (s.iline g.plot g.ctx (l * 64)).isNone)
      if e.from?.isSome && !g.pgc && !s.markOk g va then
        match e.from? with
        | some (c, w, _) => .bad { cls := clsIllegal, cause := 10, addr := e.addr } c w
        | none => .fetch []
      else
        let waits := (List.range 12).filter (fun f => (hdrWait h).getLsbD f && decide (g.readF f ≠ 0))
        if !waits.isEmpty then .wait (waits.any (fun f => g.loggedFlags.contains f)) lines
        else
          match lines.findSome? (fun l => s.fetchFailure g (l * 64)) with
          | some f => .bad f e.addr 0
          | none =>
            if !lines.isEmpty then .part h lines
            else if (12 ≤ hdrSet h 0 ∧ hdrSet h 0 ≤ 14) ∨ (12 ≤ hdrSet h 1 ∧ hdrSet h 1 ≤ 14) then
              .bad { cls := clsIllegal, cause := 9 } e.addr 0
            else
              .ready { addr := e.addr, hdr := h, lanes := e.lanes,
                       words := (List.range n).map (fun i => (s.codeWord g (va + 4 * (i + 1))).getD 0),
                       brk := if g.pgc then 0 else (List.range (n + 1)).foldl
                         (fun (m : BitVec 17) i => if s.brkBit g (va + 4 * i) then m ||| BitVec.ofNat 17 (2 ^ i) else m) 0 }

/-- Lines that an entry still needs. -/
def EntryState.lines : EntryState → List Nat
  | .fetch l => l
  | .wait _ l => l
  | .part _ l => l
  | _ => []

/-- The entry that a group chooses (R52): an aged one first, then by BPRIO, then by address. An entry whose header is at hand may be
chosen while other lines of its clause are fetched: the group then waits for them. An entry whose header is bad takes its place by them too; one whose header could not be fetched comes after every other, and its trap is raised then. DEDUCED: log entry 32. -/
def State.chooseEntry (s : State) (g : Group) : Option (FrontEntry × EntryState) :=
  let all := g.frontier.map (fun e => (e, s.entryState g e))
  let startable := all.filter (fun e => match e.2 with | .ready _ => true | .bad .. => true | .part .. => true | _ => false)
  leastBy (fun e =>
    let a := e.1.addr.toNat
    let hdr := match e.2 with | .ready c => some c.hdr | _ => s.codeWord g a
    if 1024 ≤ e.1.age then 2 ^ 64 * (1 + (2 ^ 32 - 1 - Nat.min e.1.age (2 ^ 32 - 1))) + a
    else match hdr with
      | some h => 2 ^ 100 + 2 ^ 64 * (255 - hdrPrio h) + a
      | none => 2 ^ 101 + a) startable

/-- The fetch of a line waits on a record that a full queue holds (R334), or on a page that a pmove holds (R338). -/
def State.fetchHeld (s : State) (g : Group) (l : Nat) : Bool :=
  s.pgc.fqWait.any (fun e => match e.2 with
    | .fetch h v => decide (v = l) && decide ((s.group h).plot = g.plot) && decide ((s.group h).ctx = g.ctx) | _ => false)
  || (!s.pgc.moving.isEmpty && s.isMoving g.ctx (l * 64))

/-- Why a group with no clause in progress issues nothing: some fetched entry waits on flags, or the entries wait on fetch.
DEDUCED: log entry 20. -/
def State.idleReason (s : State) (g : Group) : Nat :=
  let all := g.frontier.map (fun e => s.entryState g e)
  if all.isEmpty then stFlagWait
  else if all.any (fun e => match e with | .wait false _ => true | _ => false) then stFlagWait
  else if all.any (fun e => e.lines.any (fun l => s.fetchHeld g l)) then stFault
  else if all.any (fun e => match e with | .fetch _ => true | _ => false) then stIcache
  else stFault

/-- Why the group's chosen clause has not started: its lines are being fetched (R405), or held (R334, R338). -/
def State.missReason (s : State) (g : Group) (lines : List Nat) : Nat := if lines.any (fun l => s.fetchHeld g l) then stFault else stIcache

/-- Sends the fetch of a line on its path (R27, R54). -/
def State.requestLine (s : State) (p c va : Nat) : State :=
  s.along (s.fetchRoad p c va) 0 .icacheFill { a := p, b := c, v := BitVec.ofNat 64 va }

/-- The serving PGC fetches the clause of an entry over the path of an access (R333, R415); `none` once its words are at hand. One access
brings a clause. DESIGN CHOICE: log entry 119. -/
def State.codePath (s : State) (g : Group) (va : Nat) : Option State :=
  match (if g.pgc then s.pgc.codeAt.filter (fun x => decide (x.1 = va)) else some (va, some 0)) with
  | some (_, some n) => if n ≤ s.cycle then none else some s
  | some (_, none) => some s
  | none =>
    let t := (List.range (1 + hdrWords ((s.codeWord g va).getD 0))).foldl (fun (x : State) i => x.eccMiss (va + 4 * i)) s
    some (match s.dpaRoad g.plot va false with
      | .ok n => t.modPgc (fun p => { p with codeAt := some (va, some (s.cycle + n)) })
      | .error p => (t.dropAt p).modPgc (fun p => { p with codeAt := some (va, none) }))

/-- Requests the lines that a group's entries need; the fetch of each clause that misses counts once in SLIPCNT (R405). DEDUCED: log entry 31. -/
def State.requestLines (s : State) (gid : Nat) (g : Group) : State :=
  let missing := fun (e : FrontEntry) => (s.entryState g e).lines
  let fresh := g.frontier.filter (fun e => !e.slipped && !(missing e).isEmpty)
  let s1 := if fresh.isEmpty then s
    else (s.modPlot g.plot (fun x => { x with slip := (x.slip + fresh.length) % 2 ^ 64 })).modGroup gid (fun y =>
      { y with frontier := y.frontier.map (fun e => if fresh.any (fun f => decide (f.addr = e.addr)) then { e with slipped := true } else e) })
  ((g.frontier.flatMap missing).eraseDups).foldl (fun t l =>
    if (t.plot g.plot).fetching.contains (g.ctx, l) then t
    else (t.modPlot g.plot (fun x => { x with fetching := x.fetching ++ [(g.ctx, l)] })).requestLine g.plot g.ctx (l * 64)) s1

/-- The bundle starts its clause: the entry leaves the frontier until the clause ends (R53, R54). -/
def Group.start (g : Group) (e : FrontEntry) (c : Clause) : Group :=
  { g with frontier := g.frontier.filter (fun x => decide (x.addr ≠ e.addr)), clause := some c }

/-! ## Reasons that hold a group -/

/-- A trap delivery of the group waits for a slot of the trap area (R347). -/
def State.trapWaits (s : State) (gid : Nat) (g : Group) : Bool := (s.ctx g.ctx).waitTraps.any (fun w => decide (w.gid = some gid))

/-- A group that a trap holds (R346), or that has been restored with an entry in REPLAY (R357). -/
def State.faultHeld (s : State) (gid : Nat) (g : Group) : Bool :=
  !g.trapHold.isEmpty || g.lostHold || s.trapWaits gid g
  || g.restoring.any (fun n => g.log.any (fun e => decide (e.2.op = n) && decide (e.2.st = .replay)))

/-- The incoming set of a swap waits for its team state (R355 step 3), for accesses to the shared window, to tiles and to the
Sieve. -/
def State.restoreWait (s : State) (u : Issuer) (i : Instr) : Bool :=
  (decide ((s.plot u.g.plot).spill ≠ .idle) && decide ((s.plot u.g.plot).spill ≠ .restoreSet)) &&
    (match i with
     | .tset .. | .tstat .. | .tdrop .. | .tdropFree .. | .vldt .. | .vstt .. | .vsieve .. | .svinit .. | .svinitFree .. | .svget .. => true
     | .cpy .. | .cpyCe .. | .cpyq .. | .launch .. | .mxd .. | .pfh .. | .mwait .. =>
       (s.opRanges u.gid (u.capture i)).any (fun r => decide (2 ^ 57 ≤ r.1))
     | _ => isAccess i && (s.opElems u.gid (u.capture i)).any (fun e => match spaceOf e.addr with | .shared _ => true | _ => false))

/-- The breakpoint before a word (R403): an XPFX unit counts the bits of both its words; the first word counts the header's. A word that does not decode
has its bit like any other. DEDUCED: log entry 33. -/
def brkBefore (c : Clause) : Bool :=
  c.brk.getLsbD (c.idx + 1) || (decide (c.idx = 0) && c.brk.getLsbD 0) ||
    (match decode (c.words.drop c.idx) with | .ok (.xpfx ..) => c.brk.getLsbD (c.idx + 2) | .error .prefixField => c.brk.getLsbD (c.idx + 2) | _ => false)

/-- A debugger owns the context (R398). -/
def State.debugOwned (s : State) (c : Nat) : Bool := s.regs.dbgOwn.getLsbD c

/-- The group halts before this word of its clause (R403), unless it has already done so. -/
def State.breaks (s : State) (g : Group) (c : Clause) : Bool :=
  brkBefore c && c.pfx.isNone && !c.brkDone && !g.pgc && s.debugOwned g.ctx

/-! ## The turn -/

/-- What a unit does with its turn. -/
inductive Turn where
  /-- nothing issues: the state after the turn -/
  | idle (s : State)
  /-- a word issues -/
  | run (s : State) (i : Instr)
  deriving DecidableEq, Repr

/-- Nothing issues and the reason is charged; the second word of a pair is not charged (R47). -/
def State.slotEmpty (s : State) (gid p r : Nat) : State :=
  match ((s.group gid).clause).map (fun c => c.second) with
  | some true => (s.modGroup gid (fun g => { g with clause := g.clause.map (fun c => { c with second := false }) })).endTurn
  | _ => (s.charge p r).endTurn

/-- A group halts before its next word (R402, R403). -/
def State.haltGroup (s : State) (gid : Nat) : State :=
  (s.flushPend gid).modGroup gid (fun g => { g with halted := true, stepping := false })

/-- A trap that a fetch or a header raises, before any word of the clause: the bundle stays where it is. The line is fetched
again when the group leaves the hold. DEDUCED: log entry 32. -/
def State.fetchTrap (s : State) (gid p : Nat) (f : Failure) (clause : DWord) (word : Nat) : State :=
  let s1 := s.modPlot p (fun x => { x with fetchFail := x.fetchFail.filter (fun e => decide (e.2.2 ≠ f)) })
  ((s1.trapGroup gid f 15 word clause).charge p stFault).endTurn

/-- The turn of a group whose clause is in progress. DEDUCED: log entry 7. -/
def State.clauseTurn (s : State) (gid : Nat) (g : Group) (c : Clause) : Turn :=
  let u : Issuer := { gid := gid, g := g, c := c }
  if s.breaks g c then
    .idle ((s.modGroup gid (fun x => { x with clause := some { c with brkDone := true } })).haltGroup gid |>.slotEmpty gid g.plot stHalt)
  else
  match decode (c.words.drop c.idx) with
  | .error e => .idle (s.trapAtIssue u { cls := clsIllegal, cause := c.badCause g.pgc e })
  | .ok i =>
    -- the lowest code of the reasons that apply (R404)
    if !g.pgc && s.restoreWait u i then .idle (s.slotEmpty gid g.plot (Nat.min stOther ((waits i u s).getD stOther)))
    else
      let t := s.team g.team
      .run (if t.paired && isMatched i then s.afterOnce 0 .pairedWordMatch { a := if t.primary then g.team else t.twin.getD 0 } else s) i

/-- The turn of a group (R46, R52, R404). -/
def State.groupTurn (s : State) (gid : Nat) (g : Group) : Turn :=
  let p := g.plot
  if g.loc ≠ .active then .idle (s.charge p stNoGroup).endTurn
  else if p < 384 ∧ s.cycle ≤ (s.plot p).blackout ∧ 0 < (s.plot p).blackout then .idle (s.slotEmpty gid p stOther)
  else if g.halted && !g.stepping then .idle (s.slotEmpty gid p stHalt)
  else if s.faultHeld gid g then .idle (s.slotEmpty gid p stFault)
  else
    match g.hold with
    | some h => .idle (s.slotEmpty gid p (s.holdReason g h))
    | none =>
      match g.clause with
      | some c => s.clauseTurn gid g c
      | none =>
        match s.chooseEntry g with
        | none => .idle (((if g.pgc then s else s.requestLines gid g).charge p (s.idleReason g)).endTurn)
        | some (_, .bad f cl w) => .idle (s.fetchTrap gid p f cl w)
        | some (_, .part _ l) => .idle (((if g.pgc then s else s.requestLines gid g).charge p (s.missReason g l)).endTurn)
        | some (e, .ready c) =>
          match s.codePath g e.addr.toNat with
          | some t => .idle (t.charge p stIcache).endTurn
          | none =>
            let s1 := if g.pgc then s.modPgc (fun x => { x with codeAt := none }) else s.requestLines gid g
            let h := (s1.group gid).start e c
            (s1.setGroup gid h).clauseTurn gid h c
        | some _ => .idle (s.charge p stOther).endTurn

/-- A word would issue were this cycle the group's slot (R404). -/
def State.wouldIssue (s : State) (gid : Nat) (g : Group) : Bool :=
  if g.loc ≠ .active ∨ (g.halted && !g.stepping) ∨ s.faultHeld gid g ∨ g.hold.isSome ∨ s.cycle ≤ (s.plot g.plot).blackout ∧ 0 < (s.plot g.plot).blackout
  then false
  else
    let word := fun (c : Clause) =>
      match decode (c.words.drop c.idx) with
      | .error _ => false
      | .ok i =>
        let u : Issuer := { gid := gid, g := g, c := c }
        let one := fun (u : Issuer) (i : Instr) => (checks i u s).isNone && (waits i u s).isNone && !s.restoreWait u i
        !s.breaks g c && one u i &&
          -- an XPFX issues with its lane word, or not at all (R76)
          (match i with
           | .xpfx k z r sat x v =>
             let c2 := { c with idx := c.idx + 1, pfx := some { k := k, z := decide (z = 1), rm := r, sat := decide (sat = 1), c := x, cv := decide (v = 1) } }
             (match decode (c2.words.drop c2.idx) with | .ok j => isLane j && one { u with c := c2 } j | .error _ => false)
           | _ => true)
    match g.clause with
    | some c => word c
    | none =>
      match s.chooseEntry g with
      | some (_, .ready c) => word c
      | _ => false

/-- Counts the eligible groups of every plot that hosts a group (R404); ELIG0 is CYCLE less the others. The count enters ELIG with the end of the cycle. -/
def State.countEligible (s : State) : State :=
  s.plots.foldl (fun t e =>
    let n := (e.2.slots.filter (fun x => match x with
      | some gid => match tabFind s.groups gid with | some g => s.wouldIssue gid g | none => false
      | none => false)).length
    if n = 0 then t else t.modPlot e.1 (fun x => { x with eligNow := n })) s

/-- The cycle's counts of eligible groups enter ELIG1-ELIG8 (R404). -/
def State.foldElig (s : State) : State :=
  s.plots.foldl (fun t e => if e.2.eligNow = 0 then t
    else t.modPlot e.1 (fun x => { x with elig := tabMod 0 x.elig e.2.eligNow (fun k => (k + 1) % 2 ^ 64), eligNow := 0 })) s

/-- A halted group's words have issued: what they had still to write is written before the cycle ends (R127, R402). -/
def State.settleHalts (s : State) : State :=
  s.groups.foldl (fun t e => if e.2.halted && !e.2.stepping && !e.2.pend.isEmpty then t.flushPend e.1 else t) s

/-- The turn of a unit: a plot, or the serving PGC (unit 384). Unit 385 stands for the counting of eligible groups that opens a
cycle (R404). -/
def State.unitTurn (s : State) (p : Nat) : Turn :=
  if p = 385 then .idle s.countEligible.endTurn else
  match s.slotGroup p with
  | none => .idle (s.charge p stNoGroup).endTurn
  | some gid =>
    match tabFind s.groups gid with
    | none => .idle (s.charge p stNoGroup).endTurn
    | some g => s.groupTurn gid g

/-! ## The end of a cycle -/

/-- Units that have a turn in a cycle: the plots with a group in some slot whose core has not stopped (R373), and the PGC every 8 cycles
(DESIGN CHOICE: log entry 8). -/
def State.turns (s : State) : List Nat :=
  let ps := (s.plots.filter (fun e => decide (e.1 < 384) && decide (e.2.failed ≠ 1) && e.2.slots.any Option.isSome)).map (fun e => e.1)
  (if ps.isEmpty then [] else 385 :: ps) ++ (if s.cycle % 8 = 0 then [384] else [])

/-- The end of a cycle and the start of the next one (R17, R19): a tick stop takes effect at the first cycle of its tick (R401).
DESIGN CHOICE: log entry 8. -/
def State.endCycle (s : State) : State :=
  let s1 := s.settleHalts.foldElig.releaseHolds
  let s2 := ({ s1 with cycle := s1.cycle + 1 } : State).fqArrivals.trapWaiters
  let s3 := s2.periodic
  let s4 : State := if s3.regs.arm && decide (s3.cycle = 2 * s3.regs.tstopt.toNat) then
      { s3 with agenda := { due := s3.cycle, what := .tickStop } :: s3.agenda } else s3
  { s4 with todo := s4.turns }

end Sys2Proof.Machine
end

