-- ==== Sys2Proof/Machine/System.lean ====
section
/-! DEFINITION. XPFX (R76-R78), the holding forms of the group (R60, R61, R172-R179, R215-R217, R183), traps by a word (R181) and
`tres` (R182, R350). -/

namespace Sys2Proof.Machine

/-! ## XPFX -/

/-- The lowest cause that an XPFX unit raises before its prefix meets its word (R78): the word that follows is not a lane word. -/
def xpfxCause (c : Clause) : Option Nat :=
  match c.words[c.idx + 1]? with
  | none => some 5
  | some w => if w.getLsbD 31 then some 5 else none

/-- XPFX (R76): the prefix waits for the lane word, which issues as one unit with it in the same cycle. DEDUCED: log entry 7. -/
def execXpfx (k : BitVec 3) (z : BitVec 1) (r : BitVec 3) (sat : BitVec 1) (c : BitVec 7) (v : BitVec 1) (s : State) : Result :=
  match s.issuer? with
  | none => .fault .noIssuer
  | some u =>
    match checks (.xpfx k z r sat c v) u s with
    | some f => .next (s.trapAtIssue u f)
    | none =>
      match xpfxCause u.c with
      | some n => .next (s.trapAtIssue u { cls := clsIllegal, cause := n })
      | none =>
        .next (s.modGroup u.gid (fun g => { g with clause := some { u.c with
          idx := u.c.idx + 1
          pfx := some { k := k, z := decide (z = 1), rm := r, sat := decide (sat = 1), c := c, cv := decide (v = 1) } } }))

/-! ## Waiting for flags (R172) -/

/-- Every flag of a mask reads zero. -/
def Group.flagsZero (g : Group) (m : BitVec 12) : Bool := (List.range 12).all (fun n => !m.getLsbD n || decide (g.readF n = 0))

def execWfl (m : BitVec 12) (s : State) : Result :=
  issue (.wfl m) s (fun u t => if u.g.flagsZero m then .ok t else .hold t (.flags m))

/-! ## Barriers (R174) -/

def execBar (sc : BitVec 2) (b : BitVec 4) (s : State) : Result :=
  issue (.bar sc b) s (fun u t => .ok (t.beginArrival u.gid (decide (sc = 1)) true b.toNat))
def execBarr (sc : BitVec 2) (b : BitVec 4) (s : State) : Result :=
  issue (.barr sc b) s (fun u t => .ok (t.beginArrival u.gid (decide (sc = 1)) false b.toNat))
def execBarw (sc : BitVec 2) (b : BitVec 4) (s : State) : Result :=
  issue (.barw sc b) s (fun u t =>
    let clu := decide (sc = 1)
    if t.hasArrived u.gid u.g.team clu b.toNat then .hold t (.barWait b.toNat clu (t.barrier u.g.team clu b.toNat).phase) else .ok t)

/-! ## Fences (R177, R231) -/

/-- A fence with nothing to wait for completes 4 cycles after issue. DEDUCED: log entry 30. -/
def State.fenceIdle (s : State) (u : Issuer) (kind scope : Nat) : Bool :=
  let t := s.uTeam u
  !fenceReleases kind ||
    (u.g.opsPerformed none && !u.g.logBusy && (decide (scope < 2) || u.g.pgc || (t.cb.isEmpty && t.commits.isEmpty && !t.paired)))

def execFence (k : BitVec 2) (sc : BitVec 3) (s : State) : Result :=
  issue (.fence k sc) s (fun u t =>
    .hold t (.fence k.toNat sc.toNat false (if t.fenceIdle u k.toNat sc.toNat then some (t.cycle + 4) else none)))

def execFenceng (s : State) : Result := issue .fenceng s (fun u t => .hold t (if u.g.engineBusy then .fenceng else .until (t.cycle + 4)))

/-! ## Register rows (R60, R61) -/

/-- Rows of the pool of a plot's active bank that no group holds (R59). -/
def State.freeRows (s : State) (p : Nat) : Nat :=
  48 - (s.plot p).slots.foldl (fun n x => match x with | some g => n + (s.group g).rows | none => n) 0

/-- Puts a request (its place in the order, group, rows) before the first that is not older. -/
def insertRequest (e : Nat × Nat × Nat) : List (Nat × Nat × Nat) → List (Nat × Nat × Nat)
  | [] => [e]
  | x :: rest => if e.1 ≤ x.1 then e :: x :: rest else x :: insertRequest e rest

/-- The waiting requests of a plot, oldest first. -/
def State.rowRequests (s : State) (p : Nat) : List (Nat × Nat) :=
  let all := (s.plot p).slots.filterMap (fun x => x.bind (fun g => match (s.group g).hold with | some (.racq n o) => some (o, g, n) | _ => none))
  (all.foldr insertRequest []).map (fun e => e.2)

/-- Rows m … m + n − 1 are mapped, reading zero (R60). -/
def Group.mapRows (g : Group) (n : Nat) : Group := { (g.zeroRows g.rows (g.rows + n)) with rows := g.rows + n }

/-- DEDUCED: log entry 87. -/
def execRacq (n : BitVec 3) (s : State) : Result :=
  issue (.racq n) s (fun u t =>
    if n.toNat ≤ t.freeRows u.g.plot ∧ (t.rowRequests u.g.plot).isEmpty then .ok (t.modGroup u.gid (fun g => g.mapRows n.toNat))
    else .hold t.bump (.racq n.toNat t.nextId))

def execRacqTry (d : BitVec 6) (n : BitVec 3) (s : State) : Result :=
  issue (.racqTry d n) s (fun u t =>
    if n.toNat ≤ t.freeRows u.g.plot ∧ (t.rowRequests u.g.plot).isEmpty then
      .ok ((t.modGroup u.gid (fun g => g.mapRows n.toNat)).setSV u d 1)
    else .ok (t.setSV u d 0))

/-- Serves the waiting requests, oldest first, while rows suffice (R60). DEDUCED: log entry 87. -/
def State.serveRows (s : State) : List (Nat × Nat) → State
  | [] => s
  | (gid, n) :: rest =>
    if n ≤ s.freeRows (s.group gid).plot then
      (s.modGroup gid (fun g => { (g.mapRows n) with hold := none })).serveRows rest
    else s

/-- RACQ_SERVE (R60). -/
def execRacqServe (s : State) : Result := .next (s.serveRows (s.rowRequests s.ev.a))

def execRrel (n : BitVec 3) (s : State) : Result :=
  issue (.rrel n) s (fun u t =>
    let low := u.g.rows - n.toNat
    .ok ((t.modGroup u.gid (fun g => { (g.zeroRows low g.rows) with rows := low })).afterOnce 0 .racqServe { a := u.g.plot }))

/-! ## Shared tiles (R215-R217) -/

/-- A form on a tile: at once, or held while the tile is in use. -/
def tileWord (i : Instr) (s : State) : Result :=
  issue i s (fun u t => match t.tileForm u.gid i with | some t1 => .ok t1 | none => .hold t (.tile i))

def execTset (t a b : BitVec 6) (r : BitVec 1) (s : State) : Result := tileWord (.tset t a b r) s
def execTdrop (t : BitVec 6) (s : State) : Result := tileWord (.tdrop t) s
def execTdropFree (t : BitVec 6) (s : State) : Result := tileWord (.tdropFree t) s

/-- Code of TST.STATE (R216). -/
def TileState.code : TileState → Nat
  | .empty => 0 | .filling => 1 | .ready => 2 | .draining => 3

/-- What tstat reads (R216). -/
def State.tileStat (s : State) (u : Issuer) (t : Nat) : DWord :=
  match s.tileAt u.g.plot t with
  | none => 0
  | some e => if e.team = u.g.team then BitVec.ofNat 64 (e.len * 2 ^ 32 + e.off * 2 ^ 16 + 4 + e.st.code) else 8

def execTstat (d t : BitVec 6) (s : State) : Result := issue (.tstat d t) s (fun u x => .ok (x.setSV u d (x.tileStat u t.toNat)))

/-! ## Launch completion, host signals (R178, R179) -/

def execLwait (d a : BitVec 6) (try_ : BitVec 1) (s : State) : Result :=
  issue (.lwait d a try_) s (fun u t =>
    let h := (u.sv a).toNat
    let serial := h % 2 ^ 32
    if h / 2 ^ 63 = 1 ∨ serial = 0 then .ok (t.setSV u d 0)
    else
      match t.launchStatus u.g.ctx serial with
      | some st => .ok (t.setSV u d (BitVec.ofNat 64 (serial + st * 2 ^ 32)))
      | none => if try_ = 1 then .ok (t.setSV u d 0) else .hold t (.lwait d serial))

/-- DESIGN CHOICE: log entry 34. -/
def execHsig (n : BitVec 6) (s : State) : Result := issue (.hsig n) s (fun _ t => .hold t (.hsig n.toNat))

/-! ## Traps by a word (R181) -/

def clsBreak : Nat := 17
def clsSwtrap : Nat := 18

def execTrap (c : BitVec 18) (s : State) : Result :=
  issue (.trap c) s (fun _ t => .trapAfter t { cls := clsSwtrap, cause := c.toNat })

/-- BRK: under a debugger the group halts after the word (R181, R403). -/
def execBrk (c : BitVec 18) (s : State) : Result :=
  issue (.brk c) s (fun u t =>
    if !u.g.pgc && t.debugOwned u.g.ctx then .ok (t.haltGroup u.gid) else .trapAfter t { cls := clsBreak, cause := c.toNat })

/-! ## tres (R182, R350) -/

/-- Words of the instruction at the head of a list, its literals included; 1 where it does not decode. -/
def unitWords (ws : List Word) : Nat :=
  match decode ws with
  | .ok (.xpfx ..) => 1 + (match decode (ws.drop 1) with | .ok j => wordCount j | .error _ => 1)
  | .ok i => wordCount i
  | .error _ => 1

/-- A bundle whose word is abandoned goes on with the next word (R182). DEDUCED: log entry 22. -/
def Group.skipWord (g : Group) (clause : DWord) (word : Nat) : Group :=
  match g.clause with
  | some c =>
    if c.addr = clause ∧ c.idx = word then
      let k := word + unitWords (c.words.drop word)
      if k < c.words.length then { g with clause := some { c with idx := k, pfx := none, brkDone := false } }
      else { g with clause := none }.addFront { addr := c.addr + BitVec.ofNat 64 (4 * (c.words.length + 1)), lanes := c.lanes }
    else g
  | none =>
    match g.frontier.find? (fun e => match e.from? with | some (a, w, _) => decide (a = clause ∧ w = word) | none => false) with
    | some e =>
      match e.from? with
      | some (_, _, fall) => { g with frontier := g.frontier.filter (fun x => decide (x ≠ e)) }.addFront { addr := fall, lanes := e.lanes, age := e.age }
      | none => g
    | none => g

/-- A clause whose header is bad (cause 9) is abandoned: its lanes go on at the next header. DEDUCED: log entry 22. -/
def State.skipHeader (s : State) (gid : Nat) (clause : DWord) : State :=
  let g := s.group gid
  match g.frontier.find? (fun e => decide (e.addr = clause)), s.codeWord g clause.toNat with
  | some e, some h =>
    s.setGroup gid ({ g with frontier := g.frontier.filter (fun x => decide (x ≠ e)) }.addFront
      { addr := clause + BitVec.ofNat 64 (4 * (hdrWords h + 1)), lanes := e.lanes, age := e.age })
  | _, _ => s

/-- TR.CAUSE, TR.WORD and TR.CLAUSE of a record (R348). -/
def trCause (r : BitVec 512) : Nat := (r.extractLsb' 264 18).toNat
def trWord (r : BitVec 512) : Nat := (r.extractLsb' 282 4).toNat
def trClause (r : BitVec 512) : DWord := r.extractLsb' 128 64

/-- Takes an action on an unresolved trap (R182, R344, R350): 0 replay, 1 skip, 2 kill. DEDUCED: log entry 22. -/
def State.tresAct (s : State) (c : Nat) (r : TrapRec) (action : Nat) : State :=
  match r.gid with
  | none => s
  | some gid =>
    let g := s.group gid
    if action = 2 then s.killTeam g.team
    else if r.logslot < 8 then
      match tabFind g.log r.logslot with
      | none => s.trapResolved c r.seq
      | some e =>
        if action = 0 then
          ((s.modGroup gid (fun x => { x with log := tabPut x.log r.logslot { e with st := .replay } })).trapResolved c r.seq).tryReplay gid
        else (s.trapResolved c r.seq).opAbandoned gid e.op
    else
      let s1 := s.trapResolved c r.seq
      if action = 0 ∨ r.cls = clsBreak ∨ r.cls = clsSwtrap then s1
      else if r.cls = clsIllegal ∧ trCause r.data = 9 then s1.skipHeader gid (trClause r.data)
      else s1.modGroup gid (fun x => x.skipWord (trClause r.data) (trWord r.data))

/-- Actions that a halt has queued (R358), taken when it ends. -/
def State.takeQueued (s : State) (gid : Nat) : State :=
  let c := (s.group gid).ctx
  let q := (s.group gid).queuedTres
  q.foldl (fun t e =>
    match (t.ctx c).traps.find? (fun r => decide (r.seq = e.2.2.2)) with
    | some r => t.tresAct c r e.2.1
    | none => t) (s.modGroup gid (fun g => { g with queuedTres := [] }))

/-- The record at an address as `tres` loads it: TR.CTX and TR.SEQ; none where the read fails (R182). A load of poison ends the handler team (R365). -/
def State.tresRead (s : State) (u : Issuer) (r : SReg) : State × Option (Nat × Nat) :=
  if r.val.toNat % 64 ≠ 0 then (s, none)
  else
    match spaceOf r.val with
    | .outside => (s, none)
    | sp =>
      let fits := match sp with | .shared off => decide (off + 64 ≤ (s.uTeam u).shareBytes) | _ => true
      if !fits then (s, none)
      else
        let x := s.checkElem u.gid (if r.tag then some r.base else none) r.val 64 .read none false
        match x.2.1 with
        | some _ => (x.1, none)
        | none =>
          let e : Elem := { k := 0, lane := 0, addr := r.val, n := 64 }
          if x.1.placePoisoned u.gid e x.2.2 then (x.1.consumePoison u.g.team, none) else
          let b := x.1.loadElem u.gid r.val x.2.2 64
          (x.1, some (fld (bytesNat b) 290 6, fld (bytesNat b) 384 32))

/-- The status of `tres` and what it does: 0 taken, 1 no such held group, 2 the group is halted and the action is queued. -/
def State.tres (s : State) (u : Issuer) (r : SReg) (action : Nat) : State × Nat :=
  let x := s.tresRead u r
  match x.2 with
  | none => (x.1, 1)
  | some (c, seq) =>
    if c ≠ u.g.ctx then (x.1, 1)
    else
      match (x.1.ctx c).traps.find? (fun t => decide (t.seq = seq) && t.gid.isSome) with
      | none => (x.1, 1)
      | some t =>
        let gid := t.gid.getD 0
        let g := x.1.group gid
        if g.queuedTres.any (fun e => decide (e.2.2.2 = seq)) then (x.1, 2)
        else if g.halted then (x.1.modGroup gid (fun y => { y with queuedTres := y.queuedTres ++ [(t.logslot, action, t.cls, seq)] }), 2)
        else (x.1.tresAct c t action, 0)

/-- A form of `tres`. -/
def tresWord (i : Instr) (d a : BitVec 6) (action : Nat) (s : State) : Result :=
  issue i s (fun u t => let r := t.tres u (u.sreg a) action; .ok (r.1.setSV u d (BitVec.ofNat 64 r.2)))

def execTresReplay (d a : BitVec 6) (s : State) : Result := tresWord (.tresReplay d a) d a 0 s
def execTresSkip (d a : BitVec 6) (s : State) : Result := tresWord (.tresSkip d a) d a 1 s
def execTresKill (d a : BitVec 6) (s : State) : Result := tresWord (.tresKill d a) d a 2 s

/-! ## icinv (R183) -/

/-- Sends the request to every plot in service and holds the group until all have acknowledged. -/
def State.sendIcinv (s : State) (u : Issuer) (lo len : DWord) (all : Bool) : Eff :=
  let ps := (List.range 384).filter s.inService
  .hold (ps.foldl (fun (t : State) p =>
    t.send u.g.plot p 0 .icinvRequest { a := p, b := u.gid, v := lo, f := len.setWidth 256, flag := all }) s) (.icinv ps.length)

def execIcinv (a b : BitVec 6) (s : State) : Result := issue (.icinv a b) s (fun u t => t.sendIcinv u (u.sv a) (u.sv b) false)
def execIcinvAll (s : State) : Result := issue .icinvAll s (fun u t => t.sendIcinv u 0 0 true)

/-- ICINV_REQUEST (R183): the plot drops the lines, and acknowledges after 40 cycles; a culled plot's acknowledgement counts as given (R375). -/
def execIcinvRequest (s : State) : Result :=
  let e := s.ev
  let g := s.group e.b
  let lo := e.v.toNat
  let hit := fun (l : ILine) => decide (l.ctx = g.ctx) && !g.pgc &&
    (e.flag || (decide (0 < e.f.toNat) && decide (lo < l.vline * 64 + 64) && decide (l.vline * 64 < lo + e.f.toNat)))
  let s1 := s.modPlot e.a (fun x => { x with icache := x.icache.filter (fun l => !hit l) })
  .next (if (s.plot e.a).culled then s.after 0 .icinvAck { a := e.a, b := e.b } else s1.send e.a g.plot 40 .icinvAck { a := e.a, b := e.b })

/-- ICINV_ACK (R183). -/
def execIcinvAck (s : State) : Result :=
  .next (s.modGroup s.ev.b (fun g => match g.hold with
    | some (.icinv n) => { g with hold := some (.icinv (n - 1)) }
    | _ => g))

end Sys2Proof.Machine
end

