-- ==== Sys2Proof/Machine/Objects.lean ====
section
/-! DEFINITION. The object forms (R163-R166), `mwait` (R176), `pub` and the Gleaner (R210-R213, R303), `pfh` and `adv` (R220-R222). -/

namespace Sys2Proof.Machine

/-! ## Blocks of an object -/

/-- One block of an object: its DPA and leaf entry, or the failure (R163); the PGC names it by its DPA (R333). DEDUCED: log entry 28. -/
def State.objBlock (s : State) (g : Group) (va : Nat) (u : Use) : State × Option Failure × Nat × Nat :=
  if g.pgc then (s.eccMiss va, none, va, 0) else
  let x := s.translate g.plot g.ctx (va % 2 ^ 57) u
  match x.2 with
  | .miss k d l => (x.1, some (elemFail (clsOfKind k) 18 va (d + 256 * l)), 0, 0)
  | .perm => (x.1, some (elemFail clsProt 19 va), 0, 0)
  | .ok dpa pte => (x.1.eccMiss dpa, if pteFmt pte = 2 then none else some (elemFail clsProt 19 va), dpa, pte)

/-- Every block of a range: the failure with the lowest cause, then the lowest address. -/
def State.objRange (s : State) (g : Group) (h n : Nat) (u : Use) : State × Option Failure :=
  (List.range n).foldl (fun (acc : State × Option Failure) i =>
    let x := acc.1.objBlock g (h + 64 * i) u
    (x.1, worseOf acc.2 x.2.1)) (s, none)

/-- Writes one block of an object range: the bytes from `lo` on zero when `zero`, and the tags of the words from `lo` on clear. The
writes go to the L1 (R164). -/
def State.objClear (s : State) (g : Group) (va lo : Nat) (zero : Bool) : State :=
  let x := s.objBlock g va .write
  let s1 := x.1.touchWrite g.plot x.2.2.1 x.2.2.2 g.ctx
  let s2 := if zero then s1.writeMem (x.2.2.1 + lo) (List.replicate (64 - lo) 0) else s1
  let s3 := s2.tagWords (x.2.2.1 + lo) (64 - lo) false
  if zero ∧ lo = 0 then s3.clearPoison x.2.2.1 else s3

/-- Writes an object header (R295). -/
def State.putHeader (s : State) (g : Group) (h hdr : Nat) : State :=
  let x := s.objBlock g h .write
  (x.1.touchWrite g.plot x.2.2.1 x.2.2.2 g.ctx).writeMem x.2.2.1 (natBytes 8 hdr)

/-- Bytes of a place are poisoned (R365). -/
def State.vaPoisoned (s : State) (g : Group) (va n : Nat) : Bool :=
  if g.pgc then s.rangePoisoned va n else
  match (s.translateWalk g.ctx (va % 2 ^ 57) .read).2 with
  | .ok dpa _ => s.rangePoisoned dpa n
  | _ => false

/-! ## oinit, ofree, oreset (R164, R165) -/

/-- The header of a private object that oinit makes (R164). -/
def newHeader (t : Team) (b : DWord) : Nat := 2 ^ 62 + t.serial * 2 ^ 36 + fld b.toNat 0 36

/-- The checks of ofree and oreset against the header, in order (R165). DEDUCED: log entry 41. -/
def ownCheck (t : Team) (h hdr : Nat) : Option Failure :=
  if hdrState hdr = 0 then some (elemFail clsBounds 20 h)
  else if hdrState hdr ≠ 1 then some (elemFail clsProt 19 h)
  else if hdrOwner hdr ≠ t.serial then some (elemFail clsEscapeWrite 21 h)
  else none

/-- The object form has been performed; the hold ends after n more cycles. -/
def State.objPerformed (s : State) (gid op n : Nat) : State := (s.opPerformed gid op).after n .objectFormComplete { a := gid, b := op }

/-- Performs oinit, ofree or oreset: every check, then every write. -/
def State.performObject (s : State) (gid op : Nat) (o : MemOp) : State :=
  let g := s.group gid
  let t := s.team g.team
  match o.word with
  | .oinit .. =>
    let a := o.base.val.toNat
    let b := (o.src.getD 1 {}).val
    let n := fld b.toNat 16 20
    let r := s.objRange g a n .write
    match r.2 with
    | some f => r.1.opFailed gid op f
    | none =>
      let s1 := (List.range n).foldl (fun (u : State) i => u.objClear g (a + 64 * i) 0 true) r.1
      let ref : SReg := { val := o.base.val, tag := true, base := o.base.val }
      ((s1.putHeader g a (newHeader t b)).modOp gid op (fun y => { y with sres := some ref })).objPerformed gid op n
  | w =>
    let h := o.base.base.toNat
    let x := s.objBlock g h .write
    match x.2.1 with
    | some f => x.1.opFailed gid op f
    | none =>
      if x.1.rangePoisoned x.2.2.1 8 then x.1.consumePoison g.team
      else
        let hdr := x.1.readNat x.2.2.1 8
        let n := hdrSize hdr
        let r := x.1.objRange g h n .write
        match worseOf r.2 (ownCheck t h hdr) with
        | some f => r.1.opFailed gid op f
        | none =>
          let s1 := match w with
            | .ofree .. => ((List.range n).foldl (fun (u : State) i => u.objClear g (h + 64 * i) 0 false) r.1).putHeader g h (hdr % 2 ^ 62)
            | _ => (List.range n).foldl (fun (u : State) i => u.objClear g (h + 64 * i) (if i = 0 then 8 else 0) true) r.1
          s1.objPerformed gid op n

/-- An object form holds its group from its issue; the checks come after 16 cycles. -/
def objWord (i : Instr) (s : State) : Result :=
  issue i s (fun u t => .hold (t.startOp u i 16 .memoryAccessPerform) (.objForm t.nextId))

def execOinit (d a b : BitVec 6) (s : State) : Result := objWord (.oinit d a b) s
def execOfree (a : BitVec 6) (s : State) : Result := objWord (.ofree a) s
def execOreset (a : BitVec 6) (s : State) : Result := objWord (.oreset a) s

/-- OBJECT_FORM_COMPLETE (R164): sD is written and the hold ends. -/
def execObjectFormComplete (s : State) : Result := .next ((s.completeOp s.ev.a s.ev.b).unhold s.ev.a)

/-! ## ostat (R166) -/

def State.performOstat (s : State) (gid op : Nat) (o : MemOp) : State :=
  let g := s.group gid
  let h := o.base.base.toNat
  let x := s.objBlock g h .read
  match x.2.1 with
  | some f => x.1.opFailed gid op f
  | none =>
    if x.1.rangePoisoned x.2.2.1 8 then x.1.consumePoison g.team
    else
      let v := BitVec.ofNat 64 (x.1.readNat x.2.2.1 8)
      ((((x.1.touchRead g.plot x.2.2.1 x.2.2.2 g.ctx).modOp gid op (fun y => { y with sres := some { val := v } })).opPerformed gid op).completeOp
        gid op).unhold gid

def execOstat (d a : BitVec 6) (s : State) : Result :=
  issue (.ostat d a) s (fun u t =>
    .hold (t.startAlong u (.ostat d a) (t.addrRoad u.g (u.sreg a).base false) 0 .memoryAccessPerform) (.ostat t.nextId))

/-! ## mwait (R176) -/

/-- Cycles after which an mwait reads again: 4,096 where the plot does not cache the line. -/
def watchPeriod (pl : Place) : Nat :=
  match pl with
  | .sh _ => 65536
  | .mem dpa pte => if isHost dpa || isPeer dpa || decide (pteClass pte = 1) then 4096 else 65536

/-- The line that an mwait watches in its plot's L1; the shared window has none. -/
def watchLine (pl : Place) : Nat := match pl with | .sh _ => 2 ^ 60 | .mem dpa _ => dpa / 512

/-- The mwait of a group reads its word: it ends when the word differs from sD, and otherwise holds until a wake event. A group that
is halted or swapped out reads at its resume. -/
def State.performMwait (s : State) (gid op : Nat) (o : MemOp) : State :=
  let g := s.group gid
  if g.halted ∨ (g.loc ≠ .active) then s
  else
    if s.opMoving gid o ∨ s.shareAway gid o ∨ (o.st = .issued ∧ s.behindEarlier gid op o) then s.after 1 .mwaitWake { a := gid, b := op }
    else
      let r := s.checkElem gid o.ref o.uniAddr 8 .read none false
      let late := match r.2.2 with | .mem dpa _ => (r.1.blockWait dpa).getD 0 | .sh _ => 0
      match r.2.1 with
      | some f => r.1.opFailed gid op f
      | none =>
        -- its block is being filled, or its channel stalls (R275, R316, R412)
        if 0 < late then r.1.after late .mwaitWake { a := gid, b := op } else
        let e : Elem := { k := 0, lane := 0, addr := o.uniAddr, n := 8 }
        if !g.pgc && r.1.placePoisoned gid e r.2.2 then r.1.consumePoison g.team
        else
          let v := BitVec.ofNat 64 (bytesNat (r.1.loadElem gid o.uniAddr r.2.2 8))
          let s1 := r.1.touchReads gid false [r.2.2]
          if v ≠ o.base.val then
            (((s1.modOp gid op (fun y => { y with sres := some { val := v } })).opPerformed gid op).completeOp gid op).unhold gid
          else
            let next := s1.cycle + watchPeriod r.2.2
            ((s1.opPerformed gid op).modGroup gid (fun x => { x with hold := match x.hold with
              | some (.mwait d a ref _ _ _) => some (.mwait d a ref false next (watchLine r.2.2))
              | h => h })).atCycle next .mwaitTimeout { a := gid }

/-- The mwait of a group that holds it. -/
def State.mwaitOp (s : State) (gid : Nat) : Option (Nat × MemOp) :=
  (s.group gid).ops.find? (fun e => match e.2.word with | .mwait .. => true | _ => false)

/-- Reads again, unless the read has failed and is in the operand log: its replay, which a halt or a swap may have turned away, is tried again (R345).
DEDUCED: log entry 86. -/
def State.rereadMwait (s : State) (gid : Nat) : State :=
  match s.mwaitOp gid with
  | some (op, o) => (match o.st with | .logged _ => s.tryReplay gid | .heldFail _ => s | _ => s.performMwait gid op o)
  | none => s

def execMwait (d a : BitVec 6) (i : BitVec 12) (s : State) : Result :=
  issue (.mwait d a i) s (fun u t =>
    let o := u.capture (.mwait d a i)
    .hold (t.startAlong u (.mwait d a i) (t.addrRoad u.g o.uniAddr false) 0 .mwaitWake)
      (.mwait d o.uniAddr o.ref false (t.cycle + 65536) (2 ^ 61)))

/-- MWAIT_WAKE (R176). -/
def execMwaitWake (s : State) : Result := .next (s.rereadMwait s.ev.a)
/-- MWAIT_TIMEOUT (R176): only the timeout that the latest read set. -/
def execMwaitTimeout (s : State) : Result :=
  .next (match (s.group s.ev.a).hold with
    | some (.mwait _ _ _ _ next _) => if next ≤ s.cycle then s.rereadMwait s.ev.a else s
    | _ => s)

/-! ## pub (R210-R213)

`MemOp.left` counts the phases of a pub: 0 before the check of its destination, 1 while it waits for a walker or is walked, 2 when the
walk is done, 3 when its commit is asked for, 4 when the commit has begun. -/

/-- The destination's checks (R210): a write; an untagged destination lies neither in the shared window nor on an OBJ page. -/
def State.pubCheck (s : State) (gid : Nat) (o : MemOp) : State × Option Failure × Place :=
  let b := o.src.getD 1 {}
  match spaceOf b.val with
  | .virt _ => s.checkElem gid (if b.tag then some b.base else none) b.val 8 .write none false
  | _ => (s, some { cls := clsProt, cause := 16, addr := b.val }, .sh 0)

/-- Scope code of a pub in the coding of headers: 0 cluster, 1 device, 2 system. -/
def pubScope (i : Instr) : Nat := match i with | .pub _ _ _ _ sc => sc.toNat | _ => 0
def pubFrozen (i : Instr) : Bool := match i with | .pub _ _ _ z _ => decide (z = 1) | _ => false

/-- What a walk finds: objects marked, the cycles it took, and the failure or the poison that ended it. -/
structure Walk where
  marked : List Nat := []
  cycles : Nat := 0
  fail : Option Failure := none
  poison : Bool := false
  /-- objects read: header and blocks -/
  seen : List (Nat × Nat) := []
  /-- queue entries beyond the walker's 256, in the order in which they left it for the scratch (R213) -/
  spill : List Nat := []
  deriving DecidableEq, Repr, Inhabited

/-- The tagged words of an object in address order: their values. A word that the team has buffered is read from its buffer. -/
def State.taggedWords (s : State) (g : Group) (h n : Nat) : Except Failure (List Nat) :=
  (List.range n).foldl (fun (acc : Except Failure (List Nat)) i =>
    match acc with
    | .error f => .error f
    | .ok l =>
      let x := s.objBlock g (h + 64 * i) .read
      match x.2.1 with
      | some f => .error f
      | none =>
        let t := s.team g.team
        .ok (l ++ ((List.range 8).filter (fun w => decide (i ≠ 0 ∨ w ≠ 0))).filterMap (fun w =>
          let va := h + 64 * i + 8 * w
          let dpa := x.2.2.1 + 8 * w
          let tag := match cbTag t va with | some b => b | none => descTag (s.readDesc x.2.2.1) w
          if tag then some (bytesNat ((List.range 8).map (fun k => match cbByte t (va + k) with | some b => b | none => s.readByte (dpa + k))))
          else none))) (.ok [])

/-- The poison of an object's blocks. -/
def State.objPoisoned (s : State) (g : Group) (h n : Nat) : Bool :=
  !s.poison.isEmpty && (List.range n).any (fun i => s.vaPoisoned g (h + 64 * i) 64)

/-- Phase 1 of a walk (R211). `fuel` bounds the objects visited. -/
def State.trace1 (s : State) (g : Group) (scope part : Nat) : Nat → List Nat → List Nat → Walk → Walk
  | 0, _, _, w => w
  | _, [], _, w => w
  | n + 1, h :: queue, visited, w =>
    if visited.contains h then s.trace1 g scope part n queue visited w
    else
      let w1 := { w with cycles := w.cycles + 40, seen := w.seen ++ [(h, 1)] }
      let x := s.objBlock g h .read
      match x.2.1 with
      | some f => { w1 with fail := some f }
      | none =>
        let hdr := s.readNat x.2.2.1 8
        if s.rangePoisoned x.2.2.1 8 then { w1 with poison := true }
        else if hdrState hdr = 0 then { w1 with fail := some (elemFail clsBounds 20 h) }
        else if hdrState hdr = 1 ∧ !privateTo (s.team g.team) h hdr then { w1 with fail := some (elemFail clsEscapeStore 21 h) }
        else if hdrState hdr ≠ 1 ∧ scope ≤ hdrScope hdr then s.trace1 g scope part n queue (h :: visited) w1
        else if s.objPoisoned g h (hdrSize hdr) then { w1 with poison := true }
        else
          match s.taggedWords g h (hdrSize hdr) with
          | .error f => { w1 with fail := some f }
          | .ok ws =>
            let q := queue ++ ws
            let w2 := { w1 with cycles := w1.cycles + 8 * ws.length, marked := w1.marked ++ [h], seen := w.seen ++ [(h, hdrSize hdr)],
                                spill := w1.spill ++ ws.drop (256 - queue.length) }
            -- the queue passes the walker's part of the scratch (R387)
            if 256 < q.length ∧ part < 8 * (q.length - 256) then { w2 with fail := some (elemFail clsBounds 20 h) }
            else s.trace1 g scope part n q (h :: visited) w2

/-- No walk visits more: the square of the number of words that can be tagged. -/
def State.walkFuel (s : State) : Nat :=
  let n := 8 * s.desc.length + 8 * (s.teams.foldl (fun n t => n + t.2.cb.length) 0) + 2
  n * n

/-- The walk of a pub. DEDUCED: log entry 37. -/
def State.pubWalk (s : State) (g : Group) (o : MemOp) : Walk :=
  s.trace1 g (pubScope o.word) (s.ctx g.ctx).walkSize.toNat s.walkFuel [o.base.base.toNat] [] {}

/-- What a walk does to memory before its outcome counts: the controllers check the blocks that it reads (R360), and the entries that its queue cannot
hold go to part `k` of the context's walker scratch (R213, R387), 8 bytes each, from the part's base on and round its end. DESIGN CHOICE: an entry's
place in the part, and no entry written where the scratch does not translate (log entry 100). -/
def State.walked (s : State) (g : Group) (k : Nat) (w : Walk) : State :=
  let s1 := if s.eccErrors.isEmpty then s
    else w.seen.foldl (fun (t : State) e => (List.range e.2).foldl (fun (u : State) i => (u.objBlock g (e.1 + 64 * i) .read).1) t) s
  let n := (s.ctx g.ctx).walkSize.toNat
  (w.spill.zip (List.range w.spill.length)).foldl (fun (t : State) e =>
    let x := t.translateWalk g.ctx ((s.ctx g.ctx).walkScr.toNat + k * n + 8 * e.2 % (n / 8 * 8)) .write
    match x.2 with
    | .ok dpa pte => (x.1.touchWrite g.plot dpa pte g.ctx).writeMem dpa (natBytes 8 e.1)
    | _ => t) s1

/-- Phase 2's update of one header, computed from the header as it stands (R211, R303). -/
def publishHeader (hdr scope : Nat) (frozen : Bool) : Nat :=
  let put := fun (st sc : Nat) => st * 2 ^ 62 + sc * 2 ^ 60 + hdr % 2 ^ 60
  if hdrState hdr = 1 then put (if frozen then 3 else 2) scope
  else if hdrState hdr ≠ 0 ∧ hdrScope hdr < scope then put (hdrState hdr) scope
  else hdr

/-- Publishes one object: its header, and the retain bit of the arena it lies in (R297). DEDUCED: log entry 37. -/
def State.publish (s : State) (g : Group) (h scope : Nat) (frozen : Bool) : State :=
  let x := s.objBlock g h .read
  match x.2.1 with
  | some _ => x.1
  | none =>
    let dpa := x.2.2.1
    let heap := (s.ctx g.ctx).arenaHeap.toNat
    let s1 := x.1.homeWrite dpa x.2.2.2 g.ctx
    (s1.writeMem dpa (natBytes 8 (publishHeader (s1.readNat dpa 8) scope frozen))).modCtx g.ctx (fun c =>
      { c with arenas := c.arenas.map (fun a =>
          if heap + a.off * 65536 ≤ h ∧ h < heap + (a.off + a.len) * 65536 then { a with retain := true } else a) })

/-- A pub enters its die's queue, in issue order (R213). -/
def State.queuePub (s : State) (gid op : Nat) : State :=
  let d := plotDie (s.group gid).plot
  (s.modDie d (fun x => { x with pubQueue := (x.pubQueue.filter (fun e => decide (e.2 < op))) ++ [(gid, op)] ++ x.pubQueue.filter (fun e => decide (op < e.2)) })).modTeam
    (s.group gid).team (fun t => { t with walks := t.walks + 1 })

/-- A pub leaves the Gleaner. -/
def State.leaveGleaner (s : State) (gid op : Nat) : State :=
  let d := plotDie (s.group gid).plot
  ((s.modDie d (fun x => { x with pubQueue := x.pubQueue.filter (fun e => decide (e.2 ≠ op)), walkers := x.walkers.filter (fun e => decide (e.2.1 ≠ op)) })).modTeam
    (s.group gid).team (fun t => { t with walks := t.walks - 1 })).afterOnce 0 .gleanerWalk { a := d }

/-- A pub fails (R210, R211): its walk ends, and the failure is logged. -/
def State.pubFailed (s : State) (gid op : Nat) (f : Failure) : State :=
  ((s.leaveGleaner gid op).modOp gid op (fun o => { o with left := 0 })).opFailed gid op f

/-- The check of a pub's destination before its walk. -/
def State.performPub (s : State) (gid op : Nat) (o : MemOp) : State :=
  let d := plotDie (s.group gid).plot
  let s0 := if (s.die d).pubQueue.any (fun e => decide (e.2 = op)) then s else s.queuePub gid op
  let r := s0.pubCheck gid o
  match r.2.1 with
  | some f => r.1.pubFailed gid op f
  | none => (r.1.modOp gid op (fun y => { y with left := 1 })).afterOnce 0 .gleanerWalk { a := d }

def execPub (a b : BitVec 6) (f z : BitVec 1) (sc : BitVec 2) (s : State) : Result :=
  issue (.pub a b f z sc) s (fun u t =>
    .hold ((t.startAlong u (.pub a b f z sc) (t.addrRoad u.g (u.sv b) true) 0 .memoryAccessPerform).queuePub u.gid t.nextId) (.pubWalk t.nextId))

/-- The lowest walker of a die that is free (R213, R387). DESIGN CHOICE: log entry 100. -/
def Die.freeWalker (x : Die) : Nat := ((List.range 4).find? (fun w => x.walkers.all (fun e => decide (e.2.2 ≠ w)))).getD 0

/-- Grants walkers to the requests at the head of a die's queue whose destination has been checked; each walk takes its cycles from
the grant (R213). -/
def State.grantWalkers (s : State) (d : Nat) : Nat → State
  | 0 => s
  | n + 1 =>
    match (s.die d).pubQueue with
    | [] => s
    | (gid, op) :: rest =>
      let g := s.group gid
      match tabFind g.ops op with
      | none => (s.modDie d (fun x => { x with pubQueue := rest })).grantWalkers d n
      | some o =>
        if o.left = 1 ∧ (s.die d).walkers.length < 4 then
          ((s.modDie d (fun x => { x with pubQueue := rest, walkers := x.walkers ++ [(gid, op, x.freeWalker)] })).after (s.pubWalk g o).cycles
            .gleanerWalk { a := d, b := op, flag := true }).grantWalkers d n
        else s

/-- What a walk has to wait for: a page of an object that it reads which a pmove holds (R338), blocks that are being filled or whose channels stall (R275,
R316, R412). -/
def State.walkWait (s : State) (g : Group) (w : Walk) : Nat :=
  if s.pgc.moving.isEmpty && !s.anyWait then 0
  else w.seen.foldl (fun m e => (List.range e.2).foldl (fun k i =>
    let va := e.1 + 64 * i
    if !g.pgc && s.isMoving g.ctx va then Nat.max k 1
    else
      let x := s.objBlock g va .read
      match x.2.1 with | none => Nat.max k ((s.blockWait x.2.2.1).getD 0) | some _ => k) m) 0

/-- Step 3 of pub (R212): the checks again, the store of the reference, the flag. Its page may move, or its place may have to wait (R338, R316). -/
def State.pubStore (s : State) (gid op : Nat) : State :=
  let g := s.group gid
  let again := fun (t : State) (n : Nat) => t.after n .gleanerWalk { a := gid, b := op, v := 1 }
  match tabFind g.ops op with
  | none => s
  | some o =>
    if s.opMoving gid o then again (s.markMoving gid op true) 1 else
    let r := s.pubCheck gid o
    match r.2.1 with
    | some f => (r.1.modOp gid op (fun y => { y with left := 0 })).opFailed gid op f
    | none =>
      let late := match r.2.2 with
        | .mem dpa _ => if g.pgc then r.1.uncached dpa else (r.1, (r.1.blockWait dpa).getD 0)
        | .sh _ => (r.1, 0)
      if 0 < late.2 then again late.1 late.2 else
      let b := o.src.getD 1 {}
      let s1 := r.1.storeNow gid b.val r.2.2 (natBytes 8 o.base.base.toNat) b.tag
      ((s1.markCommitted g.team).opPerformed gid op).completeOp gid op

/-- The commit of a pub is complete: the store of its reference takes its path to the home, where the writes of a cycle are ordered (R212, R280). -/
def State.pubSend (s : State) (gid op : Nat) : State :=
  match tabFind (s.group gid).ops op with
  | some o => s.along (s.addrRoad (s.group gid) (o.src.getD 1 {}).val true) 0 .gleanerWalk { a := gid, b := op, v := 1 }
  | none => s

/-- GLEANER_WALK (R211): grants walkers (`flag` 0), or ends the walk of operation `b`: both phases, and the hold of its group. With `v` 1: the store of
the reference of operation `b` of group `a` arrives (R212). DEDUCED: log entry 37. -/
def execGleanerWalk (s : State) : Result :=
  let d := s.ev.a
  let op := s.ev.b
  if s.ev.v = 1 then .next (s.pubStore s.ev.a op)
  else if !s.ev.flag then .next (s.grantWalkers d (s.die d).pubQueue.length)
  else
    match (s.die d).walkers.find? (fun e => decide (e.2.1 = op)) with
    | none => .next s
    | some (gid, _, k) =>
      let g := s.group gid
      match tabFind g.ops op with
      | none => .next (s.leaveGleaner gid op)
      | some o =>
        let late := s.walkWait g (s.pubWalk g o)
        if 0 < late then .next (((if s.pgc.moving.isEmpty then s else s.markMoving gid op true)).after late .gleanerWalk s.ev) else
        let s := s.walked g (4 * d + k) (s.pubWalk g o)
        let w := s.pubWalk g o
        if w.poison then .next ((s.leaveGleaner gid op).consumePoison g.team)
        else
          match w.fail with
          | some f => .next (s.pubFailed gid op f)
          | none =>
            let s1 := w.marked.foldl (fun t h => t.publish g h (pubScope o.word) (pubFrozen o.word)) s
            let s2 := (s1.leaveGleaner gid op).modOp gid op (fun y => { y with left := 2 })
            -- the pub of a paired team waits on for its twin's commit point (R291)
            .next ((match (s2.group gid).hold with
              | some (.pubWalk n) => if n = op ∧ !(s2.team g.team).paired then s2.unhold gid else s2
              | _ => s2).pubPoint gid)

/-! ## pfh and adv (R220-R222) -/

/-- Fields of a hint block (R221). -/
def hintBase (b : Nat) : Nat := fld b 0 57
def hintPRows (b : Nat) : Nat := fld b 64 32
def hintPCols (b : Nat) : Nat := fld b 96 32
def hintRow0 (b : Nat) : Nat := fld b 128 32
def hintCol0 (b : Nat) : Nat := fld b 160 32
def hintGR (b : Nat) : Nat := fld b 192 3 + 1
def hintGC (b : Nat) : Nat := fld b 195 3 + 1
def hintDir (b : Nat) : Nat := fld b 200 1
def hintAhead (b : Nat) : Nat := fld b 208 8

/-- The PGC accepts the block (R220). -/
def hintOk (b : Nat) : Bool :=
  decide (fld b 57 7 = 0) && decide (fld b 201 7 = 0) && decide (fld b 216 296 = 0) && decide (hintBase b % 65536 = 0)
  && decide (hintPRows b ≠ 0) && decide (hintPCols b ≠ 0) && decide (hintRow0 b < hintPRows b) && decide (hintCol0 b < hintPCols b)
  && decide (hintAhead b ≤ 64)

/-- The pages that an accepted hint names, in order (R220). -/
def hintPages (b : Nat) : List Nat :=
  (List.range (hintAhead b + 1)).flatMap (fun g =>
    let r0 := hintRow0 b + (if hintDir b = 1 then g * hintGR b else 0)
    let c0 := hintCol0 b + (if hintDir b = 0 then g * hintGC b else 0)
    (List.range (hintGR b)).flatMap (fun i => (List.range (hintGC b)).filterMap (fun j =>
      let r := r0 + i
      let c := c0 + j
      if r < hintPRows b ∧ c < hintPCols b then some (hintBase b + (r * hintPCols b + c) * 65536) else none)))

/-- Queues the fill of one page: not where it is resident, of class STREAM or PINNED, or without a valid translation (R220); a fill that MODELCAP
holds waits behind its record (R319). DEDUCED: log entry 36. -/
def State.hintFill (s : State) (c va : Nat) : State :=
  if 2 ^ 57 ≤ va then s else
  match s.validPage c va with
  | some (dpa, pte) =>
    if pteLoc pte = 1 ∧ pteClass pte ≠ 1 ∧ pteClass pte ≠ 3 ∧ (s.frameFor (frameOf dpa)).isNone then
      let unit := dpa / 65536 * 65536
      State.afterFill (s.pageFill unit (pteClass pte) (pteMgroup pte) c) unit (pteClass pte) (pteMgroup pte) c
    else s
  | none => s

/-- Reads the block of a word at its s operand as a load of its group (R220, R225): the block, or the failure. -/
def State.readBlock (s : State) (gid : Nat) (r : SReg) : State × Option Failure × Option (BitVec 512) :=
  let e : Elem := { k := 0, lane := 0, addr := r.val, n := 64 }
  let x := s.checkElem gid (if r.tag then some r.base else none) r.val 64 .read none false
  match x.2.1 with
  | some f => (x.1, some f, none)
  | none =>
    if !(s.group gid).pgc && x.1.placePoisoned gid e x.2.2 then (x.1, none, none)
    else (x.1.touchReads gid false [x.2.2], none, some (BitVec.ofNat 512 (bytesNat (x.1.loadElem gid r.val x.2.2 64))))

/-- Reads the block of an operation and goes on; a failure is logged, and poison ends the team. -/
def State.withBlock (s : State) (gid op : Nat) (r : SReg) (next : State → BitVec 512 → State) : State :=
  let x := s.readBlock gid r
  match x.2.1, x.2.2 with
  | some f, _ => x.1.opFailed gid op f
  | none, none => x.1.consumePoison (s.group gid).team
  | none, some b => next x.1 b

/-- The hand-over of a hint block: accepted or rejected, and the flag. DEDUCED: log entry 35. -/
def State.performPfh (s : State) (gid op : Nat) (o : MemOp) : State :=
  let g := s.group gid
  s.withBlock gid op o.base (fun t b =>
    let s1 := if !hintOk b.toNat then (if g.pgc then t else t.modCtx g.ctx (fun c => { c with hintRej := c.hintRej + 1 }))
      else if g.pgc then t
      else (hintPages b.toNat).foldl (fun u va => u.hintFill g.ctx va) t
    (s1.opPerformed gid op).completeOp gid op)

def execPfh (a : BitVec 6) (f : BitVec 1) (s : State) : Result :=
  issue (.pfh a f) s (fun u t => .ok (t.startAlong u (.pfh a f) (t.addrRoad u.g (u.sv a) false) 0 .pfhHandoff))

/-- PFH_HANDOFF (R220). DEDUCED: log entry 36. -/
def execPfhHandoff (s : State) : Result :=
  .next (s.inTurn s.ev.a s.ev.b .pfhHandoff (fun o => s.performPfh s.ev.a s.ev.b o))

/-- The 64 KiB pages of a range widened outward (R222). -/
def advPages (a n : Nat) : List Nat :=
  if n = 0 then [] else (List.range ((a + n - 1) / 65536 + 1 - a / 65536)).map (fun i => (a / 65536 + i) * 65536)

/-- Sets the access counter of the frame that caches a page (R222). The counter of a frame that caches nothing stays. DESIGN CHOICE: log entry 109. -/
def State.advCount (s : State) (c va n : Nat) : State :=
  if 2 ^ 57 ≤ va then s else
  match s.validPage c va with
  | some (dpa, _) =>
    (match s.frameFor (frameOf dpa) with
     | some f => s.modFrame f (fun x => { x with count := n })
     | none => s)
  | none => s

/-- Advice about the pages of a range: nothing for a PGC, which has no context. DEDUCED: log entry 35. -/
def advWord (i : Instr) (a b : BitVec 6) (act : State → Nat → Nat → State) (s : State) : Result :=
  issue i s (fun u t =>
    .ok (if u.g.pgc then t else (advPages (u.sv a).toNat (u.sv b).toNat).foldl (fun x va => act x u.g.ctx va) t))

def execAdvNeed (a b : BitVec 6) (s : State) : Result := advWord (.advNeed a b) a b (fun t c va => t.hintFill c va) s
def execAdvCold (a b : BitVec 6) (s : State) : Result := advWord (.advCold a b) a b (fun t c va => t.advCount c va 0) s
def execAdvWarm (a b : BitVec 6) (s : State) : Result := advWord (.advWarm a b) a b (fun t c va => t.advCount c va 0xFFFF) s

end Sys2Proof.Machine
end

