-- ==== Sys2Proof/Machine/Copy.lean ====
section
/-! DEFINITION. The copy engines (R223-R231, R339, R391-R394): `cpy`, `cpy.ce` and `cpyq`, the command block, the range-lock table, the
segments of an engine, the six kinds of command, checksums and chains, and a command's completion. -/

namespace Sys2Proof.Machine

/-! ## The command block (R225) -/

def cmKind (b : Nat) : Nat := fld b 0 8
def cmCsum (b : Nat) : Nat := fld b 8 2
def cmEgc (b : Nat) : Bool := decide (fld b 10 1 = 1)
def cmFirst (b : Nat) : Bool := decide (fld b 11 1 = 1)
def cmLast (b : Nat) : Bool := decide (fld b 12 1 = 1)
def cmSigen (b : Nat) : Bool := decide (fld b 13 1 = 1)
def cmA96 (b : Nat) : Bool := decide (fld b 14 1 = 1)
def cmFrag (b : Nat) : Bool := decide (fld b 15 1 = 1)
/-- CMD.CHAIN, of a command that forms a checksum (R228). -/
def cmChain (b : Nat) : Nat := if cmCsum b = 0 then 0 else fld b 16 8
def cmEszl (b : Nat) : Nat := fld b 24 4
def cmCfmt (b : Nat) : Nat := fld b 128 8
def cmSfmt (b : Nat) : Nat := fld b 136 8
def cmStile (b : Nat) : Nat := fld b 144 8
def cmDtile (b : Nat) : Nat := fld b 152 8
def cmLen (b : Nat) : Nat := fld b 160 32
def cmSrc (b : Nat) : Nat := fld b 192 64
def cmDst (b : Nat) : Nat := fld b 256 64
def cmAux (b : Nat) : Nat := fld b 320 64
def cmSig (b : Nat) : Nat := fld b 384 64
def cmSeed (b : Nat) : Nat := fld b 448 32
def cmExpect (b : Nat) : Nat := fld b 480 32
/-- CMD.AUX of CONVERT with CMD.FRAG. -/
def cmPitch (b : Nat) : Nat := fld b 320 32
def cmRows (b : Nat) : Nat := if cmFrag b && decide (cmKind b = 2) then fld b 352 16 else 1
/-- Bytes of an element of GATHER and SCATTER. -/
def cmElem (b : Nat) : Nat := 2 ^ cmEszl b
/-- Bytes of the command's stream (R228). -/
def cmTotal (b : Nat) : Nat := if cmKind b = 3 ∨ cmKind b = 4 then cmLen b * cmElem b else cmLen b
/-- Bytes of one row of a CONVERT. -/
def cmRowLen (b : Nat) : Nat := cmLen b / Nat.max 1 (cmRows b)

/-- Formats of an EGC stream (R119). -/
def egcFmt (f : Nat) : Bool := decide (f = 0x18) || decide (f = 0x10) || decide (f = 0x11)

/-- Status 1 of R227, but for chains, counts and the link that a COPY takes. DEDUCED: log entry 44. DESIGN CHOICE: a CONVERT of an EGC stream of a type
that EGC does not carry is rejected (log entry 102). -/
def cmRejected (b : Nat) : Bool :=
  let k := cmKind b
  decide (5 < k) || decide (cmCsum b = 3) || decide (fld b 28 100 ≠ 0) || decide (12 < cmEszl b)
  || decide (24 < cmStile b) || decide (24 < cmDtile b)
  || ((decide (k = 0) || decide (k = 5) || (decide (k = 2) && !cmFrag b)) && decide (cmAux b ≠ 0))
  || (decide (k = 2) && cmFrag b && decide (cmAux b / 2 ^ 48 ≠ 0))
  || (decide (k = 2) && (fmtClass (cmCfmt b)).isNone)
  || (decide (k = 2) && cmEgc b && !cmA96 b && (fmtClass (cmSfmt b)).isSome && !egcFmt (cmSfmt b))

/-- The alignment of a kind (R227). -/
def cmUnit (b : Nat) : Nat :=
  match cmKind b with
  | 0 => 4 | 1 => 8 | 2 => 64 | 3 => cmElem b | 4 => cmElem b | _ => if cmA96 b then 16 else 4

/-- Status 2 of R227. DEDUCED: log entry 45. A named tile's address meets every alignment. DESIGN CHOICE: log entry 111. -/
def cmMisaligned (b : Nat) : Bool :=
  let k := cmKind b
  let u := cmUnit b
  let idx := decide (k = 3) || decide (k = 4)
  (decide (k ≠ 1) && decide (cmStile b = 0) && decide (cmSrc b % u ≠ 0)) || (decide (cmDtile b = 0) && decide (cmDst b % u ≠ 0))
  || (if idx then decide (cmAux b % 4 ≠ 0) else decide (cmLen b % u ≠ 0))
  || (cmSigen b && decide (cmSig b % 8 ≠ 0))
  || (decide (k = 2) && cmFrag b &&
      (decide (cmRows b = 0) || decide (cmLen b % cmRows b ≠ 0) || decide (cmRowLen b % 64 ≠ 0) || decide (cmPitch b % 64 ≠ 0)))

/-- The status that a command has before it is run (R227). DEDUCED: log entry 45. -/
def cmStatus (b : Nat) : Nat := if cmRejected b then 1 else if cmMisaligned b then 2 else 0

/-! ## EGC (R119-R123) -/

/-- The type of a command's EGC source stream. -/
def egcType (b : Nat) : EgcType := egcOf (cmA96 b) (cmSfmt b)

/-- The value of an element of an EGC stream. -/
def egcVal (b raw : Nat) : Val := if cmA96 b then unpack a96 raw else elemVal (cmSfmt b) raw

/-! ## Operands -/

/-- Address of the source and of the destination: a tile lies in the team's share (R225, R214). -/
def State.cmdSrc (s : State) (c : Cmd) : Nat :=
  let b := c.blk.toNat
  if cmStile b = 0 then cmSrc b
  else sharedWindow.toNat + 64 * (match s.teamTile c.plot c.team (cmStile b - 1) with | some e => e.off | none => 0)
def State.cmdDst (s : State) (c : Cmd) : Nat :=
  let b := c.blk.toNat
  if cmDtile b = 0 then cmDst b
  else sharedWindow.toNat + 64 * (match s.teamTile c.plot c.team (cmDtile b - 1) with | some e => e.off | none => 0)

/-- Bytes that a CONVERT's destination spans at most (R229). DEDUCED: log entry 46. -/
def convSpan (b : Nat) : Nat :=
  let per := if cmEgc b && (cmA96 b || decide (cmSfmt b ≠ 0)) then cmRowLen b / (egcType b).bytes
    else cmRowLen b / 64 * classElems ((fmtClass (cmSfmt b)).getD 4)
  64 * cmRows b * ceilDiv per (classElems ((fmtClass (cmCfmt b)).getD 0))

/-- Bytes that a CONVERT's source spans: an EGC stream takes no more than its values raw (R121). -/
def convSource (b : Nat) : Nat :=
  if cmEgc b then
    let t := egcType b
    ceilDiv (ceilDiv (cmLen b / t.bytes) 8 * (1 + 8 * (1 + t.e + t.f))) 64 * 8
  else (cmRows b - 1) * cmPitch b + cmRowLen b

/-- One entry of the range-lock table (R229): none for an empty range. -/
def rltRange (c : Cmd) (owner va n : Nat) (reads : Bool) : List RltEntry :=
  if n = 0 then []
  else
    match spaceOf (BitVec.ofNat 64 va) with
    | .shared off => [{ ctx := c.ctx, lo := off / 64, hi := (off + n - 1) / 64, reads := reads, owner := owner, share := some c.team }]
    | _ => [{ ctx := c.ctx, lo := va / 64, hi := (va + n - 1) / 64, reads := reads, owner := owner }]

/-- The entries of a command (R229). Tiles take none (R219). DEDUCED: log entry 46. -/
def cmdRanges (id : Nat) (c : Cmd) : List RltEntry :=
  let b := c.blk.toNat
  let n := cmTotal b
  let src := fun (m : Nat) => if cmStile b = 0 then rltRange c id (cmSrc b) m false else []
  let dst := fun (m : Nat) => if cmDtile b = 0 then rltRange c id (cmDst b) m true else []
  let idx := rltRange c id (cmAux b) (4 * cmLen b) false
  match cmKind b with
  | 1 => dst n
  | 2 => src (convSource b) ++ dst (convSpan b)
  | 3 => idx ++ dst n
  | 4 => src n ++ idx
  | _ => src n ++ dst n

/-! ## Submission (R223, R224) -/

/-- The commands of a word enter the device with their engine's queue entries. -/
def State.addCmds (s : State) (u : Issuer) (op ce n : Nat) (batch : Bool) : State :=
  (List.range n).foldl (fun (t : State) i =>
    let c : Cmd := { gid := u.gid, team := u.g.team, ctx := u.g.ctx, plot := u.g.plot, op := op, idx := i, batch := batch, ce := ce }
    { t.bump with cmds := tabPut t.cmds t.nextId c }) s

/-- A word that submits n commands to an engine. -/
def State.submit (s : State) (u : Issuer) (i : Instr) (ce n : Nat) (batch : Bool) : State :=
  let op := s.nextId
  ((((s.startAlong u i (s.addrRoad u.g (u.capture i).base.val false) 0 .memoryAccessPerform).addCmds u op ce n batch).modOp u.gid op
    (fun o => { o with left := n })).markCommitted u.g.team)

def execCpy (d a : BitVec 6) (f : BitVec 1) (s : State) : Result :=
  issue (.cpy d a f) s (fun u t => .ok (t.submit u (.cpy d a f) (t.ceChoice u.g.plot) 1 false))
def execCpyCe (d a b : BitVec 6) (f : BitVec 1) (s : State) : Result :=
  issue (.cpyCe d a b f) s (fun u t => .ok (t.submit u (.cpyCe d a b f) ((u.sv b).toNat % 32) 1 false))

/-- cpyq: a count outside 1 to 64 completes at once with status 1 (R224). -/
def execCpyq (d a b : BitVec 6) (f : BitVec 1) (s : State) : Result :=
  issue (.cpyq d a b f) s (fun u t =>
    let n := (u.sv b).toNat
    if 1 ≤ n ∧ n ≤ 64 then .ok (t.submit u (.cpyq d a b f) (t.ceChoice u.g.plot) n true)
    else
      .ok (((t.startOp u (.cpyq d a b f) 0 .loadComplete).modOp u.gid t.nextId (fun o => { o with st := .performed, sres := some { val := 1 } })).markCommitted
        u.g.team))

/-- Command blocks of an operation, in order. -/
def State.opCmds (s : State) (op : Nat) : List (Nat × Cmd) := s.cmds.filter (fun e => decide (e.2.op = op))

/-- Reads the blocks of commands, one after another (R223). -/
def State.readCmds (s : State) (gid : Nat) (r : SReg) : List (Nat × Cmd) → State × Option Failure × Bool
  | [] => (s, none, false)
  | (id, c) :: rest =>
    let x := s.readBlock gid { r with val := r.val + BitVec.ofNat 64 (64 * c.idx) }
    match x.2.1, x.2.2 with
    | some f, _ => (x.1, some f, false)
    | none, none => (x.1, none, true)
    | none, some b => (x.1.modCmd id (fun y => { y with blk := b, status := cmStatus b.toNat })).readCmds gid r rest

/-- The blocks of an operation have been read: its commands wait in the plot for their range locks (R229). -/
def State.performCopy (s : State) (gid op : Nat) (o : MemOp) : State :=
  let x := s.readCmds gid o.base (s.opCmds op)
  match x.2.1 with
  | some f => x.1.opFailed gid op f
  | none =>
    if x.2.2 then x.1.consumePoison (s.group gid).team
    else
      let p := (s.group gid).plot
      ((x.1.opCmds op).foldl (fun (t : State) e =>
        (t.modCmd e.1 (fun c => { c with st := .plot })).modPlot p (fun y => { y with waiting := y.waiting ++
          [{ owner := e.1, ranges := cmdRanges e.1 e.2 }] })) (x.1.opPerformed gid op)).afterOnce 0
        .cpyRegister { a := p }

/-! ## The range-lock table (R229) -/

/-- The owner of ranges has its locks: a command may be dispatched; a drain enters its quad's order (R235). -/
def State.rangesTaken (s : State) (owner : Nat) : State :=
  match s.cmd? owner with
  | some c => (s.modCmd owner (fun x => { x with st := .locked })).afterOnce 0 .ceDispatch { a := c.plot }
  | none =>
    s.quads.foldl (fun (t : State) q =>
      match q.2.resv.find? (fun e => decide (e.2.op = owner) && e.2.drain) with
      | some e => (t.modQuad q.1 (fun y => { y with resv := tabPut y.resv e.1 { e.2 with entry := some t.cycle } })).afterOnce 0 .mxeGrant { a := q.1 }
      | none => t) s

/-- Registers the waiting ranges of a plot in order, while entries suffice. DEDUCED: log entry 47. -/
def State.registerWaiting (s : State) (p : Nat) : List RangeWait → State
  | [] => s
  | w :: rest =>
    if (s.plot p).rlt.length + w.ranges.length ≤ 48 then
      ((s.modPlot p (fun x => { x with rlt := x.rlt ++ w.ranges, waiting := x.waiting.drop 1 })).rangesTaken w.owner).registerWaiting p rest
    else s

/-- CPY_REGISTER (R229). -/
def execCpyRegister (s : State) : Result := .next (s.registerWaiting s.ev.a (s.plot s.ev.a).waiting)

/-! ## Dispatch and tiles (R230, R214) -/

/-- Every earlier command of the batch has gone to its engine. DEDUCED: log entry 47. -/
def State.earlierGone (s : State) (c : Cmd) : Bool :=
  s.cmds.all (fun e => !(decide (e.2.op = c.op) && decide (e.2.idx < c.idx)) || !(decide (e.2.st = .plot) || decide (e.2.st = .locked)))

/-- A tile of the command's team is in a state; none where the team does not own it. -/
def State.tileIn (s : State) (c : Cmd) (code : Nat) (st : TileState) : Option Bool :=
  if code = 0 then some true
  else (s.teamTile c.plot c.team (code - 1)).map (fun e => decide (e.st = st))

/-- The state of a named tile changes, in the plot's table or in the state saved with its team (R356). -/
def State.tileTo (s : State) (c : Cmd) (code : Nat) (st : TileState) : State :=
  if code = 0 then s
  else s.modPlot c.plot (fun x => { x with
    tiles := (match tabFind x.tiles (code - 1) with
      | some e => if e.team = c.team then tabPut x.tiles (code - 1) { e with st := st } else x.tiles
      | none => x.tiles),
    savedTiles := x.savedTiles.map (fun e => if e.1 = code - 1 ∧ e.2.team = c.team then (e.1, { e.2 with st := st }) else e) })

/-- The command goes to its engine's queue. DEDUCED: log entry 46. -/
def State.toEngine (s : State) (id : Nat) (c : Cmd) : State :=
  ((s.modCmd id (fun x => { x with st := .queued })).modCe c.ce (fun x => { x with queue := x.queue ++ [id] })).afterOnce 0 .ceSegment { a := c.ce }

/-- One command that holds its locks: it goes to its engine once its tiles are ready, which then leave EMPTY or READY. DEDUCED: log entry 47. -/
def State.dispatchOne (s : State) (id : Nat) (c : Cmd) : State :=
  let b := c.blk.toNat
  if c.st ≠ .locked ∨ !s.earlierGone c then s
  else if c.status ≠ 0 then s.toEngine id c
  else
    match s.tileIn c (cmDtile b) .empty, s.tileIn c (cmStile b) .ready with
    | some true, some true =>
      (((s.tileTo c (cmDtile b) .filling).tileTo c (cmStile b) .draining).modCmd id
        (fun x => { x with tiles := decide (cmDtile b ≠ 0) || decide (cmStile b ≠ 0) })).toEngine id c
    | some _, some _ => s.afterOnce 1 .ceDispatch { a := c.plot }
    | _, _ => (s.modCmd id (fun x => { x with status := 8 })).toEngine id c

/-- CE_DISPATCH (R230). -/
def execCeDispatch (s : State) : Result :=
  .next ((s.cmds.filter (fun e => decide (e.2.plot = s.ev.a))).foldl (fun (t : State) e =>
    match t.cmd? e.1 with | some c => t.dispatchOne e.1 c | none => t) s)

/-! ## An engine's accesses (R223, R227) -/

/-- What stops an engine at a point of its command. -/
inductive CeStop where
  | status (n : Nat)
  | miss (kind detail lease va acc : Nat)
  | poison
  | wait
  deriving DecidableEq, Repr

/-- An engine's steps on the state, up to what stops them. -/
abbrev CeM (α : Type) := ExceptT CeStop (StateM State) α

/-- The leaf entry with its lease replaced by the replica's (R339). -/
def replicaPte (s : State) (e : Nat) : Nat :=
  let r := (s.lease (fld e 36 12)).data
  if (pteLoc e = 1 ∨ pteLoc e = 3) ∧ r.getLsbD 115 then e - fld e 36 12 * 2 ^ 36 + (r.extractLsb' 116 12).toNat * 2 ^ 36 else e

/-- The engine keeps the translation of a page that its command has reached (R227). DESIGN CHOICE: log entry 9. -/
def State.keepPage (s : State) (c : Cmd) (k : KeptPage) : State :=
  { s with cmds := s.cmds.map (fun x => if x.2.op = c.op ∧ x.2.idx = c.idx then (x.1, { x.2 with pages := k :: x.2.pages }) else x) }

/-- The translation that the engine has of the page of an address, as a use of it may take it: a write needs D, unless the page refuses the write.
DESIGN CHOICE: log entry 9. -/
def State.pageOf (s : State) (c : Cmd) (va : Nat) (u : Use) (replica : Bool) : Option KeptPage :=
  (s.cmds.find? (fun x => decide (x.2.op = c.op) && decide (x.2.idx = c.idx))).bind (fun x =>
    x.2.pages.find? (fun k => decide (va / 2 ^ k.bits * 2 ^ k.bits = k.base) && decide (k.replica = replica) &&
      (!u.writes || pteD k.pte || !pteAllows k.pte u)))

/-- The rights of a page that a command has reached allow a use of it (R309, R321). -/
def keptAllows (s : State) (e : Nat) (u : Use) : Bool :=
  let r := (s.lease (fld e 36 12)).data
  pteAllows e u && (decide (pteLoc e ≠ 1 ∧ pteLoc e ≠ 3) || ((!u.writes || r.getLsbD 88) && (!u.reads || r.getLsbD 87)))

/-- Where a range inside one block lies: the page's translation, made by a walk when the command first reaches the page, with the checks of statuses
3 and 7 (R227); rights are checked at every access (R309). DESIGN CHOICE: an address outside every space, or beyond the team's share of the shared window, gives status 3, and a range longer
than its tile goes on in the share (log entry 102). -/
def cePlace (c : Cmd) (va n : Nat) (u : Use) (replica : Bool) : CeM Place := do
  let s ← get
  match spaceOf (BitVec.ofNat 64 va) with
  | .outside => throw (.status 3)
  | .shared off =>
    let t := s.team c.team
    if t.live && decide (off + n ≤ 4096 * t.shared) then return .sh off else throw (.status 3)
  | .virt a =>
    if s.isMoving c.ctx a then throw .wait
    let acc := u.acc.code
    match s.pageOf c a u replica with
    | some k =>
      if !keptAllows s k.pte u then throw (.status 3)
      match pteDpa s k.pte k.bits (a % 2 ^ k.bits) with
      | some dpa =>
        if s.isBlocked dpa then throw (.miss 1 3 0 a acc)
        set (s.eccMiss dpa)
        return .mem dpa k.pte
      | none => throw (.miss 1 1 0 a acc)
    | none =>
      let r := s.lookupWalk c.ctx a u.writes
      set r.1
      match r.2 with
      | .bad d => throw (.miss 1 d 0 a acc)
      | .leaf _ e bits =>
        if pteFmt e = 2 then throw (.status 7)
        let e := if replica then replicaPte r.1 e else e
        match r.1.throughPte e bits a u with
        | .miss k d l => throw (.miss k d l a acc)
        | .perm => throw (.status 3)
        | .ok dpa pte =>
          set ((r.1.keepPage c { base := a / 2 ^ bits * 2 ^ bits, bits := bits, pte := e, replica := replica }).eccMiss dpa)
          return .mem dpa pte

/-- An engine's request reaches the home slice. -/
def State.engineTouch (s : State) (dpa pte ctx : Nat) : State :=
  if cacheable dpa pte then
    let r := s.l2Ensure dpa (pteGrain pte)
    if r.2 then r.1.servePool dpa pte ctx else r.1
  else s

/-- PBR id of the node of an address beyond the package (R383). -/
def State.nodeOf (s : State) (dpa : Nat) : Nat := if isHost dpa then Config.hostNode else s.leaseNode dpa

/-- Traffic of an engine's command that leaves the package does so by the port of the engine's die (R383). -/
def State.engineSends (s : State) (ce dpa pte n : Nat) : State :=
  if s.offDevice dpa pte && !(cacheable dpa pte && s.l2Holds dpa) then
    s.emit (.engineOut (4 * (ce / 8 % 2) + s.nodeOf dpa % 4) dpa n)
  else s

/-- Reads `n` bytes inside one block. -/
def ceReadBlock (c : Cmd) (va n : Nat) (replica : Bool) : CeM (List Byte) := do
  match ← cePlace c va n .read replica with
  | .sh off => let s ← get; return (List.range n).map (fun i => tabGet 0 (s.team c.team).shmem (off + i))
  | .mem dpa pte =>
    let s ← get
    if s.rangePoisoned dpa n then throw .poison
    -- a block that the frame's fill has not brought yet, or that a zero fill still covers, is waited for (R275, R316)
    if (s.blockWait dpa).isSome then throw .wait
    set ((s.engineSends c.ce dpa pte n).engineTouch dpa pte c.ctx)
    return s.readMem dpa n

/-- Reads `n` bytes, block by block. `fuel` bounds the blocks. -/
def ceRead (c : Cmd) (replica : Bool) : Nat → Nat → Nat → CeM (List Byte)
  | 0, _, _ => return []
  | fuel + 1, va, n => do
    if n = 0 then return []
    let k := Nat.min n (64 - va % 64)
    let x ← ceReadBlock c va k replica
    let y ← ceRead c replica fuel (va + k) (n - k)
    return x ++ y

/-- The metadata word of a block, where it carries one (R108, R226). -/
def ceDesc (c : Cmd) (va : Nat) (replica : Bool) : CeM (Option (BitVec 48)) := do
  match ← cePlace c va 1 .read replica with
  | .sh _ => return none
  | .mem dpa _ => let s ← get; return if hasMeta dpa then some (s.readDesc dpa) else none

/-- Writes bytes inside one block, with a descriptor where one is given; visible at device scope. -/
def ceWrite (c : Cmd) (va : Nat) (bs : List Byte) (desc : Option (BitVec 48)) (u : Use) : CeM Unit := do
  match ← cePlace c va bs.length u false with
  | .sh off =>
    modify (fun s => (s.modTeam c.team (fun t =>
      { t with shmem := ((List.range bs.length).zip bs).foldl (fun m p => tabSet 0 m (off + p.1) p.2) t.shmem })).wakeWord c.team va bs.length)
  | .mem dpa pte =>
    let s ← get
    let x := if cacheable dpa pte then (s, (s.blockWait dpa).getD 0) else s.uncached dpa
    set x.1
    if 0 < x.2 then throw .wait
    modify (fun s =>
      let s1 := ((s.engineSends c.ce dpa pte bs.length).homeWrite dpa pte c.ctx).storeMem dpa bs
      match desc with | some d => s1.writeDesc dpa d | none => s1)

/-! ## Checksums (R228) -/

/-- One more byte of SUM32: byte k of the stream. -/
def sum32Byte (sum : BitVec 32) (k : Nat) (b : Byte) : BitVec 32 := sum + (b.zeroExtend 32 <<< (8 * (k % 4)))

/-- One more byte of CRC32C, on the register before its final inversion. -/
def crc32cByte (r : BitVec 32) (b : Byte) : BitVec 32 :=
  (List.range 8).foldl (fun (x : BitVec 32) _ => if x.getLsbD 0 then (x >>> 1) ^^^ 0x82F63B78 else x >>> 1) (r ^^^ b.zeroExtend 32)

/-- CRC32C of a list of bytes continued from a value. -/
def crc32c (v : BitVec 32) (bs : List Byte) : BitVec 32 := ~~~(bs.foldl crc32cByte (~~~v))

/-- A command with more bytes of its stream. For CRC32C the sum is the value reached. -/
def Cmd.hash (c : Cmd) (bs : List Byte) : Cmd :=
  match cmCsum c.blk.toNat with
  | 1 => let r := bs.foldl (fun (a : BitVec 32 × Nat) b => (sum32Byte a.1 a.2 b, a.2 + 1)) (c.sum, c.sumLen); { c with sum := r.1, sumLen := r.2 }
  | 2 => { c with sum := crc32c c.sum bs, sumLen := c.sumLen + bs.length }
  | _ => { c with sumLen := c.sumLen + bs.length }

/-! ## COPY, FILL, GATHER, SCATTER, REDUCE (R226) -/

/-- Both ends of a COPY are whole blocks. -/
def State.copyWhole (s : State) (c : Cmd) : Bool :=
  decide (cmKind c.blk.toNat = 0) && decide (s.cmdSrc c % 64 = 0) && decide (s.cmdDst c % 64 = 0) && decide (cmLen c.blk.toNat % 64 = 0)

/-- Source and destination of the byte at a position of the stream, and the bytes to the end of its element. -/
def ceMove (c : Cmd) : CeM (Nat × Nat × Nat) := do
  let s ← get
  let b := c.blk.toNat
  let src := s.cmdSrc c
  let dst := s.cmdDst c
  let z := cmElem b
  let i := c.pos / z
  let o := c.pos % z
  match cmKind b with
  | 3 => let x ← ceRead c false 2 (cmAux b + 4 * i) 4; return (src + bytesNat x * z + o, dst + c.pos, z - o)
  | 4 => let x ← ceRead c false 2 (cmAux b + 4 * i) 4; return (src + c.pos, dst + bytesNat x * z + o, z - o)
  | _ => return (src + c.pos, dst + c.pos, cmLen b - c.pos)

/-- The sums of REDUCE: element by element, FP32 or A96 (R226, R107). -/
def reduceBytes (a96w : Bool) (old new : List Byte) : List Byte :=
  let w := if a96w then 16 else 4
  (List.range (new.length / w)).flatMap (fun i =>
    let x := bytesNat ((old.drop (w * i)).take w)
    let y := bytesNat ((new.drop (w * i)).take w)
    if a96w then natBytes 16 (a96Code (a96Add (unpack a96 (x % 2 ^ 96)) (unpack a96 (y % 2 ^ 96))).1)
    else natBytes 4 (addF f32 .rne false x y).1)

/-- A place lies in a peer's memory. -/
def Place.peer : Place → Bool
  | .mem dpa _ => isPeer dpa
  | .sh _ => false

/-- The bytes of a COPY as its receiver writes them (R107, R393): an EGC stream between devices gives every whole A96 value zero bits [127:96]. -/
def received (c : Cmd) (link : Bool) (bs : List Byte) : List Byte :=
  let b := c.blk.toNat
  if link && cmEgc b && cmA96 b then
    ((List.range bs.length).zip bs).map (fun p => let k := c.pos + p.1; if 12 ≤ k % 16 ∧ k / 16 < cmLen b / 16 then 0 else p.2)
  else bs

/-- The next piece of a command other than CONVERT: at most the rest of one destination block. -/
def cePiece (c : Cmd) : CeM Cmd := do
  let b := c.blk.toNat
  let whole := (← get).copyWhole c
  let m ← ceMove c
  let k := Nat.min m.2.2 (64 - m.2.1 % 64)
  if cmKind b = 1 then
    let bs := (List.range k).map (fun i => BitVec.ofNat 8 (fld (cmAux b) (8 * ((c.pos + i) % 8)) 8))
    ceWrite c m.2.1 bs none .write
    return { (c.hash bs) with pos := c.pos + k }
  else
    let new ← ceRead c false 3 m.1 k
    if cmKind b = 5 then
      match ← cePlace c m.2.1 k .atomic false with
      | .mem dpa _ => if (← get).rangePoisoned dpa k then throw .poison
      | .sh _ => pure ()
      let s ← get
      let old ← (match ← cePlace c m.2.1 k .atomic false with
        | .sh off => pure ((List.range k).map (fun i => tabGet 0 (s.team c.team).shmem (off + i)))
        | .mem dpa _ => pure (s.readMem dpa k))
      let sums := reduceBytes (cmA96 b) old new
      -- the receiver of a peer destination forms the checksum over the bytes as written (R394)
      let peer := (← cePlace c m.2.1 k .atomic false).peer
      ceWrite c m.2.1 sums none .atomic
      return { (c.hash (if peer then sums else new)) with pos := c.pos + k }
    else
      let d ← if whole then ceDesc c m.1 false else pure none
      let u : Use := if d.isSome then .fmtWrite else .write
      let link := decide (cmKind b = 0) && ((← cePlace c m.1 1 .read false).peer || (← cePlace c m.2.1 1 u false).peer)
      let got := received c link new
      ceWrite c m.2.1 got d u
      return { (c.hash got) with pos := c.pos + k }

/-! ## CONVERT (R226, R118) -/

/-- Elements of the row for one destination granule, from the source blocks: `need` more elements. A block read for the first time
enters the checksum. -/
def convTake (c : Cmd) (rowEnd : Nat) : Nat → Cmd → Nat → CeM (Cmd × List Val)
  | 0, x, _ => return (x, [])
  | fuel + 1, x, need => do
    if need = 0 ∨ rowEnd ≤ x.pos then return (x, [])
    let b := x.blk.toNat
    let row := x.pos / Nat.max 1 (cmRowLen b)
    let va := (← get).cmdSrc x + row * cmPitch b * (if cmFrag b then 1 else 0) + (if cmFrag b then x.pos % Nat.max 1 (cmRowLen b) else x.pos)
    let bs ← ceReadBlock x va 64 x.replica
    let d ← ceDesc x va x.replica
    let fmt := if cmSfmt b = 0 then (match d with | some w => descFmt w | none => 0) else cmSfmt b
    if (fmtClass fmt).isNone then throw (.status 6)
    let all := (expandGranule fmt (match d with | some w => descScl w | none => 127) (match d with | some w => descAux w | none => 0x60606060)
      (bytesNat bs)).map (fun v => v.1)
    let mine := (all.drop x.skip).take need
    let h := if x.sumLen ≤ x.pos then x.hash bs else x
    let y := if x.skip + mine.length = all.length then { h with pos := x.pos + 64, skip := 0 } else { h with skip := x.skip + mine.length }
    let r ← convTake c rowEnd fuel y (need - mine.length)
    return (r.1, mine ++ r.2)

/-- `n` bits of the stream at a bit position (R123). -/
def egcBits (c : Cmd) (pos n : Nat) : CeM Nat := do
  if n = 0 then return 0
  let lo := pos / 8
  let bs ← ceRead c c.replica 4 ((← get).cmdSrc c + lo) ((pos + n - 1) / 8 + 1 - lo)
  return fld (bytesNat bs) (pos % 8) n

/-- The values of one group, from value i on (R121, R123): codes, and the bit position after. -/
def egcValues (c : Cmd) (t : EgcType) (raw : Bool) (emax dw tz zmap : Nat) : Nat → Nat → Nat → CeM (List Nat × Nat)
  | 0, _, pos => return ([], pos)
  | n + 1, i, pos => do
    let w := 1 + t.e + t.f
    if raw then
      let v ← egcBits c pos w
      let r ← egcValues c t raw emax dw tz zmap n (i + 1) (pos + w)
      return (v :: r.1, r.2)
    else
      let sg ← egcBits c pos 1
      if zmap / 2 ^ i % 2 = 1 then
        let r ← egcValues c t raw emax dw tz zmap n (i + 1) (pos + 1)
        return ((sg * 2 ^ (t.e + t.f)) :: r.1, r.2)
      else
        let delta ← egcBits c (pos + 1) dw
        let f ← egcBits c (pos + 1 + dw) (t.f - tz)
        if emax < delta then throw (.status 5)
        let r ← egcValues c t raw emax dw tz zmap n (i + 1) (pos + 1 + dw + (t.f - tz))
        return ((sg * 2 ^ (t.e + t.f) + (emax - delta) * 2 ^ t.f + f * 2 ^ tz) :: r.1, r.2)

/-- One group of a stream. -/
def egcGroup (c : Cmd) (pos : Nat) : CeM (List Nat × Nat) := do
  let t := egcType c.blk.toNat
  let mode ← egcBits c pos 1
  if mode = 1 then egcValues c t true 0 0 0 0 8 0 (pos + 1)
  else
    let emax ← egcBits c (pos + 1) t.e
    let dw ← egcBits c (pos + 1 + t.e) 4
    let tz ← egcBits c (pos + 5 + t.e) t.tz
    let zmap ← egcBits c (pos + 5 + t.e + t.tz) 8
    if t.e < dw ∨ t.f < tz then throw (.status 5)
    egcValues c t false emax dw tz zmap 8 0 (pos + 13 + t.e + t.tz)

/-- The next group of an EGC stream, without what the transfer's count drops of the last one (R120). The bytes of a stream that arrives from pool or
peer enter the checksum as they are, up to the 64-bit word in which the stream ends (R123, R393). DEDUCED: log entry 46. -/
def egcNext (x : Cmd) : CeM Cmd := do
  let b := x.blk.toNat
  let t := egcType b
  let g ← egcGroup x x.bit
  let codes := g.1.take ((cmLen b - x.pos) / t.bytes)
  let raw ← if x.bit = 0 then (do
      match ← cePlace x ((← get).cmdSrc x) 1 .read x.replica with
      | .mem dpa _ => pure (isPool dpa || isPeer dpa)
      | .sh _ => pure false) else pure x.rawSum
  let upTo := if cmLen b ≤ x.pos + t.bytes * codes.length then ceilDiv g.2 64 * 8 else g.2 / 8
  let bs ← if raw then ceRead x x.replica 8 ((← get).cmdSrc x + x.sumLen) (upTo - x.sumLen) else pure []
  return { (if raw then x.hash bs else x) with bit := g.2, carry := codes, rawSum := raw }

/-- `need` elements of the row for one destination granule, from an EGC stream (R120). DEDUCED: log entry 46. -/
def egcTake (rowEnd : Nat) : Nat → Cmd → Nat → CeM (Cmd × List Val)
  | 0, x, _ => return (x, [])
  | n + 1, x, need => do
    if need = 0 ∨ rowEnd ≤ x.pos then return (x, [])
    let t := egcType x.blk.toNat
    let x ← if x.carry.isEmpty then egcNext x else pure x
    let codes := x.carry.take (Nat.min need ((rowEnd - x.pos) / t.bytes))
    let y := if x.rawSum then x else x.hash (codes.flatMap (natBytes t.bytes))
    let r ← egcTake rowEnd n { y with pos := x.pos + t.bytes * codes.length, carry := x.carry.drop codes.length } (need - codes.length)
    return (r.1, codes.map (egcVal x.blk.toNat) ++ r.2)

/-- The next destination granule of a CONVERT. DEDUCED: log entry 46. -/
def convPiece (c : Cmd) : CeM Cmd := do
  let b := c.blk.toNat
  let len := Nat.max 1 (cmRowLen b)
  let row := c.pos / len
  let e := classElems ((fmtClass (cmCfmt b)).getD 0)
  if cmSfmt b ≠ 0 ∧ (fmtClass (cmSfmt b)).isNone then throw (.status 6)
  if cmEgc b && !cmA96 b && decide (cmSfmt b = 0) then throw (.status 6)
  let rowEnd := (row + 1) * len
  let r ← if cmEgc b then egcTake rowEnd (e / 8 + 2) c e else convTake c rowEnd 130 c e
  let out := blockOut (cmCfmt b) .rne false r.2
  let dst := (← get).cmdDst c + 64 * (if cmFrag b then c.out * cmRows b + row else c.out)
  let bytes := natBytes 64 out.2.1
  ceWrite c dst bytes (some out.1) .fmtWrite
  -- the receiver of a peer destination forms the checksum over the bytes written (R394)
  let x := if (← cePlace c dst 1 .fmtWrite false).peer then { (({ r.1 with sum := c.sum, sumLen := c.sumLen } : Cmd).hash bytes) with sumLen := r.1.sumLen } else r.1
  return { x with out := if cmFrag b && decide (rowEnd ≤ r.1.pos) then 0 else c.out + 1 }

/-! ## Running a command -/

/-- An engine that moves a command's segment is free, and looks for its next one. -/
def State.ceIdle (s : State) (ce id : Nat) : State :=
  (s.modCe ce (fun x => { x with busy := if x.busy = some id then none else x.busy })).afterOnce 0 .ceSegment { a := ce }

/-- The command has ended with a status; its completion follows. DEDUCED: log entry 45. -/
def State.cmdEnds (s : State) (id status : Nat) : State :=
  match s.cmd? id with
  | some c => ((s.modCmd id (fun x => { x with status := status, st := .finished })).ceIdle c.ce id).after 0 .ceCommandComplete { a := c.ce, b := id }
  | none => s

/-- Removes a command from the device. -/
def State.dropCmd (s : State) (id : Nat) : State :=
  match s.cmd? id with
  | none => s
  | some c =>
    let s1 : State := { s with cmds := tabDel s.cmds id }
    ((s1.modCe c.ce (fun x => { x with queue := x.queue.filter (fun i => decide (i ≠ id)), busy := if x.busy = some id then none else x.busy })).rltRelease
      c.plot id).afterOnce 0 .ceSegment { a := c.ce }

/-- Later commands of a batch are skipped (R224). DEDUCED: log entry 48. -/
def State.skipAfter (s : State) (c : Cmd) : State :=
  { s with cmds := s.cmds.map (fun e =>
      if c.batch ∧ e.2.op = c.op ∧ c.idx < e.2.idx then (e.1, { e.2 with status := 9 }) else e) }

/-- The tiles of a command at its end (R214). -/
def State.tilesAtEnd (s : State) (c : Cmd) (ok : Bool) : State :=
  let b := c.blk.toNat
  if c.tiles then (s.tileTo c (cmDtile b) (if ok then .ready else .empty)).tileTo c (cmStile b) (if ok then .empty else .ready) else s

/-- A poisoned block stops the command: no signal word, no sD; the team consumes poison (R365). DEDUCED: log entry 48. -/
def State.cmdPoisoned (s : State) (id : Nat) (c : Cmd) : State :=
  (((s.skipAfter c).tilesAtEnd c false).dropCmd id).consumePoison c.team

/-- A translation, lease or pool fault goes to the fault queue; the command is held (R227). -/
def State.cmdFaults (s : State) (id : Nat) (c : Cmd) (kind detail lease va acc : Nat) : State :=
  ((s.enqueue { kind := kind, ctx := c.ctx, src := 1, acc := acc, gslot := (s.group c.gid).slot, plot := c.plot, team := (s.team c.team).serial,
                detail := detail, lease := lease, addr := va } (.engine id)).modCmd id (fun x => { x with st := .faulted })).ceIdle c.ce id

/-- What stops an engine in a command. -/
def State.cmdStops (s : State) (id : Nat) (c : Cmd) (e : CeStop) : State :=
  match e with
  | .status n => s.cmdEnds id n
  | .miss k d l va acc => s.cmdFaults id c k d l va acc
  | .poison => s.cmdPoisoned id c
  | .wait => ((s.modCmd id (fun x => { x with st := .queued })).modCe c.ce (fun x => { x with busy := if x.busy = some id then none else x.busy })).afterOnce 1 .ceSegment { a := c.ce }

/-- The running value of a command's checksum (R228): SUM32 adds to the value its slot holds; CRC32C continues from its start.
DEDUCED: log entry 49. DESIGN CHOICE: log entry 110. -/
def State.runningSum (s : State) (c : Cmd) : BitVec 32 :=
  let b := c.blk.toNat
  match cmCsum b with
  | 1 =>
    let base := if cmChain b = 0 then BitVec.ofNat 32 (cmSeed b)
      else match tabFind (s.ctx c.ctx).chains (cmChain b) with | some x => x.value | none => c.start
    base + c.sum
  | 2 => c.sum
  | _ => 0

/-- The source of a CONVERT lies wholly in one lease with a valid replica (R339). DEDUCED: log entry 51. -/
def State.hasReplica (s : State) (c : Cmd) : Bool :=
  let b := c.blk.toNat
  let leaseOf := fun (va : Nat) =>
    match (s.translateWalk c.ctx va .read).2 with
    | .ok dpa pte => if pteLoc pte = 1 ∨ pteLoc pte = 3 then s.leaseAt dpa else none
    | _ => none
  let n := convSource b
  decide (cmStile b = 0) && decide (0 < n) && decide (cmSrc b + n ≤ 2 ^ 57) &&
  match leaseOf (cmSrc b) with
  | some i => (s.lease i).data.getLsbD 115 &&
      (List.range (n / 65536 + 1)).all (fun k => decide (leaseOf (Nat.min (cmSrc b + 65536 * k) (cmSrc b + n - 1)) = some i)) &&
      decide (leaseOf (cmSrc b + n - 1) = some i)
  | none => false

/-- The command starts again from its first byte (R339). DEDUCED: log entry 51. -/
def Cmd.rerun (c : Cmd) (replica : Bool) (tries : Nat) : Cmd :=
  { c with pos := 0, skip := 0, out := 0, bit := 0, carry := [], rawSum := false, sum := if cmCsum c.blk.toNat = 2 then c.start else 0, sumLen := 0, replica := replica, tries := tries }

/-- The source bytes of a command as its engine reads them. -/
def State.cmdSourceBytes (s : State) (c : Cmd) : List Byte :=
  (List.range (cmLen c.blk.toNat)).map (fun i => match spaceOf (BitVec.ofNat 64 (s.cmdSrc c + i)) with
    | .virt va => (match (s.translateWalk c.ctx va .read).2 with | .ok dpa _ => s.readByte dpa | _ => 0)
    | .shared off => tabGet 0 (s.team c.team).shmem off
    | .outside => 0)

/-- The EGC stream of a COPY or a REDUCE whose destination is a peer's memory (R119, R393). DESIGN CHOICE: the bytes beyond the last whole value are
left out of the stream (log entry 98). -/
def State.cmdStream (s : State) (c : Cmd) : List Byte :=
  let b := c.blk.toNat
  let t := egcOf (cmA96 b) (if cmKind b = 5 then 0x18 else cmCfmt b)
  let bs := s.cmdSourceBytes c
  egcEncode t ((List.range (cmLen b / t.bytes)).map (fun i => bytesNat ((bs.drop (t.bytes * i)).take t.bytes)))

/-- Every byte of a command has been written: a CONVERT whose checksum fails is run again through its replica, and after a third
mismatch goes to the fault queue as SHARD_BAD (R339); a peer destination returns its value (R394). -/
def State.cmdWritten (s : State) (id : Nat) (c : Cmd) : State :=
  let b := c.blk.toNat
  let bad := decide (cmKind b = 2) && decide (cmCsum b ≠ 0) && decide (cmChain b = 0) && decide ((s.runningSum c).toNat ≠ cmExpect b)
  if bad && s.hasReplica c then
    if c.tries < 2 then (s.modCmd id (fun x => { (x.rerun true (x.tries + 1)) with st := .queued })).ceIdle c.ce id
    else s.cmdFaults id c 11 0 ((match s.leaseAt (match (s.translateWalk c.ctx (cmSrc b) .read).2 with | .ok dpa _ => dpa | _ => 0) with
      | some i => i | none => 0)) (cmSrc b) 0
  else
    let dst := match (s.translateWalk c.ctx (s.cmdDst c % 2 ^ 57) .write).2, spaceOf (BitVec.ofNat 64 (s.cmdDst c)) with
      | .ok dpa _, .virt _ => dpa
      | _, _ => 0
    let s1 := if isPeer dst && cmEgc b && (decide (cmKind b = 0) || decide (cmKind b = 5)) then
        s.emit (.egcStream (4 * (c.ce / 8 % 2) + s.nodeOf dst % 4) dst (s.cmdStream c))
      else s
    if isPeer dst && decide (cmCsum b ≠ 0) then
      ((s1.modCmd id (fun x => { x with st := .peer })).ceIdle c.ce id).after (s.fabricCycles dst) .peerWriteCompletion
        { a := c.ce, b := c.sum.toNat, v := BitVec.ofNat 64 id }
    else s1.cmdEnds id 0

/-- Runs pieces of a command until its segment ends, it stops, or it is written. -/
def State.runPieces (piece : Cmd → CeM Cmd) (id limit : Nat) : Nat → State → State
  | 0, s => s
  | fuel + 1, s =>
    match s.cmd? id with
    | none => s
    | some c =>
      if cmTotal c.blk.toNat ≤ c.pos then s.cmdWritten id c
      else if limit ≤ c.pos then (s.modCmd id (fun x => { x with st := .queued })).ceIdle c.ce id
      else
        let r := (piece c).run.run s
        match r.1 with
        | .ok c1 => State.runPieces piece id limit fuel (r.2.modCmd id (fun x => { c1 with pages := x.pages }))
        | .error e => r.2.cmdStops id c e

/-- The command whose segment an engine moves. -/
def State.ceSeg (s : State) (kind : Nat) (piece : Cmd → CeM Cmd) : State :=
  match (s.ce s.ev.a).busy with
  | none => s
  | some id =>
    match s.cmd? id with
    | none => s.ceIdle s.ev.a id
    | some c => if cmKind c.blk.toNat = kind then State.runPieces piece id (c.pos + 4096) 4200 s else s

/-- CE_COPY (R226). -/
def execCeCopy (s : State) : Result := .next (s.ceSeg 0 cePiece)
/-- CE_FILL (R226). -/
def execCeFill (s : State) : Result := .next (s.ceSeg 1 cePiece)
/-- CE_CONVERT (R226). -/
def execCeConvert (s : State) : Result := .next (s.ceSeg 2 convPiece)
/-- CE_GATHER (R226). -/
def execCeGather (s : State) : Result := .next (s.ceSeg 3 cePiece)
/-- CE_SCATTER (R226). -/
def execCeScatter (s : State) : Result := .next (s.ceSeg 4 cePiece)
/-- CE_REDUCE (R226). -/
def execCeReduce (s : State) : Result := .next (s.ceSeg 5 cePiece)

/-- The step that moves a segment of a kind. -/
def ceStep (kind : Nat) : Instr :=
  match kind with
  | 0 => .ceCopy | 1 => .ceFill | 2 => .ceConvert | 3 => .ceGather | 4 => .ceScatter | _ => .ceReduce

/-! ## Segments (R391, R392) -/

/-- The first command of each context in an engine's queue, where it can be served. -/
def State.ceHeads (s : State) (e : Nat) : List (Nat × Nat) :=
  let heads := (s.ce e).queue.foldl (fun (acc : List (Nat × Nat)) id =>
    match s.cmd? id with
    | some c => if acc.any (fun h => decide (h.1 = c.ctx)) then acc else acc ++ [(c.ctx, id)]
    | none => acc) []
  heads.filter (fun h => match s.cmd? h.2 with | some c => decide (c.st = .queued) | none => false)

/-- The context to serve: the one being served while segments of its round are left, otherwise the next in increasing order. -/
def State.cePick (s : State) (e : Nat) : Option (Nat × Nat × Nat) :=
  let hs := s.ceHeads e
  let fresh := fun (h : Nat × Nat) => some (h.1, h.2, weightOf (s.ctx h.1).cew - 1)
  let next := fun (c : Nat) =>
    match leastBy (fun (h : Nat × Nat) => (h.1 + 63 - c) % 64) hs with
    | some h => fresh h
    | none => none
  match (s.ce e).rr with
  | some (c, n) =>
    if 0 < n then (match hs.find? (fun h => decide (h.1 = c)) with | some h => some (c, h.2, n - 1) | none => next c) else next c
  | none => next 63

/-- An end of the command lies in a peer's memory. DEDUCED: log entry 44. -/
def State.overFabric (s : State) (c : Cmd) : Bool :=
  [s.cmdSrc c, s.cmdDst c].any (fun a => match spaceOf (BitVec.ofNat 64 a) with
    | .virt va => (match (s.translateWalk c.ctx va .read).2 with | .ok dpa _ => isPeer dpa | _ => false)
    | _ => false)

/-- A command begins (R228): FIRST opens its slot; a command that continues needs it open with its kind. A COPY over the fabric whose CFMT its EGC
stream cannot carry is rejected; one within the device ignores EGC (R226). DEDUCED: log entry 44. -/
def State.cmdBegin (s : State) (id : Nat) (c : Cmd) : State :=
  let b := c.blk.toNat
  if decide (cmKind b = 0) && cmEgc b && !egcFmt (cmCfmt b) && !cmA96 b && s.overFabric c then s.modCmd id (fun y => { y with started := true, status := 1 })
  else
  let ch := cmChain b
  let seed := BitVec.ofNat 32 (cmSeed b)
  let go := fun (t : State) (v : BitVec 32) => t.modCmd id (fun x => { x with started := true, start := v, sum := if cmCsum b = 2 then v else 0 })
  if ch = 0 then go s seed
  else if cmFirst b then go (s.modCtx c.ctx (fun x => { x with chains := tabPut x.chains ch { kind := cmCsum b, value := seed } })) seed
  else
    match tabFind (s.ctx c.ctx).chains ch with
    | some x => if x.kind = cmCsum b then go s x.value else s.modCmd id (fun y => { y with started := true, status := 1 })
    | none => s.modCmd id (fun y => { y with started := true, status := 1 })

/-- CE_SEGMENT (R391): an idle engine takes its next segment, at 64 bytes a cycle. DESIGN CHOICE: log entry 11. -/
def execCeSegment (s : State) : Result :=
  let e := s.ev.a
  if (s.ce e).busy.isSome then .next s
  else
    match s.cePick e with
    | none => .next s
    | some (ctx, id, left) =>
      let s1 := (s.modCe e (fun x => { x with busy := some id, rr := some (ctx, left) })).modCmd id (fun x => { x with st := .running })
      match s1.cmd? id with
      | none => .next s
      | some c0 =>
        let s2 := if c0.status = 0 ∧ !c0.started then s1.cmdBegin id c0 else s1
        match s2.cmd? id with
        | none => .next s
        | some c =>
          if c.status ≠ 0 then .next (s2.cmdEnds id c.status)
          else
            let n := Nat.min 4096 (cmTotal c.blk.toNat - c.pos)
            .next (s2.after (Nat.max 1 (ceilDiv n 64)) (ceStep (cmKind c.blk.toNat)) { a := e })

/-- PEER_WRITE_COMPLETION (R394): command `v` of engine `a`, which waits for its peer, takes the value `b` returned; `flag` where the peer has found its
EGC stream malformed (R123, R227). DEDUCED: log entry 50. -/
def execPeerWriteCompletion (s : State) : Result :=
  let id := s.ev.v.toNat
  .next (match s.cmd? id with
    | some c => if c.st = .peer ∧ c.ce = s.ev.a then
        (s.modCmd id (fun c => { c with sum := BitVec.ofNat 32 s.ev.b })).cmdEnds id (if s.ev.flag then 5 else 0) else s
    | none => s)

/-! ## Completion (R228, R230) -/

/-- The chain at the end of a command that has formed its checksum: the slot takes the running value; LAST compares and closes. A command that has
failed midway keeps its status; one whose slot has been closed or opened anew meanwhile opens it with its own kind (DESIGN CHOICE: log entries 103, 110). -/
def State.endChain (s : State) (id : Nat) (c : Cmd) : State :=
  let b := c.blk.toNat
  let ch := cmChain b
  let run := s.runningSum c
  let bad := (decide (ch = 0) || cmLast b) && decide (run.toNat ≠ cmExpect b)
  let s1 := if ch = 0 then s
    else s.modCtx c.ctx (fun x => { x with chains := if cmLast b then tabDel x.chains ch else tabPut x.chains ch { kind := cmCsum b, value := run } })
  s1.modCmd id (fun x => { x with status := if c.status = 0 ∧ bad then 4 else c.status, sum := run })

/-- The value of the signal word's checksum field, kept in the command from its end on. DESIGN CHOICE: log entry 103. -/
def State.endSum (s : State) (id : Nat) (c : Cmd) : State :=
  let b := c.blk.toNat
  if cmCsum b = 0 ∨ cmCsum b = 3 then s.modCmd id (fun x => { x with sum := 0 })
  else if c.status = 0 ∨ (c.started ∧ c.status ≠ 1 ∧ c.status ≠ 9) then s.endChain id c
  else s.modCmd id (fun x => { x with sum := s.runningSum c })

/-- sD and the flag, once every command of the word has completed (R224, R230). -/
def State.cmdCounts (s : State) (c : Cmd) : State :=
  match tabFind (s.group c.gid).ops c.op with
  | none => s
  | some o =>
    let status := if o.status ≠ 0 ∨ c.status = 0 then o.status else if c.batch then c.idx * 256 + c.status else c.status
    let s1 := s.modOp c.gid c.op (fun x => { x with left := o.left - 1, status := status })
    if o.left ≤ 1 then (s1.modOp c.gid c.op (fun x => { x with sres := some { val := BitVec.ofNat 64 status } })).completeOp c.gid c.op else s1

/-- Steps 3 and 4 of R230, with what else the end of a command does. -/
def State.cmdDone (s : State) (id : Nat) (c : Cmd) : State :=
  let s1 := if c.status = 0 then s else s.skipAfter c
  let s2 := (s1.tilesAtEnd c (decide (c.status = 0))).dropCmd id
  let s3 := s2.trace (c.ce / 8) 6 0 c.ctx (s.group c.gid).slot c.plot (s.team c.team).serial (c.ce * 256 + c.status) c.sum.toNat
  (s3.cmdCounts c).afterOnce 0 .ceDispatch { a := c.plot }

/-- The signal word (R230 step 2). DEDUCED: log entry 49. -/
def State.cmdSignal (s : State) (id : Nat) (c : Cmd) : State :=
  let b := c.blk.toNat
  if !cmSigen b || decide (cmSig b % 8 ≠ 0) then s.cmdDone id c
  else
    let r := (ceWrite c (cmSig b) (natBytes 8 (c.status + 2 ^ 8 + c.sum.toNat * 2 ^ 32)) none .write).run.run s
    match r.1 with
    | .ok _ => r.2.cmdDone id c
    | .error (.miss k d l va acc) => (r.2.cmdFaults id c k d l va acc).modCmd id (fun x => { x with sigFault := true })
    | .error .wait => s.after 1 .ceCommandComplete { a := c.ce, b := id, flag := true }
    | .error _ => r.2.cmdDone id { c with status := 3 }

/-- CE_COMMAND_COMPLETE (R230): command `b` of engine `a`; `flag` where its checksum has been settled and the signal word is tried
again. -/
def execCeCommandComplete (s : State) : Result :=
  let id := s.ev.b
  match s.cmd? id with
  | none => .next s
  | some c =>
    let s1 := if s.ev.flag then s else s.endSum id c
    match s1.cmd? id with
    | some c1 => .next (s1.cmdSignal id c1)
    | none => .next s1

/-- A record of an engine is resolved (R337): replay tries again; any other outcome gives the command its status, or leaves the signal
word unwritten (R230). -/
def State.engineResolved (s : State) (id outcome cause : Nat) (shard : Bool) : State :=
  match s.cmd? id with
  | none => s
  | some c =>
    let status := match outcome with | 2 => 10 | 3 => 10 | 5 => 4 | _ => 3
    if c.sigFault then
      if outcome = 0 then (s.modCmd id (fun x => { x with sigFault := false, st := .finished })).after 0 .ceCommandComplete { a := c.ce, b := id, flag := true }
      else s.cmdDone id { c with status := if status = 10 then 10 else 3 }
    else if outcome = 0 then
      (s.modCmd id (fun x => { (if shard then x.rerun false 0 else x) with st := .queued })).afterOnce 0 .ceSegment { a := c.ce }
    else
      let s1 := if shard && decide (outcome = 5) then s.deliver c.ctx none c.team { cls := 21, cause := cause } 15 0 0 else s
      s1.cmdEnds id status

end Sys2Proof.Machine
end

