-- ==== Sys2Proof/Machine/Launches.lean ====
section
/-! DEFINITION. Launches of a context: queues, predecessors, readiness and effective priority (R37-R39). -/

namespace Sys2Proof.Machine

/-- Non-zero predecessor serials (R33). -/
def Launch.preds (l : Launch) : List Nat :=
  ((List.range 4).map (fun i => (l.blk.extractLsb' (256 + 32 * i) 32).toNat)).filter (fun p => decide (p ≠ 0))

/-- How many serials back a serial lies: the one accepted last is 1 back (R36). -/
def Context.serialsBack (x : Context) (p : Nat) : Nat :=
  if p < x.nextSerial then x.nextSerial - p else x.nextSerial + (2 ^ 32 - 1) - p

/-- A predecessor is complete once its grid has completed; one older than the most recent 65,536 serials, or that no launch bears, counts as
complete (R38). -/
def Context.predComplete (x : Context) (p : Nat) : Bool :=
  decide (65536 < x.serialsBack p) || x.launches.all (fun l => decide (l.serial ≠ p) || l.done)

/-- The launch heads its queue: every earlier launch of the queue has had all its clusters placed (R37). -/
def Context.heads (x : Context) (l : Launch) : Bool :=
  x.launches.all (fun m => decide (m.queue ≠ l.queue) || !(serialOlder m.serial l.serial) || !m.unplaced)

/-- The launch is ready (R38). -/
def Context.ready (x : Context) (l : Launch) : Bool := x.heads l && l.preds.all x.predComplete

/-- The launch heads its queue and waits on an incomplete predecessor (R39). DEDUCED: log entry 90. -/
def Context.waitsOnPred (x : Context) (l : Launch) : Bool := l.unplaced && x.heads l && !(l.preds.all x.predComplete)

/-- Effective priority of a launch, with donations followed through at most `n` levels (R39). A raised launch passes the value on "in the
same way": while it heads its own queue and waits. DEDUCED: log entry 90. -/
def Context.effPrio (x : Context) : Nat → Launch → Nat
  | 0, l => l.prio
  | n + 1, l =>
    if l.done then l.prio
    else x.launches.foldl (fun m d => if x.waitsOnPred d && d.preds.contains l.serial then Nat.max m (x.effPrio n d) else m) l.prio

/-- Effective priority of a team's launch; a handler team's own priority (R349). -/
def State.teamPrio (s : State) (tid : Nat) : Nat :=
  let t := s.team tid
  let x := s.ctx t.ctx
  match x.launches.find? (fun l => decide (l.serial = t.lserial)) with
  | some l => x.effPrio 8 l
  | none => t.prio

end Sys2Proof.Machine
end

