-- ==== Sys2Proof/Machine/Matrix.lean ====
section
/-! DEFINITION. The matrix engine (R233-R254): slots, the reservation table and its grants, passes, split passes, triangular mode, `mxz`,
`mxq`, and drains with their epilogue (R117) and block exponents (R118). -/

namespace Sys2Proof.Machine

/-! ## Operands in registers (R240) -/

/-- The granule in one quarter of a register. -/
def Group.granule (g : Group) (r q : Nat) : Granule :=
  { desc := g.readDesc r q
    data := BitVec.ofNat 512 ((List.range 16).foldr (fun l acc => (laneOf (g.readV r) (16 * q + l)).toNat + 2 ^ 32 * acc) 0) }

/-- Rows (or columns) 0 to n − 1 of the block whose first register is `r`. -/
def Group.granules (g : Group) (r n : Nat) : List Granule := (List.range n).map (fun i => g.granule (r + i / 4) (i % 4))

/-! ## Reservation (R235) -/

/-- Adds a request to a quad's table. -/
def State.reserve (s : State) (q : Nat) (r : MxReq) : State :=
  (s.bump.modQuad q (fun x => { x with resv := tabPut x.resv s.nextId r })).afterOnce 0 .mxeGrant { a := q }

/-- Removes a request from its quad's table. -/
def State.unreserve (s : State) (q key : Nat) : State :=
  (s.modQuad q (fun x => { x with resv := tabDel x.resv key })).afterOnce 0 .mxeGrant { a := q }

/-- A variable-latency word is in flight and has no step of its own. -/
def State.startQuiet (s : State) (u : Issuer) (i : Instr) : State :=
  let o := u.capture i
  s.bump.modGroup u.gid (fun g => { (g.incF o.flag) with ops := tabPut g.ops s.nextId o })

/-! ## Passes: issue (R238, R245) -/

/-- The group that a split block names: by part and plot in its quad, or by cluster-relative plot, and rank. -/
def State.splitGroup (s : State) (cid : Nat) (pick : Team → Bool) (rank : Nat) : Option Nat :=
  (s.cluster cid).teams.findSome? (fun t =>
    let x := s.team t
    if x.live && pick x then x.allGroups.find? (fun g => decide ((s.group g).rank = rank) && decide ((s.group g).team = t)) else none)

/-- B-source of part q. DEDUCED: log entry 52. -/
def State.bSource (s : State) (cid b q : Nat) : Option Nat :=
  s.splitGroup cid (fun t => decide (s.partOf t = q) && decide (inQuadOf t = (mxBSrc b q).1)) (mxBSrc b q).2

/-- The A-source sends A to every part (R245): 2 cycles for each hop. -/
def State.broadcast (s : State) (u : Issuer) (op b : Nat) (a : List Granule) : State :=
  let cid := (s.uTeam u).cluster
  (List.range (mxNq b + 1)).foldl (fun (t : State) q =>
    match t.bSource cid b q with
    | some g =>
      let p := (t.group g).plot
      let hops := match t.path u.g.plot p with | some (h, _) => h | none => hopsXY u.g.plot p
      let x : Bcast := { id := t.nextId, gid := u.gid, op := op, bsrc := g, blk := BitVec.ofNat 512 b, a := a }
      (t.bump.modQuad (plotQuad p) (fun y => { y with bcasts := y.bcasts ++ [x] })).after (2 * hops) .splitBroadcastArrival { a := plotQuad p, b := x.id }
    | none => t) s

/-- A request of a B-source or of a pass that is not split. -/
def passReq (u : Issuer) (op b : Nat) (a bs : List Granule) (part entry : Option Nat) : MxReq :=
  { drain := false, gid := u.gid, team := u.g.team, op := op, plot := u.g.plot, gslot := u.g.slot, slot := mxSlot b, entry := entry,
    blk := BitVec.ofNat 512 b, a := a, b := bs, part := part }

/-! ## Split parts form (R245) -/

/-- One word of a part has been performed: its count, or its flag. The A-source's word counts its parts. DEDUCED: log entry 52. -/
def State.partSettled (s : State) (r : MxReq) : State :=
  match r.asrc with
  | none => s.completeOp r.gid r.op
  | some (ag, aop) =>
    let s1 := if r.op = aop then s else s.completeOp r.gid r.op
    match tabFind (s1.group ag).ops aop with
    | none => s1
    | some o => if o.left ≤ 1 then s1.completeOp ag aop else s1.modOp ag aop (fun x => { x with left := x.left - 1 })

/-- A part forms where its B-source has issued and a broadcast for it has arrived: it enters the order when the blocks agree, and is
discarded with cause 28 when they differ. -/
def State.formParts (s : State) (q : Nat) : State :=
  (s.quad q).resv.foldl (fun (t : State) e =>
    if e.2.part.isNone ∨ e.2.asrc.isSome then t
    else
      match (t.quad q).bcasts.find? (fun x => decide (x.bsrc = e.2.gid) && x.arrived) with
      | none => t
      | some x =>
        let t1 := (t.modQuad q (fun y => { y with bcasts := y.bcasts.filter (fun z => decide (z.id ≠ x.id)) })).modGroup x.gid
          (fun g => { g with bcast := g.bcast - 1 })
        let r := { e.2 with a := x.a, asrc := some (x.gid, x.op), entry := some t.cycle }
        if x.blk = e.2.blk then
          (t1.modQuad q (fun y => { y with resv := tabPut y.resv e.1 r })).afterOnce 0 .mxeGrant { a := q }
        else
          (((t1.unreserve q e.1).partSettled { r with gid := x.gid, op := x.op })).opFailed e.2.gid e.2.op { cls := clsIllegal, cause := 28 }) s

/-- SPLIT_BROADCAST_ARRIVAL (R245): broadcast `b` reaches quad `a`. -/
def execSplitBroadcastArrival (s : State) : Result :=
  .next ((s.modQuad s.ev.a (fun x => { x with bcasts := x.bcasts.map (fun y => if y.id = s.ev.b then { y with arrived := true } else y) })).formParts s.ev.a)

/-- mxp (R238-R245). -/
def execMxp (a : BitVec 6) (f : BitVec 1) (s : State) : Result :=
  issue (.mxp a f) s (fun u t =>
    let b := u.mxpBlock a
    let op := t.nextId
    let q := plotQuad u.g.plot
    let ag := u.g.granules (16 * mxARow b) (mxM b)
    let bg := u.g.granules (16 * mxBRow b) (mxN b)
    let t1 := t.startQuiet u (.mxp a f)
    if !mxSplit b then .ok (t1.reserve q (passReq u op b ag bg none (some t.cycle)))
    else
      let n := mxNq b + 1
      let t2 := t1.modOp u.gid op (fun o => { o with blk := BitVec.ofNat 512 b, gran := bg })
      let t3 := if isASource t u b then
          ((t2.modOp u.gid op (fun o => { o with left := n })).modGroup u.gid (fun g => { g with bcast := n })).broadcast u op b ag
        else t2
      match bSourcePart t u b with
      | some part => .ok ((t3.reserve q (passReq u op b [] bg (some part) none)).formParts q)
      | none => .ok t3)

/-- A discarded B-source word is performed again (R345): it takes an entry once one is free. -/
def State.performMxp (s : State) (gid op : Nat) (o : MemOp) : State :=
  let g := s.group gid
  let q := plotQuad g.plot
  if 16 ≤ (s.quad q).resv.length then s.after 1 .operandLogReplay { a := gid, b := op }
  else
    let b := o.blk.toNat
    -- the pinned registers as they stand (R345)
    let r : MxReq := { drain := false, gid := gid, team := g.team, op := op, plot := g.plot, gslot := g.slot, slot := mxSlot b, blk := o.blk,
                       b := g.granules (16 * mxBRow b) (mxN b), part := some (s.partOf (s.team g.team)) }
    ((s.opPerformed gid op).reserve q r).formParts q

/-! ## Grants (R236, R237) -/

/-- Array cycles of a pass: 128, or 512 in the 32- and 64-bit classes. -/
def passCycles (b : Nat) : Nat := if mxClass b ≤ 1 then 512 else 128
/-- A request is older than another on its slot: by entry cycle, then by plot, group slot and the order of reservation. DEDUCED: log entry 52. -/
def olderReq (x y : Nat × MxReq) : Bool :=
  let place := fun (r : MxReq) => 8 * r.plot + r.gslot
  match x.2.entry, y.2.entry with
  | some a, some b => decide (a < b) || (decide (a = b) && (decide (place x.2 < place y.2) || (decide (place x.2 = place y.2) && decide (x.1 < y.1))))
  | _, _ => false

/-- Eligible: in the order, not granted, every older request on its slot complete, and the slot READY. -/
def eligible (q : Quad) (e : Nat × MxReq) : Bool :=
  e.2.entry.isSome && e.2.granted.isNone && slotReady q e.2.slot && q.resv.all (fun x => decide (x.2.slot ≠ e.2.slot) || !olderReq x e)

/-- Order of grants: priority, then entry cycle, then plot, then group slot. -/
def State.grantKey (s : State) (e : Nat × MxReq) : Nat :=
  let p := match e.2.asrc with | some (ag, _) => s.teamPrio (s.group ag).team | none => s.teamPrio e.2.team
  (((7 - p) * 2 ^ 64 + e.2.entry.getD 0) * 512 + e.2.plot) * 8 + e.2.gslot

/-- The slot's state changes. -/
def State.slotTo (s : State) (q n : Nat) (st : SlotState) : State :=
  s.modQuad q (fun x => match tabFind x.slots n with | some y => { x with slots := tabPut x.slots n { y with st := st } } | none => x)

/-- Grants the best eligible request of one path; where the path is busy, the quad looks again when it is free. -/
def State.grantPath (s : State) (q : Nat) (drain : Bool) : State :=
  let x := s.quad q
  match leastBy s.grantKey (x.resv.filter (fun e => decide (e.2.drain = drain) && eligible x e)) with
  | none => s
  | some e =>
    let free := if drain then x.drainFree else x.arrayFree
    if s.cycle < free then s.afterOnce (free - s.cycle) .mxeGrant { a := q, b := if drain then 2 else 1 }
    else
      let b := e.2.blk.toNat
      let s1 := (s.modQuad q (fun y => { y with resv := tabPut y.resv e.1 { e.2 with granted := some s.cycle } })).slotTo q e.2.slot
        (if drain then .draining else .filling)
      if drain then
        let m := drM b
        (s1.modQuad q (fun y => { y with drainFree := s.cycle + 64 + m })).after 64 .mxdRowWrite { a := q, b := e.1 }
      else
        (s1.modQuad q (fun y => { y with arrayFree := s.cycle + passCycles b })).after (16 + passCycles b) .mxePassComplete { a := q, b := e.1 }

/-- MXE_GRANT (R236): quad `a`; `b` is 1 or 2 where the array or the drain path has just become free. -/
def execMxeGrant (s : State) : Result :=
  let q := s.ev.a
  let s1 := (s.grantPath q false).grantPath q true
  -- another eligible request of a path that has just been taken
  let more := fun (d : Bool) => (s1.quad q).resv.any (fun e => decide (e.2.drain = d) && eligible (s1.quad q) e)
  let s2 := if more false then s1.grantPath q false else s1
  .next (if more true then s2.grantPath q true else s2)

/-! ## A pass (R241, R243) -/

/-- Pairs of a list are added (R115). -/
def pairUp : List (Val × Fp) → List (Val × Fp)
  | [] => []
  | [x] => [x]
  | x :: y :: t => let r := a96Add x.1 y.1; (r.1, x.2 ||| y.2 ||| r.2) :: pairUp t

/-- The pairwise tree over 2^n products. -/
def treeSum : Nat → List (Val × Fp) → Val × Fp
  | 0, l => l.headD (.fin false 0 0, 0)
  | n + 1, l => treeSum n (pairUp l)

/-- One product (R114): exact, but rounded to A96 in the 64-bit class. -/
def mxProduct (cls : Nat) (x y : Val × Fp) : Val × Fp :=
  let p := mulV x.1 y.1
  let q := if cls = 0 then toA96 p.1 else (p.1, 0)
  (q.1, x.2 ||| y.2 ||| p.2 ||| q.2)

/-- Levels of the tree of a class. -/
def treeLevels (cls : Nat) : Nat := 3 + cls

/-- Entry (i, j) is masked by a record: mode 1 lower, 2 upper (R243). -/
def maskedAt (mode : Nat) (d : Int) (i j : Nat) : Bool :=
  match mode with
  | 1 => decide ((i : Int) + d < j)
  | 2 => decide ((j : Int) < i + d)
  | _ => false

/-- Every entry of the 32 × 32 sub-tile of (i, j) is masked. -/
def subTileSkipped (mode : Nat) (d : Int) (i j : Nat) : Bool :=
  let r := i / 32 * 32
  let c := j / 32 * 32
  match mode with
  | 1 => maskedAt 1 d (r + 31) c
  | 2 => maskedAt 2 d r (c + 31)
  | _ => false

/-- Key of entry (i, j) of a slot (R233). -/
def accKey (x : AccSlot) (i j : Nat) : Nat := 1024 * (x.unit + i / 32 * x.tc + j / 32) + 32 * (i % 32) + j % 32

/-- The elements of a granule, expanded. -/
def Granule.values (g : Granule) : List (Val × Fp) := expandGranule (descFmt g.desc) (descScl g.desc) (descAux g.desc) g.data.toNat

/-- One entry of a pass. -/
def passEntry (cls : Nat) (a b : List (Val × Fp)) (acc : Acc) : Acc × Fp :=
  let t := treeSum (treeLevels cls) (List.zipWith (mxProduct cls) a b)
  let r := a96Add (unpack a96 acc.toNat) t.1
  (BitVec.ofNat 96 (a96Code r.1), t.2 ||| r.2)

/-- A pass's effect on its quad (R241): entries, sticky status, mask record. -/
def passQuad (x : Quad) (sl : AccSlot) (r : MxReq) : Quad :=
  let b := r.blk.toNat
  let part := r.part.getD 0
  let mode := mxTri b
  -- in the part's own columns: j = 128·part + j'
  let d : Int := mxDiag b - 128 * part
  let as := r.a.map Granule.values
  let bs := r.b.map Granule.values
  let cells := (List.range (mxM b)).flatMap (fun i => (List.range (mxN b)).map (fun j => (i, j)))
  let run := (cells.filter (fun e => !subTileSkipped mode d e.1 e.2)).foldl (fun (acc : Tab Acc × Fp) e =>
    let k := accKey sl e.1 e.2
    let v := passEntry (mxClass b) (as.getD e.1 []) (bs.getD e.2 []) (tabGet 0 acc.1 k)
    (tabSet 0 acc.1 k v.1, acc.2 ||| v.2)) (x.acc, 0)
  let mask := if mode = 0 then sl.mask else (mode, d, mxConst b, mxVal b)
  { x with acc := run.1, slots := tabPut x.slots r.slot { sl with st := .ready, status := sl.status ||| run.2, mask := mask } }

/-- MXE_PASS_COMPLETE (R237): request `b` of quad `a`. The pass of a team that has ended has no slot to write. DEDUCED: log entry 52. -/
def execMxePassComplete (s : State) : Result :=
  let q := s.ev.a
  match tabFind (s.quad q).resv s.ev.b with
  | none => .next s
  | some r =>
    let s1 := s.modQuad q (fun x =>
      match tabFind x.slots r.slot with
      | some sl => if sl.team = r.team ∧ sl.st = .filling then passQuad x sl r else x
      | none => x)
    .next ((s1.unreserve q s.ev.b).partSettled r)

/-! ## mxz and mxq (R246, R247) -/

/-- The entries of a run of units are +0. -/
def Quad.zeroUnits (x : Quad) (u n : Nat) : Quad :=
  { x with acc := x.acc.filter (fun e => !(decide (1024 * u ≤ e.1) && decide (e.1 < 1024 * (u + n)))) }

/-- The lowest first unit of a free run of n units. -/
def Quad.freeRun (x : Quad) (n : Nat) : Option Nat :=
  (List.range 32).find? (fun u => decide (u + n ≤ 32) &&
    x.slots.all (fun e => decide (e.2.unit + e.2.tr * e.2.tc ≤ u) || decide (u + n ≤ e.2.unit)))

def execMxzDefine (d a : BitVec 6) (n : BitVec 3) (f : BitVec 1) (s : State) : Result :=
  issue (.mxzDefine d a n f) s (fun u t => .ok (t.startOp u (.mxzDefine d a n f) 16 .mxzComplete))

/-- mxz clr: at its issue cycle the slot is cleared (R246). -/
def execMxzClr (d : BitVec 6) (n : BitVec 3) (f : BitVec 1) (s : State) : Result :=
  issue (.mxzClr d n f) s (fun u t =>
    .ok ((t.modQuad (plotQuad u.g.plot) (fun x => match tabFind x.slots n.toNat with
      | some y => { (x.zeroUnits y.unit (y.tr * y.tc)) with slots := tabPut x.slots n.toNat { y with status := 0, mask := (0, 0, 0, 0) } }
      | none => x)).startOp u (.mxzClr d n f) 16 .mxzComplete))

/-- mxz free: at its issue cycle the slot becomes EMPTY (R246). -/
def execMxzFree (d : BitVec 6) (n : BitVec 3) (f : BitVec 1) (s : State) : Result :=
  issue (.mxzFree d n f) s (fun u t =>
    .ok ((t.modQuad (plotQuad u.g.plot) (fun x => { x with slots := tabDel x.slots n.toNat })).startOp u (.mxzFree d n f) 16 .mxzComplete))

/-- The define form at its completion: sD and the quad after. -/
def Quad.define (x : Quad) (n tid shape : Nat) : Nat × Quad :=
  let tr := fld shape 0 3 + 1
  let tc := fld shape 3 2 + 1
  if (tabFind x.slots n).isSome then (2, x)
  else
    match x.freeRun (tr * tc) with
    | none => (1, x)
    | some u => (0, { (x.zeroUnits u (tr * tc)) with slots := tabPut x.slots n { team := tid, tr := tr, tc := tc, unit := u } })

/-- MXZ_COMPLETE (R246). -/
def execMxzComplete (s : State) : Result :=
  let gid := s.ev.a
  let op := s.ev.b
  let g := s.group gid
  let q := plotQuad g.plot
  match tabFind g.ops op with
  | none => .next s
  | some o =>
    let r := match o.word with
      | .mxzDefine _ _ n _ => (s.quad q).define n.toNat g.team o.base.val.toNat
      | _ => (0, s.quad q)
    .next (((s.modQuad q (fun _ => r.2)).modOp gid op (fun x => { x with sres := some { val := BitVec.ofNat 64 r.1 } })).completeOp gid op)

def SlotState.code : SlotState → Nat
  | .filling => 1 | .ready => 2 | .draining => 3

/-- What mxq reads (R247). -/
def mxqValue (x : Quad) (n tid : Nat) : DWord :=
  match tabFind x.slots n with
  | none => 0
  | some y =>
    if y.team ≠ tid then BitVec.ofNat 64 (8 + y.st.code)
    else BitVec.ofNat 64 (y.status.toNat * 2 ^ 24 + quadPending x n * 2 ^ 16 + y.mask.1 * 2 ^ 14 + y.unit * 2 ^ 9 + (y.tc - 1) * 2 ^ 7
      + (y.tr - 1) * 2 ^ 4 + 4 + y.st.code)

def execMxq (d : BitVec 6) (n : BitVec 3) (f : BitVec 1) (s : State) : Result :=
  issue (.mxq d n f) s (fun u t => .ok (t.startOp u (.mxq d n f) 16 .mxqResult))

/-- MXQ_RESULT (R247). -/
def execMxqResult (s : State) : Result :=
  let g := s.group s.ev.a
  match tabFind g.ops s.ev.b with
  | some o =>
    let n := match o.word with | .mxq _ k _ => k.toNat | _ => 0
    .next ((s.modOp s.ev.a s.ev.b (fun x => { x with sres := some { val := mxqValue (s.quad (plotQuad g.plot)) n g.team } })).completeOp s.ev.a s.ev.b)
  | none => .next s

/-! ## Drains: the block and its checks (R248-R250) -/

/-- A drain whose slot is not known yet names none. -/
def noSlot : Nat := 8

/-- The entry that a drain reserves at its issue (R235). -/
def drainReq (gid op : Nat) (g : Group) : MxReq :=
  { drain := true, gid := gid, team := g.team, op := op, plot := g.plot, gslot := g.slot, slot := noSlot }

def execMxd (d a : BitVec 6) (f : BitVec 1) (s : State) : Result :=
  issue (.mxd d a f) s (fun u t =>
    let op := t.nextId
    .ok ((t.startAlong u (.mxd d a f) (t.addrRoad u.g (u.sv a) false) 0 .mxdBlockCheck).reserve (plotQuad u.g.plot) (drainReq u.gid op u.g)))

/-- Check 1 of R250: fields and values, alignments of addresses and of the pitch apart. -/
def drFieldsOk (b : Nat) : Bool :=
  let reg := drToReg b
  let e := (fmtClass (drFmt b)).map classElems
  decide (fld b 160 96 = 0) && decide (fld b 56 8 = 0) && decide (fld b 11 5 = 0) && decide (drRm b ≤ 5) && decide (drVRow b ≤ 2)
  && decide (drI0 b % 4 = 0)
  && (match e with | some n => decide (drJ0 b % n = 0) && decide (drN b % n = 0) && (!reg || decide (drN b = n)) | none => true)
  && (if reg then decide (drM b % 4 = 0) && decide (drDst b = 0) && decide (drPitch b = 0) else decide (drVRow b = 0))

/-- Checks 1 to 7 of R250, in order. -/
def State.drainCheck (s : State) (g : Group) (b : Nat) : Option Failure :=
  let slot := tabFind (s.quad (plotQuad g.plot)).slots (drSlot b)
  let t := s.team g.team
  let al := fun (a n : Nat) => decide (a % n = 0)
  firstOf [needs (drFieldsOk b) (ill 24),
    needs (match slot with | some x => decide (x.team = g.team) | none => false) (some { cls := clsTile, cause := 25, info := BitVec.ofNat 64 (drSlot b) }),
    needs (match slot with | some x => decide (drI0 b + drM b ≤ 32 * x.tr) && decide (drJ0 b + drN b ≤ 32 * x.tc) | none => false) (fail clsBounds 26),
    needs (fmtClass (drFmt b)).isSome (fail clsMxfmt 27),
    needs (drToReg b || !t.paired) (fail clsProt 11),
    needs (!drToReg b || (List.range (drM b / 4)).all (fun k => decide (drVRow b + k / 16 < g.rows))) (fail clsRegRow 12),
    needs (al (drDst b) 64 && al (drPitch b) 64 && al (drRs b) 4 && al (drCs b) 4 && al (drBs b) 2 && al (drBias b) 4) (fail clsMisalign 14)]

/-- Blocks that a drain accesses, with their use (R250 check 8). -/
def drBlocks (b : Nat) : List (Nat × Use) :=
  (if drToReg b then [] else (List.range (drM b)).flatMap (fun i => (List.range (drGrans b)).map (fun g => (drDst b / 64 + i * (drPitch b / 64) + g, Use.fmtWrite))))
  ++ (drScales b).flatMap (fun e => (blocksOf e.1 e.2).map (fun k => (k, Use.read)))

/-- Check 8 of one block: causes 16, 18 and 19; its place. -/
def State.drainBlock (s : State) (g : Group) (k : Nat) (u : Use) : State × Option Failure × Nat :=
  match spaceOf (BitVec.ofNat 64 (64 * k)) with
  | .virt va =>
    let x := s.translate g.plot g.ctx va u
    match x.2 with
    | .miss kd d l => (x.1, some (elemFail (clsOfKind kd) 18 va (d + 256 * l)), 0)
    | .perm => (x.1, some (elemFail clsProt 19 va), 0)
    | .ok dpa pte => (x.1, if pteFmt pte = 2 then some (elemFail clsProt 19 va) else none, dpa)
  | _ => (s, some (elemFail clsProt 16 (64 * k)), 0)

/-- Every block: the failure with the lowest cause, and the translations. -/
def State.drainBlocks (s : State) (g : Group) (b : Nat) : State × Option Failure × List (Nat × Nat) :=
  (drBlocks b).foldl (fun (acc : State × Option Failure × List (Nat × Nat)) e =>
    let x := acc.1.drainBlock g e.1 e.2
    (x.1, worseOf acc.2.1 x.2.1, acc.2.2 ++ [(e.1, x.2.2)])) (s, none, [])

/-- The ranges that a drain locks (R250). -/
def drRanges (g : Group) (op b : Nat) : List RltEntry :=
  let one := fun (a n : Nat) (reads : Bool) => if n = 0 then [] else [({ ctx := g.ctx, lo := a / 64, hi := (a + n - 1) / 64, reads := reads, owner := op } : RltEntry)]
  (if drToReg b then [] else one (drDst b) ((drM b - 1) * drPitch b + 64 * drGrans b) true)
  ++ (drScales b).flatMap (fun e => one e.1 e.2 false)

/-- The entry of a drain in its quad's table. -/
def State.mxdEntry (s : State) (q op : Nat) : Option (Nat × MxReq) := (s.quad q).resv.find? (fun e => decide (e.2.op = op) && e.2.drain)

/-- A drain whose checks fail leaves the table; the failure is logged at its word. -/
def State.drainFailed (s : State) (gid op q : Nat) (f : Failure) : State :=
  (match s.mxdEntry q op with | some e => s.unreserve q e.1 | none => s).opFailed gid op f

/-- The block of a drain has been read: the checks, and its ranges. -/
def State.performDrainBlock (s : State) (gid op : Nat) (o : MemOp) : State :=
  let g := s.group gid
  let q := plotQuad g.plot
  -- at a replay the entry may have been given up
  if (s.mxdEntry q op).isNone ∧ 16 ≤ (s.quad q).resv.length then s.after 1 .mxdBlockCheck { a := gid, b := op }
  else
    let s0 := if (s.mxdEntry q op).isNone then s.reserve q (drainReq gid op g) else s
    s0.withBlock gid op o.base (fun t blk =>
      let b := blk.toNat
      let t := (if drToReg b then t else t.markCommitted g.team).modOp gid op (fun y => { y with blk := blk })
      match t.drainCheck g b with
      | some f => t.drainFailed gid op q f
      | none =>
        let x := t.drainBlocks g b
        match x.2.1 with
        | some f => x.1.drainFailed gid op q f
        | none =>
          match x.1.mxdEntry q op with
          | none => x.1
          | some e =>
            let t1 := x.1.modQuad q (fun y => { y with resv := tabPut y.resv e.1 { e.2 with slot := drSlot b, blk := blk, xlat := x.2.2 } })
            let t2 := (t1.opPerformed gid op).modOp gid op (fun y => { y with left := if drToReg b then 1 else 0 })
            (t2.modPlot g.plot (fun y => { y with waiting := y.waiting ++ [{ owner := op, ranges := drRanges g op b }] })).afterOnce 0 .cpyRegister { a := g.plot })

/-- MXD_BLOCK_CHECK (R250). -/
def execMxdBlockCheck (s : State) : Result :=
  .next (s.inTurn s.ev.a s.ev.b .mxdBlockCheck (fun o => s.performDrainBlock s.ev.a s.ev.b o))

/-! ## Drains: rows (R251, R117) -/

/-- The bytes of a value at an address, through the drain's translations. -/
def State.drainRead (s : State) (r : MxReq) (a n : Nat) : Nat :=
  match r.xlat.find? (fun e => decide (e.1 = a / 64)) with
  | some e => s.readNat (e.2 + a % 64) n
  | none => 0

/-- One optional step of the epilogue (R117). -/
def epiStep (on : Bool) (v : Val × Fp) (f : Val → Val × Fp) : Val × Fp :=
  if on then (let r := f v.1; let q := toA96 r.1; (q.1, v.2 ||| r.2 ||| q.2)) else v

/-- The constant of a mask record (R243), with the exceptions of the conversion of MXP.MVAL to A96: INVALID for a signalling NaN (R99,
R104). -/
def maskConst (m : Nat × Int × Nat × Word) : Val × Fp :=
  match m.2.2.1 with
  | 1 => (.inf true, 0)
  | 2 => let v := unpack f32 m.2.2.2.toNat; (if v.isNan then .nan false else v, sigFl [v])
  | _ => (.fin false 0 0, 0)

/-- The value of entry (i, j) of a region after the epilogue, and its exceptions. -/
def State.drainValue (s : State) (q : Nat) (sl : AccSlot) (r : MxReq) (i j : Nat) : Val × Fp :=
  let b := r.blk.toNat
  let v : Val × Fp := if maskedAt sl.mask.1 sl.mask.2.1 i j then maskConst sl.mask
    else (unpack a96 (tabGet 0 (s.quad q).acc (accKey sl i j)).toNat, 0)
  let f := fun (base k : Nat) => unpack f32 (s.drainRead r (base + 4 * k) 4)
  let v1 := epiStep (decide (drRs b ≠ 0)) v (fun x => mulV x (f (drRs b) (i - drI0 b)))
  let v2 := epiStep (decide (drCs b ≠ 0)) v1 (fun x => mulV x (f (drCs b) (j - drJ0 b)))
  let v3 := epiStep (decide (drBs b ≠ 0)) v2 (fun x => mulV x (unpack bf16 (s.drainRead r (drBs b + 2 * (i / 64 - drI0 b / 64)) 2)))
  epiStep (decide (drBias b ≠ 0)) v3 (fun x => addV .rne x (f (drBias b) (j - drJ0 b)))

/-- DRN.RM with its default (R101). -/
def drMode (b : Nat) : RM := rmOf (drRm b) (if drFmt b = 1 ∨ drFmt b = 2 ∨ drFmt b = 3 then .rtz else .rne)

/-- The granules of row i of a drain, and the exceptions. -/
def State.drainRow (s : State) (q : Nat) (sl : AccSlot) (r : MxReq) (i : Nat) : List Granule × Fp :=
  let b := r.blk.toNat
  let e := classElems ((fmtClass (drFmt b)).getD 0)
  (List.range (drGrans b)).foldl (fun (acc : List Granule × Fp) g =>
    let vs := (List.range e).map (fun k => s.drainValue q sl r i (drJ0 b + e * g + k))
    let o := blockOut (drFmt b) (drMode b) (drSat b) (vs.map (fun v => v.1))
    (acc.1 ++ [{ desc := o.1, data := BitVec.ofNat 512 o.2.1 }], vs.foldl (fun f v => f ||| v.2) (acc.2 ||| o.2.2))) ([], 0)

/-- Writes a granule of a memory drain at its place (R251); host memory receives the data only. -/
def State.drainWrite (s : State) (ctx dpa : Nat) (g : Granule) : State :=
  let s1 := if (s.l2Line dpa).isSome then (s.serveHome dpa 512).l2Dirty dpa ctx else s
  (s1.storeMem dpa (natBytes 64 g.data.toNat)).writeDesc dpa g.desc

/-- The controllers check the blocks of the scale and bias values that a row reads (R360). -/
def State.drainEcc (s : State) (r : MxReq) : State :=
  if s.eccErrors.isEmpty then s
  else (drScales r.blk.toNat).foldl (fun (t : State) e => (blocksOf e.1 e.2).foldl (fun (u : State) k =>
    match r.xlat.find? (fun x => decide (x.1 = k)) with | some x => u.eccMiss x.2 | none => u) t) s

/-- The scale and bias values of a row are poisoned (R361). -/
def State.drainPoisoned (s : State) (r : MxReq) : Bool :=
  !s.poison.isEmpty && (drScales r.blk.toNat).any (fun e => (blocksOf e.1 e.2).any (fun k =>
    match r.xlat.find? (fun x => decide (x.1 = k)) with | some x => s.poisoned x.2 | none => false))

/-- What a row of a drain waits for: blocks that it reads or writes while their frames are being filled or their channels stall, a DEAD frame among them,
whose fill its write starts (R275, R316, R412). -/
def State.drainWait (s : State) (r : MxReq) : State × Nat :=
  let b := r.blk.toNat
  let place := fun (k : Nat) => (r.xlat.find? (fun y => decide (y.1 = k))).map (fun y => y.2)
  let reads := (drScales b).flatMap (fun e => (blocksOf e.1 e.2).filterMap place)
  let late := reads.foldl (fun m d => Nat.max m ((s.blockWait d).getD 0)) 0
  if drToReg b then (s, late)
  else ((List.range (drGrans b)).filterMap (fun g => place (drDst b / 64 + r.row * (drPitch b / 64) + g))).foldl (fun (x : State × Nat) d =>
    let y := x.1.uncached d
    (y.1, Nat.max x.2 y.2)) (s, late)

/-- MXD_ROW_WRITE (R237, R251): the next row of request `b` of quad `a`; the drain path stays taken while a row waits. -/
def execMxdRowWrite (s : State) : Result :=
  let q := s.ev.a
  match tabFind (s.quad q).resv s.ev.b with
  | none => .next s
  | some r =>
    let b := r.blk.toNat
    let next := if r.row + 1 < drM b then Instr.mxdRowWrite else .mxdDrainComplete
    let put := fun (t : State) (x : MxReq) =>
      (t.modQuad q (fun y => { y with resv := tabPut y.resv s.ev.b { x with row := r.row + 1 } })).after 1 next { a := q, b := s.ev.b }
    match tabFind (s.quad q).slots r.slot with
    | none => .next (put s r)
    | some sl =>
      if r.cut ∨ sl.team ≠ r.team then .next (put s r) else
      let s := s.drainEcc r
      if s.drainPoisoned r then .next ((s.consumePoison r.team).afterOnce 1 .mxdRowWrite { a := q, b := s.ev.b })
      else
        let late := s.drainWait r
        if 0 < late.2 then .next ((late.1.modQuad q (fun y => { y with drainFree := y.drainFree + late.2 })).after late.2 .mxdRowWrite { a := q, b := s.ev.b }) else
        let o := s.drainRow q sl r (drI0 b + r.row)
        let x := { r with status := r.status ||| o.2 }
        if drToReg b then
          .next (put s { x with out := r.out ++ o.1.map (fun g => (16 * drVRow b + r.row / 4, r.row % 4, g)) })
        else
          let s1 := (o.1.zip (List.range o.1.length)).foldl (fun (t : State) e =>
            match r.xlat.find? (fun y => decide (y.1 = drDst b / 64 + r.row * (drPitch b / 64) + e.2)) with
            | some y => t.drainWrite (s.team r.team).ctx y.2 e.1
            | none => t) s
          .next (put s1 x)

/-- A register drain writes one quarter of a register and its shadow (R251, R196). DEDUCED: log entry 53. -/
def Group.writeGranule (g : Group) (r q : Nat) (x : Granule) : Group :=
  let m : Mask := BitVec.ofNat 64 (0xFFFF * 2 ^ (16 * q))
  (g.writeVM m r (mapLanes (fun l => BitVec.ofNat 32 (fld x.data.toNat (32 * (l % 16)) 32)))).writeDesc r q x.desc

/-- The region's entries become +0 and the slot's status 0 (DRN.ZERO). -/
def Quad.drained (x : Quad) (r : MxReq) (sl : AccSlot) : Quad :=
  let b := r.blk.toNat
  if drZero b then
    let ks := (List.range (drM b)).flatMap (fun i => (List.range (drN b)).map (fun j => accKey sl (drI0 b + i) (drJ0 b + j)))
    { x with acc := ks.foldl (fun t k => tabDel t k) x.acc, slots := tabPut x.slots r.slot { sl with st := .ready, status := 0 } }
  else { x with slots := tabPut x.slots r.slot { sl with st := .ready } }

/-- MXD_DRAIN_COMPLETE (R252): request `b` of quad `a`. DEDUCED: log entry 53. -/
def execMxdDrainComplete (s : State) : Result :=
  let q := s.ev.a
  match tabFind (s.quad q).resv s.ev.b with
  | none => .next s
  | some r =>
    let s0 := (s.unreserve q s.ev.b).rltRelease r.plot r.op
    match tabFind (s.quad q).slots r.slot with
    | none => .next s0
    | some sl =>
      if r.cut ∨ sl.team ≠ r.team then .next s0
      else
        let st := sl.status ||| r.status
        let s1 := (s0.modQuad q (fun x => x.drained r sl)).modGroup r.gid (fun g =>
          let live := match tabFind g.ops r.op with | some o => fun (k : Nat) => !o.dropped.contains (.v k) | none => fun _ => true
          let h := (r.out.filter (fun e => live e.1)).foldl (fun x e => x.writeGranule e.1 e.2.1 e.2.2) g
          h.orFp s.cycle st)
        let t := s.team r.team
        let s2 := s1.trace (plotDie r.plot) 6 0 t.ctx r.gslot r.plot t.serial (31 * 256 + st.toNat) 0
        .next ((s2.modOp r.gid r.op (fun o => { o with sres := some { val := st.setWidth 64 } })).completeOp r.gid r.op)

end Sys2Proof.Machine
end

