-- ==== Sys2Proof/Machine/Placer.lean ====
section
/-! DEFINITION. The placer: `launch` and the check of its block (R33-R36), the root doorbell (R388), placement of clusters, their twins
and handler teams (R29-R32, R40-R45, R349), fusion (R32, R268). -/

namespace Sys2Proof.Machine

/-! ## The launch block (R33, R35) -/

def lbEntry (b : Nat) : Nat := fld b 0 57
def lbGrid (b : Nat) : Nat × Nat × Nat := (fld b 64 16, fld b 80 16, fld b 96 16)
def lbShape (b : Nat) : Nat := fld b 112 3
/-- Groups of a team: LB.GROUPS + 1. -/
def lbGroups (b : Nat) : Nat := fld b 115 3 + 1
def lbRows (b : Nat) : Nat := fld b 118 3
def lbPrio (b : Nat) : Nat := fld b 121 3
def lbPaired (b : Nat) : Bool := decide (fld b 124 1 = 1)
def lbIdem (b : Nat) : Bool := decide (fld b 125 1 = 1)
def lbFuse (b : Nat) : Bool := decide (fld b 126 1 = 1)
def lbAdmin (b : Nat) : Bool := decide (fld b 127 1 = 1)
def lbShared (b : Nat) : Nat := fld b 128 8
def lbArena (b : Nat) : Nat := fld b 136 16
def lbArgs (b : Nat) : Nat := fld b 192 57
def lbPreds (b : Nat) : List Nat := (List.range 4).map (fun i => fld b (256 + 32 * i) 32)
def lbSignal (b : Nat) : Nat := fld b 384 57

/-- The first of several reasons that applies, by its number from 1; 0 for none. -/
def firstReason : Nat → List Bool → Nat
  | _, [] => 0
  | n, r :: t => if r then n else firstReason (n + 1) t

/-- check(blk) of R35, for a launch of a context that would receive `serial`. -/
def launchCode (x : Context) (c serial b : Nat) : Nat :=
  let g := lbGrid b
  firstReason 1 [
    decide (fld b 57 7 ≠ 0) || decide (fld b 152 40 ≠ 0) || decide (fld b 249 7 ≠ 0) || decide (b / 2 ^ 441 ≠ 0),
    decide (lbEntry b % 4 ≠ 0),
    decide (g.1 = 0) || decide (g.2.1 = 0) || decide (g.2.2 = 0),
    decide (6 ≤ lbShape b),
    decide (lbRows b ≤ 1) || decide (lbRows b = 7) || decide (48 < lbGroups b * lbRows b),
    decide (48 < lbShared b),
    lbFuse b && decide (lbShape b = 0),
    lbAdmin b && decide (c ≠ 0),
    (lbPreds b).any (fun p => decide (p ≠ 0) && !serialOlder p serial),
    decide (lbSignal b % 8 ≠ 0),
    decide (x.arenaSize.toNat < lbArena b)]

/-- The serial after one (R36). -/
def nextSerial (n : Nat) : Nat := if n = 2 ^ 32 - 1 then 1 else n + 1

/-- A launch is accepted into a queue (R36, R37); the placer decides 8 cycles later (R45). -/
def State.enqueueLaunch (s : State) (c q : Nat) (blk : BitVec 512) (plot : Option Nat) : State :=
  (s.modCtx c (fun x => { x with
    launches := x.launches ++ [{ serial := x.nextSerial, queue := q, blk := blk, plot := plot }], nextSerial := nextSerial x.nextSerial })).after 8
    .placeCluster {}

/-! ## launch (R34) -/

def execLaunch (d a : BitVec 6) (f : BitVec 1) (q : BitVec 4) (s : State) : Result :=
  issue (.launch d a f q) s (fun u t => .ok (t.startAlong u (.launch d a f q) (t.addrRoad u.g (u.sv a) false) 8 .launchBlockCheck))

/-- The queue that a launch names. DEDUCED: log entry 55. -/
def launchQueue (i : Instr) : Nat := match i with | .launch _ _ _ q => q.toNat | _ => 0

/-- The block of a launch has been read: it is checked and enqueued, sD is written and the flag counts down. A queue that has filled
since the issue makes it wait (R37). -/
def State.performLaunch (s : State) (gid op : Nat) (o : MemOp) : State :=
  let g := s.group gid
  let c := g.ctx
  if 256 ≤ queueFill (s.ctx c) (launchQueue o.word) then s.after 1 .launchBlockCheck { a := gid, b := op }
  else
    s.withBlock gid op o.base (fun t b =>
      let serial := (t.ctx c).nextSerial
      let code := launchCode (t.ctx c) c serial b.toNat
      let r : DWord := if code = 0 then BitVec.ofNat 64 serial else BitVec.ofNat 64 (2 ^ 63 + code)
      let t1 := if code = 0 then (t.enqueueLaunch c (launchQueue o.word) b (some g.plot)).markCommitted g.team else t
      ((t1.modOp gid op (fun y => { y with sres := some { val := r } })).opPerformed gid op).completeOp gid op)

/-- LAUNCH_BLOCK_CHECK (R34). -/
def execLaunchBlockCheck (s : State) : Result :=
  .next (s.inTurn s.ev.a s.ev.b .launchBlockCheck (fun o => s.performLaunch s.ev.a s.ev.b o))

/-! ## The root doorbell (R388) -/

/-- ROOTSTAT with a code. DEDUCED: log entry 55. -/
def rootHandled (code : Nat) : DWord := BitVec.ofNat 64 (2 ^ 63 + code)

/-- The device reads and checks the block; a fault of the read is a device record (R337). An address that no block can have answers code
1. DEDUCED: log entry 55. -/
def State.rootLaunch (s : State) (c va : Nat) : State :=
  if (s.ctx c).rootDone then s.modCtx c (fun x => { x with rootStat := rootHandled 12 })
  else if va % 64 ≠ 0 ∨ 2 ^ 57 ≤ va then s.modCtx c (fun x => { x with rootStat := rootHandled 1 })
  else if s.isMoving c va then s.after 1 .doorbell { a := c, v := BitVec.ofNat 64 va }
  else
    let x := s.translateWalk c (va % 2 ^ 57) .read
    match x.2 with
    | .ok dpa _ =>
      match x.1.blockWait dpa with
      | some n => x.1.after n .doorbell { a := c, v := BitVec.ofNat 64 va }
      | none =>
      let t := x.1.eccMiss dpa
      let b := t.readNat dpa 64
      let code := launchCode (t.ctx c) c 1 b
      let t1 := t.modCtx c (fun y => { y with rootStat := rootHandled code })
      if code ≠ 0 then t1
      else (t1.modCtx c (fun y => { y with rootDone := true, nextSerial := 1 })).enqueueLaunch c 16 (BitVec.ofNat 512 b) none
    | .miss k d l => x.1.enqueue { kind := k, ctx := c, src := 3, detail := d, lease := l, addr := va } (.root c va)
    | .perm => x.1.trapContext c { cls := clsProt, cause := 19, addr := BitVec.ofNat 64 va }

/-- DOORBELL (R388): the block of a doorbell that was written while CTXCFG.EN = 1 has been read; discarded during a reset of the context (R396). -/
def execDoorbell (s : State) : Result :=
  let x := s.ctx s.ev.a
  .next (if x.busy then s else s.rootLaunch s.ev.a s.ev.v.toNat)

/-! ## What a plot can take (R40, R41) -/

/-- What one team asks of a plot. -/
structure Need where
  ctx : Nat
  n : Nat
  rows : Nat
  /-- share in 4 KiB units -/
  shared : Nat := 0
  fused : Bool := false
  deriving DecidableEq, Repr

/-- SLOTPART lets a context use a slot (R351). DEDUCED: log entry 42. -/
def slotAllows (x : Plot) (i c : Nat) : Bool :=
  let v := fld x.slotPart.toNat (7 * i) 7
  decide (v < 64) || decide (v % 64 = c)

/-- Free slots of the active bank that a context may use. -/
def freeSlots (x : Plot) (c : Nat) : List Nat :=
  (List.range 8).filter (fun i => decide (x.slots.getD i none = none) && slotAllows x i c)

/-- Teams that a plot holds, in any bank. -/
def State.teamsOn (s : State) (p : Nat) : List (Nat × Team) := s.teams.filter (fun e => e.2.live && decide (e.2.plot = p))

/-- KiB of the shared partition that the teams of the active bank hold. -/
def State.sharesHeld (s : State) (p : Nat) : Nat :=
  (s.teamsOn p).foldl (fun n e =>
    if e.2.allGroups.any (fun g => (s.plot p).slots.contains (some g)) then n + 4 * e.2.shared else n) 0

/-- The smallest partition that covers a share (R41), in KiB. -/
def partitionFor (kib : Nat) : Nat := if kib = 0 then 0 else if kib ≤ 64 then 64 else if kib ≤ 128 then 128 else 192

/-- Plots of a rectangle, in increasing plot id (R30). -/
def rectPlots (sh o : Nat) : List Nat :=
  (List.range (shapeHeight sh)).flatMap (fun y => (List.range (shapeWidth sh)).map (fun x => o + 24 * y + x))

/-- The plot belongs to a FUSEL1 cluster of which some team has not exited (R32). -/
def State.hostsFused (s : State) (p : Nat) : Bool :=
  s.clusters.any (fun e => e.2.fused && (rectPlots e.2.shape e.2.origin).contains p && e.2.teams.any (fun t => (s.team t).live))

/-- Every condition of R40 on one plot. -/
def State.plotTakes (s : State) (w : Need) (p : Nat) : Bool :=
  let x := s.plot p
  let held := s.teamsOn p
  s.inService p && decide (x.flushTo ≤ s.cycle) && !x.withdrawn && !x.withheld && !(s.quad (plotQuad p)).withdrawn
  && decide (w.n ≤ (freeSlots x w.ctx).length) && decide (w.n * w.rows ≤ s.freeRows p)
  && (held.isEmpty || decide (4 * w.shared + s.sharesHeld p ≤ x.partition))
  && (!w.fused || held.isEmpty) && !s.hostsFused p

/-! ## Rectangles (R30) -/

/-- The rectangle of a shape may stand at an origin. -/
def rectOk (sh o : Nat) : Bool :=
  decide (sh = 0) ||
  (decide (plotX o % 2 = 0) && decide (plotY o % 2 = 0) && decide (plotX o % 12 + shapeWidth sh ≤ 12) && decide (plotY o % 8 + shapeHeight sh ≤ 8))

/-- Origins at which a cluster fits, lowest first. -/
def State.origins (s : State) (w : Need) (sh : Nat) : List Nat :=
  (List.range 384).filter (fun o => rectOk sh o && (rectPlots sh o).all (s.plotTakes w))

/-- The twin's rectangle for an origin (R43): another die first, else quads of the same die that the primary does not touch. -/
def twinOrigin (sh o : Nat) (os : List Nat) : Option Nat :=
  match os.find? (fun q => decide (plotDie q ≠ plotDie o)) with
  | some q => some q
  | none =>
    let mine := (rectPlots sh o).map plotQuad
    os.find? (fun q => (rectPlots sh q).all (fun p => !mine.contains (plotQuad p)))

/-- The origins of a cluster: one, or the primary's and the twin's. -/
def State.chooseOrigins (s : State) (w : Need) (sh : Nat) (paired : Bool) : Option (List Nat) :=
  let os := s.origins w sh
  if paired then
    os.findSome? (fun o => (twinOrigin sh o os).map (fun q => if q < o then [q, o] else [o, q]))
  else os.head?.map (fun o => [o])

/-! ## The arena heap (R387, R297) -/

/-- The lowest offset at which the heap can give `n` units; none where it cannot. -/
def arenaFit (as : List Arena) (size n : Nat) : Option Nat :=
  let ends := 0 :: as.map (fun a => a.off + a.len)
  leastBy id (ends.filter (fun o => decide (o + n ≤ size) && as.all (fun a => decide (o + n ≤ a.off) || decide (a.off + a.len ≤ o))))

/-- Gives one arena to each of `k` teams; the owners are named once the teams stand. DEDUCED: log entry 40. -/
def arenasFor (size n : Nat) : Nat → List Arena → Option (List Nat)
  | 0, _ => some []
  | k + 1, as =>
    match arenaFit as size n with
    | none => none
    | some o => (arenasFor size n k (as ++ [{ off := o, len := n }])).map (fun t => o :: t)

/-! ## Placing teams (R42, R44) -/

/-- The team serial i after the context's next one (R42). -/
def teamSerial (x : Context) (i : Nat) : Nat := (x.nextTeam - 1 + i) % (2 ^ 24 - 1) + 1

/-- Fits the shared partition of a plot that holds no team (R41) and starts a fusion (R268): the L1 is written back and dropped. -/
def State.preparePlot (s : State) (w : Need) (p : Nat) : State :=
  let s1 := if (s.teamsOn p).isEmpty && decide ((s.plot p).partition ≠ partitionFor (4 * w.shared)) then
      (s.l1Flush p).modPlot p (fun x => { x with partition := partitionFor (4 * w.shared) })
    else s
  if w.fused then s1.l1Flush p else s1

/-- A team stands on its plot (R44): its groups in the lowest free slots, every register zero, one bundle at the entry, whose header
mark is checked at the first fetch (R54). Its first issue follows after `delay` cycles. -/
def State.addTeam (s : State) (w : Need) (t : Team) (entry delay : Nat) : State :=
  let tid := s.nextId
  let free := (freeSlots (s.plot t.plot) t.ctx).take w.n
  let gids := (List.range w.n).map (fun i => tid + 1 + i)
  let mk := fun (i sl : Nat) =>
    ({ ctx := t.ctx, team := tid, plot := t.plot, slot := sl, rank := i, rows := w.rows,
       frontier := [{ addr := BitVec.ofNat 64 entry, lanes := BitVec.allOnes 64,
                      from? := some (BitVec.ofNat 64 entry, 0, BitVec.ofNat 64 entry) }],
       halted := (s.ctx t.ctx).dbgHalt,
       hold := if delay = 0 then none else some (.until (s.cycle + delay)) } : Group)
  let s1 : State := { s with
    nextId := tid + 1 + w.n
    teams := tabPut s.teams tid { t with groups := gids, allGroups := gids }
    groups := (free.zip (List.range w.n)).foldl (fun m e => tabPut m (tid + 1 + e.2) (mk e.2 e.1)) s.groups }
  (s1.modPlot t.plot (fun x => { x with
    slots := (free.zip gids).foldl (fun (l : List (Option Nat)) e => l.set e.1 (some e.2)) x.slots })).trace
      (plotDie t.plot) 1 0 t.ctx 0 t.plot t.serial t.prio t.lserial

/-- Cycles of the hand-over across dies (R45). -/
def State.handOver (s : State) (from? : Option Nat) (p : Nat) : Nat :=
  match from? with
  | some q => (match s.path q p with | some (_, c) => 64 * c | none => 0)
  | none => 0

/-- One cluster instance at an origin. `first` counts the team serials from the context's next; `arenas` are offsets in the heap.
DEDUCED: log entry 40. -/
def State.addInstance (s : State) (w : Need) (l : Launch) (index relaunches o : Nat) (arenas : List Nat) (primary : Bool) : State × Nat :=
  let cid := s.nextId
  let b := l.blk.toNat
  let g := lbGrid b
  let sh := lbShape b
  let ps := rectPlots sh o
  let x := s.ctx w.ctx
  let len := lbArena b
  let s0 := ps.foldl (fun u p => u.preparePlot w p) s.bump
  -- the write-back that opens a fusion (R268)
  let flush := if w.fused then ps.foldl (fun n p => Nat.max n (s.flushCycles p)) 0 else 0
  let r := (ps.zip (List.range ps.length)).foldl (fun (acc : State × List Nat) e =>
    let u := acc.1
    let base := if len = 0 then 0 else x.arenaHeap.toNat + arenas.getD e.2 0 * 65536
    let t : Team :=
      { ctx := w.ctx, serial := teamSerial x e.2, lserial := l.serial, cluster := cid, plot := e.1,
        tx := e.2 % shapeWidth sh, ty := e.2 / shapeWidth sh,
        clu := (index % g.1, index / g.1 % g.2.1, index / g.1 / g.2.1), args := BitVec.ofNat 64 (lbArgs b),
        arenaBase := BitVec.ofNat 64 base, arenaLim := BitVec.ofNat 64 (if len = 0 then 0 else base + len * 65536),
        shared := lbShared b, admin := lbAdmin b, idem := lbIdem b, paired := lbPaired b, primary := primary, prio := lbPrio b }
    (u.addTeam w t (lbEntry b) (24 + u.handOver l.plot e.1 + flush), acc.2 ++ [u.nextId])) (s0, [])
  let c : Cluster := { ctx := w.ctx, lserial := l.serial, index := index, origin := o, shape := sh, teams := r.2, fused := w.fused, relaunches := relaunches }
  ({ r.1 with clusters := tabPut r.1.clusters cid c }, cid)

/-- Twins know each other (R43). -/
def State.twinTeams (s : State) (a b : Nat) : State :=
  let x := s.cluster a
  let y := s.cluster b
  let s1 := (s.modCluster a (fun c => { c with twin := some b })).modCluster b (fun c => { c with twin := some a })
  (x.teams.zip y.teams).foldl (fun u e => (u.modTeam e.1 (fun t => { t with twin := some e.2 })).modTeam e.2 (fun t => { t with twin := some e.1 })) s1

/-- Places one cluster of a launch; none where it does not fit now. -/
def State.placeLaunch (s : State) (c : Nat) (l : Launch) : Option State :=
  let b := l.blk.toNat
  let w : Need := { ctx := c, n := lbGroups b, rows := lbRows b, shared := lbShared b, fused := lbFuse b }
  let sh := lbShape b
  let k := shapeWidth sh * shapeHeight sh
  let x := s.ctx c
  let place := match l.again with | a :: _ => a | [] => (l.nextCluster, 0)
  match s.chooseOrigins w sh (lbPaired b), (if lbArena b = 0 then some [] else arenasFor x.arenaSize.toNat (lbArena b) k x.arenas) with
  | some (o :: rest), some as =>
    let r := s.addInstance w l place.1 place.2 o as true
    let r2 := match rest with
      | q :: _ => let z := r.1.addInstance w l place.1 place.2 q as false; z.1.twinTeams r.2 z.2
      | [] => r.1
    let owners := (r2.cluster r.2).teams
    let s1 := r2.modCtx c (fun y => { y with
      nextTeam := teamSerial x k,
      arenas := y.arenas ++ (as.zip owners).map (fun e => { off := e.1, len := lbArena b, team := e.2 }) })
    some (s1.modLaunch c l.serial (fun m => match m.again with
      | _ :: t => { m with again := t }
      | [] => { m with nextCluster := m.nextCluster + 1 }))
  | _, _ => none

/-! ## Handler teams (R349) -/

/-- TR.DEPTH and TR.PLOT of a record (R348). -/
def trDepth (r : BitVec 512) : Nat := (r.extractLsb' 308 2).toNat
def trPlot (r : BitVec 512) : Nat := (r.extractLsb' 299 9).toNat

/-- Places the handler team of a trap record; none where it does not fit now. -/
def State.placeHandler (s : State) (c : Nat) (r : TrapRec) : Option State :=
  let x := s.ctx c
  let rows := if x.hrows = 0 ∨ x.hrows = 1 ∨ x.hrows = 7 then 2 else x.hrows.toNat
  let w : Need := { ctx := c, n := 1, rows := rows }
  match s.origins w 0 with
  | [] => none
  | p :: _ =>
    let cid := s.nextId
    let addr : DWord := BitVec.ofNat 64 (x.trapArea.toNat + 64 * r.slot)
    let s0 := s.bump.preparePlot w p
    let tid := s0.nextId
    let t : Team := { ctx := c, serial := teamSerial x 0, cluster := cid, plot := p, args := addr, prio := x.hprio.toNat,
                      depth := trDepth r.data + 1, trapRec := some (addr, r.seq) }
    let s1 := s0.addTeam w t x.handler.toNat (s0.handOver (some (trPlot r.data)) p)
    let s2 : State := { s1 with clusters := tabPut s1.clusters cid { ctx := c, origin := p, teams := [tid], handler := true } }
    some (s2.modCtx c (fun y => { (y.modTrap r.seq (fun z => { z with handler := some tid })) with nextTeam := teamSerial x 1 }))

/-! ## The placer's order (R39, R40) -/

/-- What a context would have placed next. -/
inductive Job where
  | handler (r : TrapRec)
  | cluster (l : Launch)
  deriving DecidableEq, Repr

/-- The highest effective priority first, then a handler team, then the oldest serial. -/
def Context.nextJob (x : Context) : Option Job :=
  let h := x.traps.find? (fun r => r.written && r.ready && r.handler.isNone)
  let l := leastBy (fun (l : Launch) => 7 - x.effPrio 8 l)
    (x.launches.filter (fun l => x.ready l && !l.cancelled && (l.unplaced || !l.again.isEmpty)))
  if x.busy then none
  else
    match h, l with
    | some r, some m => if x.effPrio 8 m ≤ x.hprio.toNat then some (.handler r) else some (.cluster m)
    | some r, none => some (.handler r)
    | none, some m => some (.cluster m)
    | none, none => none

/-- A context's turn: its next job is placed, or it loses the turn. -/
def State.placeTurn (s : State) (c : Nat) : Option State :=
  match (s.ctx c).nextJob with
  | some (.handler r) => s.placeHandler c r
  | some (.cluster l) => s.placeLaunch c l
  | none => none

/-- Contexts in the order of a round: from the one after the one served last. -/
def State.roundOrder (s : State) : List Nat :=
  let first := match s.placerLast with | some c => c + 1 | none => 0
  (List.range 64).map (fun i => (first + i) % 64)

/-- PLACE_CLUSTER (R40): the first context of the round whose job can be placed is served. `flag`: the placer tries the write of a completion word
again (R64). -/
def execPlaceCluster (s0 : State) : Result :=
  if s0.ev.flag then .next (s0.signalLaunch s0.ev.a s0.ev.b)
  else
  let s := s0.returnArenas
  .next (match s.roundOrder.findSome? (fun c => (s.placeTurn c).map (fun t => (c, t))) with
    | some (c, t) => ({ t with placerLast := some c } : State).afterOnce 0 .placeCluster {}
    | none => s)

/-- The handler of a written record may start (R349). -/
def State.trapReady (s : State) (c seq : Nat) : State := s.modCtx c (fun x => x.modTrap seq (fun t => { t with ready := true }))

/-- HANDLER_TEAM_PLACE (R349): 72 cycles after the write of record `b`, the context's handler team is placed when it is the next
job; otherwise it waits for the placer's rounds. `flag`: the record is still to be written (R347). -/
def execHandlerTeamPlace (s0 : State) : Result :=
  let c := s0.ev.a
  if s0.ev.flag then .next (s0.trapWrite c s0.ev.b)
  else
    let s := s0.trapReady c s0.ev.b
    .next (match (s.ctx c).nextJob with
      | some (.handler r) => (match s.placeHandler c r with | some t => { t with placerLast := some c } | none => s)
      | some (.cluster _) => s.afterOnce 0 .placeCluster {}
      | none => s)

end Sys2Proof.Machine
end

