-- ==== Sys2Proof/Machine/Commit.lean ====
section
/-! DEFINITION. Commits (R286-R291): commit points, draining, what each commit is for; the paired teams' matching (R291, R368-R370). -/

namespace Sys2Proof.Machine

/-! ## Draining one entry (R287, R289, R290) -/

/-- The 32-byte sectors that an entry writes. DESIGN CHOICE: log entry 16. -/
def entrySectors (e : CBEntry) : List Nat := (e.bytes.map (fun b => b.1 / 32)).eraseDups

/-- Writes an entry of the buffer into memory through the L1: bytes, reference tags on an OBJ page, where any other store clears those of an OBJ block
(R108), the descriptor of a formatted store. -/
def State.writeEntry (s : State) (t : Team) (e : CBEntry) (dpa pte : Nat) : State :=
  let full := (List.range 64).all (fun i => (tabFind e.bytes i).isSome)
  let s1 := if e.na && (s.l1State (s.l1Home t.plot dpa) dpa).isNone && cacheable dpa pte then
      s.homeWrite dpa pte t.ctx
    else (entrySectors e).foldl (fun u i => u.touchWrite t.plot (dpa + 32 * i) pte t.ctx) s
  let s2 := e.bytes.foldl (fun u b => u.writeByte (dpa + b.1) b.2) s1
  let s3 := if pteFmt pte = 2 then
      ((e.bytes.map (fun b => b.1 / 8)).eraseDups).foldl (fun u w => u.tagWords (dpa + 8 * w) 1 (e.tags.getLsbD w)) s2
    else e.bytes.foldl (fun u b => u.clearTags (dpa + b.1) 1) s2
  let s4 := match e.desc with | some d => s3.writeDesc dpa d | none => s3
  if full then s4.clearPoison dpa else s4

/-- Removes an entry of a commit. -/
def State.dropEntry (s : State) (tid blk id : Nat) : State :=
  s.modTeam tid (fun t => { t with cb := t.cb.filter (fun e => !(decide (e.blk = blk) && decide (e.commit = some id))) })

/-- The drain of an entry has begun. -/
def State.markSent (s : State) (tid blk id : Nat) : State :=
  s.modTeam tid (fun t => { t with cb := t.cb.map (fun e => if e.blk = blk ∧ e.commit = some id then { e with sent := true } else e) })

/-- The PGC resolves a fault of an entry's drain, or has resolved it. -/
def State.markFaulted (s : State) (tid blk id : Nat) (f : Bool) : State :=
  s.modTeam tid (fun t => { t with cb := t.cb.map (fun e => if e.blk = blk ∧ e.commit = some id then { e with faulted := f } else e) })

/-! ## The end of a commit -/

/-- The team exits: its slots, rows and share are freed, and its instance may end (R63, R64). A handler's team delivery is resolved
with it. DEDUCED: log entry 38. -/
def State.teamExit (s : State) (tid : Nat) : State :=
  let t := s.team tid
  let s1 := match t.trapRec with
    | some (_, seq) =>
      if (s.ctx t.ctx).traps.any (fun (r : TrapRec) => decide (r.seq = seq) && r.gid.isNone) then s.trapResolved t.ctx seq else s
    | none => s
  (s1.freeTeam tid 0).instanceCheck t.cluster

/-- A commit is complete: its release takes effect (R289), and what it was for goes on. -/
def State.commitFinish (s : State) (tid : Nat) (k : CommitKind) : State :=
  match k with
  | .fence gid _ => s.modGroup gid (fun g => match g.hold with
      | some (.fence kind scope _ _) => { g with hold := some (.fence kind scope true (some s.cycle)) }
      | _ => g)
  | .barrier gid b clu wait => if (s.group gid).loc = .gone then s else s.countArrival gid clu wait b
  | .pub gid op => s.pubSend gid op
  | .exit => s.teamExit tid
  | .highWater => s
  | .spill => s.afterOnce 0 .spillEngine { a := (s.team tid).plot }

/-- The oldest commit of a team ends once it has no entry left; the next one starts its drain. -/
def State.commitCheck (s : State) (tid : Nat) : State :=
  let t := s.team tid
  match t.commits with
  | [] => s
  | c :: rest =>
    if c.unpaired ∨ t.cb.any (fun e => decide (e.commit = some c.id)) then s
    else ((s.modTeam tid (fun x => { x with commits := rest })).startDrain tid).commitFinish tid c.kind

/-- Drains the entry of a block that the oldest commit holds. -/
def State.drainEntry (s : State) (tid blk : Nat) : State :=
  let t := s.team tid
  match t.commits with
  | [] => s
  | c :: _ =>
    if c.unpaired then s
    else
      match t.cb.find? (fun e => decide (e.blk = blk) && decide (e.commit = some c.id) && !e.faulted) with
      | none => s
      | some e =>
        let va := blk * 64
        if s.isMoving t.ctx va then s.after 1 .commitEntryDrain { a := tid, b := blk }
        else
          let x := s.translate t.plot t.ctx va (if e.desc.isSome then .fmtWrite else .write)
          match x.2 with
          | .ok dpa pte =>
            let x := (x.1.eccMiss dpa, x.2)
            -- a place that no cache takes is written at its controller, which fills a DEAD frame first (R275)
            let y := if cacheable dpa pte then (x.1, (x.1.blockWait dpa).getD 0) else x.1.uncached dpa
            if !e.sent then
              -- the write takes its path, its translation, its invalidations and its recalls (R265, R311); without a path it is dropped (R16)
              let road : Road := do pure ((← s.xlatRoad t.plot t.ctx va true) + (← x.1.placeRoad t.plot dpa pte true))
              (x.1.markSent tid blk c.id).along road 0 .commitEntryDrain { a := tid, b := blk }
            else if 0 < y.2 then y.1.after y.2 .commitEntryDrain { a := tid, b := blk }
            else if x.1.poisoned dpa && !(List.range 64).all (fun i => (tabFind e.bytes i).isSome) then x.1.consumePoison tid
            else ((x.1.writeEntry t e dpa pte).dropEntry tid blk c.id).markCommitted tid
          | .perm => x.1.endInstance tid
          | .miss k d l =>
            (x.1.markFaulted tid blk c.id true).report { kind := k, ctx := t.ctx, src := 2, acc := 1, plot := t.plot, team := t.serial,
                                                          detail := d, lease := l, addr := va } (.drain tid blk)

/-- COMMIT_ENTRY_DRAIN (R289): one entry is written, or an empty commit ends. -/
def execCommitEntryDrain (s : State) : Result :=
  let tid := s.ev.a
  if !(s.team tid).live then .next s
  else
    let s1 := if s.ev.flag then s else s.drainEntry tid s.ev.b
    .next (if (s1.team tid).live then s1.commitCheck tid else s1)

/-! ## Commit points (R288) -/

/-- A commit has begun for the fence or the arrival that holds a group, or for a pub of it. -/
def commitFor (t : Team) (gid : Nat) (op : Option Nat) : Bool :=
  t.commits.any (fun c => match c.kind, op with
    | .fence g _, none => decide (g = gid)
    | .barrier g _ _ wait, none => decide (g = gid) && wait
    | .pub g o, some p => decide (g = gid) && decide (o = p)
    | _, _ => false)

/-- The group of the twin with the same rank. -/
def State.twinGroup (s : State) (tid gid : Nat) : Option Nat :=
  match (s.team tid).twin with
  | some w => (s.team w).groups.find? (fun g => decide ((s.group g).rank = (s.group gid).rank))
  | none => none

/-- The commit of an arrival begins (R174). -/
def State.arrivalCommit (s : State) (tid gid : Nat) (a : Arrival) : State :=
  (s.modGroup gid (fun g => { g with arrivals := g.arrivals.map (fun x => if x = a then { x with st := 2 } else x) })).beginCommit tid
    (.barrier gid a.b a.clu false)

/-- Begins the commits of one group whose points have come. A pub of a paired team begins one for each twin, once the twin's group
has performed its earlier memory instructions too (R291, R370). DEDUCED: log entry 39. -/
def State.groupPoints (s : State) (tid gid : Nat) : State :=
  let g := s.group gid
  let t := s.team tid
  let s1 := match g.hold with
    | some (.fence _ scope true none) => if commitFor t gid none then s else s.beginCommit tid (.fence gid scope)
    | some (.barDrain b clu true) => if commitFor t gid none then s else s.beginCommit tid (.barrier gid b clu true)
    | _ => s
  let s2 := g.arrivals.foldl (fun (u : State) a => if a.st = 1 then u.arrivalCommit tid gid a else u) s1
  g.ops.foldl (fun (u : State) e =>
    match e.2 with
    | { word := .pub .., left := 3, .. } =>
      if !t.paired then (u.modOp gid e.1 (fun o => { o with left := 4 })).beginCommit tid (.pub gid e.1)
      else
        match t.twin, u.twinGroup tid gid with
        | some w, some h =>
          if (u.group h).opsPerformed none then
            ((u.modOp gid e.1 (fun o => { o with left := 4 })).beginCommit tid (.pub gid e.1)).beginCommit w (.pub h e.1)
          else u.after 8 .commitPoint { a := tid }
        | _, _ => u
    | _ => u) s2

/-- COMMIT_POINT (R288). DEDUCED: log entry 39. -/
def execCommitPoint (s : State) : Result :=
  let tid := s.ev.a
  .next ((s.team tid).allGroups.foldl (fun t g => t.groupPoints tid g) s)

/-! ## Paired teams (R291, R368-R370) -/

/-- Kind of a commit point, as the pair compares it (R291). -/
def commitCode (k : CommitKind) : Nat :=
  match k with
  | .fence .. => 0 | .barrier .. => 1 | .pub .. => 2 | .exit => 3 | .highWater => 4 | .spill => 5

/-- A mismatch: both buffers are dropped, both twins end, PAIR_MISMATCH is delivered, and the relaunch rule applies (R370, R367). -/
def State.pairMismatch (s : State) (tid : Nat) : State :=
  let t := s.team tid
  let drop := fun (u : State) (i : Nat) => u.modTeam i (fun x => { x with cb := [], commits := [] })
  let s1 := drop (match t.twin with | some w => drop s w | none => s) tid
  let twin := match t.twin with | some w => (s.team w).serial | none => 0
  (s1.deliver t.ctx none tid { cls := 20, cause := 0, info := BitVec.ofNat 64 twin } 15 0 0).endInstance tid

/-- The first commit of a team that waits for its twin. -/
def firstUnpaired (t : Team) : Option Commit := t.commits.find? (fun c => c.unpaired)

/-- Both twins have reached a commit point: on a match the primary's entries drain and the twin's are discarded (R291). DEDUCED: log entry 39. -/
def State.pairCommit (s : State) (p q : Nat) : State :=
  match firstUnpaired (s.team p), firstUnpaired (s.team q) with
  | some c, some d =>
    if commitCode c.kind ≠ commitCode d.kind ∨ c.sig ≠ d.sig then s.pairMismatch p
    else
      let s1 := s.modTeam p (fun t => { t with commits := t.commits.map (fun x => if x.id = c.id then { x with unpaired := false } else x) })
      let s2 := if ((s1.team p).commits.head?.map (fun (x : Commit) => x.id)) = some c.id then s1.startDrain p else s1
      let s3 := s2.modTeam q (fun t => { t with
        commits := t.commits.filter (fun x => decide (x.id ≠ d.id)),
        cb := t.cb.filter (fun e => decide (e.commit ≠ some d.id)) })
      let s4 := match d.kind with | .pub .. => s3 | k => s3.commitFinish q k
      -- a pub of the primary has held its group until now
      let s5 := match c.kind with
        | .pub gid op => (match (s4.group gid).hold with | some (.pubWalk n) => if n = op then s4.unhold gid else s4 | _ => s4)
        | _ => s4
      s5.afterOnce 0 .pairCommitCompare { a := p }
  | _, _ => s

/-- PAIR_COMMIT_COMPARE (R291). -/
def execPairCommitCompare (s : State) : Result :=
  let tid := s.ev.a
  let t := s.team tid
  match t.twin with
  | some w => .next (if t.primary then s.pairCommit tid w else s.pairCommit w tid)
  | none => .next s

/-- PAIR_FORWARD (R368): result `b` of group `a` arrives at the twin. -/
def execPairForward (s : State) : Result :=
  let g := s.group s.ev.a
  let t := s.team g.team
  match t.twin, t.forwarded.find? (fun e => decide (e.rank = g.rank) && decide (e.no = s.ev.b)) with
  | some w, some e =>
    .next ((s.modTeam g.team (fun x => { x with forwarded := x.forwarded.erase e })).modTeam w (fun x => { x with forwarded := x.forwarded ++ [e] }))
  | _, _ => .next s

/-- The matched word at which a group stands (R370), with what the pair compares: the word, its operand values, its blocks. -/
def State.matchedWord (s : State) (gid : Nat) : Option (Instr × List DWord × List Byte) :=
  let g := s.group gid
  match g.clause with
  | none => none
  | some c =>
    match decode (c.words.drop c.idx) with
    | .error _ => none
    | .ok i =>
      if !isMatched i ∨ g.hold.isSome then none
      else
        let u : Issuer := { gid := gid, g := g, c := c }
        let vals := ((u.capture i).src).map (fun (r : SReg) => r.val)
        let first := (u.capture i).base.val
        let blk := fun (k : Nat) =>
          let a := first + BitVec.ofNat 64 (64 * k)
          match spaceOf a with
          | .virt va => (match (s.translateWalk g.ctx va .read).2 with
            | .ok dpa pte => s.loadElem gid a (.mem dpa pte) 64
            | _ => [])
          | .shared off => s.loadElem gid a (.sh off) 64
          | .outside => []
        let n := match i with
          | .cpy .. | .cpyCe .. | .launch .. => 1
          | .cpyq .. => Nat.min 64 ((u.capture i).src.getD 1 {}).val.toNat
          | _ => 0
        some (i, vals, (List.range n).flatMap blk)

/-- PAIRED_WORD_MATCH (R370): every pair of groups that both stand at the same matched word. -/
def execPairedWordMatch (s : State) : Result :=
  let p := s.ev.a
  .next ((s.team p).groups.foldl (fun (t : State) gid =>
    let twin := (t.twinGroup p gid).filter (fun h => decide ((t.group h).fwdNo = (t.group gid).fwdNo))
    if (t.group gid).pairOk then t
    else
      match t.matchedWord gid, twin.bind t.matchedWord with
      | some x, some y => if x = y then t.modGroup gid (fun g => { g with pairOk := true }) else t.pairMismatch p
      | _, _ => t) s)

end Sys2Proof.Machine
end

