-- ==== Sys2Proof/Machine/Sieve.lean ====
section
/-! DEFINITION. The plot's Sieve (R148, R255, R256). -/

namespace Sys2Proof.Machine

/-! ## Order of pairs (R148, R256) -/

/-- Key a is strictly better than key b. -/
def keyBetter (int max : Bool) (a b : Word) : Bool :=
  let lt := fun (x y : Word) => if int then decide (x.toInt < y.toInt) else ltV (unpack f32 x.toNat) (unpack f32 y.toNat)
  if max then lt b a else lt a b

/-- Pair x stands before pair y: better key, then smaller index; equal ones by the bits of their keys (DESIGN CHOICE: log entry 12). -/
def pairBefore (int max : Bool) (x y : Word × Word) : Bool :=
  if keyBetter int max x.1 y.1 then true
  else if keyBetter int max y.1 x.1 then false
  else if x.2 = y.2 then decide (x.1.toNat ≤ y.1.toNat) else decide (x.2.toNat < y.2.toNat)

/-- Inserts a pair, best first. -/
def pairInsert (int max : Bool) (x : Word × Word) : List (Word × Word) → List (Word × Word)
  | [] => [x]
  | y :: t => if pairBefore int max x y then x :: y :: t else y :: pairInsert int max x t

/-- One pair is offered (R148): a NaN key is refused and counted; the k best are kept. -/
def Sieve.offer (v : Sieve) (x : Word × Word) : Sieve :=
  if !v.int && (unpack f32 x.1.toNat).isNan then { v with refused := if v.refused < 2 ^ 32 - 1 then v.refused + 1 else v.refused }
  else { v with pairs := (pairInsert v.int v.max x v.pairs).take v.k }

/-- The pairs of a Sieve whose cycle has come enter it. -/
def Sieve.enter (v : Sieve) (c : Nat) : Sieve :=
  let due := v.queue.filter (fun q => decide (q.2.2 ≤ c))
  let w := due.foldl (fun (w : Sieve) q => if w.team.isSome then w.offer (q.1, q.2.1) else w) v
  { w with queue := v.queue.filter (fun q => !decide (q.2.2 ≤ c)) }

/-- SIEVE_PAIR_ENTRY (R148): the pairs whose cycle has come enter, in a Sieve that its team's swap has carried away too (R127, R355). -/
def execSievePairEntry (s : State) : Result :=
  .next (s.modPlot s.ev.a (fun x => { x with sieve := x.sieve.enter s.cycle, savedSieves := x.savedSieves.map (fun v => v.enter s.cycle) }))

/-! ## svinit (R255) -/

def execSvinit (d a : BitVec 6) (i m : BitVec 1) (s : State) : Result :=
  issue (.svinit d a i m) s (fun u t =>
    let v := (t.plot u.g.plot).sieve
    if v.team = none ∨ v.team = some u.g.team then
      .ok ((t.modPlot u.g.plot (fun x => { x with sieve :=
        { team := some u.g.team, k := (u.sv a).toNat % 256, max := decide (m = 1), int := decide (i = 1) } })).setSV u d 0)
    else .ok (t.setSV u d 1))

def execSvinitFree (d : BitVec 6) (s : State) : Result :=
  issue (.svinitFree d) s (fun u t =>
    if (t.plot u.g.plot).sieve.team = some u.g.team then .ok ((t.modPlot u.g.plot (fun x => { x with sieve := {} })).setSV u d 0)
    else .ok (t.setSV u d 1))

/-! ## svget (R256) -/

/-- The `.clr` form. -/
def svgetClears (i : Instr) : Bool := match i with | .svget _ _ c _ => decide (c = 1) | _ => false

/-- Takes the snapshot (the operation's `lane` becomes 1): the retained pairs stay with the operation, and the stores follow after 8 + ⌈n/8⌉ cycles and their path.
DEDUCED: log entry 24. -/
def State.sieveSnapshot (s : State) (gid op : Nat) (o : MemOp) : State :=
  let g := s.group gid
  let v := (s.plot g.plot).sieveOf g.team
  let n := v.pairs.length
  let s1 := if svgetClears o.word then s.modPlot g.plot (fun x => x.modSieve g.team (fun y => { y with pairs := [], refused := 0 })) else s
  let path := match spaceOf o.base.val with | .shared _ => 24 | _ => 32
  (s1.modOp gid op (fun y => { y with
    lane := 1
    data := [v.pairs.map (fun p => p.1), v.pairs.map (fun p => p.2)]
    sres := some { val := BitVec.ofNat 64 (v.refused * 2 ^ 32 + n) } })).after (8 + ceilDiv n 8 + path) .memoryAccessPerform { a := gid, b := op }

/-- The elements that svget stores. -/
def svgetElems (o : MemOp) : List Elem :=
  (List.range (o.data.getD 0 []).length).map (fun m => { k := m, lane := 0, addr := o.base.val + BitVec.ofNat 64 (8 * m), n := 8 })

/-- The stores of the snapshot, as stores of the group; a pair that lies beyond the team's share, or on an OBJ page, fails.
DEDUCED: log entry 24. -/
def State.performSvget (s : State) (gid op : Nat) (o : MemOp) : State :=
  let g := s.group gid
  let es := svgetElems o
  if o.st = .blockRead then s.placeBlocks gid op o (es.map (fun e => (e, .sh 0)))
  else if s.opMoving gid o ∨ (o.st = .issued ∧ s.behindEarlier gid op o) then o.lookAgain s 1 gid op
  else
    let beyond := es.find? (fun e => match spaceOf e.addr with
      | .shared off => decide ((s.team g.team).shareBytes < off + 8) | _ => false)
    let r := s.checkElems gid none .write none false es
    let f := worseOf (beyond.map (fun e => { cls := clsBounds, cause := 17, addr := e.addr })) (r.2.1.map (fun y => { y with at? := none }))
    match f with
    | some x => r.1.opFailed gid op x
    | none => r.1.performStore gid op { o with src := [{ val := o.base.val }] } r.2.2

/-- DEDUCED: log entry 24. -/
def execSvget (d a : BitVec 6) (c f : BitVec 1) (s : State) : Result :=
  issue (.svget d a c f) s (fun u t =>
    let last := (t.plot u.g.plot).sieve.queue.foldl (fun n q => Nat.max n q.2.2) t.cycle
    .ok (t.startOp u (.svget d a c f) (last - t.cycle) .svgetSnapshot))

/-- SVGET_SNAPSHOT (R256). -/
def execSvgetSnapshot (s : State) : Result :=
  match tabFind (s.group s.ev.a).ops s.ev.b with
  | some o => .next (s.sieveSnapshot s.ev.a s.ev.b o)
  | none => .next s

end Sys2Proof.Machine
end

