-- ==== Sys2Proof/Machine/Perform.lean ====
section
/-! DEFINITION. Performing a variable-latency operation by its word, at its own time and again from the operand log (R193, R344, R345). -/

namespace Sys2Proof.Machine

/-- Performs an operation: what its word does once its latency has passed. -/
def State.performOp (s : State) (gid op : Nat) (o : MemOp) : State :=
  match o.word with
  | .oinit .. | .ofree .. | .oreset .. => s.performObject gid op o
  | .ostat .. => s.performOstat gid op o
  | .pub .. => s.performPub gid op o
  | .svget .. => if o.lane = 1 then s.performSvget gid op o else s.sieveSnapshot gid op o
  | .cpy .. | .cpyCe .. | .cpyq .. => s.performCopy gid op o
  | .pfh .. => s.performPfh gid op o
  | .launch .. => s.performLaunch gid op o
  | .mwait .. => s.performMwait gid op o
  | .mxd .. => s.performDrainBlock gid op o
  | .mxp .. => s.performMxp gid op o
  | _ => s.performAccess gid op o

/-- MEMORY_ACCESS_PERFORM (R193, R200). -/
def execMemoryAccessPerform (s : State) : Result :=
  .next (s.inTurn s.ev.a s.ev.b .memoryAccessPerform (fun o => s.performOp s.ev.a s.ev.b o))

/-- OPERAND_LOG_REPLAY (R345): the oldest entry of a group, when it is in REPLAY, is performed again. -/
def execOperandLogReplay (s : State) : Result :=
  let g := s.group s.ev.a
  match leastBy (fun (e : Nat × LogEntry) => e.2.order) g.log with
  | some e =>
    if e.2.st = .replay ∧ g.loc = .active then
      match tabFind g.ops e.2.op with
      | some o => .next (if s.opMoving s.ev.a o then (s.markMoving s.ev.a e.2.op true).after 1 .operandLogReplay { a := s.ev.a, b := e.2.op }
          else if s.shareAway s.ev.a o then s.after 1 .operandLogReplay { a := s.ev.a, b := e.2.op }
          else s.performOp s.ev.a e.2.op o)
      | none => .next s
    else .next s
  | none => .next s

end Sys2Proof.Machine
end

