-- ==== Sys2Proof/Machine/Lease.lean ====
section
/-! DEFINITION. Pool leases (R320-R326), the Rhaod lease protocol (R327-R330) and the `lease` forms (R186). -/

namespace Sys2Proof.Machine

/-! ## A form that holds its unit until it completes (R185) -/

/-- A privileged form completes: its status goes to its destination and the hold ends. -/
def State.privDone (s : State) (gid : Nat) (v : DWord) : State :=
  s.modGroup gid (fun g => match g.hold with
    | some (.priv i _) => { (match uniDest i with | some d => g.writeSV d v | none => g) with hold := none }
    | _ => g)

/-- A form that completes after n cycles, with a status that it writes then (R185). -/
def privStatus (i : Instr) (s : State) (n v : Nat) : Eff :=
  .hold s (match uniDest i with
    | some d => .status (BitVec.ofNat 6 d) (BitVec.ofNat 64 v) (s.cycle + n)
    | none => .until (s.cycle + n))

/-- A form whose accesses take a path, with `n` cycles of its own: what it does, and its status. Without a path its messages are dropped, it has no
effect, and no answer ends it (R16). -/
def privAlong (i : Instr) (s : State) (r : Road) (n : Nat) (f : State → State × Nat) : Eff :=
  match r with
  | .ok c => let x := f s; privStatus i x.1 (n + c) x.2
  | .error p => .hold (s.dropAt p) (.priv i 0)

/-! ## The lease record (R320) -/

def lrId (r : BitVec 256) : DWord := r.extractLsb' 0 64
def lrNode (r : BitVec 256) : Nat := (r.extractLsb' 64 12).toNat
def lrPeer (r : BitVec 256) : Bool := r.getLsbD 90
def lrLength (r : BitVec 256) : Nat := (r.extractLsb' 104 8).toNat
def lrBase (r : BitVec 256) : Nat := (r.extractLsb' 128 64).toNat
/-- The record with another state. -/
def lrSetState (r : BitVec 256) (n : Nat) : BitVec 256 := r &&& ~~~ (BitVec.ofNat 256 (15 * 2 ^ 96)) ||| BitVec.ofNat 256 (n % 16 * 2 ^ 96)
/-- The record with another expiry. -/
def lrSetExpiry (r : BitVec 256) (t : Nat) : BitVec 256 := (r.setWidth 192).setWidth 256 ||| BitVec.ofNat 256 (t % 2 ^ 64 * 2 ^ 192)

/-- A lease changes state (R323), with its trace record (R399). -/
def State.leaseTo (s : State) (i st : Nat) : State :=
  (s.modLease i (fun l => { l with data := lrSetState l.data st })).trace 4 5 0 0 0 0 0 (st * 2 ^ 12 + i) (lrExpiry (s.lease i).data)

/-- The record of a lease in the fault queue (R323, R325). DEDUCED: log entry 58. -/
def State.leaseRecord (s : State) (kind i addr : Nat) : State := s.enqueue { kind := kind, src := 3, lease := i, addr := addr } .info

/-- A lease becomes EXPIRED. -/
def State.leaseExpires (s : State) (i : Nat) : State := (s.leaseTo i 3).leaseRecord 6 i 0

/-- RENEW_DUE (R325). -/
def execRenewDue (s : State) : Result :=
  let i := s.ev.a
  .next (if s.renewIsDue (s.lease i) then (s.modLease i (fun l => { l with dueSent := true })).leaseRecord 5 i 0 else s)

/-- LEASE_EXPIRY (R325). -/
def execLeaseExpiry (s : State) : Result :=
  let i := s.ev.a
  let r := (s.lease i).data
  .next (if (leaseState r = 1 ∨ leaseState r = 2) ∧ !lrNever r ∧ lrExpiry r ≤ s.tick then s.leaseExpires i else s)

/-- REVOKE_DEADLINE (R325): the deadline has passed before the return completes. DEDUCED: log entry 56. -/
def execRevokeDeadline (s : State) : Result :=
  let i := s.ev.a
  let l := s.lease i
  .next (match l.deadline with
    | some d =>
      if d < s.tick ∧ leaseState l.data ≠ 0 then
        let s1 := s.modLease i (fun x => { x with deadline := none })
        if leaseState l.data = 3 ∨ leaseState l.data = 5 then s1 else s1.leaseExpires i
      else s
    | none => s)

/-! ## Frames of a lease (R324) -/

/-- Frames that cache units of a lease's window. -/
def State.leaseFrames (s : State) (i : Nat) : List Nat :=
  let r := (s.lease i).data
  (s.frames.filter (fun e => match e.2.tag with
    | some u => decide (lrBase r ≤ u * 65536) && decide (u * 65536 < lrBase r + lrLength r * 2 ^ 30)
    | none => false)).map (fun e => e.1)

/-- The entry is FREE again: its clean frames are dropped (R324). -/
def State.freeLease (s : State) (i : Nat) : State :=
  let s1 := (s.leaseFrames i).foldl (fun t f =>
    (match (t.frame f).tag with | some u => t.dropUnit u | none => t).freeFrame f) s
  ((s1.leaseTo i 0)).modLease i (fun _ => {})

/-! ## Rhaod messages (R327, R328) -/

def rhType (m : BitVec 256) : Nat := (m.extractLsb' 0 8).toNat
def rhVer (m : BitVec 256) : Nat := (m.extractLsb' 8 8).toNat
def rhTag (m : BitVec 256) : Nat := (m.extractLsb' 16 16).toNat
def rhNode (m : BitVec 256) : Nat := (m.extractLsb' 32 12).toNat
def rhLease (m : BitVec 256) : DWord := m.extractLsb' 64 64
def rhSpan (m : BitVec 256) : Nat := (m.extractLsb' 128 64).toNat

/-- RH.CRC of the bits below it. -/
def rhCrc (m : BitVec 256) : BitVec 32 := crc32c 0 (natBytes 28 (m.toNat % 2 ^ 224))

/-- A message of the device. -/
def State.rhPack (s : State) (ty tag node : Nat) (lease : DWord) (span : Nat) : BitVec 256 :=
  let m := BitVec.ofNat 256 (ty + 2 ^ 8 + tag * 2 ^ 16 + node * 2 ^ 32 + lease.toNat * 2 ^ 64 + span * 2 ^ 128 + s.regs.domId.toNat * 2 ^ 213)
  m ||| BitVec.ofNat 256 ((rhCrc m).toNat * 2 ^ 224)

/-- Port of the serving PGC for a node (R383). -/
def State.pgcPort (s : State) (node : Nat) : Nat := 4 * s.pgc.serving + node % 4

/-- Sends a message to a node by the PGC's port (R327). -/
def State.rhSend (s : State) (node : Nat) (m : BitVec 256) : State := s.emit (.rhaod (s.pgcPort node) node m)

/-- A message of a manager is well-formed (R330). -/
def rhGood (m : BitVec 256) : Bool :=
  decide (rhCrc m = m.extractLsb' 224 32) && decide (rhVer m = 1) && [2, 3, 5, 6, 8].contains (rhType m)
  && decide (m.extractLsb' 44 20 = 0) && decide (m.extractLsb' 192 21 = 0)

/-- RHBAD counts, saturating (R335). -/
def State.rhBadCount (s : State) : State :=
  s.modPgc (fun p => { p with rhBad := if p.rhBad = BitVec.allOnes 64 then p.rhBad else p.rhBad + 1 })

/-- The lease whose outstanding request an answer matches (R329). -/
def State.rhMatch (s : State) (m : BitVec 256) : Option (Nat × LeaseReq) :=
  s.leases.findSome? (fun e => match e.2.req with
    | some q => if q.tag = rhTag m ∧ lrId e.2.data = rhLease m then some (e.1, q) else none
    | none => none)

/-- A request ends: nothing is outstanding, and the unit that waits gets its status. -/
def State.leaseAnswered (s : State) (i : Nat) (q : LeaseReq) (status : Nat) : State :=
  let s1 := (s.modLease i (fun l => { l with req := none })).unschedule .answerLimit { a := i, b := q.tag }
  match q.waiter with
  | some gid => s1.privDone gid (BitVec.ofNat 64 status)
  | none => s1

/-- A renew ends without a grant: VALID before the expiry, EXPIRED after it (R325). -/
def State.renewEnds (s : State) (i : Nat) : State :=
  let r := (s.lease i).data
  if leaseState r ≠ 2 then s else if s.tick < lrExpiry r ∨ lrNever r then s.leaseTo i 1 else s.leaseExpires i

/-- GRANT (R329): it answers an outstanding RENEW. DEDUCED: log entry 57. -/
def execGrant (s : State) : Result :=
  let m := s.ev.f
  .next (match (if rhGood m && decide (rhType m = 2) then s.rhMatch m else none) with
    | some (i, q) =>
      if q.ret then s.rhBadCount
      else
        ((s.modLease i (fun l => { l with data := lrSetExpiry l.data (q.sent + rhSpan m), dueSent := false })).leaseTo i 1).leaseAnswered i q 0
    | none => s.rhBadCount)

/-- REFUSE (R329): it answers a RENEW or a RETURN. DEDUCED: log entry 79. -/
def execRefuse (s : State) : Result :=
  let m := s.ev.f
  .next (match (if rhGood m && decide (rhType m = 3) then s.rhMatch m else none) with
    | some (i, q) => (if q.ret then s.leaseTo i q.before else s.renewEnds i).leaseAnswered i q 2
    | none => s.rhBadCount)

/-- RETURNED (R329): it answers a RETURN. DEDUCED: log entry 57. -/
def execReturned (s : State) : Result :=
  let m := s.ev.f
  .next (match (if rhGood m && decide (rhType m = 5) then s.rhMatch m else none) with
    | some (i, q) => if q.ret then (s.leaseAnswered i q 0).freeLease i else s.rhBadCount
    | none => s.rhBadCount)

/-- REVOKE (R330). DEDUCED: log entry 56. -/
def execRevoke (s : State) : Result :=
  let m := s.ev.f
  .next (if rhGood m && decide (rhType m = 6) then
      let held := s.leases.find? (fun e => decide (leaseState e.2.data ≠ 0) && decide (lrId e.2.data = rhLease m))
      -- the acknowledgement names the manager that sent the REVOKE, and goes to the node that LR.NODE of the lease names (R327); for a lease that is not
      -- held, to the sender's
      let node := match held with | some (_, l) => lrNode l.data | none => rhNode m
      let ack := s.rhSend node (s.rhPack 7 (rhTag m) (rhNode m) (rhLease m) 0)
      match held with
      | some (i, l) =>
        if leaseState l.data = 1 ∨ leaseState l.data = 2 then
          let d := s.tick + rhSpan m
          (((ack.leaseTo i 4).modLease i (fun x => { x with deadline := some d })).leaseRecord 7 i d).atTick (d + 1) .revokeDeadline { a := i }
        else ack.rhBadCount
      | none => ack.rhBadCount
    else s.rhBadCount)

/-- NODE_FAIL (R326, R330). DEDUCED: log entry 57. -/
def execNodeFail (s : State) : Result :=
  let m := s.ev.f
  .next (if rhGood m && decide (rhType m = 8) then
      let hit := (s.leases.filter (fun e => decide (lrNode e.2.data = rhNode m) && decide (leaseState e.2.data ≠ 0) && decide (leaseState e.2.data ≠ 5))).map
        (fun e => e.1)
      if hit.isEmpty then s
      else (hit.foldl (fun t i => t.leaseTo i 5) s).enqueue { kind := 3, src := 3, node := rhNode m } .info
    else s.rhBadCount)

/-- RHAOD_DISCARD (R330): a message that is malformed, or an answer that matches no request. -/
def execRhaodDiscard (s : State) : Result := .next s.rhBadCount

/-- ANSWER_LIMIT (R329): no answer has come within 2^22 ticks. -/
def execAnswerLimit (s : State) : Result :=
  let i := s.ev.a
  .next (match (s.lease i).req with
    | some q =>
      if q.tag ≠ s.ev.b then s
      else if q.ret then
        (match q.waiter with
         | some _ => s.leaseAnswered i q 3
         | none => (s.leaseAnswered i q 3).freeLease i)
      else (s.renewEnds i).leaseAnswered i q 3
    | none => s)

/-- The lease of an address of a context, where the address lies in the pool. -/
def State.poolLease (s : State) (c va : Nat) : Option Nat :=
  match (s.translateWalk c va .read).2 with
  | .ok dpa _ => if isPool dpa then s.leaseAt dpa else none
  | _ => none

/-- A pool read of another unit than a group has had no answer (R325): that of command `a` at `v` (`ext` a read), of the line at `v` for context `b`
on plot `a` (a fetch), of the fill of frame `a` (a write), which is given up until its record is resolved (R337). DEDUCED: log entry 101. -/
def State.unitTimeout (s : State) (k : AccKind) : State :=
  let va := s.ev.v.toNat
  match k with
  | .read | .atomic =>
    (match s.cmd? s.ev.a with
     | some c => (match s.poolLease c.ctx va with
        | some i => if (s.ce c.ce).busy = some s.ev.a then
            (s.unschedule (ceStep (cmKind c.blk.toNat)) { a := c.ce }).cmdFaults s.ev.a c 2 2 i va 0 else s
        | none => s)
     | none => s)
  | .fetch =>
    (match s.poolLease s.ev.b va, s.groups.find? (fun e => !e.2.pgc && decide (e.2.plot = s.ev.a) && decide (e.2.ctx = s.ev.b)) with
     | some i, some g =>
        if (s.plot s.ev.a).fetching.contains (s.ev.b, va / 64) then
          (s.unschedule .icacheFill { a := s.ev.a, b := s.ev.b, v := BitVec.ofNat 64 (va / 64 * 64) }).report
            { kind := 2, ctx := s.ev.b, src := 0, acc := 2, gslot := g.2.slot, plot := s.ev.a, team := (s.team g.2.team).serial, detail := 2, lease := i,
              addr := va } (.fetch g.1 (va / 64))
        else s
     | _, _ => s)
  | .write =>
    match (s.frame s.ev.a).fill with
    | some w =>
      let x := s.frame s.ev.a
      let dpa := w.unit * 65536 + 64 * w.first
      ((((s.unschedule .fillBlockArrival { a := s.ev.a }).dropUnit w.unit).writeBackFrame s.ev.a).freeFrame s.ev.a).enqueue
        { kind := 2, ctx := w.ctx, src := 3, detail := 2, lease := (s.leaseAt (w.unit * 65536)).getD 0, addr := w.unit * 65536 }
        (.model dpa x.rclass x.mgroup)
    | none => s

/-- POOL_READ_TIMEOUT (R325): a read of the pool that has had no answer for 2^24 ticks completes as a LEASE record with detail 2; the
state of its lease is unchanged. The read is that of word `b` of group `a`, or of the unit that `ext` names. DEDUCED: log entry 101. -/
def execPoolReadTimeout (s : State) : Result :=
  match s.ev.ext with
  | .acc k => .next (s.unitTimeout k)
  | _ =>
  let gid := s.ev.a
  let op := s.ev.b
  let g := s.group gid
  .next (match tabFind g.ops op with
    | none => s
    | some o =>
      let hit := (s.opElems gid o).findSome? (fun e => match spaceOf e.addr with
        | .virt va => (match (s.translateWalk g.ctx va .read).2 with
            | .ok dpa _ => if isPool dpa then (s.leaseAt dpa).map (fun i => (i, va)) else none
            | _ => none)
        | _ => none)
      let late := fun (step : Instr) (x : Nat × Nat) => (s.unschedule step { a := gid, b := op }).opFailed gid op
        { cls := 5, cause := 18, addr := BitVec.ofNat 64 x.2, info := BitVec.ofNat 64 (2 + 256 * x.1) }
      match o.st, hit with
      | .issued, some x => late (opStep o.word) x
      | .logged slot, some x => if (tabFind g.log slot).any (fun e => decide (e.st = .replay)) then late .operandLogReplay x else s
      | .performed, some x => (match o.word with | .mwait .. => late .mwaitWake x | _ => s)
      | _, _ => s)

/-! ## lease install and read (R186, R320) -/

/-- An install that completes with status 1. DEDUCED: log entry 56. -/
def State.installBad (s : State) (i : Nat) (r : BitVec 256) : Bool :=
  let n := lrLength r * 2 ^ 30
  let b := lrBase r
  let inWindow := if lrPeer r then isPeer b && isPeer (b + n - 1) else isPool b && isPool (b + n - 1)
  decide (4096 ≤ i) || (s.lease i).req.isSome || decide (leaseState (s.lease i).data = 6)
  || decide (r.extractLsb' 112 3 ≠ 0) || decide (r.extractLsb' 100 4 ≠ 0) || decide (r.extractLsb' 91 5 ≠ 0) || decide (r.extractLsb' 76 11 ≠ 0)
  || decide (lrLength r = 0) || decide (64 < lrLength r) || decide (b % 2 ^ 30 ≠ 0) || !inWindow
  || decide (lrExpiry r ≤ s.tick)
  || (lrPeer r && decide ((b - 2 ^ 51) / 2 ^ 40 = s.regs.domId.toNat))
  || s.leases.any (fun e => decide (e.1 ≠ i) && decide (leaseState e.2.data ≠ 0) && decide (lrBase e.2.data < b + n)
      && decide (b < lrBase e.2.data + lrLength e.2.data * 2 ^ 30))

/-- Installs a record: VALID, and RENEW_DUE at once when its expiry lies within LEASEMARGIN. -/
def State.install (s : State) (i : Nat) (r : BitVec 256) : State :=
  let s1 := (s.modLease i (fun _ => { data := lrSetState r 0 })).leaseTo i 1
  if s1.renewIsDue (s1.lease i) then (s1.modLease i (fun l => { l with dueSent := true })).leaseRecord 5 i 0 else s1

/-- The number that `n` bytes at a PGC's address hold. -/
def State.pgcLoad (s : State) (u : Issuer) (a : DWord) (n : Nat) : Nat := bytesNat (s.loadElem u.gid a (.mem a.toNat 0) n)
/-- A PGC's store: a DEAD frame's zero fill starts with it (R275). -/
def State.pgcStore (s : State) (gid : Nat) (a : DWord) (bs : List Byte) : State := (s.uncached a.toNat).1.storeNow gid a (.mem a.toNat 0) bs false
/-- The path of a PGC's store, after the zero fill that it may start. -/
def State.storeRoad (s : State) (u : Issuer) (a : DWord) : Road :=
  let x := s.uncached a.toNat
  (s.addrRoad u.g a true).map (fun n => n + x.2)

def execLeaseInstall (d a b : BitVec 6) (s : State) : Result :=
  issue (.leaseInstall d a b) s (fun u t =>
    let i := (u.sv a).toNat
    privAlong (.leaseInstall d a b) t (t.addrRoad u.g (u.sv b) false) 16 (fun t =>
      let t1 := t.eccMiss (u.sv b).toNat
      let r := BitVec.ofNat 256 (t1.pgcLoad u (u.sv b) 32)
      if t1.installBad i r then (t1, 1) else (t1.install i r, 0)))

def execLeaseRead (d a b : BitVec 6) (s : State) : Result :=
  issue (.leaseRead d a b) s (fun u t =>
    let i := (u.sv a).toNat
    if 4096 ≤ i then privStatus (.leaseRead d a b) t 16 1
    else privAlong (.leaseRead d a b) t (t.storeRoad u (u.sv b)) 16 (fun t => (t.pgcStore u.gid (u.sv b) (natBytes 32 (t.lease i).data.toNat), 0)))

/-! ## lease renew and return (R329) -/

/-- Sends a request of a lease entry: the next tag, the answer limit. -/
def State.leaseRequest (s : State) (i ty : Nat) (q : LeaseReq) (span : Nat) : State :=
  let r := (s.lease i).data
  let tag := s.pgc.tag
  let s1 := (s.rhSend (lrNode r) (s.rhPack ty tag (lrNode r) (lrId r) span)).modPgc (fun p => { p with tag := (tag + 1) % 65536 })
  (s1.modLease i (fun l => { l with req := some { q with tag := tag, sent := s.tick } })).atTick (s.tick + 2 ^ 22) .answerLimit { a := i, b := tag }

/-- DEDUCED: log entry 56. -/
def execLeaseRenew (d a b : BitVec 6) (s : State) : Result :=
  issue (.leaseRenew d a b) s (fun u t =>
    let i := (u.sv a).toNat
    let x := (u.sv b).toNat
    if 4096 ≤ i ∨ leaseState (t.lease i).data ≠ 1 ∨ (t.lease i).req.isSome ∨ x ≤ t.tick then privStatus (.leaseRenew d a b) t 16 1
    else
      .hold ((t.leaseRequest i 1 { tag := 0, ret := false, sent := 0, expiry := u.sv b, waiter := some u.gid } (x - t.tick)).leaseTo i 2)
        (.priv (.leaseRenew d a b) 0))

/-- A return of an entry is refused: it is FREE, a request is outstanding, or a frame of it is dirty (R324). DEDUCED: log entry 56. -/
def State.returnBad (s : State) (i : Nat) : Bool :=
  decide (4096 ≤ i) || decide (leaseState (s.lease i).data = 0) || (s.lease i).req.isSome || (s.leaseFrames i).any (fun f => decide ((s.frame f).dirty ≠ 0))

def execLeaseReturn (d a : BitVec 6) (s : State) : Result :=
  issue (.leaseReturn d a) s (fun u t =>
    let i := (u.sv a).toNat
    if t.returnBad i then privStatus (.leaseReturn d a) t 16 1
    else
      .hold ((t.leaseRequest i 4 { tag := 0, ret := true, sent := 0, before := leaseState (t.lease i).data, waiter := some u.gid } 0).leaseTo i 6)
        (.priv (.leaseReturn d a) 0))

end Sys2Proof.Machine
end

