-- ==== Sys2Proof/Machine/Privileged.lean ====
section
/-! DEFINITION. The privileged forms `tlbi`, `acnt`, `psplit`, `pmove` and `bias` (R185, R186, R310, R313, R314, R332, R338). -/

namespace Sys2Proof.Machine

/-! ## tlbi (R186, R313) -/

/-- Operands of a tlbi on its way to the plots: context, length, mode. -/
def tlbiPack (c : Nat) (len : DWord) (mode : Nat) : BitVec 256 := BitVec.ofNat 256 (len.toNat + c * 2 ^ 64 + mode * 2 ^ 72)

/-- The entries that a tlbi drops. -/
def tlbiHits (lo : Nat) (f : BitVec 256) (e : TlbEntry) : Bool :=
  let c := fld f.toNat 64 6
  match fld f.toNat 72 2 with
  | 0 => tlbOverlaps c lo (fld f.toNat 0 64) e
  | 1 => decide (e.ctx = c)
  | _ => true

/-- The context that a tlbi names: the team's own for an ADMIN group (R185). DEDUCED: log entry 23. -/
def tlbiCtx (u : Issuer) (c : BitVec 6) : Nat := if u.g.pgc then (u.sv c).toNat % 64 else u.g.ctx

/-- A tlbi: the L2 TLBs drop their entries, and every plot in service is asked; the unit is held until all have acknowledged.
DEDUCED: log entry 60. DESIGN CHOICE: log entry 97. -/
def tlbiWord (i : Instr) (c a b : BitVec 6) (mode : Nat) (s : State) : Result :=
  issue i s (fun u t =>
    let f := tlbiPack (tlbiCtx u c) (u.sv b) mode
    let lo := u.sv a
    let s1 : State := { t with dies := t.dies.map (fun e => (e.1, { e.2 with tlb := e.2.tlb.filter (fun x => !tlbiHits lo.toNat f x.2) })) }
    let ps := (List.range 384).filter s1.inService
    let s2 := ps.foldl (fun (x : State) p => x.send u.g.plot p 0 .tlbiRequest { a := p, b := u.gid, v := lo, f := f })
      (s1.cmdTlbDrop (tlbiHits lo.toNat f))
    if ps.isEmpty then .ok s2 else .hold s2 (.priv i ps.length))

def execTlbiRange (c a b : BitVec 6) (s : State) : Result := tlbiWord (.tlbiRange c a b) c a b 0 s
def execTlbiContext (c a b : BitVec 6) (s : State) : Result := tlbiWord (.tlbiContext c a b) c a b 1 s
def execTlbiDevice (c a b : BitVec 6) (s : State) : Result := tlbiWord (.tlbiDevice c a b) c a b 2 s

/-- 2 MiB regions that a range covers. -/
def regionsOf (lo len : Nat) : List Nat := if len = 0 then [] else (List.range ((lo + len - 1) / 2 ^ 21 + 1 - lo / 2 ^ 21)).map (fun i => lo / 2 ^ 21 + i)

/-- The plot answers "none" (R313): a range of at most 64 regions, each with a clear bit in some hash, and no rebuild in progress. -/
def State.bloomNone (s : State) (p c lo len : Nat) : Bool :=
  let x := s.plot p
  decide (x.bloomBusy ≤ s.cycle) && decide ((lo + len - 1) / 2 ^ 21 < lo / 2 ^ 21 + 64 ∨ len = 0)
  && (regionsOf lo (Nat.min len (2 ^ 28))).all (fun r => !bloomMay x.bloom (bloomKey c (r * 2 ^ 21)))

/-- TLBI_REQUEST (R313): the plot consults its filter, or searches; a full flush makes it rebuild the filter. A culled plot's acknowledgement counts as
given (R375). DEDUCED: log entry 60. -/
def execTlbiRequest (s : State) : Result :=
  let e := s.ev
  let p := e.a
  let lo := e.v.toNat
  let mode := fld e.f.toNat 72 2
  let back := (s.group e.b).plot
  .next (if (s.plot p).culled then s.after 0 .tlbiAck { a := p, b := e.b }
    else if mode = 0 ∧ s.bloomNone p (fld e.f.toNat 64 6) lo (fld e.f.toNat 0 64) then
      s.send p back 6 .tlbiAck { a := p, b := e.b }
    else
      let s1 := s.modPlot p (fun x => { x with tlb := x.tlb.filter (fun y => !tlbiHits lo e.f y.2) })
      (if mode = 2 then s1.afterOnce 0 .bloomRebuild { a := p } else s1).send p back 40 .tlbiAck { a := p, b := e.b })

/-- TLBI_ACK (R186): the last acknowledgement completes the tlbi. -/
def execTlbiAck (s : State) : Result :=
  .next (s.modGroup s.ev.b (fun g => match g.hold with
    | some (.priv i n) => { g with hold := if n ≤ 1 then none else some (.priv i (n - 1)) }
    | _ => g))

/-- BLOOM_REBUILD (R314): the filter is cleared and every valid entry inserted again, in 256 cycles. -/
def execBloomRebuild (s : State) : Result :=
  .next (s.modPlot s.ev.a (fun x => { x with
    bloom := x.tlb.foldl (fun f e => (entryKeys e.2).foldl bloomAdd f) 0, bloomBusy := s.cycle + 256 }))

/-! ## acnt (R186, R318) -/

/-- The counter of a frame, and the counter set to a value; 2^64 − 1 beyond the usable frames. -/
def acntWord (i : Instr) (a : BitVec 6) (new : Issuer → Nat → Option Nat) (s : State) : Result :=
  issue i s (fun u t =>
    let f := (u.sv a).toNat
    if t.hbmFrames ≤ f then privStatus i t 16 (2 ^ 64 - 1)
    else
      let old := (t.frame f).count
      privStatus i (match new u old with | some n => t.modFrame f (fun x => x.setCount t.cycle n) | none => t) 16 old)

def execAcntRead (d a : BitVec 6) (s : State) : Result := acntWord (.acntRead d a) a (fun _ _ => none) s
def execAcntReadClear (d a : BitVec 6) (s : State) : Result := acntWord (.acntReadClear d a) a (fun _ _ => some 0) s
def execAcntWrite (d a b : BitVec 6) (s : State) : Result := acntWord (.acntWrite d a b) a (fun u _ => some ((u.sv b).toNat % 65536)) s

/-! ## psplit (R186, R310) -/

/-- A leaf that psplit may split: a valid 2 MiB leaf whose 64 KiB targets fit their field. -/
def splitOk (s : State) (e : Nat) : Bool :=
  pteV e && pteLeaf e && !leafMalformed s e 21 &&
    (match pteLoc e with
     | 0 => true
     | 2 => decide (fld e 21 27 * 32 + 31 < 2 ^ 27)
     | _ => decide (fld e 21 15 * 32 + 31 < 2 ^ 15))

/-- Entry k of the new table: the leaf's fields, SIZE 64 KiB, SPLITTING clear, target k pages on. -/
def splitEntry (e k : Nat) : Nat :=
  let base := e - fld e 2 2 * 4 - fld e 18 1 * 2 ^ 18
  match pteLoc e with
  | 0 => base + k * 2 ^ 21
  | 2 => base - fld e 21 27 * 2 ^ 21 + (fld e 21 27 * 32 + k) * 2 ^ 21
  | _ => base - fld e 21 15 * 2 ^ 21 + (fld e 21 15 * 32 + k) * 2 ^ 21

def State.writeSplit (s : State) (gid : Nat) (b : DWord) (e : Nat) : State :=
  (List.range 32).foldl (fun (t : State) k => t.pgcStore gid (b + BitVec.ofNat 64 (8 * k)) (natBytes 8 (splitEntry e k))) s

/-- The paths of the 32 stores of a table, one after another, and of the compare-and-swap of the leaf (R415). -/
def State.splitRoad (s : State) (u : Issuer) (leaf tab : DWord) : Road :=
  (List.range 32).foldl (fun (r : Road) k => r.then (s.storeRoad u (tab + BitVec.ofNat 64 (8 * k)))) (s.atomicRoad u.g leaf 2)

/-- psplit: SPLITTING is set and the table written; the replacement of the leaf follows. DESIGN CHOICE: log entry 11. DEDUCED: log entry 59. -/
def execPsplit (d a b : BitVec 6) (s : State) : Result :=
  issue (.psplit d a b) s (fun u t =>
    let read := t.addrRoad u.g (u.sv a) false
    let t1 := t.eccMiss (u.sv a).toNat
    let e := t1.pgcLoad u (u.sv a) 8
    if !splitOk t1 e then privAlong (.psplit d a b) t read 0 (fun _ => (t1, 1))
    else if fld e 18 1 = 1 then privAlong (.psplit d a b) t read 0 (fun _ => (t1, 2))
    else
      let e1 := e + 2 ^ 18
      match (read.then (t1.storeRoad u (u.sv a))).then (t1.splitRoad u (u.sv a) (u.sv b)) with
      | .ok n =>
        .hold (((t1.pgcStore u.gid (u.sv a) (natBytes 8 e1)).writeSplit u.gid (u.sv b) e1).after n .psplitComplete
          { a := u.gid, v := BitVec.ofNat 64 e1 }) (.priv (.psplit d a b) 0)
      | .error p => .hold (t.dropAt p) (.priv (.psplit d a b) 0))

/-- PSPLIT_COMPLETE (R310): the compare-and-swap of the leaf; where the walker has set A or D since, the entries take them and it is
tried again. -/
def execPsplitComplete (s : State) : Result :=
  let gid := s.ev.a
  let g := s.group gid
  .next (match g.hold with
    | some (.priv (.psplit _ a b) _) =>
      let leaf := (g.readS a.toNat).val
      let tab := (g.readS b.toNat).val
      let now := bytesNat (s.loadElem gid leaf (.mem leaf.toNat 0) 8)
      if now = s.ev.v.toNat then
        (s.pgcStore gid leaf (natBytes 8 (1 + tab.toNat % 2 ^ 52))).privDone gid 0
      else (s.writeSplit gid tab now).along (s.splitRoad { gid := gid, g := g, c := default } leaf tab) 0 .psplitComplete { a := gid, v := BitVec.ofNat 64 now }
    | _ => s)

/-! ## pmove (R186, R338) -/

def mvPtea (b : Nat) : Nat := fld b 0 64
def mvNew (b : Nat) : Nat := fld b 64 64
def mvKeep (b : Nat) : Bool := decide (fld b 128 1 = 1)
def mvNodata (b : Nat) : Bool := decide (fld b 129 1 = 1)
def mvCtx (b : Nat) : Nat := fld b 136 6

/-- The first byte of a 64 KiB leaf's page; none for an entry that maps none. -/
def leafDpa (s : State) (e : Nat) : Option Nat :=
  if pteV e && pteLeaf e && !leafMalformed s e 16 then pteDpa s e 16 0 else none

/-- The lease of a pool or peer leaf is in one of some states, and its window holds the page. -/
def State.leaseHolds (s : State) (e : Nat) (sts : List Nat) (right : Nat) : Bool :=
  let r := (s.lease (fld e 36 12)).data
  sts.contains (leaseState r) && r.getLsbD right && decide (fld e 21 15 * 65536 < lrLength r * 2 ^ 30)

/-- Block i of the source can be read: from its own place, or from the frame that holds it. -/
def State.moveReadable (s : State) (e src i : Nat) : Bool :=
  if pteLoc e = 1 ∨ pteLoc e = 3 then
    (s.frameHolding (src + 64 * i)).isSome || s.leaseHolds e [1, 2, 4] 87
  else placeAllows s src

/-- The destination takes the page. -/
def State.moveTakes (s : State) (e dst : Nat) : Bool :=
  if pteLoc e = 1 ∨ pteLoc e = 3 then s.leaseHolds e [1, 2, 4] 88
  else placeAllows s dst

/-- The page's data goes to its new place with its metadata words; no cache keeps an old line of either, and no frame an old block of the place. -/
def State.movePage (s : State) (src dst : Nat) : State :=
  let s1 := ((s.dropUnit (frameOf src)).dropUnit (frameOf dst)).wakeFrame dst
  let s2 := (List.range 1024).foldl (fun (t : State) i => (t.eccRead (src + 64 * i)).copyBlock (t.phys (src + 64 * i)) (dst + 64 * i)) s1
  match s2.frameFor (frameOf dst) with | some f => s2.freeFrame f | none => s2

/-- The frame that the page leaves: the one that cached it, or its own. -/
def State.freeSource (s : State) (src : Nat) : State :=
  match s.frameFor (frameOf src) with
  | some f => s.freeFrame f
  | none => if isHbm s src then (s.freeFrame (frameOf src)).modFrame (frameOf src) (fun x => { x with reserved := false }) else s

/-- The data of a page beyond the package takes the PGC's port (R383). -/
def State.moveSends (s : State) (e dpa : Nat) : State :=
  if pteLoc e ≠ 0 then s.emit (.engineOut (s.pgcPort (s.nodeOf dpa)) dpa 65536) else s

/-- The paths of a move (R415), one after another: the block, the leaf's read, the source's data and the destination's, the leaf's store. -/
def State.moveRoad (s : State) (u : Issuer) (blk : DWord) (b : Nat) : Road :=
  let data := fun (e : Nat) (write : Bool) => match leafDpa s e with
    | some dpa => if mvNodata b then (.ok 0 : Road) else s.dpaRoad u.g.plot dpa write
    | none => .ok 0
  ((((s.addrRoad u.g blk false).then (s.dpaRoad u.g.plot (mvPtea b) false)).then (data (s.readNat (mvPtea b) 8) false)).then
    (data (mvNew b) true)).then (s.dpaRoad u.g.plot (mvPtea b) true)

/-- Step 1: the accesses to the page are held; the copy takes 64 bytes a cycle. DESIGN CHOICE: log entry 11. -/
def execPmove (d a : BitVec 6) (s : State) : Result :=
  issue (.pmove d a) s (fun u t =>
    let t1 := t.eccMiss (u.sv a).toNat
    let b := t1.pgcLoad u (u.sv a) 32
    .hold ((t1.modPgc (fun p => { p with moving := p.moving ++ [(mvCtx b, mvPtea b)] })).along (t.moveRoad u (u.sv a) b) 1024
      .pmoveComplete { a := u.gid, f := BitVec.ofNat 256 b }) (.priv (.pmove d a) 0))

/-- The reserved bits [255:142] and [135:130] of a move block are zero (R6, R338). DESIGN CHOICE: log entry 105. -/
def mvReserved (b : Nat) : Bool := decide (fld b 142 114 = 0) && decide (fld b 130 6 = 0)

/-- Steps 2 to 5 of a move block: the status and what it leaves. A block whose reserved bits are not zero is rejected (R6); DESIGN CHOICE:
with status 2 (log entry 105). -/
def State.moveBlock (s0 : State) (gid b : Nat) : State × Nat :=
  let ptea := mvPtea b
  let s := s0.eccMiss ptea
  let old := s.readNat ptea 8
  let new := mvNew b
  match leafDpa s old, (if mvReserved b then leafDpa s new else none) with
  | _, none => (s, 2)
  | src?, some dst =>
    if !s.moveTakes new dst then (s, 2)
    else
      let lost := match src? with
        | some src => !mvNodata b && !(List.range 1024).all (fun i => s.moveReadable old src i)
        | none => !mvNodata b
      if lost then (s, 1)
      else
        let s1 := match src? with
          | some src =>
            let t := if mvNodata b then s.loseUnit (frameOf src) else ((s.movePage src dst).moveSends old src).moveSends new dst
            if mvKeep b then t else t.freeSource src
          | none => s
        let s2 := s1.pgcStore gid (BitVec.ofNat 64 ptea) (natBytes 8 new)
        (s2.tlbDrop (fun e => decide (e.ctx = mvCtx b) && decide (e.bits = 16) && decide (pteLoc e.pte.toNat = pteLoc old)
          && decide (fld e.pte.toNat 21 27 = fld old 21 27)), 0)

/-- A move's blocks wait for a fill of their frames and for their channels, as any access does (R275, R316, R412): its writes start the zero fill of a
DEAD frame. Answers the wait. -/
def State.moveWait (s : State) (b : Nat) : State × Nat :=
  let x := s.uncached (mvPtea b)
  let y := match leafDpa s (mvNew b) with | some dst => if mvNodata b then (x.1, 0) else x.1.uncached dst | none => (x.1, 0)
  let n := match leafDpa s (s.readNat (mvPtea b) 8) with
    | some src => if mvNodata b || !s.anyWait then 0 else
      (List.range 1024).foldl (fun m i => Nat.max m ((s.blockWait (src + 64 * i)).getD 0)) 0
    | none => 0
  (y.1, Nat.max n (Nat.max x.2 y.2))

/-- PMOVE_COMPLETE (R338). DEDUCED: log entry 59. -/
def execPmoveComplete (s : State) : Result :=
  let gid := s.ev.a
  let b := s.ev.f.toNat
  let r := s.moveBlock gid b
  let w := s.moveWait b
  .next (if r.2 = 0 ∧ 0 < w.2 then w.1.after w.2 .pmoveComplete s.ev
    else (r.1.modPgc (fun p => { p with moving := p.moving.erase (mvCtx b, mvPtea b) })).privDone gid (BitVec.ofNat 64 r.2))

/-! ## bias (R186, R332) -/

/-- bias: it completes when the host has answered each line. An answer is the outside world's; without one, the first line's bound of
65,536 ticks ends it. -/
def execBias (d a b : BitVec 6) (s : State) : Result :=
  issue (.bias d a b) s (fun u t =>
    if (u.sv b).toNat = 0 then privStatus (.bias d a b) t 1 0
    else
      .hold (if t.agenda.any (fun e => decide (e.what = .biasComplete)) then t else t.atTick (t.tick + 65536) .biasComplete { a := 0 })
        (.priv (.bias d a b) 0))

/-- BIAS_COMPLETE (R332): the host has answered the first `a` lines; each page whose 1,024 lines it has answered has device bias.
DEDUCED: log entry 59. -/
def execBiasComplete (s : State) : Result :=
  let gid := s.pgc.serving
  let g := s.group gid
  .next (match g.hold with
    | some (.priv (.bias _ a b) _) =>
      let lo := (g.readS a.toNat).val.toNat / 65536
      let n := Nat.min (s.ev.a / 1024) ((g.readS b.toNat).val.toNat / 65536)
      let s1 := (List.range n).foldl (fun (t : State) i => t.modFrame (lo + i) (fun x => { x with bias := false })) s
      (s1.unschedule .biasComplete { a := 0 }).privDone gid (BitVec.ofNat 64 n)
    | _ => s)

end Sys2Proof.Machine
end

