-- ==== Sys2Proof/Machine/Frames.lean ====
section
/-! DEFINITION. FRAMECTL (R274, R335, R336), the fills of the page cache (R316, R318), DEAD frames (R275), back-invalidation (R331), the
scrubber (R276), errors that appear in storage (R360, R363). -/

namespace Sys2Proof.Machine

/-! ## FRAMECTL -/

/-- A FRAMECTL operation has acted: it completes after `n` cycles with a FRAMESTAT (R336). DESIGN CHOICE: log entry 11. -/
def State.frameEnds (s : State) (n stat : Nat) : State := s.after n .framectlComplete { a := stat }

/-- FRAMECTL_COMPLETE (R336): FRAMESTAT reads the outcome, and the PGC's next word may issue. -/
def execFramectlComplete (s : State) : Result :=
  let s1 := s.modPgc (fun p => { p with frameStat := s.ev.a })
  .next (s1.modGroup s.pgc.serving (fun g => match g.hold with | some .frameCtl => { g with hold := none } | _ => g))

/-- L2 lines that an operation on a unit finds, and dirty blocks of its frame: the time it takes. -/
def State.unitWork (s : State) (u : Nat) : Nat :=
  let lines := s.dies.foldl (fun n d => n + (d.2.l2.filter (fun l => decide (l.2.line / 128 = u))).length) 0
  let dirty := match s.frameFor u with | some f => popNat 1024 (s.frame f).dirty.toNat | none => 0
  lines + dirty

/-- A unit that FRAMECTL may name: 64 KiB of HBM, scratch, pool or peer memory. DEDUCED: log entry 61. -/
def unitOk (s : State) (u : Nat) : Bool := isHbm s (u * 65536) || (scratchOf (u * 65536)).isSome || isPool (u * 65536) || isPeer (u * 65536)

/-- A frame with dirty blocks that no lease lets the device write back (R324). DEDUCED: log entry 61. -/
def State.frameStuck (s : State) (f : Nat) : Bool := decide ((s.frame f).dirty ≠ 0) && s.frameHeld f

/-- Flush: every cached copy of the unit is written back and dropped, and its frame becomes clean. -/
def State.flushUnit (s : State) (u : Nat) : State :=
  let s1 := s.dropUnit u
  match s1.frameFor u with | some f => s1.writeBackFrame f | none => s1

/-- Evict: flush, and the frame is free. -/
def State.evictUnit (s : State) (u : Nat) : State :=
  let s1 := s.flushUnit u
  match s1.frameFor u with | some f => s1.freeFrame f | none => s1

/-- Discard: every copy and the frame, without write-back. -/
def State.discardUnit (s : State) (u : Nat) : State :=
  let s1 := s.loseUnit u
  match s1.frameFor u with | some f => s1.freeFrame f | none => s1

/-- Evicts what a frame caches. -/
def State.evictFrame (s : State) (f : Nat) : State := match (s.frame f).tag with | some u => s.evictUnit u | none => s

/-- FRAME_MARK_DEAD (R274). -/
def execFrameMarkDead (s : State) : Result :=
  let f := s.ev.a
  .next (if s.hbmFrames ≤ f ∨ (s.frame f).retired then s.frameEnds 1 1
    else
      let n := s.unitWork f
      ((s.loseUnit f).modFrame f (fun x => { x with dead := true })).frameEnds (1 + n) 0)

/-- FRAME_FLUSH (R336). -/
def execFrameFlush (s : State) : Result :=
  let u := s.ev.a
  .next (if !unitOk s u then s.frameEnds 1 1
    else if (match s.frameFor u with | some f => s.frameStuck f | none => false) then (s.dropUnit u).frameEnds (1 + s.unitWork u) 2
    else (s.flushUnit u).frameEnds (1 + s.unitWork u) 0)

/-- FRAME_EVICT (R336). -/
def execFrameEvict (s : State) : Result :=
  let u := s.ev.a
  .next (if !unitOk s u then s.frameEnds 1 1
    else if (match s.frameFor u with | some f => s.frameStuck f | none => false) then (s.dropUnit u).frameEnds (1 + s.unitWork u) 2
    else (s.evictUnit u).frameEnds (1 + s.unitWork u) 0)

/-- FRAME_RESERVE (R336). DEDUCED: log entry 61. -/
def execFrameReserve (s : State) : Result :=
  let f := s.ev.a
  .next (if s.hbmFrames ≤ f ∨ (s.frame f).retired then s.frameEnds 1 1
    else if s.frameStuck f then s.frameEnds 1 2
    else
      let n := match (s.frame f).tag with | some u => s.unitWork u | none => 0
      ((s.evictFrame f).modFrame f (fun x => { x with reserved := true })).frameEnds (1 + n) 0)

/-- A frame of a trace ring in force (R400). -/
def State.ringFrame (s : State) (f : Nat) : Bool :=
  s.dies.any (fun d => decide (d.2.trRing ≠ 0) && decide (d.2.trRing.toNat / 65536 ≤ f) && decide (f < d.2.trRing.toNat / 65536 + 32))

/-- FRAME_RELEASE (R336, R400). DEDUCED: log entry 61. -/
def execFrameRelease (s : State) : Result :=
  let f := s.ev.a
  .next (if s.hbmFrames ≤ f then s.frameEnds 1 1
    else if s.ringFrame f then s.frameEnds 1 2
    else (s.modFrame f (fun x => { x with reserved := false })).frameEnds 1 0)

/-- FRAME_DISCARD (R336). -/
def execFrameDiscard (s : State) : Result :=
  let u := s.ev.a
  .next (if !unitOk s u then s.frameEnds 1 1 else (s.discardUnit u).frameEnds (1 + s.unitWork u) 0)

/-- FRAME_EVICT_GROUP (R319, R336): every frame of a model group is evicted. -/
def execFrameEvictGroup (s : State) : Result :=
  let m := s.ev.a
  .next (if 2 ^ 15 ≤ m then s.frameEnds 1 1
    else
      let fs := s.modelFrames.filter (fun f => decide ((s.frame f).mgroup = m))
      let free := fs.filter (fun f => !s.frameStuck f)
      let n := free.foldl (fun k f => match (s.frame f).tag with | some u => k + s.unitWork u | none => k) 0
      (free.foldl (fun (t : State) f => t.evictFrame f) s).frameEnds (1 + n) (if free.length = fs.length then 0 else 2))

/-- FRAME_SET_HOST_BIAS (R332). -/
def execFrameSetHostBias (s : State) : Result :=
  let f := s.ev.a
  .next (if s.hbmFrames ≤ f then s.frameEnds 1 1 else (s.modFrame f (fun x => { x with bias := true })).frameEnds 1 0)

/-- The stack's retired-frame list takes one more (R363). DEDUCED: log entry 63. -/
def State.retireFrame (s : State) (f : Nat) : State :=
  let st := s.hbmStack f
  if s.nvm.retiredFrames.contains f then s
  else if 4096 ≤ (s.nvm.retiredFrames.filter (fun g => decide (s.hbmStack g = st))).length then s.emit (.event 2 f)
  else s.modNvm (fun n => { n with retiredFrames := insertNat n.retiredFrames f })

/-- FRAME_RETIRE (R336, R363). `flag`: asked for by a slice that has found an uncorrectable line, and not by FRAMECTL. DEDUCED: log entry 63. -/
def execFrameRetire (s : State) : Result :=
  let f := s.ev.a
  .next (if s.ev.flag then
      let s1 := s.loseUnit f
      ((match (s1.frame f).tag with | some u => s1.discardUnit u | none => s1.freeFrame f).modFrame f (fun x => { x with retired := true })).retireFrame f
    else if s.hbmFrames ≤ f then s.frameEnds 1 1
    else
      let n := s.unitWork f
      let s1 := s.loseUnit f
      let s2 := match (s1.frame f).tag with | some u => s1.discardUnit u | none => s1.freeFrame f
      ((s2.modFrame f (fun x => { x with retired := true })).retireFrame f).frameEnds (1 + n) 0)

/-- FRAMECTL_INVALID_OP (R335). -/
def execFramectlInvalidOp (s : State) : Result := .next (s.frameEnds 1 1)

/-! ## Fills, counters, DEAD frames -/

/-- FILL_BLOCK_ARRIVAL (R316): the next block of a fill arrives with its metadata word; it does not replace a block that the frame
holds already. -/
def execFillBlockArrival (s : State) : Result :=
  let f := s.ev.a
  let x := s.frame f
  .next (match x.fill with
    | none => s
    | some w =>
      let lease := match s.leaseAt (w.unit * 65536) with | some i => [1, 2, 4].contains (leaseState (s.lease i).data) | none => false
      if x.tag ≠ some w.unit ∨ !lease then s.modFrame f (fun y => { y with fill := none })
      else
        let i := (w.first + w.done) % 1024
        let s1 := if x.valid.getLsbD i then s else s.copyBlock (w.unit * 65536 + 64 * i) (f * 65536 + 64 * i)
        let s2 := s1.modFrame f (fun y => { y with valid := y.valid ||| BitVec.ofNat 1024 (2 ^ i),
                                                   fill := if w.done + 1 < 1024 then some { w with done := w.done + 1 } else none })
        if w.done + 1 < 1024 then s2.after 2 .fillBlockArrival { a := f } else s2)

/-- COUNTER_HALVING (R318). -/
def execCounterHalving (s : State) : Result :=
  .next { s with frames := (s.frames.map (fun e => (e.1, { e.2 with count := e.2.count / 2 }))).filter (fun e => decide (e.2 ≠ {})) }

/-- DEAD_FILLED (R275, R336): the zero fill of a frame ends. -/
def execDeadFilled (s : State) : Result :=
  let f := s.ev.a
  .next (match (s.frame f).zeroing with
    | some _ => (s.modFrame f (fun x => { x with zeroing := none })).enqueue { kind := 12, src := 3, addr := f * 65536 } .info
    | none => s)

/-! ## Back-invalidation (R331) -/

/-- BISNP (R331): every copy of the range is invalidated, the range is blocked until the record is resolved, the response is sent. -/
def execBisnp (s : State) : Result :=
  let dpa := s.ev.a
  let n := s.ev.b
  let lines := (List.range ((dpa + n + 511) / 512 - dpa / 512)).map (fun i => dpa / 512 + i)
  let units := (List.range ((dpa + n + 65535) / 65536 - dpa / 65536)).map (fun i => dpa / 65536 + i)
  let s1 := lines.foldl (fun (t : State) l => t.dropLine (l * 512)) s
  let s2 := units.foldl (fun (t : State) u => match t.frameFor u with
    | some f => (if (t.frame f).dirty ≠ 0 ∧ !t.frameHeld f then t.writeBackFrame f else t).freeFrame f
    | none => t) s1
  let id := s2.nextId
  let s3 := (s2.bump.modPgc (fun p => { p with blocked := p.blocked ++ [(dpa, n, id)] })).emit (.biRsp dpa n)
  .next (s3.enqueue { kind := 8, src := 3, addr := dpa } (.binv id))

/-! ## Errors in storage, and the scrubber (R276, R360) -/

/-- SOFT_ERROR (R360, R363): the corruption waits to be found. One reported in a line that the L2 does not hold is nothing. -/
def execSoftError (s : State) : Result :=
  .next (match s.ev.ext with
    | .error (.hbm dpa corr) =>
      let b := s.phys dpa / 64
      if isHbm s (b * 64) then { s with eccErrors := (s.eccErrors.filter (fun e => decide (e.1 ≠ b))) ++ [(b, corr)] } else s
    | .error (.l2 dpa) => if (s.l2Line dpa).isSome then { s with l2Errors := insertNat s.l2Errors (dpa / 64) } else s
    | _ => s)

/-- SCRUB_READ (R276): the scrubber reads its block; with `flag` block `b` of its order, for which it has waited. A correctable error is corrected and waits for its write-back; an uncorrectable
one goes the way of R360. DEDUCED: log entry 65. -/
def execScrubRead (s : State) : Result :=
  let st := s.ev.a
  let pos := if s.ev.flag then s.ev.b else s.scrubPos s.tick
  .next (match s.eccErrors.find? (fun e => decide (s.hbmStack (e.1 / 1024) = st) && decide (s.scrubRank e.1 = pos)) with
    | none => s
    | some (b, corr) =>
      if (s.frame (b / 1024)).dead then s
      else if 0 < s.hbmWait (b * 64) then s.after (s.hbmWait (b * 64)) .scrubRead { a := st, b := pos, flag := true }
      else if corr then
        let seen := (b, bytesNat ((List.range 64).map (fun i => s.rawByte (b * 64 + i))), tabGet 0 s.versions b)
        let s1 := s.eccReadAt (b * 64)
        { s1 with scrub := tabPut s1.scrub st seen }.after 1 .scrubWriteback { a := st }
      else s.eccReadAt (b * 64))

/-- SCRUB_WRITEBACK (R276): a corrected block is written back while the write version that was read is current. DEDUCED: log entry 65. -/
def execScrubWriteback (s : State) : Result :=
  let st := s.ev.a
  .next (match tabFind s.scrub st with
    | none => s
    | some (b, v, n) =>
      let s1 : State := { s with scrub := tabDel s.scrub st }
      if tabGet 0 s.versions b = n then
        (List.range 64).foldl (fun (t : State) i => t.pokeByte (b * 64 + i) (BitVec.ofNat 8 (v / 256 ^ i))) s1
      else s1)

end Sys2Proof.Machine
end

