-- ==== Sys2Proof/Machine/Coherence.lean ====
section
/-! DEFINITION. The steps of the directory and the caches on their own (R261-R265), the conversion of L2 ways to scratch (R270, R271),
and a walk on its own (R305, R311). A memory access makes these transitions within its own step. -/

namespace Sys2Proof.Machine

/-- The leaf entry of the page of a DPA; where no context maps it, one of class NORMAL and of grain 512 (DESIGN CHOICE: log entry 104). -/
def State.pageEntry (s : State) (dpa : Nat) : Nat := (s.leafOf dpa).getD (2 * 2 ^ 9 + (if isPool dpa then 2 ^ 13 else 0))

/-- DIRECTORY_READ (R265): the home slice serves a plot's read of a grain, which is its page's (R263); its L2 miss reaches the page cache (R316, R318).
DESIGN CHOICE: log entry 104. -/
def execDirectoryRead (s : State) : Result :=
  let dpa := s.ev.b
  let e := s.pageEntry dpa
  let t := s.serveRead s.ev.a dpa (pteGrain e)
  .next (if (s.l2Ensure dpa (pteGrain e)).2 then t.servePool dpa e (s.leafCtx dpa) else t)

/-- DIRECTORY_WRITE (R265): the home slice gives a plot ownership of a grain. -/
def execDirectoryWrite (s : State) : Result := .next (s.serveWrite s.ev.a s.ev.b (pteGrain (s.pageEntry s.ev.b)))

/-- OWNER_FORWARD (R265): a forwarded read reaches the L1 of the plot that the directory names as owner, which supplies the data and
downgrades; the directory follows. -/
def execOwnerForward (s : State) : Result :=
  let p := s.ev.a
  let dpa := s.ev.b
  .next (match s.dirEntry dpa with
    | some e =>
      if e.st ≠ .shared ∧ e.owner = p then
        let r := s.forwardOwner dpa e
        r.1.setDir dpa (some { e with st := r.2 })
      else s
    | none => s)

/-- QUAD_INVALIDATE (R265): the quad's four L1s drop the grain, and it acknowledges once. `flag` with `v`: the requesting plot, which
keeps its copy. -/
def execQuadInvalidate (s : State) : Result :=
  let q := s.ev.a
  let dpa := s.ev.b
  let keep := if s.ev.flag then some s.ev.v.toNat else none
  let far := (quadPlots q).foldl (fun n p => Nat.max n (s.wayCycles p (s.homePlot dpa))) 0
  .next (if (quadPlots q).all (fun p => (s.way? p (s.homePlot dpa)).isNone) then (s.invalidateQuad q dpa keep).dropAt ((quadPlots q).headD 0)
    else (s.invalidateQuad q dpa keep).after far .invalidationAck { a := q, b := dpa })

/-- INVALIDATION_ACK (R264, R265): the sharer bit of a quad that holds no copy any more is cleared. -/
def execInvalidationAck (s : State) : Result :=
  let dpa := s.ev.b
  .next (match s.dirEntry dpa with
    | some e =>
      -- a plot of the quad that keeps its copy (the requester) keeps the bit (R264)
      if (quadPlots s.ev.a).any (fun p => (s.l1State p dpa).isSome) then s
      else s.setDir dpa (some { e with sharers := e.sharers &&& ~~~(BitVec.ofNat 96 (2 ^ s.ev.a)) })
    | none => s)

/-- L1_WRITEBACK (R265): an L1 evicts a grain that it holds in M or O; the home slice's line takes the data. -/
def execL1Writeback (s : State) : Result :=
  let p := s.ev.a
  let dpa := s.ev.b
  let held := s.l1State p dpa
  .next (if held = some .m ∨ held = some .o then
      let g := s.grainOf dpa 512
      let s1 := (s.l1Drop p dpa g).l2Storage dpa
      match s1.l2Key dpa, s1.l2Line dpa with
      | some k, some l =>
        s1.setL2 dpa k { l with dirty := (grainSectors (Nat.max g 64) dpa).foldl (fun (m : BitVec 16) i => m ||| BitVec.ofNat 16 (2 ^ i)) l.dirty }
      | _, _ => s1
    else s)

/-- L2_FILL (R261): the blocks of a grain fill its line in the home slice. -/
def execL2Fill (s : State) : Result := .next (s.l2Ensure s.ev.a (pteGrain (s.pageEntry s.ev.a))).1

/-! ## Scratch (R270, R271) -/

/-- Cycles of a conversion. DESIGN CHOICE: log entry 11. -/
def convertCycles : Nat := 1536

/-- L2SCR_WRITE (R270): a write that changes REQ starts the conversion; the lines of ways that become scratch are written back and
dropped. -/
def execL2scrWrite (s : State) : Result :=
  let d := s.ev.a
  let n := s.ev.v.toNat % 8
  let x := s.die d
  .next (if x.scrBusy ∨ 5 ≤ n ∨ n = x.scrReq then s
    else
      let added := (List.range 32).map (fun sl => (scratchWays x sl n).drop x.scrCur)
      let lines := (x.l2.filter (fun e => (added.getD (e.1 / 16 / 192) []).contains (e.1 % 16))).map (fun e => e.2.line)
      -- an error found meanwhile takes its way out of service, and the way below it is converted too (R363)
      let s1 := lines.foldl (fun (t : State) l => t.l2Evict (l * 512)) (s.modDie d (fun y => { y with scrReq := n, scrBusy := true }))
      s1.after convertCycles .l2scrConvertDone { a := d })

/-- L2SCR_CONVERT_DONE (R271): the ways that have changed hands read zero; CUR takes REQ. -/
def execL2scrConvertDone (s : State) : Result :=
  let d := s.ev.a
  let x := s.die d
  let lo := Nat.min x.scrCur x.scrReq
  let hi := Nat.max x.scrCur x.scrReq
  let size := 3 * 2 ^ 20
  let base := 0x00F000000000 + d * 0x01000000
  .next (if !x.scrBusy then s
    else
      let inside := fun (l : Nat) => decide (base + lo * size ≤ l * 512) && decide (l * 512 < base + hi * size)
      let gone := (x.l2.filter (fun e => inside e.2.line)).map (fun e => e.2.line)
      let s1 := gone.foldl (fun (t : State) l => t.l2Drop (l * 512)) s
      (s1.zeroRange (base + lo * size) ((hi - lo) * size)).modDie d (fun y => { y with scrCur := x.scrReq, scrBusy := false }))

/-! ## A walk (R305, R309) -/

/-- PAGE_WALK (R305): a plot's walk of an address sets A, and D for a write, and fills the TLBs; a walk that finds no good leaf
enqueues a PAGE record, which the PGC resolves as a device's (R337): the walk is made again, or the context takes a PAGE trap. DEDUCED: log entry 66. -/
def execPageWalk (s : State) : Result :=
  let p := s.ev.a
  let c := s.ev.b
  let va := s.ev.v.toNat % 2 ^ 57
  let k := match s.ev.ext with | .acc k => k | _ => .read
  let r := s.lookup p c va (decide (k = .write) || decide (k = .atomic))
  .next (match r.2 with
    | .bad d => r.1.enqueue { kind := 1, ctx := c, src := 3, acc := k.code, plot := p, detail := d, addr := va } (.walk p c va k)
    | .leaf .. => r.1)

end Sys2Proof.Machine
end

