-- ==== Sys2Proof/Machine/Pager.lean ====
section
/-! DEFINITION. What the pager core does with a record of the fault queue (R337, R344), host answers (R389), the standby PGC (R333). -/

namespace Sys2Proof.Machine

/-- Class of an FQRES outcome (R335, R340): 1 PAGE, 2 LEASE, 3 POOL_LOST, 4 PROT, 5 CHECKSUM; close acts as 1 (R337). -/
def outcomeCls (out : Nat) : Nat :=
  match out with
  | 2 => 5 | 3 => 6 | 4 => clsProt | 5 => 21 | _ => 4

/-- The failure that an outcome 1-5 delivers: its class, cause FQRES.CAUSE, and FQ.DETAIL in TR.INFO for the classes that carry it
(R348). -/
def outcomeFailure (d : BitVec 256) (out cause : Nat) : Failure :=
  { cls := outcomeCls out, cause := cause, addr := d.extractLsb' 128 64,
    info := if outcomeCls out ≤ 6 then (d.extractLsb' 96 8).setWidth 64 else 0 }

/-- The record of a group's logged access is resolved (R344): REPLAY, or TRAPPED with the outcome's class. -/
def State.groupResolved (s : State) (gid op : Nat) (d : BitVec 256) (out cause : Nat) : State :=
  let g := s.group gid
  match tabFind g.ops op with
  | some { st := .logged slot, idx := n, clause := va, .. } =>
    match tabFind g.log slot with
    | some e =>
      if e.st ≠ .pending then s
      else if out = 0 then (s.modGroup gid (fun x => { x with log := tabPut x.log slot { e with st := .replay } })).tryReplay gid
      else
        let f := { outcomeFailure d out cause with at? := e.f.at?, addr := e.f.addr, tick := e.f.tick }
        (s.modGroup gid (fun x => { x with log := tabPut x.log slot { e with st := .trapped, f := f } })).trapGroup gid f slot n va
    | none => s
  | _ => s

/-- The record of an instruction fetch is resolved: the line is fetched again, or the group that needs it traps. -/
def State.fetchResolved (s : State) (d : BitVec 256) (vline out cause : Nat) : State :=
  let p := (d.extractLsb' 63 9).toNat
  let c := fqCtx d
  if out = 0 then s.requestLine p c (vline * 64)
  else s.modPlot p (fun x => { x with fetching := x.fetching.filter (fun e => decide (e ≠ (c, vline))),
                                      fetchFail := x.fetchFail ++ [(c, vline, outcomeFailure d out cause)] })

/-- The record of a commit drain is resolved (R290): the drain goes on, or the team ends. -/
def State.drainResolved (s : State) (tid blk out : Nat) : State :=
  if !(s.team tid).live then s
  else if out = 0 then
    match (s.team tid).commits with
    | c :: _ => (s.markFaulted tid blk c.id false).after 1 .commitEntryDrain { a := tid, b := blk }
    | [] => s
  else s.endInstance tid

/-- A device record that is resolved with outcome 1-5: a PAGE trap of its context with team serial 0 (R64, R337), with FQ.DETAIL (R348). -/
def State.deviceTrap (s : State) (d : BitVec 256) (cause : Nat) : State :=
  s.trapContext (fqCtx d) { cls := 4, cause := cause, addr := d.extractLsb' 128 64, info := (d.extractLsb' 96 8).setWidth 64 }

/-- The record of a fill that waited under MODELCAP is resolved (R319): the fill is tried again, and may wait again. -/
def State.modelResolved (s : State) (d : BitVec 256) (dpa rclass mgroup out cause : Nat) : State :=
  if out ≠ 0 then s.deviceTrap d cause
  else if (s.frameFor (frameOf dpa)).isSome then s
  else
    let r := s.pageFill dpa rclass mgroup (fqCtx d)
    match r.2 with
    | .modelFull => r.1.enqueue { kind := 10, ctx := fqCtx d, src := 3, addr := dpa } (.model dpa rclass mgroup)
    | _ => r.1

/-- What the resolution of a record does (R337), once its slot is free. -/
def State.resolved (s : State) (r : FqRec) (out cause : Nat) : State :=
  match r.target with
  | .group gid op => s.groupResolved gid op r.data out cause
  | .fetch _ vline => s.fetchResolved r.data vline out cause
  | .engine id => s.engineResolved id out cause (decide (fqKind r.data = 11))
  | .drain tid blk => s.drainResolved tid blk out
  | .word c serial => if out = 0 then s.signalLaunch c serial else (s.retireLaunch c serial).deviceTrap r.data cause
  | .trap c seq => if out = 0 then s.trapWrite c seq else s.trapDropped c seq
  | .spill p => s.after 0 .spillEngine { a := p, flag := decide (out ≠ 0) }
  | .root c va => if out = 0 then s.rootLaunch c va else s.deviceTrap r.data cause
  | .walk p c va k => if out = 0 then s.after 0 .pageWalk { a := p, b := c, v := BitVec.ofNat 64 va, ext := .acc k } else s.deviceTrap r.data cause
  | .binv id => s.modPgc (fun p => { p with blocked := p.blocked.filter (fun b => decide (b.2.2 ≠ id)) })
  | .model dpa rc mg => s.modelResolved r.data dpa rc mg out cause
  | .info => s

/-- The plot at which the resolution of a record acts (R415). -/
def State.resolvesAt (s : State) (r : FqRec) : Option Nat :=
  match r.target with
  | .group gid _ => some (s.group gid).plot
  | .fetch .. => some (r.data.extractLsb' 63 9).toNat
  | .drain tid _ => some (s.team tid).plot
  | .spill p => some p
  | .walk p _ _ _ => some p
  | _ => none

/-- A resolution goes to the plot where it acts, by the path from the PGC, and is dropped without one (R16, R415); one that no plot waits for acts at
once. -/
def State.answer (s : State) (r : FqRec) (out cause : Nat) : State :=
  match s.resolvesAt r with
  | none => s.resolved r out cause
  | some p =>
    match s.way? (384 + s.pgc.serving) p with
    | some n => (s.bump.modPgc (fun x => { x with answers := tabPut x.answers s.nextId r })).after n (fqresStep out) { a := s.nextId, b := cause, flag := true }
    | none => s.dropAt (entryPort (384 + s.pgc.serving) p).1

/-- Resolves a slot; one that holds no record is left alone (R335). Close acts as outcome 1. With `flag`, a resolution arrives at its plot. -/
def State.resolve (s : State) (out : Nat) : State :=
  let i := s.ev.a
  if s.ev.flag then
    match tabFind s.pgc.answers i with
    | some r => (s.modPgc (fun x => { x with answers := tabDel x.answers i })).resolved r out s.ev.b
    | none => s
  else
    match tabFind s.pgc.fq i with
    | some r => (s.fqRelease i).answer r out s.ev.b
    | none => s

/-- FQRES_REPLAY (R337). -/
def execFqresReplay (s : State) : Result := .next (s.resolve 0)
/-- FQRES_PAGE (R337). -/
def execFqresPage (s : State) : Result := .next (s.resolve 1)
/-- FQRES_LEASE (R337). -/
def execFqresLease (s : State) : Result := .next (s.resolve 2)
/-- FQRES_POOL_LOST (R337). -/
def execFqresPoolLost (s : State) : Result := .next (s.resolve 3)
/-- FQRES_PROT (R337). -/
def execFqresProt (s : State) : Result := .next (s.resolve 4)
/-- FQRES_CHECKSUM (R337). -/
def execFqresChecksum (s : State) : Result := .next (s.resolve 5)
/-- FQRES_CLOSE (R337): close acts as outcome 1. -/
def execFqresClose (s : State) : Result := .next (s.resolve 1)

/-- HOST_ANSWER (R337, R389): PGCANS0 in `v`, PGCANS1 in `f`. An answer of another generation is discarded and counted. -/
def execHostAnswer (s : State) : Result :=
  let c := (s.ev.f.extractLsb' 0 6).toNat
  let gen := s.ev.f.extractLsb' 16 16
  .next (if gen = (s.ctx c).gen then
      s.enqueue { kind := 9, ctx := c, src := 3, detail := if s.ev.f.getLsbD 32 then 1 else 0, addr := s.ev.v.toNat } .info
    else s.modPgc (fun p => { p with lateAns := p.lateAns + 1 }))

/-- STANDBY_PGC_TAKEOVER (R333): the standby serves the queue, with every record kept, from offset 0 of its own memory, which is the one
window of both. DESIGN CHOICE: log entry 114. -/
def execStandbyPgcTakeover (s : State) : Result :=
  .next (if s.pgc.takeover.isSome then
      (s.setGroup 1 (pgcGroup 1)).modPgc (fun p => { p with serving := 1, takeover := none })
    else s)

end Sys2Proof.Machine
end

