-- ==== Sys2Proof/Machine/Swap.lean ====
section
/-! DEFINITION. Bank swaps (R352-R354) and the spill engine (R355, R387). -/

namespace Sys2Proof.Machine

/-! ## Whether a swap can be made (R354, R387) -/

/-- Groups of the active bank. -/
def activeGroups (x : Plot) : List Nat := x.slots.filterMap id

/-- Teams of a list of groups. -/
def State.teamsOf (s : State) (gs : List Nat) : List Nat := (gs.map (fun g => (s.group g).team)).eraseDups

/-- Contexts with a part in a set. -/
def State.ctxsOf (s : State) (gs : List Nat) : List Nat := (gs.map (fun g => (s.group g).ctx)).eraseDups

/-- Sets that are spilled on a plot, or being saved. -/
def spilledSets (x : Plot) : List ResidentSet := x.spilled ++ x.outgoing.toList

/-- The lowest set index that is free for every context with a part in a set (R387). -/
def State.imageFor (s : State) (x : Plot) (gs : List Nat) : Option Nat :=
  [0, 1].find? (fun i => (spilledSets x).all (fun r =>
    decide (r.image ≠ some i) || (s.ctxsOf r.groups).all (fun c => !(s.ctxsOf gs).contains c)))

/-- The plot holds a team of a PAIRED launch or of a FUSEL1 cluster. -/
def State.pinned (s : State) (p : Nat) : Bool :=
  s.teams.any (fun e => e.2.live && decide (e.2.plot = p) && (e.2.paired || (s.cluster e.2.cluster).fused))

/-! ## The swap (R353) -/

/-- The slice ends (R351, R354): it restarts now, and writes of TSLICE and SLOTPART take effect; the placer looks at a plot whose slots
are shared anew (R65). -/
def State.sliceBoundary (s : State) (p : Nat) : State :=
  let s1 := s.modPlot p (fun x => { x with
    sliceStart := s.tick, expiryDeferred := false, swapAsked := false, tslice := x.tsliceNext.getD x.tslice, tsliceNext := none,
    slotPart := x.slotPartNext.getD x.slotPart, slotPartNext := none })
  if (s.plot p).slotPartNext.isSome then s1.afterOnce 0 .placeCluster {} else s1

/-- A set's groups by slot. -/
def State.bySlot (s : State) (gs : List Nat) : List (Option Nat) :=
  (List.range 8).map (fun i => gs.find? (fun g => decide ((s.group g).slot = i)))

/-- A group's bank changes its place; one that has exited stays so (R352, R356). -/
def Group.moveTo (g : Group) (l : Loc) : Group := if g.loc = .gone then g else { g with loc := l }

/-- The banks are exchanged as at the end of this cycle (R353). Entries in REPLAY of the incoming groups are performed
before their first issue (R357); every result of the outgoing groups is written first (R127); the placer looks at the slots that the
incoming set leaves free (R65). SWAPCNT wraps (R351). DESIGN CHOICE: log entry 115. -/
def State.swap (s : State) (p : Nat) (inc : ResidentSet) (image : Nat) : State :=
  let x := s.plot p
  let out := activeGroups x
  let s1 := out.foldl (fun (t : State) g => (t.flushPend g).modGroup g (fun y => { y.moveTo .shadow with swapcnt := (y.swapcnt + 1) % 2 ^ 32 })) s
  let s2 := inc.groups.foldl (fun (t : State) g => t.modGroup g (fun y => { y.moveTo .active with
    restoring := (y.log.filter (fun e => decide (e.2.st = .replay))).map (fun e => e.2.op) })) s1
  let s3 := s2.modPlot p (fun y => { y with
    slots := s2.bySlot inc.groups, shadow := none, outgoing := some { groups := out, image := some image }, spill := .drain, blackout := s.cycle + 24 })
  let s4 := inc.groups.foldl (fun (t : State) g => (t.tryReplay g).rereadMwait g) s3
  (s4.after 25 .spillEngine { a := p, b := 1 }).afterOnce 0 .placeCluster {}

/-- The set that a swap would bring in, and the image that the outgoing set would take; none where the plot cannot swap (R354, R387). DEDUCED: log entry
42. -/
def State.swapTo (s : State) (p : Nat) : Option (ResidentSet × Nat) :=
  let x := s.plot p
  match x.shadow, s.imageFor x (activeGroups x) with
  | some inc, some i => if s.pinned p ∨ x.spill ≠ .idle then none else some (inc, i)
  | _, _ => none

/-- A slice has expired (R354): the swap is made when it can be; the slice restarts in either case. DEDUCED: log entry 69.
DEDUCED: log entry 42. -/
def State.trySwap (s : State) (p : Nat) : State :=
  match s.swapTo p with
  | some r => (s.sliceBoundary p).swap p r.1 r.2
  | none => s.sliceBoundary p

/-- The host has asked (R354): a request that cannot act does nothing. DEDUCED: log entry 69. -/
def State.askSwap (s : State) (p : Nat) : State :=
  match s.swapTo p with
  | some r => (s.sliceBoundary p).swap p r.1 r.2
  | none => s.modPlot p (fun x => { x with swapAsked := false })

/-- A halted group of the active bank defers an expiry (R357). DEDUCED: log entry 69. -/
def State.haltHolds (s : State) (p : Nat) : Bool := (activeGroups (s.plot p)).any (fun g => (s.group g).halted)

/-- TIME_SLICE_EXPIRY (R354): deferred until a halt ends; one that cannot act is dropped, and the slice restarts. -/
def execTimeSliceExpiry (s : State) : Result :=
  let p := s.ev.a
  .next (if s.haltHolds p then s.modPlot p (fun x => { x with expiryDeferred := true }) else s.trySwap p)

/-- HOST_SWAP_REQUEST (R354): a halt defers it as it defers an expiry. -/
def execHostSwapRequest (s : State) : Result :=
  let p := s.ev.a
  .next (if s.haltHolds p then s.modPlot p (fun x => { x with swapAsked := true }) else s.askSwap p)

/-! ## The spill engine (R355) -/

/-- Bytes of the shares of a list of teams. -/
def State.shareSum (s : State) (ts : List Nat) : Nat := ts.foldl (fun n t => n + 4096 * (s.team t).shared) 0

/-- The outgoing set is lost: its teams end as by `tres` kill, and the error vector of each context is raised (R387). -/
def State.spillFails (s : State) (p : Nat) : State :=
  let out := (s.plot p).outgoing.getD {}
  let s1 := (s.ctxsOf out.groups).foldl (fun (t : State) c => t.errorVector c) s
  let s2 := (s.teamsOf out.groups).foldl (fun (t : State) i => t.killTeam i) s1
  (s2.modPlot p (fun x => { x with outgoing := none, spill := .save })).after 1 .spillEngine { a := p, b := 2 }

/-- Pages of the images of a set, as (context, virtual address) (R387). DESIGN CHOICE: log entry 68. -/
def State.imagePages (s : State) (p : Nat) (r : ResidentSet) : List (Nat × Nat) :=
  (s.ctxsOf r.groups).flatMap (fun c => (List.range 8).map (fun k =>
    (c, (s.ctx c).spillArea.toNat + (2 * p + r.image.getD 0) * 0x80000 + 65536 * k)))

/-- A group in an image: its vector registers, its uniform ones, its masks. DESIGN CHOICE: log entry 68. -/
def Group.image (g : Group) : List Byte :=
  (List.range (16 * g.rows)).flatMap (fun r => (g.readV r).flatMap (fun w => natBytes 4 w.toNat)) ++
    (List.range 64).flatMap (fun r => natBytes 8 (g.readS r).val.toNat) ++ (List.range 8).flatMap (fun r => natBytes 8 (g.readK 0 r).toNat)

/-- A context's part of a set: its groups, then the shared partitions of its teams (R355, R387). DESIGN CHOICE: log entry 68. -/
def State.imageOf (s : State) (c : Nat) (r : ResidentSet) : List Byte :=
  let gs := r.groups.filter (fun g => decide ((s.group g).ctx = c))
  gs.flatMap (fun g => (s.group g).image) ++
    (s.teamsOf gs).flatMap (fun t => (List.range (4096 * (s.team t).shared)).map (fun i => tabGet 0 (s.team t).shmem i))

/-- The bytes of an image at a virtual address of its context, block by block. -/
def State.imageStore (s : State) (c va : Nat) (bs : List Byte) : State :=
  (List.range (ceilDiv bs.length 64)).foldl (fun (t : State) k =>
    match (t.translateWalk c (va + 64 * k) .write).2 with
    | .ok dpa _ => (t.uncached dpa).1.homeStore dpa ((bs.drop (64 * k)).take 64)
    | _ => t) s

/-- Every context's part of a set goes into its own area (R387). DESIGN CHOICE: log entry 68. -/
def State.imagesStore (s : State) (p : Nat) (r : ResidentSet) : State :=
  (s.ctxsOf r.groups).foldl (fun (t : State) c => t.imageStore c ((s.ctx c).spillArea.toNat + (2 * p + r.image.getD 0) * 0x80000) (s.imageOf c r)) s

/-- Step 2: the shadow bank and the team state go to the images; a page that cannot be written goes to the fault queue, and one that pmove moves is
waited for (R387, R338). The layout of an image is the device's own; the model keeps the set itself too. DESIGN CHOICE: log entry 68. -/
def State.spillSave (s : State) (p : Nat) : State :=
  let r := (s.plot p).outgoing.getD {}
  if (s.imagePages p r).any (fun e => s.isMoving e.1 e.2) then s.after 1 .spillEngine { a := p } else
  let bad := (s.imagePages p r).findSome? (fun e => match (s.translateWalk e.1 e.2 .write).2 with
    | .ok _ _ => none
    | x => some (e, x))
  match bad with
  | some (e, .miss k d l) => s.enqueue { kind := k, ctx := e.1, src := 3, acc := 1, plot := p, detail := d, lease := l, addr := e.2 } (.spill p)
  | some _ => s.spillFails p
  | none => ((s.imagesStore p r).modPlot p (fun x => { x with spill := .save })).after (768 + s.shareSum (s.teamsOf r.groups) / 256) .spillEngine { a := p, b := 2 }

/-- Step 1: every outgoing team's buffer drains in a commit; step 2 follows the last. DESIGN CHOICE: log entry 68. -/
def State.spillDrain (s : State) (p : Nat) (first : Bool) : State :=
  let ts := (s.teamsOf ((s.plot p).outgoing.getD {}).groups).filter (fun t => (s.team t).live)
  let s1 := if first then ts.foldl (fun (t : State) i => if (t.team i).cb.isEmpty then t else t.beginCommit i .spill) s else s
  if ts.any (fun i => !(s1.team i).cb.isEmpty || !(s1.team i).commits.isEmpty) then s1 else s1.spillSave p

/-- The outgoing set is spilled: step 3 restores the incoming teams' state. -/
def State.spillSaved (s : State) (p : Nat) : State :=
  let x := s.plot p
  let s1 := match x.outgoing with
    | some r => r.groups.foldl (fun (t : State) g => t.modGroup g (fun y => y.moveTo (.spilled (r.image.getD 0)))) s
    | none => s
  (s1.modPlot p (fun y => { y with outgoing := none, spilled := y.spilled ++ x.outgoing.toList, spill := .restoreTeams })).after
    (Nat.max 1 (s.shareSum (s.teamsOf (activeGroups x)) / 256)) .spillEngine { a := p, b := 2 }

/-- Step 3 ends: the tile entries and the Sieve of the incoming teams take the place of the outgoing teams' (R355). Step 4 follows when
a set waits. -/
def State.teamsRestored (s : State) (p : Nat) : State :=
  let inc := s.teamsOf (activeGroups (s.plot p))
  let s1 := s.modPlot p (fun x =>
    let mine := x.savedTiles.filter (fun e => inc.contains e.2.team)
    let others := x.tiles.filter (fun e => !inc.contains e.2.team)
    let kept := x.tiles.filter (fun e => inc.contains e.2.team)
    let away := match x.sieve.team with | some t => !inc.contains t | none => false
    let held := if away then { team := none } else x.sieve
    { x with
      tiles := mine.foldl (fun t e => tabPut t e.1 e.2) kept
      savedTiles := x.savedTiles.filter (fun e => !inc.contains e.2.team) ++ others
      sieve := (x.savedSieves.find? (fun v => match v.team with | some t => inc.contains t | none => false)).getD held
      savedSieves := x.savedSieves.filter (fun v => match v.team with | some t => !inc.contains t | none => false) ++ (if away then [x.sieve] else [])
      spill := if x.spilled.isEmpty then .idle else .restoreSet })
  if (s1.plot p).spilled.isEmpty then s1 else s1.after 768 .spillEngine { a := p, b := 2 }

/-- Step 4 ends: the set that has waited longest stands in the shadow bank. DEDUCED: log entry 42. -/
def State.setRestored (s : State) (p : Nat) : State :=
  match (s.plot p).spilled with
  | r :: rest =>
    let s1 := r.groups.foldl (fun (t : State) g => t.modGroup g (fun y => y.moveTo .shadow)) s
    s1.modPlot p (fun x => { x with shadow := some { groups := r.groups }, spilled := rest, spill := .idle })
  | [] => s.modPlot p (fun x => { x with spill := .idle })

/-- SPILL_ENGINE (R355): `a` plot; `b` 1 the first step, 2 a step's time has passed, 0 a commit has ended or a fault is resolved; `flag` the
fault of a spill write was not resolved with replay. -/
def execSpillEngine (s : State) : Result :=
  let p := s.ev.a
  .next (match (s.plot p).spill with
    | .idle => s
    | .drain => if s.ev.flag then s.spillFails p else s.spillDrain p (decide (s.ev.b = 1))
    | .save => if s.ev.b = 2 then s.spillSaved p else s
    | .restoreTeams => if s.ev.b = 2 then s.teamsRestored p else s
    | .restoreSet => if s.ev.b = 2 then s.setRestored p else s)

end Sys2Proof.Machine
end

