-- ==== Sys2Proof/Machine/Debug.lean ====
section
/-! DEFINITION. The debug port: halt, resume and step (R357, R358, R402), register writes (R359), tick stop (R401), trace rings (R400); the
instruction cache's fills with their breakpoint bits (R403, R405), empty slots (R404). -/

namespace Sys2Proof.Machine

/-! ## Halt, resume, step (R402) -/

def hqScope (v : DWord) : Nat := fld v.toNat 2 2
def hqCtx (v : DWord) : Nat := fld v.toNat 4 6
def hqTeam (v : DWord) : Nat := fld v.toNat 10 24
def hqPlot (v : DWord) : Nat := fld v.toNat 34 9
def hqSlot (v : DWord) : Nat := fld v.toNat 43 3

/-- The groups of a request's scope. Scope group names a slot of the active bank. DEDUCED: log entry 70. -/
def State.scopeGroups (s : State) (v : DWord) : List Nat :=
  let mine := s.groups.filter (fun e => !e.2.pgc && decide (e.2.ctx = hqCtx v))
  (mine.filter (fun e => match hqScope v with
    | 0 => decide (e.2.plot = hqPlot v) && decide (e.2.slot = hqSlot v) && decide (e.2.loc = .active)
    | 1 => decide ((s.team e.2.team).serial = hqTeam v)
    | 2 => true
    | _ => false)).map (fun e => e.1)

/-- HALT (R402): the request of `v` stops the groups of its scope, one that a step lets run too. It acts once the turns of its cycle have passed
(`State.dueStep`). -/
def execHalt (s : State) : Result :=
  let v := s.ev.v
  .next (if !s.debugOwned (hqCtx v) then s
    else
      let s1 := if hqScope v = 2 then s.modCtx (hqCtx v) (fun x => { x with dbgHalt := true }) else s
      (s1.scopeGroups v).foldl (fun t g => t.haltGroup g) s1)

/-- One group's halt ends: queued `tres` actions first, then an expiry that the halt deferred (R357, R358). -/
def State.resumeGroup (s : State) (gid : Nat) : State :=
  let p := (s.group gid).plot
  let s1 := (s.modGroup gid (fun g => { g with halted := false, stepping := false })).takeQueued gid
  let s2 := if (tabFind s1.groups gid).isSome then s1.rereadMwait gid else s1
  if s2.haltHolds p then s2
  else if (s2.plot p).expiryDeferred then s2.trySwap p
  else if (s2.plot p).swapAsked then s2.askSwap p else s2

/-- RESUME (R402). -/
def execResume (s : State) : Result :=
  let v := s.ev.v
  .next (if !s.debugOwned (hqCtx v) then s
    else
      let s1 := if hqScope v = 2 then s.modCtx (hqCtx v) (fun x => { x with dbgHalt := false }) else s
      (s1.scopeGroups v).foldl (fun (t : State) g => if (t.group g).halted then t.resumeGroup g else t) s1)

/-- STEP (R402): each halted group of the scope runs one clause. -/
def execStep (s : State) : Result :=
  let v := s.ev.v
  .next (if !s.debugOwned (hqCtx v) then s
    else (s.scopeGroups v).foldl (fun (t : State) g => t.modGroup g (fun x => if x.halted then { x with stepping := true } else x)) s)

/-- The register that a debugger write names, and the group after it: a vector lane of a mapped row, a uniform register (untagged), a
mask. DEDUCED: log entry 70. -/
def Group.debugWrite (g : Group) (r : DbgReg) (v : DWord) : Group × List RegId :=
  match r with
  | .v n l => if n < 16 * g.rows ∧ l < 64 then (g.writeV n ((g.readV n).set l (v.setWidth 32)), [.v n]) else (g, [])
  | .s n => if n < 63 then (g.writeSV n v, [.s n]) else (g, [])
  | .k n => if 1 ≤ n ∧ n < 8 then (g.writeK n v, [.k n]) else (g, [])

/-- What a debugger reads of a halted group's registers: the value at that moment (R402). -/
def Group.debugRead (g : Group) (r : DbgReg) : Option DWord :=
  match r with
  | .v n l => if n < 16 * g.rows ∧ l < 64 then some ((laneOf (g.readV n) l).setWidth 64) else none
  | .s n => if n < 64 then some (g.readS n).val else none
  | .k n => if 1 ≤ n ∧ n < 8 then some (g.readK 0 n) else none

/-- The debug port's read of a register of group `gid`, whose context it owns (R398, R402). -/
def State.debugReadReg (s : State) (gid : Nat) (r : DbgReg) : Option DWord :=
  match tabFind s.groups gid with
  | some g => if g.halted && !g.pgc && s.debugOwned g.ctx then g.debugRead r else none
  | none => none

/-- DEBUGGER_REGISTER_WRITE (R359): the value takes effect at once, and data still to return for that register is discarded. -/
def execDebuggerRegisterWrite (s : State) : Result :=
  let gid := s.ev.a
  .next (match s.ev.ext with
    | .reg r => s.modGroup gid (fun g =>
        if g.halted && !g.pgc && s.debugOwned g.ctx then
          let w := g.debugWrite r s.ev.v
          ({ w.1 with ops := w.1.ops.map (fun e => (e.1, { e.2 with dropped := e.2.dropped ++ w.2 })) } : Group).recapture s.cycle
        else g)
    | _ => s)

/-! ## Tick stop (R401) -/

/-- TSTOP_ARM (R401): a stop whose tick has passed takes effect in the next period. DEDUCED: log entry 71. -/
def execTstopArm (s : State) : Result :=
  let t := s.regs.tstopt.toNat
  let late := decide (t < s.tick) || (decide (t = s.tick) && decide (s.cycle % 2 = 1))
  let s1 := s.modRegs (fun r => { r with arm := true, tstopt := if late then BitVec.ofNat 64 (s.tick + 1) else r.tstopt })
  .next (if !late && decide (t = s.tick) then { s1 with agenda := { due := s.cycle, what := .tickStop } :: s1.agenda } else s1)

/-- TICK_STOP (R401): every clock domain stops. -/
def execTickStop (s : State) : Result :=
  .next (if s.regs.arm then s.modRegs (fun r => { r with stopped := true }) else s)

/-- The step of a write to HALTREQ (R402). -/
def haltStep (v : DWord) : Option Instr :=
  match fld v.toNat 0 2 with
  | 0 => some .halt | 1 => some .resume | 2 => some .step | _ => none

/-- A write to HALTREQ: during a stop it waits for the release (R401). -/
def State.haltRequest (s : State) (v : DWord) : State :=
  match haltStep v with
  | none => s
  | some i => if s.regs.stopped then s.modRegs (fun r => { r with haltReqs := r.haltReqs ++ [v] }) else s.after 0 i { v := v }

/-- TSTOP_RELEASE (R401): every domain restarts, and the halt requests written during the stop take effect. DEDUCED: log entry 71. -/
def execTstopRelease (s : State) : Result :=
  let q := s.regs.haltReqs
  let s1 := s.modRegs (fun r => { r with stopped := false, arm := false, haltReqs := [] })
  .next (q.foldl (fun (t : State) v => t.haltRequest v) s1)

/-! ## Trace rings (R400) -/

/-- TRRING_WRITE (R400): accepted only for 0, or for a ring of reserved frames of HBM. DEDUCED: log entry 71. -/
def execTrringWrite (s : State) : Result :=
  let d := s.ev.a
  let v := s.ev.v.toNat
  let ok := decide (v = 0) || (decide (v % 2 ^ 21 = 0) &&
    (List.range 32).all (fun i => decide (v / 65536 + i < s.hbmFrames) && (s.frame (v / 65536 + i)).reserved))
  .next (if d < 6 ∧ ok then s.modDie d (fun x => { x with trRing := s.ev.v }) else s)

/-! ## The instruction cache (R54, R183, R403, R405) -/

/-- The breakpoint bits of a line's words, read as the context's load; a fault leaves them clear (R403). DEDUCED: log entry 33. -/
def State.brkBits (s : State) (p c va : Nat) : State × BitVec 16 :=
  let m := fld (tabGet 0 s.regs.brkMap c).toNat 0 57
  let w := (tabGet 0 s.regs.brkWin c).toNat
  let base := fld w 16 41 * 65536
  if m = 0 ∨ va < base ∨ base + 65536 * 2 ^ fld w 57 7 ≤ va then (s, 0)
  else
    let a := m + (va - base) / 32
    let x := s.translate p c a .read
    match x.2 with
    | .ok dpa _ => (x.1, BitVec.ofNat 16 (x.1.readNat dpa 2))
    | _ => (x.1, 0)

/-- Groups on a plot whose entries wait for a line. -/
def State.lineWaiters (s : State) (p c vline : Nat) : List Nat :=
  (s.groups.filter (fun e => !e.2.pgc && decide (e.2.plot = p) && decide (e.2.ctx = c) &&
    e.2.frontier.any (fun f => (s.entryState e.2 f).lines.contains vline))).map (fun e => e.1)

/-- The line as it is filled: its words, its header marks where its memory carries metadata, its breakpoint bits. -/
def State.fetchLine (s : State) (p c va dpa : Nat) : State × ILine :=
  let d := s.readDesc dpa
  let b := s.brkBits p c va
  (b.1, { ctx := c, vline := va / 64, words := (List.range 16).map (fun i => BitVec.ofNat 32 (s.readNat (dpa + 4 * i) 4)),
          marks := if descFmt d = 0 then d.extractLsb' 16 16 else 0, checked := hasMeta dpa, brk := b.2 })

/-- The cache of 512 lines takes a line; the one filled longest ago leaves. DEDUCED: log entry 72. -/
def Plot.addLine (x : Plot) (l : ILine) : Plot :=
  let keep := x.icache.filter (fun y => !(decide (y.ctx = l.ctx) && decide (y.vline = l.vline)))
  { x with icache := (if keep.length < 512 then keep else keep.drop 1) ++ [l],
           fetching := x.fetching.filter (fun e => decide (e ≠ (l.ctx, l.vline))) }

/-- ICACHE_FILL (R405): the line at `v` for context `b` on plot `a`. -/
def execIcacheFill (s : State) : Result :=
  let p := s.ev.a
  let c := s.ev.b
  let va := s.ev.v.toNat / 64 * 64
  let who := s.lineWaiters p c (va / 64)
  let done := fun (t : State) => t.modPlot p (fun x => { x with fetching := x.fetching.filter (fun e => decide (e ≠ (c, va / 64))) })
  .next (if !(s.plot p).fetching.contains (c, va / 64) then s
    else if s.isMoving c va then s.after 1 .icacheFill { a := p, b := c, v := s.ev.v }
    else
      let x := s.translate p c va .fetch
      match x.2 with
      | .ok dpa pte =>
        let n := (x.1.blockWait dpa).getD 0
        let t0 := x.1.eccMiss dpa
        if 0 < n then x.1.after n .icacheFill { a := p, b := c, v := s.ev.v }
        else if t0.poisoned dpa then
          ((who.map (fun g => (t0.group g).team)).eraseDups).foldl (fun (t : State) i => t.consumePoison i) (done t0)
        else
          let t1 := if cacheable dpa pte then
              (let m := t0.l2Ensure dpa (pteGrain pte); if m.2 then m.1.servePool dpa pte c else m.1)
            else t0
          let l := t1.fetchLine p c va dpa
          l.1.modPlot p (fun y => y.addLine l.2)
      | .perm => (done x.1).modPlot p (fun y => { y with fetchFail := y.fetchFail ++
          [(c, va / 64, { cls := clsProt, cause := 19, addr := BitVec.ofNat 64 va })] })
      | .miss k d l =>
        match who with
        | g :: _ =>
          let y := x.1.group g
          x.1.report { kind := k, ctx := c, src := 0, acc := 2, gslot := y.slot, plot := p, team := (x.1.team y.team).serial, detail := d,
                        lease := l, addr := va } (.fetch g (va / 64))
        | [] => done x.1)

/-! ## Empty slots (R404) -/

/-- EMPTY_SLOT (R404): the turn of plot `a` passes with nothing issued. A slot with a word to issue is not empty. -/
def execEmptySlot (s : State) : Result :=
  .next (if s.todo.head? = some s.ev.a then (match s.unitTurn s.ev.a with | .idle t => t | .run _ _ => s) else s)

end Sys2Proof.Machine
end

