-- ==== Sys2Proof/Machine/Reliability.lean ====
section
/-! DEFINITION. Heartbeats and votes (R371-R374), the cull (R375), self-test, regraft and retirement (R376-R378), in-field tests (R379,
R380). -/

namespace Sys2Proof.Machine

/-! ## Stopping a copy command (R375, R395) -/

/-- Pieces of a command up to a position; what stops the engine leaves the rest undone. -/
def State.moveTo (piece : Cmd → CeM Cmd) (id limit : Nat) : Nat → State → State
  | 0, s => s
  | fuel + 1, s =>
    match s.cmd? id with
    | none => s
    | some c =>
      if cmTotal c.blk.toNat ≤ c.pos ∨ limit ≤ c.pos then s
      else
        let r := (piece c).run.run s
        match r.1 with
        | .ok c1 => State.moveTo piece id limit fuel (r.2.modCmd id (fun _ => c1))
        | .error _ => r.2

/-- A command stops at the next 64-byte block boundary: what its segment has moved by now stands, and its engine is free. -/
def State.stopCmd (s : State) (id : Nat) : State :=
  match s.cmd? id with
  | none => s
  | some c =>
    let k := ceStep (cmKind c.blk.toNat)
    let s0 := if c.st = .peer then s.unschedule .peerWriteCompletion { a := c.ce, b := c.sum.toNat, v := BitVec.ofNat 64 id } else s
    if (s.ce c.ce).busy = some id then
      match s0.agenda.find? (fun d => decide (d.what = k) && decide (d.ev.a = c.ce)) with
      | some d =>
        let n := Nat.min 4096 (cmTotal c.blk.toNat - c.pos)
        let gone := Nat.max 1 (ceilDiv n 64) - (d.due - s.cycle)
        let s1 := s0.unschedule k { a := c.ce }
        (s1.moveTo (if cmKind c.blk.toNat = 2 then convPiece else cePiece) id (c.pos + Nat.min n (64 * (gone + 1))) 4200).ceIdle c.ce id
      | none => s0
    else s0

/-! ## Vote flits (R371) -/

def hbSrc (f : BitVec 256) : Nat := (f.extractLsb' 0 9).toNat
def hbSubj (f : BitVec 256) : Nat := (f.extractLsb' 9 9).toNat
def hbKind (f : BitVec 256) : Nat := (f.extractLsb' 29 3).toNat
def hbHealth (f : BitVec 256) : BitVec 16 := f.extractLsb' 32 16
def hbSeqOf (f : BitVec 256) : Nat := (f.extractLsb' 48 16).toNat
def hbTick (f : BitVec 256) : Nat := (f.extractLsb' 64 64).toNat
def hbResult (f : BitVec 256) : BitVec 32 := f.extractLsb' 128 32
def hbAttest (f : BitVec 256) : BitVec 64 := f.extractLsb' 160 64

/-- HB.CRC checks, and no reserved bit is set. -/
def hbSound (f : BitVec 256) : Bool :=
  decide (crc32c 0 (natBytes 28 (f.toNat % 2 ^ 224)) = f.extractLsb' 224 32) && decide (f.extractLsb' 18 11 = 0) && decide (f.extractLsb' 36 12 = 0)

/-- Errors that a die has corrected (R381). -/
def Die.corrected (x : Die) : Nat := x.rasCe + x.rasCwd

/-- HB.HEALTH of a plot: its die's corrected errors since its last heartbeat, its die's uncorrectable ones, the thermal limit of its die in the last
sample, its own self-fail. DEDUCED: log entry 73. -/
def State.health (s : State) (p : Nat) : Nat :=
  let x := s.plot p
  let d := s.die (plotDie p)
  (if d.corrected = x.hbCe then 0 else 1) + (if d.rasUe = 0 then 0 else 2) + (if s.boot.hot.contains (plotDie p) then 4 else 0)
    + (if x.selfFail then 8 else 0)

/-- A flit of a plot (R371). -/
def State.flit (s : State) (src kind subj tick result : Nat) (attest : BitVec 64) : BitVec 256 :=
  let x := s.plot src
  let h := s.health src
  let m := src + subj * 2 ^ 9 + kind * 2 ^ 29 + h * 2 ^ 32 + x.hbSeq * 2 ^ 48 + (tick % 2 ^ 64) * 2 ^ 64 + result * 2 ^ 128 + attest.toNat * 2 ^ 160
  BitVec.ofNat 256 (m + (crc32c 0 (natBytes 28 m)).toNat * 2 ^ 224)

/-- Neighbours of a plot that are not culled. -/
def State.liveNbrs (s : State) (p : Nat) : List Nat := (plotNbrs p).filter (fun q => !(s.plot q).culled)

/-- The direction in which a plot has a neighbour. -/
def dirOf (p q : Nat) : Nat := ((List.range 4).find? (fun n => decide (plotNbr p n = some q))).getD 4

/-- Hops from a to b around a plot and around every culled one (R16, R373). -/
def State.hopsAround (s : State) (x a b : Nat) : Option Nat :=
  let ok := fun r => !(s.plot r).culled && decide (r ≠ x)
  if (pathXY a b).all ok then some (hopsXY a b)
  else (detourLoop ok (distLoop ok 384 [(b, 0)] [b] 0) b 400 a 0 0).map (fun e => e.1)

/-- The plot takes part in the votes: in service, its router alive. -/
def State.votes (s : State) (p : Nat) : Bool := s.inService p && decide ((s.plot p).failed ≠ 1)

/-- What a plot keeps about one neighbour changes. -/
def State.modNbr (s : State) (p n : Nat) (f : Nbr → Nbr) : State := s.modPlot p (fun x => { x with nbr := tabMod {} x.nbr n f })
def State.nbr (s : State) (p n : Nat) : Nbr := tabGet {} (s.plot p).nbr n

/-- Sends a flit about `subj` from a plot to the other live neighbours of `subj`, one tick a hop; the sender's router drops one that no path takes
there, and counts it (R16). -/
def State.sendAround (s : State) (p subj : Nat) (what : Instr) (f : BitVec 256) : State :=
  ((s.liveNbrs subj).filter (fun q => decide (q ≠ p))).foldl (fun t q =>
    match s.hopsAround subj p q with
    | some h => t.atTick (s.tick + h) what { a := q, b := dirOf q p, f := f }
    | none => t.dropAt p) s

/-- Links from a plot to the furthest plot that a flit to every unit reaches, and how many units no path reaches (R16, R371). -/
def State.reach (s : State) (p : Nat) : Nat × Nat :=
  if s.plots.all (fun e => !e.2.culled) then (Nat.max (plotX p) (23 - plotX p) + Nat.max (plotY p) (15 - plotY p), 0)
  else
    let ok := fun r => !(s.plot r).culled
    let d := distLoop ok 384 [(p, 0)] [p] 0
    (d.foldl (fun n e => Nat.max n e.2) 1, ((List.range 384).filter (fun q => ok q && (tabFind d q).isNone)).length)

/-- Sends a flit to every unit: those `b` links away have it after `b` ticks, whatever else is on its way (R371, R374). The router of the sender counts
those that no path reaches (R16). DEDUCED: log entry 75. -/
def State.sendAll (s : State) (p : Nat) (what : Instr) (f : BitVec 256) : State :=
  let r := s.reach p
  let s1 := (List.range r.1).foldl (fun (t : State) h => t.atTick (s.tick + 1 + h) what { a := p, b := h + 1, f := f }) s
  (List.range r.2).foldl (fun (t : State) _ => t.dropAt p) s1

/-- The sender of a flit has been culled: the flit is dropped and counted (R375). -/
def State.flitDropped (s : State) (p : Nat) : State := s.modPlot p (fun x => { x with cullDrop := (x.cullDrop + 1) % 2 ^ 32 })

/-- A vote flit of any kind arrives by a link: it counts for its sender when that is the neighbour on the link (R373). -/
def State.countFlit (s : State) (p n src : Nat) : State :=
  if plotNbr p n = some src then s.modNbr p n (fun x => { x with flits := x.flits + 1 }) else s

/-- A flit that a plot sends to every unit counts at each of its neighbours (R373). -/
def State.countAll (s : State) (src : Nat) : State :=
  ((plotNbrs src).filter (fun q => s.votes q)).foldl (fun t q => t.countFlit q (dirOf q src) src) s

/-! ## Heartbeats (R372, R373) -/

/-- HEARTBEAT_SEND (R372): to every live neighbour, a tick away. A babbling plot sends three. DEDUCED: log entry 73. -/
def execHeartbeatSend (s : State) : Result :=
  let p := s.ev.a
  let f := s.flit p 0 0 s.tick 0 0
  let n := if (s.plot p).failed = 2 then 3 else 1
  let s1 := if s.votes p then
      (s.liveNbrs p).foldl (fun (t : State) q => (List.range n).foldl (fun (u : State) _ =>
        u.atTick (s.tick + 1) .heartbeat { a := q, b := dirOf q p, f := f }) t) s
    else s
  let ce := if s.votes p then (s.die (plotDie p)).corrected else (s.plot p).hbCe
  .next (if s.inService p then s1.modPlot p (fun x => { x with hbSeq := (x.hbSeq + 1) % 65536, hbCe := ce }) else s1)

/-- HEARTBEAT (R372, R373): a flit arrives at plot `a` from its neighbour `b`. -/
def execHeartbeat (s : State) : Result :=
  let p := s.ev.a
  let n := s.ev.b
  let f := s.ev.f
  .next (match plotNbr p n with
    | none => s
    | some q =>
      if !s.votes p then s
      else if (s.plot q).culled then s.flitDropped p
      else
        let now := s.tick / 4096
        let s1 := s.modNbr p n (fun x => { x with flits := x.flits + 1 })
        let sound := hbSound f && decide (hbSrc f = q) && decide (hbKind f = 0)
        if !sound then s1.modNbr p n (fun x => { x with bad := x.bad + 1 })
        else if (hbHealth f).getLsbD 3 then s1.modNbr p n (fun x => { x with babble := true })
        else
          s1.modNbr p n (fun x =>
            let late := match x.lastSeq with
              | some (v, per) => decide (hbSeqOf f ≠ (v + (now - per)) % 65536)
              | none => false
            { x with good := x.good + 1, babble := x.babble || late, lastSeq := some (hbSeqOf f, now) }))

/-! ## Accusations and the decision to cull (R374) -/

/-- Accusers of a neighbour's count exceed half of its live neighbours. -/
def State.majority (s : State) (subj : Nat) (voters : List Nat) : Bool :=
  let live := s.liveNbrs subj
  decide (live.length < 2 * (live.filter (fun q => voters.contains q)).length)

/-- A neighbour announces the cull (R374): 512 ticks ahead, to every unit. DEDUCED: log entry 75. -/
def State.announceCull (s : State) (p subj : Nat) : State := s.sendAll p .cull (s.flit p 3 subj (s.tick + 512) 0 0)

/-- The accusers that a plot knows of a neighbour change; the plot decides when they first exceed the half. -/
def State.setAccusers (s : State) (p n subj : Nat) (l : List Nat) : State :=
  let before := s.majority subj (s.nbr p n).accusers
  let s1 := s.modNbr p n (fun x => { x with accusers := l })
  if !before && s.majority subj l then s1.announceCull p subj else s1

/-- A plot enters ACCUSE for a neighbour (R373). -/
def State.enterAccuse (s : State) (p n subj : Nat) : State :=
  let s1 := s.setAccusers p n subj (insertNat (s.nbr p n).accusers p)
  s1.sendAround p subj .accuse (s.flit p 1 subj s.tick 0 0)

/-- An accusation is withdrawn (R373). -/
def State.withdrawAccuse (s : State) (p n subj : Nat) : State :=
  let s1 := s.modNbr p n (fun x => { x with accusers := x.accusers.filter (fun a => decide (a ≠ p)) })
  s1.sendAround p subj .withdraw (s.flit p 2 subj s.tick 0 0)

/-- What a period showed of a neighbour: 0 a heartbeat, 1 none, 2 a malformed one, 3 babbling. DEDUCED: log entry 74. -/
def periodSight (x : Nbr) : Nat :=
  if x.babble ∨ 2 < x.good + x.bad ∨ 16 < x.flits then 3 else if 0 < x.bad then 2 else if 0 < x.good then 0 else 1

/-- The table of R373: the state and misses after a period, from a state. DEDUCED: log entry 74. -/
def periodNext (x : Nbr) : Nat × Nat :=
  let miss := Nat.min (x.miss + 1) 4
  let missed := (if x.st = 2 ∨ 4 ≤ miss then 2 else if 2 ≤ miss then 1 else x.st, miss)
  match periodSight x with
  | 0 => (if x.st = 2 then 2 else 0, 0)
  | 1 => missed
  | 2 => if x.st = 0 then (1, x.miss) else if x.st = 1 then missed else (2, x.miss)
  | _ => (2, x.miss)

/-- One neighbour at the last tick of a period (R373). -/
def State.evaluate (s : State) (p n subj : Nat) : State :=
  let x := s.nbr p n
  let y := periodNext x
  let clean := if x.st = 2 ∧ periodSight x = 0 then x.clean + 1 else 0
  let s1 := s.modNbr p n (fun z => { z with st := y.1, miss := y.2, clean := clean, good := 0, bad := 0, flits := 0, babble := false })
  if x.st ≠ 2 ∧ y.1 = 2 then s1.enterAccuse p n subj
  else if clean = 256 then (s1.modNbr p n (fun z => { z with st := 0, miss := 0, clean := 0 })).withdrawAccuse p n subj
  else s1

/-- PERIOD_EVALUATION (R373). -/
def execPeriodEvaluation (s : State) : Result :=
  let p := s.ev.a
  .next (if !s.votes p then s
    else (List.range 4).foldl (fun (t : State) n => match plotNbr p n with
      | some q => if (t.plot q).culled then t else t.evaluate p n q
      | none => t) s)

/-- A flit of a kind about a neighbour of the plot it reaches: the direction of its subject. -/
def State.voteAbout (s : State) (kind : Nat) : Option Nat :=
  let p := s.ev.a
  let f := s.ev.f
  if s.votes p && hbSound f && decide (hbKind f = kind) && (plotNbrs p).contains (hbSubj f) && (plotNbrs (hbSubj f)).contains (hbSrc f)
  then some (dirOf p (hbSubj f)) else none

/-- ACCUSE (R374). -/
def execAccuse (s : State) : Result :=
  let p := s.ev.a
  let f := s.ev.f
  let t := s.countFlit p s.ev.b (hbSrc f)
  .next (match s.voteAbout 1 with
    | some n =>
      if (s.plot (hbSrc f)).culled then s.flitDropped p
      else if (s.plot (hbSubj f)).culled then t
      else t.setAccusers p n (hbSubj f) (insertNat (s.nbr p n).accusers (hbSrc f))
    | none => t)

/-- WITHDRAW (R373). -/
def execWithdraw (s : State) : Result :=
  let p := s.ev.a
  let f := s.ev.f
  let t := s.countFlit p s.ev.b (hbSrc f)
  .next (match s.voteAbout 2 with
    | some n =>
      if (s.plot (hbSrc f)).culled then s.flitDropped p
      else t.modNbr p n (fun x => { x with accusers := x.accusers.filter (fun a => decide (a ≠ hbSrc f)) })
    | none => t)

/-- CULL (R374) reaches the units `b` links from its sender: every unit keeps the smallest tick, and the sender's neighbours count the flit. The model
keeps one tick for all of them. DEDUCED: log entry 75. -/
def execCull (s : State) : Result :=
  let f := s.ev.f
  let p := hbSubj f
  let t := hbTick f
  let s1 := if s.ev.b ≤ 1 then s.countAll (hbSrc f) else s
  .next (if !(hbSound f && decide (hbKind f = 3) && decide (p < 384)) || (s.plot p).culled then s1
    else if (match (s.plot p).cullAt with | some u => decide (u ≤ t) | none => false) then s1
    else (s1.modPlot p (fun x => { x with cullAt := some t })).atTick t .cullTick { a := p })

/-! ## The cull tick (R375, R378) -/

/-- Operating time (R378). -/
def State.opTime (s : State) : Nat := s.boot.opBase + s.tick

/-- The grains of a culled plot: M and O ones are poisoned at their home, the plot's directory roles are dropped (R375).
DEDUCED: log entry 78. -/
def State.cullCaches (s : State) (p : Nat) : State :=
  let x := s.plot p
  let held := x.l1.flatMap (fun e => e.2.sect.map (fun c => (e.2.line * 512 + 32 * c.1, c.2)))
  let s1 := held.foldl (fun (t : State) e => if e.2 = .m ∨ e.2 = .o then t.setPoison e.1 else t) s
  let s2 := s1.modPlot p (fun y => { y with l1 := [], l1Lru := [] })
  let alone := fun (line : Nat) => (quadPlots (plotQuad p)).all (fun q => (s2.plot q).l1.all (fun e => decide (e.2.line ≠ line)))
  let role := fun (line : Nat) (d : DirEntry) =>
    let sh := if alone line then d.sharers &&& ~~~ (quadBit p) else d.sharers
    if d.owner = p ∧ d.st ≠ .shared then (if sh = 0 then none else some { d with st := .shared, sharers := sh })
    else if sh = 0 then none else some { d with sharers := sh }
  { s2 with dies := s2.dies.map (fun d => (d.1, { d.2 with l2 := d.2.l2.map (fun l =>
      (l.1, { l.2 with dir := l.2.dir.filterMap (fun e => (role l.2.line e.2).map (fun r => (e.1, r))) })) })) }

/-- The retirement of a culled plot (R378): two regrafts completed within 24 hours of operating time. -/
def State.retires (s : State) (p : Nat) : Bool :=
  let l := tabGet [] s.nvm.regrafts p
  !(s.plot p).stranded && decide (l.length = 2) && l.all (fun t => decide (s.opTime ≤ t + 86400000000000))

/-- A self-test of a plot ends 2^25 ticks after its start (R376); its result is a physical fact. DESIGN CHOICE: log entry 76. -/
def State.startSelfTest (s : State) (p t : Nat) : State :=
  let s1 := (s.modPlot p (fun x => { x with testEnd := some (t + 2 ^ 25) })).atTick (t + 2 ^ 25) .selfTestEnd
    { a := p, flag := Config.freeChoice s.fresh }
  { s1 with fresh := s.fresh + 1 }

/-- A cull or a readmission, in the trace of its die whatever CTXCFG.TRACE says (R399). -/
def State.traceCull (s : State) (p aux : Nat) : State := s.traceWrite (plotDie p) (s.tracePack 4 0 0 0 p 0 aux 0)

/-- The home router of the first element, or of the block, of an operation that its plot's L1 does not hold: where its request is on its way to. A store
that only enters the commit buffer makes none. -/
def State.requestHome (s : State) (gid : Nat) (o : MemOp) : Option Nat :=
  let g := s.group gid
  let at? := match o.word with
    | .launch .. | .pfh .. | .mxd .. => [o.base.val]
    | _ => if s.buffers gid o then [] else (s.opElems gid o).map (fun (e : Elem) => e.addr)
  at?.findSome? (fun a => match spaceOf a with
    | .virt va => (match (s.translateWalk g.ctx va .read).2 with
      | .ok dpa _ => if (s.l1State (s.l1Home g.plot dpa) dpa).isNone then some (s.homePlot dpa) else none
      | _ => none)
    | _ => none)

/-- The router that drops what a step brings to or from a plot at its cull tick, when that is a message (R375): a request from it at the router of the
home; an answer, a line, a resolution, a forwarded result or a shootdown to it at a live neighbour's. An acknowledgement that it owes counts as given.
DEDUCED: log entry 78. -/
def State.lostAt (s : State) (p : Nat) (d : Due) : Option Nat :=
  let near := (s.liveNbrs p).headD p
  let g := s.group d.ev.a
  let home := match tabFind g.ops d.ev.b with
    | some o => if g.plot = p ∧ !g.pgc then s.requestHome d.ev.a o else none
    | none => none
  match d.what with
  | .memoryAccessPerform | .launchBlockCheck | .pfhHandoff | .mxdBlockCheck | .operandLogReplay | .atomicStep => home
  | .loadComplete | .storeComplete | .atomicComplete => home.map (fun _ => near)
  | .commitEntryDrain =>
    if (s.team d.ev.a).plot = p ∧ !d.ev.flag then
      (match (s.translateWalk (s.team d.ev.a).ctx (d.ev.b * 64 % 2 ^ 57) .write).2 with | .ok dpa _ => some (s.homePlot dpa) | _ => none)
    else none
  | .directoryRead | .directoryWrite => if d.ev.a = p then some (s.homePlot d.ev.b) else none
  | .icacheFill | .tlbiRequest | .icinvRequest | .ownerForward => if d.ev.a = p then some near else none
  | .pairForward =>
    let t := s.team g.team
    if t.plot = p then some ((t.twin.map (fun w => (s.team w).plot)).getD near)
    else if t.twin.any (fun w => decide ((s.team w).plot = p)) then some near else none
  | .fqresReplay | .fqresPage | .fqresLease | .fqresPoolLost | .fqresProt | .fqresChecksum | .fqresClose =>
    (if d.ev.flag then tabFind s.pgc.answers d.ev.a else none).bind (fun r => if s.resolvesAt r = some p then some near else none)
  | _ => none

/-- A message to an ended plot that brings nothing about any more. -/
def lostLine (p : Nat) (d : Due) : Bool := decide (d.what = .icacheFill) && decide (d.ev.a = p)

/-- The messages to and from a plot that are on their way at its cull tick are dropped, each counted at the router that drops it; a fault-queue record
at the router by whose edge link it would have reached the PGC (R375, R415). DEDUCED: log entry 78. -/
def State.dropMessages (s : State) (p : Nat) : State :=
  let edge := (entryPort (384 + s.pgc.serving) p).1
  let lost := s.agenda.filterMap (s.lostAt p) ++ (s.pgc.fqRoad.filter (fun e => decide (e.2.1.plot = p))).map (fun _ => edge)
  let s1 := lost.foldl (fun (t : State) q => t.dropAt q) s
  let s2 : State := { s1 with agenda := s1.agenda.filter (fun d => !lostLine p d) }
  s2.modPgc (fun x => { x with
    fqRoad := x.fqRoad.filter (fun e => decide (e.2.1.plot ≠ p)), answers := x.answers.filter (fun e => decide (s.resolvesAt e.2 ≠ some p)) })

/-- A `pub` request of the plot that reached the Gleaner before the cull tick stands (R375): its walk ends now and publishes what it marked; there is
no team left to store the reference. DEDUCED: log entry 78. -/
def State.standPubs (s : State) (p : Nat) : State :=
  let x := s.die (plotDie p)
  ((x.walkers.map (fun e => (e.1, e.2.1))) ++ x.pubQueue).foldl (fun (t : State) e =>
    let g := t.group e.1
    match tabFind g.ops e.2 with
    | some o =>
      if g.plot = p ∧ o.left = 1 then
        let w := t.pubWalk g o
        if w.poison ∨ w.fail.isSome then t else w.marked.foldl (fun (u : State) h => u.publish g h (pubScope o.word) (pubFrozen o.word)) t
      else t
    | none => t) s

/-- The plot is fenced (R375): commands it issued stop, its caches and teams go, its neighbours have no live neighbour there; the self-test
starts unless the plot is retired. -/
def State.cullPlot (s : State) (p : Nat) : State :=
  let retire := s.retires p
  let s0 := ((s.standPubs p).dropMessages p).modPlot p (fun x => { x with culled := true, cullAt := none, readmitAt := none, cullTick := s.tick })
  let s1 := (s0.cmds.filter (fun e => decide (e.2.plot = p))).foldl (fun (t : State) e => (t.stopCmd e.1).dropCmd e.1) s0
  let s2 := s1.cullCaches p
  let s3 := (s2.teamsOn p).foldl (fun (t : State) e => t.endInstance e.1) s2
  let s4 := (plotNbrs p).foldl (fun (t : State) q => t.modNbr q (dirOf q p) (fun _ => { st := 3 })) s3
  let s5 := (s4.modNvm (fun n => { n with opTime := s.opTime, retiredPlots := if retire then insertNat n.retiredPlots p else n.retiredPlots })).traceCull p 0
  let s6 := if retire then s5.emit (.event 3 p) else s5.startSelfTest p s.tick
  s6.afterOnce 0 .placeCluster {}

/-- A readmission is announced to every unit, 512 ticks ahead (R376). DEDUCED: log entry 75. -/
def State.announceReadmit (s : State) (p subj : Nat) : State := s.sendAll p .readmit (s.flit p 5 subj (s.tick + 512) 0 0)

/-- Neighbours that first hold a majority because a plot has left: of accusers (R374), or of votes to readmit a culled neighbour (R376).
DEDUCED: log entry 75. -/
def State.recount (s old : State) (p : Nat) : State :=
  let s1 := ((plotNbrs p).filter (fun q => (s.plot q).culled && decide (q ≠ p))).foldl (fun (t : State) x =>
    (t.liveNbrs x).foldl (fun (u : State) a =>
      let l := (u.nbr a (dirOf a x)).readmit
      if !old.majority x l && u.majority x l then u.announceReadmit a x else u) t) s
  ((plotNbrs p).filter (fun q => !(s.plot q).culled)).foldl (fun (t : State) x =>
    (t.liveNbrs x).foldl (fun (u : State) a =>
      let acc := (u.nbr a (dirOf a x)).accusers
      if !old.majority x acc && u.majority x acc then u.announceCull a x else u) t) s1

/-- CULL_TICK (R375): the plot, and with it a plot whose last live neighbour it was. -/
def execCullTick (s : State) : Result :=
  let p := s.ev.a
  .next (match (s.plot p).cullAt with
    | some t =>
      if s.tick < t ∨ (s.plot p).culled then s
      else
        let s1 := s.cullPlot p
        let alone := (plotNbrs p).filter (fun q => !(s1.plot q).culled && (s1.liveNbrs q).isEmpty)
        let s2 := alone.foldl (fun (u : State) q => (u.modPlot q (fun x => { x with stranded := true })).cullPlot q) s1
        s2.recount s p
    | none => s)

/-- PLOT_FAILURE (R373): the plot's core and router stop, or, with `flag`, it begins to babble. Nothing of a stopped core goes on.
DEDUCED: log entry 77. -/
def execPlotFailure (s : State) : Result :=
  let p := s.ev.a
  .next (if s.ev.flag then s.modPlot p (fun x => { x with failed := 2 })
    else
      let gs := (s.groups.filter (fun e => decide (e.2.plot = p) && !e.2.pgc)).map (fun e => e.1)
      let s1 := gs.foldl (fun (t : State) g => t.modGroup g (fun x => { x with
        loc := .gone, clause := none, hold := none, ops := [], pend := [], log := [], heldFails := [] })) s
      let s2 := (s1.teamsOn p).foldl (fun (t : State) e => t.modTeam e.1 (fun x => { x with cb := [], commits := [], walks := 0 })) s1
      s2.modPlot p (fun x => { x with failed := 1 }))

/-! ## Self-test, appeal, readmission (R376, R377) -/

/-- What the attestation tag covers: the plot's id, the result and the cull tick. -/
def attestOver (p result tick : Nat) : Nat := p + result * 2 ^ 9 + tick * 2 ^ 41

/-- An operation of TESTCTL ends with a status (R380). -/
def State.testStatus (s : State) (st : Nat) : State := s.modRegs (fun r => { r with testBusy := false, testStatus := st })

/-- Op 1 of TESTCTL waits for the self-test of a plot (R380). -/
def State.testWaits (s : State) (p : Nat) : Bool := s.regs.testBusy && decide (s.regs.testRun.1 = 1) && decide (s.regs.testRun.2.1 = p)

/-- SELF_TEST_END (R376): on a pass the plot appeals to its live neighbours. A plot readmitted meanwhile has no test any more, and op 1 of TESTCTL finds
it not culled (R380). DEDUCED: log entry 125. -/
def execSelfTestEnd (s : State) : Result :=
  let p := s.ev.a
  let x := s.plot p
  .next (if !x.culled then (if s.testWaits p then s.testStatus 4 else s)
    else if x.testEnd.all (fun t => decide (s.tick < t)) then s
    else
      let s1 := s.modPlot p (fun y => { y with testEnd := none })
      let s2 := if s.testWaits p then s1.testStatus (if s.ev.flag then 0 else 6) else s1
      if s.ev.flag then
        -- HB.RESULT: the id of the last package that ran on the plot, and a pass (R371, R380)
        let r := x.pkg * 65536
        let f := s.flit p 4 p x.cullTick r (Config.attestTag (attestOver p r x.cullTick))
        (s2.liveNbrs p).foldl (fun t q => t.atTick (s.tick + 1) .appeal { a := q, b := dirOf q p, f := f }) s2
      else s2)

/-- APPEAL (R376): the scan controller of the neighbour's die checks the tag for 100 ticks. -/
def execAppeal (s : State) : Result :=
  let p := s.ev.a
  let f := s.ev.f
  let s := s.countFlit p s.ev.b (hbSrc f)
  .next (if s.votes p && hbSound f && decide (hbKind f = 4) && decide (plotNbr p s.ev.b = some (hbSrc f)) && decide (hbSubj f = hbSrc f)
      && (s.plot (hbSrc f)).culled && !s.nvm.retiredPlots.contains (hbSrc f) then
      s.atTick (s.tick + 100) .attestCheckEnd { a := p, f := f }
    else s)

/-- A vote to readmit counts at a neighbour; a majority is announced when it is first reached. -/
def State.countReadmit (s : State) (p subj voter : Nat) : State :=
  let n := dirOf p subj
  let old := (s.nbr p n).readmit
  let l := insertNat old voter
  let s1 := s.modNbr p n (fun x => { x with readmit := l })
  if !s.majority subj old && s.majority subj l then s1.announceReadmit p subj else s1

/-- ATTEST_CHECK_END (R376): on a pass the neighbour votes. A vote carries no effective tick. -/
def execAttestCheckEnd (s : State) : Result :=
  let p := s.ev.a
  let f := s.ev.f
  let q := hbSrc f
  .next (if s.votes p && (s.plot q).culled && decide ((hbResult f).extractLsb' 0 16 = 0)
      && decide (hbAttest f = Config.attestTag (attestOver q (hbResult f).toNat (s.plot q).cullTick)) then
      (s.sendAround p q .readmit (s.flit p 5 q 0 0 0)).countReadmit p q p
    else s)

/-- READMIT (R376): a vote, or the announcement of a readmission tick. DEDUCED: log entry 75. -/
def execReadmit (s : State) : Result :=
  let p := s.ev.a
  let f := s.ev.f
  let q := hbSubj f
  let t := hbTick f
  let s := if t = 0 then s.countFlit p s.ev.b (hbSrc f) else if s.ev.b ≤ 1 then s.countAll (hbSrc f) else s
  .next (if !(hbSound f && decide (hbKind f = 5) && decide (q < 384)) || !(s.plot q).culled then s
    else if t = 0 then
      (if s.votes p && (plotNbrs p).contains q && (s.liveNbrs q).contains (hbSrc f) then s.countReadmit p q (hbSrc f) else s)
    else if (match (s.plot q).readmitAt with | some u => decide (u ≤ t) | none => false) then s
    else (s.modPlot q (fun x => { x with readmitAt := some t })).atTick t .readmissionTick { a := q })

/-- READMISSION_TICK (R377): the plot is in service and empty, CYCLE restarts, its neighbours hold it OK; the regraft is noted (R378). Its earlier
accusations of others stand (R374). DESIGN CHOICE: log entry 116. -/
def execReadmissionTick (s : State) : Result :=
  let p := s.ev.a
  let x := s.plot p
  .next (match x.readmitAt with
    | some t =>
      if s.tick < t ∨ !x.culled then s
      else
        let kept := (List.range 4).filterMap (fun n => match plotNbr p n with
          | some q => if (s.plot q).culled then some (n, ({ st := 3 } : Nbr)) else none
          | none => none)
        let s1 := s.modPlot p (fun _ => { cycleBase := s.cycle, cullTick := x.cullTick, hbSeq := x.hbSeq, cullDrop := x.cullDrop, nbr := kept,
                                          tslice := x.tslice, slotPart := x.slotPart, sliceStart := s.tick, withheld := x.withheld, hbCe := x.hbCe })
        let s2 := (plotNbrs p).foldl (fun (u : State) q => u.modNbr q (dirOf q p) (fun _ => {})) s1
        let s3 := s2.modNvm (fun n => { n with
          opTime := s.opTime, regrafts := tabPut n.regrafts p ((tabGet [] n.regrafts p ++ [s.opTime]).reverse.take 2).reverse })
        (s3.traceCull p 1).afterOnce 0 .placeCluster {}
    | none => s)

/-- OPERATING_TIME_SAVE (R378). -/
def execOperatingTimeSave (s : State) : Result := .next (s.modNvm (fun n => { n with opTime := s.opTime }))

/-! ## In-field tests (R379, R380) -/

/-- The place of byte `o` of the package at TESTADDR (R380): host memory, by its host physical address (R309). -/
def State.pkgAt (s : State) (o : Nat) : Nat := 0x0004000000000000 + s.regs.testAddr.toNat + o

/-- The header of the package at TESTADDR (R380). -/
def State.pkgHead (s : State) : TestPackage :=
  { id := s.readNat (s.pkgAt 0) 2, kind := s.readNat (s.pkgAt 2) 1, count := s.readNat (s.pkgAt 3) 1, total := s.readNat (s.pkgAt 4) 4,
    headerZero := decide (s.readNat (s.pkgAt 8) 56 = 0) }

/-- PKG.TARGETS (R380). -/
def State.pkgTargets (s : State) : List Nat := (List.range s.pkgHead.count).map (fun i => s.readNat (s.pkgAt (64 + 2 * i)) 2)

/-- The package is malformed (R380), `len` being TESTCTL.LEN. -/
def State.pkgMalformed (s : State) (len : Nat) : Bool :=
  let k := s.pkgHead
  decide (1 < k.kind) || decide (k.count = 0) || decide (96 < k.count) || decide (k.total % 64 ≠ 0) || decide (len * 4096 < k.total)
  || decide (k.total < 64 + (2 * k.count + 63) / 64 * 64 + 512)
  || s.pkgTargets.any (fun t => decide ((if k.kind = 0 then 384 else 96) ≤ t)) || !k.headerZero

/-- A key whose hash the fuse store holds unrevoked (R407). -/
def Nvm.trusts (n : Nvm) (k : PublicKey) : Bool := n.keys.any (fun h => !h.2 && decide (h.1.toNat = k.hash))

/-- PKG.SIG over the digest of the bytes before it, by the key of the firmware image, from which the boot ROM took its own (R379, R380).
DEDUCED: log entry 124. -/
def State.pkgVerified (s : State) : Bool :=
  let n := s.pkgHead.total - 512
  s.nvm.trusts s.nvm.image.key && s.nvm.image.key.signs (beNat (s.readMem (s.pkgAt n) 512)) (s.readMem (s.pkgAt 0) n)

/-- A plot is withdrawn; the test of package `id` runs once it holds no team. -/
def State.withdrawPlot (s : State) (id p : Nat) : State :=
  (s.modPlot p (fun x => { x with withdrawn := true, pkg := id })).afterOnce 0 .fieldTestRun { a := p }

/-- TEST_DELIVER (R380): the scan controller of IOA has read the package that TESTADDR names, or, with `flag`, a read failed on the link. A package that
reaches past what the device can address of host memory cannot be read. DEDUCED: log entry 125. -/
def execTestDeliver (s : State) : Result :=
  let len := s.regs.testRun.2.2
  let reject := fun (st : Nat) => (s.modRegs (fun r => { r with testRejects := sat16 r.testRejects })).testStatus st
  .next (if !s.regs.testBusy ∨ s.regs.testRun.1 ≠ 0 then s
    else if s.ev.flag || decide (2 ^ 50 < s.regs.testAddr.toNat + 4096 * len) then s.testStatus 3
    else if s.pkgMalformed len then reject 2
    else if !s.pkgVerified then reject 1
    else
      let k := s.pkgHead
      let ps := if k.kind = 0 then s.pkgTargets else s.pkgTargets.flatMap quadPlots
      let s1 := if k.kind = 0 then s else s.pkgTargets.foldl (fun (t : State) q => t.modQuad q (fun x => { x with withdrawn := true })) s
      (ps.foldl (fun (t : State) p => t.withdrawPlot k.id p) s1).testStatus 0)

/-- REGRAFT_TEST (R380): op 1 of TESTCTL, in the tick after its GO. -/
def execRegraftTest (s : State) : Result :=
  let p := s.regs.testRun.2.1
  .next (if !s.regs.testBusy ∨ s.regs.testRun.1 ≠ 1 then s
    else if !(s.plot p).culled then s.testStatus 4
    else if s.nvm.retiredPlots.contains p then s.testStatus 5
    else if (s.plot p).testEnd.isSome then s
    else s.startSelfTest p s.tick)

/-- FIELD_TEST_RUN (R379): once a withdrawn plot holds no team, the package runs on it. -/
def execFieldTestRun (s : State) : Result :=
  let p := s.ev.a
  .next (if !(s.plot p).withdrawn ∨ (s.plot p).testing then s
    else if (s.teamsOn p).isEmpty then s.modPlot p (fun x => { x with testing := true })
    else s.afterOnce 1 .fieldTestRun { a := p })

/-- A quad's withdrawal ends once none of its plots is still to be tested: each has passed, or has failed and is on its way to its cull (R379). -/
def State.quadTested (s : State) (q : Nat) : State :=
  if (quadPlots q).all (fun p => !(s.plot p).withdrawn || (s.plot p).selfFail) then
    (s.modQuad q (fun x => { x with withdrawn := false })).afterOnce 0 .placeCluster {}
  else s

/-- FIELD_TEST_RESULT (R379): a pass ends the withdrawal; a failure sets HB.HEALTH[3]. A quad's ends with its last plot. DESIGN CHOICE: log entry 76. -/
def execFieldTestResult (s : State) : Result :=
  let p := s.ev.a
  .next (if !(s.plot p).testing then s
    else if s.ev.flag then ((s.modPlot p (fun x => { x with testing := false, withdrawn := false })).quadTested (plotQuad p)).afterOnce 0 .placeCluster {}
    else (s.modPlot p (fun x => { x with testing := false, selfFail := true })).quadTested (plotQuad p))

end Sys2Proof.Machine
end

