-- ==== Sys2Proof/Machine/Reset.lean ====
section
/-! DEFINITION. The per-context reset (R384, R395, R396) and containment (R363). -/

namespace Sys2Proof.Machine

/-! ## What a context's tables map -/

/-- Leases that leaf entries name. -/
def leavesLeases (ls : List (Nat × Nat × Nat)) : List Nat :=
  ((ls.filter (fun e => decide (pteLoc e.1 = 1) || decide (pteLoc e.1 = 3))).map (fun e => fld e.1 36 12)).eraseDups

/-- HBM frames that leaf entries map. -/
def State.leavesFrames (s : State) (ls : List (Nat × Nat × Nat)) : List Nat :=
  (ls.filter (fun e => decide (pteLoc e.1 = 0))).flatMap (fun e => match pteDpa s e.1 e.2.1 0 with
    | some dpa => if isHbm s dpa then (List.range (2 ^ e.2.1 / 65536)).map (fun i => frameOf dpa + i) else []
    | none => [])

/-- Leaf entries of every enabled context but one. -/
def State.otherLeaves (s : State) (c : Nat) : List (Nat × Nat × Nat) :=
  (s.ctxs.filter (fun e => decide (e.1 ≠ c) && e.2.en)).flatMap (fun e => s.ctxLeaves e.1)

/-- A context's leases: those that its tables name and no other enabled context's. DEDUCED: log entry 67. -/
def State.ctxLeases (s : State) (c : Nat) : List Nat :=
  let others := leavesLeases (s.otherLeaves c)
  (leavesLeases (s.ctxLeaves c)).filter (fun i => !others.contains i && decide (leaseState (s.lease i).data ≠ 0))

/-- The frames mapped directly to a context, and to no other enabled one. DEDUCED: log entry 67. -/
def State.ctxFrames (s : State) (c : Nat) : List Nat :=
  let others := s.leavesFrames (s.otherLeaves c)
  (s.leavesFrames (s.ctxLeaves c)).filter (fun f => !others.contains f)

/-! ## The steps of R395 -/

/-- Step 2: every team of the context ends. -/
def State.resetTeams (s : State) (c : Nat) : State :=
  let ts := (s.teams.filter (fun e => e.2.live && decide (e.2.ctx = c))).map (fun e => e.1)
  let cs := s.clusters.filter (fun e => e.2.live && decide (e.2.ctx = c))
  let s1 := cs.foldl (fun (t : State) e => if e.2.fused then t.flushFused e.1 else t) s
  let s2 := ts.foldl (fun (t : State) i => t.freeTeam i 4) s1
  cs.foldl (fun (t : State) e => t.modCluster e.1 (fun x => { x with live := false })) s2

/-- Step 3 for one command: it stops, its signal word is written with status 9 where it can be, and it leaves the device. -/
def State.resetCmd (s : State) (id : Nat) : State :=
  let s1 := (s.stopCmd id).modCmd id (fun c => { c with status := 9 })
  match s1.cmd? id with
  | none => s1
  | some c0 =>
    let s2 := s1.endSum id c0
    match s2.cmd? id with
    | none => s2
    | some c =>
      let b := c.blk.toNat
      let s3 := if cmSigen b && decide (cmSig b % 8 = 0) then
          ((ceWrite c (cmSig b) (natBytes 8 (9 + 2 ^ 8 + c.sum.toNat * 2 ^ 32)) none .write).run.run s2).2
        else s2
      s3.cmdDone id { c with status := 9 }

/-- Step 4: launches that are not complete end with status 3. -/
def State.resetLaunches (s : State) (c : Nat) : State :=
  (s.ctx c).launches.foldl (fun (t : State) l =>
    let t1 := t.modLaunch c l.serial (fun x => { x with cancelled := true, again := [] })
    if l.done then t1.signalLaunch c l.serial else t1.gridComplete c l.serial) s

/-- A kind of record that belongs to a context: PAGE, LEASE, POOL_LOST, HOST_ANSWER, SHARD_BAD, CONTAIN; MODEL_FULL by the access that waits. -/
def ctxKind (k : Nat) : Bool := [1, 2, 4, 9, 10, 11, 13].contains k

/-- The latest CONTAIN record of a context: that of the containment which resets it, and it stays (R363). -/
def lastContain (c : Nat) (rs : List FqRec) : Option FqRec :=
  leastBy (fun (r : FqRec) => 2 ^ 64 - (r.data.extractLsb' 192 64).toNat) (rs.filter (fun r => decide (fqKind r.data = 13) && decide (fqCtx r.data = c)))

/-- Step 5: records of the context are dropped, its generation increments, its traps are discarded. A launch whose completion word is still to be
written keeps its entry until then. DEDUCED: log entry 67. -/
def State.resetRecords (s : State) (c : Nat) (contained : Bool) : State :=
  let held := (s.pgc.fq.map (fun e => e.2)) ++ s.pgc.fqWait.map (fun e => { data := s.fqPack e.1, order := 0, target := e.2 })
    ++ s.pgc.fqRoad.map (fun e => { data := s.fqPack e.2.1, order := 0, target := e.2.2 })
  let own := if contained then (lastContain c held).map (fun r => r.data) else none
  let mine := fun (r : FqRec) => ctxKind (fqKind r.data) && decide (fqCtx r.data = c) && decide (own ≠ some r.data)
  let unsent := fun (l : Launch) => s.scheduled .placeCluster { a := c, b := l.serial, flag := true }
  let spills := (held.filter mine).filterMap (fun r => match r.target with | .spill p => some p | _ => none)
  let s1 := (s.fqDrop mine).modCtx c (fun x =>
    { x with gen := x.gen + 1, traps := [], waitTraps := [], launches := x.launches.filter unsent, complete := [] })
  let s2 := spills.foldl (fun (t : State) p => t.after 0 .spillEngine { a := p }) s1
  { s2 with plots := s2.plots.map (fun e => (e.1, { e.2 with
      fetching := e.2.fetching.filter (fun l => decide (l.1 ≠ c)), fetchFail := e.2.fetchFail.filter (fun l => decide (l.1 ≠ c)) })) }

/-- Step 6 for one lease: FAILED ones are dropped; a request in progress ends first; otherwise dirty frames are written back and the
lease is returned. -/
def State.resetLease (s : State) (c i : Nat) : State :=
  let l := s.lease i
  if leaseState l.data = 0 then s.modLease i (fun x => { x with resetBy := none })
  else if leaseState l.data = 5 then s.freeLease i
  else if l.req.isSome then s.modLease i (fun x => { x with resetBy := some (c, false) })
  else
    let dirty := (s.leaseFrames i).filter (fun f => decide ((s.frame f).dirty ≠ 0) && !s.frameHeld f)
    let s1 := dirty.foldl (fun (t : State) f => (match (t.frame f).tag with | some u => t.dropUnit u | none => t).writeBackFrame f) s
    ((s1.leaseRequest i 4 { tag := 0, ret := true, sent := 0, before := leaseState l.data } 0).leaseTo i 6).modLease i
      (fun x => { x with resetBy := some (c, true) })

/-- A context's arenas are released, and read zero (R297). -/
def State.resetArenas (s : State) (c : Nat) : State :=
  let s1 := (s.ctx c).arenas.foldl (fun (t : State) a => (t.zeroArena c a (a.back.getD (List.range a.len))).1) s
  s1.modCtx c (fun x => { x with arenas := [], rootDone := false, rootStat := 0 })

/-- PTE.DEAD is set in the leaf entries of a context that map one of some frames directly (R274). -/
def State.markLeaves (s : State) (c : Nat) (fs : List Nat) : State :=
  ((s.ctxLeaves c).filter (fun l => decide (fld l.1 17 1 = 0) && (s.leavesFrames [l]).any (fun f => fs.contains f))).foldl
    (fun t l => t.homeStore l.2.2 (natBytes 8 (l.1 + 2 ^ 17))) s

/-- Step 6: arenas, frames, leases. A frame that is marked DEAD loses every cached copy without write-back (R274). -/
def State.resetMemory (s : State) (c : Nat) : State :=
  let ls := s.ctxLeases c
  let fs := (s.ctxFrames c).filter (fun f => !(s.frame f).retired)
  let s1 := fs.foldl (fun (t : State) f => (t.loseUnit f).modFrame f (fun x => { x with dead := true, zeroing := none })) ((s.markLeaves c fs).resetArenas c)
  ls.foldl (fun (t : State) i => t.resetLease c i) s1

/-- Step 7. DEDUCED: log entry 67. -/
def State.resetEnds (s : State) (c : Nat) (contained : Bool) : State :=
  ((s.modCtx c (fun x => { x with msixPending := 0, hintRej := 0, busy := false, reason := if contained then 2 else 1 })).raiseVector c
    (if contained then 64 else 65)).afterOnce 0 .placeCluster {}

/-- The leases that the reset returns: requests that have ended free their entries of it; the reset ends with the last. DEDUCED: log entry 79. -/
def State.resetPoll (s : State) (c : Nat) (contained : Bool) : State :=
  let s1 := (s.leases.filter (fun e => decide (e.2.resetBy = some (c, false)))).foldl (fun (t : State) e => t.resetLease c e.1) s
  let s2 := (s1.leases.filter (fun e => decide (e.2.resetBy = some (c, true)) && e.2.req.isNone)).foldl
    (fun (t : State) e => t.modLease e.1 (fun x => { x with resetBy := none })) s1
  if s2.leases.any (fun e => match e.2.resetBy with | some (d, _) => decide (d = c) | none => false) then
    s2.after 1 .contextReset { a := c, b := 1, flag := contained }
  else s2.resetEnds c contained

/-- Step 1: a doorbell whose block is still being read starts nothing any more; the queued launches go with the context's list in step 5. -/
def State.resetPlacer (s : State) (c : Nat) : State :=
  { s.modCtx c (fun x => { x with busy := true }) with agenda := s.agenda.filter (fun d => !(decide (d.what = .doorbell) && decide (d.ev.a = c))) }

/-- Steps 1 to 6 of R395. DEDUCED: log entry 66. -/
def State.resetContext (s : State) (c : Nat) (contained : Bool) : State :=
  let s1 := (s.resetPlacer c).resetTeams c
  let s2 := ((s1.cmds.filter (fun e => decide (e.2.ctx = c))).map (fun e => e.1)).foldl (fun (t : State) id => t.resetCmd id) s1
  (((s2.resetLaunches c).resetRecords c contained).resetMemory c).resetPoll c contained

/-- A request while a reset is in progress merges into it. DEDUCED: log entry 67. -/
def State.askReset (s : State) (c : Nat) (contained : Bool) : State := if (s.ctx c).busy then s else s.resetContext c contained

/-- CONTEXT_RESET (R395): context `a`; `flag` by containment; `b` = 1 the reset in progress looks for the answers to its returns. -/
def execContextReset (s : State) : Result :=
  .next (if s.ev.b = 1 then (if (s.ctx s.ev.a).busy then s.resetPoll s.ev.a s.ev.flag else s) else s.askReset s.ev.a s.ev.flag)

/-- A function that answers on the link (R384, R408): the PF, and a VF while VF enable is set; minimal mode leaves it clear. PRESUMED: log entry 123. -/
def State.hasFunction (s : State) (n : Nat) : Bool := decide (n = 0) || (decide (n < 64) && s.boot.vfEnable)

/-- FUNCTION_LEVEL_RESET (R384): function n is context n. -/
def execFunctionLevelReset (s : State) : Result := .next (if s.hasFunction s.ev.a then s.askReset s.ev.a false else s)

end Sys2Proof.Machine
end

