-- ==== Sys2Proof/Machine/Host.lean ====
section
/-! DEFINITION. What reaches the device from outside by its ports: writes of registers (R6, R385, R386, R398), MSI-X masks (R390), accesses of
the host and of peers to HBM (R393, R394, R396, R397). -/

namespace Sys2Proof.Machine

/-! ## Context windows (R385, R386) -/

/-- Host software writes context register `m`: fields that are RO or reserved are ignored, and so are writes of 0x0C1-0x0C8 while the
context is enabled. DEDUCED: log entry 80. -/
def State.ctxRegWrite (s : State) (c m : Nat) (v : DWord) : State :=
  let n := v.toNat
  let locked := (s.ctx c).en
  let area := fun (f : Context → Context) => if locked then s else s.modCtx c f
  match m with
  | 0x0C0 => s.modCtx c (fun x => { x with
      hprio := BitVec.ofNat 3 (fld n 13 3), hrows := BitVec.ofNat 3 (fld n 10 3), trace := v.getLsbD 9, en := v.getLsbD 8 })
  | 0x0C1 => area (fun x => { x with ptroot := v })
  | 0x0C2 => area (fun x => { x with handler := v })
  | 0x0C3 => area (fun x => { x with trapArea := v })
  | 0x0C4 => area (fun x => { x with spillArea := v })
  | 0x0C5 => area (fun x => { x with arenaHeap := v })
  | 0x0C6 => area (fun x => { x with arenaSize := v })
  | 0x0C7 => area (fun x => { x with walkScr := v })
  | 0x0C8 => area (fun x => { x with walkSize := v })
  | 0x0C9 => s.modCtx c (fun x => { x with cew := BitVec.ofNat 4 (fld n 4 4), hbmw := BitVec.ofNat 4 (fld n 0 4) })
  | 0x0CA => s.modCtx c (fun x => { x with vecEn := v })
  | 0x0CC => if v.getLsbD 0 then s.after 0 .contextReset { a := c } else s
  | _ => s

/-- A write at an offset of a context's window. DESIGN CHOICE: log entry 11. -/
def State.windowWrite (s : State) (c off : Nat) (v : DWord) : State :=
  -- the block is read and checked as launch does: 32 and 8 cycles (R27, R388); a write during a reset is discarded (R396)
  if off = 0x100 then (if (s.ctx c).en && !(s.ctx c).busy then s.after 40 .doorbell { a := c, v := v } else s)
  else if off % 8 = 0 ∧ off / 8 ≤ 0x0C then s.ctxRegWrite c (0x0C0 + off / 8) v
  else s

/-! ## Controls of the physical function (R385) -/

/-- TESTCTL (R380): PLOT, LEN and OP; GO starts OP unless an operation is in progress, and is then ignored. The package has been read after
one fabric path (R27). DEDUCED: log entries 80, 125. -/
def State.testCtl (s : State) (v : DWord) : State :=
  let n := v.toNat
  let op := fld n 1 2
  let len := fld n 20 19
  let plot := fld n 39 9
  if s.regs.testBusy then (if v.getLsbD 0 then s else s.modRegs (fun r => { r with testPlot := plot, testLen := len, testOp := op }))
  else
    let s1 := s.modRegs (fun r => { r with testPlot := plot, testLen := len, testOp := op })
    if !v.getLsbD 0 then s1
    else if 2 ≤ op ∨ (op = 0 ∧ len = 0) then s1.testStatus 7
    else
      let s2 := s1.modRegs (fun r => { r with testBusy := true, testRun := (op, plot, len) })
      if op = 1 then s2.atTick (s.tick + 1) .regraftTest {} else s2.after 1900 .testDeliver {}

/-- TSLICE clamps (R351). -/
def clampSlice (n : Nat) : Nat := Nat.min 10000000 (Nat.max 10000 n)

/-- A write at an offset of the physical function's BAR0. -/
def State.pfWrite (s : State) (off : Nat) (v : DWord) : State :=
  if off < 0x40000 then s.windowWrite (off / 0x1000) (off % 0x1000) v
  else if off < 0x44000 then (if off % 0x1000 = 0 then s.after 0 .l2scrWrite { a := (off - 0x40000) / 0x1000, v := v } else s)
  else if 0x60000 ≤ off ∧ off < 0x60000 + 16 * 384 then
    let p := (off - 0x60000) / 16
    if off % 16 = 0 then s.modPlot p (fun x => { x with tsliceNext := some (clampSlice (fld v.toNat 0 24)) })
    else if off % 16 = 8 then s.modPlot p (fun x => { x with slotPartNext := some (v &&& 0x00FFFFFFFFFFFFFF) })
    else s
  else
    match off with
    | 0x70000 => s.modRegs (fun r => { r with pgcAns0 := v })
    | 0x70008 => s.after 0 .hostAnswer { v := s.regs.pgcAns0, f := v.setWidth 256 }
    | 0x70010 => s.modRegs (fun r => { r with domId := v.setWidth 11 })
    | 0x71000 => s.modRegs (fun r => { r with testAddr := v &&& ~~~0xFFF })
    | 0x71008 => s.testCtl v
    | _ => s

/-! ## The debug port (R398) -/

/-- A write of a debug register. DEDUCED: log entry 33. TRTAIL keeps the whole value (R400). DESIGN CHOICE: log entry 122. -/
def State.debugWrite (s : State) (a : Nat) (v : DWord) : State :=
  if a = 0x0000 then s.modRegs (fun r => { r with dbgOwn := v })
  else if a = 0x0008 then s.haltRequest v
  else if a = 0x0010 then s.modRegs (fun r => { r with tstopt := v })
  else if a = 0x0018 then
    if v.getLsbD 2 then s.after 0 .tstopRelease {}
    else if v.getLsbD 0 then s.after 0 .tstopArm {}
    else s.modRegs (fun r => { r with arm := false })
  else if 0x0100 ≤ a ∧ a < 0x0300 ∧ a % 8 = 0 then
    s.modRegs (fun r => { r with brkMap := tabSet 0 r.brkMap ((a - 0x0100) / 8) (v &&& 0x01FFFFFFFFFFFFF8) })
  else if 0x0400 ≤ a ∧ a < 0x0600 ∧ a % 8 = 0 then
    s.modRegs (fun r => { r with brkWin := tabSet 0 r.brkWin ((a - 0x0400) / 8) (v &&& ~~~0xFFFF) })
  else if 0x0600 ≤ a ∧ a < 0x0690 ∧ a % 24 = 0 then s.after 0 .trringWrite { a := (a - 0x0600) / 24, v := v }
  else if 0x0600 ≤ a ∧ a < 0x0690 ∧ a % 24 = 16 then s.modDie ((a - 0x0600) / 24) (fun d => { d with trTail := v.toNat })
  else s

/-- REGISTER_WRITE (R6): offset `a` of the window, BAR0 or debug port of `ext` takes `v`. The compute dies are in reset in minimal mode and
during a start, and only DOMID and TESTADDR of the physical function can be written then (R408). A VF's window answers once VF enable is set. PRESUMED: log entry 123. -/
def execRegisterWrite (s : State) : Result :=
  let down := s.boot.minimal || s.boot.starting
  .next (match s.ev.ext with
    | .space (.window c) => if down ∨ !s.hasFunction c then s else s.windowWrite c s.ev.a s.ev.v
    | .space .pf => if down && !(decide (s.ev.a = 0x70010) || decide (s.ev.a = 0x71000)) then s else s.pfWrite s.ev.a s.ev.v
    | .space .debug => s.debugWrite s.ev.a s.ev.v
    | .space .sriov => if down then s else s.modBoot (fun b => { b with vfEnable := s.ev.v.getLsbD 0 })
    | _ => s)

/-! ## Reads of the same registers -/

/-- TESTCTL as it reads (R380). -/
def testCtlValue (r : Regs) : Nat :=
  r.testRejects * 2 ^ 48 + r.testPlot * 2 ^ 39 + r.testLen * 2 ^ 20 + r.testStatus * 2 ^ 16 + (if r.testBusy then 8 else 0) + r.testOp * 2

/-- What a read of a context's window returns (R385). -/
def State.windowRead (s : State) (c off : Nat) : DWord :=
  if off = 0x108 then (s.ctx c).rootStat
  else if off % 8 = 0 ∧ off / 8 ≤ 0x0C then ctxReg (s.ctx c) (0x0C0 + off / 8)
  else 0

/-- What a read of the physical function's BAR0 returns (R385). -/
def State.pfRead (s : State) (off : Nat) : DWord :=
  if off < 0x40000 then s.windowRead (off / 0x1000) (off % 0x1000)
  else if off < 0x44000 then
    let x := s.die ((off - 0x40000) / 0x1000)
    if off % 0x1000 = 0 then BitVec.ofNat 64 (x.scrCur * 512 + (if x.scrBusy then 256 else 0) + x.scrReq) else 0
  else if 0x60000 ≤ off ∧ off < 0x60000 + 16 * 384 then
    let x := s.plot ((off - 0x60000) / 16)
    if off % 16 = 0 then BitVec.ofNat 64 x.tslice else if off % 16 = 8 then x.slotPart else 0
  else
    match off with
    | 0x70000 => s.regs.pgcAns0
    | 0x70010 => s.regs.domId.setWidth 64
    | 0x71000 => s.regs.testAddr
    | 0x71008 => BitVec.ofNat 64 (testCtlValue s.regs)
    | _ => 0

/-- What a read of a debug register returns (R398). -/
def State.debugRead (s : State) (a : Nat) : DWord :=
  if a = 0x0000 then s.regs.dbgOwn
  else if a = 0x0010 then s.regs.tstopt
  else if a = 0x0018 then BitVec.ofNat 64 ((if s.regs.arm then 1 else 0) + (if s.regs.stopped then 2 else 0))
  else if 0x0100 ≤ a ∧ a < 0x0300 ∧ a % 8 = 0 then tabGet 0 s.regs.brkMap ((a - 0x0100) / 8)
  else if 0x0400 ≤ a ∧ a < 0x0600 ∧ a % 8 = 0 then tabGet 0 s.regs.brkWin ((a - 0x0400) / 8)
  else if 0x0600 ≤ a ∧ a < 0x0690 then
    let d := s.die ((a - 0x0600) / 24)
    if a % 24 = 0 then d.trRing else if a % 24 = 8 then BitVec.ofNat 64 d.trHead else if a % 24 = 16 then BitVec.ofNat 64 d.trTail else 0
  else 0

/-! ## MSI-X (R390) -/

/-- Sends the pending messages of a context that nothing masks any more, lowest vector first (R390). PRESUMED: log entry 3. -/
def State.msixFlush (s : State) (c : Nat) : State :=
  (List.range 66).foldl (fun (t : State) n =>
    let x := t.ctx c
    if x.msixPending.getLsbD n && !x.msixMask.getLsbD n && !x.msixAll then
      (t.modCtx c (fun y => { y with msixPending := y.msixPending &&& ~~~ BitVec.ofNat 66 (2 ^ n) })).emit (.msix c n)
    else t) s

/-- MSIX_UNMASK (R390): host software writes the mask bit of vector `b` of context `a`, or, with `b` = 66, the function mask: it clears the bit, and
what is pending and no longer masked is sent; with `flag` it sets the bit. PRESUMED: log entry 3. -/
def execMsixUnmask (s : State) : Result :=
  let c := s.ev.a
  let n := s.ev.b
  let bit := BitVec.ofNat 66 (2 ^ n)
  .next (if !s.hasFunction c ∨ 67 ≤ n then s
    else if s.ev.flag then
      s.modCtx c (fun x => if n = 66 then { x with msixAll := true } else { x with msixMask := x.msixMask ||| bit })
    else (s.modCtx c (fun x => if n = 66 then { x with msixAll := false } else { x with msixMask := x.msixMask &&& ~~~bit })).msixFlush c)

/-! ## Accesses from outside (R393, R394, R396, R397) -/

/-- Blocks that a range of bytes touches, as the address and length of each part. -/
def blockParts : Nat → Nat → Nat → List (Nat × Nat)
  | 0, _, _ => []
  | fuel + 1, a, n =>
    if n = 0 then []
    else let k := Nat.min n (64 - a % 64); (a, k) :: blockParts fuel (a + k) (n - k)

/-- The parts of an access. -/
def fabricParts (a n : Nat) : List (Nat × Nat) := blockParts (n / 64 + 2) a n

/-- The home slice takes each block for a write from outside. -/
def State.fabricOwn (s : State) (a n : Nat) : State :=
  (fabricParts a n).foldl (fun (t : State) p => (t.eccMiss p.1).ownHome p.1) s

/-- The blocks of an access from outside, as any other, wait for a fill of their frames and for their channels; a write starts the zero fill of a DEAD
frame (R275, R412). Answers the wait. -/
def State.fabricWait (s : State) (a n : Nat) (write : Bool) : State × Nat :=
  (fabricParts a n).foldl (fun (x : State × Nat) p =>
    let y := if write then x.1.uncached p.1 else (x.1, (x.1.blockWait p.1).getD 0)
    (y.1, Nat.max x.2 y.2)) (s, 0)

/-- The loader's metadata words of the blocks from an address on (R108). -/
def State.fabricDesc (s : State) (a : Nat) (ds : List (BitVec 48)) : State :=
  ((List.range ds.length).zip ds).foldl (fun (t : State) p => let b := a / 64 * 64 + 64 * p.1; if hasMeta b then t.writeDesc b p.2 else t) s

/-- A write from outside at the home slices. -/
def State.fabricStore (s : State) (a : Nat) (bs : List Byte) : State :=
  (fabricParts a bs.length).foldl (fun (t : State) p => t.storeMem p.1 ((bs.drop (p.1 - a)).take p.2)) (s.fabricOwn a bs.length)

/-- The bytes that a peer's part of a stream writes, and whether its EGC stream is well-formed. DEDUCED: log entry 50. -/
def peerBytes (bs : List Byte) : Option (Nat × Nat) → List Byte × Bool
  | none => (bs, true)
  | some (fmt, n) =>
    let t := egcOf (decide (fmt = 0)) fmt
    let r := egcDecode t n bs
    (r.1.flatMap (natBytes t.bytes), r.2)

/-- A checksum continued over the bytes written (R394). DEDUCED: log entry 50. -/
def peerSum (kind : Nat) (v : BitVec 32) (pos : Nat) (bs : List Byte) : BitVec 32 :=
  match kind with
  | 1 => (bs.foldl (fun (a : BitVec 32 × Nat) b => (sum32Byte a.1 a.2 b, a.2 + 1)) (v, pos)).1
  | 2 => crc32c v bs
  | _ => 0

/-- All of a range lies in HBM, which is what the device exposes (R397). DEDUCED: log entry 81. -/
def inHbm (s : State) (a n : Nat) : Bool := decide (a + n ≤ s.hbmFrames * 65536)

/-- A request from outside is performed (R396), at once where its blocks need not be waited for. A REDUCE adds at the home slices, element by element
(R394). -/
def State.fabricPerform (s : State) (r : FabricReq) : State :=
  let held := fun (a n : Nat) (write : Bool) (f : State → State) =>
    let w := s.fabricWait a n write
    if !inHbm s a n then s else if 0 < w.2 then w.1.after w.2 .fabricMemRequest s.ev else f w.1
  match r with
  | .read a n => held a n false (fun s =>
      let s1 := (fabricParts a n).foldl (fun (t : State) p => (t.eccMiss p.1).l2Storage p.1) s
      s1.emit (.readData a (s1.readMem a n) ((fabricParts a n).any (fun p => s1.poisoned p.1))))
  | .write a bs ds => held a bs.length true (fun s => (s.fabricStore a bs).fabricDesc a ds)
  | .reduce a w bs kind v pos final egc =>
    let d := peerBytes bs (egc.map (fun n => (if w then 0 else 0x18, n)))
    if a % (if w then 16 else 4) ≠ 0 then s
    else held a d.1.length true (fun s =>
      let s1 := s.fabricOwn a d.1.length
      let sums := reduceBytes w (s1.readMem a d.1.length) d.1
      let s2 := s1.fabricStore a sums
      if final || !d.2 then s2.emit (.peerDone d.2 (peerSum kind v pos sums)) else s2)
  | .peerWrite a bs kind v pos final egc =>
    let d := peerBytes bs egc
    held a d.1.length true (fun s =>
      let s1 := s.fabricStore a d.1
      if final || !d.2 then s1.emit (.peerDone d.2 (peerSum kind v pos d.1)) else s1)

/-- FABRIC_MEM_REQUEST (R396). A request outside HBM reaches nothing. DEDUCED: log entry 81. -/
def execFabricMemRequest (s : State) : Result :=
  .next (if s.boot.minimal || s.boot.starting then s else
    match s.ev.ext with
    | .request r => s.fabricPerform r
    | _ => s)

end Sys2Proof.Machine
end

