-- ==== Sys2Proof/Machine/Boot.lean ====
section
/-! DEFINITION. Device reset and the boot sequence (R407-R409), power and HBM rate points (R410-R412), the management port (R413), thermal
trips (R414). -/

namespace Sys2Proof.Machine

/-! ## Device reset (R407) -/

/-- Memory that lies outside the package keeps its contents. DEDUCED: log entry 82. -/
def outsideDpa (dpa : Nat) : Bool := isHost dpa || isPool dpa || isPeer dpa

/-- All device state is discarded but the fuse store and the module flash; the operating time goes on from the value last written (R378).
Nothing runs until a start reaches step 7. Dirty blocks of the L2 go with it, so that the memory behind them holds what was last written back. The
counter of the free values and what has left the package are the model's own. DEDUCED: log entry 82. -/
def State.discard (s : State) (src : Nat) : State :=
  let s := s.under.foldl (fun (t : State) e => t.loseLine (e.1 * 64)) s
  { State.reset with
    groups := [(0, { pgcGroup 0 with loc := .gone }), (1, { pgcGroup 1 with loc := .gone })]
    agenda := []
    fresh := s.fresh
    mem := s.mem.filter (fun c => outsideDpa c.1)
    desc := s.desc.filter (fun c => outsideDpa (c.1 * 64))
    poison := s.poison.filter (fun b => outsideDpa (b * 64))
    nvm := s.nvm
    boot := { src := src, opBase := s.nvm.opTime, starting := true, links := [], sensed := s.boot.sensed }
    outbox := s.outbox }

/-- Minimal mode (R408): only the I/O dies and the ports are powered; the boot ROM has trained port 0, and the others stay down; its event is sent
(R413). -/
def State.enterMinimal (s : State) (links : Tab (Nat × Nat)) : State :=
  (s.modBoot (fun b => { b with minimal := true, starting := false, fwver := 0, links := [(0, (tabFind links 0).getD (64, 16))] })).emit (.event 0 0)

/-- A start fails (R407): its cause and step are kept, and the count rises to 3 at most. -/
def State.startFails (s : State) (step cause : Nat) : State :=
  s.modNvm (fun n => { n with fails := Nat.min 3 (n.fails + 1), cause := cause, step := step })

/-- The image's signature over its digest, by its own key, which the fuse store must trust (R407). The digest is over the version and the bytes.
DEDUCED: log entry 124. -/
def Nvm.imageGood (n : Nvm) : Bool := n.trusts n.image.key && n.image.key.signs n.image.sig (natBytes 4 n.image.version.toNat ++ n.image.bytes)

/-- Port 0 has linked (R407). -/
def BootFacts.portOk (f : BootFacts) : Bool := (tabFind f.links 0).isSome

/-- The first step of R407 that fails, with its cause. Plots already retired are not tested. -/
def State.failedStep (s : State) (f : BootFacts) : Option (Nat × Nat) :=
  if !f.fuseOk then some (1, 7)
  else if !f.flashOk || !s.nvm.imageGood then some (2, 1)
  else if s.nvm.image.version.toNat < s.nvm.minVersion.toNat then some (3, 2)
  else if !f.trained then some (4, 3)
  else if 16 < (f.failedPlots.eraseDups.filter (fun p => decide (p < 384) && !s.nvm.retiredPlots.contains p)).length then some (5, 4)
  else if !f.portOk then some (6, 5)
  else none

/-- A plot that is not in service: its neighbours have no live neighbour there (R381). -/
def State.fence (s : State) (p : Nat) : State :=
  (plotNbrs p).foldl (fun (t : State) q => t.modNbr q (dirOf q p) (fun _ => { st := 3 })) s

/-- Steps 4, 5 and 7 of a start that succeeds. DEDUCED: log entry 77. DEDUCED: log entry 83. -/
def State.started (s : State) (f : BootFacts) : State :=
  let gone := s.nvm.retiredPlots
  let bad := f.failedPlots.eraseDups.filter (fun p => decide (p < 384) && !gone.contains p)
  let s1 : State := { s with groups := State.reset.groups, agenda := State.reset.agenda }
  let s2 := (s1.writeMem 0x00F800000000 s.nvm.image.bytes).modBoot (fun b => { b with
    starting := false, fwver := s.nvm.image.version, parity := f.parity, links := f.links })
  let s3 := s.nvm.retiredFrames.foldl (fun (t : State) i => t.modFrame i (fun x => { x with retired := true })) s2
  let s4 := s.nvm.quarantined.foldl (fun (t : State) k => t.modDie (k / 512) (fun d => { d with quarantined := insertNat d.quarantined (k % 512) })) s3
  let s5 := gone.foldl (fun (t : State) p => (t.modPlot p (fun x => { x with culled := true, retired := true })).fence p) s4
  let s6 := bad.foldl (fun (t : State) p => t.modPlot p (fun x => { x with selfFail := true, stranded := true })) s5
  s6.modNvm (fun n => { n with fails := 0 })

/-- Starts one after another, each with what it meets: one that fails is followed by the next, three in a row lead to minimal mode; one that
does not reach step 7 goes on until the watchdog ends it. DEDUCED: log entry 83. -/
def State.starts : State → List BootFacts → State
  | s, [] => if s.nvm.fails = 3 then s.enterMinimal [] else s.atTick (2 ^ 34) .bootWatchdog {}
  | s, f :: rest =>
    if s.nvm.fails = 3 then s.enterMinimal f.links
    else
      match s.failedStep f with
      | some (step, cause) => State.starts (s.startFails step cause) rest
      | none => if f.inTime then s.started f else s.atTick (2 ^ 34) .bootWatchdog { ext := .boots rest }

/-- The starts that an event brings. -/
def Ev.boots (e : Ev) : List BootFacts := match e.ext with | .boots b => b | _ => []

/-- POWER_ON (R407). -/
def execPowerOn (s : State) : Result := .next ((s.discard 0).starts s.ev.boots)
/-- PERST (R407). -/
def execPerst (s : State) : Result := .next ((s.discard 1).starts s.ev.boots)
/-- MANAGEMENT_RESET (R413). -/
def execManagementReset (s : State) : Result := .next ((s.discard 2).starts s.ev.boots)

/-- BOOT_WATCHDOG (R407): a start that is still running 2^34 ticks after reset fails, and the device resets again. -/
def execBootWatchdog (s : State) : Result :=
  .next (if s.boot.starting then ((s.startFails 0 6).discard s.boot.src).starts s.ev.boots else s)

/-! ## HBM rate points (R412) -/

/-- Rate code of a channel, as ordered last. -/
def State.rateOf (s : State) (k : Nat) : Nat :=
  match tabFind s.boot.switching k with
  | some (_, c, q) => q.getD c
  | none => tabGet 0 s.boot.rate k

/-- Firmware orders a channel to a rate point: a stall of 1,500 ticks, after one that is in force. DEDUCED: log entry 84. -/
def State.orderRate (s : State) (k code : Nat) : State :=
  match tabFind s.boot.switching k with
  | some (e, c, _) => s.modBoot (fun b => { b with switching := tabPut b.switching k (e, c, some code) })
  | none =>
    (s.modBoot (fun b => { b with switching := tabPut b.switching k (s.cycle + 3000, code, none) })).after 3000 .hbmRateSwitch
      { a := k / 32, b := k % 32 }

/-- HBM_RATE_SWITCH (R412): the stall of channel `b` of stack `a` ends. -/
def execHbmRateSwitch (s : State) : Result :=
  let k := 32 * s.ev.a + s.ev.b
  .next (match tabFind s.boot.switching k with
    | none => s
    | some (e, c, q) =>
      if s.cycle < e then s
      else
        let s1 := s.modBoot (fun b => { b with switching := tabDel b.switching k, rate := tabSet 0 b.rate k c })
        match q with
        | some d => s1.orderRate k d
        | none => s1)

/-! ## Power and temperature (R411, R414) -/

/-- Temperature of a channel in a sample: one not listed is at 60 degrees. DEDUCED: log entry 84. -/
def PowerReading.temp (r : PowerReading) (k : Nat) : Nat :=
  match r.channels.find? (fun e => decide (32 * e.1 + e.2.1 = k)) with
  | some e => e.2.2
  | none => 60

/-- The hottest channel of a stack that can step down, the lowest number among equals. DEDUCED: log entry 84. -/
def State.hottest (s : State) (r : PowerReading) (st : Nat) : Option Nat :=
  leastBy (fun k => 1000 - r.temp k) (((List.range 32).map (fun c => 32 * st + c)).filter (fun k => decide (s.rateOf k < 2)))

/-- The first action of R411 that a sample calls for. DEDUCED: log entry 84. -/
def State.powerAct (s : State) (r : PowerReading) : State :=
  let all := List.range 256
  let tooHot := all.filter (fun k => decide (95 < r.temp k) && decide (s.rateOf k < 2))
  if !tooHot.isEmpty then tooHot.foldl (fun (t : State) k => (t.orderRate k (t.rateOf k + 1)).emit (.event 1 k)) s
  else if s.boot.pwrcap < r.watts then
    if all.all (fun k => decide (s.rateOf k = 2)) then
      ((((List.range 384).reverse.filter (fun p => s.inService p && !(s.plot p).withheld)).take 8).foldl
        (fun (t : State) p => t.modPlot p (fun x => { x with withheld := true })) s)
    else ((List.range 8).filterMap (s.hottest r)).foldl (fun (t : State) k => t.orderRate k (t.rateOf k + 1)) s
  else if 10 * r.watts ≤ 9 * s.boot.pwrcap ∧ all.all (fun k => decide (r.temp k ≤ 85)) then
    if s.plots.any (fun e => e.2.withheld) then
      ({ s with plots := s.plots.map (fun e => (e.1, { e.2 with withheld := false })) } : State).afterOnce 0 .placeCluster {}
    else (all.filter (fun k => decide (0 < s.rateOf k))).foldl (fun (t : State) k => t.orderRate k (t.rateOf k - 1)) s
  else s

/-- The dies above 110 degrees (R414). -/
def PowerReading.hotDies (r : PowerReading) : List Nat := (List.range 6).filter (fun d => decide (110 < tabGet 60 r.dies d))

/-- Firmware's sample of what the sensors show (R411, R414): one die above 110 degrees in two samples in a row trips the module, which is not a failed
start. -/
def State.sample (s : State) (r : PowerReading) : State :=
  if r.hotDies.any (fun d => s.boot.hot.contains d) then (s.discard 3).starts r.boots
  else (s.modBoot (fun b => { b with hot := r.hotDies, watts := r.watts, coolant := r.coolant, temps := r.channels })).powerAct r

/-- POWER_SAMPLE (R411): every 2^20 ticks firmware samples. With a reading the outside world changes what the sensors show. DEDUCED: log entry 84. -/
def execPowerSample (s : State) : Result :=
  .next (match s.ev.ext with
    | .power r => s.modBoot (fun b => { b with sensed := r })
    | _ => if s.boot.minimal || s.boot.starting then s else s.sample s.boot.sensed)

/-! ## The management port (R410, R413) -/

/-- A register that management reads: identification, boot, power and rate registers. -/
def State.mgmtValue (s : State) (n : Nat) : DWord :=
  s.srValue { gid := 0, g := { pgc := true }, c := { addr := 0, hdr := 0, words := [], lanes := 0 } } n

/-- The DVSEC of the PF's configuration space by offset: BOOTREASON at 0x10 (R409). -/
def State.dvsecRead (s : State) (off : Nat) : DWord := if off = 0x10 then BitVec.ofNat 64 s.bootReason else 0

/-- MGMT_REGISTER_READ (R413): 0x030-0x03F and 0x200-0x23F; a message for any other register is none of the endpoint's. -/
def execMgmtRegisterRead (s : State) : Result :=
  let n := s.ev.a
  .next (if (0x030 ≤ n ∧ n ≤ 0x03F) ∨ (0x200 ≤ n ∧ n ≤ 0x23F) then s.emit (.mgmtReg n (s.mgmtValue n)) else s)

/-- MGMT_PWRCAP_WRITE (R410): a value outside 600-1,800 is clamped. -/
def execMgmtPwrcapWrite (s : State) : Result :=
  .next (s.modBoot (fun b => { b with pwrcap := Nat.min 1800 (Nat.max 600 s.ev.v.toNat) }))

/-- CLEAR_FAILED_START (R413). -/
def execClearFailedStart (s : State) : Result := .next (s.modNvm (fun n => { n with fails := 0 }))

/-- PLDM_FIRMWARE_UPDATE (R408, R413): the image is written to module flash; its signature is checked when it is loaded.
DESIGN CHOICE: log entry 85. -/
def execPldmFirmwareUpdate (s : State) : Result :=
  .next (match s.ev.ext with
    | .image i => s.modNvm (fun n => { n with image := i })
    | _ => s)

/-- PLDM_MONITORING (R413): the last sample's readings. -/
def execPldmMonitoring (s : State) : Result := .next (s.emit (.pldm s.boot.watts s.boot.coolant s.boot.temps))

/-- MCTP_CONTROL (R413): the endpoint answers; the binding's own specification, and no rule, gives the answer's content.
DESIGN CHOICE: log entry 85. -/
def execMctpControl (s : State) : Result :=
  .next { (s.emit (.mctp s.ev.a (Config.freeWord s.fresh))) with fresh := s.fresh + 1 }

end Sys2Proof.Machine
end

