-- ==== Sys2Proof/Machine/Memory.lean ====
section
/-! DEFINITION. The loads, stores, tile accesses and atomics of the lanes and of the group (R190-R209, R218). Each issues as a
variable-latency word whose operands are captured; `State.performAccess` says what its access does. -/

namespace Sys2Proof.Machine

/-! ## Lane loads and stores (R190-R192) -/

def execVldB8 (d a : BitVec 7) (f n : BitVec 1) (s : BitVec 5) (x : BitVec 3) (st : State) : Result :=
  memWord (.vldB8 d a f n s x) st
def execVldI8 (d a : BitVec 7) (f n : BitVec 1) (s : BitVec 5) (x : BitVec 3) (st : State) : Result :=
  memWord (.vldI8 d a f n s x) st
def execVldB16 (d a : BitVec 7) (f n : BitVec 1) (s : BitVec 5) (x : BitVec 3) (st : State) : Result :=
  memWord (.vldB16 d a f n s x) st
def execVldI16 (d a : BitVec 7) (f n : BitVec 1) (s : BitVec 5) (x : BitVec 3) (st : State) : Result :=
  memWord (.vldI16 d a f n s x) st
def execVldB32 (d a : BitVec 7) (f n : BitVec 1) (s : BitVec 5) (x : BitVec 3) (st : State) : Result :=
  memWord (.vldB32 d a f n s x) st
def execVldB64 (d a : BitVec 7) (f n : BitVec 1) (s : BitVec 5) (x : BitVec 3) (st : State) : Result :=
  memWord (.vldB64 d a f n s x) st
def execVldB128 (d a : BitVec 7) (f n : BitVec 1) (s : BitVec 5) (x : BitVec 3) (st : State) : Result :=
  memWord (.vldB128 d a f n s x) st
def execVstB8 (d a : BitVec 7) (f n : BitVec 1) (s : BitVec 5) (x : BitVec 3) (st : State) : Result :=
  memWord (.vstB8 d a f n s x) st
def execVstB16 (d a : BitVec 7) (f n : BitVec 1) (s : BitVec 5) (x : BitVec 3) (st : State) : Result :=
  memWord (.vstB16 d a f n s x) st
def execVstB32 (d a : BitVec 7) (f n : BitVec 1) (s : BitVec 5) (x : BitVec 3) (st : State) : Result :=
  memWord (.vstB32 d a f n s x) st
def execVstB64 (d a : BitVec 7) (f n : BitVec 1) (s : BitVec 5) (x : BitVec 3) (st : State) : Result :=
  memWord (.vstB64 d a f n s x) st
def execVstB128 (d a : BitVec 7) (f n : BitVec 1) (s : BitVec 5) (x : BitVec 3) (st : State) : Result :=
  memWord (.vstB128 d a f n s x) st

/-! ## Formatted accesses (R195-R198) -/

def execVldf (d a : BitVec 7) (f n : BitVec 1) (s : BitVec 5) (x : BitVec 3) (st : State) : Result :=
  memWord (.vldf d a f n s x) st
def execVstf (d a : BitVec 7) (f n : BitVec 1) (s : BitVec 5) (x : BitVec 3) (st : State) : Result :=
  memWord (.vstf d a f n s x) st

/-! ## Shared tiles (R218) -/

def execVldt (d a : BitVec 7) (f : BitVec 1) (t : BitVec 5) (x : BitVec 3) (st : State) : Result :=
  memWord (.vldt d a f t x) st
def execVstt (d a : BitVec 7) (f : BitVec 1) (t : BitVec 5) (x : BitVec 3) (st : State) : Result :=
  memWord (.vstt d a f t x) st

/-! ## Atomics (R203, R205) -/

def execVatomAddN32 (d a : BitVec 7) (f n : BitVec 1) (s : BitVec 5) (c : BitVec 2) (r : BitVec 1) (st : State) : Result :=
  memWord (.vatomAddN32 d a f n s c r) st
def execVatomAddF32 (d a : BitVec 7) (f n : BitVec 1) (s : BitVec 5) (c : BitVec 2) (r : BitVec 1) (st : State) : Result :=
  memWord (.vatomAddF32 d a f n s c r) st
def execVatomMinI32 (d a : BitVec 7) (f n : BitVec 1) (s : BitVec 5) (c : BitVec 2) (r : BitVec 1) (st : State) : Result :=
  memWord (.vatomMinI32 d a f n s c r) st
def execVatomMaxI32 (d a : BitVec 7) (f n : BitVec 1) (s : BitVec 5) (c : BitVec 2) (r : BitVec 1) (st : State) : Result :=
  memWord (.vatomMaxI32 d a f n s c r) st
def execVatomMinN32 (d a : BitVec 7) (f n : BitVec 1) (s : BitVec 5) (c : BitVec 2) (r : BitVec 1) (st : State) : Result :=
  memWord (.vatomMinN32 d a f n s c r) st
def execVatomMaxN32 (d a : BitVec 7) (f n : BitVec 1) (s : BitVec 5) (c : BitVec 2) (r : BitVec 1) (st : State) : Result :=
  memWord (.vatomMaxN32 d a f n s c r) st
def execVatomAnd (d a : BitVec 7) (f n : BitVec 1) (s : BitVec 5) (c : BitVec 2) (r : BitVec 1) (st : State) : Result :=
  memWord (.vatomAnd d a f n s c r) st
def execVatomOr (d a : BitVec 7) (f n : BitVec 1) (s : BitVec 5) (c : BitVec 2) (r : BitVec 1) (st : State) : Result :=
  memWord (.vatomOr d a f n s c r) st
def execVatomXor (d a : BitVec 7) (f n : BitVec 1) (s : BitVec 5) (c : BitVec 2) (r : BitVec 1) (st : State) : Result :=
  memWord (.vatomXor d a f n s c r) st
def execVatomXchg (d a : BitVec 7) (f n : BitVec 1) (s : BitVec 5) (c : BitVec 2) (r : BitVec 1) (st : State) : Result :=
  memWord (.vatomXchg d a f n s c r) st
def execVatomCas (d a : BitVec 7) (f n : BitVec 1) (s : BitVec 5) (c : BitVec 2) (r : BitVec 1) (st : State) : Result :=
  memWord (.vatomCas d a f n s c r) st
def execVatomAddN64 (d a : BitVec 7) (f n : BitVec 1) (s : BitVec 5) (c : BitVec 2) (r : BitVec 1) (st : State) : Result :=
  memWord (.vatomAddN64 d a f n s c r) st
def execSatom (d a b : BitVec 6) (s : BitVec 2) (p : BitVec 3) (f : BitVec 1) (st : State) : Result :=
  memWord (.satom d a b s p f) st

/-! ## Uniform loads and stores, references (R207-R209) -/

def execSld (d b i : BitVec 6) (w : BitVec 2) (s f : BitVec 1) (c : BitVec 2) (st : State) : Result :=
  memWord (.sld d b i w s f c) st
def execSst (d b i : BitVec 6) (w : BitVec 2) (f : BitVec 1) (c : BitVec 2) (st : State) : Result :=
  memWord (.sst d b i w f c) st
def execRld (d b i : BitVec 6) (f : BitVec 1) (c : BitVec 2) (st : State) : Result :=
  memWord (.rld d b i f c) st
def execRst (d b i : BitVec 6) (f : BitVec 1) (c : BitVec 2) (st : State) : Result :=
  memWord (.rst d b i f c) st

end Sys2Proof.Machine
end

