-- ==== Sys2Proof/Machine/Dispatch.lean ====
section
/-! DEFINITION. The meaning of each step: one arm per constructor of `Instr`. -/

namespace Sys2Proof.Machine

def exec (i : Instr) (s : State) : Host.Outcome State Fault Refusal :=
  match i with
  | .vaddI32 d a b x => Sys2Proof.Machine.execVaddI32 d a b x s
  | .vsubI32 d a b x => Sys2Proof.Machine.execVsubI32 d a b x s
  | .vaddsI32 d a b x => Sys2Proof.Machine.execVaddsI32 d a b x s
  | .vaddsN32 d a b x => Sys2Proof.Machine.execVaddsN32 d a b x s
  | .vsubsI32 d a b x => Sys2Proof.Machine.execVsubsI32 d a b x s
  | .vsubsN32 d a b x => Sys2Proof.Machine.execVsubsN32 d a b x s
  | .vmulI32 d a b x => Sys2Proof.Machine.execVmulI32 d a b x s
  | .vmulhI32 d a b x => Sys2Proof.Machine.execVmulhI32 d a b x s
  | .vmulhN32 d a b x => Sys2Proof.Machine.execVmulhN32 d a b x s
  | .vmadI32 d a b x => Sys2Proof.Machine.execVmadI32 d a b x s
  | .vminI32 d a b x => Sys2Proof.Machine.execVminI32 d a b x s
  | .vmaxI32 d a b x => Sys2Proof.Machine.execVmaxI32 d a b x s
  | .vminN32 d a b x => Sys2Proof.Machine.execVminN32 d a b x s
  | .vmaxN32 d a b x => Sys2Proof.Machine.execVmaxN32 d a b x s
  | .vand d a b x => Sys2Proof.Machine.execVand d a b x s
  | .vor d a b x => Sys2Proof.Machine.execVor d a b x s
  | .vxor d a b x => Sys2Proof.Machine.execVxor d a b x s
  | .vandn d a b x => Sys2Proof.Machine.execVandn d a b x s
  | .vshl d a b x => Sys2Proof.Machine.execVshl d a b x s
  | .vshrN32 d a b x => Sys2Proof.Machine.execVshrN32 d a b x s
  | .vshrI32 d a b x => Sys2Proof.Machine.execVshrI32 d a b x s
  | .vrol d a b x => Sys2Proof.Machine.execVrol d a b x s
  | .vunI d a s0 x => Sys2Proof.Machine.execVunI d a s0 x s
  | .vmov d a x => Sys2Proof.Machine.execVmov d a x s
  | .vli d n0 x => Sys2Proof.Machine.execVli d n0 x s
  | .vsel d a b k => Sys2Proof.Machine.execVsel d a b k s
  | .vcmpI32 k c a b x => Sys2Proof.Machine.execVcmpI32 k c a b x s
  | .vcmpN32 k c a b x => Sys2Proof.Machine.execVcmpN32 k c a b x s
  | .vcmpF32 k c a b x => Sys2Proof.Machine.execVcmpF32 k c a b x s
  | .vcmpF64 k c a b x => Sys2Proof.Machine.execVcmpF64 k c a b x s
  | .vlane d x => Sys2Proof.Machine.execVlane d x s
  | .vaddF32 d a b x => Sys2Proof.Machine.execVaddF32 d a b x s
  | .vsubF32 d a b x => Sys2Proof.Machine.execVsubF32 d a b x s
  | .vmulF32 d a b x => Sys2Proof.Machine.execVmulF32 d a b x s
  | .vfmaF32 d a b x => Sys2Proof.Machine.execVfmaF32 d a b x s
  | .vminF32 d a b x => Sys2Proof.Machine.execVminF32 d a b x s
  | .vmaxF32 d a b x => Sys2Proof.Machine.execVmaxF32 d a b x s
  | .vunF32 d a s0 x => Sys2Proof.Machine.execVunF32 d a s0 x s
  | .vsfuF32 d a s0 x => Sys2Proof.Machine.execVsfuF32 d a s0 x s
  | .vdivF32 d a b x => Sys2Proof.Machine.execVdivF32 d a b x s
  | .vcopysignF32 d a b x => Sys2Proof.Machine.execVcopysignF32 d a b x s
  | .vaddF64 d a b x => Sys2Proof.Machine.execVaddF64 d a b x s
  | .vmulF64 d a b x => Sys2Proof.Machine.execVmulF64 d a b x s
  | .vfmaF64 d a b x => Sys2Proof.Machine.execVfmaF64 d a b x s
  | .vminF64 d a b x => Sys2Proof.Machine.execVminF64 d a b x s
  | .vmaxF64 d a b x => Sys2Proof.Machine.execVmaxF64 d a b x s
  | .vunF64 d a s0 x => Sys2Proof.Machine.execVunF64 d a s0 x s
  | .vdivF64 d a b x => Sys2Proof.Machine.execVdivF64 d a b x s
  | .vsqrtF64 d a x => Sys2Proof.Machine.execVsqrtF64 d a x s
  | .vaddBf16x2 d a b x => Sys2Proof.Machine.execVaddBf16x2 d a b x s
  | .vmulBf16x2 d a b x => Sys2Proof.Machine.execVmulBf16x2 d a b x s
  | .vfmaBf16x2 d a b x => Sys2Proof.Machine.execVfmaBf16x2 d a b x s
  | .vmaxBf16x2 d a b x => Sys2Proof.Machine.execVmaxBf16x2 d a b x s
  | .vaddF16x2 d a b x => Sys2Proof.Machine.execVaddF16x2 d a b x s
  | .vmulF16x2 d a b x => Sys2Proof.Machine.execVmulF16x2 d a b x s
  | .vfmaF16x2 d a b x => Sys2Proof.Machine.execVfmaF16x2 d a b x s
  | .vmaxF16x2 d a b x => Sys2Proof.Machine.execVmaxF16x2 d a b x s
  | .vcvt d a c x => Sys2Proof.Machine.execVcvt d a c x s
  | .vpk8 d a c x => Sys2Proof.Machine.execVpk8 d a c x s
  | .vupk8 d a c x => Sys2Proof.Machine.execVupk8 d a c x s
  | .vpk4 d a c x => Sys2Proof.Machine.execVpk4 d a c x s
  | .vupk4 d a c x => Sys2Proof.Machine.execVupk4 d a c x s
  | .vshflIdx d a b x => Sys2Proof.Machine.execVshflIdx d a b x s
  | .vshflXor d a e x => Sys2Proof.Machine.execVshflXor d a e x s
  | .vshflUp d a e x => Sys2Proof.Machine.execVshflUp d a e x s
  | .vshflDn d a e x => Sys2Proof.Machine.execVshflDn d a e x s
  | .vswp2 d a x => Sys2Proof.Machine.execVswp2 d a x s
  | .vred d a s0 p x => Sys2Proof.Machine.execVred d a s0 p x s
  | .vscan d a s0 p x => Sys2Proof.Machine.execVscan d a s0 p x s
  | .vdot4I8 d a b x => Sys2Proof.Machine.execVdot4I8 d a b x s
  | .vdot4N8 d a b x => Sys2Proof.Machine.execVdot4N8 d a b x s
  | .vdot8I4 d a b x => Sys2Proof.Machine.execVdot8I4 d a b x s
  | .vdot4E4m3 d a b x => Sys2Proof.Machine.execVdot4E4m3 d a b x s
  | .vdsq4E4m3 d a b x => Sys2Proof.Machine.execVdsq4E4m3 d a b x s
  | .vdsq2Bf16 d a b x => Sys2Proof.Machine.execVdsq2Bf16 d a b x s
  | .vhamm d a b x => Sys2Proof.Machine.execVhamm d a b x s
  | .vsieve a b => Sys2Proof.Machine.execVsieve a b s
  | .vldB8 d a f n s0 x => Sys2Proof.Machine.execVldB8 d a f n s0 x s
  | .vldI8 d a f n s0 x => Sys2Proof.Machine.execVldI8 d a f n s0 x s
  | .vldB16 d a f n s0 x => Sys2Proof.Machine.execVldB16 d a f n s0 x s
  | .vldI16 d a f n s0 x => Sys2Proof.Machine.execVldI16 d a f n s0 x s
  | .vldB32 d a f n s0 x => Sys2Proof.Machine.execVldB32 d a f n s0 x s
  | .vldB64 d a f n s0 x => Sys2Proof.Machine.execVldB64 d a f n s0 x s
  | .vldB128 d a f n s0 x => Sys2Proof.Machine.execVldB128 d a f n s0 x s
  | .vldf d a f n s0 x => Sys2Proof.Machine.execVldf d a f n s0 x s
  | .vstB8 d a f n s0 x => Sys2Proof.Machine.execVstB8 d a f n s0 x s
  | .vstB16 d a f n s0 x => Sys2Proof.Machine.execVstB16 d a f n s0 x s
  | .vstB32 d a f n s0 x => Sys2Proof.Machine.execVstB32 d a f n s0 x s
  | .vstB64 d a f n s0 x => Sys2Proof.Machine.execVstB64 d a f n s0 x s
  | .vstB128 d a f n s0 x => Sys2Proof.Machine.execVstB128 d a f n s0 x s
  | .vstf d a f n s0 x => Sys2Proof.Machine.execVstf d a f n s0 x s
  | .vldt d a f t x => Sys2Proof.Machine.execVldt d a f t x s
  | .vstt d a f t x => Sys2Proof.Machine.execVstt d a f t x s
  | .vatomAddN32 d a f n s0 c r => Sys2Proof.Machine.execVatomAddN32 d a f n s0 c r s
  | .vatomAddF32 d a f n s0 c r => Sys2Proof.Machine.execVatomAddF32 d a f n s0 c r s
  | .vatomMinI32 d a f n s0 c r => Sys2Proof.Machine.execVatomMinI32 d a f n s0 c r s
  | .vatomMaxI32 d a f n s0 c r => Sys2Proof.Machine.execVatomMaxI32 d a f n s0 c r s
  | .vatomMinN32 d a f n s0 c r => Sys2Proof.Machine.execVatomMinN32 d a f n s0 c r s
  | .vatomMaxN32 d a f n s0 c r => Sys2Proof.Machine.execVatomMaxN32 d a f n s0 c r s
  | .vatomAnd d a f n s0 c r => Sys2Proof.Machine.execVatomAnd d a f n s0 c r s
  | .vatomOr d a f n s0 c r => Sys2Proof.Machine.execVatomOr d a f n s0 c r s
  | .vatomXor d a f n s0 c r => Sys2Proof.Machine.execVatomXor d a f n s0 c r s
  | .vatomXchg d a f n s0 c r => Sys2Proof.Machine.execVatomXchg d a f n s0 c r s
  | .vatomCas d a f n s0 c r => Sys2Proof.Machine.execVatomCas d a f n s0 c r s
  | .vatomAddN64 d a f n s0 c r => Sys2Proof.Machine.execVatomAddN64 d a f n s0 c r s
  | .xpfx k z r s0 c v => Sys2Proof.Machine.execXpfx k z r s0 c v s
  | .sadd d a b => Sys2Proof.Machine.execSadd d a b s
  | .ssub d a b => Sys2Proof.Machine.execSsub d a b s
  | .smul d a b => Sys2Proof.Machine.execSmul d a b s
  | .smulhI64 d a b => Sys2Proof.Machine.execSmulhI64 d a b s
  | .smulhN64 d a b => Sys2Proof.Machine.execSmulhN64 d a b s
  | .sdiv d a b => Sys2Proof.Machine.execSdiv d a b s
  | .srem d a b => Sys2Proof.Machine.execSrem d a b s
  | .sand d a b => Sys2Proof.Machine.execSand d a b s
  | .sor d a b => Sys2Proof.Machine.execSor d a b s
  | .sxor d a b => Sys2Proof.Machine.execSxor d a b s
  | .sshl d a b => Sys2Proof.Machine.execSshl d a b s
  | .sshr d a b => Sys2Proof.Machine.execSshr d a b s
  | .smin d a b => Sys2Proof.Machine.execSmin d a b s
  | .smax d a b => Sys2Proof.Machine.execSmax d a b s
  | .sun d a f => Sys2Proof.Machine.execSun d a f s
  | .saddi d a n0 => Sys2Proof.Machine.execSaddi d a n0 s
  | .sandi d a n0 => Sys2Proof.Machine.execSandi d a n0 s
  | .sori d a n0 => Sys2Proof.Machine.execSori d a n0 s
  | .sshli d a n0 => Sys2Proof.Machine.execSshli d a n0 s
  | .sshri d a n0 => Sys2Proof.Machine.execSshri d a n0 s
  | .scmp d a b u c => Sys2Proof.Machine.execScmp d a b u c s
  | .sli d n0 => Sys2Proof.Machine.execSli d n0 s
  | .slit d lit => Sys2Proof.Machine.execSlit d lit s
  | .slit64 d lo hi => Sys2Proof.Machine.execSlit64 d lo hi s
  | .sext d a p l => Sys2Proof.Machine.execSext d a p l s
  | .sexts d a p l => Sys2Proof.Machine.execSexts d a p l s
  | .sins d a p l => Sys2Proof.Machine.execSins d a p l s
  | .sselnz d a b f => Sys2Proof.Machine.execSselnz d a b f s
  | .radd d a b => Sys2Proof.Machine.execRadd d a b s
  | .raddi d a n0 => Sys2Proof.Machine.execRaddi d a n0 s
  | .rtag d a => Sys2Proof.Machine.execRtag d a s
  | .rbase d a => Sys2Proof.Machine.execRbase d a s
  | .oinit d a b => Sys2Proof.Machine.execOinit d a b s
  | .ofree a => Sys2Proof.Machine.execOfree a s
  | .ostat d a => Sys2Proof.Machine.execOstat d a s
  | .oreset a => Sys2Proof.Machine.execOreset a s
  | .sbal d k => Sys2Proof.Machine.execSbal d k s
  | .kset k a => Sys2Proof.Machine.execKset k a s
  | .kop d a b p => Sys2Proof.Machine.execKop d a b p s
  | .sfirst d k => Sys2Proof.Machine.execSfirst d k s
  | .br o => Sys2Proof.Machine.execBr o s
  | .bz t o => Sys2Proof.Machine.execBz t o s
  | .bnz t o => Sys2Proof.Machine.execBnz t o s
  | .bkany k o => Sys2Proof.Machine.execBkany k o s
  | .bknone k o => Sys2Proof.Machine.execBknone k o s
  | .bl k o => Sys2Proof.Machine.execBl k o s
  | .call o => Sys2Proof.Machine.execCall o s
  | .callx d a => Sys2Proof.Machine.execCallx d a s
  | .jmpx a => Sys2Proof.Machine.execJmpx a s
  | .exit => Sys2Proof.Machine.execExit s
  | .wfl m => Sys2Proof.Machine.execWfl m s
  | .nop => Sys2Proof.Machine.execNop s
  | .bar s0 n => Sys2Proof.Machine.execBar s0 n s
  | .barr s0 n => Sys2Proof.Machine.execBarr s0 n s
  | .barw s0 n => Sys2Proof.Machine.execBarw s0 n s
  | .mwait d a n0 => Sys2Proof.Machine.execMwait d a n0 s
  | .fence k s0 => Sys2Proof.Machine.execFence k s0 s
  | .fenceng => Sys2Proof.Machine.execFenceng s
  | .racq n => Sys2Proof.Machine.execRacq n s
  | .racqTry d n => Sys2Proof.Machine.execRacqTry d n s
  | .rrel n => Sys2Proof.Machine.execRrel n s
  | .sld d b n0 w s0 f c => Sys2Proof.Machine.execSld d b n0 w s0 f c s
  | .sst d b n0 w f c => Sys2Proof.Machine.execSst d b n0 w f c s
  | .satom d a b s0 p f => Sys2Proof.Machine.execSatom d a b s0 p f s
  | .rld d b n0 f c => Sys2Proof.Machine.execRld d b n0 f c s
  | .rst d b n0 f c => Sys2Proof.Machine.execRst d b n0 f c s
  | .pub a b f z s0 => Sys2Proof.Machine.execPub a b f z s0 s
  | .pfh a f => Sys2Proof.Machine.execPfh a f s
  | .advNeed a b => Sys2Proof.Machine.execAdvNeed a b s
  | .advCold a b => Sys2Proof.Machine.execAdvCold a b s
  | .advWarm a b => Sys2Proof.Machine.execAdvWarm a b s
  | .tset t a b r => Sys2Proof.Machine.execTset t a b r s
  | .tstat d t => Sys2Proof.Machine.execTstat d t s
  | .tdrop t => Sys2Proof.Machine.execTdrop t s
  | .tdropFree t => Sys2Proof.Machine.execTdropFree t s
  | .cpy d a f => Sys2Proof.Machine.execCpy d a f s
  | .cpyCe d a b f => Sys2Proof.Machine.execCpyCe d a b f s
  | .cpyq d a b f => Sys2Proof.Machine.execCpyq d a b f s
  | .mxp a f => Sys2Proof.Machine.execMxp a f s
  | .mxd d a f => Sys2Proof.Machine.execMxd d a f s
  | .mxzDefine d a s0 f => Sys2Proof.Machine.execMxzDefine d a s0 f s
  | .mxzClr d s0 f => Sys2Proof.Machine.execMxzClr d s0 f s
  | .mxzFree d s0 f => Sys2Proof.Machine.execMxzFree d s0 f s
  | .mxq d s0 f => Sys2Proof.Machine.execMxq d s0 f s
  | .svinit d a t m => Sys2Proof.Machine.execSvinit d a t m s
  | .svinitFree d => Sys2Proof.Machine.execSvinitFree d s
  | .svget d a c f => Sys2Proof.Machine.execSvget d a c f s
  | .launch d a f q => Sys2Proof.Machine.execLaunch d a f q s
  | .lwait d a t => Sys2Proof.Machine.execLwait d a t s
  | .hsig n => Sys2Proof.Machine.execHsig n s
  | .srd d r => Sys2Proof.Machine.execSrd d r s
  | .swr a r => Sys2Proof.Machine.execSwr a r s
  | .trap c => Sys2Proof.Machine.execTrap c s
  | .brk c => Sys2Proof.Machine.execBrk c s
  | .tresReplay d a => Sys2Proof.Machine.execTresReplay d a s
  | .tresSkip d a => Sys2Proof.Machine.execTresSkip d a s
  | .tresKill d a => Sys2Proof.Machine.execTresKill d a s
  | .icinv a b => Sys2Proof.Machine.execIcinv a b s
  | .icinvAll => Sys2Proof.Machine.execIcinvAll s
  | .mark a t => Sys2Proof.Machine.execMark a t s
  | .tlbiRange c a b => Sys2Proof.Machine.execTlbiRange c a b s
  | .tlbiContext c a b => Sys2Proof.Machine.execTlbiContext c a b s
  | .tlbiDevice c a b => Sys2Proof.Machine.execTlbiDevice c a b s
  | .leaseInstall d a b => Sys2Proof.Machine.execLeaseInstall d a b s
  | .leaseRenew d a b => Sys2Proof.Machine.execLeaseRenew d a b s
  | .leaseReturn d a => Sys2Proof.Machine.execLeaseReturn d a s
  | .leaseRead d a b => Sys2Proof.Machine.execLeaseRead d a b s
  | .pmove d a => Sys2Proof.Machine.execPmove d a s
  | .bias d a b => Sys2Proof.Machine.execBias d a b s
  | .psplit d a b => Sys2Proof.Machine.execPsplit d a b s
  | .acntRead d a => Sys2Proof.Machine.execAcntRead d a s
  | .acntReadClear d a => Sys2Proof.Machine.execAcntReadClear d a s
  | .acntWrite d a b => Sys2Proof.Machine.execAcntWrite d a b s
  | .laneResultWrite => Sys2Proof.Machine.execLaneResultWrite s
  | .racqServe => Sys2Proof.Machine.execRacqServe s
  | .launchBlockCheck => Sys2Proof.Machine.execLaunchBlockCheck s
  | .placeCluster => Sys2Proof.Machine.execPlaceCluster s
  | .commitPoint => Sys2Proof.Machine.execCommitPoint s
  | .commitEntryDrain => Sys2Proof.Machine.execCommitEntryDrain s
  | .pairCommitCompare => Sys2Proof.Machine.execPairCommitCompare s
  | .pairForward => Sys2Proof.Machine.execPairForward s
  | .pairedWordMatch => Sys2Proof.Machine.execPairedWordMatch s
  | .mwaitWake => Sys2Proof.Machine.execMwaitWake s
  | .mwaitTimeout => Sys2Proof.Machine.execMwaitTimeout s
  | .objectFormComplete => Sys2Proof.Machine.execObjectFormComplete s
  | .memoryAccessPerform => Sys2Proof.Machine.execMemoryAccessPerform s
  | .loadComplete => Sys2Proof.Machine.execLoadComplete s
  | .storeComplete => Sys2Proof.Machine.execStoreComplete s
  | .atomicStep => Sys2Proof.Machine.execAtomicStep s
  | .atomicComplete => Sys2Proof.Machine.execAtomicComplete s
  | .handlerTeamPlace => Sys2Proof.Machine.execHandlerTeamPlace s
  | .operandLogReplay => Sys2Proof.Machine.execOperandLogReplay s
  | .gleanerWalk => Sys2Proof.Machine.execGleanerWalk s
  | .pfhHandoff => Sys2Proof.Machine.execPfhHandoff s
  | .sievePairEntry => Sys2Proof.Machine.execSievePairEntry s
  | .svgetSnapshot => Sys2Proof.Machine.execSvgetSnapshot s
  | .cpyRegister => Sys2Proof.Machine.execCpyRegister s
  | .ceDispatch => Sys2Proof.Machine.execCeDispatch s
  | .ceCopy => Sys2Proof.Machine.execCeCopy s
  | .ceFill => Sys2Proof.Machine.execCeFill s
  | .ceConvert => Sys2Proof.Machine.execCeConvert s
  | .ceGather => Sys2Proof.Machine.execCeGather s
  | .ceScatter => Sys2Proof.Machine.execCeScatter s
  | .ceReduce => Sys2Proof.Machine.execCeReduce s
  | .ceSegment => Sys2Proof.Machine.execCeSegment s
  | .ceCommandComplete => Sys2Proof.Machine.execCeCommandComplete s
  | .peerWriteCompletion => Sys2Proof.Machine.execPeerWriteCompletion s
  | .splitBroadcastArrival => Sys2Proof.Machine.execSplitBroadcastArrival s
  | .mxeGrant => Sys2Proof.Machine.execMxeGrant s
  | .mxePassComplete => Sys2Proof.Machine.execMxePassComplete s
  | .mxdBlockCheck => Sys2Proof.Machine.execMxdBlockCheck s
  | .mxdRowWrite => Sys2Proof.Machine.execMxdRowWrite s
  | .mxdDrainComplete => Sys2Proof.Machine.execMxdDrainComplete s
  | .mxzComplete => Sys2Proof.Machine.execMxzComplete s
  | .mxqResult => Sys2Proof.Machine.execMxqResult s
  | .directoryRead => Sys2Proof.Machine.execDirectoryRead s
  | .directoryWrite => Sys2Proof.Machine.execDirectoryWrite s
  | .ownerForward => Sys2Proof.Machine.execOwnerForward s
  | .quadInvalidate => Sys2Proof.Machine.execQuadInvalidate s
  | .invalidationAck => Sys2Proof.Machine.execInvalidationAck s
  | .l1Writeback => Sys2Proof.Machine.execL1Writeback s
  | .l2Fill => Sys2Proof.Machine.execL2Fill s
  | .l2scrWrite => Sys2Proof.Machine.execL2scrWrite s
  | .l2scrConvertDone => Sys2Proof.Machine.execL2scrConvertDone s
  | .deadFilled => Sys2Proof.Machine.execDeadFilled s
  | .scrubRead => Sys2Proof.Machine.execScrubRead s
  | .scrubWriteback => Sys2Proof.Machine.execScrubWriteback s
  | .pageWalk => Sys2Proof.Machine.execPageWalk s
  | .tlbiRequest => Sys2Proof.Machine.execTlbiRequest s
  | .tlbiAck => Sys2Proof.Machine.execTlbiAck s
  | .icinvRequest => Sys2Proof.Machine.execIcinvRequest s
  | .icinvAck => Sys2Proof.Machine.execIcinvAck s
  | .bloomRebuild => Sys2Proof.Machine.execBloomRebuild s
  | .fillBlockArrival => Sys2Proof.Machine.execFillBlockArrival s
  | .counterHalving => Sys2Proof.Machine.execCounterHalving s
  | .renewDue => Sys2Proof.Machine.execRenewDue s
  | .leaseExpiry => Sys2Proof.Machine.execLeaseExpiry s
  | .revokeDeadline => Sys2Proof.Machine.execRevokeDeadline s
  | .poolReadTimeout => Sys2Proof.Machine.execPoolReadTimeout s
  | .answerLimit => Sys2Proof.Machine.execAnswerLimit s
  | .grant => Sys2Proof.Machine.execGrant s
  | .refuse => Sys2Proof.Machine.execRefuse s
  | .returned => Sys2Proof.Machine.execReturned s
  | .revoke => Sys2Proof.Machine.execRevoke s
  | .nodeFail => Sys2Proof.Machine.execNodeFail s
  | .rhaodDiscard => Sys2Proof.Machine.execRhaodDiscard s
  | .bisnp => Sys2Proof.Machine.execBisnp s
  | .fqpop => Sys2Proof.Machine.execFqpop s
  | .fqresReplay => Sys2Proof.Machine.execFqresReplay s
  | .fqresPage => Sys2Proof.Machine.execFqresPage s
  | .fqresLease => Sys2Proof.Machine.execFqresLease s
  | .fqresPoolLost => Sys2Proof.Machine.execFqresPoolLost s
  | .fqresProt => Sys2Proof.Machine.execFqresProt s
  | .fqresChecksum => Sys2Proof.Machine.execFqresChecksum s
  | .fqresClose => Sys2Proof.Machine.execFqresClose s
  | .frameMarkDead => Sys2Proof.Machine.execFrameMarkDead s
  | .frameFlush => Sys2Proof.Machine.execFrameFlush s
  | .frameEvict => Sys2Proof.Machine.execFrameEvict s
  | .frameReserve => Sys2Proof.Machine.execFrameReserve s
  | .frameRelease => Sys2Proof.Machine.execFrameRelease s
  | .frameDiscard => Sys2Proof.Machine.execFrameDiscard s
  | .frameEvictGroup => Sys2Proof.Machine.execFrameEvictGroup s
  | .frameSetHostBias => Sys2Proof.Machine.execFrameSetHostBias s
  | .frameRetire => Sys2Proof.Machine.execFrameRetire s
  | .framectlInvalidOp => Sys2Proof.Machine.execFramectlInvalidOp s
  | .hostAnswer => Sys2Proof.Machine.execHostAnswer s
  | .standbyPgcTakeover => Sys2Proof.Machine.execStandbyPgcTakeover s
  | .timeSliceExpiry => Sys2Proof.Machine.execTimeSliceExpiry s
  | .spillEngine => Sys2Proof.Machine.execSpillEngine s
  | .halt => Sys2Proof.Machine.execHalt s
  | .resume => Sys2Proof.Machine.execResume s
  | .step => Sys2Proof.Machine.execStep s
  | .debuggerRegisterWrite => Sys2Proof.Machine.execDebuggerRegisterWrite s
  | .tstopArm => Sys2Proof.Machine.execTstopArm s
  | .tickStop => Sys2Proof.Machine.execTickStop s
  | .tstopRelease => Sys2Proof.Machine.execTstopRelease s
  | .trringWrite => Sys2Proof.Machine.execTrringWrite s
  | .icacheFill => Sys2Proof.Machine.execIcacheFill s
  | .heartbeatSend => Sys2Proof.Machine.execHeartbeatSend s
  | .heartbeat => Sys2Proof.Machine.execHeartbeat s
  | .periodEvaluation => Sys2Proof.Machine.execPeriodEvaluation s
  | .accuse => Sys2Proof.Machine.execAccuse s
  | .withdraw => Sys2Proof.Machine.execWithdraw s
  | .cull => Sys2Proof.Machine.execCull s
  | .cullTick => Sys2Proof.Machine.execCullTick s
  | .selfTestEnd => Sys2Proof.Machine.execSelfTestEnd s
  | .appeal => Sys2Proof.Machine.execAppeal s
  | .attestCheckEnd => Sys2Proof.Machine.execAttestCheckEnd s
  | .readmit => Sys2Proof.Machine.execReadmit s
  | .readmissionTick => Sys2Proof.Machine.execReadmissionTick s
  | .operatingTimeSave => Sys2Proof.Machine.execOperatingTimeSave s
  | .testDeliver => Sys2Proof.Machine.execTestDeliver s
  | .regraftTest => Sys2Proof.Machine.execRegraftTest s
  | .fieldTestRun => Sys2Proof.Machine.execFieldTestRun s
  | .fieldTestResult => Sys2Proof.Machine.execFieldTestResult s
  | .doorbell => Sys2Proof.Machine.execDoorbell s
  | .contextReset => Sys2Proof.Machine.execContextReset s
  | .functionLevelReset => Sys2Proof.Machine.execFunctionLevelReset s
  | .fabricMemRequest => Sys2Proof.Machine.execFabricMemRequest s
  | .registerWrite => Sys2Proof.Machine.execRegisterWrite s
  | .powerOn => Sys2Proof.Machine.execPowerOn s
  | .perst => Sys2Proof.Machine.execPerst s
  | .bootWatchdog => Sys2Proof.Machine.execBootWatchdog s
  | .powerSample => Sys2Proof.Machine.execPowerSample s
  | .hbmRateSwitch => Sys2Proof.Machine.execHbmRateSwitch s
  | .managementReset => Sys2Proof.Machine.execManagementReset s
  | .clearFailedStart => Sys2Proof.Machine.execClearFailedStart s
  | .mgmtRegisterRead => Sys2Proof.Machine.execMgmtRegisterRead s
  | .mgmtPwrcapWrite => Sys2Proof.Machine.execMgmtPwrcapWrite s
  | .pldmFirmwareUpdate => Sys2Proof.Machine.execPldmFirmwareUpdate s
  | .pldmMonitoring => Sys2Proof.Machine.execPldmMonitoring s
  | .mctpControl => Sys2Proof.Machine.execMctpControl s
  | .emptySlot => Sys2Proof.Machine.execEmptySlot s
  | .hostSwapRequest => Sys2Proof.Machine.execHostSwapRequest s
  | .pmoveComplete => Sys2Proof.Machine.execPmoveComplete s
  | .psplitComplete => Sys2Proof.Machine.execPsplitComplete s
  | .biasComplete => Sys2Proof.Machine.execBiasComplete s
  | .framectlComplete => Sys2Proof.Machine.execFramectlComplete s
  | .softError => Sys2Proof.Machine.execSoftError s
  | .plotFailure => Sys2Proof.Machine.execPlotFailure s
  | .msixUnmask => Sys2Proof.Machine.execMsixUnmask s

end Sys2Proof.Machine
end

