-- ==== Sys2Proof/Machine/Place.lean ====
section
/-! DEFINITION. What `State.withFetchWord` installs: a group whose next word is the given instruction. -/

namespace Sys2Proof.Machine

/-- The clause that holds exactly the words of one instruction (R68), at virtual address 0x10000, with SETA 0 and SETB 1. -/
def oneWordClause (nbits w : Nat) : Clause :=
  let ws := bytesWords (tableBytes nbits w)
  let n := match decode ws with | .ok i => wordCount i | .error _ => 1
  { addr := 0x10000, hdr := BitVec.ofNat 32 ((n - 1) * 2 ^ 28 + 0x0100), words := ws.take n, lanes := BitVec.allOnes 64 }

/-- The machine with a group (key 2) in slot 0 of plot 0, whose turn it is and whose clause is that one. DESIGN CHOICE: log entry 6. -/
def State.place (s : State) (nbits w : Nat) : State :=
  { s with
    groups := tabPut s.groups 2 { rows := 6, clause := some (oneWordClause nbits w) }
    plots := tabPut s.plots 0 { s.plot 0 with slots := [some 2, none, none, none, none, none, none, none], cycleBase := s.cycle }
    todo := [0], agenda := [] }

/-- A step of the agenda that a tick stop lets through: what the debug port writes, the release, a device reset (R401, R407).
DEDUCED: log entry 83. -/
def stopAllows (d : Due) : Bool :=
  match d.what with
  | .registerWrite => decide (d.ev.ext = .space .debug)
  | .tstopRelease | .tstopArm | .trringWrite | .powerOn | .perst | .managementReset => true
  | _ => false

/-- The plot for which a step of the agenda writes memory (R280): a store's or an atomic's, a drain's, the issuing plot of an engine; a PGC counts as
384 or 385. None for a step that writes none of its own. DEDUCED: log entry 99. -/
def State.writerOf (s : State) (d : Due) : Option Nat :=
  match d.what with
  | .memoryAccessPerform | .atomicStep | .operandLogReplay => some (s.group d.ev.a).plot
  | .gleanerWalk => if d.ev.v = 1 then some (s.group d.ev.a).plot else none
  | .commitEntryDrain => some (s.team d.ev.a).plot
  | .ceCopy | .ceFill | .ceConvert | .ceGather | .ceScatter | .ceReduce => ((s.ce d.ev.a).busy.bind s.cmd?).map (fun c => c.plot)
  | .ceCommandComplete => (s.cmd? d.ev.b).map (fun c => c.plot)
  | .mxdRowWrite => (tabFind (s.quad d.ev.a).resv d.ev.b).map (fun r => r.plot)
  | _ => none

/-- The step that acts first where `d` is the first of the agenda that is due: among the writes of one cycle the one of the lowest plot, so that the
highest plot's prevails (R280). DEDUCED: log entry 99. -/
def State.firstDue (s : State) (d : Due) : Due :=
  match s.writerOf d with
  | none => d
  | some _ => (leastBy (fun e => (s.writerOf e).getD 0) (s.agenda.filter (fun e => decide (e.due ≤ s.cycle) && (s.writerOf e).isSome))).getD d

/-- A step that captures a plot's bank as at the end of its cycle (R353). -/
def captureStep (i : Instr) : Bool := decide (i = .timeSliceExpiry) || decide (i = .hostSwapRequest)

/-- A step that acts once the words of its cycle have issued: a quad's grant (R236), a debug halt, which takes effect at the end of the cycle (R402), the
capture of a swap (R353). -/
def endStep (i : Instr) : Bool := decide (i = .mxeGrant) || decide (i = .halt) || captureStep i

/-- Of the end of a cycle, a debug halt comes before the capture of a swap, which it defers (R357). -/
def State.haltFirst (s : State) (d : Due) : Due :=
  if captureStep d.what then (s.agenda.find? (fun e => decide (e.what = .halt) && decide (e.due ≤ s.cycle))).getD d else d

/-- The step of the agenda that acts next, where one is due. -/
def State.dueStep (s : State) : Option (Due × State) :=
  match s.agenda with
  | [] => none
  | d :: _ =>
    if s.regs.stopped then
      match s.agenda.find? (fun e => stopAllows e) with
      | some e => if e.due ≤ s.cycle then some (e, { s with agenda := s.agenda.erase e, ev := e.ev }) else none
      | none => none
    else
      match (if s.todo.isEmpty ∨ !endStep d.what then some d else s.agenda.find? (fun e => !endStep e.what)) with
      | some d => if d.due ≤ s.cycle then (let e := s.haltFirst (s.firstDue d); some (e, { s with agenda := s.agenda.erase e, ev := e.ev })) else none
      | none => none

end Sys2Proof.Machine
end

