-- ==== Sys2Proof/Machine/Step.lean ====
section
/-! DEFINITION. One step of the machine: a step of the device or of the outside world that is due, or the turn of the next unit
in this cycle, or the end of the cycle (R17, R46). -/

namespace Sys2Proof.Machine

/-- One step. During a tick stop nothing but the debug port acts (R401). DESIGN CHOICE: log entry 4. -/
def step (s : State) : Host.Outcome State Fault Refusal :=
  match s.dueStep with
  | some (d, s1) => exec d.what s1
  | none =>
    if s.regs.stopped then .next s
    else
      match s.todo with
      | [] => .next s.endCycle
      | p :: _ =>
        match s.unitTurn p with
        | .idle s1 => .next s1
        | .run s1 i => exec i s1

/-- The state with an instruction where the next step fetches one (DESIGN CHOICE: log entry 6). -/
def State.withFetchWord (s : State) (nbits w : Nat) : State := s.place nbits w

end Sys2Proof.Machine
end

