-- ==== Sys2Proof/Safety.lean ====
section
/-! DEFINITION. What counts as a safe run, and the terms in which the claims speak: a word that issues, what it leaves, what it leaves
unchanged. -/

namespace Sys2Proof.Machine

/-! ## Runs -/

/-- The step of a state answers a next state. -/
def Steps (s t : State) : Prop := step s = .next t

/-- A run of n steps from `s` reaches `t`, every step answering a next state. -/
def Runs : Nat → State → State → Prop
  | 0, s, t => s = t
  | n + 1, s, t => ∃ m, Steps s m ∧ Runs n m t

/-- The run of n steps from a state is safe. -/
def SafeFor (n : Nat) (s : State) : Prop := ∃ t, Runs n s t

/-! ## A word that issues -/

/-- The word is at issue for the unit; it passes every check of R85 (its fields, its mode, its tags, its addresses) and nothing holds
it back this cycle (R47-R58, R152, R404). -/
structure Issues (i : Instr) (u : Issuer) (s : State) : Prop where
  unit : s.issuer? = some u
  checked : checks i u s = none
  ready : waits i u s = none

/-- As `Issues`, for a team that is not paired (R368-R370). -/
structure IssuesAlone (i : Instr) (u : Issuer) (s : State) : Prop extends Issues i u s where
  alone : (s.uTeam u).paired = false

/-! ## What a word leaves -/

/-- The places of a group that sequence its words and belong to no register: the frontier, the clause in progress, a debugger's
step. -/
def Group.asSequenced (h g : Group) : Group :=
  { h with clause := g.clause, frontier := g.frontier, stepping := g.stepping, halted := g.halted }

/-- Every state component but the groups, the plots and the turns left in this cycle is as it was. -/
def SameElsewhere (s t : State) : Prop := { t with groups := s.groups, plots := s.plots, todo := s.todo } = s

/-- Every group but one is as it was. -/
def SameGroupsBut (gid : Nat) (s t : State) : Prop := ∀ k, k ≠ gid → tabFind t.groups k = tabFind s.groups k

/-- Every plot is as it was but for its ISSUED counter (R404). -/
def SamePlots (s t : State) : Prop := ∀ p, { t.plot p with issued := (s.plot p).issued } = s.plot p

/-- Every byte of memory, every metadata word and every poisoned block reads as it did. -/
def SameMemory (s t : State) : Prop :=
  (∀ a, t.readByte a = s.readByte a) ∧ (∀ a, t.readDesc a = s.readDesc a) ∧ ∀ a, t.poisoned a = s.poisoned a

/-- The word's group holds `g'`, apart from the places that sequence its words, and the machine is otherwise as it was: no other
group, no plot but for ISSUED, no memory, no special register, no other unit has changed. -/
def LeavesGroup (s : State) (u : Issuer) (g' : Group) (t : State) : Prop :=
  ((t.group u.gid).asSequenced u.g = g') ∧ SameGroupsBut u.gid s t ∧ SamePlots s t ∧ SameElsewhere s t ∧ SameMemory s t

end Sys2Proof.Machine
end

