-- ==== Sys2Proof/Certificates/Slice0/Obligations.lean ====
section
/-! DEFINITION. The statements for the provers: what the instructions and the other steps of the machine do, family by family, as the
numbered rules of spec/ say it. Tables of results stand in the namespace `Sys2Proof.Claims`, each written from the rule its
docstring names and not from the meanings. -/

open Sys2Proof Sys2Proof.Machine

/-! ## Code: words and instructions -/

namespace Sys2Proof.Claims

/-- Words that the specification works out field by field, with the instruction that each stands for (R131, R132, R161, R169, R173, R176,
R177, R180, and the tables of the chapters on memory, matrix and notes). -/
def workedWords : List (List Word × Instr) :=
  [([0x1D440022#32], .vcmpF32 2 2 0 4 2),
   ([0x1A02081A#32], .vsel 1 2 3 2),
   ([0x27488C28#32], .vsfuF32 36 35 5 0),
   ([0x4544A400#32], .vswp2 34 41 0),
   ([0xFF004700#32, 0x2358A528#32], .xpfx 0 0 0 0 35 1),
   ([0x2358A528#32], .vfmaF32 44 41 37 0),
   ([0x445AB030#32], .vshflDn 45 44 6 0),
   ([0x46122000#32], .vred 9 8 0 0 0),
   ([0x5A101C22#32], .vstB32 8 7 0 0 4 2),
   ([0x60120A25#32], .vatomAddN32 9 2 1 0 4 2 1),
   ([0x57019426#32], .vldf 0 101 0 0 4 6),
   ([0x810C4140#32], .sadd 3 4 5),
   ([0x951C8252#32], .scmp 7 8 9 1 2),
   ([0x9908420B#32], .sext 2 4 8 11),
   ([0x9613FFFD#32], .sli 4 0x3FFFD),
   ([0x97240000#32, 0x00400000#32], .slit 9 0x00400000),
   ([0xB308000C#32], .bkany 2 12),
   ([0xB21BFFF9#32], .bnz 6 0x3FFF9),
   ([0xC0FC0013#32], .bar 1 3),
   ([0xC314A040#32], .mwait 5 10 0x040),
   ([0xC4FC000B#32], .fence 1 3),
   ([0xE0040007#32], .srd 1 7),
   ([0xC80C416A#32], .sld 3 4 5 2 1 0 2),
   ([0xCAFC10A0#32], .satom 63 1 2 2 0 0),
   ([0xD30C4FC0#32], .cpy 3 4 0),
   ([0xD5FC8000#32], .mxp 8 0),
   ([0xD614A000#32], .mxd 5 10 0),
   ([0xD70C4004#32], .mxzDefine 3 4 2 0),
   ([0xD81C0004#32], .mxq 7 2 0),
   ([0xD9086001#32], .svinit 2 6 0 1),
   ([0xDA24C000#32], .svget 9 12 0 0),
   ([0xDC08B000#32], .launch 2 11 0 0),
   ([0xDD0C2000#32], .lwait 3 2 0)]

/-- Lane opcodes that R72 assigns to no form. -/
def laneUnassigned (op : Nat) : Bool := [0x00, 0x2A, 0x33].contains op || decide (0x6C ≤ op)

/-- Uniform opcodes that R84 assigns to no form. -/
def uniUnassigned (op : Nat) : Bool :=
  [0x00, 0x1D, 0x1E, 0x1F, 0x2C, 0x2D, 0x2E, 0x2F, 0x3C, 0x3D, 0x3E, 0x3F, 0x5B, 0x5F, 0x67].contains op
  || (decide (0x6E ≤ op) && decide (op ≤ 0x7E))

end Sys2Proof.Claims

/-- Each word that the specification writes out decodes to the instruction it stands for. -/
def Obligations.WorkedWordsDecode : Prop :=
  ∀ e ∈ Sys2Proof.Claims.workedWords, decode e.1 = .ok e.2

/-- Decoding undoes encoding: for every instruction that has an encoding, with every operand at every value, whatever words
follow it in its clause. -/
def Obligations.DecodeEncode : Prop :=
  ∀ (i : Instr) (rest : List Word), encode i ≠ [] → decode (encode i ++ rest) = .ok i

/-- Encoding undoes decoding: the words from which an instruction was decoded are the words of its encoding, so no bit of a word is
ignored and no instruction has two encodings. -/
def Sys2Proof.Claims.EncodeDecode : Prop :=
  ∀ (ws : List Word) (i : Instr), decode ws = .ok i → encode i = ws.take (wordCount i) ∧ wordCount i ≤ ws.length

/-- A word with an opcode that R72 or R84 assigns to no form is refused with cause 1. -/
def Sys2Proof.Claims.UnassignedOpcodesRefused : Prop :=
  ∀ (w : Word) (rest : List Word),
    (w.getLsbD 31 = false → Sys2Proof.Claims.laneUnassigned ((w.toNat / 2 ^ 24) % 128) = true → decode (w :: rest) = .error .unassigned) ∧
    (w.getLsbD 31 = true → Sys2Proof.Claims.uniUnassigned ((w.toNat / 2 ^ 24) % 128) = true → decode (w :: rest) = .error .unassigned)

/-! ## One step -/

/-- When no other step is due and the unit next in the cycle has a clause in progress whose next words decode to an instruction, with
nothing that keeps its group from issuing, the machine's step is exactly that instruction's execution. For a team that is not paired and a
word without a breakpoint. -/
def Obligations.StepRunsDecodedWord : Prop :=
  ∀ (s : State) (p : Nat) (rest : List Nat) (gid : Nat) (g : Group) (c : Clause) (i : Instr),
    s.dueStep = none → s.regs.stopped = false → s.todo = p :: rest → p ≠ 385 →
    s.slotGroup p = some gid → tabFind s.groups gid = some g → g.clause = some c →
    g.loc = .active → g.halted = false → g.hold = none → s.faultHeld gid g = false →
    (g.plot < 384 → (s.plot g.plot).blackout < s.cycle ∨ (s.plot g.plot).blackout = 0) →
    (s.team g.team).paired = false →
    s.debugOwned g.ctx = false → (s.plot g.plot).spill = .idle →
    decode (c.words.drop c.idx) = .ok i →
    s.issuer? = some { gid := gid, g := g, c := c } ∧ step s = exec i s

/-- A step of the device or of the outside world that is first in the agenda and due runs next, with its own operands, and leaves the
agenda. Among the writes of memory that are due the one of the lowest plot runs first, so that the write of the highest plot prevails in a
cycle (R280). A quad's grant (R236), a debug halt (R402) and the capture of a swap (R353) act once the words of the cycle have issued, a halt before
a capture, which it defers (R357). -/
def Sys2Proof.Claims.StepRunsDueEvent : Prop :=
  let late : List Instr := [.mxeGrant, .halt, .timeSliceExpiry, .hostSwapRequest]
  let capture : List Instr := [.timeSliceExpiry, .hostSwapRequest]
  (∀ (s : State) (d : Due) (rest : List Due),
    s.agenda = d :: rest → d.due ≤ s.cycle → s.regs.stopped = false → s.writerOf d = none → (s.todo = [] ∨ d.what ∉ late) →
    (d.what ∈ capture → ∀ e ∈ s.agenda, e.what = .halt → s.cycle < e.due) →
    step s = exec d.what { s with agenda := rest, ev := d.ev }) ∧
  (∀ (s : State) (d : Due) (rest : List Due),
    s.agenda = d :: rest → d.due ≤ s.cycle → s.regs.stopped = false → (s.writerOf d).isSome = true →
    ∃ e q, e ∈ s.agenda ∧ e.due ≤ s.cycle ∧ s.writerOf e = some q ∧
      (∀ x ∈ s.agenda, x.due ≤ s.cycle → ∀ r, s.writerOf x = some r → q ≤ r) ∧
      step s = exec e.what { s with agenda := s.agenda.erase e, ev := e.ev }) ∧
  (∀ (s : State) (d h : Due) (rest : List Due),
    s.agenda = d :: rest → d.due ≤ s.cycle → s.regs.stopped = false → s.todo = [] → d.what ∈ capture → h ∈ s.agenda → h.what = .halt → h.due ≤ s.cycle →
    ∃ e, e ∈ s.agenda ∧ e.what = .halt ∧ e.due ≤ s.cycle ∧ step s = exec .halt { s with agenda := s.agenda.erase e, ev := e.ev }) ∧
  (∀ (s : State), s.regs.stopped = false → s.todo ≠ [] → (∀ e ∈ s.agenda, e.due ≤ s.cycle → e.what ∈ late) → s.dueStep = none)

/-- When nothing is due and no unit has a turn left, the step is the end of the core cycle. -/
def Sys2Proof.Claims.StepEndsCycle : Prop :=
  ∀ (s : State), s.dueStep = none → s.regs.stopped = false → s.todo = [] →
    ∃ t, step s = .next t ∧ t = s.endCycle ∧ t.cycle = s.cycle + 1

/-- The machine right after reset: what R17, R18, R19, R36, R42, R335, R351, R381, R386, R406, R410 and R412 give as reset values. The
384 plots in service rest on R24 with an empty fuse store (DESIGN CHOICE: log entry 2), bytes that read zero on R108 and R273 with log entry 18
(DEDUCED). -/
def Obligations.ResetValues : Prop :=
  let s := State.reset
  s.tick = 0 ∧ (∀ p, s.plotCycle p = 0) ∧ (∀ a, s.readByte a = 0) ∧
  (∀ c, (s.ctx c).nextSerial = 1 ∧ (s.ctx c).nextTeam = 1 ∧ ctxReg (s.ctx c) 0x0C0 = 0x800 ∧ ctxReg (s.ctx c) 0x0C9 = 0x11 ∧
    (∀ n, n ∈ [0x0C1, 0x0C2, 0x0C3, 0x0C4, 0x0C5, 0x0C6, 0x0C7, 0x0C8, 0x0CA, 0x0CB, 0x0CC] → ctxReg (s.ctx c) n = 0)) ∧
  (∀ p, (s.plot p).tslice = 1000000 ∧ (s.plot p).slotPart = 0 ∧ (s.plot p).cullDrop = 0 ∧ (s.plot p).issued = 0 ∧ (s.plot p).slip = 0) ∧
  (∀ d, rasCnt (s.die d) = 0) ∧
  s.pgc.leaseMargin = 0x01000000 ∧ s.pgc.modelCap = 0 ∧ s.pgc.pcBypass = 0 ∧ s.pgc.lateAns = 0 ∧ s.pgc.rhBad = 0 ∧ s.pgc.fq = [] ∧
  s.boot.pwrcap = 1800 ∧ (∀ k, s.hbmRate k = 0) ∧ s.inServCount = 384

/-- Words that decode are exactly the words of the instruction's encoding, and an opcode that no form has is refused (R72, R84, R85). -/
def Obligations.DecodeExact : Prop :=
  Sys2Proof.Claims.EncodeDecode ∧ Sys2Proof.Claims.UnassignedOpcodesRefused

/-- A step that is due runs before any word; with nothing due and no turn left the core cycle ends.
Readings of the model's own, by log entry: the order of memory writes in one cycle (99). -/
def Obligations.StepsWithoutWords : Prop :=
  Sys2Proof.Claims.StepRunsDueEvent ∧ Sys2Proof.Claims.StepEndsCycle

/-! ## Uniform words: registers, references, masks -/

namespace Sys2Proof.Claims

/-- Bits [p+n−1:p] of a value, n = l + 1, as an unsigned number (R160). -/
def bitField (x : DWord) (p l : BitVec 6) : DWord := (x >>> p.toNat) &&& BitVec.ofNat 64 (2 ^ (l.toNat + 1) - 1)

/-- The bit of a value that `sins` delivers at place `k` (R160). -/
def insBit (old x : DWord) (p l : BitVec 6) (k : Nat) : Bool :=
  if p.toNat ≤ k ∧ k ≤ p.toNat + l.toNat then x.getLsbD (k - p.toNat) else old.getLsbD k

/-- The conditions of R73 on two values of one order. -/
def cond (c : BitVec 4) (lt eq : Bool) : Bool :=
  match c.toNat with
  | 0 => eq | 1 => !eq | 2 => lt | 3 => lt || eq | 4 => !lt && !eq | _ => !lt

/-- The number of set bits, of zeros above the highest set bit and below the lowest (R129, R156). -/
def popCount (x : DWord) : Nat := (List.range 64).countP (fun k => x.getLsbD k)
def leadingZeros (x : DWord) : Nat := ((List.range 64).takeWhile (fun k => !x.getLsbD (63 - k))).length
def trailingZeros (x : DWord) : Nat := ((List.range 64).takeWhile (fun k => !x.getLsbD k)).length

/-- The 64-bit single-operand operations (R156). -/
def unary64 (f : BitVec 6) (x : DWord) : DWord :=
  match f.toNat with
  | 0 => ~~~x
  | 1 => -x
  | 2 => if x.msb then -x else x
  | 3 => BitVec.ofNat 64 (popCount x)
  | 4 => BitVec.ofNat 64 (leadingZeros x)
  | 5 => BitVec.ofNat 64 (trailingZeros x)
  | 6 => x.reverse
  | _ => x.extractLsb' 0 8 ++ x.extractLsb' 8 8 ++ x.extractLsb' 16 8 ++ x.extractLsb' 24 8 ++
         x.extractLsb' 32 8 ++ x.extractLsb' 40 8 ++ x.extractLsb' 48 8 ++ x.extractLsb' 56 8

/-- The lowest set lane of a mask, or 64 (R167). -/
def lowestLane (m : Mask) : Nat := ((List.range 64).find? (fun l => m.getLsbD l)).getD 64

/-- The value that a uniform word writes, untagged, and its destination (R155-R160, R162, R167). -/
def uniformValue (u : Issuer) : Instr → Option (BitVec 6 × DWord)
  | .sadd d a b => some (d, u.sv a + u.sv b)
  | .ssub d a b => some (d, u.sv a - u.sv b)
  | .smul d a b => some (d, u.sv a * u.sv b)
  | .smulhI64 d a b => some (d, BitVec.ofInt 64 ((u.sv a).toInt * (u.sv b).toInt / 2 ^ 64))
  | .smulhN64 d a b => some (d, BitVec.ofNat 64 ((u.sv a).toNat * (u.sv b).toNat / 2 ^ 64))
  | .sdiv d a b => some (d, (u.sv a).sdiv (u.sv b))
  | .srem d a b => some (d, (u.sv a).srem (u.sv b))
  | .sand d a b => some (d, u.sv a &&& u.sv b)
  | .sor d a b => some (d, u.sv a ||| u.sv b)
  | .sxor d a b => some (d, u.sv a ^^^ u.sv b)
  | .sshl d a b => some (d, u.sv a <<< ((u.sv b).extractLsb' 0 6))
  | .sshr d a b => some (d, u.sv a >>> ((u.sv b).extractLsb' 0 6))
  | .smin d a b => some (d, if (u.sv b).slt (u.sv a) then u.sv b else u.sv a)
  | .smax d a b => some (d, if (u.sv a).slt (u.sv b) then u.sv b else u.sv a)
  | .sun d a f => some (d, unary64 f (u.sv a))
  | .saddi d a i => some (d, u.sv a + i.signExtend 64)
  | .sandi d a i => some (d, u.sv a &&& i.signExtend 64)
  | .sori d a i => some (d, u.sv a ||| i.signExtend 64)
  | .sshli d a i => some (d, u.sv a <<< i)
  | .sshri d a i => some (d, u.sv a >>> i)
  | .scmp d a b n c =>
    let lt := if n = 1 then (u.sv a).ult (u.sv b) else (u.sv a).slt (u.sv b)
    some (d, if cond c lt (u.sv a == u.sv b) then 1 else 0)
  | .sli d i => some (d, i.signExtend 64)
  | .slit d l => some (d, l.signExtend 64)
  | .slit64 d lo hi => some (d, hi ++ lo)
  | .sext d a p l => some (d, bitField (u.sv a) p l)
  | .sexts d a p l => some (d, (u.sv a <<< (63 - p.toNat - l.toNat)).sshiftRight (63 - l.toNat))
  | .sins d a p l => some (d, BitVec.ofBoolListLE ((List.range 64).map (insBit (u.sv d) (u.sv a) p l)) |>.setWidth 64)
  | .rtag d a => some (d, if (u.sreg a).tag then 1 else 0)
  | .sbal d k => some (d, u.g.readK u.lanes k.toNat)
  | .sfirst d k => some (d, BitVec.ofNat 64 (lowestLane (u.g.readK u.lanes k.toNat)))
  | _ => none

/-- The register, with its tag and base, that a word which writes references leaves (R161, R162). -/
def uniformRegister (u : Issuer) : Instr → Option (BitVec 6 × SReg)
  | .sselnz d a b f => some (d, if u.sv f ≠ 0 then u.sreg a else u.sreg b)
  | .radd d a b => some (d, { val := u.sv a + u.sv b, tag := true, base := (u.sreg a).base })
  | .raddi d a i => some (d, { val := u.sv a + i.signExtend 64, tag := true, base := (u.sreg a).base })
  | .rbase d a => some (d, { val := (u.sreg a).base, tag := true, base := (u.sreg a).base })
  | _ => none

/-- The bit of a lane that `kop` leaves (R167). -/
def kopBit (p : BitVec 3) (x y : Bool) : Bool :=
  match p.toNat with
  | 0 => x && y | 1 => x || y | 2 => x != y | 3 => x && !y | 4 => !x | _ => x

/-- The mask that a word writes (R167). -/
def uniformMask (u : Issuer) : Instr → Option (BitVec 3 × Mask)
  | .kset k a => some (k, u.sv a)
  | .kop d a b p =>
    let x := u.g.readK u.lanes a.toNat
    let y := u.g.readK u.lanes b.toNat
    some (d, match p.toNat with
      | 0 => x &&& y | 1 => x ||| y | 2 => x ^^^ y | 3 => x &&& ~~~y | 4 => ~~~x | _ => x)
  | _ => none

end Sys2Proof.Claims

/-- A uniform word that writes one value writes it, untagged, to its destination and changes nothing else (R150, R151, R155-R160, R162,
R167). With s63 as the destination nothing is written, since `Group.writeS` discards it. -/
def Sys2Proof.Claims.UniformValues : Prop :=
  ∀ (i : Instr) (u : Issuer) (s : State) (d : BitVec 6) (x : DWord),
    Issues i u s → Sys2Proof.Claims.uniformValue u i = some (d, x) →
    ∃ t, exec i s = .next t ∧ LeavesGroup s u (u.g.writeS d.toNat { val := x }) t

/-- `sselnz` and the reference forms write value, tag and base, and change nothing else (R151, R161, R162). -/
def Sys2Proof.Claims.UniformReferences : Prop :=
  ∀ (i : Instr) (u : Issuer) (s : State) (d : BitVec 6) (r : SReg),
    Issues i u s → Sys2Proof.Claims.uniformRegister u i = some (d, r) →
    ∃ t, exec i s = .next t ∧ LeavesGroup s u (u.g.writeS d.toNat r) t

/-- `kset` and `kop` write one mask and change nothing else; `nop` changes nothing (R167, R171). -/
def Sys2Proof.Claims.UniformMasks : Prop :=
  (∀ (i : Instr) (u : Issuer) (s : State) (k : BitVec 3) (m : Mask),
    Issues i u s → Sys2Proof.Claims.uniformMask u i = some (k, m) →
    ∃ t, exec i s = .next t ∧ LeavesGroup s u (u.g.writeK k.toNat m) t) ∧
  (∀ (u : Issuer) (s : State), Issues .nop u s → ∃ t, exec .nop s = .next t ∧ LeavesGroup s u u.g t)

/-- The registers of a group: a register reads what was last written to it and no other has changed; s63 reads zero, untagged, whatever
was written, and k0 reads the lanes of the bundle (R80, R151). A mask index is the low three bits of its field, whose other bits must be zero, and a
written mask that is k0 is ILLEGAL (R80). -/
def Obligations.RegisterFiles : Prop :=
  (∀ (g : Group) (n m : Nat) (x : SReg), (g.writeS n x).readS m = if m = 63 then {} else if m = n then x else g.readS m) ∧
  (∀ (g : Group) (b : Mask) (n m : Nat) (x : Mask), (g.writeK n x).readK b m = if m = 0 then b else if m = n then x else g.readK b m) ∧
  (∀ (g : Group) (n m : Nat) (v : List Word), (g.writeV n v).readV m = if m = n then v else g.readV m) ∧
  (∀ (g : Group) (n m x : Nat), (g.writeF n x).readF m = if m = n then x else g.readF m) ∧
  (∀ (g : Group) (r q r' q' : Nat) (x : BitVec 48), q < 4 → q' < 4 →
    (g.writeDesc r q x).readDesc r' q' = if r' = r ∧ q' = q then x else g.readDesc r' q') ∧
  (∀ (d a : BitVec 6) (k j n p : BitVec 3) (o : BitVec 18),
    decode [(0xA8#8 ++ d ++ 0#3 ++ k ++ 0#6 ++ 0#6 : Word)] = .ok (.sbal d k) ∧
    decode [(0xA9#8 ++ 0#3 ++ k ++ a ++ 0#6 ++ 0#6 : Word)] = .ok (.kset k a) ∧
    decode [(0xAA#8 ++ 0#3 ++ k ++ 0#3 ++ j ++ 0#3 ++ n ++ 0#3 ++ p : Word)] = .ok (.kop k j n p) ∧
    decode [(0xAB#8 ++ d ++ 0#3 ++ k ++ 0#6 ++ 0#6 : Word)] = .ok (.sfirst d k) ∧
    decode [(0xB3#8 ++ 0#3 ++ k ++ o : Word)] = .ok (.bkany k o) ∧
    decode [(0xB4#8 ++ 0#3 ++ k ++ o : Word)] = .ok (.bknone k o) ∧
    decode [(0xB5#8 ++ 0#3 ++ k ++ o : Word)] = .ok (.bl k o)) ∧
  (∀ (d a b f : BitVec 6),
    (8 ≤ a.toNat → ∀ op ∈ [0xA8#8, 0xAA#8, 0xAB#8], ∃ e, decode [(op ++ d ++ a ++ b ++ f : Word)] = .error e) ∧
    (8 ≤ d.toNat → ∀ op ∈ [0xA9#8, 0xAA#8, 0xB3#8, 0xB4#8, 0xB5#8], ∃ e, decode [(op ++ d ++ a ++ b ++ f : Word)] = .error e) ∧
    (8 ≤ b.toNat → ∃ e, decode [(0xAA#8 ++ d ++ a ++ b ++ f : Word)] = .error e)) ∧
  (∀ (u : Issuer) (s : State) (a : BitVec 6) (j n p : BitVec 3),
    (∃ c, checks (.kset 0 a) u s = some { cls := 1, cause := c }) ∧ ∃ c, checks (.kop 0 j n p) u s = some { cls := 1, cause := c })

/-- The words of the forms of R155-R158, R160 and R161, at every value of every field, with the causes that those rules give and the words that R161
works out. A word is written as its fields: bit 31 set and OP, D, A, B, F (R79). -/
def Sys2Proof.Claims.UniformEncodings : Prop :=
  (∀ e ∈ ([(0x81#8, .sadd), (0x82#8, .ssub), (0x83#8, .smul), (0x84#8, .smulhI64), (0x85#8, .smulhN64), (0x86#8, .sdiv), (0x87#8, .srem),
      (0x88#8, .sand), (0x89#8, .sor), (0x8A#8, .sxor), (0x8B#8, .sshl), (0x8C#8, .sshr), (0x8D#8, .smin), (0x8E#8, .smax)] :
      List (BitVec 8 × (BitVec 6 → BitVec 6 → BitVec 6 → Instr))),
    ∀ (d a b : BitVec 6), decode [(e.1 ++ d ++ a ++ b ++ 0#6 : Word)] = .ok (e.2 d a b)) ∧
  (∀ (d a b f : BitVec 6),
    decode [(0x8F#8 ++ d ++ a ++ 0#6 ++ f : Word)] = .ok (.sun d a f) ∧
    decode [(0x90#8 ++ d ++ a ++ b ++ f : Word)] = .ok (.saddi d a (b ++ f)) ∧
    decode [(0x91#8 ++ d ++ a ++ b ++ f : Word)] = .ok (.sandi d a (b ++ f)) ∧
    decode [(0x92#8 ++ d ++ a ++ b ++ f : Word)] = .ok (.sori d a (b ++ f)) ∧
    decode [(0x93#8 ++ d ++ a ++ 0#6 ++ f : Word)] = .ok (.sshli d a f) ∧
    decode [(0x94#8 ++ d ++ a ++ 0#6 ++ f : Word)] = .ok (.sshri d a f) ∧
    (b ≠ 0 → decode [(0x93#8 ++ d ++ a ++ b ++ f : Word)] = .error .reservedField ∧
      decode [(0x94#8 ++ d ++ a ++ b ++ f : Word)] = .error .reservedField) ∧
    decode [(0x99#8 ++ d ++ a ++ b ++ f : Word)] = .ok (.sext d a b f) ∧
    decode [(0x9A#8 ++ d ++ a ++ b ++ f : Word)] = .ok (.sexts d a b f) ∧
    decode [(0x9B#8 ++ d ++ a ++ b ++ f : Word)] = .ok (.sins d a b f) ∧
    decode [(0x9C#8 ++ d ++ a ++ b ++ f : Word)] = .ok (.sselnz d a b f)) ∧
  (∀ (d a b : BitVec 6) (n : BitVec 1) (c : BitVec 4),
    decode [(0x95#8 ++ d ++ a ++ b ++ 0#1 ++ n ++ c : Word)] = .ok (.scmp d a b n c) ∧
    decode [(0x95#8 ++ d ++ a ++ b ++ 1#1 ++ n ++ c : Word)] = .error .reservedField) ∧
  DecodeError.cause .reservedField = 2 ∧
  (∀ (u : Issuer) (s : State) (d a b f : BitVec 6) (n : BitVec 1) (c : BitVec 4), u.hasPfx = false →
    (8 ≤ f.toNat → checks (.sun d a f) u s = some { cls := 1, cause := 3 }) ∧
    (6 ≤ c.toNat → checks (.scmp d a b n c) u s = some { cls := 1, cause := 3 }) ∧
    (64 < b.toNat + (f.toNat + 1) → checks (.sext d a b f) u s = some { cls := 1, cause := 3 } ∧
      checks (.sexts d a b f) u s = some { cls := 1, cause := 3 } ∧ checks (.sins d a b f) u s = some { cls := 1, cause := 3 })) ∧
  (decode [0x810C4140#32] = .ok (.sadd 3 4 5) ∧ decode [0x951C8252#32] = .ok (.scmp 7 8 9 1 2) ∧
    decode [0x9908420B#32] = .ok (.sext 2 4 8 11) ∧ decode [0x9613FFFD#32] = .ok (.sli 4 0x3FFFD) ∧
    (0x3FFFD#18).signExtend 64 = -3)

/-! ## Control transfer -/

namespace Sys2Proof.Claims

/-- The target of a relative transfer: the word's address plus four times its signed offset (R82). -/
def branchTarget {n : Nat} (u : Issuer) (o : BitVec n) : DWord := u.addr + BitVec.ofInt 64 (4 * o.toInt)

/-- Where the lanes of the bundle go under a transfer: the part that is taken with its target, and the part that goes on to the next
header (R55, R169, R170). -/
def transferOf (u : Issuer) : Instr → Option (DWord × Mask × Mask)
  | .br o => some (branchTarget u o, u.lanes, 0)
  | .bz r o => some (branchTarget u o, if u.sv r = 0 then u.lanes else 0, if u.sv r = 0 then 0 else u.lanes)
  | .bnz r o => some (branchTarget u o, if u.sv r = 0 then 0 else u.lanes, if u.sv r = 0 then u.lanes else 0)
  | .bkany k o =>
    let hit := u.g.readK u.lanes k.toNat &&& u.lanes ≠ 0
    some (branchTarget u o, if hit then u.lanes else 0, if hit then 0 else u.lanes)
  | .bknone k o =>
    let hit := u.g.readK u.lanes k.toNat &&& u.lanes = 0
    some (branchTarget u o, if hit then u.lanes else 0, if hit then 0 else u.lanes)
  | .bl k o => some (branchTarget u o, u.lanes &&& u.g.readK u.lanes k.toNat, u.lanes &&& ~~~ u.g.readK u.lanes k.toNat)
  | .call o => some (branchTarget u o, u.lanes, 0)
  | .callx _ a => some (u.sv a, u.lanes, 0)
  | .jmpx a => some (u.sv a, u.lanes, 0)
  | .exit => some (0, 0, 0)
  | _ => none

/-- The register that a transfer writes: the address of the next header, untagged, in the link register (R170). -/
def linkOf (u : Issuer) : Instr → Group
  | .call _ => u.g.writeS 62 { val := u.nextHeader }
  | .callx d _ => u.g.writeS d.toNat { val := u.nextHeader }
  | _ => u.g

/-- The lanes that a frontier holds at an address (R51). -/
def lanesAt (f : List FrontEntry) (a : DWord) : Mask := f.foldl (fun m e => if e.addr = a then m ||| e.lanes else m) 0

end Sys2Proof.Claims

/-- A transfer moves the lanes that it takes to its target and the others to the next header; `exit` moves them nowhere, so they leave the
frontier. The clause ends; `call` and `callx` write their link; nothing else changes (R51, R55, R63, R169-R171). Stated where lanes of the group
are left; `GroupExit` says what happens when none are. -/
def Sys2Proof.Claims.ControlTransfer : Prop :=
  ∀ (i : Instr) (u : Issuer) (s : State) (a : DWord) (taken rest : Mask),
    Issues i u s → Sys2Proof.Claims.transferOf u i = some (a, taken, rest) →
    (taken ≠ 0 ∨ rest ≠ 0 ∨ u.g.frontier ≠ []) →
    ∃ t, exec i s = .next t ∧ LeavesGroup s u (Sys2Proof.Claims.linkOf u i) t ∧ (t.group u.gid).clause = none ∧
      ∀ x, Sys2Proof.Claims.lanesAt (t.group u.gid).frontier x =
        Sys2Proof.Claims.lanesAt u.g.frontier x ||| (if x = a then taken else 0) ||| (if x = u.nextHeader then rest else 0)

/-- A group whose last lanes exit, with every flag zero and nothing held, exits: its place is gone and it leaves its team, whose other groups
go on (R63). -/
def Sys2Proof.Claims.GroupExit : Prop :=
  ∀ (u : Issuer) (s : State) (tm : Team),
    Issues .exit u s → u.g.pgc = false → u.g.frontier = [] → u.g.hold = none → u.g.trapHold = [] → u.g.lostHold = false →
    u.g.loc = .active → (∀ e ∈ u.g.f, e.2 = 0) → tabFind s.teams u.g.team = some tm → (∃ k ∈ tm.groups, k ≠ u.gid) →
    ∃ t, exec .exit s = .next t ∧ (t.group u.gid).loc = .gone ∧ (t.group u.gid).frontier = [] ∧
      (t.team u.g.team).groups = tm.groups.filter (fun k => k ≠ u.gid) ∧ (t.team u.g.team).live = tm.live

/-- The uniform words that write one register or mask, each with its encoding, its result and nothing else changed; `sselnz` and the reference forms with tag and base (R151, R155-R162, R167, R171). -/
def Obligations.UniformWords : Prop :=
  Sys2Proof.Claims.UniformValues ∧ Sys2Proof.Claims.UniformReferences ∧ Sys2Proof.Claims.UniformMasks ∧ Sys2Proof.Claims.UniformEncodings

/-- Transfers of control and `exit`: where each lane stands afterwards, what a link holds, and when a group ends (R62, R63, R82, R83, R168-R171).
Readings of the model's own, by log entry: a failed transfer traps when the entry is next chosen (32). -/
def Obligations.Control : Prop :=
  Sys2Proof.Claims.ControlTransfer ∧ Sys2Proof.Claims.GroupExit

/-! ## Lane words -/

namespace Sys2Proof.Claims

/-- A 32-bit result without an exception. -/
def plain (x : Word) : Nat × Fp := (x.toNat, 0)

/-- sat(v, lo, hi), with SATURATED on clamp (R9, R128). -/
def clamp (lo hi v : Int) : Nat × Fp :=
  if v < lo then ((BitVec.ofInt 32 lo).toNat, fpSaturated)
  else if hi < v then ((BitVec.ofInt 32 hi).toNat, fpSaturated)
  else ((BitVec.ofInt 32 v).toNat, 0)

/-- Count `n` of a shift (R128). -/
def shiftCount (y : Word) : Nat := y.toNat % 32

/-- The 32-bit single-operand operations (R129). -/
def unary32 (f : BitVec 7) (x : Word) : Word :=
  match f.toNat with
  | 0 => ~~~x
  | 1 => -x
  | 2 => if x.msb then -x else x
  | 3 => BitVec.ofNat 32 ((List.range 32).countP (fun k => x.getLsbD k))
  | 4 => BitVec.ofNat 32 ((List.range 32).takeWhile (fun k => !x.getLsbD (31 - k))).length
  | 5 => BitVec.ofNat 32 ((List.range 32).takeWhile (fun k => !x.getLsbD k)).length
  | 6 => x.reverse
  | _ => x.extractLsb' 0 8 ++ x.extractLsb' 8 8 ++ x.extractLsb' 16 8 ++ x.extractLsb' 24 8

/-- The sum of products of the n signed fields of w bits of two words (R146). -/
def dotSigned (n w : Nat) (x y : Word) : Int :=
  ((List.range n).map (fun i => (x.extractLsb' (w * i) w).toInt * (y.extractLsb' (w * i) w).toInt)).foldl (· + ·) 0
/-- The sum of products of the n unsigned fields of w bits of two words (R146). -/
def dotUnsigned (n w : Nat) (x y : Word) : Int :=
  ((List.range n).map (fun i => ((x.extractLsb' (w * i) w).toNat * (y.extractLsb' (w * i) w).toNat : Int))).foldl (· + ·) 0

/-- The integer element operations on A, B and the addend (R128-R130, R146). -/
def intElement : Instr → Option (Prefix → Word → Word → Word → Nat × Fp)
  | .vaddI32 .. => some fun _ x y _ => plain (x + y)
  | .vsubI32 .. => some fun _ x y _ => plain (x - y)
  | .vaddsI32 .. => some fun _ x y _ => clamp (-2147483648) 2147483647 (x.toInt + y.toInt)
  | .vaddsN32 .. => some fun _ x y _ => clamp 0 4294967295 (x.toNat + y.toNat)
  | .vsubsI32 .. => some fun _ x y _ => clamp (-2147483648) 2147483647 (x.toInt - y.toInt)
  | .vsubsN32 .. => some fun _ x y _ => clamp 0 4294967295 ((x.toNat : Int) - y.toNat)
  | .vmulI32 .. => some fun _ x y _ => plain (x * y)
  | .vmulhI32 .. => some fun _ x y _ => plain (BitVec.ofInt 32 (x.toInt * y.toInt / 2 ^ 32))
  | .vmulhN32 .. => some fun _ x y _ => plain (BitVec.ofNat 32 (x.toNat * y.toNat / 2 ^ 32))
  | .vmadI32 .. => some fun _ x y z => plain (x * y + z)
  | .vminI32 .. => some fun _ x y _ => plain (if y.slt x then y else x)
  | .vmaxI32 .. => some fun _ x y _ => plain (if x.slt y then y else x)
  | .vminN32 .. => some fun _ x y _ => plain (if y.ult x then y else x)
  | .vmaxN32 .. => some fun _ x y _ => plain (if x.ult y then y else x)
  | .vand .. => some fun _ x y _ => plain (x &&& y)
  | .vor .. => some fun _ x y _ => plain (x ||| y)
  | .vxor .. => some fun _ x y _ => plain (x ^^^ y)
  | .vandn .. => some fun _ x y _ => plain (x &&& ~~~y)
  | .vshl .. => some fun _ x y _ => plain (x <<< shiftCount y)
  | .vshrN32 .. => some fun _ x y _ => plain (x >>> shiftCount y)
  | .vshrI32 .. => some fun _ x y _ => plain (x.sshiftRight (shiftCount y))
  | .vrol .. => some fun _ x y _ => plain (x.rotateLeft (shiftCount y))
  | .vunI _ _ f _ => some fun _ x _ _ => plain (unary32 f x)
  | .vmov .. => some fun _ x _ _ => plain x
  | .vdot4I8 .. => some fun p x y z =>
    if p.sat then clamp (-2147483648) 2147483647 (z.toInt + dotSigned 4 8 x y) else plain (z + BitVec.ofInt 32 (dotSigned 4 8 x y))
  | .vdot4N8 .. => some fun p x y z =>
    if p.sat then clamp 0 4294967295 (z.toNat + dotUnsigned 4 8 x y) else plain (z + BitVec.ofInt 32 (dotUnsigned 4 8 x y))
  | .vdot8I4 .. => some fun p x y z =>
    if p.sat then clamp (-2147483648) 2147483647 (z.toInt + dotSigned 8 4 x y) else plain (z + BitVec.ofInt 32 (dotSigned 8 4 x y))
  | .vhamm .. => some fun _ x y z => plain (z + BitVec.ofNat 32 ((List.range 32).countP (fun k => (x ^^^ y).getLsbD k)))
  | _ => none

/-- The float element operations on the bits of A, B and the addend, under a prefix (R133-R135, R138, R147): the exact result, rounded once by
PFX.RM or else to nearest even. -/
def floatElement : Instr → Option (Prefix → Nat → Nat → Nat → Nat × Fp)
  | .vaddF32 .. => some fun p x y _ => addF f32 (p.mode .rne) p.sat x y
  | .vsubF32 .. => some fun p x y _ => subF f32 (p.mode .rne) p.sat x y
  | .vmulF32 .. => some fun p x y _ => mulF f32 (p.mode .rne) p.sat x y
  | .vfmaF32 .. => some fun p x y z => fmaF f32 (p.mode .rne) p.sat x y z
  | .vdivF32 .. => some fun p x y _ => divF f32 (p.mode .rne) p.sat x y
  | .vminF32 .. => some fun _ x y _ => minMaxCode f32 false x y
  | .vmaxF32 .. => some fun _ x y _ => minMaxCode f32 true x y
  | .vcopysignF32 .. => some fun _ x y _ => (x % 2 ^ 31 + 2 ^ 31 * (y / 2 ^ 31 % 2), 0)
  | .vunF32 _ _ f _ => some fun p x _ _ => unaryF f32 (p.mode .rne) f.toNat x
  | .vaddF64 .. => some fun p x y _ => addF f64 (p.mode .rne) p.sat x y
  | .vmulF64 .. => some fun p x y _ => mulF f64 (p.mode .rne) p.sat x y
  | .vfmaF64 .. => some fun p x y z => fmaF f64 (p.mode .rne) p.sat x y z
  | .vdivF64 .. => some fun p x y _ => divF f64 (p.mode .rne) p.sat x y
  | .vsqrtF64 .. => some fun p x _ _ => sqrtF f64 (p.mode .rne) p.sat x
  | .vminF64 .. => some fun _ x y _ => minMaxCode f64 false x y
  | .vmaxF64 .. => some fun _ x y _ => minMaxCode f64 true x y
  | .vunF64 _ _ f _ => some fun p x _ _ => unaryF f64 (p.mode .rne) f.toNat x
  | .vaddBf16x2 .. => some fun p x y _ => halves2 (addF bf16 (p.mode .rne) p.sat) x y
  | .vmulBf16x2 .. => some fun p x y _ => halves2 (mulF bf16 (p.mode .rne) p.sat) x y
  | .vfmaBf16x2 .. => some fun p x y z => halves3 (fmaF bf16 (p.mode .rne) p.sat) x y z
  | .vmaxBf16x2 .. => some fun _ x y _ => halves2 (minMaxCode bf16 true) x y
  | .vaddF16x2 .. => some fun p x y _ => halves2 (addF f16 (p.mode .rne) p.sat) x y
  | .vmulF16x2 .. => some fun p x y _ => halves2 (mulF f16 (p.mode .rne) p.sat) x y
  | .vfmaF16x2 .. => some fun p x y z => halves3 (fmaF f16 (p.mode .rne) p.sat) x y z
  | .vmaxF16x2 .. => some fun _ x y _ => halves2 (minMaxCode f16 true) x y
  | .vdot4E4m3 .. => some fun p x y z => distRes p z (distTerms e4m3 false 4 8 x y)
  | .vdsq4E4m3 .. => some fun p x y z => distRes p z (distTerms e4m3 true 4 8 x y)
  | .vdsq2Bf16 .. => some fun p x y z => distRes p z (distTerms bf16 true 2 16 x y)
  | _ => none

/-- Bits of the elements of A, B and the addend at a place of the block in a lane (R70-R72, R77). -/
def elemA (u : Issuer) (l : LaneForm) (r c k : Nat) : Nat := u.g.elem (l.src 0) r c k
def elemB (u : Issuer) (l : LaneForm) (r c k : Nat) : Nat := u.g.elem (l.src 1) r c k
def elemC (u : Issuer) (l : LaneForm) (r c k : Nat) : Nat := u.g.elem (l.addend u.pfx) r c k

/-- The pending results of one destination element, register by register: the included lanes take the value, and under PFX.Z the bundle's
other lanes take zero (R77); the exceptions of the included lanes go with the first register (R103). The cycle is filled in when the
operations enter the datapath. -/
def elementResults (u : Issuer) (o : Opnd) (r c : Nat) (f : Nat → Nat × Fp) : List Pending :=
  (List.range o.w).map (fun j =>
    { reg := .v (o.code + 16 * r + o.w * c + j)
      lanes := if u.pfx.z then u.lanes else u.incl
      vals := (List.range 64).map (fun k => if u.incl.getLsbD k then BitVec.ofNat 32 ((f k).1 / 2 ^ (32 * j)) else 0)
      avail := 0
      fp := if j = 0 then ((List.range 64).filter (fun k => u.incl.getLsbD k)).foldl (fun a k => a ||| (f k).2) 0 else 0 })

/-- The pending results of a word, element by element, row by row (R71). -/
def blockResults (u : Issuer) (o : Opnd) (f : Nat → Nat → Nat → Nat × Fp) : List Pending :=
  (List.range o.rows).flatMap (fun r => (List.range o.cols).flatMap (fun c => elementResults u o r c (f r c)))

/-- The word's result is a block whose element (r, c) in lane k is `f r c k`. -/
def LaneResult (i : Instr) (u : Issuer) (s : State) (f : LaneForm → Nat → Nat → Nat → Nat × Fp) : Prop :=
  ∃ l o, laneForm i = some l ∧ l.dst = some o ∧ exec i s = .next (finish u i (.ok (s.pendAll u i (blockResults u o (f l)))))

end Sys2Proof.Claims

/-- The integer lane words compute R128's, R129's and R146's element results, `vmov` copies, for every lane, every extent and every prefix; the words of
`vun.i` (R129) with the operation that B selects. -/
def Obligations.IntegerLaneWords : Prop :=
  (∀ (d a b : BitVec 7) (x : BitVec 3), decode [(0x17#8 ++ d ++ a ++ b ++ x : Word)] = .ok (.vunI d a b x)) ∧
  ∀ (i : Instr) (u : Issuer) (s : State) (f : Prefix → Word → Word → Word → Nat × Fp),
    Issues i u s → Sys2Proof.Claims.intElement i = some f →
    Sys2Proof.Claims.LaneResult i u s (fun l r c k =>
      f u.pfx (BitVec.ofNat 32 (Sys2Proof.Claims.elemA u l r c k)) (BitVec.ofNat 32 (Sys2Proof.Claims.elemB u l r c k))
        (BitVec.ofNat 32 (Sys2Proof.Claims.elemC u l r c k)))

/-- Each float lane word computes its element operation on the elements of its operands, in every included lane and under its prefix (R133-R135, R138,
R147). -/
def Sys2Proof.Claims.FloatElementWords : Prop :=
  ∀ (i : Instr) (u : Issuer) (s : State) (f : Prefix → Nat → Nat → Nat → Nat × Fp),
    Issues i u s → Sys2Proof.Claims.floatElement i = some f →
    Sys2Proof.Claims.LaneResult i u s (fun l r c k =>
      f u.pfx (Sys2Proof.Claims.elemA u l r c k) (Sys2Proof.Claims.elemB u l r c k) (Sys2Proof.Claims.elemC u l r c k))

/-- `vli` writes its signed constant, `vlane` the lane's number, `vsel` the lane's choice under its mask (R130, R132). -/
def Sys2Proof.Claims.LaneConstantsAndSelect : Prop :=
  (∀ (d n : BitVec 7) (x : BitVec 3) (u : Issuer) (s : State), Issues (.vli d n x) u s →
    Sys2Proof.Claims.LaneResult (.vli d n x) u s (fun _ _ _ _ => ((n.signExtend 32).toNat, 0))) ∧
  (∀ (d : BitVec 7) (x : BitVec 3) (u : Issuer) (s : State), Issues (.vlane d x) u s →
    Sys2Proof.Claims.LaneResult (.vlane d x) u s (fun _ _ _ k => (k, 0))) ∧
  (∀ (d a b : BitVec 7) (m : BitVec 3) (u : Issuer) (s : State), Issues (.vsel d a b m) u s →
    Sys2Proof.Claims.LaneResult (.vsel d a b m) u s (fun l r c k =>
      ((if (u.g.readK u.lanes m.toNat).getLsbD k then Sys2Proof.Claims.elemA u l r c k else Sys2Proof.Claims.elemB u l r c k) % 2 ^ 32, 0)))

/-- A compare leaves one pending mask result: an included lane's bit is set when the condition of R73 holds for every element of the block,
and INVALID is recorded when an element of an included lane is a signalling NaN (R73, R131). -/
def Sys2Proof.Claims.LaneCompares : Prop :=
  ∀ (i : Instr) (u : Issuer) (s : State) (k : BitVec 3) (holds : Nat → Nat → Bool × Fp),
    Issues i u s →
    ((∃ c a b x, i = .vcmpI32 k c a b x ∧ holds = fun m n =>
        (Sys2Proof.Claims.cond c ((BitVec.ofNat 32 m).slt (BitVec.ofNat 32 n)) (BitVec.ofNat 32 m == BitVec.ofNat 32 n), 0)) ∨
     (∃ c a b x, i = .vcmpN32 k c a b x ∧ holds = fun m n => (Sys2Proof.Claims.cond c (decide (m < n)) (decide (m = n)), 0)) ∨
     (∃ c a b x, i = .vcmpF32 k c a b x ∧ holds = fun m n => cmpF f32 c.toNat m n) ∨
     (∃ c a b x, i = .vcmpF64 k c a b x ∧ holds = fun m n => cmpF f64 c.toNat m n)) →
    ∃ l, laneForm i = some l ∧ ∃ p : Pending,
      exec i s = .next (finish u i (.ok (s.pendAll u i [p]))) ∧ p.reg = .k k.toNat ∧
      p.lanes = (if u.pfx.z then u.lanes else u.incl) ∧
      (∀ n, n < 64 → (p.bits.getLsbD n = true ↔ u.incl.getLsbD n = true ∧
        ∀ r c, r < (l.src 0).rows → c < (l.src 0).cols → (holds (Sys2Proof.Claims.elemA u l r c n) (Sys2Proof.Claims.elemB u l r c n)).1 = true)) ∧
      (∀ e, e < 6 → (p.fp.getLsbD e = true ↔ ∃ n r c, n < 64 ∧ u.incl.getLsbD n = true ∧ r < (l.src 0).rows ∧ c < (l.src 0).cols ∧
        (holds (Sys2Proof.Claims.elemA u l r c n) (Sys2Proof.Claims.elemB u l r c n)).2.getLsbD e = true))

namespace Sys2Proof.Claims

/-- The lane that a shuffle takes its value from; one outside 0 to 63 stands for the lane itself (R143). -/
def shuffleSource (u : Issuer) (l : LaneForm) (r c k : Nat) : Instr → Option Int
  | .vshflIdx .. => some (elemB u l r c k % 64 : Nat)
  | .vshflXor _ _ e _ => some ((k ^^^ 64 / 2 ^ e.toNat : Nat) : Int)
  | .vshflUp _ _ e _ => some ((k : Int) - (64 / 2 ^ e.toNat : Nat))
  | .vshflDn _ _ e _ => some ((k : Int) + (64 / 2 ^ e.toNat : Nat))
  | .vswp2 .. => some ((k ^^^ 1 : Nat) : Int)
  | _ => none

/-- The identity of a reduction operation (R144). -/
def reduceIdentity (p : BitVec 3) : Nat :=
  match p.toNat with
  | 0 => 0 | 1 => 0x80000000 | 2 => 0x7FFFFFFF | 3 => 0x80000000 | 4 => 0xFFFFFFFF | 5 => 0 | 6 => 0x7F800000 | _ => 0xFF800000

/-- One step of a reduction (R144). -/
def reduceStep (p : BitVec 3) (x y : Nat × Fp) : Nat × Fp :=
  let a := BitVec.ofNat 32 x.1
  let b := BitVec.ofNat 32 y.1
  let v := match p.toNat with
    | 0 => plain (a + b)
    | 1 => addF f32 .rne false x.1 y.1
    | 2 => plain (if b.slt a then b else a)
    | 3 => plain (if a.slt b then b else a)
    | 4 => plain (if b.ult a then b else a)
    | 5 => plain (if a.ult b then b else a)
    | 6 => minMaxCode f32 false x.1 y.1
    | _ => minMaxCode f32 true x.1 y.1
  (v.1, v.2 ||| x.2 ||| y.2)

/-- The values that enter a reduction, with the identity outside the included lanes (R144). -/
def reduceInput (u : Issuer) (l : LaneForm) (p : BitVec 3) (r c k : Nat) : Nat × Fp :=
  (if u.incl.getLsbD k then elemA u l r c k else reduceIdentity p, 0)

/-- The value of lane k after n steps of the butterfly, at distances 1, 2, 4, … (R144). -/
def butterflyLane (p : BitVec 3) (v : Nat → Nat × Fp) : Nat → Nat → Nat × Fp
  | 0, k => v k
  | n + 1, k =>
    let m := k ^^^ 2 ^ n
    reduceStep p (butterflyLane p v n (Nat.min k m)) (butterflyLane p v n (Nat.max k m))

/-- The value of lane k after n steps of the scan over segments of `len` lanes (R145). -/
def scanLane (p : BitVec 3) (len : Nat) (v : Nat → Nat × Fp) : Nat → Nat → Nat × Fp
  | 0, k => v k
  | n + 1, k => if 2 ^ n ≤ k % len then reduceStep p (scanLane p len v n (k - 2 ^ n)) (scanLane p len v n k) else scanLane p len v n k

end Sys2Proof.Claims

/-- The shuffles copy element by element from the source lane that R143 names; their words, with the offsets that cannot be encoded. -/
def Sys2Proof.Claims.LaneShuffles : Prop :=
  (∀ (i : Instr) (u : Issuer) (s : State) (l0 : LaneForm), Issues i u s → laneForm i = some l0 →
    (Sys2Proof.Claims.shuffleSource u l0 0 0 0 i).isSome = true →
    Sys2Proof.Claims.LaneResult i u s (fun l r c k =>
      let j := (Sys2Proof.Claims.shuffleSource u l r c k i).getD 0
      (Sys2Proof.Claims.elemA u l r c (if 0 ≤ j ∧ j < 64 then j.toNat else k) % 2 ^ 32, 0))) ∧
  (∀ (d a b : BitVec 7) (e x : BitVec 3) (z : BitVec 4),
    decode [(0x41#8 ++ d ++ a ++ b ++ x : Word)] = .ok (.vshflIdx d a b x) ∧
    decode [(0x42#8 ++ d ++ a ++ 0#4 ++ e ++ x : Word)] = .ok (.vshflXor d a e x) ∧
    decode [(0x43#8 ++ d ++ a ++ 0#4 ++ e ++ x : Word)] = .ok (.vshflUp d a e x) ∧
    decode [(0x44#8 ++ d ++ a ++ 0#4 ++ e ++ x : Word)] = .ok (.vshflDn d a e x) ∧
    decode [(0x45#8 ++ d ++ a ++ 0#7 ++ x : Word)] = .ok (.vswp2 d a x) ∧
    (z ≠ 0 → ∀ op ∈ [0x42#8, 0x43#8, 0x44#8], decode [(op ++ d ++ a ++ z ++ e ++ x : Word)] = .error .reservedField) ∧
    (b ≠ 0 → decode [(0x45#8 ++ d ++ a ++ b ++ x : Word)] = .error .reservedField)) ∧
  (∀ (u : Issuer) (d a : BitVec 7) (e x : BitVec 3) (i : Instr), i ∈ [.vshflXor d a e x, .vshflUp d a e x, .vshflDn d a e x] →
    (e = 0 ∨ e = 7) → ∃ c, fieldCause u i = some c)

/-- `vred` and `vscan` over segments of L = 64 ≫ s lanes: log2 L steps of the butterfly, or of the scan, each step in lane order, so that every
result is fixed bit for bit (R144, R145). -/
def Sys2Proof.Claims.LaneReductions : Prop :=
  (∀ (d a : BitVec 7) (k : BitVec 4) (p x : BitVec 3) (u : Issuer) (s : State), Issues (.vred d a k p x) u s →
    Sys2Proof.Claims.LaneResult (.vred d a k p x) u s (fun l r c n =>
      Sys2Proof.Claims.butterflyLane p (Sys2Proof.Claims.reduceInput u l p r c) (6 - k.toNat) n)) ∧
  (∀ (d a : BitVec 7) (k : BitVec 4) (p x : BitVec 3) (u : Issuer) (s : State), Issues (.vscan d a k p x) u s →
    Sys2Proof.Claims.LaneResult (.vscan d a k p x) u s (fun l r c n =>
      Sys2Proof.Claims.scanLane p (64 / 2 ^ k.toNat) (Sys2Proof.Claims.reduceInput u l p r c) (6 - k.toNat) n))

/-- The conversions and packs: `vcvt` element by element; `vpk8` and `vpk4` put four or eight converted columns into one register, lowest column
lowest; `vupk8` and `vupk4` convert each packed field to FP32 (R104, R139-R141). -/
def Sys2Proof.Claims.LaneConversionWords : Prop :=
  (∀ (d a c : BitVec 7) (x : BitVec 3) (u : Issuer) (s : State), Issues (.vcvt d a c x) u s →
    Sys2Proof.Claims.LaneResult (.vcvt d a c x) u s (fun l r j k =>
      convert u.pfx c.toNat (Sys2Proof.Claims.elemA u l r j k) (u.g.elem (l.dst.getD { code := 0 }) r j k))) ∧
  (∀ (d a c : BitVec 7) (x : BitVec 3) (u : Issuer) (s : State), Issues (.vpk8 d a c x) u s →
    Sys2Proof.Claims.LaneResult (.vpk8 d a c x) u s (fun l r j k =>
      packRow 4 8 (fun n => packTo u.pfx c.toNat (Sys2Proof.Claims.elemA u l r (4 * j + n) k)))) ∧
  (∀ (d a c : BitVec 7) (x : BitVec 3) (u : Issuer) (s : State), Issues (.vpk4 d a c x) u s →
    Sys2Proof.Claims.LaneResult (.vpk4 d a c x) u s (fun l r j k =>
      packRow 8 4 (fun n => packTo u.pfx c.toNat (Sys2Proof.Claims.elemA u l r (8 * j + n) k)))) ∧
  (∀ (d a c : BitVec 7) (x : BitVec 3) (u : Issuer) (s : State), Issues (.vupk8 d a c x) u s →
    Sys2Proof.Claims.LaneResult (.vupk8 d a c x) u s (fun l r j k =>
      unpackFrom c.toNat (Sys2Proof.Claims.elemA u l r (j / 4) k / 2 ^ (8 * (j % 4)) % 2 ^ 8))) ∧
  (∀ (d a c : BitVec 7) (x : BitVec 3) (u : Issuer) (s : State), Issues (.vupk4 d a c x) u s →
    Sys2Proof.Claims.LaneResult (.vupk4 d a c x) u s (fun l r j k =>
      unpackFrom c.toNat (Sys2Proof.Claims.elemA u l r (j / 8) k / 2 ^ (4 * (j % 8)) % 2 ^ 4)))

/-- `vsfu` writes in each included lane the model's value of the function that its code names, with the free choice that the model's counter numbers
(log entry 5), and the counter moves on. -/
def Sys2Proof.Claims.LaneSpecialFunctions : Prop :=
  ∀ (d a f : BitVec 7) (x : BitVec 3) (u : Issuer) (s : State) (l : LaneForm) (o : Opnd),
    Issues (.vsfuF32 d a f x) u s → laneForm (.vsfuF32 d a f x) = some l → l.dst = some o →
    exec (.vsfuF32 d a f x) s = .next (finish u (.vsfuF32 d a f x) (.ok
      (State.pendAll { s with fresh := s.fresh + 4096 } u (.vsfuF32 d a f x) (Sys2Proof.Claims.blockResults u o (fun r c k =>
        sfu f.toNat (sfuNumber s.fresh r c k) (Sys2Proof.Claims.elemA u l r c k))))))

/-! ## What the float words compute -/

namespace Sys2Proof.Claims

/-- What a code of a format stands for (R96, R98, R99): a NaN, an infinity, or a number; zero keeps its sign. -/
inductive Number where
  | nan (signalling : Bool)
  | inf (neg : Bool)
  | num (neg : Bool) (q : ℚ)
  deriving DecidableEq

/-- The number of a code (R96): sign, exponent field e and fraction m. -/
def number (f : Fmt) (c : Nat) : Number :=
  let neg := c.testBit (f.eb + f.fb)
  let e := c / 2 ^ f.fb % 2 ^ f.eb
  let m := c % 2 ^ f.fb
  let frac : ℚ := (m : ℚ) / 2 ^ f.fb
  let mag : ℚ := if e = 0 then frac * 2 ^ (1 - (f.bias : ℤ)) else (1 + frac) * 2 ^ ((e : ℤ) - f.bias)
  if e = 2 ^ f.eb - 1 ∧ f.hasInf = true then (if m = 0 then .inf neg else .nan (decide (m < 2 ^ (f.fb - 1))))
  else if e = 2 ^ f.eb - 1 ∧ m = 2 ^ f.fb - 1 ∧ f.hasNan = true then .nan false
  else .num neg (if neg then -mag else mag)

/-- The codes of a format. -/
def isCode (f : Fmt) (c : Nat) : Prop := c < 2 ^ (1 + f.eb + f.fb)

/-- The largest finite value of a format (R96). -/
def largest (f : Fmt) : ℚ :=
  if f.hasInf then (2 - 1 / 2 ^ f.fb) * 2 ^ ((2 ^ f.eb - 2 : ℤ) - f.bias)
  else if f.hasNan then (2 - 2 / 2 ^ f.fb) * 2 ^ ((2 ^ f.eb - 1 : ℤ) - f.bias)
  else (2 - 1 / 2 ^ f.fb) * 2 ^ ((2 ^ f.eb - 1 : ℤ) - f.bias)

/-- The canonical NaN of a format (R99). -/
def canonical (f : Fmt) : Nat :=
  if f = f64 then 0x7FF8000000000000 else if f = f32 then 0x7FC00000 else if f = bf16 then 0x7FC0 else if f = f16 then 0x7E00
  else if f = a96 then 0x7FFF80000000000000000000
  else if f = e5m2 then 0x7E else 0x7F

/-- A number rounded to a whole one in a mode (R100). -/
def toWhole (m : RM) (x : ℚ) : ℤ :=
  match m with
  | .rtz => if 0 ≤ x then ⌊x⌋ else ⌈x⌉
  | .rdn => ⌊x⌋
  | .rup => ⌈x⌉
  | .rna => if 0 ≤ x then ⌊x + 1 / 2⌋ else ⌈x - 1 / 2⌉
  | .rne => if Int.fract x = 1 / 2 then (if ⌊x⌋ % 2 = 0 then ⌊x⌋ else ⌊x⌋ + 1) else ⌊x + 1 / 2⌋

/-- A number rounded to a multiple of 2^k. -/
def toGrid (m : RM) (q : ℚ) (k : ℤ) : ℚ := toWhole m (q / 2 ^ k) * 2 ^ k

/-- A non-zero number rounded as with an unbounded exponent (R100), and with the format's smallest step (R96, R98). -/
def unbounded (f : Fmt) (m : RM) (q : ℚ) : ℚ := toGrid m q (Int.log 2 |q| - f.fb)
def rounded (f : Fmt) (m : RM) (q : ℚ) : ℚ := toGrid m q (max (Int.log 2 |q|) (1 - (f.bias : ℤ)) - f.fb)

/-- The result has the code of a number, and these exceptions. -/
def IsResult (f : Fmt) (n : Number) (fl : Fp) (r : Nat × Fp) : Prop := isCode f r.1 ∧ number f r.1 = n ∧ r.2 = fl

/-- The largest finite value of a sign. -/
def atLargest (f : Fmt) (neg : Bool) : Number := .num neg (if neg then -largest f else largest f)

/-- Where the mode rounds a magnitude away from zero. -/
def away (m : RM) (neg : Bool) : Bool := match m with | .rne => true | .rna => true | .rtz => false | .rdn => neg | .rup => !neg

/-- What an overflow delivers (R102, R105). -/
def Overflowed (f : Fmt) (m : RM) (sat neg : Bool) (r : Nat × Fp) : Prop :=
  if sat = true ∨ f.hasNan = false then IsResult f (atLargest f neg) (fpOverflow ||| fpInexact ||| fpSaturated) r
  else if away m neg = false then IsResult f (atLargest f neg) (fpOverflow ||| fpInexact) r
  else if f.hasInf = true then IsResult f (.inf neg) (fpOverflow ||| fpInexact) r
  else r = (canonical f, fpOverflow ||| fpInexact)

/-- What an exact result delivers in a format, rounded once (R98-R102, R104, R105). -/
def Delivered (f : Fmt) (m : RM) (sat : Bool) (x : Number) (r : Nat × Fp) : Prop :=
  match x with
  | .nan _ => r = if f.hasNan then (canonical f, 0) else (0, fpInvalid)
  | .inf neg =>
    if f.hasInf = true then IsResult f (.inf neg) 0 r
    else if f.hasNan = true ∧ sat = false then r = (canonical f, 0)
    else IsResult f (atLargest f neg) fpSaturated r
  | .num neg q =>
    if q = 0 then IsResult f (.num neg 0) 0 r
    else if largest f < |unbounded f m q| then Overflowed f m sat neg r
    else IsResult f (.num neg (rounded f m q))
      (if rounded f m q = q then 0 else if |unbounded f m q| < 2 ^ (1 - (f.bias : ℤ)) then fpInexact ||| fpUnderflow else fpInexact) r

/-- INVALID where an operand is a signalling NaN (R99). -/
def signalling (l : List Number) : Fp := if l.contains (.nan true) then fpInvalid else 0

def Number.isNaN : Number → Bool | .nan _ => true | _ => false

/-- A number whose sign its value gives; an exact zero has the sign given (R98). -/
def exactly (q : ℚ) (zero : Bool) : Number := .num (if q = 0 then zero else decide (q < 0)) q

/-- The exact sum of several numbers (R98, R99, R147). -/
def sumOf (m : RM) (l : List Number) : Number × Fp :=
  let fin := l.filterMap (fun x => match x with | .num n q => some (n, q) | _ => none)
  if l.any Number.isNaN then (.nan false, signalling l ||| if l.contains (.inf true) && l.contains (.inf false) then fpInvalid else 0)
  else if l.contains (.inf true) && l.contains (.inf false) then (.nan false, fpInvalid)
  else if l.contains (.inf true) then (.inf true, 0)
  else if l.contains (.inf false) then (.inf false, 0)
  else (exactly (fin.map (fun x => x.2)).sum
    (if fin.all (fun x => decide (x = (true, 0))) then true else if fin.all (fun x => decide (x = (false, 0))) then false else decide (m = .rdn)), 0)

def minus : Number → Number
  | .nan s => .nan s
  | .inf n => .inf (!n)
  | .num n q => .num (!n) (-q)

/-- The exact product (R99). -/
def product (a b : Number) : Number × Fp :=
  match a, b with
  | .num n p, .num k q => (.num (n != k) (p * q), 0)
  | .inf n, .inf k => (.inf (n != k), 0)
  | .inf n, .num k q => if q = 0 then (.nan false, fpInvalid) else (.inf (n != k), 0)
  | .num n q, .inf k => if q = 0 then (.nan false, fpInvalid) else (.inf (n != k), 0)
  | a, b => (.nan false, signalling [a, b])

/-- The product and the addend, exact; 0 × ∞ is invalid whatever the addend (R99, R133). -/
def productSum (m : RM) (a b c : Number) : Number × Fp :=
  let p := product a b
  if p.1.isNaN = true then (.nan false, p.2 ||| signalling [c])
  else sumOf m [p.1, c]

/-- The exact quotient (R133). -/
def quotient (a b : Number) : Number × Fp :=
  match a, b with
  | .num n p, .num k q =>
    if q = 0 then (if p = 0 then (.nan false, fpInvalid) else (.inf (n != k), fpDivzero)) else (.num (n != k) (p / q), 0)
  | .inf _, .inf _ => (.nan false, fpInvalid)
  | .inf n, .num k _ => (.inf (n != k), 0)
  | .num n _, .inf k => (.num (n != k) 0, 0)
  | a, b => (.nan false, signalling [a, b])

/-- The result is what the exact one delivers, with the operation's own exceptions. -/
def Delivers (f : Fmt) (m : RM) (sat : Bool) (x : Number × Fp) (r : Nat × Fp) : Prop :=
  ∃ y, Delivered f m sat x.1 y ∧ r = (y.1, y.2 ||| x.2)

/-- −0 orders below +0, and a NaN above all (R133). -/
def isLess : Number → Number → Bool
  | .num n p, .num k q => decide (p < q) || (decide (p = q) && n && !k)
  | .inf n, .inf k => n && !k
  | .inf n, .num _ _ => n
  | .num _ _, .inf k => !k
  | _, _ => false

/-- The smaller (larger) of two codes (R133). -/
def pick (f : Fmt) (larger : Bool) (a b : Nat) : Nat × Fp :=
  let x := number f a; let y := number f b
  (if x.isNaN = true then (if y.isNaN = true then canonical f else b) else if y.isNaN = true then a
   else if (if larger then isLess y x else isLess x y) then a else if (if larger then isLess x y else isLess y x) then b else a,
   signalling [x, y])

/-- A whole-number result of floor, ceil, trunc or rint (R135): a zero takes the sign of A. -/
def wholeOf (m : RM) (x : Number) : Number × Fp :=
  match x with
  | .num n q => (.num n (toWhole m q), 0)
  | .inf n => (.inf n, 0)
  | .nan s => (.nan false, if s then fpInvalid else 0)

/-- The square root is bracketed by its result (R133): `lo` is the multiple of the format's step at or below the root. -/
def RootOf (f : Fmt) (m : RM) (q : ℚ) (r : Nat × Fp) : Prop :=
  let step : ℚ := 2 ^ (Int.log 2 q / 2 - (f.fb : ℤ))
  ∃ n : ℕ, let lo : ℚ := n * step
    lo * lo ≤ q ∧ q < (lo + step) * (lo + step) ∧
    (if lo * lo = q then IsResult f (.num false lo) 0 r
     else IsResult f (.num false (match m with
       | .rtz => lo
       | .rdn => lo
       | .rup => lo + step
       | _ => if q < (lo + step / 2) * (lo + step / 2) then lo else lo + step)) fpInexact r)

/-- What a conversion to an integer of n bits delivers (R104). -/
def ToInteger (m : RM) (lo hi : ℤ) (n : Nat) (x : Number) (r : Nat × Fp) : Prop :=
  let bits := fun (i : ℤ) => (i % 2 ^ n).toNat
  match x with
  | .nan _ => r = (0, fpInvalid)
  | .inf neg => r = (bits (if neg then lo else hi), fpInvalid ||| fpSaturated)
  | .num _ q => r = if toWhole m q < lo then (bits lo, fpInvalid ||| fpSaturated) else if hi < toWhole m q then (bits hi, fpInvalid ||| fpSaturated)
      else (bits (toWhole m q), if (toWhole m q : ℚ) = q then 0 else fpInexact)

/-- A conversion between floats (R104): a signalling NaN sets INVALID. -/
def Converted (g f : Fmt) (m : RM) (sat : Bool) (a : Nat) (r : Nat × Fp) : Prop := Delivers f m sat (number g a, signalling [number g a]) r

/-- An integer as a number. -/
def whole (i : ℤ) : Number := .num (decide (i < 0)) i

end Sys2Proof.Claims

/-- The element operations of the float words: the exact result of R133, R134, R138 and R147 is rounded once in the mode (R100, R101), with the exceptions
of R102 and R105; `vmin` and `vmax` deliver an operand; the whole-number forms never set INEXACT (R135). In the native formats of R96. -/
def Sys2Proof.Claims.FloatArithmetic : Prop :=
  f64 = { eb := 11, bias := 1023, fb := 52 } ∧ f32 = { eb := 8, bias := 127, fb := 23 } ∧ bf16 = { eb := 8, bias := 127, fb := 7 } ∧
  f16 = { eb := 5, bias := 15, fb := 10 } ∧
  (∀ f ∈ [f64, f32, bf16, f16], ∀ (m : RM) (sat : Bool) (a b c : Nat),
    Sys2Proof.Claims.isCode f a → Sys2Proof.Claims.isCode f b → Sys2Proof.Claims.isCode f c →
    let x := Sys2Proof.Claims.number f a
    let y := Sys2Proof.Claims.number f b
    let z := Sys2Proof.Claims.number f c
    Sys2Proof.Claims.Delivers f m sat (Sys2Proof.Claims.sumOf m [x, y]) (addF f m sat a b) ∧
    Sys2Proof.Claims.Delivers f m sat (Sys2Proof.Claims.sumOf m [x, Sys2Proof.Claims.minus y]) (subF f m sat a b) ∧
    Sys2Proof.Claims.Delivers f m sat (Sys2Proof.Claims.product x y) (mulF f m sat a b) ∧
    Sys2Proof.Claims.Delivers f m sat (Sys2Proof.Claims.productSum m x y z) (fmaF f m sat a b c) ∧
    Sys2Proof.Claims.Delivers f m sat (Sys2Proof.Claims.quotient x y) (divF f m sat a b) ∧
    minMaxCode f false a b = Sys2Proof.Claims.pick f false a b ∧ minMaxCode f true a b = Sys2Proof.Claims.pick f true a b) ∧
  (∀ (m : RM) (sat : Bool) (a : Nat), Sys2Proof.Claims.isCode f64 a →
    match Sys2Proof.Claims.number f64 a with
    | .nan s => sqrtF f64 m sat a = (0x7FF8000000000000, if s then fpInvalid else 0)
    | .inf n => sqrtF f64 m sat a = if n then (0x7FF8000000000000, fpInvalid) else (a, 0)
    | .num n q => if q = 0 then sqrtF f64 m sat a = (a, 0) else if n then sqrtF f64 m sat a = (0x7FF8000000000000, fpInvalid)
      else Sys2Proof.Claims.RootOf f64 m q (sqrtF f64 m sat a)) ∧
  (∀ f ∈ [f64, f32], ∀ (m : RM) (a : Nat), Sys2Proof.Claims.isCode f a →
    let x := Sys2Proof.Claims.number f a
    let top := 2 ^ (f.eb + f.fb)
    unaryF f m 0 a = (a ^^^ top, 0) ∧ unaryF f m 1 a = (a % top, 0) ∧
    Sys2Proof.Claims.Delivers f m false (Sys2Proof.Claims.wholeOf .rdn x) (unaryF f m 2 a) ∧
    Sys2Proof.Claims.Delivers f m false (Sys2Proof.Claims.wholeOf .rup x) (unaryF f m 3 a) ∧
    Sys2Proof.Claims.Delivers f m false (Sys2Proof.Claims.wholeOf .rtz x) (unaryF f m 4 a) ∧
    Sys2Proof.Claims.Delivers f m false (Sys2Proof.Claims.wholeOf m x) (unaryF f m 5 a) ∧
    (match x with
      | .nan s => unaryF f m 6 a = (Sys2Proof.Claims.canonical f, if s then fpInvalid else 0)
      | .inf _ => unaryF f m 6 a = (Sys2Proof.Claims.canonical f, fpInvalid)
      | .num _ q => ∃ e, Sys2Proof.Claims.Delivered f .rtz false (.num false (Int.fract q)) ((unaryF f m 6 a).1, e) ∧ (unaryF f m 6 a).2 = e &&& fpInexact)) ∧
  (∀ (p : Prefix) (a b c : Nat), Sys2Proof.Claims.isCode f32 a → Sys2Proof.Claims.isCode f32 b → Sys2Proof.Claims.isCode f32 c →
    let m := p.mode .rne
    let parts := fun (f : Fmt) (w i : Nat) => (Sys2Proof.Claims.number f (a / 2 ^ (w * i) % 2 ^ w), Sys2Proof.Claims.number f (b / 2 ^ (w * i) % 2 ^ w))
    let square := fun (x : Sys2Proof.Claims.Number × Sys2Proof.Claims.Number) =>
      let d := Sys2Proof.Claims.sumOf .rne [x.1, Sys2Proof.Claims.minus x.2]
      let q := Sys2Proof.Claims.product d.1 d.1
      (q.1, d.2 ||| q.2)
    let whole := fun (l : List (Sys2Proof.Claims.Number × Fp)) =>
      let t := Sys2Proof.Claims.sumOf m (Sys2Proof.Claims.number f32 c :: l.map (fun x => x.1))
      (t.1, l.foldl (fun e x => e ||| x.2) t.2)
    Sys2Proof.Claims.Delivers f32 m false (whole ((List.range 4).map (fun i => Sys2Proof.Claims.product (parts e4m3 8 i).1 (parts e4m3 8 i).2)))
      (distRes p c (distTerms e4m3 false 4 8 a b)) ∧
    Sys2Proof.Claims.Delivers f32 m false (whole ((List.range 4).map (fun i => square (parts e4m3 8 i)))) (distRes p c (distTerms e4m3 true 4 8 a b)) ∧
    Sys2Proof.Claims.Delivers f32 m false (whole ((List.range 2).map (fun i => square (parts bf16 16 i)))) (distRes p c (distTerms bf16 true 2 16 a b)))

/-- The element operations of the conversions and packs (R104, R105, R139, R141): between floats the number is rounded once; to an integer it is rounded, clamped,
with INVALID and SATURATED where it is clamped and no INEXACT beside them, the model's choice (log entry 89); an integer is delivered as a number; a narrowed
integer keeps its low bits or is clamped. -/
def Sys2Proof.Claims.ConversionValues : Prop :=
  (∀ (p : Prefix) (a old : Nat), a < 2 ^ 64 → old < 2 ^ 32 →
    let near := p.mode .rne
    let zero := p.mode .rtz
    let w := a % 2 ^ 32
    let signed := (BitVec.ofNat 32 w).toInt
    let num := fun (i : ℤ) => (Sys2Proof.Claims.whole i, (0 : Fp))
    let low := fun (hi : Bool) => if hi then a / 2 ^ 16 % 2 ^ 16 else a % 2 ^ 16
    Sys2Proof.Claims.ToInteger zero (-2 ^ 31) (2 ^ 31 - 1) 32 (Sys2Proof.Claims.number f32 w) (convert p 0x00 w old) ∧
    Sys2Proof.Claims.ToInteger zero 0 (2 ^ 32 - 1) 32 (Sys2Proof.Claims.number f32 w) (convert p 0x01 w old) ∧
    Sys2Proof.Claims.Delivers f32 near false (num signed) (convert p 0x02 w old) ∧
    Sys2Proof.Claims.Delivers f32 near false (num w) (convert p 0x03 w old) ∧
    Sys2Proof.Claims.Converted f64 f32 near p.sat a (convert p 0x04 a old) ∧
    Sys2Proof.Claims.Converted f32 f64 .rne false w (convert p 0x05 w old) ∧
    Sys2Proof.Claims.ToInteger zero (-2 ^ 31) (2 ^ 31 - 1) 32 (Sys2Proof.Claims.number f64 a) (convert p 0x06 a old) ∧
    Sys2Proof.Claims.Delivers f64 .rne false (num signed) (convert p 0x07 w old) ∧
    Sys2Proof.Claims.ToInteger zero 0 (2 ^ 32 - 1) 32 (Sys2Proof.Claims.number f64 a) (convert p 0x08 a old) ∧
    (∀ code hi f, (code, hi, f) ∈ [(0x09, false, bf16), (0x0A, true, bf16), (0x0B, false, f16), (0x0C, true, f16)] →
      ∃ h, Sys2Proof.Claims.Converted f32 f near p.sat w (h, (convert p code w old).2) ∧
        (convert p code w old).1 = if hi then old % 2 ^ 16 + 2 ^ 16 * h else old / 2 ^ 16 * 2 ^ 16 + h) ∧
    (∀ code hi f, (code, hi, f) ∈ [(0x0D, false, bf16), (0x0E, true, bf16), (0x0F, false, f16), (0x10, true, f16)] →
      Sys2Proof.Claims.Converted f f32 .rne false (low hi) (convert p code w old)) ∧
    (∀ code f g, (code, f, g) ∈ [(0x11, bf16, f16), (0x12, f16, bf16)] →
      ∃ x y : Nat × Fp, Sys2Proof.Claims.Converted f g near p.sat (low false) x ∧ Sys2Proof.Claims.Converted f g near p.sat (low true) y ∧
        convert p code w old = (x.1 + 2 ^ 16 * y.1, x.2 ||| y.2)) ∧
    (∀ code n (signed? : Bool), (code, n, signed?) ∈ [(0x13, 8, true), (0x14, 16, true), (0x15, 8, false), (0x16, 16, false)] →
      let i : ℤ := if signed? then signed else w
      let lo : ℤ := if signed? then -2 ^ (n - 1) else 0
      let hi : ℤ := if signed? then 2 ^ (n - 1) - 1 else 2 ^ n - 1
      let bits := fun (k : ℤ) => (k % 2 ^ 32).toNat
      convert p code w old =
        if p.sat = false then (if signed? then ((BitVec.ofNat n w).signExtend 32).toNat else w % 2 ^ n, 0)
        else if i < lo then (bits lo, fpSaturated) else if hi < i then (bits hi, fpSaturated) else (bits i, 0))) ∧
  (∀ (p : Prefix) (a : Nat), a < 2 ^ 32 →
    (∀ code lo hi n, (code, lo, hi, n) ∈ [(0x01, (-128 : ℤ), (127 : ℤ), 8), (0x02, 0, 255, 8), (0x03, -8, 7, 4)] →
      Sys2Proof.Claims.ToInteger (p.mode .rtz) lo hi n (Sys2Proof.Claims.number f32 a) (packTo p code a)) ∧
    (∀ code f, (code, f) ∈ [(0x08, e4m3), (0x09, e5m2), (0x0C, fp4)] → Sys2Proof.Claims.Converted f32 f (p.mode .rne) p.sat a (packTo p code a))) ∧
  (∀ (a : Nat), a < 256 →
    Sys2Proof.Claims.Delivers f32 .rne false (Sys2Proof.Claims.whole (BitVec.ofNat 8 a).toInt, 0) (unpackFrom 0x01 a) ∧
    Sys2Proof.Claims.Delivers f32 .rne false (Sys2Proof.Claims.whole a, 0) (unpackFrom 0x02 a) ∧
    (a < 16 → Sys2Proof.Claims.Delivers f32 .rne false (Sys2Proof.Claims.whole (BitVec.ofNat 4 a).toInt, 0) (unpackFrom 0x03 a)) ∧
    (∀ code f, (code, f) ∈ [(0x08, e4m3), (0x09, e5m2)] → Sys2Proof.Claims.Converted f f32 .rne false a (unpackFrom code a)) ∧
    (a < 16 → Sys2Proof.Claims.Converted fp4 f32 .rne false a (unpackFrom 0x0C a)))

/-- What R136 and R137 fix of the special functions, whatever the free choices: the values at zero, at the infinities and at NaN; exp2 of the whole numbers
from -149 to 127, log2 of the powers of two, sinpi and cospi of the multiples of one half, and the correctly rounded square root, none of them with a flag. -/
def Sys2Proof.Claims.SpecialFunctionEdges : Prop :=
  ∀ (n : Nat),
    (∀ op, op ≤ 9 → sfu op n 0x7FC00000 = (0x7FC00000, 0) ∧ sfu op n 0x7F800001 = (0x7FC00000, fpInvalid)) ∧
    sfu 0 n 0 = (0x7F800000, fpDivzero) ∧ sfu 0 n 0x80000000 = (0xFF800000, fpDivzero) ∧ sfu 0 n 0xFF800000 = (0x80000000, 0) ∧
    sfu 1 n 0 = (0x7F800000, fpDivzero) ∧ sfu 1 n 0x80000000 = (0xFF800000, fpDivzero) ∧ sfu 1 n 0xBF800000 = (0x7FC00000, fpInvalid) ∧
    sfu 2 n 0x80000000 = (0x80000000, 0) ∧ sfu 2 n 0x40800000 = (0x40000000, 0) ∧ sfu 2 n 0xBF800000 = (0x7FC00000, fpInvalid) ∧
    sfu 3 n 0 = (0x3F800000, 0) ∧ sfu 3 n 0xFF800000 = (0, 0) ∧ sfu 3 n 0x7F800000 = (0x7F800000, 0) ∧
    sfu 4 n 0 = (0xFF800000, fpDivzero) ∧ sfu 4 n 0x3F800000 = (0, 0) ∧ sfu 4 n 0xBF800000 = (0x7FC00000, fpInvalid) ∧
    sfu 5 n 0x7F800000 = (0x7FC00000, fpInvalid) ∧ sfu 6 n 0xFF800000 = (0x7FC00000, fpInvalid) ∧
    sfu 7 n 0x80000000 = (0x80000000, 0) ∧ sfu 7 n 0xFF800000 = (0xBF800000, 0) ∧
    sfu 8 n 0x7F800000 = (0x3F800000, 0) ∧ sfu 9 n 0xFF800000 = (0, 0) ∧ sfu 9 n 0x7F800000 = (0x3F800000, 0) ∧
    (∀ (a : Nat) (neg : Bool) (q : ℚ), Sys2Proof.Claims.isCode f32 a → Sys2Proof.Claims.number f32 a = .num neg q →
      (∀ k : ℤ, q = k → -149 ≤ k → k ≤ 127 → Sys2Proof.Claims.IsResult f32 (.num false (2 ^ k)) 0 (sfu 3 n a)) ∧
      (∀ k : ℤ, q = 2 ^ k → Sys2Proof.Claims.IsResult f32 (.num (decide (k < 0)) k) 0 (sfu 4 n a)) ∧
      (∀ k : ℤ, q = k → Sys2Proof.Claims.IsResult f32 (.num neg 0) 0 (sfu 5 n a) ∧
        Sys2Proof.Claims.IsResult f32 (.num (decide (k % 2 = 1)) (if k % 2 = 1 then -1 else 1)) 0 (sfu 6 n a)) ∧
      (∀ k : ℤ, q = k + 1 / 2 → Sys2Proof.Claims.IsResult f32 (.num (decide (k % 2 = 1)) (if k % 2 = 1 then -1 else 1)) 0 (sfu 5 n a) ∧
        Sys2Proof.Claims.IsResult f32 (.num false 0) 0 (sfu 6 n a)) ∧
      (0 < q → ∃ y, Sys2Proof.Claims.RootOf f32 .rne q y ∧ sfu 2 n a = (y.1, 0)))

namespace Sys2Proof.Claims

/-- One number is below another, or equal to it; the two zeros are equal (R73, R131). -/
def isBelow : Number → Number → Bool
  | .num _ p, .num _ q => decide (p < q)
  | .inf n, .inf k => n && !k
  | .inf n, .num _ _ => n
  | .num _ _, .inf k => !k
  | _, _ => false
def isEqual : Number → Number → Bool
  | .num _ p, .num _ q => decide (p = q)
  | .inf n, .inf k => n == k
  | _, _ => false

/-- The float conditions of R73: with a NaN only `ne` and `uo` hold. -/
def floatCond (c : BitVec 4) (x y : Number) : Bool :=
  let unordered := x.isNaN || y.isNaN
  match c.toNat with
  | 8 => unordered
  | 9 => !unordered
  | 1 => unordered || !isEqual x y
  | _ => !unordered && cond c (isBelow x y) (isEqual x y)

end Sys2Proof.Claims

/-- The element operation of the float compares: the condition of R73 on the two numbers, and INVALID where one is a signalling NaN (R131). -/
def Sys2Proof.Claims.FloatCompares : Prop :=
  ∀ f ∈ [f32, f64], ∀ (c : BitVec 4) (a b : Nat), c.toNat ∈ [0, 1, 2, 3, 4, 5, 8, 9] → Sys2Proof.Claims.isCode f a → Sys2Proof.Claims.isCode f b →
    let x := Sys2Proof.Claims.number f a
    let y := Sys2Proof.Claims.number f b
    cmpF f c.toNat a b = (Sys2Proof.Claims.floatCond c x y, Sys2Proof.Claims.signalling [x, y])

/-- The float lane words, and the exact, once rounded results of their element operations; `vsfu` with the model's value of its function, and the exact points of the functions (R96, R98-R102, R105, R133-R138, R147).
Readings of the model's own, by log entry: the value inside an SFU bound is a free choice (log entries 5, 15). -/
def Obligations.FloatLaneWords : Prop :=
  Sys2Proof.Claims.FloatElementWords ∧ Sys2Proof.Claims.FloatArithmetic ∧ Sys2Proof.Claims.LaneSpecialFunctions ∧ Sys2Proof.Claims.SpecialFunctionEdges

/-- The conversions, packs and unpacks, element by element, and the value of each (R104, R105, R139-R141).
Readings of the model's own, by log entry: no INEXACT beside a clamp (89). -/
def Obligations.LaneConversions : Prop :=
  Sys2Proof.Claims.LaneConversionWords ∧ Sys2Proof.Claims.ConversionValues

/-- Lane constants, `vsel`, and the compares that write masks, with the value of each condition on integers and on floats (R73, R130-R132). -/
def Obligations.LaneSelections : Prop :=
  Sys2Proof.Claims.LaneConstantsAndSelect ∧ Sys2Proof.Claims.LaneCompares ∧ Sys2Proof.Claims.FloatCompares

/-- The lane words whose lanes read other lanes: shuffles, the paired swap, reductions and scans (R142-R145). -/
def Obligations.LaneCrossWords : Prop :=
  Sys2Proof.Claims.LaneShuffles ∧ Sys2Proof.Claims.LaneReductions

/-! ## When lane results are written -/

namespace Sys2Proof.Claims

/-- The cycle in which register-operation j of a lane word enters the datapath, for a word issued in cycle c to a backend whose datapath is
free at cycle `free` (R48): c + j, or when the operation before it has left the datapath. -/
def entryCycle (busy c free : Nat) : Nat → Nat
  | 0 => Nat.max c free
  | j + 1 => Nat.max (c + j + 1) (entryCycle busy c free j + busy)

/-- A step is in the agenda. -/
def InAgenda (t : State) (due : Nat) (i : Instr) (e : Ev) : Prop := { due := due, what := i, ev := e : Due } ∈ t.agenda

/-- The register contents of a group are those of another. -/
def SameRegisters (g h : Group) : Prop := h.v = g.v ∧ h.s = g.s ∧ h.k = g.k ∧ h.f = g.f ∧ h.desc = g.desc ∧ h.fpstat = g.fpstat ∧ h.rows = g.rows

end Sys2Proof.Claims

/-- A lane word issues its results: operation j of n is available its form's latency after its entry cycle (R48, R49, R126), and nothing that a
program can read has changed yet: no register, mask, flag or FPSTAT bit of any group, and no byte of memory. -/
def Sys2Proof.Claims.LaneResultsScheduled : Prop :=
  ∀ (i : Instr) (u : Issuer) (s : State) (l : LaneForm) (ps : List Pending),
    s.issuer? = some u → laneForm i = some l → ps.length ≤ l.regOps →
    ∃ t, finish u i (.ok (s.pendAll u i ps)) = t ∧
      Sys2Proof.Claims.SameRegisters u.g (t.group u.gid) ∧ (t.group u.gid).ops = u.g.ops ∧
      (∀ j p, ps[j]? = some p → ∃ key avail,
        avail = Sys2Proof.Claims.entryCycle l.busy s.cycle (s.plot u.g.plot).dataFree (l.regOps - ps.length + j) + l.lat ∧
        tabFind (t.group u.gid).pend key = some { p with avail := avail } ∧
        Sys2Proof.Claims.InAgenda t avail .laneResultWrite { a := u.gid, b := key }) ∧
      SameGroupsBut u.gid s t ∧ SameMemory s t ∧ t.teams = s.teams ∧ t.ctxs = s.ctxs ∧ t.quads = s.quads ∧ t.cycle = s.cycle ∧
      (∀ q, q ≠ u.g.plot → (t.plot q) = s.plot q)

/-- The latency and the datapath cycles of every lane form (R126). -/
def Sys2Proof.Claims.LaneLatencies : Prop :=
  ∀ (i : Instr) (l : LaneForm), laneForm i = some l → flagSel i = none →
    (l.lat, l.busy) = match i with
      | .vsfuF32 .. => (24, 4)
      | .vdivF32 .. => (48, 8)
      | .vdivF64 .. | .vsqrtF64 .. => (96, 16)
      | .vcmpF64 .. | .vaddF64 .. | .vmulF64 .. | .vfmaF64 .. | .vminF64 .. | .vmaxF64 .. | .vunF64 .. => (16, 1)
      | .vcvt _ _ c _ => if c = 4 ∨ c = 5 ∨ c = 6 ∨ c = 7 ∨ c = 8 then (16, 1) else (8, 1)
      | .vshflIdx .. | .vshflXor .. | .vshflUp .. | .vshflDn .. | .vswp2 .. | .vred .. | .vscan .. => (12, 1)
      | _ => (8, 1)

/-- When its cycle has come, a pending result is written: the lanes it names take its values, the group's other lanes and registers keep theirs,
and its exceptions are added to FPSTAT, which no lane word clears (R49, R102, R103). -/
def Sys2Proof.Claims.LaneResultWritten : Prop :=
  ∀ (s : State) (gid key : Nat) (g : Group) (p : Pending),
    s.ev = { a := gid, b := key } → tabFind s.groups gid = some g → tabFind g.pend key = some p →
    ∃ t h, exec .laneResultWrite s = .next t ∧ tabFind t.groups gid = some h ∧ tabFind h.pend key = none ∧
      h.fpstat = g.fpstat ||| p.fp ∧
      (∀ r n, n < 64 → laneOf (h.readV r) n = if p.reg = .v r ∧ p.lanes.getLsbD n = true then laneOf p.vals n else laneOf (g.readV r) n) ∧
      (∀ b k n, k ≠ 0 → n < 64 → (h.readK b k).getLsbD n =
        if p.reg = .k k ∧ p.lanes.getLsbD n = true then p.bits.getLsbD n else (g.readK b k).getLsbD n) ∧
      h.s = g.s ∧ h.f = g.f ∧ h.desc = g.desc ∧ h.ops = g.ops ∧ h.frontier = g.frontier ∧
      SameGroupsBut gid s t ∧ { t with groups := s.groups } = s

namespace Sys2Proof.Claims

/-- A lane word completes its issue (R48, R49, R71, R77, R125): every register of its destination block has one pending result, for the included lanes or, under
PFX.Z, for all lanes of the bundle, available no sooner than the form's latency allows and due then; no register, flag or FPSTAT bit of any group and no byte
of memory has changed yet. -/
def IssuesBlock (i : Instr) (u : Issuer) (s : State) : Prop :=
  ∃ t l o, exec i s = .next t ∧ laneForm i = some l ∧ l.dst = some o ∧
    (∀ r c j, r < o.rows → c < o.cols → j < o.w → ∃ key p, s.nextId ≤ key ∧ tabFind (t.group u.gid).pend key = some p ∧
      p.reg = .v (o.code + 16 * r + o.w * c + j) ∧ p.lanes = (if u.pfx.z then u.lanes else u.incl) ∧ s.cycle + l.lat ≤ p.avail ∧
      InAgenda t p.avail .laneResultWrite { a := u.gid, b := key }) ∧
    (∀ key, key < s.nextId → tabFind (t.group u.gid).pend key = tabFind u.g.pend key) ∧
    SameRegisters u.g (t.group u.gid) ∧ (t.group u.gid).ops = u.g.ops ∧ (t.group u.gid).hold = u.g.hold ∧
    SameGroupsBut u.gid s t ∧ SameMemory s t ∧ t.teams = s.teams ∧ t.ctxs = s.ctxs ∧ t.quads = s.quads ∧ t.cycle = s.cycle

/-- As `IssuesBlock`, for a compare: one pending result, of its mask (R131). -/
def IssuesMask (i : Instr) (k : BitVec 3) (u : Issuer) (s : State) : Prop :=
  ∃ t l key p, exec i s = .next t ∧ laneForm i = some l ∧ s.nextId ≤ key ∧ tabFind (t.group u.gid).pend key = some p ∧ p.reg = .k k.toNat ∧
    p.lanes = (if u.pfx.z then u.lanes else u.incl) ∧ s.cycle + l.lat ≤ p.avail ∧ InAgenda t p.avail .laneResultWrite { a := u.gid, b := key } ∧
    (∀ key, key < s.nextId → tabFind (t.group u.gid).pend key = tabFind u.g.pend key) ∧
    SameRegisters u.g (t.group u.gid) ∧ (t.group u.gid).ops = u.g.ops ∧ (t.group u.gid).hold = u.g.hold ∧
    SameGroupsBut u.gid s t ∧ SameMemory s t ∧ t.teams = s.teams ∧ t.ctxs = s.ctxs ∧ t.quads = s.quads ∧ t.cycle = s.cycle

end Sys2Proof.Claims

/-- Every lane word that issues leaves its results pending, whatever its operands, and has changed no register yet (R48, R49, R72, R126, R128-R147). -/
def Obligations.LaneWordsComplete : Prop :=
  ∀ (u : Issuer) (s : State) (d a b : BitVec 7) (x k e p m : BitVec 3) (c n : BitVec 4),
    (∀ i ∈ [.vaddF32 d a b x, .vsubF32 d a b x, .vmulF32 d a b x, .vfmaF32 d a b x, .vminF32 d a b x, .vmaxF32 d a b x, .vunF32 d a b x,
        .vsfuF32 d a b x, .vdivF32 d a b x, .vcopysignF32 d a b x], Issues i u s → Sys2Proof.Claims.IssuesBlock i u s) ∧
    (∀ i ∈ [.vaddF64 d a b x, .vmulF64 d a b x, .vfmaF64 d a b x, .vminF64 d a b x, .vmaxF64 d a b x, .vunF64 d a b x, .vdivF64 d a b x, .vsqrtF64 d a x],
      Issues i u s → Sys2Proof.Claims.IssuesBlock i u s) ∧
    (∀ i ∈ [.vaddBf16x2 d a b x, .vmulBf16x2 d a b x, .vfmaBf16x2 d a b x, .vmaxBf16x2 d a b x, .vaddF16x2 d a b x, .vmulF16x2 d a b x, .vfmaF16x2 d a b x,
        .vmaxF16x2 d a b x], Issues i u s → Sys2Proof.Claims.IssuesBlock i u s) ∧
    (∀ i ∈ [.vcvt d a b x, .vpk8 d a b x, .vupk8 d a b x, .vpk4 d a b x, .vupk4 d a b x, .vdot4E4m3 d a b x, .vdsq4E4m3 d a b x, .vdsq2Bf16 d a b x],
      Issues i u s → Sys2Proof.Claims.IssuesBlock i u s) ∧
    (∀ i ∈ [.vshflIdx d a b x, .vshflXor d a e x, .vshflUp d a e x, .vshflDn d a e x, .vswp2 d a x, .vred d a n p x, .vscan d a n p x],
      Issues i u s → Sys2Proof.Claims.IssuesBlock i u s) ∧
    (∀ i ∈ [.vaddI32 d a b x, .vsubI32 d a b x, .vaddsI32 d a b x, .vaddsN32 d a b x, .vsubsI32 d a b x, .vsubsN32 d a b x, .vmulI32 d a b x, .vmulhI32 d a b x,
        .vmulhN32 d a b x, .vmadI32 d a b x, .vminI32 d a b x, .vmaxI32 d a b x, .vminN32 d a b x, .vmaxN32 d a b x], Issues i u s → Sys2Proof.Claims.IssuesBlock i u s) ∧
    (∀ i ∈ [.vand d a b x, .vor d a b x, .vxor d a b x, .vandn d a b x, .vshl d a b x, .vshrN32 d a b x, .vshrI32 d a b x, .vrol d a b x, .vunI d a b x,
        .vmov d a x, .vli d a x, .vsel d a b m, .vlane d x, .vdot4I8 d a b x, .vdot4N8 d a b x, .vdot8I4 d a b x, .vhamm d a b x],
      Issues i u s → Sys2Proof.Claims.IssuesBlock i u s) ∧
    (∀ i ∈ [.vcmpI32 k c a b x, .vcmpN32 k c a b x, .vcmpF32 k c a b x, .vcmpF64 k c a b x], Issues i u s → Sys2Proof.Claims.IssuesMask i k u s)

/-- XPFX gives its fields to the lane word that follows it in the clause and has no other effect; the two issue as one unit (R76-R78). -/
def Obligations.PrefixApplies : Prop :=
  ∀ (u : Issuer) (s : State) (k : BitVec 3) (z : BitVec 1) (r : BitVec 3) (sat : BitVec 1) (c : BitVec 7) (v : BitVec 1) (w : Word),
    s.issuer? = some u → checks (.xpfx k z r sat c v) u s = none → u.c.words[u.c.idx + 1]? = some w → w.getLsbD 31 = false →
    ∃ t, exec (.xpfx k z r sat c v) s = .next t ∧
      LeavesGroup s u u.g t ∧ t.todo = s.todo ∧
      (t.group u.gid).clause = some { u.c with idx := u.c.idx + 1
                                               pfx := some { k := k, z := z = 1, rm := r, sat := sat = 1, c := c, cv := v = 1 } }

/-! ## Variable-latency words -/

namespace Sys2Proof.Claims

/-- What a variable-latency word leaves at its issue: the operation in flight with its operands as they were (R193 lets data registers whose
register-operation enters the datapath later be read then), its flag one higher, its first step due, and nothing else of the group, no other
group and no byte of memory changed (R57, R58, R193). -/
def Starts (i what : Instr) (u : Issuer) (s t : State) : Prop :=
  (∃ o, tabFind (t.group u.gid).ops s.nextId = some o ∧ { o with left := 0, lane := 0, entries := [] } = u.capture i) ∧
  (∀ k, k ≠ s.nextId → tabFind (t.group u.gid).ops k = tabFind u.g.ops k) ∧
  (∀ f, (t.group u.gid).readF f = if u.flagOf i = some f then u.g.readF f + 1 else u.g.readF f) ∧
  (t.group u.gid).v = u.g.v ∧ (t.group u.gid).s = u.g.s ∧ (t.group u.gid).k = u.g.k ∧ (t.group u.gid).desc = u.g.desc ∧
  (t.group u.gid).fpstat = u.g.fpstat ∧ (t.group u.gid).rows = u.g.rows ∧
  (∃ due, s.cycle ≤ due ∧ InAgenda t due what { a := u.gid, b := s.nextId }) ∧
  SameGroupsBut u.gid s t ∧ SameMemory s t

/-- The loads, the stores, the tile accesses and the atomics of the lanes and of the group. -/
def isAccessWord : Instr → Bool
  | .vldB8 .. | .vldI8 .. | .vldB16 .. | .vldI16 .. | .vldB32 .. | .vldB64 .. | .vldB128 .. | .vldf .. => true
  | .vstB8 .. | .vstB16 .. | .vstB32 .. | .vstB64 .. | .vstB128 .. | .vstf .. | .vldt .. | .vstt .. => true
  | .vatomAddN32 .. | .vatomAddF32 .. | .vatomMinI32 .. | .vatomMaxI32 .. | .vatomMinN32 .. | .vatomMaxN32 .. => true
  | .vatomAnd .. | .vatomOr .. | .vatomXor .. | .vatomXchg .. | .vatomCas .. | .vatomAddN64 .. => true
  | .sld .. | .sst .. | .satom .. | .rld .. | .rst .. => true
  | _ => false

end Sys2Proof.Claims

/-- A load, a store or an atomic issues: its operands are captured, the data registers again until
their register-operations enter (R193), its flag counts up, its access comes later (R57, R58, R190-R209, R218). For a
team that is not paired, on a device with no culled plot (R16 lets an access be dropped on its way). -/
def Sys2Proof.Claims.AccessWordsStart : Prop :=
  ∀ (i : Instr) (u : Issuer) (s : State), IssuesAlone i u s → Sys2Proof.Claims.isAccessWord i = true →
    (∀ e ∈ s.plots, e.2.culled = false) →
    ∃ t, exec i s = .next t ∧ Sys2Proof.Claims.Starts i .memoryAccessPerform u s t ∧ (t.group u.gid).hold = u.g.hold

/-- The other words that a flag counts and that only start their operation: `pfh`, `svget`, `launch`, `mxz` define, `mxq` and `mxd`, whose drain
takes an entry of the quad's table (R34, R220, R235, R246, R249, R250, R256). On a device with no culled plot (R16). -/
def Sys2Proof.Claims.EngineWordsIssue : Prop :=
  ∀ (i : Instr) (u : Issuer) (s : State), IssuesAlone i u s → (∀ e ∈ s.plots, e.2.culled = false) →
    ∀ what, (match i with
      | .pfh .. => some Instr.pfhHandoff | .svget .. => some .svgetSnapshot | .launch .. => some .launchBlockCheck
      | .mxzDefine .. => some .mxzComplete | .mxq .. => some .mxqResult | .mxd .. => some .mxdBlockCheck | _ => none) = some what →
    ∃ t, exec i s = .next t ∧ Sys2Proof.Claims.Starts i what u s t ∧ (t.group u.gid).hold = u.g.hold ∧
      (∀ d a f, i = .mxd d a f → ∃ r ∈ (t.quad (plotQuad u.g.plot)).resv, r.2.drain = true ∧ r.2.gid = u.gid ∧ r.2.op = s.nextId)

/-- `oinit`, `ofree`, `oreset`, `ostat` and `mwait` hold their group from their issue, with their operands captured; no flag counts them (R152, R163,
R166, R176). On a device with no culled plot (R16). -/
def Sys2Proof.Claims.ObjectWordsHold : Prop :=
  ∀ (i : Instr) (u : Issuer) (s : State), IssuesAlone i u s → (∀ e ∈ s.plots, e.2.culled = false) →
    ∀ what, (match i with
      | .oinit .. | .ofree .. | .oreset .. | .ostat .. => some Instr.memoryAccessPerform | .mwait .. => some .mwaitWake | _ => none) = some what →
    ∃ t, exec i s = .next t ∧ Sys2Proof.Claims.Starts i what u s t ∧ (t.group u.gid).hold ≠ none ∧ u.flagOf i = none

namespace Sys2Proof.Claims

/-- A variable-latency word is under way: its operation stands in its group under a new name, its flag is one higher, the step that performs it is due, and
no register of any group and no byte of memory has changed yet (R57, R58). -/
def UnderWay (i what : Instr) (u : Issuer) (s t : State) : Prop :=
  (∃ o, tabFind (t.group u.gid).ops s.nextId = some o ∧ o.word = i ∧ o.st = .issued ∧ o.flag = u.flagOf i ∧ o.lanes = u.incl ∧ o.bundle = u.lanes) ∧
  (∀ f, (t.group u.gid).readF f = if u.flagOf i = some f then u.g.readF f + 1 else u.g.readF f) ∧
  (t.group u.gid).v = u.g.v ∧ (t.group u.gid).s = u.g.s ∧ (t.group u.gid).k = u.g.k ∧ (t.group u.gid).desc = u.g.desc ∧
  (t.group u.gid).fpstat = u.g.fpstat ∧ (t.group u.gid).rows = u.g.rows ∧
  (∃ due, s.cycle ≤ due ∧ InAgenda t due what { a := u.gid, b := s.nextId }) ∧ SameGroupsBut u.gid s t ∧ SameMemory s t

/-- The word's issue answers a next state in which it is under way, and its group goes on. -/
def GoesOn (i what : Instr) (u : Issuer) (s : State) : Prop := ∃ t, exec i s = .next t ∧ UnderWay i what u s t ∧ (t.group u.gid).hold = u.g.hold

/-- The word's issue answers a next state in which it is under way, and its group is held. -/
def IsHeld (i what : Instr) (u : Issuer) (s : State) : Prop := ∃ t, exec i s = .next t ∧ UnderWay i what u s t ∧ (t.group u.gid).hold.isSome = true

end Sys2Proof.Claims

/-- Every word that reads or writes memory for its lanes or its group, at every operand, is under way after its issue, and its group goes on: the loads, the
stores, the tile accesses, the atomics and the uniform accesses (R57, R58, R190-R209, R218). For a team that is not paired, on a device with no culled
plot (R16 lets an access be dropped on its way). -/
def Sys2Proof.Claims.AccessWordsComplete : Prop :=
  ∀ (u : Issuer) (s : State), (∀ e ∈ s.plots, e.2.culled = false) →
    (∀ (d a : BitVec 7) (f n : BitVec 1) (z : BitVec 5) (x : BitVec 3), ∀ i ∈ [.vldB8 d a f n z x, .vldI8 d a f n z x, .vldB16 d a f n z x, .vldI16 d a f n z x,
        .vldB32 d a f n z x, .vldB64 d a f n z x, .vldB128 d a f n z x, .vldf d a f n z x, .vldt d a f z x],
      IssuesAlone i u s → Sys2Proof.Claims.GoesOn i .memoryAccessPerform u s) ∧
    (∀ (d a : BitVec 7) (f n : BitVec 1) (z : BitVec 5) (x : BitVec 3), ∀ i ∈ [.vstB8 d a f n z x, .vstB16 d a f n z x, .vstB32 d a f n z x, .vstB64 d a f n z x,
        .vstB128 d a f n z x, .vstf d a f n z x, .vstt d a f z x],
      IssuesAlone i u s → Sys2Proof.Claims.GoesOn i .memoryAccessPerform u s) ∧
    (∀ (d a : BitVec 7) (f n : BitVec 1) (z : BitVec 5) (c : BitVec 2) (r : BitVec 1), ∀ i ∈ [.vatomAddN32 d a f n z c r, .vatomAddF32 d a f n z c r,
        .vatomMinI32 d a f n z c r, .vatomMaxI32 d a f n z c r, .vatomMinN32 d a f n z c r, .vatomMaxN32 d a f n z c r, .vatomAnd d a f n z c r,
        .vatomOr d a f n z c r, .vatomXor d a f n z c r, .vatomXchg d a f n z c r, .vatomCas d a f n z c r, .vatomAddN64 d a f n z c r],
      IssuesAlone i u s → Sys2Proof.Claims.GoesOn i .memoryAccessPerform u s) ∧
    (∀ (d b n : BitVec 6) (w z : BitVec 2) (x f : BitVec 1) (p : BitVec 3), ∀ i ∈ [.sld d b n w x f z, .sst d b n w f z, .satom d b n z p f, .rld d b n f z, .rst d b n f z],
      IssuesAlone i u s → Sys2Proof.Claims.GoesOn i .memoryAccessPerform u s)

/-- Every word of an engine or of an object, at every operand, is under way after its issue: `pfh`, `svget`, `launch`, the `mxz` forms, `mxq`, `mxd` and the copies
let their group go on; the object forms, `mwait` and `pub` hold it (R34, R152, R163, R176, R212, R220, R223, R224, R235, R246, R249, R250, R256). On a
device with no culled plot (R16). -/
def Sys2Proof.Claims.EngineWordsComplete : Prop :=
  ∀ (u : Issuer) (s : State) (d a b : BitVec 6) (n : BitVec 3) (f c : BitVec 1) (q : BitVec 4) (im : BitVec 12) (sc : BitVec 2),
    (∀ e ∈ s.plots, e.2.culled = false) →
    (IssuesAlone (.pfh a f) u s → Sys2Proof.Claims.GoesOn (.pfh a f) .pfhHandoff u s) ∧
    (IssuesAlone (.svget d a c f) u s → Sys2Proof.Claims.GoesOn (.svget d a c f) .svgetSnapshot u s) ∧
    (IssuesAlone (.launch d a f q) u s → Sys2Proof.Claims.GoesOn (.launch d a f q) .launchBlockCheck u s) ∧
    (IssuesAlone (.mxzDefine d a n f) u s → Sys2Proof.Claims.GoesOn (.mxzDefine d a n f) .mxzComplete u s) ∧
    (IssuesAlone (.mxzClr d n f) u s → Sys2Proof.Claims.GoesOn (.mxzClr d n f) .mxzComplete u s) ∧
    (IssuesAlone (.mxzFree d n f) u s → Sys2Proof.Claims.GoesOn (.mxzFree d n f) .mxzComplete u s) ∧
    (IssuesAlone (.mxq d n f) u s → Sys2Proof.Claims.GoesOn (.mxq d n f) .mxqResult u s) ∧
    (IssuesAlone (.mxd d a f) u s → Sys2Proof.Claims.GoesOn (.mxd d a f) .mxdBlockCheck u s) ∧
    (IssuesAlone (.cpy d a f) u s → Sys2Proof.Claims.GoesOn (.cpy d a f) .memoryAccessPerform u s) ∧
    (IssuesAlone (.cpyCe d a b f) u s → Sys2Proof.Claims.GoesOn (.cpyCe d a b f) .memoryAccessPerform u s) ∧
    (IssuesAlone (.cpyq d a b f) u s → 1 ≤ (u.sv b).toNat → (u.sv b).toNat ≤ 64 → Sys2Proof.Claims.GoesOn (.cpyq d a b f) .memoryAccessPerform u s) ∧
    (IssuesAlone (.oinit d a b) u s → Sys2Proof.Claims.IsHeld (.oinit d a b) .memoryAccessPerform u s) ∧
    (IssuesAlone (.ofree a) u s → Sys2Proof.Claims.IsHeld (.ofree a) .memoryAccessPerform u s) ∧
    (IssuesAlone (.ostat d a) u s → Sys2Proof.Claims.IsHeld (.ostat d a) .memoryAccessPerform u s) ∧
    (IssuesAlone (.oreset a) u s → Sys2Proof.Claims.IsHeld (.oreset a) .memoryAccessPerform u s) ∧
    (IssuesAlone (.mwait d a im) u s → Sys2Proof.Claims.IsHeld (.mwait d a im) .mwaitWake u s) ∧
    (IssuesAlone (.pub a b f c sc) u s → Sys2Proof.Claims.IsHeld (.pub a b f c sc) .memoryAccessPerform u s)

/-! ## Accesses -/

namespace Sys2Proof.Claims

/-- The operation of the group that a step names may be performed now: it has just issued, no earlier access shares a byte with it (R187, R189),
no page of it is moving (R338), its team's share is in place (R355), every check passes, no block that it reaches is still being filled and no channel
stalls (R275, R316, R412), and no poisoned byte would be read (R199, R200, R365). -/
structure Performs (s : State) (gid op : Nat) (g : Group) (o : MemOp) (s1 : State) (ps : List (Elem × Place)) : Prop where
  event : s.ev = { a := gid, b := op }
  group : tabFind s.groups gid = some g
  oper : tabFind g.ops op = some o
  issued : o.st = .issued
  inOrder : s.behindEarlier gid op o = false
  still : s.opMoving gid o = false
  inPlace : s.shareAway gid o = false
  checked : s.checkOp gid o = (s1, none, ps)
  filled : s.fillsWait gid o = 0 ∧ s1.placesWake gid o ps = s1 ∧ s1.placesWait gid o ps = 0
  clean : (!g.pgc && ps.any (fun x => s1.placePoisoned gid x.1 x.2 (decide ((atomicScope o.word).getD 0 = 0)))) = false
  /-- the checks have left the groups as they were -/
  kept : s1.groups = s.groups ∧ s1.agenda = s.agenda ∧ s1.teams = s.teams

end Sys2Proof.Claims

namespace Sys2Proof.Claims

/-- The sector of a place is read without a change of the directory: it lies in the team's share, its page is not cached, or the home L1 of the plot holds
its grain (R262, R265, R266). -/
def atHand (s : State) (plot : Nat) : Place → Prop
  | .sh _ => True
  | .mem dpa pte => cacheable (dpa / 32 * 32) pte = false ∨ (s.l1State (s.l1Home plot (dpa / 32 * 32)) (dpa / 32 * 32)).isSome = true

/-- The byte that a group's load finds at a virtual address whose translation is `dpa`: its own team's latest buffered one, or memory's (R189, R286). -/
def seenByte (s : State) (team va dpa : Nat) : Byte := (cbByte (s.team team) va).getD (s.readByte dpa)

/-- The descriptor that a granule register's quarter takes (R197): the one that the base names under GP.OVR; else, of the block that the first included lane
of the quarter reads, the one that its own team's buffer or the block holds, and 0 where the block carries no metadata. -/
def quarterDesc (s : State) (team : Nat) (o : MemOp) (ps : List (Elem × Place)) (k q : Nat) : BitVec 48 :=
  if o.pitch.getLsbD 15 then
    BitVec.ofNat 48 (o.pitch.toNat / 2 ^ 24 % 256 + o.pitch.toNat / 2 ^ 16 % 256 * 2 ^ 8 + o.pitch.toNat / 2 ^ 32 % 2 ^ 32 * 2 ^ 16)
  else match ps.find? (fun x => decide (x.1.k = k) && decide (x.1.lane / 16 = q)) with
    | some (e, .mem dpa _) => if isHost dpa then 0 else (cbDesc (s.team team) e.addr.toNat).getD (s.readDesc dpa)
    | _ => 0

end Sys2Proof.Claims

/-- A load of the PGC, or of a group from its team's share or from memory at hand, reads every element at once, the team's own buffered bytes ahead of
memory; the values wait in the operation, extended as its form says, and its completion is due. `rld` delivers a reference: from an object with the
word's tag, from plain memory with a tag only where a header that is not free stands at its value; `vldf` takes a descriptor for each quarter
(R189-R191, R197, R207, R208). -/
def Sys2Proof.Claims.LoadPerforms : Prop :=
  ∀ (s s1 : State) (gid op : Nat) (g : Group) (o : MemOp) (ps : List (Elem × Place)),
    Sys2Proof.Claims.Performs s gid op g o s1 ps → Sys2Proof.Claims.isAccessWord o.word = true → isWriteWord o.word = false →
    (g.pgc = true ∨ ∀ x ∈ ps, Sys2Proof.Claims.atHand s1 g.plot x.2) →
    ∃ t o', exec .memoryAccessPerform s = .next t ∧ tabFind (t.group gid).ops op = some o' ∧ o'.st = .performed ∧
      o'.res = loadRegs o.word (ps.map (fun x => (x.1.k, x.1.lane, extendLoad o.word (bytesNat (s1.loadElem gid x.1.addr x.2 x.1.n))))) ∧
      (∀ d b i w sx f c x, o.word = .sld d b i w sx f c → ps.head? = some x →
        o'.sres = some { val := BitVec.ofNat 64 (extendLoad o.word (bytesNat (s1.loadElem gid x.1.addr x.2 x.1.n))) }) ∧
      (∀ x ∈ ps, ∀ dpa pte, g.pgc = false → x.2 = .mem dpa pte →
        s1.loadElem gid x.1.addr x.2 x.1.n = (List.range x.1.n).map (fun j => Sys2Proof.Claims.seenByte s1 g.team (x.1.addr.toNat + j) (dpa + j))) ∧
      (∀ d b i f c x, o.word = .rld d b i f c → ps.head? = some x →
        let v : DWord := BitVec.ofNat 64 (bytesNat (s1.loadElem gid x.1.addr x.2 x.1.n))
        (∀ h dpa pte, o.ref = some h → x.2 = .mem dpa pte →
          let tag := (cbTag (s1.team g.team) x.1.addr.toNat).getD (!isHost dpa && (s1.readDesc dpa).getLsbD (16 + dpa % 64 / 8))
          o'.sres = some { val := v, tag := tag, base := if tag then v else 0 }) ∧
        (o.ref = none → g.pgc = true ∨ v.toNat % 64 ≠ 0 ∨ 2 ^ 57 ≤ v.toNat → o'.sres = some { val := v }) ∧
        (o.ref = none → g.pgc = false → v.toNat % 64 = 0 → v.toNat < 2 ^ 57 → ∀ y x2 hdr, s1.headerAt g.plot g.ctx v.toNat = (y, x2, hdr) →
          let live := match x2 with | .ok _ pte => decide (pteFmt pte = 2) && decide (hdr / 2 ^ 62 % 4 ≠ 0) | _ => false
          o'.sres = some { val := v, tag := live, base := if live then v else 0 })) ∧
      (∀ d a f n z x, o.word = .vldf d a f n z x → ∀ k q, k < elemCount o.word → q < 4 →
        o'.descs[4 * k + q]? = some (Sys2Proof.Claims.quarterDesc s1 g.team o ps k q)) ∧
      Sys2Proof.Claims.InAgenda t s1.cycle .loadComplete { a := gid, b := op } ∧
      Sys2Proof.Claims.SameRegisters g (t.group gid) ∧ SameGroupsBut gid s t ∧ SameMemory s1 t

/-- A completed access writes its results in the lanes of the word, or its s register, `vldf` also the descriptors of the quarters with an included lane
(zero under PFX.Z for the others of the bundle), and its flag counts down; no other register, no other group and no memory changes (R57, R191, R193, R197). For a group that goes on and an operation that no twin shares. -/
def Sys2Proof.Claims.AccessCompletes : Prop :=
  ∀ (i : Instr) (s : State) (gid op : Nat) (g : Group) (o : MemOp),
    (i = .loadComplete ∨ i = .storeComplete ∨ (i = .atomicComplete ∧ ∀ n, o.st ≠ .logged n)) →
    s.ev = { a := gid, b := op } → tabFind s.groups gid = some g → tabFind g.ops op = some o → o.fwd = none → o.dropped = [] →
    (g.frontier ≠ [] ∨ g.clause.isSome = true ∨ g.hold.isSome = true) →
    ∃ t h, exec i s = .next t ∧ tabFind t.groups gid = some h ∧ tabFind h.ops op = none ∧
      (∀ k, k ≠ op → (tabFind h.ops k).map (fun o => { o with data := [], descs := [], cmp := [] }) =
        (tabFind g.ops k).map (fun o => { o with data := [], descs := [], cmp := [] })) ∧
      (∀ k x, k ≠ op → tabFind g.ops k = some x → (∀ n ∈ x.entries, n ≤ s.cycle) → tabFind h.ops k = some x) ∧
      (∀ f, h.readF f = if o.flag = some f then g.readF f - 1 else g.readF f) ∧
      h.v = (o.res.foldl (fun (x : Group) r => x.writeVM (if o.pfx.z then o.bundle else o.lanes) r.1 r.2) g).v ∧
      (∀ n, n < 64 → h.readS n = match o.sres, uniDest o.word with
        | some v, some d => if d = n ∧ n ≠ 63 then v else g.readS n
        | _, _ => g.readS n) ∧
      (∀ d a f n z x, o.word = .vldf d a f n z x → (o.res.map (fun r => r.1)).Nodup →
        (∀ j r vs q, o.res[j]? = some (r, vs) → q < 4 → h.readDesc r q =
          if (List.range 16).any (fun l => o.lanes.getLsbD (16 * q + l)) then o.descs.getD (4 * j + q) 0
          else if o.pfx.z ∧ (List.range 16).any (fun l => o.bundle.getLsbD (16 * q + l)) = true then 0 else g.readDesc r q) ∧
        (∀ r q, q < 4 → r ∉ o.res.map (fun r => r.1) → h.readDesc r q = g.readDesc r q)) ∧
      ((match o.word with | .vldf .. => False | _ => True) → h.desc = g.desc) ∧
      h.k = g.k ∧ h.fpstat = g.fpstat ∧ h.pend = g.pend ∧ h.clause = g.clause ∧ h.frontier = g.frontier ∧ h.hold = g.hold ∧
      SameGroupsBut gid s t ∧ SameMemory s t ∧ t.teams = s.teams ∧ t.ctxs = s.ctxs

/-- When a lane word's results are available, and what their writing changes (R48, R49, R102, R103, R126). -/
def Obligations.LaneResults : Prop :=
  Sys2Proof.Claims.LaneResultsScheduled ∧ Sys2Proof.Claims.LaneLatencies ∧ Sys2Proof.Claims.LaneResultWritten

/-- The loads, the stores, the tile accesses and the atomics issue: operands captured, flag counted up, their access due (R57, R58, R190-R209, R218).
Readings of the model's own, by log entry: which operands are captured at issue (14), the offset of a tile form (96), fixed latencies of
accesses (11). -/
def Obligations.AccessWordsIssue : Prop :=
  Sys2Proof.Claims.AccessWordsStart ∧ Sys2Proof.Claims.AccessWordsComplete

/-- The variable-latency words of the engines and the object forms: what their issue starts, and whether the group is held (R58, R81, R152, R163).
Readings of the model's own, by log entry: which operands are captured at issue (14), the hold of an object form (27), latencies of the
engines (11). -/
def Obligations.EngineAndObjectWords : Prop :=
  Sys2Proof.Claims.EngineWordsIssue ∧ Sys2Proof.Claims.ObjectWordsHold ∧ Sys2Proof.Claims.EngineWordsComplete

/-- A load performs with the bytes that memory and its own team's buffer hold, and its completion writes its registers and counts its flag down (R57, R189-R193).
Readings of the model's own, by log entry: bytes never written read zero (18), the order of accesses (88), the lookup of a header (94). -/
def Obligations.LoadsComplete : Prop :=
  Sys2Proof.Claims.LoadPerforms ∧ Sys2Proof.Claims.AccessCompletes

/-! ## Words that hold their group, rows, tiles -/

namespace Sys2Proof.Claims

/-- The word is done for now and its group is held by `h`; nothing else has changed since `m`. -/
def HoldsFrom (m : State) (u : Issuer) (h : Hold) (t : State) : Prop := LeavesGroup m u { u.g with hold := some h } t

/-- The group's tile is being filled or drained (R214). -/
def tileBusy (s : State) (u : Issuer) (n : Nat) : Prop :=
  ∃ e, tabFind (s.plot u.g.plot).tiles n = some e ∧ e.team = u.g.team ∧ (e.st = .filling ∨ e.st = .draining)

/-- An access to the tile by a group of the team is outstanding (R217). -/
def tileUsed (s : State) (u : Issuer) (n : Nat) : Prop :=
  ∃ e ∈ s.groups, e.2.team = u.g.team ∧ e.2.pgc = false ∧ ∃ o ∈ e.2.ops, tileOf o.2.word = some n

/-- The state with the plot's table of tiles changed. -/
def withTiles (s : State) (p : Nat) (f : Tab Tile → Tab Tile) : State := s.modPlot p (fun x => { x with tiles := f x.tiles })

/-- The group has arrived in the barrier's current phase, or an arrival of it is on its way there (R174). -/
def arrives (s : State) (u : Issuer) (clu : Bool) (b : Nat) : Bool :=
  (s.barrier u.g.team clu b).arrived.contains u.gid || u.g.arrivals.any (fun a => decide (a.b = b) && decide (a.clu = clu))

/-- The plot does not hold the tile entries of the group's team: a swap has carried the team out, or is still bringing it in (R355). -/
def tilesAway (s : State) (u : Issuer) : Prop :=
  u.g.loc ≠ .active ∨ ((s.plot u.g.plot).spill ≠ .idle ∧ (s.plot u.g.plot).spill ≠ .restoreSet)

/-- Nothing of the group stands before a release: its memory instructions are performed, its log is free, its team's buffer is empty with
no commit begun, and the team is not paired (R174, R177). -/
def nothingBefore (s : State) (u : Issuer) : Bool :=
  u.g.opsPerformed none && !u.g.logBusy && (s.team u.g.team).cb.isEmpty && (s.team u.g.team).commits.isEmpty && !(s.team u.g.team).paired

end Sys2Proof.Claims

/-- `wfl` holds its group while a flag of its mask is not zero (R172); `lwait` writes 0 for a failed handle, the handle with its status for a
complete launch, and otherwise holds, or writes 0 in its try form (R178); `hsig` holds until its release (R179). Nothing else changes. -/
def Sys2Proof.Claims.WaitWords : Prop :=
  ∀ (u : Issuer) (s : State),
    (∀ m, Issues (.wfl m) u s → ∃ t, exec (.wfl m) s = .next t ∧
      if ∀ n ∈ List.range 12, m.getLsbD n = true → u.g.readF n = 0 then LeavesGroup s u u.g t else Sys2Proof.Claims.HoldsFrom s u (.flags m) t) ∧
    (∀ d a x, Issues (.lwait d a x) u s → ∃ t, exec (.lwait d a x) s = .next t ∧
      if (u.sv a).msb = true ∨ (u.sv a).toNat % 2 ^ 32 = 0 then LeavesGroup s u (u.g.writeS d.toNat {}) t
      else match s.launchStatus u.g.ctx ((u.sv a).toNat % 2 ^ 32) with
        | some st => LeavesGroup s u (u.g.writeS d.toNat { val := BitVec.ofNat 64 ((u.sv a).toNat % 2 ^ 32 + st * 2 ^ 32) }) t
        | none => if x = 1 then LeavesGroup s u (u.g.writeS d.toNat {}) t
          else Sys2Proof.Claims.HoldsFrom s u (.lwait d ((u.sv a).toNat % 2 ^ 32)) t) ∧
    (∀ n, IssuesAlone (.hsig n) u s → ∃ t, exec (.hsig n) s = .next t ∧ Sys2Proof.Claims.HoldsFrom s u (.hsig n.toNat) t)

/-- The words of `wfl`, and the condition that HDR.WAIT gives at a clause's start: an entry whose header is at hand waits exactly while a flag that its
WAIT names is not zero (R172). -/
def Sys2Proof.Claims.WaitConditions : Prop :=
  (∀ (m : BitVec 12), decode [(0xBA#8 ++ 63#6 ++ 0#6 ++ m : Word)] = .ok (.wfl m)) ∧
  (∀ (u : Issuer) (s : State), Issues (.wfl 0) u s → ∃ t, exec (.wfl 0) s = .next t ∧ LeavesGroup s u u.g t) ∧
  (∀ (s : State) (g : Group) (e : FrontEntry), ((∃ b l, s.entryState g e = .wait b l) ∨ ∃ c, s.entryState g e = .ready c) →
    ∃ h, s.codeWord g e.addr.toNat = some h ∧
      ((∃ b l, s.entryState g e = .wait b l) ↔ ∃ n, n < 12 ∧ (hdrWait h).getLsbD n = true ∧ g.readF n ≠ 0))

/-- What ends a hold at the end of a cycle: every flag of a `wfl` zero; the cycle of a completed fence; 8 cycles, or 16 and two for each hop of the
cluster's longest path, after a barrier's phase; the cycle of a privileged form, whose status is written then; the completion of a launch, whose
handle and status are written; the acknowledgements of `icinv`; a host signal's release (R172, R175, R177-R179, R183, R185, R390). -/
def Sys2Proof.Claims.HoldsEnd : Prop :=
  ∀ (s : State) (gid : Nat) (g : Group), tabFind s.groups gid = some g →
    (∀ m, g.hold = some (.flags m) →
      s.releaseHold gid = if ∀ n ∈ List.range 12, m.getLsbD n = true → g.readF n = 0 then s.unhold gid else s) ∧
    (∀ c, g.hold = some (.until c) → s.releaseHold gid = if c ≤ s.cycle + 1 then s.unhold gid else s) ∧
    (∀ d v c, g.hold = some (.status d v c) → s.releaseHold gid = if c ≤ s.cycle + 1 then
      s.setGroup gid { (g.writeS d.toNat { val := v }) with hold := none } else s) ∧
    (∀ b clu ph, g.hold = some (.barWait b clu ph) → s.releaseHold gid =
      let x := s.barrier g.team clu b
      if ph < x.phase ∧ x.doneAt + (if clu then 16 + 2 * s.clusterHops (s.team g.team).cluster else 8) ≤ s.cycle + 1 then s.unhold gid else s) ∧
    (∀ b clu wait ph, g.hold = some (.barPrev b clu wait ph) →
      let x := s.barrier g.team clu b
      ¬ (ph < x.phase ∧ x.doneAt + (if clu then 16 + 2 * s.clusterHops (s.team g.team).cluster else 8) ≤ s.cycle + 1) →
      s.releaseHold gid = s) ∧
    (∀ k sc b c, g.hold = some (.fence k sc b (some c)) → s.releaseHold gid = if c ≤ s.cycle + 1 then s.unhold gid else s) ∧
    (∀ d n, g.hold = some (.lwait d n) → s.releaseHold gid = match s.launchStatus g.ctx n with
      | some st => s.setGroup gid { (g.writeS d.toNat { val := BitVec.ofNat 64 (n + st * 2 ^ 32) }) with hold := none }
      | none => s) ∧
    (∀ n, g.hold = some (.icinv n) → s.releaseHold gid = if n = 0 then s.unhold gid else s) ∧
    (∀ n, g.hold = some (.hsig n) → g.pgc = false → (s.team g.team).paired = false →
      s.releaseHold gid = (if (s.ctx g.ctx).vecEn.getLsbD n then (s.markCommitted g.team).raiseVector g.ctx n
        else (s.markCommitted g.team).modCtx g.ctx (fun x => { x with
          vecDrop := if x.vecDrop = BitVec.allOnes 64 then x.vecDrop else x.vecDrop + 1 })).unhold gid)

/-- Barriers. `bar` and `barr` arrive at once when nothing of the group is outstanding; a group that has already arrived waits for the phase; where
accesses or buffered stores are outstanding the arrival waits for them: `bar` holds its group meanwhile, `barr` lets it go on (R152, R174). `bar`
and `barw` hold on the phase. An arrival counts once; the phase completes, and the set empties, with the last participant's (R173).
Readings of the model's own, by log entry: bar holds until its own phase completes (17); a group is looked at once a cycle (27), the arrival
of a barr held on the phase before (106). -/
def Obligations.Barriers : Prop :=
  (∀ (u : Issuer) (s : State) (sc : BitVec 2) (b : BitVec 4), Issues (.bar sc b) u s →
    ∃ t, exec (.bar sc b) s = .next t ∧
      let clu := decide (sc = 1)
      let x := s.barrier u.g.team clu b.toNat
      if Sys2Proof.Claims.arrives s u clu b.toNat then Sys2Proof.Claims.HoldsFrom s u (.barPrev b.toNat clu true x.phase) t
      else if Sys2Proof.Claims.nothingBefore s u then
        Sys2Proof.Claims.HoldsFrom (s.barrierArrive u.gid u.g.team clu b.toNat) u (.barWait b.toNat clu x.phase) t
      else Sys2Proof.Claims.HoldsFrom s u (.barDrain b.toNat clu false) t) ∧
  (∀ (u : Issuer) (s : State) (sc : BitVec 2) (b : BitVec 4), Issues (.barr sc b) u s →
    ∃ t, exec (.barr sc b) s = .next t ∧
      let clu := decide (sc = 1)
      let x := s.barrier u.g.team clu b.toNat
      if Sys2Proof.Claims.arrives s u clu b.toNat then Sys2Proof.Claims.HoldsFrom s u (.barPrev b.toNat clu false x.phase) t
      else if Sys2Proof.Claims.nothingBefore s u then LeavesGroup (s.barrierArrive u.gid u.g.team clu b.toNat) u u.g t
      else LeavesGroup s u { u.g with arrivals := u.g.arrivals ++ [{ b := b.toNat, clu := clu, before := s.nextId }] } t) ∧
  (∀ (u : Issuer) (s : State) (sc : BitVec 2) (b : BitVec 4), Issues (.barw sc b) u s →
    ∃ t, exec (.barw sc b) s = .next t ∧
      let clu := decide (sc = 1)
      let x := s.barrier u.g.team clu b.toNat
      if Sys2Proof.Claims.arrives s u clu b.toNat then Sys2Proof.Claims.HoldsFrom s u (.barWait b.toNat clu x.phase) t else LeavesGroup s u u.g t) ∧
  (∀ (s : State) (gid tid b : Nat) (clu : Bool), (tabFind s.teams tid).isSome → (tabFind s.clusters (s.team tid).cluster).isSome →
    let x := s.barrier tid clu b
    let all := insertNat x.arrived gid
    (s.barrierArrive gid tid clu b).barrier tid clu b =
      if (s.participants tid clu).all (fun g => all.contains g) then { phase := x.phase + 1, arrived := [], doneAt := s.cycle }
      else { x with arrived := all })

/-- `fence` and `fenceng` hold their group; with nothing to wait for they complete 4 cycles after issue (R177, R231).
Readings of the model's own, by log entry: which forms a fence waits for (30); a group is looked at once a cycle (27). -/
def Obligations.Fences : Prop :=
  ∀ (u : Issuer) (s : State),
    (∀ k sc, Issues (.fence k sc) u s → ∃ t, exec (.fence k sc) s = .next t ∧
      let idle := k = 2 ∨ (u.g.opsPerformed none = true ∧ u.g.logBusy = false ∧
        (sc.toNat < 2 ∨ u.g.pgc = true ∨ Sys2Proof.Claims.nothingBefore s u = true))
      (idle → Sys2Proof.Claims.HoldsFrom s u (.fence k.toNat sc.toNat false (some (s.cycle + 4))) t) ∧
      (¬ idle → Sys2Proof.Claims.HoldsFrom s u (.fence k.toNat sc.toNat false none) t)) ∧
    (Issues .fenceng u s → ∃ t, exec .fenceng s = .next t ∧
      Sys2Proof.Claims.HoldsFrom s u (if u.g.engineBusy then .fenceng else .until (s.cycle + 4)) t)

/-- Register rows. `racq` maps rows, which read zero, when the pool holds them and nothing waits; otherwise it waits in order; its try form answers 1
or 0; `rrel` unmaps the highest rows and lets the requests be served, oldest first while rows suffice (R59-R61). -/
def Sys2Proof.Claims.RegisterRows : Prop :=
  (∀ (g : Group) (n : Nat), (g.mapRows n).rows = g.rows + n ∧
    (∀ r, (g.mapRows n).readV r = if 16 * g.rows ≤ r ∧ r < 16 * (g.rows + n) then zeroLanes else g.readV r) ∧
    (∀ r q, q < 4 → (g.mapRows n).readDesc r q = if 16 * g.rows ≤ r ∧ r < 16 * (g.rows + n) then 0 else g.readDesc r q)) ∧
  ∀ (u : Issuer) (s : State),
    (∀ n, Issues (.racq n) u s → ∃ t, exec (.racq n) s = .next t ∧
      if n.toNat ≤ s.freeRows u.g.plot ∧ (s.rowRequests u.g.plot).isEmpty = true then LeavesGroup s u (u.g.mapRows n.toNat) t
      else Sys2Proof.Claims.HoldsFrom s.bump u (.racq n.toNat s.nextId) t) ∧
    (∀ d n, Issues (.racqTry d n) u s → ∃ t, exec (.racqTry d n) s = .next t ∧
      if n.toNat ≤ s.freeRows u.g.plot ∧ (s.rowRequests u.g.plot).isEmpty = true then
        LeavesGroup s u ((u.g.mapRows n.toNat).writeS d.toNat { val := 1 }) t
      else LeavesGroup s u (u.g.writeS d.toNat {}) t) ∧
    (∀ n, Issues (.rrel n) u s → ∃ t, exec (.rrel n) s = .next t ∧
      LeavesGroup (s.afterOnce 0 .racqServe { a := u.g.plot }) u
        { (u.g.zeroRows (u.g.rows - n.toNat) u.g.rows) with rows := u.g.rows - n.toNat } t) ∧
    (s.rowRequests s.ev.a = [] → exec .racqServe s = .next s) ∧
    (∀ gid n rest, s.rowRequests s.ev.a = (gid, n) :: rest → s.freeRows (s.group gid).plot < n → exec .racqServe s = .next s) ∧
    (∀ gid n, s.rowRequests s.ev.a = [(gid, n)] → n ≤ s.freeRows (s.group gid).plot →
      exec .racqServe s = .next (s.modGroup gid (fun g => { (g.mapRows n) with hold := none })))

/-- Shared tiles. `tset` gives a tile its place and its state, `tdrop` empties it, its free form gives it back, each held while the tile is filling or
draining, the last two also while an access to it is outstanding, and each while a swap has the team's entries away; `tstat` reads the entry
(R214-R217, R355). -/
def Sys2Proof.Claims.SharedTiles : Prop :=
  ∀ (u : Issuer) (s : State),
    (∀ n a b r, Issues (.tset n a b r) u s → ∃ t, exec (.tset n a b r) s = .next t ∧
      (Sys2Proof.Claims.tilesAway s u ∨ Sys2Proof.Claims.tileBusy s u n.toNat → Sys2Proof.Claims.HoldsFrom s u (.tile (.tset n a b r)) t) ∧
      (¬ (Sys2Proof.Claims.tilesAway s u ∨ Sys2Proof.Claims.tileBusy s u n.toNat) → LeavesGroup (Sys2Proof.Claims.withTiles s u.g.plot (fun m => tabPut m n.toNat
        { team := u.g.team, off := (u.sv a).toNat / 64, len := (u.sv b).toNat / 64, st := if r = 1 then .ready else .empty })) u u.g t)) ∧
    (∀ n, Issues (.tdrop n) u s → ∃ t, exec (.tdrop n) s = .next t ∧
      (Sys2Proof.Claims.tilesAway s u ∨ Sys2Proof.Claims.tileBusy s u n.toNat ∨ Sys2Proof.Claims.tileUsed s u n.toNat →
        Sys2Proof.Claims.HoldsFrom s u (.tile (.tdrop n)) t) ∧
      (¬ (Sys2Proof.Claims.tilesAway s u ∨ Sys2Proof.Claims.tileBusy s u n.toNat ∨ Sys2Proof.Claims.tileUsed s u n.toNat) → ∀ e, tabFind (s.plot u.g.plot).tiles n.toNat = some e →
        LeavesGroup (Sys2Proof.Claims.withTiles s u.g.plot (fun m => tabPut m n.toNat { e with st := .empty })) u u.g t)) ∧
    (∀ n, Issues (.tdropFree n) u s → ∃ t, exec (.tdropFree n) s = .next t ∧
      (Sys2Proof.Claims.tilesAway s u ∨ Sys2Proof.Claims.tileBusy s u n.toNat ∨ Sys2Proof.Claims.tileUsed s u n.toNat →
        Sys2Proof.Claims.HoldsFrom s u (.tile (.tdropFree n)) t) ∧
      (¬ (Sys2Proof.Claims.tilesAway s u ∨ Sys2Proof.Claims.tileBusy s u n.toNat ∨ Sys2Proof.Claims.tileUsed s u n.toNat) →
        LeavesGroup (Sys2Proof.Claims.withTiles s u.g.plot (fun m => tabDel m n.toNat)) u u.g t)) ∧
    (∀ d n, Issues (.tstat d n) u s → ∃ t, exec (.tstat d n) s = .next t ∧
      let word : DWord := match tabFind (s.plot u.g.plot).tiles n.toNat with
        | none => 0
        | some e => if e.team = u.g.team then BitVec.ofNat 64 (e.len * 2 ^ 32 + e.off * 2 ^ 16 + 4 +
            (match e.st with | .empty => 0 | .filling => 1 | .ready => 2 | .draining => 3)) else 8
      LeavesGroup s u (u.g.writeS d.toNat { val := word }) t)

/-- `icinv` and its all form hold their group until every plot in service has answered: each is asked, over the path to it, drops its lines of the
context (those that the range meets, or all), and answers after 40 cycles and the path back (R183). Where a path leads to every plot (R16).
Readings of the model's own, by log entry: the instruction cache (72) and the order of its answers (11). -/
def Obligations.InstructionInvalidation : Prop :=
  (∀ (u : Issuer) (s : State) (i : Instr) (lo len : DWord) (all : Bool), Issues i u s →
    (∀ p, s.inService p = true → (s.way? u.g.plot p).isSome = true) →
    ((∃ a b, i = .icinv a b ∧ lo = u.sv a ∧ len = u.sv b ∧ all = false) ∨ (i = .icinvAll ∧ lo = 0 ∧ len = 0 ∧ all = true)) →
    ∃ t, exec i s = .next t ∧
      Sys2Proof.Claims.HoldsFrom s u (.icinv ((List.range 384).filter s.inService).length) { t with agenda := s.agenda } ∧
      ∀ p, s.inService p = true → Sys2Proof.Claims.InAgenda t (s.cycle + s.wayCycles u.g.plot p) .icinvRequest
        { a := p, b := u.gid, v := lo, f := len.setWidth 256, flag := all }) ∧
  (∀ (s : State) (g : Group), tabFind s.groups s.ev.b = some g → g.pgc = false → (s.plot s.ev.a).culled = false →
    ∀ n, s.way? s.ev.a g.plot = some n → ∃ t, exec .icinvRequest s = .next t ∧
      (∀ l, l ∈ (t.plot s.ev.a).icache ↔ l ∈ (s.plot s.ev.a).icache ∧ ¬ (l.ctx = g.ctx ∧ (s.ev.flag = true ∨
        (0 < s.ev.f.toNat ∧ s.ev.v.toNat < l.vline * 64 + 64 ∧ l.vline * 64 < s.ev.v.toNat + s.ev.f.toNat)))) ∧
      (∀ p, p ≠ s.ev.a → t.plot p = s.plot p) ∧ t.groups = s.groups ∧ SameMemory s t ∧
      Sys2Proof.Claims.InAgenda t (s.cycle + (40 + n)) .icinvAck { a := s.ev.a, b := s.ev.b }) ∧
  (∀ (s : State) (g : Group) (n : Nat), tabFind s.groups s.ev.b = some g → g.hold = some (.icinv n) →
    exec .icinvAck s = .next (s.setGroup s.ev.b { g with hold := some (.icinv (n - 1)) }))

/-- Words that wait and what ends each wait: `wfl` holds until every flag it names reads zero, and with no flag named has no effect (R172, R177-R179, R183).
Readings of the model's own, by log entry: a group is looked at once a cycle (27); mwait and drains of the same plot (86). -/
def Obligations.WaitsAndHolds : Prop :=
  Sys2Proof.Claims.WaitWords ∧ Sys2Proof.Claims.WaitConditions ∧ Sys2Proof.Claims.HoldsEnd

/-- Register rows and shared tiles: what is mapped, held and given back (R59-R61, R214-R217).
Readings of the model's own, by log entry: a request for rows waits only behind another that waits (87). -/
def Obligations.RowsAndTiles : Prop :=
  Sys2Proof.Claims.RegisterRows ∧ Sys2Proof.Claims.SharedTiles

/-! ## Special registers and traps -/

namespace Sys2Proof.Claims

/-- What R18-R20, R24, R31, R36, R42, R44, R62, R102 and R103 give special registers of a group, by number. -/
def groupRegister (s : State) (u : Issuer) : Nat → Option Nat
  | 0x000 => some 64
  | 0x001 => some u.g.plot
  | 0x002 => some (u.g.plot / 48 * 12 + u.g.plot % 24 / 2)
  | 0x003 => some (u.g.plot % 24 / 12 + 2 * (u.g.plot / 192))
  | 0x004 => some (u.g.rank * 256 + u.g.slot)
  | 0x005 => some (s.team u.g.team).serial
  | 0x006 => some u.g.ctx
  | 0x007 => some (s.cycle / 2 % 2 ^ 64)
  | 0x008 => some (s.cycle - (s.plot u.g.plot).cycleBase)
  | 0x009 => some (s.team u.g.team).tx
  | 0x00A => some (s.team u.g.team).ty
  | 0x00B => some 0
  | 0x00C => some (s.team u.g.team).clu.1
  | 0x00D => some (s.team u.g.team).clu.2.1
  | 0x00E => some (s.team u.g.team).clu.2.2
  | 0x010 => some (s.team u.g.team).arenaBase.toNat
  | 0x011 => some (s.team u.g.team).arenaLim.toNat
  | 0x012 => some (s.team u.g.team).args.toNat
  | 0x013 => some u.g.fpstat.toNat
  | 0x014 => some u.g.rows
  | 0x015 => some (s.team u.g.team).lserial
  | 0x020 => some (((s.team u.g.team).trapRec.map (fun (r : DWord × Nat) => r.1)).getD 0).toNat
  | 0x082 => some (s.plot u.g.plot).tslice
  | 0x083 => some (s.plot u.g.plot).slotPart.toNat
  | 0x084 => some (s.ctx u.g.ctx).trapDrop
  | 0x0C1 => some (s.ctx u.g.ctx).ptroot.toNat
  | 0x0C2 => some (s.ctx u.g.ctx).handler.toNat
  | 0x0C3 => some (s.ctx u.g.ctx).trapArea.toNat
  | _ => none

/-- The end of the word that issued from `m`, which the trap has left as `v`. -/
def EndsWord (v : State) (u : Issuer) (t : State) : Prop := LeavesGroup v u ((v.group u.gid).asSequenced u.g) t

/-- No frame is dead or being filled, and no memory channel changes its rate: a write that no cache takes waits for nothing (R275, R316, R412). -/
def FramesAtRest (s : State) : Prop :=
  (∀ e ∈ s.frames, e.2.dead = false ∧ e.2.zeroing = none ∧ e.2.fill = none) ∧ s.boot.switching = []

end Sys2Proof.Claims

/-- `srd` writes what its special register reads, untagged; a read of FQPOP takes the oldest record; a register that belongs to a group, a team, a plot
or a context has no value stated for a PGC, so that some value is read. `swr` writes FPSTAT, with the exceptions that its own cycle adds, MODELCAP,
LEASEMARGIN, and starts what FQRES and FRAMECTL order; `mark` adds its record to the trace (R18-R24, R62, R102, R180, R184, R335).
Readings of the model's own, by log entry: free values for a PGC's read of a group's registers (5, 34). -/
def Obligations.SpecialRegisters : Prop :=
  ∀ (u : Issuer) (s : State),
    (∀ d r, IssuesAlone (.srd d r) u s → ∃ t, exec (.srd d r) s = .next t ∧
      if r = 0x100 then LeavesGroup s.fqPop.1 u (u.g.writeS d.toNat { val := s.fqPop.2 }) t
      else if u.g.pgc = true ∧ srScoped r.toNat = true then
        ∃ v, LeavesGroup { s with fresh := s.fresh + 1 } u (u.g.writeS d.toNat { val := v }) t
      else LeavesGroup s u (u.g.writeS d.toNat { val := s.srValue u r.toNat }) t) ∧
    (∀ n x, u.g.pgc = false → u.g.plot < 384 → Sys2Proof.Claims.groupRegister s u n = some x → s.srValue u n = BitVec.ofNat 64 x) ∧
    (s.pgc.fq.all (fun e => e.2.taken) = true → s.fqPop = (s, 0)) ∧
    (∀ a r, Issues (.swr a r) u s → ∃ t, exec (.swr a r) s = .next t ∧
      let v := u.sv a
      (r = 0x013 → LeavesGroup s u { u.g with fpstat := v.setWidth 6 ||| u.g.fpLate s.cycle } t) ∧
      (r = 0x104 → LeavesGroup (s.modPgc (fun p => { p with modelCap := v })) u u.g t) ∧
      (r = 0x106 → LeavesGroup (s.modPgc (fun p => { p with leaseMargin := v })) u u.g t) ∧
      (r = 0x101 → LeavesGroup (s.after 0 (fqresStep (fld v.toNat 12 4)) { a := fld v.toNat 0 10, b := fld v.toNat 16 8 }) u u.g t) ∧
      (r = 0x102 → Sys2Proof.Claims.HoldsFrom (s.after 0 (frameStep (fld v.toNat 60 4))
        { a := if fld v.toNat 60 4 ≤ 8 then fld v.toNat 0 48 else fld v.toNat 60 4 }) u .frameCtl t)) ∧
    (∀ a n, Issues (.mark a n) u s → u.g.pgc = false → ∃ t, exec (.mark a n) s = .next t ∧
      LeavesGroup (s.trace (plotDie u.g.plot) 7 n.toNat u.g.ctx u.g.slot u.g.plot (s.team u.g.team).serial 0 (u.sv a).toNat) u u.g t)

/-- A word that fails a check traps before it has any effect, whichever word it is; a privileged form outside the mode that may run it fails with PROT,
cause 11, once its own fields have passed; a form whose source must be a reference fails with PROT, cause 13, when that source has tag 0, wherever
its addresses lead, once its registers hold what they will (R49); words that are no instruction trap with their cause, an XPFX whose low bits are not zero with the cause of its lane word where that fails to
decode (R85, R153, R185, R340, R341). -/
def Obligations.FailedChecksTrap : Prop :=
  (∀ (i : Instr) (u : Issuer) (s : State) (f : Failure), encode i ≠ [] → s.issuer? = some u → checks i u s = some f →
    exec i s = .next (s.trapAtIssue u f)) ∧
  (∀ (i : Instr) (u : Issuer) (s : State), privBad s u i = true → (u.g.pgc = true → pgcIllegal i = false) → fieldCause u i = none →
    u.flagOf i ≠ some 15 → isTransfer i = false → checks i u s = some { cls := 7, cause := 11 }) ∧
  (∀ (i : Instr) (u : Issuer) (s : State), u.g.pgc = false → (s.team u.g.team).admin = false →
    (match i with
      | .tlbiRange .. | .tlbiContext .. | .tlbiDevice .. | .leaseInstall .. | .leaseRenew .. | .leaseReturn .. | .leaseRead .. | .pmove .. | .bias ..
      | .psplit .. | .acntRead .. | .acntReadClear .. | .acntWrite .. => True
      | .swr _ r => r ≠ 0x013
      | .srd _ r => 0x100 ≤ r.toNat ∧ r.toNat < 0x200
      | .tresReplay .. | .tresSkip .. | .tresKill .. => (s.team u.g.team).trapRec = none
      | _ => False) →
    privBad s u i = true) ∧
  (∀ (i : Instr) (u : Issuer) (s : State) (a : BitVec 6),
    (match i with
      | .radd _ n _ | .raddi _ n _ | .rbase _ n | .ofree n | .oreset n | .ostat _ n | .pub n _ _ _ _ => n = a
      | _ => False) →
    regsWait s u i = false → (u.sreg a).tag = false → (u.g.pgc = true → pgcIllegal i = false) → fieldCause u i = none → u.flagOf i ≠ some 15 → privBad s u i = false →
    checks i u s = some { cls := 7, cause := 13 }) ∧
  (∀ (s : State) (p : Nat) (rest : List Nat) (gid : Nat) (g : Group) (c : Clause) (e : DecodeError),
    s.dueStep = none → s.regs.stopped = false → s.todo = p :: rest → p ≠ 385 → s.slotGroup p = some gid → tabFind s.groups gid = some g →
    g.clause = some c → g.loc = .active → g.halted = false → g.hold = none → s.faultHeld gid g = false →
    (g.plot < 384 → (s.plot g.plot).blackout < s.cycle ∨ (s.plot g.plot).blackout = 0) → s.breaks g c = false → decode (c.words.drop c.idx) = .error e →
    step s = .next (s.trapAtIssue { gid := gid, g := g, c := c } { cls := 1, cause := c.badCause g.pgc e })) ∧
  (∀ (c : Clause) (w : Word) (e : DecodeError), c.words[c.idx]? = some w →
    (e ≠ .prefixField → c.badCause false e = e.cause ∧ (pgcIllegalWord w = false → c.badCause true e = e.cause)) ∧
    (pgcIllegalWord w = true → c.badCause true e = 1) ∧
    (c.words[c.idx + 1]? = none → c.badCause false .prefixField = 5) ∧
    (∀ l x, c.words[c.idx + 1]? = some l → l.getLsbD 31 = false → decode [l] = .error x → c.badCause false .prefixField = x.cause) ∧
    (∀ l, c.words[c.idx + 1]? = some l → l.getLsbD 31 = true → c.badCause false .prefixField = 5))

/-- Taking a trap (R340, R341, R346-R349). The record of R348 is written at the context's trap area, 64 bytes a slot; the group is held on its sequence
number; the sequence number and the slot pointer go on; the handler team is due 72 cycles later; no register of the group changes but for results
that had still to be written (R127). Where the context's trace is off, no earlier delivery waits for a slot, and nothing makes the record's write wait (R275, R316, R338). -/
def Sys2Proof.Claims.TrapTaken : Prop :=
  ∀ (s : State) (c gid tid logslot word sl dpa pte : Nat) (g : Group) (f : Failure) (clause : DWord),
    tabFind s.groups gid = some g → (s.team tid).depth ≠ 3 → (s.ctx c).trace = false → (s.ctx c).waitTraps = [] → trapSlot (s.ctx c) = some sl →
    (∀ r ∈ (s.ctx c).traps, r.seq ≠ (s.ctx c).trapSeq) →
    (s.translateWalk c ((s.ctx c).trapArea.toNat + 64 * sl) .write).2 = .ok dpa pte → Sys2Proof.Claims.FramesAtRest s → s.pgc.moving = [] →
    ∃ t h, s.deliver c (some gid) tid f logslot word clause = t ∧ tabFind t.groups gid = some h ∧
      let seq := (s.ctx c).trapSeq
      let data := s.trapPack c (some gid) tid f seq logslot word clause
      (t.ctx c).traps = (s.ctx c).traps ++ [{ seq := seq, slot := sl, gid := some gid, team := tid, logslot := logslot, cls := f.cls,
                                              data := data, written := true }] ∧
      (t.ctx c).trapSeq = (seq + 1) % 2 ^ 32 ∧ (t.ctx c).trapPtr = (sl + 1) % 4096 ∧
      { h with trapHold := g.trapHold } = (s.flushPend gid).group gid ∧ h.trapHold = g.trapHold ++ [seq] ∧
      (∀ n, n < 64 → t.readByte (dpa + n) = BitVec.ofNat 8 (data.toNat / 2 ^ (8 * n))) ∧
      Sys2Proof.Claims.InAgenda t (s.cycle + 72) .handlerTeamPlace { a := c, b := seq } ∧ SameGroupsBut gid s t ∧ t.plots = s.plots ∧ t.quads = s.quads

/-- `trap` is done and then traps, class SWTRAP with its code as cause; `brk` likewise with class BREAK, but under a debugger its group halts after the
word with its pending results written (R127, R181, R403). -/
def Sys2Proof.Claims.TrapsByWord : Prop :=
  ∀ (u : Issuer) (s : State) (c : BitVec 18),
    (Issues (.trap c) u s → ∃ t m, exec (.trap c) s = .next t ∧ LeavesGroup s u u.g m ∧
      Sys2Proof.Claims.EndsWord (m.trapGroup u.gid { cls := 18, cause := c.toNat } 15 u.word u.c.addr) u t) ∧
    (Issues (.brk c) u s → (u.g.pgc = true ∨ s.regs.dbgOwn.getLsbD u.g.ctx = false) → ∃ t m, exec (.brk c) s = .next t ∧ LeavesGroup s u u.g m ∧
      Sys2Proof.Claims.EndsWord (m.trapGroup u.gid { cls := 17, cause := c.toNat } 15 u.word u.c.addr) u t) ∧
    (Issues (.brk c) u s → u.g.pgc = false → s.regs.dbgOwn.getLsbD u.g.ctx = true → ∃ t, exec (.brk c) s = .next t ∧
      (t.group u.gid).halted = true ∧ (t.group u.gid).pend = [] ∧ Sys2Proof.Claims.EndsWord (s.flushPend u.gid) u t)

/-- `tres` writes 1 where it finds no unresolved trap of a held group, 2 where the group is halted and the action waits for its resume, and else takes the
action and writes 0: kill ends the team; replay and skip go to the logged operation of the trap, or resolve it (R182, R344, R350, R358).
Readings of the model's own, by log entry: skip after a failed header, transfer or fetch (22). -/
def Obligations.TrapResolution : Prop :=
  (∀ (i : Instr) (u : Issuer) (s : State) (d a : BitVec 6) (act : Nat) (g : Group),
    ((i = .tresReplay d a ∧ act = 0) ∨ (i = .tresSkip d a ∧ act = 1) ∨ (i = .tresKill d a ∧ act = 2)) → Issues i u s →
    tabFind (s.tres u (u.sreg a) act).1.groups u.gid = some g →
    ∃ t, exec i s = .next t ∧ LeavesGroup (s.tres u (u.sreg a) act).1 u
      ((g.writeS d.toNat { val := BitVec.ofNat 64 (s.tres u (u.sreg a) act).2 }).asSequenced u.g) t) ∧
  (∀ (u : Issuer) (s m : State) (r : SReg) (act : Nat),
    (s.tresRead u r = (m, none) → s.tres u r act = (m, 1)) ∧
    (∀ c seq, s.tresRead u r = (m, some (c, seq)) →
      (c ≠ u.g.ctx → s.tres u r act = (m, 1)) ∧
      (c = u.g.ctx → (∀ t ∈ (m.ctx c).traps, t.seq = seq → t.gid = none) → s.tres u r act = (m, 1)) ∧
      (∀ t gid, c = u.g.ctx → (m.ctx c).traps.find? (fun t => decide (t.seq = seq) && t.gid.isSome) = some t → t.gid = some gid →
        (m.group gid).queuedTres = [] →
        ((m.group gid).halted = true → s.tres u r act =
          (m.modGroup gid (fun y => { y with queuedTres := y.queuedTres ++ [(t.logslot, act, t.cls, seq)] }), 2)) ∧
        ((m.group gid).halted = false → s.tres u r act = (m.tresAct c t act, 0))))) ∧
  (∀ (s : State) (c gid : Nat) (r : TrapRec), r.gid = some gid →
    s.tresAct c r 2 = s.killTeam (s.group gid).team ∧
    (∀ e, r.logslot < 8 → tabFind (s.group gid).log r.logslot = some e →
      s.tresAct c r 0 = ((s.modGroup gid (fun x => { x with log := tabPut x.log r.logslot { e with st := .replay } })).trapResolved c r.seq).tryReplay gid ∧
      s.tresAct c r 1 = (s.trapResolved c r.seq).opAbandoned gid e.op) ∧
    (8 ≤ r.logslot → s.tresAct c r 0 = s.trapResolved c r.seq ∧
      (r.cls = 17 ∨ r.cls = 18 → s.tresAct c r 1 = s.trapResolved c r.seq)))

/-- Taking a trap: the record, the hold and the handler's launch; `trap` and `brk` take theirs after the word is done (R181, R340-R349).
Readings of the model's own, by log entry: TR.SEQ from zero (2), TR.ADDR of a tile access (26), when a failed fetch traps (32). -/
def Obligations.TrapEntry : Prop :=
  Sys2Proof.Claims.TrapTaken ∧ Sys2Proof.Claims.TrapsByWord

/-! ## Stores, atomics and the operand log -/

namespace Sys2Proof.Claims

/-- The registers of a group but for its flags are those of another. -/
def SameRegisters' (g h : Group) : Prop := h.v = g.v ∧ h.s = g.s ∧ h.k = g.k ∧ h.desc = g.desc ∧ h.fpstat = g.fpstat ∧ h.rows = g.rows

/-- The registers of every group are as they were. -/
def AllRegisters (s t : State) : Prop := ∀ k, SameRegisters (s.group k) (t.group k)

/-- The new value of an atomic of 32 or 64 bits, from the old value, the operand and the compare value (R203, R205). -/
def atomicResult (i : Instr) (old v c : Nat) : Option Nat :=
  let x : Word := BitVec.ofNat 32 old
  let y : Word := BitVec.ofNat 32 v
  match i with
  | .vatomAddN32 .. => some (x + y).toNat
  | .vatomMinI32 .. => some (if y.slt x then y else x).toNat
  | .vatomMaxI32 .. => some (if x.slt y then y else x).toNat
  | .vatomMinN32 .. => some (if y.ult x then y else x).toNat
  | .vatomMaxN32 .. => some (if x.ult y then y else x).toNat
  | .vatomAnd .. => some (x &&& y).toNat
  | .vatomOr .. => some (x ||| y).toNat
  | .vatomXor .. => some (x ^^^ y).toNat
  | .vatomXchg .. => some y.toNat
  | .vatomCas .. => some (if x = BitVec.ofNat 32 c then y else x).toNat
  | .vatomAddN64 .. => some ((old + v) % 2 ^ 64)
  | .vatomAddF32 .. => some ((addF f32 .rne false old v).1 % 2 ^ 32)
  | .satom _ _ _ _ p _ =>
    let x : DWord := BitVec.ofNat 64 old
    let y : DWord := BitVec.ofNat 64 v
    some (match p.toNat with
      | 0 => x + y | 1 => x &&& y | 2 => x ||| y | 3 => x ^^^ y
      | 4 => if y.ult x then y else x
      | 5 => if x.ult y then y else x
      | 6 => y
      | _ => if x = BitVec.ofNat 64 c then y else x).toNat
  | _ => none

end Sys2Proof.Claims

/-- A store to its team's share writes its bytes there in the order of lanes, the later lane prevailing; a store elsewhere of a team that is not paired
leaves them in the team's commit buffer, where its own loads find them, and no byte of memory has changed; the completion is due (R189, R192, R193,
R286, R287). For a store whose blocks do not bring the buffer to its high-water mark, while no commit is running and no swap drains the plot's other
set.
Readings of the model's own, by log entry: the order of accesses (88), the lookup of a header (94), the hint of an entry (95). -/
def Obligations.StoresPerform : Prop :=
  ∀ (s s1 : State) (gid op : Nat) (g : Group) (o : MemOp) (ps : List (Elem × Place)) (tm : Team),
    Sys2Proof.Claims.Performs s gid op g o s1 ps → Sys2Proof.Claims.isAccessWord o.word = true → isWriteWord o.word = true →
    atomicScope o.word = none → g.pgc = false → tabFind s1.teams g.team = some tm →
    ((∀ x ∈ ps, ∃ off, x.2 = .sh off ∧ x.1.addr.toNat = sharedWindow.toNat + off) →
      ∃ t o', exec .memoryAccessPerform s = .next t ∧ tabFind (t.group gid).ops op = some o' ∧ o'.st = .performed ∧
        (∀ a, tabGet 0 (t.team g.team).shmem a = match tabFind (o.storeBytes ps) (sharedWindow.toNat + a) with
          | some b => b
          | none => tabGet 0 tm.shmem a) ∧
        Sys2Proof.Claims.InAgenda t s1.cycle .storeComplete { a := gid, b := op } ∧ Sys2Proof.Claims.AllRegisters s t ∧ SameMemory s1 t) ∧
    ((∃ x ∈ ps, ∃ dpa pte, x.2 = .mem dpa pte) → s1.refPrivate gid o.ref = false → tm.paired = false → o.left = 0 →
      s1.outgoingEntries g.team = 0 → (∀ e ∈ tm.cb, e.commit = none) → tm.cb.length + (((o.storeBytes ps).map (fun b => b.1 / 64)).eraseDups).length < 768 →
      ∃ t o', exec .memoryAccessPerform s = .next t ∧ tabFind (t.group gid).ops op = some o' ∧ o'.st = .performed ∧
        (∀ a, cbByte (t.team g.team) a = match tabFind (o.storeBytes ps) a with
          | some b => some b
          | none => cbByte tm a) ∧
        Sys2Proof.Claims.InAgenda t s1.cycle .storeComplete { a := gid, b := op } ∧ Sys2Proof.Claims.AllRegisters s t ∧ SameMemory s1 t)

/-- An atomic performs its lanes one after another: its checks pass, its first step is due; a step reads the old value at its place and leaves the new one
of its operation there and every other byte as it was, keeps the old value for its destination, and the next lane's step, or after the last the completion,
is due (R203-R205). For a place in the team's share, or of a PGC in its own memory. A lane that is refused by then is not performed and is logged (the
model's choice: log entry 118).
Readings of the model's own, by log entry: the order of accesses (88), an atomic of a wider scope to the shared window (93). -/
def Obligations.AtomicsPerform : Prop :=
  (∀ (s s1 : State) (gid op : Nat) (g : Group) (o : MemOp) (ps : List (Elem × Place)),
    Sys2Proof.Claims.Performs s gid op g o s1 ps → (atomicScope o.word).isSome = true →
    ∃ t o', exec .memoryAccessPerform s = .next t ∧ tabFind (t.group gid).ops op = some o' ∧ o'.lane = o.lane ∧ o'.st = .blockRead ∧
      Sys2Proof.Claims.InAgenda t s1.cycle .atomicStep { a := gid, b := op } ∧ Sys2Proof.Claims.AllRegisters s t ∧ SameMemory s1 t) ∧
  (∀ (s m : State) (gid op : Nat) (g : Group) (o : MemOp) (e : Elem) (pl : Place) (r : Nat),
    s.ev = { a := gid, b := op } → tabFind s.groups gid = some g → tabFind g.ops op = some o →
    leastBy (fun (x : Elem) => x.lane) ((s.opElems gid o).filter (fun x => decide (o.lane ≤ x.lane))) = some e →
    s.checkElem gid o.ref e.addr e.n .atomic (atomicScope o.word) false = (m, none, pl) → m.groups = s.groups →
    (g.pgc = false ∧ (∃ off, pl = .sh off) ∧ (tabFind m.teams g.team).isSome = true ∨
      g.pgc = true ∧ isPgcMem e.addr.toNat = true ∧ isPgcMem (e.addr.toNat + e.n) = true ∧ pl = .mem e.addr.toNat 0) →
    let old := bytesNat (m.loadElem gid e.addr pl e.n)
    let v := bytesNat (o.elemData e.k e.lane e.n)
    let c := match o.word with | .satom .. => (o.src.getD 0 {}).val.toNat | _ => (laneOf o.cmp e.lane).toNat
    e.n = elemBytes o.word → Sys2Proof.Claims.atomicResult o.word old v c = some r →
    ∃ t o', exec .atomicStep s = .next t ∧ tabFind (t.group gid).ops op = some o' ∧ o'.lane = e.lane + 1 ∧
      bytesNat (t.loadElem gid e.addr pl e.n) = r ∧
      (∀ d a b c p f, o.word = .satom d a b c p f → o'.sres = some { val := BitVec.ofNat 64 old }) ∧
      (∀ l d j, laneForm o.word = some l → l.dst = some d → j < d.regs.length →
        ∃ vs, o'.res[j]? = some (d.regs.getD j 0, vs) ∧ laneOf vs e.lane = BitVec.ofNat 32 (old / 2 ^ (32 * j))) ∧
      Sys2Proof.Claims.InAgenda t m.cycle
        (if ((s.opElems gid o).filter (fun x => decide (o.lane ≤ x.lane))).length ≤ 1 then .atomicComplete else .atomicStep) { a := gid, b := op } ∧
      Sys2Proof.Claims.AllRegisters s t ∧
      (∀ off, pl = .sh off → SameMemory m t ∧ (∀ k, k ≠ g.team → t.team k = m.team k) ∧ (t.team g.team).cb = (m.team g.team).cb ∧
        ∀ a, a < off ∨ off + e.n ≤ a → tabGet 0 (t.team g.team).shmem a = tabGet 0 (m.team g.team).shmem a) ∧
      (g.pgc = true → t.teams = m.teams ∧ ∀ a, a < e.addr.toNat ∨ e.addr.toNat + e.n ≤ a → t.readByte a = m.readByte a)) ∧
  (∀ (s m : State) (gid op : Nat) (g : Group) (o : MemOp) (e : Elem) (pl : Place) (f : Failure),
    s.ev = { a := gid, b := op } → tabFind s.groups gid = some g → tabFind g.ops op = some o →
    leastBy (fun (x : Elem) => x.lane) ((s.opElems gid o).filter (fun x => decide (o.lane ≤ x.lane))) = some e →
    s.checkElem gid o.ref e.addr e.n .atomic (atomicScope o.word) false = (m, some f, pl) → m.groups = s.groups → g.pgc = false → f.cause = 18 →
    ∃ t o' n, exec .atomicStep s = .next t ∧ tabFind (t.group gid).ops op = some o' ∧ o'.lane = o.lane ∧ o'.res = o.res ∧
      (o'.st = .logged n ∨ ∃ k, o'.st = .heldFail k) ∧ SameMemory m t ∧ t.teams = m.teams ∧ Sys2Proof.Claims.AllRegisters s t)

/-- An access that fails a check at its performance has none of its effect: it takes the lowest free entry of its group's operand log, PENDING with a
record on its way to the fault queue for a translation failure (cause 18), TRAPPED with a trap for any other, and its flag stays up; the oldest entry
in REPLAY is performed again, or waits for the page that a `pmove` holds or for its team's share (R200, R338, R342-R345, R355, R415). An entry that `tres`
gives up goes away with its operation: the destination keeps its value, the flag counts down, memory is as it was (R182, R344).
Readings of the model's own, by log entry: replay and skip (22, 38). -/
def Obligations.OperandLog : Prop :=
  (∀ (s s1 : State) (gid op slot : Nat) (g : Group) (o : MemOp) (ps : List (Elem × Place)) (f : Failure),
    s.ev = { a := gid, b := op } → tabFind s.groups gid = some g → tabFind g.ops op = some o → o.st = .issued →
    Sys2Proof.Claims.isAccessWord o.word = true → s.behindEarlier gid op o = false → s.opMoving gid o = false → s.shareAway gid o = false → s.fillsWait gid o = 0 →
    s.checkOp gid o = (s1, some f, ps) → s1.groups = s.groups → g.pgc = false → logFree g = some slot →
    (f.cause = 18 →
      ∃ t, exec .memoryAccessPerform s = .next t ∧
        tabFind (t.group gid).log slot = some { op := op, st := .pending, order := s1.nextId, f := { f with tick := some (f.tick.getD s1.tick) } } ∧
        (∃ o', tabFind (t.group gid).ops op = some o' ∧ { o' with st := .issued } = o ∧ o'.st = .logged slot) ∧
        Sys2Proof.Claims.AllRegisters s t ∧ (∀ n, (t.group gid).readF n = g.readF n) ∧ SameMemory s1 t ∧ t.teams = s1.teams ∧ SameGroupsBut gid s t ∧
        (∀ n, s1.way? g.plot (384 + s1.pgc.serving) = some n → ∃ r, (s1.cycle + n, r, FqTarget.group gid op) ∈ t.pgc.fqRoad)) ∧
    (f.cause ≠ 18 →
      let k : Failure := { f with tick := some (f.tick.getD s1.tick) }
      exec .memoryAccessPerform s = .next
        (((s1.bump.modGroup gid (fun x => { x with log := tabPut x.log slot { op := op, st := .trapped, order := s1.nextId, f := k } })).modOp gid op
          (fun y => { y with st := .logged slot })).trapGroup gid k slot o.idx o.clause))) ∧
  (∀ (s : State) (g : Group) (k : Nat) (e : LogEntry) (o : MemOp), tabFind s.groups s.ev.a = some g →
    leastBy (fun (x : Nat × LogEntry) => x.2.order) g.log = some (k, e) →
    (e.st = .replay → g.loc = .active → tabFind g.ops e.op = some o →
      (s.opMoving s.ev.a o = false → s.shareAway s.ev.a o = false → exec .operandLogReplay s = .next (s.performOp s.ev.a e.op o)) ∧
      (s.opMoving s.ev.a o = true ∨ s.shareAway s.ev.a o = true → ∃ t, exec .operandLogReplay s = .next t ∧ Sys2Proof.Claims.AllRegisters s t ∧ SameMemory s t ∧
        Sys2Proof.Claims.InAgenda t (s.cycle + 1) .operandLogReplay { a := s.ev.a, b := e.op })) ∧
    (e.st ≠ .replay → exec .operandLogReplay s = .next s)) ∧
  (∀ (s : State) (gid op slot : Nat) (g : Group) (e : LogEntry) (o : MemOp), tabFind s.groups gid = some g → tabFind g.ops op = some o →
    o.st = .logged slot → g.log = [(slot, e)] → g.heldFails = [] → o.fwd = none → Sys2Proof.Claims.isAccessWord o.word = true →
    (g.frontier ≠ [] ∨ g.clause.isSome = true) →
    let t := s.opAbandoned gid op
    tabFind (t.group gid).ops op = none ∧ (t.group gid).log = [] ∧ Sys2Proof.Claims.SameRegisters' g (t.group gid) ∧
      (∀ n, (t.group gid).readF n = if o.flag = some n then g.readF n - 1 else g.readF n) ∧ (∀ k, k ≠ op → tabFind (t.group gid).ops k = tabFind g.ops k) ∧
      SameGroupsBut gid s t ∧ SameMemory s t ∧ t.teams = s.teams)

/-! ## Objects, mwait, pub, hints, the Sieve -/

namespace Sys2Proof.Claims

/-- The header fields of R295: state, scope, owner, size in blocks, class. -/
structure Header where
  state : Nat
  scope : Nat
  owner : Nat
  size : Nat
  cls : Nat
  deriving DecidableEq, Repr

/-- A header as its fields. -/
def fields (h : DWord) : Header :=
  { state := (h.extractLsb' 62 2).toNat, scope := (h.extractLsb' 60 2).toNat, owner := (h.extractLsb' 36 24).toNat,
    size := (h.extractLsb' 16 20).toNat, cls := (h.extractLsb' 0 16).toNat }

/-- A header as `pub` leaves it (R211, R303): a private object takes the state and the scope, a published or frozen one at most a wider scope. -/
def published (h : Header) (scope : Nat) (frozen : Bool) : Header :=
  if h.state = 1 then { h with state := if frozen then 3 else 2, scope := scope }
  else if h.state ≠ 0 ∧ h.scope < scope then { h with scope := scope }
  else h

/-- The failure of an access to an object that is neither in bounds nor allowed (R201): class and cause. -/
def objectFailure (s : State) (tid : Nat) (h : DWord) (f : Header) (addr n : Nat) (write : Bool) : Option (Nat × Nat) :=
  if 2 ≤ f.state ∧ f.scope = 3 then some (7, 19)
  else if addr < h.toNat + 8 ∨ h.toNat + 64 * f.size < addr + n ∨ f.state = 0 then some (11, 20)
  else if f.state = 1 then
    if f.owner = (s.team tid).serial ∧ (s.team tid).arenaBase ≤ h ∧ h < (s.team tid).arenaLim then none else some (if write then 9 else 8, 21)
  else if f.state = 3 ∧ write then some (12, 21)
  else if f.scope = 0 ∧ ¬ (∃ t ∈ (s.cluster (s.team tid).cluster).teams, (s.team t).serial = f.owner) then some (if write then 9 else 8, 21)
  else none

/-- The s register of a word that completes is written, its group is held no longer, and no other register has changed. -/
def CompletesHeld (s t : State) (gid op : Nat) (g : Group) (d : Nat) (x : SReg) : Prop :=
  ∃ h, tabFind t.groups gid = some h ∧ tabFind h.ops op = none ∧ h.hold = none ∧
    (∀ n, n < 64 → h.readS n = if n = d ∧ n ≠ 63 then x else g.readS n) ∧
    h.v = g.v ∧ h.k = g.k ∧ h.f = g.f ∧ h.desc = g.desc ∧ h.fpstat = g.fpstat ∧ h.rows = g.rows ∧ SameGroupsBut gid s t

end Sys2Proof.Claims

/-- Object headers (R164, R165, R201, R211, R295, R303): `oinit` makes a private one of the team with its size and class; `ofree` and `oreset` ask for a
private object of the team; `pub` gives state and scope; an access is checked against its bounds, its state and its scope. -/
def Sys2Proof.Claims.ObjectHeaders : Prop :=
  (∀ (t : Team) (b : DWord), t.serial < 2 ^ 24 →
    Sys2Proof.Claims.fields (BitVec.ofNat 64 (newHeader t b)) =
      { state := 1, scope := 0, owner := t.serial, size := (b.extractLsb' 16 20).toNat, cls := (b.extractLsb' 0 16).toNat }) ∧
  (∀ (t : Team) (h : Nat) (x : DWord), (ownCheck t h x.toNat).map (fun f => (f.cls, f.cause)) =
    let f := Sys2Proof.Claims.fields x
    if f.state = 0 then some (11, 20) else if f.state ≠ 1 then some (7, 19) else if f.owner ≠ t.serial then some (9, 21) else none) ∧
  (∀ (x : DWord) (scope : Nat) (frozen : Bool), scope < 4 →
    Sys2Proof.Claims.fields (BitVec.ofNat 64 (publishHeader x.toNat scope frozen)) = Sys2Proof.Claims.published (Sys2Proof.Claims.fields x) scope frozen) ∧
  (∀ (s : State) (tid addr n : Nat) (h x : DWord) (write : Bool),
    objectState s tid h.toNat x.toNat addr n write = Sys2Proof.Claims.objectFailure s tid h (Sys2Proof.Claims.fields x) addr n write)

namespace Sys2Proof.Claims

/-- The operation of an object form may be performed now: it has just issued, nothing stands before it, and every block of its range, n of them from the
object's first on, translates for a write, to blocks of memory that differ, hold no error or poison, are not dead, and are the plot's to write (R163-R165). -/
structure PerformsObject (s : State) (gid op : Nat) (g : Group) (o : MemOp) (h n : Nat) (dpa pte : Nat → Nat) : Prop where
  event : s.ev = { a := gid, b := op }
  group : tabFind s.groups gid = some g
  oper : tabFind g.ops op = some o
  ready : o.st = .issued ∧ s.behindEarlier gid op o = false ∧ s.opMoving gid o = false ∧ s.shareAway gid o = false ∧ s.fillsWait gid o = 0
  aGroup : g.pgc = false
  some_block : 0 < n
  blocks : ∀ i, i < n → s.objBlock g (h + 64 * i) .write = (s, none, dpa i, pte i) ∧ dpa i % 64 = 0 ∧ s.deadAt (s.phys (dpa i)) = false ∧
    (cacheable (dpa i) (pte i) = false ∨ s.l1State (s.l1Home g.plot (dpa i)) (dpa i) = some .m)
  apart : ∀ i j, i < n → j < n → i ≠ j → s.phys (dpa i) / 64 ≠ s.phys (dpa j) / 64
  sound : s.poison = [] ∧ s.eccErrors = [] ∧ s.l2Errors = []

/-- The form has been performed: its hold ends `c` cycles later, no register has changed, and nothing but the blocks of the range has been written. -/
def ObjectDone (s t : State) (gid op c n : Nat) (dpa : Nat → Nat) (ref : Option SReg) : Prop :=
  (∃ o', tabFind (t.group gid).ops op = some o' ∧ o'.st = .performed ∧ o'.sres = ref) ∧
  InAgenda t (s.cycle + c) .objectFormComplete { a := gid, b := op } ∧ AllRegisters s t ∧ t.teams = s.teams ∧
  (∀ x, (∀ i, i < n → s.phys x / 64 ≠ s.phys (dpa i) / 64) → t.readByte x = s.readByte x ∧ t.readDesc x = s.readDesc x) ∧
  ∀ i, i < n → t.poisoned (dpa i) = false

end Sys2Proof.Claims

/-- What the object forms leave in memory (R163-R165, R295): `oinit` zeroes every block of its range, clears their tags, writes the header and answers a
reference; `ofree` makes the header free and clears the tags, the data staying; `oreset` zeroes all but the header and clears the tags. -/
def Sys2Proof.Claims.ObjectsWritten : Prop :=
  (∀ (s : State) (gid op : Nat) (g : Group) (o : MemOp) (d a b : BitVec 6) (tm : Team) (dpa pte : Nat → Nat),
    o.word = .oinit d a b → tabFind s.teams g.team = some tm → tm.serial < 2 ^ 24 → o.sres = none →
    let size := (o.src.getD 1 {}).val
    let n := (size.extractLsb' 16 20).toNat
    Sys2Proof.Claims.PerformsObject s gid op g o o.base.val.toNat n dpa pte →
    let hdr : DWord := 1#2 ++ 0#2 ++ BitVec.ofNat 24 tm.serial ++ size.setWidth 36
    ∃ t, exec .memoryAccessPerform s = .next t ∧
      Sys2Proof.Claims.ObjectDone s t gid op n n dpa (some { val := o.base.val, tag := true, base := o.base.val }) ∧
      (∀ i k, i < n → k < 64 → t.readByte (dpa i + k) = if i = 0 ∧ k < 8 then hdr.extractLsb' (8 * k) 8 else 0) ∧
      (∀ i w, i < n → w < 8 → (t.readDesc (dpa i)).getLsbD (16 + w) = false)) ∧
  (∀ (s : State) (gid op : Nat) (g : Group) (o : MemOp) (a : BitVec 6) (tm : Team) (hdr : DWord) (dpa pte : Nat → Nat),
    tabFind s.teams g.team = some tm → o.sres = none → (∀ k, k < 8 → s.readByte (dpa 0 + k) = hdr.extractLsb' (8 * k) 8) →
    let f := Sys2Proof.Claims.fields hdr
    f.state = 1 → f.owner = tm.serial → Sys2Proof.Claims.PerformsObject s gid op g o o.base.base.toNat f.size dpa pte →
    (o.word = .ofree a → ∃ t, exec .memoryAccessPerform s = .next t ∧ Sys2Proof.Claims.ObjectDone s t gid op f.size f.size dpa none ∧
      (∀ i k, i < f.size → k < 64 → t.readByte (dpa i + k) =
        if i = 0 ∧ k < 8 then (hdr &&& 0x3FFFFFFFFFFFFFFF).extractLsb' (8 * k) 8 else s.readByte (dpa i + k)) ∧
      (∀ i w, i < f.size → w < 8 → (t.readDesc (dpa i)).getLsbD (16 + w) = false)) ∧
    (o.word = .oreset a → ∃ t, exec .memoryAccessPerform s = .next t ∧ Sys2Proof.Claims.ObjectDone s t gid op f.size f.size dpa none ∧
      (∀ i k, i < f.size → k < 64 → t.readByte (dpa i + k) = if i = 0 ∧ k < 8 then hdr.extractLsb' (8 * k) 8 else 0) ∧
      (∀ i w, i < f.size → w < 8 → (i ≠ 0 ∨ w ≠ 0) → (t.readDesc (dpa i)).getLsbD (16 + w) = false)))

/-- `objectFormComplete` writes the destination of an object form and ends its group's hold (R163, R164). An `mwait` whose word differs from sD at a wake
event or a timeout writes the word and ends; one whose word is equal holds on with a new timeout, and a timeout that has been replaced does
nothing (R176). For a word in the team's share and a group that goes on.
Readings of the model's own, by log entry: what wakes an mwait (86). -/
def Obligations.HeldFormsEnd : Prop :=
  (∀ (s : State) (gid op d : Nat) (g : Group) (o : MemOp) (x : SReg),
    s.ev = { a := gid, b := op } → tabFind s.groups gid = some g → tabFind g.ops op = some o → o.fwd = none → o.dropped = [] → o.res = [] →
    o.flag = none → isLane o.word = false → o.sres = some x → uniDest o.word = some d → g.hold.isSome = true →
    ∃ t, exec .objectFormComplete s = .next t ∧ Sys2Proof.Claims.CompletesHeld s t gid op g d x ∧ SameMemory s t) ∧
  (∀ (i : Instr) (s : State) (gid op off nx ln : Nat) (g : Group) (o : MemOp) (d a : BitVec 6) (im : BitVec 12) (ref : Option DWord) (w : Bool),
    (i = .mwaitWake ∨ (i = .mwaitTimeout ∧ nx ≤ s.cycle)) → s.ev = { a := gid } → tabFind s.groups gid = some g → s.mwaitOp gid = some (op, o) →
    o.word = .mwait d a im → o.st = .performed → o.fwd = none → o.dropped = [] → o.res = [] → o.flag = none → tabFind g.ops op = some o →
    g.hold = some (.mwait d o.uniAddr ref w nx ln) → g.halted = false → g.loc = .active → g.pgc = false → s.pgc.moving = [] → s.shareAway gid o = false →
    s.checkElem gid o.ref o.uniAddr 8 .read none false = (s, none, .sh off) →
    let v := BitVec.ofNat 64 (bytesNat (s.loadElem gid o.uniAddr (.sh off) 8))
    (v ≠ o.base.val → ∃ t, exec i s = .next t ∧ Sys2Proof.Claims.CompletesHeld s t gid op g d.toNat { val := v } ∧ SameMemory s t) ∧
    (v = o.base.val → ∃ t h, exec i s = .next t ∧ tabFind t.groups gid = some h ∧
      h.hold = some (.mwait d o.uniAddr ref false (s.cycle + 65536) (2 ^ 60)) ∧ Sys2Proof.Claims.SameRegisters g h ∧ SameMemory s t ∧
      Sys2Proof.Claims.InAgenda t (s.cycle + 65536) .mwaitTimeout { a := gid })) ∧
  (∀ (s : State) (gid nx ln : Nat) (d : BitVec 6) (a : DWord) (ref : Option DWord) (w : Bool),
    s.ev = { a := gid } → (s.group gid).hold = some (.mwait d a ref w nx ln) → s.cycle < nx → exec .mwaitTimeout s = .next s)

/-- `pub` issues into its die's queue and holds its group; a grant takes the request at the head while one of the four walkers is free; the end of a walk
that finds no failure publishes what it has marked, frees the walker and ends the hold of a team that is not paired; the controllers have checked the
blocks that it read, and what its queue could not hold has gone to the walker's scratch; when the commit is done the store of the reference writes it at its
home, and the operation is complete (R210-R213, R280, R360, R387). -/
def Sys2Proof.Claims.Publication : Prop :=
  (∀ (u : Issuer) (s : State) (a b : BitVec 6) (f z : BitVec 1) (sc : BitVec 2), IssuesAlone (.pub a b f z sc) u s →
    (∀ e ∈ (s.die (plotDie u.g.plot)).pubQueue, e.2 < s.nextId) → (∀ e ∈ s.plots, e.2.culled = false) →
    ∃ t, exec (.pub a b f z sc) s = .next t ∧ Sys2Proof.Claims.Starts (.pub a b f z sc) .memoryAccessPerform u s t ∧
      (t.group u.gid).hold = some (.pubWalk s.nextId) ∧
      (t.die (plotDie u.g.plot)).pubQueue = (s.die (plotDie u.g.plot)).pubQueue ++ [(u.gid, s.nextId)]) ∧
  (∀ (s : State), s.ev.flag = false → s.ev.v = 0 → (s.die s.ev.a).pubQueue = [] → exec .gleanerWalk s = .next s) ∧
  (∀ (s : State) (gid op : Nat) (o : MemOp), s.ev.flag = false → s.ev.v = 0 → (s.die s.ev.a).pubQueue = [(gid, op)] →
    tabFind (s.group gid).ops op = some o → o.left = 1 →
    ((s.die s.ev.a).walkers.length < 4 → exec .gleanerWalk s = .next ((s.modDie s.ev.a (fun x => { x with
        pubQueue := [], walkers := x.walkers ++ [(gid, op, x.freeWalker)] })).after (s.pubWalk (s.group gid) o).cycles .gleanerWalk { a := s.ev.a, b := op, flag := true })) ∧
    (4 ≤ (s.die s.ev.a).walkers.length → exec .gleanerWalk s = .next s)) ∧
  (∀ (s : State) (gid k : Nat) (g : Group) (o : MemOp), s.ev.flag = true → s.ev.v = 0 → s.walkWait g (s.pubWalk g o) = 0 →
    (s.die s.ev.a).walkers.find? (fun e => decide (e.2.1 = s.ev.b)) = some (gid, s.ev.b, k) → tabFind s.groups gid = some g →
    tabFind g.ops s.ev.b = some o → g.hold = some (.pubWalk s.ev.b) → (s.team g.team).paired = false →
    let s1 := s.walked g (4 * s.ev.a + k) (s.pubWalk g o)
    (s1.pubWalk g o).poison = false → (s1.pubWalk g o).fail = none →
    let m := (((s1.pubWalk g o).marked.foldl (fun (t : State) h => t.publish g h (pubScope o.word) (pubFrozen o.word)) s1).leaveGleaner gid s.ev.b).modOp gid s.ev.b
      (fun y => { y with left := 2 })
    exec .gleanerWalk s = .next ((m.unhold gid).pubPoint gid)) ∧
  (∀ (s : State) (g : Group) (k : Nat) (w : Walk), s.eccErrors = [] → w.spill = [] → s.walked g k w = s) ∧
  (∀ (s m : State) (gid op dpa pte : Nat) (g : Group) (o : MemOp) (a b : BitVec 6) (f z : BitVec 1) (sc : BitVec 2),
    s.ev = { a := gid, b := op, v := 1 } → tabFind s.groups gid = some g → tabFind g.ops op = some o → o.word = .pub a b f z sc → g.pgc = false →
    o.st = .issued → o.fwd = none → o.res = [] → o.sres = none → o.dropped = [] → (g.frontier ≠ [] ∨ g.clause.isSome = true ∨ g.hold.isSome = true) →
    s.opMoving gid o = false → s.pubCheck gid o = (m, none, .mem dpa pte) → m.groups = s.groups → m.blockWait dpa = none →
    m.deadAt (m.phys dpa) = false → dpa % 8 = 0 → cacheable dpa pte = false →
    ∃ t h, exec .gleanerWalk s = .next t ∧ tabFind t.groups gid = some h ∧ tabFind h.ops op = none ∧
      (∀ n, h.readF n = if o.flag = some n then g.readF n - 1 else g.readF n) ∧ Sys2Proof.Claims.SameRegisters' g h ∧
      (∀ k, k < 8 → t.readByte (dpa + k) = o.base.base.extractLsb' (8 * k) 8) ∧
      (∀ x, m.phys x / 64 ≠ m.phys dpa / 64 → t.readByte x = m.readByte x ∧ t.readDesc x = m.readDesc x))

namespace Sys2Proof.Claims

/-- The pages that a hint block names (R220, R221): group by group from the current one on, row by row within each, those that lie in the tensor. -/
def hintedPages (b : BitVec 512) : List Nat :=
  let f := fun (lo n : Nat) => (b.extractLsb' lo n).toNat
  (List.range (f 208 8 + 1)).flatMap (fun k =>
    let row := f 128 32 + (if b.getLsbD 200 then k * (f 192 3 + 1) else 0)
    let col := f 160 32 + (if b.getLsbD 200 then 0 else k * (f 195 3 + 1))
    (List.range (f 192 3 + 1)).flatMap (fun i => (List.range (f 195 3 + 1)).flatMap (fun j =>
      if row + i < f 64 32 ∧ col + j < f 96 32 then [f 0 57 + ((row + i) * f 96 32 + col + j) * 65536] else [])))

/-- The PGC accepts a hint block (R220): reserved fields zero, the base on a 64 KiB boundary, the tensor not empty, the origin in it, at most 64 groups
ahead. -/
def hintAccepted (b : BitVec 512) : Prop :=
  let f := fun (lo n : Nat) => (b.extractLsb' lo n).toNat
  f 57 7 = 0 ∧ f 201 7 = 0 ∧ f 216 296 = 0 ∧ f 0 57 % 65536 = 0 ∧ f 64 32 ≠ 0 ∧ f 96 32 ≠ 0 ∧ f 128 32 < f 64 32 ∧ f 160 32 < f 96 32 ∧ f 208 8 ≤ 64

end Sys2Proof.Claims

/-- A hint block that breaks a rule is counted in HINTREJ and changes no frame; a good one queues the fills of its pages in order, each that has a valid
translation and is neither resident nor of class STREAM or PINNED; the flag of `pfh` counts down once the block is handed over (R220, R221). `adv`
names the 64 KiB pages that its range touches: need queues their fills, cold and warm set their counters to 0 and to the maximum; a page outside the
virtual space is passed over (R220, R222). -/
def Sys2Proof.Claims.Hints : Prop :=
  (∀ (s : State) (gid op : Nat) (g : Group) (o : MemOp) (m : State) (b : BitVec 512), s.ev = { a := gid, b := op } →
    tabFind s.groups gid = some g → tabFind g.ops op = some o → o.st = .issued → s.behindEarlier gid op o = false →
    s.opMoving gid o = false → s.shareAway gid o = false → s.fillsWait gid o = 0 → (∃ a f, o.word = .pfh a f) → s.readBlock gid o.base = (m, none, some b) →
    m.groups = s.groups → g.pgc = false → ¬ Sys2Proof.Claims.hintAccepted b →
    o.fwd = none → o.res = [] → o.sres = none → o.dropped = [] → (g.frontier ≠ [] ∨ g.clause.isSome = true ∨ g.hold.isSome = true) →
    ∃ t h, exec .pfhHandoff s = .next t ∧ tabFind t.groups gid = some h ∧ tabFind h.ops op = none ∧
      (∀ f, h.readF f = if o.flag = some f then g.readF f - 1 else g.readF f) ∧
      h.v = g.v ∧ h.s = g.s ∧ h.k = g.k ∧ t.frames = m.frames ∧ SameMemory m t ∧
      (t.ctx g.ctx).hintRej = (m.ctx g.ctx).hintRej + 1) ∧
  (∀ (s : State) (gid op : Nat) (g : Group) (o : MemOp) (m : State) (b : BitVec 512), s.ev = { a := gid, b := op } →
    tabFind s.groups gid = some g → tabFind g.ops op = some o → o.st = .issued → s.behindEarlier gid op o = false →
    s.opMoving gid o = false → s.shareAway gid o = false → s.fillsWait gid o = 0 → (∃ a f, o.word = .pfh a f) → s.readBlock gid o.base = (m, none, some b) →
    g.pgc = false → Sys2Proof.Claims.hintAccepted b →
    exec .pfhHandoff s = .next ((((Sys2Proof.Claims.hintedPages b).foldl (fun u va => u.hintFill g.ctx va) m).opPerformed gid op).completeOp gid op)) ∧
  (∀ (s : State) (c va dpa pte : Nat), va < 2 ^ 57 → s.validPage c va = some (dpa, pte) → s.hintFill c va =
    if pteLoc pte = 1 ∧ pteClass pte ≠ 1 ∧ pteClass pte ≠ 3 ∧ (s.frameFor (frameOf dpa)).isNone = true then
      State.afterFill (s.pageFill (dpa / 65536 * 65536) (pteClass pte) (pteMgroup pte) c) (dpa / 65536 * 65536) (pteClass pte) (pteMgroup pte) c
    else s) ∧
  (∀ (s : State) (c va : Nat), s.validPage c va = none → s.hintFill c va = s) ∧
  (∀ (i : Instr) (u : Issuer) (s : State) (a b : BitVec 6) (act : State → Nat → State), Issues i u s → u.g.pgc = false →
    ((i = .advNeed a b ∧ act = fun t va => t.hintFill u.g.ctx va) ∨ (i = .advCold a b ∧ act = fun t va => t.advCount u.g.ctx va 0) ∨
      (i = .advWarm a b ∧ act = fun t va => t.advCount u.g.ctx va 65535)) →
    ∃ t, exec i s = .next t ∧ Sys2Proof.Claims.EndsWord
      ((advPages (u.sv a).toNat (u.sv b).toNat).foldl act s) u t) ∧
  (∀ (s : State) (c va n : Nat), 2 ^ 57 ≤ va → s.hintFill c va = s ∧ s.advCount c va n = s) ∧
  (∀ a n va, 0 < n → (va ∈ advPages a n ↔ va % 65536 = 0 ∧ va < a + n ∧ a < va + 65536))

/-- The Sieve (R148, R255, R256): `svinit` takes a Sieve that is free or the team's own, empties it and answers 0, otherwise 1; its free form gives it back;
`vsieve` offers the pairs of the included lanes 8 cycles after it enters the datapath; a pair that enters stands in order and the best k are kept, but a
NaN key is refused and counted; `svget` takes the pairs, whose number and refusals it answers. The order of equal keys with equal indices is
the model's choice (log entry 12). -/
def Sys2Proof.Claims.SieveForms : Prop :=
  (∀ (u : Issuer) (s : State) (d a : BitVec 6) (i m : BitVec 1), Issues (.svinit d a i m) u s → ∃ t, exec (.svinit d a i m) s = .next t ∧
    let v := (s.plot u.g.plot).sieve
    if v.team = none ∨ v.team = some u.g.team then
      LeavesGroup (s.modPlot u.g.plot (fun x => { x with sieve := { team := some u.g.team, k := (u.sv a).toNat % 256, max := decide (m = 1), int := decide (i = 1) } }))
        u (u.g.writeS d.toNat {}) t
    else LeavesGroup s u (u.g.writeS d.toNat { val := 1 }) t) ∧
  (∀ (u : Issuer) (s : State) (d : BitVec 6), Issues (.svinitFree d) u s → ∃ t, exec (.svinitFree d) s = .next t ∧
    if (s.plot u.g.plot).sieve.team = some u.g.team then
      LeavesGroup (s.modPlot u.g.plot (fun x => { x with sieve := {} })) u (u.g.writeS d.toNat {}) t
    else LeavesGroup s u (u.g.writeS d.toNat { val := 1 }) t) ∧
  (∀ (u : Issuer) (s : State) (a b : BitVec 7), Issues (.vsieve a b) u s → ∃ t, exec (.vsieve a b) s = .next t ∧
    let at_ := Nat.max s.cycle (s.plot u.g.plot).dataFree + 8
    (t.plot u.g.plot).sieve.queue = (s.plot u.g.plot).sieve.queue ++ (laneList u.incl).map (fun k =>
      (BitVec.ofNat 32 (u.g.elem (Opnd.mk a.toNat 1 1 1) 0 0 k), BitVec.ofNat 32 (u.g.elem (Opnd.mk b.toNat 1 1 1) 0 0 k), at_)) ∧
    Sys2Proof.Claims.InAgenda t at_ .sievePairEntry { a := u.g.plot } ∧ Sys2Proof.Claims.AllRegisters s t ∧ SameMemory s t) ∧
  (∀ (s : State) (x y : Word) (c : Nat), c ≤ s.cycle → (s.plot s.ev.a).sieve.queue = [(x, y, c)] → (s.plot s.ev.a).sieve.team ≠ none →
    (s.plot s.ev.a).savedSieves = [] →
    exec .sievePairEntry s = .next (s.modPlot s.ev.a (fun p => { p with sieve := { (p.sieve.offer (x, y)) with queue := [] } }))) ∧
  (∀ (v : Sieve) (x : Word × Word), (v.int = false ∧ (unpack f32 x.1.toNat).isNan = true →
      v.offer x = { v with refused := if v.refused < 2 ^ 32 - 1 then v.refused + 1 else v.refused }) ∧
    (v.int = true ∨ (unpack f32 x.1.toNat).isNan = false → (v.offer x).refused = v.refused ∧ (v.offer x).pairs.length = Nat.min v.k (v.pairs.length + 1) ∧
      (v.pairs.Pairwise (fun a b => pairBefore v.int v.max a b = true) → v.int = true →
        (v.offer x).pairs.Pairwise (fun a b => pairBefore v.int v.max a b = true)))) ∧
  (∀ (s : State) (gid op : Nat) (g : Group) (o : MemOp), s.ev = { a := gid, b := op } → tabFind s.groups gid = some g → tabFind g.ops op = some o →
    (s.plot g.plot).sieve.team = some g.team → ∃ t o', exec .svgetSnapshot s = .next t ∧ tabFind (t.group gid).ops op = some o' ∧
      let v := (s.plot g.plot).sieve
      o'.data = [v.pairs.map (fun p => p.1), v.pairs.map (fun p => p.2)] ∧
      o'.sres = some { val := BitVec.ofNat 64 (v.refused * 2 ^ 32 + v.pairs.length) } ∧
      (t.plot g.plot).sieve = (if svgetClears o.word then { v with pairs := [], refused := 0 } else v) ∧ Sys2Proof.Claims.AllRegisters s t ∧ SameMemory s t)

/-- Object headers, the checks of R201, and publication (R163-R165, R201, R210-R213, R295, R303).
Readings of the model's own, by log entry: which checks a block has (28), a block that takes a tag (92), Owner as R165 writes it (41), the
walk of pub at its end (37), PGC forms (35), walkers and their scratch (100), a destination of pub outside virtual space (107). -/
def Obligations.ObjectsAndPublication : Prop :=
  Sys2Proof.Claims.ObjectHeaders ∧ Sys2Proof.Claims.ObjectsWritten ∧ Sys2Proof.Claims.Publication

/-- Hints, and the forms of the Sieve (R148, R220-R222, R255, R256).
Readings of the model's own, by log entry: the order of equal keys (12), the snapshot of svget (24), the fills of a hint block (36), the
frames whose counters adv sets (109). -/
def Obligations.HintsAndSieve : Prop :=
  Sys2Proof.Claims.Hints ∧ Sys2Proof.Claims.SieveForms

/-! ## Copies -/

namespace Sys2Proof.Claims

/-- What a copy word submits: its commands and its engine (R223, R224). -/
def submits (u : Issuer) (s : State) : Instr → Option (Nat × Nat × Bool)
  | .cpy .. => some (1, s.ceChoice u.g.plot, false)
  | .cpyCe _ _ b _ => some (1, (u.sv b).toNat % 32, false)
  | .cpyq _ _ b _ => if 1 ≤ (u.sv b).toNat ∧ (u.sv b).toNat ≤ 64 then some ((u.sv b).toNat, s.ceChoice u.g.plot, true) else none
  | _ => none

/-- The step of an engine that moves a segment of a kind, and the piece it moves (R226). -/
def kindStep : List (Instr × Nat × (Cmd → CeM Cmd)) :=
  [(.ceCopy, 0, cePiece), (.ceFill, 1, cePiece), (.ceConvert, 2, convPiece), (.ceGather, 3, cePiece), (.ceScatter, 4, cePiece), (.ceReduce, 5, cePiece)]

/-- The byte that a command of kind COPY, FILL or REDUCE (FP32) leaves at place `i` of its destination (R226). -/
def copiedByte (b : Nat) (old new : Nat → Byte) (i : Nat) : Byte :=
  match cmKind b with
  | 0 => new i
  | 1 => BitVec.ofNat 8 (cmAux b / 2 ^ (8 * (i % 8)))
  | _ =>
    let word := fun (f : Nat → Byte) => (f (i / 4 * 4 + 3) ++ f (i / 4 * 4 + 2) ++ f (i / 4 * 4 + 1) ++ f (i / 4 * 4)).toNat
    BitVec.ofNat 8 ((addF f32 .rne false (word old) (word new)).1 / 2 ^ (8 * (i % 4)))

end Sys2Proof.Claims

/-- A copy word submits its commands to one engine and counts its flag up; a `cpyq` whose count is not 1 to 64 completes at once with status 1 (R223,
R224). On a device with no culled plot (R16). -/
def Sys2Proof.Claims.CopyWordsIssue : Prop :=
  (∀ (i : Instr) (u : Issuer) (s : State) (n ce : Nat) (batch : Bool), IssuesAlone i u s → (∀ e ∈ s.plots, e.2.culled = false) → Sys2Proof.Claims.submits u s i = some (n, ce, batch) →
    ∃ t, exec i s = .next t ∧ Sys2Proof.Claims.Starts i .memoryAccessPerform u s t ∧
      (∃ o, tabFind (t.group u.gid).ops s.nextId = some o ∧ o.left = n) ∧
      ∀ k, k < n → tabFind t.cmds (s.nextId + 1 + k) =
        some { gid := u.gid, team := u.g.team, ctx := u.g.ctx, plot := u.g.plot, op := s.nextId, idx := k, batch := batch, ce := ce }) ∧
  (∀ (u : Issuer) (s : State) (d a b : BitVec 6) (f : BitVec 1), IssuesAlone (.cpyq d a b f) u s → ((u.sv b).toNat = 0 ∨ 64 < (u.sv b).toNat) →
    ∃ t o, exec (.cpyq d a b f) s = .next t ∧ tabFind (t.group u.gid).ops s.nextId = some o ∧ o.sres = some { val := 1 } ∧
      Sys2Proof.Claims.InAgenda t s.cycle .loadComplete { a := u.gid, b := s.nextId } ∧
      (∀ n, (t.group u.gid).readF n = if u.flagOf (.cpyq d a b f) = some n then u.g.readF n + 1 else u.g.readF n) ∧ t.cmds = s.cmds)

/-- A plot's waiting commands take their range locks in order while the 48 entries suffice (R229); a command that holds its locks goes to its engine, one that
has already failed with its status (R227, R230);
an engine that is idle takes the segment of the command that its order names, at 64 bytes a cycle (R391, R392). -/
def Sys2Proof.Claims.CommandsAdvance : Prop :=
  (∀ (s : State), (s.plot s.ev.a).waiting = [] → exec .cpyRegister s = .next s) ∧
  (∀ (s : State) (w : RangeWait) (rest : List RangeWait), (s.plot s.ev.a).waiting = w :: rest → 48 < (s.plot s.ev.a).rlt.length + w.ranges.length →
    exec .cpyRegister s = .next s) ∧
  (∀ (s : State) (w : RangeWait) (c : Cmd), (s.plot s.ev.a).waiting = [w] → (s.plot s.ev.a).rlt.length + w.ranges.length ≤ 48 →
    tabFind s.cmds w.owner = some c →
    ∃ t, exec .cpyRegister s = .next t ∧ tabFind t.cmds w.owner = some { c with st := .locked } ∧
      (t.plot s.ev.a).rlt = (s.plot s.ev.a).rlt ++ w.ranges ∧ (t.plot s.ev.a).waiting = [] ∧ t.groups = s.groups ∧ SameMemory s t) ∧
  (∀ (s : State), (∀ e ∈ s.cmds, e.2.st ≠ .locked) → exec .ceDispatch s = .next s) ∧
  (∀ (s : State) (id : Nat) (c : Cmd), s.cmds = [(id, c)] → c.plot = s.ev.a → c.st = .locked → c.status = 0 →
    cmDtile c.blk.toNat = 0 → cmStile c.blk.toNat = 0 →
    ∃ t, exec .ceDispatch s = .next t ∧ tabFind t.cmds id = some { c with st := .queued, tiles := false } ∧
      (t.ce c.ce).queue = (s.ce c.ce).queue ++ [id] ∧ t.groups = s.groups ∧ SameMemory s t) ∧
  (∀ (s : State) (id : Nat) (c : Cmd), s.cmds = [(id, c)] → c.plot = s.ev.a → c.st = .locked → c.status ≠ 0 →
    ∃ t, exec .ceDispatch s = .next t ∧ tabFind t.cmds id = some { c with st := .queued } ∧
      (t.ce c.ce).queue = (s.ce c.ce).queue ++ [id] ∧ t.groups = s.groups ∧ SameMemory s t) ∧
  (∀ (s : State), (s.ce s.ev.a).busy.isSome = true → exec .ceSegment s = .next s) ∧
  (∀ (s : State), s.cePick s.ev.a = none → exec .ceSegment s = .next s) ∧
  (∀ (s : State) (x id left : Nat) (c : Cmd), (s.ce s.ev.a).busy = none → s.cePick s.ev.a = some (x, id, left) → tabFind s.cmds id = some c →
    c.status = 0 → c.started = true →
    ∃ t, exec .ceSegment s = .next t ∧ tabFind t.cmds id = some { c with st := .running } ∧
      (t.ce s.ev.a).busy = some id ∧ (t.ce s.ev.a).rr = some (x, left) ∧ t.groups = s.groups ∧ SameMemory s t ∧
      Sys2Proof.Claims.InAgenda t (s.cycle + Nat.max 1 ((Nat.min 4096 (cmTotal c.blk.toNat - c.pos) + 63) / 64)) (ceStep (cmKind c.blk.toNat)) { a := s.ev.a })

/-- The six kinds of command: each step moves the segment of the command of its kind that its engine has begun, and does nothing for another (R226, R391).
A COPY, a FILL and an FP32 REDUCE of at most one block inside the team's share leave the bytes of R226 there, no other byte, and end with status 0. -/
def Sys2Proof.Claims.CommandsMove : Prop :=
  (∀ (s : State) (i : Instr) (k : Nat) (piece : Cmd → CeM Cmd), (i, k, piece) ∈ Sys2Proof.Claims.kindStep →
    ((s.ce s.ev.a).busy = none → exec i s = .next s) ∧
    (∀ id c, (s.ce s.ev.a).busy = some id → tabFind s.cmds id = some c →
      exec i s = .next (if cmKind c.blk.toNat = k then State.runPieces piece id (c.pos + 4096) 4200 s else s))) ∧
  (∀ (s : State) (i : Instr) (id so d n : Nat) (c : Cmd) (tm : Team), s.ev.a = c.ce → (s.ce c.ce).busy = some id → tabFind s.cmds id = some c →
    ((i = .ceCopy ∧ cmKind c.blk.toNat = 0) ∨ (i = .ceFill ∧ cmKind c.blk.toNat = 1) ∨ (i = .ceReduce ∧ cmKind c.blk.toNat = 5 ∧ cmA96 c.blk.toNat = false ∧ n % 4 = 0)) →
    cmLen c.blk.toNat = n → 0 < n → n ≤ 64 → cmCsum c.blk.toNat = 0 → c.pos = 0 → c.skip = 0 →
    s.cmdSrc c = sharedWindow.toNat + so → s.cmdDst c = sharedWindow.toNat + d → so % 64 + n ≤ 64 → d % 64 + n ≤ 64 →
    tabFind s.teams c.team = some tm → tm.live = true → so + n ≤ 4096 * tm.shared → d + n ≤ 4096 * tm.shared → 4096 * tm.shared < 2 ^ 32 →
    ∃ t c', exec i s = .next t ∧ tabFind t.cmds id = some c' ∧ c'.status = 0 ∧ c'.st = .finished ∧ c'.pos = n ∧
      (∀ a, tabGet 0 (t.team c.team).shmem a = if d ≤ a ∧ a < d + n then
          Sys2Proof.Claims.copiedByte c.blk.toNat (fun i => tabGet 0 tm.shmem (d + i)) (fun i => tabGet 0 tm.shmem (so + i)) (a - d)
        else tabGet 0 tm.shmem a) ∧
      (t.ce c.ce).busy = none ∧ Sys2Proof.Claims.InAgenda t s.cycle .ceCommandComplete { a := c.ce, b := id } ∧
      Sys2Proof.Claims.AllRegisters s t ∧ SameMemory s t)

/-- GATHER, SCATTER and CONVERT inside the team's share (R226). With one index, GATHER copies the source element that the index names, and SCATTER writes the
destination element that it names; a CONVERT of one granule writes the granule of its values in the destination's format, rounded to nearest even. The
command ends with status 0 and no other byte has changed. A block of the share reads as SCL 127 with micro-scales of 1.0. -/
def Sys2Proof.Claims.ElementsMove : Prop :=
  (∀ (s : State) (i : Instr) (id x so d lo hi : Nat) (c : Cmd) (tm : Team), s.ev.a = c.ce → (s.ce c.ce).busy = some id → tabFind s.cmds id = some c →
    let b := c.blk.toNat
    let z := 2 ^ cmEszl b
    let v := tabGet 0 tm.shmem (x + 3) ++ tabGet 0 tm.shmem (x + 2) ++ tabGet 0 tm.shmem (x + 1) ++ tabGet 0 tm.shmem x
    (i = .ceGather ∧ cmKind b = 3 ∧ lo = so + v.toNat * z ∧ hi = d) ∨ (i = .ceScatter ∧ cmKind b = 4 ∧ lo = so ∧ hi = d + v.toNat * z) →
    cmLen b = 1 → cmEszl b ≤ 4 → cmCsum b = 0 → c.pos = 0 → c.skip = 0 → c.replica = false →
    s.cmdSrc c = sharedWindow.toNat + so → s.cmdDst c = sharedWindow.toNat + d → cmAux b = sharedWindow.toNat + x → x % 4 = 0 → so % z = 0 → d % z = 0 →
    tabFind s.teams c.team = some tm → tm.live = true → x + 4 ≤ 4096 * tm.shared → lo + z ≤ 4096 * tm.shared → hi + z ≤ 4096 * tm.shared → 4096 * tm.shared < 2 ^ 32 →
    ∃ t c', exec i s = .next t ∧ tabFind t.cmds id = some c' ∧ c'.status = 0 ∧ c'.st = .finished ∧ c'.pos = z ∧
      (∀ a, tabGet 0 (t.team c.team).shmem a = if hi ≤ a ∧ a < hi + z then tabGet 0 tm.shmem (lo + (a - hi)) else tabGet 0 tm.shmem a) ∧
      (t.ce c.ce).busy = none ∧ Sys2Proof.Claims.InAgenda t s.cycle .ceCommandComplete { a := c.ce, b := id } ∧ Sys2Proof.Claims.AllRegisters s t ∧ SameMemory s t) ∧
  (∀ (s : State) (id so d k n : Nat) (c : Cmd) (tm : Team), s.ev.a = c.ce → (s.ce c.ce).busy = some id → tabFind s.cmds id = some c →
    let b := c.blk.toNat
    cmKind b = 2 → cmLen b = 64 → cmEgc b = false → cmFrag b = false → cmCsum b = 0 → cmSfmt b ≠ 0 → fmtClass (cmSfmt b) = some k → fmtClass (cmCfmt b) = some n →
    classElems k ≤ classElems n → c.pos = 0 → c.skip = 0 → c.out = 0 → c.replica = false →
    s.cmdSrc c = sharedWindow.toNat + so → s.cmdDst c = sharedWindow.toNat + d → so % 64 = 0 → d % 64 = 0 →
    tabFind s.teams c.team = some tm → tm.live = true → so + 64 ≤ 4096 * tm.shared → d + 64 ≤ 4096 * tm.shared → 4096 * tm.shared < 2 ^ 32 →
    let values := (expandGranule (cmSfmt b) 127 0x60606060 (bytesNat ((List.range 64).map (fun j => tabGet 0 tm.shmem (so + j))))).map (fun x => x.1)
    let bytes := natBytes 64 (blockOut (cmCfmt b) .rne false values).2.1
    ∃ t c', exec .ceConvert s = .next t ∧ tabFind t.cmds id = some c' ∧ c'.status = 0 ∧ c'.st = .finished ∧ c'.pos = 64 ∧
      (∀ a, tabGet 0 (t.team c.team).shmem a = if d ≤ a ∧ a < d + 64 then bytes.getD (a - d) 0 else tabGet 0 tm.shmem a) ∧
      (t.ce c.ce).busy = none ∧ Sys2Proof.Claims.InAgenda t s.cycle .ceCommandComplete { a := c.ce, b := id } ∧ Sys2Proof.Claims.AllRegisters s t ∧ SameMemory s t)

/-- A command of its own that has ended gives its status to its word's register and counts its flag down; its range locks and its queue entry are
free (R227, R229, R230); one of a batch that fails gives status 9 to every later one of it (R224). The value that a peer returns becomes the command's checksum, and the command ends, with status 5 where the peer
has found its EGC stream malformed (R123, R394). For a command without checksum
and signal word, of a context that is not traced. -/
def Sys2Proof.Claims.CommandsComplete : Prop :=
  (∀ (s : State) (id dst : Nat) (c : Cmd) (g : Group) (o : MemOp), s.ev.b = id → tabFind s.cmds id = some c → cmSigen c.blk.toNat = false →
    cmCsum c.blk.toNat = 0 → c.batch = false → c.tiles = false → (s.ctx c.ctx).trace = false → tabFind s.groups c.gid = some g → tabFind g.ops c.op = some o →
    o.left = 1 → o.status = 0 → o.fwd = none → o.dropped = [] → o.res = [] → isLane o.word = false → uniDest o.word = some dst →
    (g.frontier ≠ [] ∨ g.clause.isSome = true ∨ g.hold.isSome = true) →
    ∃ t h, exec .ceCommandComplete s = .next t ∧ tabFind t.groups c.gid = some h ∧ tabFind h.ops c.op = none ∧ tabFind t.cmds id = none ∧
      (∀ n, n < 64 → h.readS n = if n = dst ∧ n ≠ 63 then { val := BitVec.ofNat 64 c.status } else g.readS n) ∧
      (∀ f, h.readF f = if o.flag = some f then g.readF f - 1 else g.readF f) ∧ h.v = g.v ∧ h.k = g.k ∧
      (∀ e ∈ (t.plot c.plot).rlt, e.owner ≠ id) ∧ id ∉ (t.ce c.ce).queue ∧ SameGroupsBut c.gid s t ∧ SameMemory s t) ∧
  (∀ (s : State) (id : Nat) (c : Cmd), s.ev.v.toNat = id → tabFind s.cmds id = some c → c.st = .peer → c.ce = s.ev.a →
    ∃ t, exec .peerWriteCompletion s = .next t ∧
      tabFind t.cmds id = some { c with sum := BitVec.ofNat 32 s.ev.b, status := if s.ev.flag then 5 else 0, st := .finished } ∧
      Sys2Proof.Claims.InAgenda t s.cycle .ceCommandComplete { a := s.ev.a, b := id } ∧ t.groups = s.groups ∧ SameMemory s t) ∧
  (∀ (s : State), (∀ e ∈ s.cmds, e.2.st ≠ .peer) → exec .peerWriteCompletion s = .next s) ∧
  (∀ (s : State) (c x : Cmd) (id : Nat), tabFind s.cmds id = some x → tabFind (s.skipAfter c).cmds id = some
    (if c.batch = true ∧ x.op = c.op ∧ c.idx < x.idx then { x with status := 9 } else x))

/-- Copy words and the progress of their commands through the engines (R223, R224, R229, R230, R391, R392).
Readings of the model's own, by log entry: unused fields (44), the order of statuses (45), lengths and locks (46, 47), failed chains (48,
103), operands at the edges (102, 111). -/
def Obligations.CopyCommands : Prop :=
  Sys2Proof.Claims.CopyWordsIssue ∧ Sys2Proof.Claims.CommandsAdvance

/-- What a copy command moves and how it completes (R226, R227, R229, R230, R394).
Readings of the model's own, by log entry: sums of a chain and of a peer (49, 50, 103, 110), a stream's last value (98), replay after
SHARD_BAD (51), copies of tiles and FRAG (45, 46). -/
def Obligations.CopyData : Prop :=
  Sys2Proof.Claims.CommandsMove ∧ Sys2Proof.Claims.ElementsMove ∧ Sys2Proof.Claims.CommandsComplete

/-! ## The matrix engine -/

namespace Sys2Proof.Claims

/-- A uniform variable-latency word of a group that goes on, with one result still to come and no twin that takes it. -/
structure PlainOp (s : State) (gid op : Nat) (g : Group) (o : MemOp) (d : Nat) : Prop where
  group : tabFind s.groups gid = some g
  oper : tabFind g.ops op = some o
  alone : o.fwd = none
  whole : o.dropped = []
  noLanes : o.res = []
  uniform : isLane o.word = false
  dest : uniDest o.word = some d
  goesOn : g.frontier ≠ [] ∨ g.clause.isSome = true ∨ g.hold.isSome = true

/-- The word completes with a value: its register is written, its flag counts down, and no other register of its group and no other group
changes. -/
def CompletesWith (s t : State) (gid op : Nat) (g : Group) (o : MemOp) (d : Nat) (x : DWord) : Prop :=
  ∃ h, tabFind t.groups gid = some h ∧ tabFind h.ops op = none ∧
    (∀ n, n < 64 → h.readS n = if n = d ∧ n ≠ 63 then { val := x } else g.readS n) ∧
    (∀ f, h.readF f = if o.flag = some f then g.readF f - 1 else g.readF f) ∧ h.v = g.v ∧ h.k = g.k ∧ h.desc = g.desc ∧ SameGroupsBut gid s t

/-- Units u to u + n − 1 of a quad's accumulators are free (R233). -/
def unitsFree (x : Quad) (u n : Nat) : Prop := u + n ≤ 32 ∧ ∀ e ∈ x.slots, e.2.unit + e.2.tr * e.2.tc ≤ u ∨ u + n ≤ e.2.unit

end Sys2Proof.Claims

/-- Accumulator slots (R233, R234, R246, R247). At its issue clr zeroes the slot's entries, status and mask, and free empties the slot; 16 cycles later the
form completes with 0. The define form answers 2 for a slot that is owned, 1 where no run of units is free, and otherwise 0 and the lowest free run,
zeroed; `mxq` answers the slot's state.
Readings of the model's own, by log entry: parts that have not formed count as requests (112). -/
def Obligations.MatrixSlots : Prop :=
  (∀ (u : Issuer) (s : State) (d : BitVec 6) (n : BitVec 3) (f : BitVec 1) (y : AccSlot), IssuesAlone (.mxzClr d n f) u s →
    tabFind (s.quad (plotQuad u.g.plot)).slots n.toNat = some y →
    ∃ t, exec (.mxzClr d n f) s = .next t ∧ Sys2Proof.Claims.Starts (.mxzClr d n f) .mxzComplete u s t ∧
      Sys2Proof.Claims.InAgenda t (s.cycle + 16) .mxzComplete { a := u.gid, b := s.nextId } ∧
      let q := t.quad (plotQuad u.g.plot)
      (∀ k, tabGet 0 q.acc k = if 1024 * y.unit ≤ k ∧ k < 1024 * (y.unit + y.tr * y.tc) then 0
        else tabGet 0 (s.quad (plotQuad u.g.plot)).acc k) ∧
      tabFind q.slots n.toNat = some { y with status := 0, mask := (0, 0, 0, 0) } ∧
      ∀ k, k ≠ n.toNat → tabFind q.slots k = tabFind (s.quad (plotQuad u.g.plot)).slots k) ∧
  (∀ (u : Issuer) (s : State) (d : BitVec 6) (n : BitVec 3) (f : BitVec 1), IssuesAlone (.mxzFree d n f) u s →
    ∃ t, exec (.mxzFree d n f) s = .next t ∧ Sys2Proof.Claims.Starts (.mxzFree d n f) .mxzComplete u s t ∧
      Sys2Proof.Claims.InAgenda t (s.cycle + 16) .mxzComplete { a := u.gid, b := s.nextId } ∧
      let q := t.quad (plotQuad u.g.plot)
      tabFind q.slots n.toNat = none ∧ (∀ k, k ≠ n.toNat → tabFind q.slots k = tabFind (s.quad (plotQuad u.g.plot)).slots k) ∧
      q.acc = (s.quad (plotQuad u.g.plot)).acc) ∧
  (∀ (s : State) (gid op : Nat) (g : Group) (o : MemOp) (dd : Nat) (d : BitVec 6) (n : BitVec 3) (f : BitVec 1), s.ev = { a := gid, b := op } →
    Sys2Proof.Claims.PlainOp s gid op g o dd → (o.word = .mxzClr d n f ∨ o.word = .mxzFree d n f) →
    ∃ t, exec .mxzComplete s = .next t ∧ Sys2Proof.Claims.CompletesWith s t gid op g o dd 0 ∧ (∀ q, t.quad q = s.quad q) ∧ SameMemory s t) ∧
  (∀ (s : State) (gid op : Nat) (g : Group) (o : MemOp) (dd : Nat) (d a : BitVec 6) (n : BitVec 3) (f : BitVec 1), s.ev = { a := gid, b := op } →
    Sys2Proof.Claims.PlainOp s gid op g o dd → o.word = .mxzDefine d a n f →
    let q := s.quad (plotQuad g.plot)
    let tr := (o.base.val.extractLsb' 0 3).toNat + 1
    let tc := (o.base.val.extractLsb' 3 2).toNat + 1
    ((tabFind q.slots n.toNat).isSome = true → ∃ t, exec .mxzComplete s = .next t ∧ Sys2Proof.Claims.CompletesWith s t gid op g o dd 2 ∧
      t.quad (plotQuad g.plot) = q) ∧
    (tabFind q.slots n.toNat = none → (∀ u, ¬ Sys2Proof.Claims.unitsFree q u (tr * tc)) →
      ∃ t, exec .mxzComplete s = .next t ∧ Sys2Proof.Claims.CompletesWith s t gid op g o dd 1 ∧ t.quad (plotQuad g.plot) = q) ∧
    (∀ u, tabFind q.slots n.toNat = none → Sys2Proof.Claims.unitsFree q u (tr * tc) → (∀ v, v < u → ¬ Sys2Proof.Claims.unitsFree q v (tr * tc)) →
      ∃ t, exec .mxzComplete s = .next t ∧ Sys2Proof.Claims.CompletesWith s t gid op g o dd 0 ∧
        tabFind (t.quad (plotQuad g.plot)).slots n.toNat = some { team := g.team, tr := tr, tc := tc, unit := u } ∧
        ∀ k, 1024 * u ≤ k → k < 1024 * (u + tr * tc) → tabGet 0 (t.quad (plotQuad g.plot)).acc k = 0)) ∧
  (∀ (s : State) (gid op : Nat) (g : Group) (o : MemOp) (dd : Nat) (d : BitVec 6) (n : BitVec 3) (f : BitVec 1), s.ev = { a := gid, b := op } →
    Sys2Proof.Claims.PlainOp s gid op g o dd → o.word = .mxq d n f →
    ∃ t, exec .mxqResult s = .next t ∧ Sys2Proof.Claims.CompletesWith s t gid op g o dd
        (match tabFind (s.quad (plotQuad g.plot)).slots n.toNat with
          | none => 0
          | some y =>
            let st := match y.st with | .filling => 1 | .ready => 2 | .draining => 3
            if y.team ≠ g.team then BitVec.ofNat 64 (8 + st)
            else BitVec.ofNat 64 (y.status.toNat * 2 ^ 24 + quadPending (s.quad (plotQuad g.plot)) n.toNat * 2 ^ 16 + y.mask.1 * 2 ^ 14 + y.unit * 2 ^ 9
              + (y.tc - 1) * 2 ^ 7 + (y.tr - 1) * 2 ^ 4 + 4 + st)) ∧ t.quads = s.quads)

/-- A pass that is not split captures its operands, takes an entry of its quad's table and enters the order in its issue cycle (R235, R240). A quad grants
an eligible request when its path is free: the slot fills, the array is taken for 128 cycles, or 512 in the 32- and 64-bit classes, and the pass
completes 16 cycles after (R236, R237). It then adds each entry's tree of products to it, but for the skipped sub-tiles, the slot's sticky status takes the
exceptions of the entries that it computes, and its word completes (R116, R241, R243). A broadcast that arrives waits for its B-source (R245). -/
def Sys2Proof.Claims.MatrixPasses : Prop :=
  (∀ (u : Issuer) (s : State) (a : BitVec 6) (f : BitVec 1), Issues (.mxp a f) u s → mxSplit (u.mxpBlock a) = false →
    ∃ t r, exec (.mxp a f) s = .next t ∧ tabFind (t.quad (plotQuad u.g.plot)).resv (s.nextId + 1) = some r ∧
      r.drain = false ∧ r.gid = u.gid ∧ r.team = u.g.team ∧ r.op = s.nextId ∧ r.entry = some s.cycle ∧ r.granted = none ∧
      r.slot = mxSlot (u.mxpBlock a) ∧ r.blk = BitVec.ofNat 512 (u.mxpBlock a) ∧
      r.a = u.g.granules (16 * mxARow (u.mxpBlock a)) (mxM (u.mxpBlock a)) ∧ r.b = u.g.granules (16 * mxBRow (u.mxpBlock a)) (mxN (u.mxpBlock a)) ∧
      tabFind (t.group u.gid).ops s.nextId = some (u.capture (.mxp a f)) ∧
      (∀ n, (t.group u.gid).readF n = if u.flagOf (.mxp a f) = some n then u.g.readF n + 1 else u.g.readF n) ∧ SameMemory s t) ∧
  (∀ (s : State), (∀ e ∈ (s.quad s.ev.a).resv, eligible (s.quad s.ev.a) e = false) → exec .mxeGrant s = .next s) ∧
  (∀ (s : State) (k : Nat) (r : MxReq) (sl : AccSlot), (s.quad s.ev.a).resv = [(k, r)] → r.drain = false → r.entry.isSome = true → r.granted = none →
    tabFind (s.quad s.ev.a).slots r.slot = some sl → sl.st = .ready → (s.quad s.ev.a).arrayFree ≤ s.cycle →
    let n := if (r.blk.extractLsb' 40 3).toNat ≤ 1 then 512 else 128
    ∃ t, exec .mxeGrant s = .next t ∧ (t.quad s.ev.a).resv = [(k, { r with granted := some s.cycle })] ∧
      tabFind (t.quad s.ev.a).slots r.slot = some { sl with st := .filling } ∧ (t.quad s.ev.a).arrayFree = s.cycle + n ∧
      Sys2Proof.Claims.InAgenda t (s.cycle + (16 + n)) .mxePassComplete { a := s.ev.a, b := k } ∧ t.groups = s.groups ∧ SameMemory s t) ∧
  (∀ (s : State) (k : Nat) (r : MxReq) (sl : AccSlot) (g : Group) (o : MemOp), s.ev.b = k → tabFind (s.quad s.ev.a).resv k = some r → r.asrc = none → r.part = none →
    tabFind (s.quad s.ev.a).slots r.slot = some sl → sl.team = r.team → sl.st = .filling →
    mxM r.blk.toNat ≤ 32 * sl.tr → mxN r.blk.toNat ≤ 32 * sl.tc → tabFind s.groups r.gid = some g → tabFind g.ops r.op = some o →
    o.fwd = none → o.res = [] → o.sres = none → (g.frontier ≠ [] ∨ g.clause.isSome = true ∨ g.hold.isSome = true) →
    ∃ t, exec .mxePassComplete s = .next t ∧
      let b := r.blk.toNat
      let q := t.quad s.ev.a
      (∀ i j, i < mxM b → j < mxN b → tabGet 0 q.acc (accKey sl i j) =
        if subTileSkipped (mxTri b) (mxDiag b) i j then tabGet 0 (s.quad s.ev.a).acc (accKey sl i j)
        else (passEntry (mxClass b) ((r.a.map Granule.values).getD i []) ((r.b.map Granule.values).getD j [])
          (tabGet 0 (s.quad s.ev.a).acc (accKey sl i j))).1) ∧
      (∀ x, (∀ i j, i < mxM b → j < mxN b → accKey sl i j ≠ x) → tabGet 0 q.acc x = tabGet 0 (s.quad s.ev.a).acc x) ∧
      (∃ sl', tabFind q.slots r.slot = some sl' ∧ sl'.st = .ready ∧ sl'.team = sl.team ∧ sl'.unit = sl.unit ∧
        (∀ e, e < 6 → (sl'.status.getLsbD e = true ↔ sl.status.getLsbD e = true ∨ ∃ i j, i < mxM b ∧ j < mxN b ∧ subTileSkipped (mxTri b) (mxDiag b) i j = false ∧
          (passEntry (mxClass b) ((r.a.map Granule.values).getD i []) ((r.b.map Granule.values).getD j [])
            (tabGet 0 (s.quad s.ev.a).acc (accKey sl i j))).2.getLsbD e = true)) ∧
        sl'.mask = if mxTri b = 0 then sl.mask else (mxTri b, mxDiag b, mxConst b, mxVal b)) ∧
      tabFind q.resv k = none ∧ tabFind (t.group r.gid).ops r.op = none ∧
      (∀ f, (t.group r.gid).readF f = if o.flag = some f then g.readF f - 1 else g.readF f) ∧ (t.group r.gid).v = g.v ∧ SameMemory s t) ∧
  (∀ (s : State), (s.quad s.ev.a).resv = [] → exec .splitBroadcastArrival s = .next (s.modQuad s.ev.a (fun x => { x with
    bcasts := x.bcasts.map (fun y => if y.id = s.ev.b then { y with arrived := true } else y) })))

namespace Sys2Proof.Claims

/-- A micro-scale of FP4 (R110). -/
def microOf (b : Nat) : ℚ := if b / 32 = 0 then ((b % 32 : ℕ) : ℚ) / 128 else 2 ^ (((b / 32 : ℕ) : ℤ) - 3) * (1 + ((b % 32 : ℕ) : ℚ) / 32)

/-- Bits of an element of a format of a granule (R109, R112). -/
def elementBits (fmt : Nat) : Nat :=
  if fmt = 0x20 then 64 else if fmt = 0x18 then 32 else if fmt = 0x10 ∨ fmt = 0x11 then 16 else if fmt = 0x03 ∨ fmt = 0x0C then 4 else 8

/-- The number of an element's code in a format (R96, R109). -/
def elementNumber (fmt raw : Nat) : Number :=
  match fmt with
  | 0x20 => number f64 raw
  | 0x18 => number f32 raw
  | 0x10 => number bf16 raw
  | 0x11 => number f16 raw
  | 0x01 => whole (BitVec.ofNat 8 raw).toInt
  | 0x02 => whole raw
  | 0x03 => whole (BitVec.ofNat 4 raw).toInt
  | 0x08 => number e4m3 raw
  | 0x09 => number e5m2 raw
  | _ => number fp4 raw

/-- Element i of a granule, expanded, with its exceptions (R110, R111, R113): its number times its micro-scale and the block's scale. -/
def expanded (g : Granule) (i : Nat) : Number × Fp :=
  let fmt := (g.desc.extractLsb' 0 8).toNat
  let scl := (g.desc.extractLsb' 8 8).toNat
  let mu : ℚ := if fmt = 0x0C then microOf (g.desc.extractLsb' (16 + 8 * (i / 32)) 8).toNat else 1
  if scl = 255 then (.nan false, 0)
  else match elementNumber fmt (g.data.extractLsb' (elementBits fmt * i) (elementBits fmt)).toNat with
    | .nan s => (.nan false, if s then fpInvalid else 0)
    | .inf n => if mu = 0 then (.nan false, fpInvalid) else (.inf n, 0)
    | .num n q => (.num n (q * mu * 2 ^ ((scl : ℤ) - 127)), 0)

/-- A node of the tree: two numbers added and rounded to nearest even in A96 (R115). -/
def NodeOf (x y r : Number × Fp) : Prop :=
  ∃ c, Delivers a96 .rne false (sumOf .rne [x.1, y.1]) c ∧ r = (number a96 c.1, x.2 ||| y.2 ||| c.2)

/-- The pairwise tree over 2^n numbers (R115). -/
def TreeOf : Nat → List (Number × Fp) → Number × Fp → Prop
  | 0, l, r => l = [r]
  | n + 1, l, r => ∃ m, 2 * m.length = l.length ∧ (∀ j x y, l[2 * j]? = some x → l[2 * j + 1]? = some y → ∃ z, m[j]? = some z ∧ NodeOf x y z) ∧ TreeOf n m r

/-- A product of two expanded elements (R114): exact, but rounded once to A96 in the 64-bit class. -/
def ProductOf (cls : Nat) (x y r : Number × Fp) : Prop :=
  let p := product x.1 y.1
  if cls = 0 then ∃ c, Delivers a96 .rne false p c ∧ r = (number a96 c.1, x.2 ||| y.2 ||| c.2) else r = (p.1, x.2 ||| y.2 ||| p.2)

/-- What a pass leaves in one entry, with its exceptions (R112-R116, R241): the tree over the products of a row of A and a column of B, added to the entry. The
classes are numbered from the 64-bit one, of 8 products, to the 4-bit one, of 128. -/
def PassOf (cls : Nat) (a b : Granule) (acc : Acc) (r : Acc × Fp) : Prop :=
  ∃ ps t c, ps.length = 8 * 2 ^ cls ∧ (∀ k, k < 8 * 2 ^ cls → ∃ p, ps[k]? = some p ∧ ProductOf cls (expanded a k) (expanded b k) p) ∧
    TreeOf (3 + cls) ps t ∧ Delivers a96 .rne false (sumOf .rne [number a96 acc.toNat, t.1]) c ∧ r = (BitVec.ofNat 96 c.1, t.2 ||| c.2)

end Sys2Proof.Claims

/-- The arithmetic of one entry of a pass (R96, R99, R106, R109-R116): the elements of two granules of one class are expanded without rounding, multiplied,
summed by the fixed tree with one rounding to A96 at each node, and added to the entry. The parts of one granule in another class raise MXFMT before. -/
def Sys2Proof.Claims.PassArithmetic : Prop :=
  a96 = { eb := 15, bias := 16383, fb := 80 } ∧
  (∀ fmt cls, (fmt, cls) ∈ [(0x20, 0), (0x18, 1), (0x10, 2), (0x11, 2), (0x01, 3), (0x02, 3), (0x08, 3), (0x09, 3), (0x03, 4), (0x0C, 4)] →
    fmtClass fmt = some cls) ∧
  (∀ fmt, fmt ∉ [0x20, 0x18, 0x10, 0x11, 0x01, 0x02, 0x08, 0x09, 0x03, 0x0C] → fmtClass fmt = none) ∧
  (∀ (a b : Granule) (acc : Acc) (cls : Nat), fmtClass (descFmt a.desc) = some cls → fmtClass (descFmt b.desc) = some cls →
    Sys2Proof.Claims.PassOf cls a b acc (passEntry cls a.values b.values acc))

/-- A drain whose block has been read passes its checks and then waits in the plot for its range locks; its entry names its slot, and one to memory makes
its team one that has acted outside (R248-R250, R366). Each row of a
register drain is kept for its completion, each row of a memory drain is written at its places, data and descriptors, and the next row is due a cycle later
(R237, R251); at its completion the slot is READY, its region and
its status zero where the block asks for it, the locks are free, and the status goes to sD and to FPSTAT (R252). -/
def Sys2Proof.Claims.MatrixDrains : Prop :=
  (∀ (s m m2 : State) (gid op k : Nat) (g : Group) (o : MemOp) (blk : BitVec 512) (e : MxReq) (xl : List (Nat × Nat)), s.ev = { a := gid, b := op } →
    tabFind s.groups gid = some g → tabFind g.ops op = some o → o.st = .issued → s.behindEarlier gid op o = false →
    s.opMoving gid o = false → s.shareAway gid o = false → s.fillsWait gid o = 0 → (s.mxdEntry (plotQuad g.plot) op).isSome = true → s.readBlock gid o.base = (m, none, some blk) →
    let m1 := (if drToReg blk.toNat then m else m.markCommitted g.team).modOp gid op (fun y => { y with blk := blk })
    m1.drainCheck g blk.toNat = none → m1.drainBlocks g blk.toNat = (m2, none, xl) → m.groups = s.groups → m2.groups = m1.groups → m2.mxdEntry (plotQuad g.plot) op = some (k, e) →
    ∃ t o', exec .mxdBlockCheck s = .next t ∧
      tabFind (t.quad (plotQuad g.plot)).resv k = some { e with slot := drSlot blk.toNat, blk := blk, xlat := xl } ∧
      tabFind (t.group gid).ops op = some o' ∧ o'.st = .performed ∧ o'.blk = blk ∧
      (t.plot g.plot).waiting = (m2.plot g.plot).waiting ++ [{ owner := op, ranges := drRanges g op blk.toNat }] ∧ SameMemory m2 t) ∧
  (∀ (s : State) (r : MxReq) (sl : AccSlot), tabFind (s.quad s.ev.a).resv s.ev.b = some r → tabFind (s.quad s.ev.a).slots r.slot = some sl →
    r.cut = false → sl.team = r.team → s.eccErrors = [] → s.drainPoisoned r = false → drToReg r.blk.toNat = true → Sys2Proof.Claims.FramesAtRest s →
    ∃ t r', exec .mxdRowWrite s = .next t ∧ tabFind (t.quad s.ev.a).resv s.ev.b = some r' ∧ r'.row = r.row + 1 ∧
      r'.out = r.out ++ (s.drainRow s.ev.a sl r (drI0 r.blk.toNat + r.row)).1.map (fun x => (16 * drVRow r.blk.toNat + r.row / 4, r.row % 4, x)) ∧
      Sys2Proof.Claims.InAgenda t (s.cycle + 1) (if r.row + 1 < drM r.blk.toNat then .mxdRowWrite else .mxdDrainComplete) { a := s.ev.a, b := s.ev.b } ∧
      t.groups = s.groups ∧ SameMemory s t) ∧
  (∀ (s : State) (r : MxReq) (sl : AccSlot) (dpa : Nat → Nat), tabFind (s.quad s.ev.a).resv s.ev.b = some r → tabFind (s.quad s.ev.a).slots r.slot = some sl →
    r.cut = false → sl.team = r.team → s.eccErrors = [] → s.drainPoisoned r = false → drToReg r.blk.toNat = false → Sys2Proof.Claims.FramesAtRest s →
    (∀ k, k < drGrans r.blk.toNat → (r.xlat.find? (fun y => decide (y.1 = drDst r.blk.toNat / 64 + r.row * (drPitch r.blk.toNat / 64) + k))).map (fun y => y.2) = some (dpa k) ∧
      dpa k % 64 = 0 ∧ (s.l2Line (dpa k)).isNone = true) →
    (∀ i j, i < drGrans r.blk.toNat → j < drGrans r.blk.toNat → i ≠ j → s.phys (dpa i) / 64 ≠ s.phys (dpa j) / 64) →
    let row := s.drainRow s.ev.a sl r (drI0 r.blk.toNat + r.row)
    ∃ t r', exec .mxdRowWrite s = .next t ∧ tabFind (t.quad s.ev.a).resv s.ev.b = some r' ∧ r'.row = r.row + 1 ∧ r'.status = r.status ||| row.2 ∧
      (∀ k x, k < drGrans r.blk.toNat → row.1[k]? = some x → (∀ n, n < 64 → t.readByte (dpa k + n) = x.data.extractLsb' (8 * n) 8) ∧
        (isHost (dpa k) = false → t.readDesc (dpa k) = x.desc)) ∧
      (∀ a, (∀ k, k < drGrans r.blk.toNat → s.phys a / 64 ≠ s.phys (dpa k) / 64) → t.readByte a = s.readByte a ∧ t.readDesc a = s.readDesc a) ∧
      Sys2Proof.Claims.InAgenda t (s.cycle + 1) (if r.row + 1 < drM r.blk.toNat then .mxdRowWrite else .mxdDrainComplete) { a := s.ev.a, b := s.ev.b } ∧
      t.groups = s.groups) ∧
  (∀ (s : State) (r : MxReq) (sl : AccSlot) (g : Group) (o : MemOp) (d : Nat), tabFind (s.quad s.ev.a).resv s.ev.b = some r →
    tabFind (s.quad s.ev.a).slots r.slot = some sl → r.cut = false → sl.team = r.team → r.out = [] → (s.ctx (s.team r.team).ctx).trace = false →
    Sys2Proof.Claims.PlainOp s r.gid r.op g o d →
    ∃ t, exec .mxdDrainComplete s = .next t ∧ Sys2Proof.Claims.CompletesWith s t r.gid r.op g o d ((sl.status ||| r.status).setWidth 64) ∧
      (t.group r.gid).fpstat = g.fpstat ||| (sl.status ||| r.status) ∧
      tabFind (t.quad s.ev.a).slots r.slot = some { sl with st := .ready, status := if drZero r.blk.toNat then 0 else sl.status } ∧
      (∀ i j, i < drM r.blk.toNat → j < drN r.blk.toNat → drZero r.blk.toNat = true →
        tabGet 0 (t.quad s.ev.a).acc (accKey sl (drI0 r.blk.toNat + i) (drJ0 r.blk.toNat + j)) = 0) ∧
      (drZero r.blk.toNat = false → (t.quad s.ev.a).acc = (s.quad s.ev.a).acc) ∧
      tabFind (t.quad s.ev.a).resv s.ev.b = none ∧ (∀ e ∈ (t.plot r.plot).rlt, e.owner ≠ r.op)) ∧
  (∀ (g : Group) (r q : Nat) (x : Granule) (l : Nat), q < 4 → l < 64 →
    laneOf ((g.writeGranule r q x).readV r) l = (if l / 16 = q then x.data.extractLsb' (32 * (l % 16)) 32 else laneOf (g.readV r) l) ∧
    (g.writeGranule r q x).readDesc r q = x.desc)

/-- Passes of the matrix engine and the drains of its accumulators (R235-R252).
Readings of the model's own, by log entry: matching of broadcasts and ended teams (52), when a drain writes (53), a micro-scale of zero
(54). -/
def Obligations.MatrixWork : Prop :=
  Sys2Proof.Claims.MatrixPasses ∧ Sys2Proof.Claims.PassArithmetic ∧ Sys2Proof.Claims.MatrixDrains

/-! ## Launches, placement, commits, pairs -/

namespace Sys2Proof.Claims

/-- The reasons of R35 for which a launch block is turned away, in their order. -/
def launchReasons (x : Context) (c serial : Nat) (b : BitVec 512) : List Bool :=
  [b.extractLsb' 57 7 ≠ 0 || b.extractLsb' 152 40 ≠ 0 || b.extractLsb' 249 7 ≠ 0 || b.extractLsb' 441 71 ≠ 0,
   b.extractLsb' 0 2 ≠ 0,
   b.extractLsb' 64 16 = 0 || b.extractLsb' 80 16 = 0 || b.extractLsb' 96 16 = 0,
   6 ≤ (b.extractLsb' 112 3).toNat,
   b.extractLsb' 118 3 = 0 || b.extractLsb' 118 3 = 1 || b.extractLsb' 118 3 = 7 || 48 < ((b.extractLsb' 115 3).toNat + 1) * (b.extractLsb' 118 3).toNat,
   48 < (b.extractLsb' 128 8).toNat,
   b.getLsbD 126 && b.extractLsb' 112 3 = 0,
   b.getLsbD 127 && c ≠ 0,
   [256, 288, 320, 352].any (fun i => (b.extractLsb' i 32).toNat ≠ 0 && !serialOlder (b.extractLsb' i 32).toNat serial),
   b.extractLsb' 384 3 ≠ 0,
   x.arenaSize.toNat < (b.extractLsb' 136 16).toNat]

/-- The number, from 1, of the first reason that holds; 0 for none. -/
def firstTrue (l : List Bool) : Nat := if l.any id then l.findIdx id + 1 else 0

end Sys2Proof.Claims

/-- A launch block is checked against the reasons of R35 in their order; `launch` answers the serial of an accepted launch, which enters its queue, or bit
63 with the reason's number (R34-R37). The root doorbell, whose EN test stands at the write of its
register, is ignored while its context is being reset; a second root team answers
code 12 and an address that no block can have code 1, a reading of the model (R388).
Readings of the model's own, by log entry: codes of the doorbell, its 40 cycles and the root queue (11, 55). -/
def Obligations.Launches : Prop :=
  (∀ (x : Context) (c serial : Nat) (b : BitVec 512), launchCode x c serial b.toNat = Sys2Proof.Claims.firstTrue (Sys2Proof.Claims.launchReasons x c serial b)) ∧
  (∀ (s m : State) (gid op dd : Nat) (g : Group) (o : MemOp) (blk : BitVec 512) (d a : BitVec 6) (f : BitVec 1) (q : BitVec 4), s.ev = { a := gid, b := op } →
    Sys2Proof.Claims.PlainOp s gid op g o dd → o.word = .launch d a f q → o.st = .issued → s.behindEarlier gid op o = false →
    s.opMoving gid o = false → s.shareAway gid o = false → s.fillsWait gid o = 0 → queueFill (s.ctx g.ctx) q.toNat < 256 → s.readBlock gid o.base = (m, none, some blk) → m.groups = s.groups →
    let code := launchCode (m.ctx g.ctx) g.ctx (m.ctx g.ctx).nextSerial blk.toNat
    (code ≠ 0 → ∃ t, exec .launchBlockCheck s = .next t ∧ Sys2Proof.Claims.CompletesWith s t gid op g o dd (BitVec.ofNat 64 (2 ^ 63 + code)) ∧ t.ctxs = m.ctxs) ∧
    (code = 0 → ∃ t, exec .launchBlockCheck s = .next t ∧
      Sys2Proof.Claims.CompletesWith s t gid op g o dd (BitVec.ofNat 64 (m.ctx g.ctx).nextSerial) ∧
      (t.ctx g.ctx).launches = (m.ctx g.ctx).launches ++ [{ serial := (m.ctx g.ctx).nextSerial, queue := q.toNat, blk := blk, plot := some g.plot }] ∧
      (t.ctx g.ctx).nextSerial = (if (m.ctx g.ctx).nextSerial = 2 ^ 32 - 1 then 1 else (m.ctx g.ctx).nextSerial + 1) ∧
      Sys2Proof.Claims.InAgenda t (m.cycle + 8) .placeCluster {})) ∧
  (∀ (s : State), (s.ctx s.ev.a).busy = true → exec .doorbell s = .next s) ∧
  (∀ (s : State), (s.ctx s.ev.a).busy = false →
    ((s.ctx s.ev.a).rootDone = true → exec .doorbell s = .next (s.modCtx s.ev.a (fun x => { x with rootStat := BitVec.ofNat 64 (2 ^ 63 + 12) }))) ∧
    ((s.ctx s.ev.a).rootDone = false → (s.ev.v.toNat % 64 ≠ 0 ∨ 2 ^ 57 ≤ s.ev.v.toNat) →
      exec .doorbell s = .next (s.modCtx s.ev.a (fun x => { x with rootStat := BitVec.ofNat 64 (2 ^ 63 + 1) }))) ∧
    ((s.ctx s.ev.a).rootDone = false → s.ev.v.toNat % 64 = 0 → s.ev.v.toNat < 2 ^ 57 → s.isMoving s.ev.a s.ev.v.toNat = false →
      ∀ m dpa pte, s.translateWalk s.ev.a s.ev.v.toNat .read = (m, .ok dpa pte) →
      m.ctxs = s.ctxs → m.blockWait dpa = none → m.eccErrors = [] → let code := launchCode (s.ctx s.ev.a) s.ev.a 1 (m.readNat dpa 64)
      ∃ t, exec .doorbell s = .next t ∧ (t.ctx s.ev.a).rootStat = BitVec.ofNat 64 (2 ^ 63 + code) ∧ (t.ctx s.ev.a).rootDone = decide (code = 0) ∧
        (code = 0 → (t.ctx s.ev.a).launches = (s.ctx s.ev.a).launches ++
          [{ serial := 1, queue := 16, blk := BitVec.ofNat 512 (m.readNat dpa 64), plot := none }]) ∧ SameMemory m t))

/-- The placer serves the first context of its round whose next job fits, and looks again; 72 cycles after its record's write a handler team may start, and it is
placed when it is its context's next job (R39, R40, R349). A team that is placed stands in the lowest free slots of its plot that its context may use: every register of its groups reads zero, all
lanes stand at the entry, and each group has its rows (R42, R44).
Readings of the model's own, by log entry: a slot whose group has exited (20), which set is loaded first (42), an arena that cannot be
zeroed yet (117). -/
def Obligations.Placement : Prop :=
  (∀ (s : State), s.ev.flag = false → s.returnArenas = s → (∀ c, c < 64 → s.placeTurn c = none) → exec .placeCluster s = .next s) ∧
  (∀ (s t : State) (c : Nat), s.ev.flag = false → s.returnArenas = s → s.roundOrder.findSome? (fun c => (s.placeTurn c).map (fun t => (c, t))) = some (c, t) →
    exec .placeCluster s = .next (({ t with placerLast := some c } : State).afterOnce 0 .placeCluster {})) ∧
  (∀ (s : State), s.roundOrder = (List.range 64).map (fun i => ((match s.placerLast with | some c => c + 1 | none => 0) + i) % 64)) ∧
  (∀ (s m : State), s.ev.flag = false → m = s.modCtx s.ev.a (fun x => { x with traps := x.traps.map (fun r => if r.seq = s.ev.b then { r with ready := true } else r) }) →
    ((m.ctx s.ev.a).nextJob = none → exec .handlerTeamPlace s = .next m) ∧
    (∀ t r, (m.ctx s.ev.a).nextJob = some (.handler r) → m.placeHandler s.ev.a r = some t → exec .handlerTeamPlace s = .next { t with placerLast := some s.ev.a }) ∧
    (∀ r, (m.ctx s.ev.a).nextJob = some (.handler r) → m.placeHandler s.ev.a r = none → exec .handlerTeamPlace s = .next m)) ∧
  (∀ (x : Context) (r : TrapRec), x.nextJob = some (.handler r) → r ∈ x.traps ∧ r.written = true ∧ r.ready = true ∧ r.handler = none) ∧
  (∀ (s : State) (w : Need) (tm : Team) (entry delay i : Nat), i < w.n → w.n ≤ (freeSlots (s.plot tm.plot) tm.ctx).length →
    ∃ g, tabFind (s.addTeam w tm entry delay).groups (s.nextId + 1 + i) = some g ∧
      some g.slot = (freeSlots (s.plot tm.plot) tm.ctx)[i]? ∧ g.rank = i ∧ g.ctx = tm.ctx ∧ g.team = s.nextId ∧ g.plot = tm.plot ∧ g.rows = w.rows ∧
      (∀ r, g.readV r = zeroLanes) ∧ (∀ n, g.readS n = {}) ∧ (∀ n, n ≠ 0 → g.readK 0 n = 0) ∧ (∀ n, g.readF n = 0) ∧ (∀ r q, g.readDesc r q = 0) ∧
      g.fpstat = 0 ∧ g.frontier.map (fun e => (e.addr, e.lanes, e.age)) = [(BitVec.ofNat 64 entry, BitVec.allOnes 64, 0)] ∧ g.clause = none ∧ g.log = [] ∧
      (delay ≠ 0 → g.hold = some (.until (s.cycle + delay))) ∧
      ((s.addTeam w tm entry delay).plot tm.plot).slots.length = (s.plot tm.plot).slots.length)

/-- A commit takes every entry of the buffer that no commit holds; each entry's write is sent, and once its path has
passed it is written to memory, bytes, reference tags and descriptor, and leaves the buffer, and the team has committed; with the last entry the commit ends and
its fence goes on (R108, R198, R209, R286-R290, R296, R366). For a team that is not paired and a page outside the pool whose storage has no error, no fill
and no dead frame.
Readings of the model's own, by log entry: the time of a drain (11), order within a commit (88). -/
def Obligations.Commits : Prop :=
  (∀ (s : State) (tid : Nat) (k : CommitKind) (tm : Team), tabFind s.teams tid = some tm → tm.paired = false →
    ((s.beginCommit tid k).team tid).commits = tm.commits ++ [{ id := s.nextId, kind := k, unpaired := false, sig := tm.sig }] ∧
    ((s.beginCommit tid k).team tid).cb = tm.cb.map (fun e => if e.commit = none then { e with commit := some s.nextId } else e)) ∧
  (∀ (s : State) (gid kind scope : Nat) (g : Group), (s.team s.ev.a).allGroups = [gid] → tabFind s.groups gid = some g → g.ops = [] → g.arrivals = [] →
    (g.hold = some (.fence kind scope true none) → commitFor (s.team s.ev.a) gid none = false →
      exec .commitPoint s = .next (s.beginCommit s.ev.a (.fence gid scope))) ∧
    (g.hold = none → exec .commitPoint s = .next s)) ∧
  (∀ (s m : State) (tid blk dpa pte gid kind scope : Nat) (tm : Team) (c : Commit) (e : CBEntry) (g : Group) (fin : Option Nat) (b : Bool), s.ev = { a := tid, b := blk } →
    tabFind s.teams tid = some tm → tm.live = true → tm.commits = [c] → c.unpaired = false → c.kind = .fence gid scope → tm.cb = [e] → e.blk = blk →
    e.commit = some c.id → e.faulted = false → e.sent = true → e.desc = none → (∀ x ∈ e.bytes, x.1 < 64) → tabSorted e.bytes = true → s.pgc.moving = [] →
    s.translate tm.plot tm.ctx (blk * 64) .write = (m, .ok dpa pte) → (m.eccMiss dpa).poisoned dpa = false → isPool dpa = false → dpa % 64 = 0 →
    pteFmt pte = 0 → m.teams = s.teams → m.l2Errors = [] → m.eccErrors = [] →
    (isHbm m (m.phys dpa) && (m.frame (frameOf (m.phys dpa))).dead) = false → m.blockWait dpa = none → tabFind m.groups gid = some g → g.hold = some (.fence kind scope b fin) →
    ∃ t, exec .commitEntryDrain s = .next t ∧
      (∀ k, k < 64 → t.readByte (dpa + k) = match tabFind e.bytes k with | some x => x | none => m.readByte (dpa + k)) ∧
      (t.team tid).cb = [] ∧ (t.team tid).commits = [] ∧ (t.team tid).committed = true ∧
      tabFind t.groups gid = some { g with hold := some (.fence kind scope true (some s.cycle)) }) ∧
  (∀ (s m : State) (tid blk dpa pte : Nat) (tm : Team) (c : Commit) (rest : List Commit) (e x : CBEntry), s.ev = { a := tid, b := blk } →
    tabFind s.teams tid = some tm → tm.live = true → tm.commits = c :: rest → c.unpaired = false →
    tm.cb.find? (fun y => decide (y.blk = blk) && decide (y.commit = some c.id) && !y.faulted) = some e → e.sent = true →
    x ∈ tm.cb → x.blk ≠ blk → x.commit = some c.id → (∀ y ∈ e.bytes, y.1 < 64) → tabSorted e.bytes = true → s.pgc.moving = [] →
    s.translate tm.plot tm.ctx (blk * 64) (if e.desc.isSome then .fmtWrite else .write) = (m, .ok dpa pte) → (m.eccMiss dpa).poisoned dpa = false →
    isPool dpa = false → dpa % 64 = 0 → m.teams = s.teams → m.l2Errors = [] → m.eccErrors = [] →
    (isHbm m (m.phys dpa) && (m.frame (frameOf (m.phys dpa))).dead) = false → m.blockWait dpa = none →
    ∃ t, exec .commitEntryDrain s = .next t ∧
      (∀ k, k < 64 → t.readByte (dpa + k) = match tabFind e.bytes k with | some z => z | none => m.readByte (dpa + k)) ∧
      (isHost dpa = false → let old := m.readDesc dpa; let new := t.readDesc dpa
        (∀ d, e.desc = some d → new = d) ∧
        (e.desc = none → pteFmt pte = 2 → old.setWidth 8 = 0x40#8 → new.setWidth 16 = old.setWidth 16 ∧ ∀ w, w < 8 → new.getLsbD (16 + w) =
          if e.bytes.any (fun z => decide (z.1 / 8 = w)) then e.tags.getLsbD w else old.getLsbD (16 + w)) ∧
        (e.desc = none → pteFmt pte ≠ 2 → old.setWidth 8 = 0x40#8 → new.setWidth 16 = old.setWidth 16 ∧ ∀ w, w < 8 → new.getLsbD (16 + w) =
          if e.bytes.any (fun z => decide (z.1 / 8 = w)) then false else old.getLsbD (16 + w)) ∧
        (e.desc = none → pteFmt pte ≠ 2 → old.setWidth 8 ≠ 0x40#8 → new = old)) ∧
      (t.team tid).cb = tm.cb.filter (fun y => !(decide (y.blk = blk) && decide (y.commit = some c.id))) ∧ (t.team tid).commits = tm.commits ∧
      (t.team tid).committed = true) ∧
  (∀ (s m : State) (tid blk dpa pte : Nat) (tm : Team) (c : Commit) (e : CBEntry), s.ev = { a := tid, b := blk } →
    tabFind s.teams tid = some tm → tm.live = true → tm.commits = [c] → c.unpaired = false → tm.cb = [e] → e.blk = blk → e.commit = some c.id →
    e.faulted = false → e.sent = false → e.desc = none → s.pgc.moving = [] → s.translate tm.plot tm.ctx (blk * 64) .write = (m, .ok dpa pte) →
    m.teams = s.teams → m.eccErrors = [] → (m.l1State (m.l1Home tm.plot dpa) dpa).isSome = true → (∀ e ∈ s.plots, e.2.culled = false) →
    (∀ e ∈ m.plots, e.2.culled = false) →
    ∃ t n, exec .commitEntryDrain s = .next t ∧ Sys2Proof.Claims.InAgenda t (m.cycle + n) .commitEntryDrain s.ev ∧
      (t.team tid).cb = [{ e with sent := true }] ∧ (t.team tid).commits = [c] ∧ SameMemory m t) ∧
  (∀ (s : State), (s.team s.ev.a).live = false → exec .commitEntryDrain s = .next s)

/-- Paired teams. When both have reached a commit point of one kind with equal signatures, the twin's entries of it are dropped and its commit ends; when kind
or signature differ the pair ends as a mismatch (R291, R369, R370). A result that the primary forwards for a word of a group arrives at the twin (R368). Two groups
of one rank and as many forwarded words that stand at the same matched word with the same operands may issue it; words that differ are a mismatch (R370).
Readings of the model's own, by log entry: commit points of a pub and of a high-water mark (39), one arena for two teams (40). -/
def Obligations.PairedTeams : Prop :=
  (∀ (s : State) (w : Nat) (c d : Commit), (s.team s.ev.a).primary = true → (s.team s.ev.a).twin = some w →
    (s.team s.ev.a).commits.find? (fun x => x.unpaired) = some c → (s.team w).commits.find? (fun x => x.unpaired) = some d →
    (commitCode c.kind ≠ commitCode d.kind ∨ c.sig ≠ d.sig → exec .pairCommitCompare s = .next (s.pairMismatch s.ev.a)) ∧
    (c.kind = .highWater → d.kind = .highWater → c.sig = d.sig → w ≠ s.ev.a → (tabFind s.teams w).isSome = true → (tabFind s.teams s.ev.a).isSome = true →
      ∃ t, exec .pairCommitCompare s = .next t ∧ (∀ x ∈ (t.team w).commits, x.id ≠ d.id) ∧ (∀ e ∈ (t.team w).cb, e.commit ≠ some d.id) ∧
        (∀ x ∈ (t.team s.ev.a).commits, x.id = c.id → x.unpaired = false) ∧ (t.team s.ev.a).cb = (s.team s.ev.a).cb ∧ SameMemory s t)) ∧
  (∀ (s : State), (s.team s.ev.a).twin = none → exec .pairCommitCompare s = .next s) ∧
  (∀ (s : State) (g : Group) (tm tw : Team) (w : Nat) (e : Forwarded), tabFind s.groups s.ev.a = some g → tabFind s.teams g.team = some tm →
    tm.twin = some w → w ≠ g.team → tabFind s.teams w = some tw → tm.forwarded.find? (fun x => decide (x.rank = g.rank ∧ x.no = s.ev.b)) = some e →
    ∃ t, exec .pairForward s = .next t ∧ (t.team g.team).forwarded = tm.forwarded.erase e ∧ (t.team w).forwarded = tw.forwarded ++ [e] ∧ t.groups = s.groups) ∧
  (∀ (s : State) (gid h : Nat) (x y : Instr × List DWord × List Byte), (s.team s.ev.a).groups = [gid] → (s.group gid).pairOk = false → s.twinGroup s.ev.a gid = some h →
    (s.group h).fwdNo = (s.group gid).fwdNo → s.matchedWord gid = some x → s.matchedWord h = some y →
    (x = y → exec .pairedWordMatch s = .next (s.modGroup gid (fun g => { g with pairOk := true }))) ∧
    (x ≠ y → exec .pairedWordMatch s = .next (s.pairMismatch s.ev.a)))

/-! ## Privileged forms -/

namespace Sys2Proof.Claims

/-- An entry that a tlbi of a mode covers (R186): of any context, of one, or of one with a page that the range meets. -/
def tlbiCovers (mode c lo len : Nat) (e : TlbEntry) : Prop :=
  mode = 2 ∨ (e.ctx = c ∧ (mode = 1 ∨ (0 < len ∧ e.vpn * 2 ^ e.bits < lo + len ∧ lo < (e.vpn + 1) * 2 ^ e.bits)))

/-- The filter of a plot holds every region of every entry of its TLB (R313). -/
def FilterHolds (x : Plot) : Prop := ∀ e ∈ x.tlb, ∀ k ∈ entryKeys e.2, bloomMay x.bloom k = true

/-- A word that holds its unit for n cycles and then writes a status to its destination (`HoldsEnd`); nothing else has changed since `m`. -/
def StatusFor (s m : State) (u : Issuer) (d : BitVec 6) (n : Nat) (v : DWord) (t : State) : Prop :=
  LeavesGroup m u { u.g with hold := some (.status d v (s.cycle + n)) } t

/-- The status of a held privileged form has been written and its hold has ended. -/
def PrivEnds (s t : State) (gid : Nat) (d : BitVec 6) (v : DWord) : Prop :=
  t.group gid = { ((s.group gid).writeS d.toNat { val := v }) with hold := none } ∧ SameGroupsBut gid s t

end Sys2Proof.Claims

/-- The three tlbi forms (R185, R186, R313, R314). The L2 TLBs drop what the form covers and every plot in service is asked over its path where it
has one, the unit held until the last has answered. A plot whose filter says none answers in 6 cycles and keeps its entries, which is exact while the filter holds
every entry; otherwise it drops what is covered, in 40 cycles, and a full flush rebuilds the filter.
Readings of the model's own, by log entry: when the entries of the L2 TLBs are dropped (60), the set of an entry (9), an administrator's D
(23), the alignment of a range (97). -/
def Obligations.TlbInvalidation : Prop :=
  (∀ (u : Issuer) (s : State) (i : Instr) (c a b : BitVec 6) (mode : Nat),
    ((i = .tlbiRange c a b ∧ mode = 0) ∨ (i = .tlbiContext c a b ∧ mode = 1) ∨ (i = .tlbiDevice c a b ∧ mode = 2)) → Issues i u s →
    let x := if u.g.pgc then (u.sv c).toNat % 64 else u.g.ctx
    let ps := (List.range 384).filter s.inService
    (∀ p, s.inService p = true → (s.way? u.g.plot p).isSome = true) →
    ∃ t f m, exec i s = .next t ∧ fld f.toNat 0 64 = (u.sv b).toNat ∧ fld f.toNat 64 6 = x ∧ fld f.toNat 72 2 = mode ∧
      m = { s with dies := m.dies, cmds := m.cmds } ∧
      (∀ k, (tabFind m.cmds k).map (fun y => { y with pages := [] }) = (tabFind s.cmds k).map (fun y => { y with pages := [] })) ∧
      (∀ d k e, tabFind (t.die d).tlb k = some e → ¬ Sys2Proof.Claims.tlbiCovers mode x (u.sv a).toNat (u.sv b).toNat e) ∧
      (∀ d e, e ∈ (s.die d).tlb → ¬ Sys2Proof.Claims.tlbiCovers mode x (u.sv a).toNat (u.sv b).toNat e.2 → e ∈ (t.die d).tlb) ∧
      LeavesGroup m u { u.g with hold := if ps.isEmpty then u.g.hold else some (.priv i ps.length) } { t with agenda := s.agenda } ∧
      ∀ p, s.inService p = true → Sys2Proof.Claims.InAgenda t (s.cycle + s.wayCycles u.g.plot p) .tlbiRequest { a := p, b := u.gid, v := u.sv a, f := f }) ∧
  (∀ (s : State),
    let lo := s.ev.v.toNat
    let len := fld s.ev.f.toNat 0 64
    let c := fld s.ev.f.toNat 64 6
    let mode := fld s.ev.f.toNat 72 2
    let back := s.wayCycles s.ev.a (s.group s.ev.b).plot
    mode < 3 → (s.plot s.ev.a).culled = false → (s.way? s.ev.a (s.group s.ev.b).plot).isSome = true →
    (mode = 0 → s.bloomNone s.ev.a c lo len = true → exec .tlbiRequest s = .next (s.after (6 + back) .tlbiAck { a := s.ev.a, b := s.ev.b })) ∧
    ((mode ≠ 0 ∨ s.bloomNone s.ev.a c lo len = false) → ∃ t, exec .tlbiRequest s = .next t ∧
      (∀ e, e ∈ (t.plot s.ev.a).tlb ↔ e ∈ (s.plot s.ev.a).tlb ∧ ¬ Sys2Proof.Claims.tlbiCovers mode c lo len e.2) ∧
      Sys2Proof.Claims.InAgenda t (s.cycle + (40 + back)) .tlbiAck { a := s.ev.a, b := s.ev.b } ∧
      (mode = 2 → ∃ k, Sys2Proof.Claims.InAgenda t k .bloomRebuild { a := s.ev.a }) ∧
      (∀ p, p ≠ s.ev.a → t.plot p = s.plot p) ∧ t.groups = s.groups ∧ SameMemory s t)) ∧
  (∀ (s : State) (p c lo len : Nat), Sys2Proof.Claims.FilterHolds (s.plot p) → s.bloomNone p c lo len = true →
    ∀ e ∈ (s.plot p).tlb, ¬ Sys2Proof.Claims.tlbiCovers 0 c lo len e.2) ∧
  (∀ (s : State) (g : Group) (i : Instr) (n : Nat), tabFind s.groups s.ev.b = some g → g.hold = some (.priv i n) →
    exec .tlbiAck s = .next (s.setGroup s.ev.b { g with hold := if n ≤ 1 then none else some (.priv i (n - 1)) })) ∧
  (∀ (s : State), ∃ t, exec .bloomRebuild s = .next t ∧ Sys2Proof.Claims.FilterHolds (t.plot s.ev.a) ∧
    { t.plot s.ev.a with bloom := (s.plot s.ev.a).bloom, bloomBusy := (s.plot s.ev.a).bloomBusy } = s.plot s.ev.a ∧
    (t.plot s.ev.a).bloomBusy = s.cycle + 256 ∧ (∀ p, p ≠ s.ev.a → t.plot p = s.plot p) ∧ t.groups = s.groups ∧ SameMemory s t)

/-- The access-counter forms answer the counter of a frame and leave it, clear it or write its low 16 bits, the increments of the same cycle after
the write, 16 cycles in all; beyond the usable frames they
answer all ones and change nothing (R186, R318). `lease` install answers 1 for a record that breaks a rule of R320 and else installs it; read stores the
record of an entry; each takes 16 cycles and the path to the PGC's memory; an index above 4,095 answers 1. Only the named registers change. -/
def Sys2Proof.Claims.CountersAndLeaseRecords : Prop :=
  (∀ (u : Issuer) (s : State) (i : Instr) (d a : BitVec 6) (new : Option Nat),
    ((i = .acntRead d a ∧ new = none) ∨ (i = .acntReadClear d a ∧ new = some 0) ∨
      ∃ b, i = .acntWrite d a b ∧ new = some ((u.sv b).setWidth 16).toNat) → Issues i u s →
    let f := (u.sv a).toNat
    (s.hbmFrames ≤ f → ∃ t, exec i s = .next t ∧ Sys2Proof.Claims.StatusFor s s u d 16 (BitVec.allOnes 64) t) ∧
    (f < s.hbmFrames → ∃ t, exec i s = .next t ∧
      (new = none → Sys2Proof.Claims.StatusFor s s u d 16 (BitVec.ofNat 64 (s.frame f).count) t) ∧
      ∀ n, new = some n → ∃ k, k = Nat.min 65535 (n + (if (s.frame f).served.1 = s.cycle then (s.frame f).served.2 else 0)) ∧
        Sys2Proof.Claims.StatusFor s (s.setFrame f { s.frame f with count := k }) u d 16 (BitVec.ofNat 64 (s.frame f).count) t)) ∧
  (∀ (u : Issuer) (s : State) (d a b : BitVec 6) (n : Nat), Issues (.leaseInstall d a b) u s → s.eccErrors = [] → s.addrRoad u.g (u.sv b) false = .ok n →
    let k := (u.sv a).toNat
    let r := BitVec.ofNat 256 (s.pgcLoad u (u.sv b) 32)
    (s.installBad k r = true → ∃ t, exec (.leaseInstall d a b) s = .next t ∧ Sys2Proof.Claims.StatusFor s s u d (16 + n) 1 t) ∧
    (s.installBad k r = false → ∃ t, exec (.leaseInstall d a b) s = .next t ∧ Sys2Proof.Claims.StatusFor s (s.install k r) u d (16 + n) 0 t ∧
      (t.lease k).req = none ∧ leaseState (t.lease k).data = 1 ∧ lrSetState (t.lease k).data 0 = lrSetState r 0)) ∧
  (∀ (u : Issuer) (s : State) (d a b : BitVec 6), Issues (.leaseRead d a b) u s →
    let k := (u.sv a).toNat
    (4096 ≤ k → ∃ t, exec (.leaseRead d a b) s = .next t ∧ Sys2Proof.Claims.StatusFor s s u d 16 1 t) ∧
    (∀ n, k < 4096 → s.eccErrors = [] → s.l2Errors = [] → Sys2Proof.Claims.FramesAtRest s → s.addrRoad u.g (u.sv b) true = .ok n →
      ∃ t, exec (.leaseRead d a b) s = .next t ∧ (t.group u.gid).hold = some (.status d 0 (s.cycle + (16 + n))) ∧ (t.group u.gid).s = u.g.s ∧
        t.readNat (u.sv b).toNat 32 = (s.lease k).data.toNat ∧
        (∀ x, (∀ j, j < 32 → t.phys x ≠ t.phys ((u.sv b).toNat + j)) → t.readByte x = s.readByte x) ∧ t.leases = s.leases)) ∧
  (∀ (u : Issuer) (s : State) (i : Instr) (d a b : BitVec 6) (p : Nat),
    ((i = .leaseInstall d a b ∧ s.addrRoad u.g (u.sv b) false = .error p) ∨
      (i = .leaseRead d a b ∧ (u.sv a).toNat < 4096 ∧ s.addrRoad u.g (u.sv b) true = .error p)) → Issues i u s →
    ∃ t, exec i s = .next t ∧ (t.group u.gid).hold = some (.priv i 0) ∧ (t.group u.gid).s = u.g.s ∧ SameMemory s t ∧ t.leases = s.leases)

/-- `lease` renew and return answer 1 at once where they may not send (R186, R324, R329): renew for an entry that is not VALID, has a request outstanding
or whose expiry has passed; return for a FREE entry, one with a request or with a dirty frame. Otherwise the request leaves with the next tag, its limit
is 2^22 ticks away, the entry is RENEWING or RETURNING, and the unit is held. -/
def Sys2Proof.Claims.LeaseRequests : Prop :=
  ∀ (u : Issuer) (s : State) (i : Instr) (d a : BitVec 6) (ret : Bool) (b : BitVec 6),
    i = (if ret then .leaseReturn d a else .leaseRenew d a b) → Issues i u s →
    let k := (u.sv a).toNat
    let bad := 4096 ≤ k ∨ (s.lease k).req.isSome = true ∨ (if ret then leaseState (s.lease k).data = 0 ∨ ∃ f ∈ s.leaseFrames k, (s.frame f).dirty ≠ 0
      else leaseState (s.lease k).data ≠ 1 ∨ (u.sv b).toNat ≤ s.tick)
    (bad → ∃ t, exec i s = .next t ∧ Sys2Proof.Claims.StatusFor s s u d 16 1 t) ∧
    (¬ bad → (s.ctx 0).trace = false → ∃ t, exec i s = .next t ∧
        let ty := if ret then 4 else 1
        let span := if ret then 0 else (u.sv b).toNat - s.tick
        let tag := s.pgc.tag
        let node := lrNode (s.lease k).data
        (t.group u.gid).hold = some (.priv i 0) ∧ (t.group u.gid).s = u.g.s ∧
        (∃ q, (t.lease k).req = some q ∧ q.tag = tag ∧ q.ret = ret ∧ q.sent = s.tick ∧ q.waiter = some u.gid ∧ (ret = true → q.before = leaseState (s.lease k).data)) ∧
        (t.lease k).data = lrSetState (s.lease k).data (if ret then 6 else 2) ∧
        t.outbox = s.outbox ++ [.rhaod (s.pgcPort node) node (s.rhPack ty tag node (lrId (s.lease k).data) span)] ∧
        t.pgc.tag = (tag + 1) % 65536 ∧
        Sys2Proof.Claims.InAgenda t (2 * (s.tick + 2 ^ 22)) .answerLimit { a := k, b := tag } ∧ SameMemory s t ∧ SameGroupsBut u.gid s t)

namespace Sys2Proof.Claims

/-- No controller error is outstanding, no frame is being filled or zeroed, and no channel switches its rate: nothing delays or damages an access. -/
def MemoryAtRest (s : State) : Prop := s.eccErrors = [] ∧ s.l2Errors = [] ∧ FramesAtRest s

/-- The places of two ranges of addresses are apart. -/
def PlacesApart (s : State) (a n b m : Nat) : Prop := ∀ i j, i < n → j < m → s.phys (a + i) ≠ s.phys (b + j)

/-- An L1 or L2 TLB entry of a context's 64 KiB page with the target of a leaf. -/
def OldEntry (c old : Nat) (e : TlbEntry) : Prop :=
  e.ctx = c ∧ e.bits = 16 ∧ pteLoc e.pte.toNat = pteLoc old ∧ fld e.pte.toNat 21 27 = fld old 21 27

end Sys2Proof.Claims

/-- `pmove` (R186, R338) holds its unit until it completes, and every access to its page waits meanwhile. It completes with 2 when its target cannot take
the page (and, the model's choice, log entry 105, when a reserved field of its block is not zero), with 1 when a block of its source cannot be read, and
without any effect but that; else with 0: each byte and each descriptor of the 64 KiB stands at the target, the new leaf at its address, and no TLB holds
an entry of the old leaf; with NODATA the data stays where it was. Bytes of HBM that are neither the target's nor the leaf's stay. -/
def Sys2Proof.Claims.PageMoves : Prop :=
  (∀ (u : Issuer) (s : State) (d a : BitVec 6), Issues (.pmove d a) u s → s.eccErrors = [] →
    let b := s.pgcLoad u (u.sv a) 32
    ∃ t, exec (.pmove d a) s = .next t ∧
      (t.group u.gid).hold = some (.priv (.pmove d a) 0) ∧ t.pgc.moving = s.pgc.moving ++ [(fld b 136 6, fld b 0 64)] ∧ SameMemory s t ∧ SameGroupsBut u.gid s t ∧
      ∀ n, s.moveRoad u (u.sv a) b = .ok n → Sys2Proof.Claims.InAgenda t (s.cycle + (1024 + n)) .pmoveComplete { a := u.gid, f := BitVec.ofNat 256 b }) ∧
  (∀ (s : State) (g : Group) (d a : BitVec 6) (n : Nat), tabFind s.groups s.ev.a = some g → g.hold = some (.priv (.pmove d a) n) → g.pgc = true →
    Sys2Proof.Claims.MemoryAtRest s →
    let b := s.ev.f.toNat
    let leaf := fld b 0 64
    let old := s.readNat leaf 8
    let new := fld b 64 64
    let done := s.pgc.moving.erase (fld b 136 6, leaf)
    let wf := fld b 142 114 = 0 ∧ fld b 130 6 = 0
    let nodata := b.testBit 129
    (¬ wf ∨ leafDpa s new = none ∨ s.moveTakes new ((leafDpa s new).getD 0) = false →
      ∃ t, exec .pmoveComplete s = .next t ∧ Sys2Proof.Claims.PrivEnds s t s.ev.a d 2 ∧ t.pgc.moving = done ∧ SameMemory s t) ∧
    (∀ dst, wf → leafDpa s new = some dst → s.moveTakes new dst = true → nodata = false →
      (leafDpa s old = none ∨ ∃ src i, leafDpa s old = some src ∧ i < 1024 ∧ s.moveReadable old src i = false) →
      ∃ t, exec .pmoveComplete s = .next t ∧ Sys2Proof.Claims.PrivEnds s t s.ev.a d 1 ∧ t.pgc.moving = done ∧ SameMemory s t) ∧
    (∀ dst, wf → leafDpa s new = some dst → s.moveTakes new dst = true →
      (nodata = true ∨ ∃ src, leafDpa s old = some src ∧ ∀ i, i < 1024 → s.moveReadable old src i = true) →
      ∃ t, exec .pmoveComplete s = .next t ∧ (t.group s.ev.a).readS d.toNat = (if d = 63 then {} else { val := 0 }) ∧
        (t.group s.ev.a).hold = none ∧ t.pgc.moving = done ∧
        t.readNat leaf 8 = new ∧
        (∀ p, ∀ e ∈ (t.plot p).tlb, ¬ Sys2Proof.Claims.OldEntry (fld b 136 6) old e.2) ∧
        (∀ k, ∀ e ∈ (t.die k).tlb, ¬ Sys2Proof.Claims.OldEntry (fld b 136 6) old e.2) ∧
        (nodata = false → ∀ src, leafDpa s old = some src →
          (∀ x, x < 65536 → (∀ k, k < 8 → t.phys (leaf + k) ≠ t.phys (dst + x)) → t.readByte (dst + x) = s.readByte (src + x)) ∧
          (∀ i, i < 1024 → (∀ k, k < 8 → t.phys (leaf + k) / 64 ≠ t.phys (dst + 64 * i) / 64) →
            t.readDesc (dst + 64 * i) = if hasMeta dst then s.readDesc (src + 64 * i) else 0)) ∧
        (nodata = false → ∀ x, isHbm s x = true → (∀ k, k < 8 → t.phys (leaf + k) ≠ x) → (∀ k, k < 65536 → t.phys (dst + k) ≠ x) → t.readByte x = s.readByte x)))

/-- `psplit` (R186, R310) completes with 1 or 2 and no effect for a leaf that is not splittable or is being split already. Else it writes SPLITTING into
the leaf and the 32 leaves of 64 KiB into the area, each with the fields of the leaf and 64 KiB further on; at the end it puts the table in the leaf's
place where the leaf is as it was copied, and else copies it again. `bias` (R186, R332) completes at once for no byte, and else holds its unit until the
host has answered: whole pages are counted, and these have device bias. -/
def Sys2Proof.Claims.PageSplitsAndBias : Prop :=
  (∀ (u : Issuer) (s : State) (d a b : BitVec 6), Issues (.psplit d a b) u s → Sys2Proof.Claims.MemoryAtRest s →
    let leaf := u.sv a
    let tab := u.sv b
    let e := s.pgcLoad u leaf 8
    (∀ n, s.addrRoad u.g leaf false = .ok n →
      (splitOk s e = false → ∃ t, exec (.psplit d a b) s = .next t ∧ Sys2Proof.Claims.StatusFor s s u d n 1 t) ∧
      (splitOk s e = true → e.testBit 18 = true → ∃ t, exec (.psplit d a b) s = .next t ∧ Sys2Proof.Claims.StatusFor s s u d n 2 t)) ∧
    (∀ n, splitOk s e = true → e.testBit 18 = false → Sys2Proof.Claims.PlacesApart s leaf.toNat 8 tab.toNat 256 →
      ((s.addrRoad u.g leaf false).then (s.storeRoad u leaf)).then (s.splitRoad u leaf tab) = .ok n →
      ∃ t, exec (.psplit d a b) s = .next t ∧ (t.group u.gid).hold = some (.priv (.psplit d a b) 0) ∧
        t.readNat leaf.toNat 8 = e + 2 ^ 18 ∧ (∀ k, k < 32 → t.readNat (tab.toNat + 8 * k) 8 = splitEntry (e + 2 ^ 18) k) ∧
        (∀ x, (∀ k, k < 8 → t.phys x ≠ t.phys (leaf.toNat + k)) → (∀ k, k < 256 → t.phys x ≠ t.phys (tab.toNat + k)) → t.readByte x = s.readByte x) ∧
        Sys2Proof.Claims.InAgenda t (s.cycle + n) .psplitComplete { a := u.gid, v := BitVec.ofNat 64 (e + 2 ^ 18) })) ∧
  (∀ (s : State) (e k : Nat), e < 2 ^ 64 → splitOk s e = true → k < 32 →
    let x := splitEntry e k
    x < 2 ^ 64 ∧ fld x 2 2 = 0 ∧ fld x 18 1 = 0 ∧ fld x 0 2 = fld e 0 2 ∧ fld x 4 14 = fld e 4 14 ∧ fld x 19 2 = fld e 19 2 ∧ fld x 48 16 = fld e 48 16 ∧
    (pteLoc e ≠ 0 → pteLoc e ≠ 2 → fld x 36 12 = fld e 36 12) ∧ pteDpa s x 16 0 = pteDpa s e 21 (65536 * k)) ∧
  (∀ (s : State) (g : Group) (d a b : BitVec 6) (n : Nat), tabFind s.groups s.ev.a = some g → g.hold = some (.priv (.psplit d a b) n) → g.pgc = true →
    let leaf := (g.readS a.toNat).val
    let tab := (g.readS b.toNat).val
    let now := s.readNat leaf.toNat 8
    (now = s.ev.v.toNat → Sys2Proof.Claims.MemoryAtRest s → ∃ t, exec .psplitComplete s = .next t ∧ t.readNat leaf.toNat 8 = 1 + tab.toNat % 2 ^ 52 ∧
      (t.group s.ev.a).readS d.toNat = (if d = 63 then {} else { val := 0 }) ∧ (t.group s.ev.a).hold = none ∧
      ∀ x, (∀ k, k < 8 → t.phys x ≠ t.phys (leaf.toNat + k)) → t.readByte x = s.readByte x) ∧
    (∀ m, now ≠ s.ev.v.toNat → s.splitRoad { gid := s.ev.a, g := g, c := default } leaf tab = .ok m → exec .psplitComplete s =
      .next ((s.writeSplit s.ev.a tab now).after m .psplitComplete { a := s.ev.a, v := BitVec.ofNat 64 now }))) ∧
  (∀ (u : Issuer) (s : State) (d a b : BitVec 6), Issues (.bias d a b) u s →
    ((u.sv b).toNat = 0 → ∃ t, exec (.bias d a b) s = .next t ∧ Sys2Proof.Claims.StatusFor s s u d 1 0 t) ∧
    ((u.sv b).toNat ≠ 0 → ∃ t, exec (.bias d a b) s = .next t ∧ Sys2Proof.Claims.HoldsFrom s u (.priv (.bias d a b) 0) { t with agenda := s.agenda } ∧
      ∃ e ∈ t.agenda, e.what = .biasComplete)) ∧
  (∀ (s : State) (g : Group) (d a b : BitVec 6) (n : Nat), tabFind s.groups s.pgc.serving = some g → g.hold = some (.priv (.bias d a b) n) →
    ∃ t, exec .biasComplete s = .next t ∧
      let lo := (g.readS a.toNat).val.toNat / 65536
      let k := Nat.min (s.ev.a / 1024) ((g.readS b.toNat).val.toNat / 65536)
      Sys2Proof.Claims.PrivEnds s t s.pgc.serving d (BitVec.ofNat 64 k) ∧
      (∀ f, t.frame f = if lo ≤ f ∧ f < lo + k then { s.frame f with bias := false } else s.frame f) ∧ SameMemory s t)

/-- The privileged forms: access counters, lease records and requests, moves, splits and bias of pages (R185, R186, R310, R318-R329, R332, R338).
Readings of the model's own, by log entry: statuses of pmove, psplit and bias at the edges (59, 105), tlbi (60), lease forms at the edges
(56), latencies (11). -/
def Obligations.PrivilegedForms : Prop :=
  Sys2Proof.Claims.CountersAndLeaseRecords ∧ Sys2Proof.Claims.LeaseRequests ∧ Sys2Proof.Claims.PageMoves ∧ Sys2Proof.Claims.PageSplitsAndBias

/-! ## The fault queue, leases, pool messages -/

namespace Sys2Proof.Claims

/-- A record that was packed in `s` is in the fault queue, or its request waits for a free slot. -/
def Queued (s t : State) (f : FqFields) (g : FqTarget) : Prop :=
  (∃ i r, tabFind t.pgc.fq i = some r ∧ r.data = s.fqPack f ∧ r.target = g) ∨ (f, g) ∈ t.pgc.fqWait

/-- A held privileged form of a group has completed with a status. -/
def FormDone (s t : State) (gid : Nat) (d : BitVec 6) (v : DWord) : Prop :=
  t.group gid = { ((s.group gid).writeS d.toNat { val := v }) with hold := none }

/-- The unit that waits for the answer to a request of a lease: it stands at the `lease` form that sent it. -/
def Waits (s : State) (q : LeaseReq) (gid : Nat) (d : BitVec 6) : Prop :=
  q.waiter = some gid ∧ ∃ g n a b, tabFind s.groups gid = some g ∧
    (g.hold = some (.priv (.leaseRenew d a b) n) ∨ g.hold = some (.priv (.leaseReturn d a) n))

/-- The fields of a lease record other than its state and expiry are as they were. -/
def SameLeaseName (r q : BitVec 256) : Prop := q.extractLsb' 0 96 = r.extractLsb' 0 96 ∧ q.extractLsb' 100 92 = r.extractLsb' 100 92

/-- A message of a manager that passes its checks (R328, R330). -/
def goodMessage (m : BitVec 256) (ty : Nat) : Prop :=
  crc32c 0 (natBytes 28 (m.toNat % 2 ^ 224)) = m.extractLsb' 224 32 ∧ m.extractLsb' 8 8 = 1 ∧ (m.extractLsb' 0 8).toNat = ty ∧
  m.extractLsb' 44 20 = 0 ∧ m.extractLsb' 192 21 = 0

/-- RHBAD counts, saturating, and nothing else changes. -/
def countsBad (s : State) : State :=
  { s with pgc := { s.pgc with rhBad := if s.pgc.rhBad = BitVec.allOnes 64 then s.pgc.rhBad else s.pgc.rhBad + 1 } }

end Sys2Proof.Claims

/-- The fault queue (R334, R335, R337). A record takes the lowest free slot, in the queue and in PGC memory, or waits while the queue is full and is packed when a slot
falls free; FQPOP answers the
oldest record not yet taken, bit 63 set, and 0 for none; a resolution frees its slot and acts for the unit that the record names, at its arrival at that
unit's plot by the path from the PGC (R415; dropped without a path, R16), and one for a slot that holds no record does nothing. FQPOP as a step of its own answers nothing to anyone, the model's reading of R335.
Readings of the model's own, by log entry: FQPOP as a row of its own (62), a plot walker's record (66). -/
def Obligations.FaultQueue : Prop :=
  (∀ (s : State) (f : FqFields) (g : FqTarget) (i : Nat), s.pgc.fqWait = [] → i < 1024 → tabFind s.pgc.fq i = none →
    (∀ j, j < i → (tabFind s.pgc.fq j).isSome = true) →
    ∃ t r, s.enqueue f g = t ∧ tabFind t.pgc.fq i = some r ∧ r.data = s.fqPack f ∧ r.target = g ∧ r.taken = false ∧
      (∀ j, j ≠ i → tabFind t.pgc.fq j = tabFind s.pgc.fq j) ∧ (∀ e ∈ s.pgc.fq, e.2.order < s.pgc.fqNext → e.2.order < r.order) ∧
      ∀ k, k < 32 → t.readByte (0x00F800080000 + 32 * i + k) = BitVec.ofNat 8 ((s.fqPack f).toNat / 2 ^ (8 * k))) ∧
  (∀ (s : State) (f : FqFields) (g : FqTarget), (s.pgc.fqWait ≠ [] ∨ ∀ j, j < 1024 → (tabFind s.pgc.fq j).isSome = true) →
    s.enqueue f g = { s with pgc := { s.pgc with fqWait := s.pgc.fqWait ++ [(f, g)] } }) ∧
  (∀ (s : State) (i : Nat) (f : FqFields) (g : FqTarget) (l : List (FqFields × FqTarget)), s.pgc.fqWait = (f, g) :: l →
    ∃ t r, s.fqRelease i = t ∧ tabFind t.pgc.fq i = some r ∧ r.data = s.fqPack f ∧ r.target = g ∧ r.taken = false ∧ t.pgc.fqWait = l) ∧
  (∀ (s : State) (i : Nat) (r : FqRec), (i, r) ∈ s.pgc.fq → tabSorted s.pgc.fq = true → r.taken = false →
    (∀ e ∈ s.pgc.fq, e.2.taken = false → e.1 ≠ i → r.order < e.2.order) →
    s.fqPop = ({ s with pgc := { s.pgc with fq := tabPut s.pgc.fq i { r with taken := true } } }, BitVec.ofNat 64 (2 ^ 63 + i)) ∧
    exec .fqpop s = .next s.fqPop.1) ∧
  (∀ (s : State) (r : FqRec), s.ev.flag = false → tabFind s.pgc.fq s.ev.a = some r → r.target = .info → s.pgc.fqWait = [] →
    let m : State := { s with pgc := { s.pgc with fq := tabDel s.pgc.fq s.ev.a } }
    exec .fqresReplay s = .next m ∧ exec .fqresPage s = .next m ∧ exec .fqresLease s = .next m ∧ exec .fqresPoolLost s = .next m ∧
    exec .fqresProt s = .next m ∧ exec .fqresChecksum s = .next m ∧ exec .fqresClose s = .next m) ∧
  (∀ (i : Instr) (out : Nat), (i, out) ∈ [(.fqresReplay, 0), (.fqresPage, 1), (.fqresLease, 2), (.fqresPoolLost, 3), (.fqresProt, 4), (.fqresChecksum, 5),
      (.fqresClose, 1)] → ∀ (s : State),
    (s.ev.flag = false → tabFind s.pgc.fq s.ev.a = none → exec i s = .next s) ∧
    (∀ r, s.ev.flag = false → tabFind s.pgc.fq s.ev.a = some r → s.pgc.fqWait = [] →
      let m : State := { s with pgc := { s.pgc with fq := tabDel s.pgc.fq s.ev.a } }
      (r.target = .info → exec i s = .next m) ∧
      (∀ id, r.target = .binv id → ∃ t, exec i s = .next t ∧ ∀ b, b ∈ t.pgc.blocked ↔ b ∈ s.pgc.blocked ∧ b.2.2 ≠ id) ∧
      (∀ gid op, r.target = .group gid op →
        (∀ n, s.way? (384 + s.pgc.serving) (s.group gid).plot = some n → exec i s =
          .next ((m.bump.modPgc (fun x => { x with answers := tabPut x.answers s.nextId r })).after n (fqresStep out) { a := s.nextId, b := s.ev.b, flag := true })) ∧
        (s.way? (384 + s.pgc.serving) (s.group gid).plot = none → ∃ p, exec i s = .next (m.dropAt p)))) ∧
    (s.ev.flag = true → tabFind s.pgc.answers s.ev.a = none → exec i s = .next s) ∧
    (∀ r, s.ev.flag = true → tabFind s.pgc.answers s.ev.a = some r →
      let m : State := { s with pgc := { s.pgc with answers := tabDel s.pgc.answers s.ev.a } }
      let f := outcomeFailure r.data out s.ev.b
      f.cls = [4, 4, 5, 6, 7, 21].getD out 0 ∧ (out ≠ 0 → f.cause = s.ev.b) ∧
      (∀ gid op g o slot e, r.target = .group gid op → tabFind s.groups gid = some g → tabFind g.ops op = some o → o.st = .logged slot →
        tabFind g.log slot = some e → e.st = .pending →
        (out ≠ 0 → let ff : Failure := { f with at? := e.f.at?, addr := e.f.addr, tick := e.f.tick }
          exec i s = .next ((m.modGroup gid (fun x => { x with log := tabPut x.log slot { e with st := .trapped, f := ff } })).trapGroup gid ff slot o.idx o.clause)) ∧
        (out = 0 → exec i s = .next ((m.modGroup gid (fun x => { x with log := tabPut x.log slot { e with st := .replay } })).tryReplay gid)))))

/-- What time does to a lease (R324, R325, R329): a record when a renewal is due, once; EXPIRED, with its record, when its expiry has come or its revocation's
deadline has passed; a request unanswered for 2^22 ticks completes with status 3, after a renew the entry VALID or EXPIRED. A read of the pool without an
answer for 2^24 ticks is a LEASE failure with detail 2. -/
def Sys2Proof.Claims.LeaseTimes : Prop :=
  (∀ (s : State), let i := s.ev.a; let x := s.lease i
    (¬ (leaseState x.data = 1 ∧ x.dueSent = false ∧ lrExpiry x.data ≠ 2 ^ 64 - 1 ∧ lrExpiry x.data - s.pgc.leaseMargin.toNat ≤ s.tick) → exec .renewDue s = .next s) ∧
    (leaseState x.data = 1 ∧ x.dueSent = false ∧ lrExpiry x.data ≠ 2 ^ 64 - 1 ∧ lrExpiry x.data - s.pgc.leaseMargin.toNat ≤ s.tick →
      ∃ t, exec .renewDue s = .next t ∧ t.lease i = { x with dueSent := true } ∧ Sys2Proof.Claims.Queued s t { kind := 5, src := 3, lease := i } .info)) ∧
  (∀ (s : State), let i := s.ev.a; let x := s.lease i
    (¬ ((leaseState x.data = 1 ∨ leaseState x.data = 2) ∧ lrExpiry x.data ≠ 2 ^ 64 - 1 ∧ lrExpiry x.data ≤ s.tick) → exec .leaseExpiry s = .next s) ∧
    ((leaseState x.data = 1 ∨ leaseState x.data = 2) ∧ lrExpiry x.data ≠ 2 ^ 64 - 1 ∧ lrExpiry x.data ≤ s.tick →
      ∃ t, exec .leaseExpiry s = .next t ∧ t.lease i = { x with data := lrSetState x.data 3 } ∧
        Sys2Proof.Claims.Queued s t { kind := 6, src := 3, lease := i } .info)) ∧
  (∀ (s : State), let i := s.ev.a; let x := s.lease i
    ((∀ d, x.deadline = some d → s.tick ≤ d ∨ leaseState x.data = 0) → exec .revokeDeadline s = .next s) ∧
    (∀ d, x.deadline = some d → d < s.tick → leaseState x.data ≠ 0 → ∃ t, exec .revokeDeadline s = .next t ∧ (t.lease i).deadline = none ∧
      ((leaseState x.data = 3 ∨ leaseState x.data = 5) → (t.lease i).data = x.data ∧ t.pgc = s.pgc) ∧
      (leaseState x.data ≠ 3 → leaseState x.data ≠ 5 → (t.lease i).data = lrSetState x.data 3 ∧
        Sys2Proof.Claims.Queued s t { kind := 6, src := 3, lease := i } .info))) ∧
  (∀ (s : State) (q : LeaseReq), (s.lease s.ev.a).req = some q → let i := s.ev.a; let x := s.lease i
    (q.tag ≠ s.ev.b → exec .answerLimit s = .next s) ∧
    (q.tag = s.ev.b → ∀ gid d, Sys2Proof.Claims.Waits s q gid d → ∃ t, exec .answerLimit s = .next t ∧ (t.lease i).req = none ∧
      Sys2Proof.Claims.FormDone s t gid d 3 ∧
      (t.lease i).data = (if q.ret = false ∧ leaseState x.data = 2 then
        lrSetState x.data (if s.tick < lrExpiry x.data ∨ lrExpiry x.data = 2 ^ 64 - 1 then 1 else 3) else x.data))) ∧
  (∀ (s : State), (s.lease s.ev.a).req = none → exec .answerLimit s = .next s) ∧
  (∀ (s : State) (gid op va dpa pte k : Nat) (g : Group) (o : MemOp) (e : Elem) (m : State), s.ev = { a := gid, b := op } → tabFind s.groups gid = some g →
    tabFind g.ops op = some o → s.opElems gid o = [e] → spaceOf e.addr = .virt va →
    s.translateWalk g.ctx va .read = (m, .ok dpa pte) → isPool dpa = true → s.leaseAt dpa = some k →
    let late := fun (step : Instr) => (s.unschedule step { a := gid, b := op }).opFailed gid op
      { cls := 5, cause := 18, addr := BitVec.ofNat 64 va, info := BitVec.ofNat 64 (2 + 256 * k) }
    (o.st = .issued → exec .poolReadTimeout s = .next (late (opStep o.word))) ∧
    (∀ n, o.st = .logged n → exec .poolReadTimeout s =
      .next (if (tabFind g.log n).any (fun x => decide (x.st = .replay)) then late .operandLogReplay else s)) ∧
    (o.st = .performed → (∀ d a r, o.word ≠ .mwait d a r) → exec .poolReadTimeout s = .next s))

/-- Messages of a pool's manager (R326-R331). A malformed one, and an answer to no request, count in RHBAD and do nothing else. GRANT ends a renew with status 0,
its expiry counted from the send; REFUSE ends a request with status 2; RETURNED frees the entry; REVOKE is acknowledged to the node of its lease, and names a deadline; NODE_FAIL fails
every lease of its node with one record. BISnp invalidates a range, which is blocked until its record is resolved. -/
def Sys2Proof.Claims.PoolMessages : Prop :=
  (∀ (s : State), exec .rhaodDiscard s = .next (Sys2Proof.Claims.countsBad s)) ∧
  (∀ (s : State) (i : Instr) (ty : Nat), (i, ty) ∈ [(.grant, 2), (.refuse, 3), (.returned, 5), (.revoke, 6), (.nodeFail, 8)] →
    ¬ Sys2Proof.Claims.goodMessage s.ev.f ty → exec i s = .next (Sys2Proof.Claims.countsBad s)) ∧
  (∀ (s : State) (i : Instr) (ty : Nat), (i, ty) ∈ [(.grant, 2), (.refuse, 3), (.returned, 5)] → Sys2Proof.Claims.goodMessage s.ev.f ty →
    (∀ e ∈ s.leases, ∀ q, e.2.req = some q → q.tag ≠ (s.ev.f.extractLsb' 16 16).toNat ∨ e.2.data.extractLsb' 0 64 ≠ s.ev.f.extractLsb' 64 64) →
    exec i s = .next (Sys2Proof.Claims.countsBad s)) ∧
  (∀ (s : State) (i gid : Nat) (q : LeaseReq) (d : BitVec 6), s.rhMatch s.ev.f = some (i, q) → Sys2Proof.Claims.Waits s q gid d →
    let x := s.lease i
    (Sys2Proof.Claims.goodMessage s.ev.f 2 → q.ret = false → ∃ t, exec .grant s = .next t ∧ Sys2Proof.Claims.FormDone s t gid d 0 ∧
      (t.lease i).req = none ∧ (t.lease i).dueSent = false ∧ leaseState (t.lease i).data = 1 ∧
      lrExpiry (t.lease i).data = (q.sent + (s.ev.f.extractLsb' 128 64).toNat) % 2 ^ 64 ∧ Sys2Proof.Claims.SameLeaseName x.data (t.lease i).data) ∧
    (Sys2Proof.Claims.goodMessage s.ev.f 3 → ∃ t, exec .refuse s = .next t ∧ Sys2Proof.Claims.FormDone s t gid d 2 ∧ (t.lease i).req = none ∧
      (t.lease i).data = (if q.ret then lrSetState x.data q.before else if leaseState x.data = 2 then
        lrSetState x.data (if s.tick < lrExpiry x.data ∨ lrExpiry x.data = 2 ^ 64 - 1 then 1 else 3) else x.data)) ∧
    (Sys2Proof.Claims.goodMessage s.ev.f 5 → q.ret = true → ∃ t, exec .returned s = .next t ∧ Sys2Proof.Claims.FormDone s t gid d 0 ∧ t.lease i = {}) ∧
    (Sys2Proof.Claims.goodMessage s.ev.f 2 → q.ret = true → exec .grant s = .next (Sys2Proof.Claims.countsBad s)) ∧
    (Sys2Proof.Claims.goodMessage s.ev.f 5 → q.ret = false → exec .returned s = .next (Sys2Proof.Claims.countsBad s))) ∧
  (∀ (s : State), Sys2Proof.Claims.goodMessage s.ev.f 6 →
    let id := s.ev.f.extractLsb' 64 64
    let node := (s.ev.f.extractLsb' 32 12).toNat
    let ack : Msg := .rhaod (s.pgcPort node) node (s.rhPack 7 (s.ev.f.extractLsb' 16 16).toNat node id 0)
    let d := s.tick + (s.ev.f.extractLsb' 128 64).toNat
    ((∀ e ∈ s.leases, leaseState e.2.data ≠ 0 → e.2.data.extractLsb' 0 64 ≠ id) →
      exec .revoke s = .next { (Sys2Proof.Claims.countsBad s) with outbox := s.outbox ++ [ack] }) ∧
    (∀ i x, (i, x) ∈ s.leases → tabSorted s.leases = true → (leaseState x.data = 1 ∨ leaseState x.data = 2) → x.data.extractLsb' 0 64 = id →
      (∀ e ∈ s.leases, e.1 ≠ i → leaseState e.2.data ≠ 0 → e.2.data.extractLsb' 0 64 ≠ id) →
      let of : Nat := (x.data.extractLsb' 64 12).toNat
      ∃ t, exec .revoke s = .next t ∧ t.lease i = { x with data := lrSetState x.data 4, deadline := some d } ∧
        t.outbox = s.outbox ++ [.rhaod (s.pgcPort of) of (s.rhPack 7 (s.ev.f.extractLsb' 16 16).toNat node id 0)] ∧
        Sys2Proof.Claims.Queued s t { kind := 7, src := 3, lease := i, addr := d } .info ∧
        Sys2Proof.Claims.InAgenda t (2 * (d + 1)) .revokeDeadline { a := i })) ∧
  (∀ (s : State), Sys2Proof.Claims.goodMessage s.ev.f 8 → tabSorted s.leases = true →
    let node := s.ev.f.extractLsb' 32 12
    let hit := fun (x : Lease) => x.data.extractLsb' 64 12 = node ∧ leaseState x.data ≠ 0 ∧ leaseState x.data ≠ 5
    ((∀ e ∈ s.leases, ¬ hit e.2) → exec .nodeFail s = .next s) ∧
    ((∃ e ∈ s.leases, hit e.2) → ∃ t, exec .nodeFail s = .next t ∧ (∀ i, (hit (s.lease i) → t.lease i = { s.lease i with data := lrSetState (s.lease i).data 5 }) ∧
      (¬ hit (s.lease i) → t.lease i = s.lease i)) ∧ Sys2Proof.Claims.Queued s t { kind := 3, src := 3, node := node.toNat } .info)) ∧
  (∀ (s : State), (∀ f g u, (s.frame f).tag = some u → (s.frame g).tag = some u → f = g) →
    ∃ t id, exec .bisnp s = .next t ∧ t.pgc.blocked = s.pgc.blocked ++ [(s.ev.a, s.ev.b, id)] ∧
      Sys2Proof.Claims.Queued s t { kind := 8, src := 3, addr := s.ev.a } (.binv id) ∧ .biRsp s.ev.a s.ev.b ∈ t.outbox ∧
      ∀ u f, s.ev.a < (u + 1) * 65536 → u * 65536 < s.ev.a + s.ev.b → f ∈ s.unitFrames u → (t.frame f).tag ≠ some u)

/-- What time and the pool's managers do to leases (R323-R331).
Readings of the model's own, by log entry: lease rules at the edges (56), a manager's misfit answer (57), the trace of leases (58), how a
read without an answer is named (101). -/
def Obligations.Leases : Prop :=
  Sys2Proof.Claims.LeaseTimes ∧ Sys2Proof.Claims.PoolMessages

/-! ## Directory, caches, walks, scratch, storage errors -/

namespace Sys2Proof.Claims

/-- No storage error waits anywhere. -/
def noErrors (s : State) : Prop := s.l2Errors = [] ∧ s.eccErrors = []

/-- The home slice holds the line of a DPA, with one of the grains of R263. -/
def LineHeld (s : State) (dpa : Nat) : Prop := ∃ l, s.l2Line dpa = some l ∧ (l.grain = 32 ∨ l.grain = 128 ∨ l.grain = 512)

/-- No L1 holds a line in two ways. -/
def L1Once (s : State) : Prop :=
  ∀ p k j a b, tabFind (s.plot p).l1 k = some a → tabFind (s.plot p).l1 j = some b → a.line = b.line → k = j

/-- The state of the directory and of an owner's L1 after a forwarded read, from the state of the grain in that L1 (R265): Modified becomes Owned and
the entry O, Exclusive becomes Shared and the entry S. -/
def forwarded : Option Coh → DirState × Option Coh
  | some .m => (.owned, some .o)
  | some .o => (.owned, some .o)
  | some .e => (.shared, some .s)
  | some .s => (.shared, some .s)
  | none => (.shared, none)

end Sys2Proof.Claims

/-- The directory's transitions for a line that its home slice holds and whose storage has no error (R264, R265). A read of an uncached grain makes the plot its
exclusive holder, of a shared one a sharer; an owner forwards, and downgrades. A write leaves the plot Modified and alone. An invalidated quad has no copy but
the requester's and acknowledges; the acknowledgement clears its bit, where no plot of the quad keeps a copy. A write-back of a Modified or Owned grain leaves the L1 and makes the line dirty. -/
def Sys2Proof.Claims.DirectoryTransitions : Prop :=
  (∀ (s : State) (p dpa : Nat), s.ev.a = p → s.ev.b = dpa → Sys2Proof.Claims.noErrors s → Sys2Proof.Claims.LineHeld s dpa →
    (isPool dpa = false → ∃ t, exec .directoryRead s = .next t ∧ SameMemory s t ∧ match s.dirEntry dpa with
      | none => t.dirEntry dpa = some { st := .exclusive, owner := p, sharers := quadBit p } ∧ t.l1State p dpa = some .e
      | some e => e.owner ≠ p ∨ e.st = .shared →
        let f := if e.st = .shared then (.shared, none) else Sys2Proof.Claims.forwarded (s.l1State e.owner dpa)
        t.dirEntry dpa = some { e with st := f.1, sharers := e.sharers ||| quadBit p } ∧ t.l1State p dpa = some .s ∧
        (e.st ≠ .shared → t.l1State e.owner dpa = f.2)) ∧
    (∃ t, exec .directoryWrite s = .next t ∧ SameMemory s t ∧ t.dirEntry dpa = some { st := .modified, owner := p, sharers := quadBit p } ∧
      t.l1State p dpa = some .m ∧ ∀ e q, Sys2Proof.Claims.L1Once s → s.dirEntry dpa = some e → q ≠ p → q < 384 → e.sharers.getLsbD (plotQuad q) = true →
        t.l1State q dpa = none)) ∧
  (∀ (s : State) (e : DirEntry) (l : L2Line), s.dirEntry s.ev.b = some e → s.l2Line s.ev.b = some l → (l.grain = 32 ∨ l.grain = 128 ∨ l.grain = 512) →
    (e.st = .shared ∨ e.owner ≠ s.ev.a → exec .ownerForward s = .next s) ∧
    (e.st ≠ .shared → e.owner = s.ev.a → let f := Sys2Proof.Claims.forwarded (s.l1State s.ev.a s.ev.b)
      ∃ t, exec .ownerForward s = .next t ∧ t.dirEntry s.ev.b = some { e with st := f.1 } ∧ t.l1State s.ev.a s.ev.b = f.2 ∧ SameMemory s t) ∧
    ((∃ p ∈ quadPlots s.ev.a, (s.l1State p s.ev.b).isSome = true) → exec .invalidationAck s = .next s) ∧
    ((∀ p ∈ quadPlots s.ev.a, s.l1State p s.ev.b = none) → ∃ t, exec .invalidationAck s = .next t ∧ t.dirEntry s.ev.b = some { e with sharers := e.sharers &&& ~~~ (BitVec.ofNat 96 (2 ^ s.ev.a)) } ∧
      t.plots = s.plots ∧ SameMemory s t)) ∧
  (∀ (s : State), Sys2Proof.Claims.L1Once s → Sys2Proof.Claims.LineHeld s s.ev.b →
    (∃ p ∈ quadPlots s.ev.a, (s.way? p (s.homePlot s.ev.b)).isSome = true) → ∃ t n, exec .quadInvalidate s = .next t ∧
    (∀ p ∈ quadPlots s.ev.a, ¬ (s.ev.flag = true ∧ p = s.ev.v.toNat) → t.l1State p s.ev.b = none) ∧
    (∀ p, p ∉ quadPlots s.ev.a ∨ (s.ev.flag = true ∧ p = s.ev.v.toNat) → t.plot p = s.plot p) ∧
    Sys2Proof.Claims.InAgenda t (s.cycle + n) .invalidationAck { a := s.ev.a, b := s.ev.b } ∧ SameMemory s t) ∧
  (∀ (s : State), s.l1State s.ev.a s.ev.b ≠ some .m → s.l1State s.ev.a s.ev.b ≠ some .o → exec .l1Writeback s = .next s) ∧
  (∀ (s : State) (l : L2Line), (s.l1State s.ev.a s.ev.b = some .m ∨ s.l1State s.ev.a s.ev.b = some .o) → Sys2Proof.Claims.noErrors s → s.l2Line s.ev.b = some l →
    (l.grain = 32 ∨ l.grain = 128 ∨ l.grain = 512) → Sys2Proof.Claims.L1Once s →
    ∃ t l', exec .l1Writeback s = .next t ∧ t.l1State s.ev.a s.ev.b = none ∧ t.l2Line s.ev.b = some l' ∧ l'.valid = l.valid ∧ l'.dir = l.dir ∧
      (∀ k, k < 16 → l'.dirty.getLsbD k = (l.dirty.getLsbD k || decide (32 * k / (Nat.max l.grain 64) = s.ev.b % 512 / Nat.max l.grain 64))) ∧ SameMemory s t)

namespace Sys2Proof.Claims

/-- The index of level k of a walk (R305). -/
def levelIndex (k va : Nat) : Nat := match k with
  | 0 => fld va 48 9
  | 1 => fld va 39 9
  | 2 => fld va 30 9
  | 3 => fld va 21 9
  | _ => fld va 16 5

/-- A place where a table may lie (R306). -/
def tableAt (s : State) (a : Nat) : Prop :=
  isHbm s a = true ∨ (0x00F800000000 ≤ a ∧ a < 0x00F800100000) ∨ (0x0004000000000000 ≤ a ∧ a < 0x0008000000000000)

/-- The address and the entry of level k that a walk reads in a table. -/
def entryAt (k va table : Nat) : Nat := table + 8 * levelIndex k va

/-- An entry that leads to a next table: valid, no leaf, its reserved bits zero, the table aligned to 4 KiB where it is one of L1 to L3 (R305, R306). -/
def leadsOn (k e : Nat) : Prop :=
  e.testBit 0 = true ∧ e.testBit 1 = false ∧ fld e 52 12 = 0 ∧ fld e 2 6 = 0 ∧ k < 4 ∧ (k < 3 → fld e 8 4 = 0)

/-- The walk of an address from a root reaches a table of level k. -/
inductive Reaches (s : State) (root va : Nat) : Nat → Nat → Prop
  | root : Reaches s root va 0 root
  | next (k table : Nat) : Reaches s root va k table → tableAt s table → leadsOn k (s.readNat (entryAt k va table) 8) →
      Reaches s root va (k + 1) (fld (s.readNat (entryAt k va table) 8) 8 44 * 256)

/-- TARGET of a leaf of 2^bits bytes names a page (R308). -/
def targetOk (s : State) (e bits : Nat) : Prop :=
  match fld e 13 2 with
  | 0 => fld e 21 27 % 2 ^ (bits - 16) = 0 ∧ (isHbm s (fld e 21 27 * 65536) = true ∨ (scratchOf (fld e 21 27 * 65536)).isSome = true)
  | 2 => fld e 21 27 * 2 ^ bits < 2 ^ 50
  | _ => True

/-- A leaf of level k that meets every condition of R309: SIZE as its level has it, no reserved bit, no reserved FMT or GRAIN, not SHRO with W, no
MGROUP outside MODEL, a TARGET as R308 has it. -/
def leafGood (s : State) (k e : Nat) : Prop :=
  fld e 2 2 = 4 - k ∧ e.testBit 63 = false ∧ fld e 7 2 ≠ 3 ∧ fld e 9 2 ≠ 3 ∧ ¬ (e.testBit 12 = true ∧ e.testBit 5 = true) ∧
  (fld e 48 15 ≠ 0 → fld e 13 2 = 1 ∧ fld e 15 2 = 2) ∧ targetOk s e (if k = 4 then 16 else if k = 3 then 21 else 30)

end Sys2Proof.Claims

/-- The walk of R305 to R309: what it finds at the table of level k that it reaches. A table in a wrong place, an entry with a fault of the last eight conditions
of R309 and a pointer at L4 are malformed (detail 1); an invalid entry and a leaf at L0 or L1 end it with detail 0; a good leaf ends it with its page of
64 KiB, 2 MiB or 1 GiB. The byte of a page lies where R308 says. -/
def Sys2Proof.Claims.PageWalks : Prop :=
  (∀ (s : State) (c va k table : Nat), Sys2Proof.Claims.Reaches s (s.ctx c).ptroot.toNat va k table → k < 5 →
    let a := Sys2Proof.Claims.entryAt k va table
    let e := s.readNat a 8
    (¬ Sys2Proof.Claims.tableAt s table → s.walk c va = .bad 1) ∧
    (Sys2Proof.Claims.tableAt s table → e.testBit 0 = false → s.walk c va = .bad 0) ∧
    (Sys2Proof.Claims.tableAt s table → e.testBit 0 = true → e.testBit 1 = true →
      (k < 2 → s.walk c va = .bad 0) ∧
      (2 ≤ k → ¬ Sys2Proof.Claims.leafGood s k e → s.walk c va = .bad 1) ∧
      (2 ≤ k → Sys2Proof.Claims.leafGood s k e → s.walk c va = .leaf a e (if k = 4 then 16 else if k = 3 then 21 else 30))) ∧
    (Sys2Proof.Claims.tableAt s table → e.testBit 0 = true → e.testBit 1 = false → ¬ Sys2Proof.Claims.leadsOn k e → s.walk c va = .bad 1)) ∧
  (∀ (s : State) (e bits o : Nat), (bits = 16 ∨ bits = 21 ∨ bits = 30) → Sys2Proof.Claims.targetOk s e bits →
    pteDpa s e bits o = some (match fld e 13 2 with
      | 0 => fld e 21 27 * 65536 + o
      | 2 => 0x0004000000000000 + fld e 21 27 * 2 ^ bits + o
      | _ => ((s.lease (fld e 36 12)).data.extractLsb' 128 64).toNat + fld e 21 15 * 2 ^ bits + o))

/-- A line that its slice does not hold is filled (R261): afterwards the slice holds it with the blocks of its page's grain valid. A plot's walk of an address that no
TLB translates fills its TLB with the leaf, its A bit set, and a walk without a good leaf enqueues a PAGE record (R305, R307, R311, R312). -/
def Sys2Proof.Claims.FillsAndWalks : Prop :=
  (∀ (s : State), Sys2Proof.Claims.noErrors s → s.l2Line s.ev.a = none → scratchOf s.ev.a = none →
    cacheWays (s.die (s.homeDie s.ev.a)) (homeSlice s.ev.a) ≠ [] →
    ∃ t l, exec .l2Fill s = .next t ∧ t.l2Line s.ev.a = some l ∧ l.line = s.ev.a / 512 ∧ l.grain = pteGrain (s.pageEntry s.ev.a) ∧
      (∀ k, k < 16 → l.valid.getLsbD k = decide (32 * k / Nat.max l.grain 64 = s.ev.a % 512 / Nat.max l.grain 64)) ∧ l.dirty = 0 ∧ l.dir = [] ∧ SameMemory s t) ∧
  (∀ (s : State) (p c va : Nat) (k : AccKind), s.ev.a = p → s.ev.b = c → s.ev.v.toNat = va → va < 2 ^ 57 → s.ev.ext = .acc k →
    tlbHit (s.plot p).tlb c va = none → tlbHit (s.die (plotDie p)).tlb c va = none → s.eccErrors = [] →
    (∀ a e bits, s.walk c va = .leaf a e bits → e < 2 ^ 64 → ∃ t x, exec .pageWalk s = .next t ∧ x ∈ (t.plot p).tlb ∧ x.2.ctx = c ∧ x.2.bits = bits ∧
      x.2.vpn = va / 2 ^ bits ∧ x.2.pte.getLsbD 19 = true ∧
      (∀ i, i < 64 → i ≠ 19 → i ≠ 20 → x.2.pte.getLsbD i = e.testBit i) ∧
      x.2.pte.getLsbD 20 = (e.testBit 20 || ((decide (k = .write) || decide (k = .atomic)) && e.testBit 5)) ∧ t.groups = s.groups) ∧
    (∀ d, s.walk c va = .bad d → ∃ t, exec .pageWalk s = .next t ∧
      Sys2Proof.Claims.Queued s t { kind := 1, ctx := c, src := 3, acc := k.code, plot := p, detail := d, addr := va } (.walk p c va k) ∧
      t.groups = s.groups ∧ t.plots = s.plots))

/-- Scratch ways (R270, R271): a write of L2SCR that changes REQ to a legal number starts a conversion, others are ignored; its end makes CUR what REQ asked
for, and what has changed hands reads zero. Frames (R274-R276, R315-R318): the next block of a fill arrives while the frame still caches the unit under a good
lease; counters halve; a DEAD frame's fill ends with its record. -/
def Sys2Proof.Claims.ScratchAndFrameTimes : Prop :=
  (∀ (s : State), let x := s.die s.ev.a; let n := s.ev.v.toNat % 8
    (x.scrBusy = true ∨ 5 ≤ n ∨ n = x.scrReq → exec .l2scrWrite s = .next s) ∧
    (x.scrBusy = false → n < 5 → n ≠ x.scrReq → ∃ t, exec .l2scrWrite s = .next t ∧ (t.die s.ev.a).scrReq = n ∧ (t.die s.ev.a).scrBusy = true ∧
      (t.die s.ev.a).scrCur = x.scrCur ∧ Sys2Proof.Claims.InAgenda t (s.cycle + 1536) .l2scrConvertDone { a := s.ev.a })) ∧
  (∀ (s : State), let d := s.ev.a; let x := s.die d
    (x.scrBusy = false → exec .l2scrConvertDone s = .next s) ∧
    (x.scrBusy = true → d < 4 → ∃ t, exec .l2scrConvertDone s = .next t ∧ (t.die d).scrCur = x.scrReq ∧ (t.die d).scrReq = x.scrReq ∧ (t.die d).scrBusy = false ∧
      (∀ a, let o := a - (0x00F000000000 + d * 0x01000000)
        0x00F000000000 + d * 0x01000000 ≤ a → Nat.min x.scrCur x.scrReq * 0x300000 ≤ o → o < Nat.max x.scrCur x.scrReq * 0x300000 → t.readByte a = 0) ∧
      (∀ a, a < 0x00F000000000 + d * 0x01000000 → isPool a = false → t.readByte a = s.readByte a))) ∧
  (∀ (s : State), let f := s.ev.a; let x := s.frame f
    (x.fill = none → exec .fillBlockArrival s = .next s) ∧
    (∀ w, x.fill = some w → x.tag ≠ some w.unit → ∃ t, exec .fillBlockArrival s = .next t ∧ t.frame f = { x with fill := none } ∧ SameMemory s t) ∧
    (∀ w k, x.fill = some w → x.tag = some w.unit → s.leaseAt (w.unit * 65536) = some k → leaseState (s.lease k).data = 1 → isHbm s (f * 65536) = true →
      let i := (w.first + w.done) % 1024
      ∃ t, exec .fillBlockArrival s = .next t ∧ (t.frame f).valid = x.valid ||| BitVec.ofNat 1024 (2 ^ i) ∧ (t.frame f).tag = x.tag ∧
        (t.frame f).fill = (if w.done + 1 < 1024 then some { w with done := w.done + 1 } else none) ∧
        (w.done + 1 < 1024 → Sys2Proof.Claims.InAgenda t (s.cycle + 2) .fillBlockArrival { a := f }) ∧
        (∀ n, n < 64 → t.rawByte (f * 65536 + 64 * i + n) = if x.valid.getLsbD i ∨ x.dead = true then s.rawByte (f * 65536 + 64 * i + n)
          else s.rawByte (w.unit * 65536 + 64 * i + n)))) ∧
  (∀ (s : State), tabSorted s.frames = true → ∃ t, exec .counterHalving s = .next t ∧
    (∀ f, t.frame f = { s.frame f with count := (s.frame f).count / 2 }) ∧ { t with frames := s.frames } = s) ∧
  (∀ (s : State), let x := s.frame s.ev.a
    (x.zeroing = none → exec .deadFilled s = .next s) ∧
    (∀ c, x.zeroing = some c → ∃ t, exec .deadFilled s = .next t ∧ t.frame s.ev.a = { x with zeroing := none } ∧
      Sys2Proof.Claims.Queued s t { kind := 12, src := 3, addr := s.ev.a * 65536 } .info))

/-- Errors in storage and the scrubber (R276, R360, R363, R381). An error waits until its storage is read; one in a line that the L2 does not hold is nothing. The
scrubber, which waits for a zero fill and for a channel's switch, corrects and counts a correctable block, and writes it back unless it has been written
since; an uncorrectable one is rebuilt from parity and counted, or, in a frame that caches nothing, poisoned and counted. -/
def Sys2Proof.Claims.StorageErrors : Prop :=
  (∀ (s : State) (dpa : Nat) (c : Bool), s.ev.ext = .error (.hbm dpa c) → isPool dpa = false →
    (isHbm s (dpa / 64 * 64) = false → exec .softError s = .next s) ∧
    (isHbm s (dpa / 64 * 64) = true → ∃ t, exec .softError s = .next t ∧ (dpa / 64, c) ∈ t.eccErrors ∧
      (∀ e, e.1 ≠ dpa / 64 → (e ∈ t.eccErrors ↔ e ∈ s.eccErrors)) ∧ { t with eccErrors := s.eccErrors } = s)) ∧
  (∀ (s : State) (dpa : Nat), s.ev.ext = .error (.l2 dpa) →
    (s.l2Line dpa = none → exec .softError s = .next s) ∧
    (∀ l, s.l2Line dpa = some l → exec .softError s = .next { s with l2Errors := insertNat s.l2Errors (dpa / 64) })) ∧
  (∀ (s : State), (∀ e ∈ s.eccErrors, s.hbmStack (e.1 / 1024) ≠ s.ev.a ∨ s.scrubRank e.1 ≠ (if s.ev.flag then s.ev.b else s.scrubPos s.tick)) →
    exec .scrubRead s = .next s) ∧
  (∀ (s : State) (b : Nat) (c : Bool), s.eccErrors = [(b, c)] → s.hbmStack (b / 1024) = s.ev.a →
    s.scrubRank b = (if s.ev.flag then s.ev.b else s.scrubPos s.tick) → isHbm s (b * 64) = true → (s.frame (b / 1024)).dead = false →
    let d := b / 1024 / s.dieFrames
    (∀ n, s.boot.switching = [] → (s.frame (b / 1024)).zeroing = some (s.cycle + (n + 1)) →
      exec .scrubRead s = .next (s.after (n + 1) .scrubRead { a := s.ev.a, b := s.scrubRank b, flag := true })) ∧
    (s.boot.switching = [] → (s.frame (b / 1024)).zeroing = none →
    (c = true → ∃ t, exec .scrubRead s = .next t ∧ t.eccErrors = [] ∧ (t.die d).rasCe = sat16 (s.die d).rasCe ∧
      Sys2Proof.Claims.InAgenda t (s.cycle + 1) .scrubWriteback { a := s.ev.a } ∧ SameMemory s t) ∧
    (c = false → s.boot.parity = true → ∃ t, exec .scrubRead s = .next t ∧ t.eccErrors = [] ∧ (t.die d).rasCwd = sat16 (s.die d).rasCwd ∧ SameMemory s t) ∧
    (c = false → s.boot.parity = false → (s.frame (b / 1024)).tag = none → ∃ t, exec .scrubRead s = .next t ∧ t.eccErrors = [] ∧
      (t.die d).rasUe = sat16 (s.die d).rasUe ∧ t.poisoned (b * 64) = true ∧ ∀ a, t.readByte a = s.readByte a))) ∧
  (∀ (s : State), tabFind s.scrub s.ev.a = none → exec .scrubWriteback s = .next s) ∧
  (∀ (s : State) (b v n : Nat), tabFind s.scrub s.ev.a = some (b, v, n) → (s.frame (b / 1024)).dead = false →
    ∃ t, exec .scrubWriteback s = .next t ∧ tabFind t.scrub s.ev.a = none ∧
      (tabGet 0 s.versions b ≠ n → SameMemory s t) ∧
      (tabGet 0 s.versions b = n → ∀ a, t.rawByte a = if a / 64 = b then BitVec.ofNat 8 (v / 256 ^ (a % 64)) else s.rawByte a))

/-- The directory, the fills of the L2, and walks (R261-R265, R305-R312).
Readings of the model's own, by log entry: the directory's entries and clean grains (65), the class of an MGROUP (19) and of an unmapped
directory request (104), a read by the owner itself (113), MODEL fills beyond the cap (21), latencies (11). -/
def Obligations.Caches : Prop :=
  Sys2Proof.Claims.DirectoryTransitions ∧ Sys2Proof.Claims.PageWalks ∧ Sys2Proof.Claims.FillsAndWalks

/-- Scratch ways, frames, errors in storage and the scrubber (R270-R276, R315-R318, R360, R363).
Readings of the model's own, by log entry: where a frame and a block lie (13), errors of lines and of storage (64, 65), retirement (63),
1,536 cycles of a conversion (11). -/
def Obligations.FramesAndStorage : Prop :=
  Sys2Proof.Claims.ScratchAndFrameTimes ∧ Sys2Proof.Claims.StorageErrors

/-! ## FRAMECTL, host answers, the standby PGC -/

namespace Sys2Proof.Claims

/-- FRAMECTL's outcome is due: FRAMESTAT at the completion (R336). -/
def FrameOutcome (t : State) (stat : Nat) : Prop := ∃ k, InAgenda t k .framectlComplete { a := stat }

/-- The frame holds dirty blocks that its lease does not let the device write back (R324, R336). -/
def stuck (s : State) (u : Nat) : Prop := ∃ f, s.frameFor u = some f ∧ (s.frame f).dirty ≠ 0 ∧ s.frameHeld f = true

/-- A 64 KiB unit of HBM, scratch, pool or peer memory. -/
def namesUnit (s : State) (u : Nat) : Prop :=
  isHbm s (u * 65536) = true ∨ (scratchOf (u * 65536)).isSome = true ∨ isPool (u * 65536) = true ∨ isPeer (u * 65536) = true

/-- No frame caches the unit. -/
def uncached (t : State) (u : Nat) : Prop := ∀ f ∈ t.unitFrames u, (t.frame f).tag ≠ some u

/-- A unit is cached at most once. -/
def tagsOnce (s : State) : Prop := ∀ f g u, (s.frame f).tag = some u → (s.frame g).tag = some u → f = g

/-- A unit is cached in a frame of its own set (R315). -/
def tagsHome (s : State) : Prop := ∀ f u, (s.frame f).tag = some u → f ∈ s.unitFrames u

/-- No frame is DEAD. -/
def noneDead (s : State) : Prop := ∀ f, (s.frame f).dead = false

/-- Every block that a cache holds dirty lies in a line that the L2 holds. -/
def dirtyHeld (s : State) : Prop := ∀ e ∈ s.under, (s.l2Line (e.1 * 64)).isSome = true

/-- The dirty blocks of frame f of `s` stand in the pool, at their places in unit u, with their metadata words (R317, R336). -/
def WrittenBack (s t : State) (f u : Nat) : Prop :=
  ∀ i, i < 1024 → (s.frame f).dirty.getLsbD i = true →
    (∀ n, n < 64 → t.rawByte (u * 65536 + 64 * i + n) = s.rawByte (f * 65536 + 64 * i + n)) ∧
    tabGet 0 t.desc (u * 1024 + i) = tabGet 0 s.desc (f * 1024 + i)

end Sys2Proof.Claims

/-- FRAMECTL by operation (R274, R332, R335, R336, R363). An operand that names no frame or unit ends with FRAMESTAT 1 and no effect; dirty blocks that no lease
lets out end a flush, an evict or a reserve with 2 and stay, and so does the release of a frame of a trace ring in force (R400); otherwise it ends with 0: the
frame is DEAD, reserved, released, host-biased or retired, or the unit has left its frame. A flush, an evict, a reserve and an evict of a group write the dirty
blocks back to the pool. The outcome is read in FRAMESTAT and lets the PGC's next word issue. -/
def Sys2Proof.Claims.FrameControl : Prop :=
  (∀ (s : State) (i : Instr), i ∈ [.frameMarkDead, .frameReserve, .frameRelease, .frameSetHostBias, .frameRetire] → s.hbmFrames ≤ s.ev.a → s.ev.flag = false →
    ∃ t, exec i s = .next t ∧ Sys2Proof.Claims.FrameOutcome t 1 ∧ { t with agenda := s.agenda } = s) ∧
  (∀ (s : State) (i : Instr), i ∈ [.frameFlush, .frameEvict, .frameDiscard] → ¬ Sys2Proof.Claims.namesUnit s s.ev.a →
    ∃ t, exec i s = .next t ∧ Sys2Proof.Claims.FrameOutcome t 1 ∧ { t with agenda := s.agenda } = s) ∧
  (∀ (s : State), ∃ t, exec .framectlInvalidOp s = .next t ∧ Sys2Proof.Claims.FrameOutcome t 1 ∧ { t with agenda := s.agenda } = s) ∧
  (∀ (s : State) (i : Instr), i ∈ [.frameFlush, .frameEvict] → Sys2Proof.Claims.namesUnit s s.ev.a → Sys2Proof.Claims.stuck s s.ev.a → Sys2Proof.Claims.noneDead s →
    ∃ t, exec i s = .next t ∧ Sys2Proof.Claims.FrameOutcome t 2 ∧ t.frames = s.frames) ∧
  (∀ (s : State), Sys2Proof.Claims.namesUnit s s.ev.a → ¬ Sys2Proof.Claims.stuck s s.ev.a → Sys2Proof.Claims.tagsOnce s →
    (∃ t, exec .frameFlush s = .next t ∧ Sys2Proof.Claims.FrameOutcome t 0 ∧ ∀ f, s.frameFor s.ev.a = some f →
      (Sys2Proof.Claims.noneDead s → t.frame f = { s.frame f with dirty := 0 }) ∧
      (Sys2Proof.Claims.noErrors s → Sys2Proof.Claims.noneDead s → isHbm s (f * 65536) = true → isPool (s.ev.a * 65536) = true →
        Sys2Proof.Claims.WrittenBack s t f s.ev.a)) ∧
    (∃ t, exec .frameEvict s = .next t ∧ Sys2Proof.Claims.FrameOutcome t 0 ∧ Sys2Proof.Claims.uncached t s.ev.a ∧ ∀ f, s.frameFor s.ev.a = some f →
      Sys2Proof.Claims.noErrors s → Sys2Proof.Claims.noneDead s → isHbm s (f * 65536) = true → isPool (s.ev.a * 65536) = true →
        Sys2Proof.Claims.WrittenBack s t f s.ev.a)) ∧
  (∀ (s : State), Sys2Proof.Claims.namesUnit s s.ev.a → Sys2Proof.Claims.tagsOnce s →
    ∃ t, exec .frameDiscard s = .next t ∧ Sys2Proof.Claims.FrameOutcome t 0 ∧ Sys2Proof.Claims.uncached t s.ev.a) ∧
  (∀ (s : State), s.ev.a < s.hbmFrames → let f := s.ev.a; let x := s.frame f
    (x.retired = false → ∃ t, exec .frameMarkDead s = .next t ∧ Sys2Proof.Claims.FrameOutcome t 0 ∧ t.frame f = { x with dead := true } ∧
      (Sys2Proof.Claims.dirtyHeld s → ∀ n, n < 65536 → t.rawByte (f * 65536 + n) = 0)) ∧
    (x.retired = false → x.tag = none → x.dirty = 0 → ∃ t, exec .frameReserve s = .next t ∧ Sys2Proof.Claims.FrameOutcome t 0 ∧ t.frame f = { x with reserved := true }) ∧
    (∀ u, x.retired = false → x.tag = some u → (x.dirty = 0 ∨ s.frameHeld f = false) → Sys2Proof.Claims.tagsOnce s → Sys2Proof.Claims.tagsHome s →
      Sys2Proof.Claims.noErrors s → Sys2Proof.Claims.noneDead s → isPool (u * 65536) = true → ∃ t, exec .frameReserve s = .next t ∧
        Sys2Proof.Claims.FrameOutcome t 0 ∧ (t.frame f).tag = none ∧ (t.frame f).valid = 0 ∧ (t.frame f).reserved = true ∧ Sys2Proof.Claims.WrittenBack s t f u) ∧
    (x.retired = false → x.dirty ≠ 0 → s.frameHeld f = true → ∃ t, exec .frameReserve s = .next t ∧ Sys2Proof.Claims.FrameOutcome t 2 ∧ t.frames = s.frames) ∧
    ((∀ d ∈ s.dies, d.2.trRing.toNat = 0 ∨ f < d.2.trRing.toNat / 65536 ∨ d.2.trRing.toNat / 65536 + 32 ≤ f) →
      ∃ t, exec .frameRelease s = .next t ∧ Sys2Proof.Claims.FrameOutcome t 0 ∧ t.frame f = { x with reserved := false }) ∧
    (∀ d ∈ s.dies, d.2.trRing ≠ 0 → d.2.trRing.toNat / 65536 ≤ f → f < d.2.trRing.toNat / 65536 + 32 →
      ∃ t, exec .frameRelease s = .next t ∧ Sys2Proof.Claims.FrameOutcome t 2 ∧ { t with agenda := s.agenda } = s) ∧
    (∃ t, exec .frameSetHostBias s = .next t ∧ Sys2Proof.Claims.FrameOutcome t 0 ∧ t.frame f = { x with bias := true } ∧ SameMemory s t) ∧
    (∃ t, exec .frameRetire s = .next t ∧ (s.ev.flag = false → Sys2Proof.Claims.FrameOutcome t 0) ∧ (t.frame f).retired = true ∧
      ((s.nvm.retiredFrames.filter (fun g => decide (s.hbmStack g = s.hbmStack f))).length < 4096 → f ∈ t.nvm.retiredFrames))) ∧
  (∀ (s : State), 2 ^ 15 ≤ s.ev.a → ∃ t, exec .frameEvictGroup s = .next t ∧ Sys2Proof.Claims.FrameOutcome t 1 ∧ { t with agenda := s.agenda } = s) ∧
  (∀ (s : State) (f : Nat), s.ev.a < 2 ^ 15 → f ∈ s.modelFrames → (s.frame f).mgroup = s.ev.a → (s.frame f).dirty ≠ 0 → s.frameHeld f = true →
    ∃ t, exec .frameEvictGroup s = .next t ∧ Sys2Proof.Claims.FrameOutcome t 2) ∧
  (∀ (s : State), s.ev.a < 2 ^ 15 → (∀ f ∈ s.modelFrames, (s.frame f).mgroup = s.ev.a → (s.frame f).dirty = 0 ∨ s.frameHeld f = false) →
    ∃ t, exec .frameEvictGroup s = .next t ∧ Sys2Proof.Claims.FrameOutcome t 0) ∧
  (∀ (s : State), s.ev.a < 2 ^ 15 → tabSorted s.frames = true → Sys2Proof.Claims.tagsOnce s → Sys2Proof.Claims.tagsHome s → Sys2Proof.Claims.noErrors s → Sys2Proof.Claims.noneDead s →
    (∀ f u, (s.frame f).tag = some u → isHbm s (f * 65536) = true ∧ isPool (u * 65536) = true) →
    ∃ t, exec .frameEvictGroup s = .next t ∧ ∀ f,
      let goes := f ∈ s.modelFrames ∧ (s.frame f).mgroup = s.ev.a ∧ ((s.frame f).dirty = 0 ∨ s.frameHeld f = false)
      (goes → (t.frame f).tag = none ∧ (t.frame f).valid = 0 ∧ ∀ u, (s.frame f).tag = some u → Sys2Proof.Claims.WrittenBack s t f u) ∧
      (¬ goes → t.frame f = s.frame f)) ∧
  (∀ (s : State) (g : Group), tabFind s.groups s.pgc.serving = some g → ∃ t, exec .framectlComplete s = .next t ∧ t.pgc = { s.pgc with frameStat := s.ev.a } ∧
    (g.hold = some .frameCtl → t.group s.pgc.serving = { g with hold := none }) ∧ (g.hold ≠ some .frameCtl → t.groups = s.groups) ∧
    SameGroupsBut s.pgc.serving s t ∧ SameMemory s t)

/-- A host answer of its context's generation becomes a HOST_ANSWER record; one of another generation counts in LATEANS (R337, R389). A trapped PGC's standby takes
over the queue with every record kept and starts anew at offset 0 of its memory (R333). -/
def Sys2Proof.Claims.AnswersAndTakeover : Prop :=
  (∀ (s : State), let c := (s.ev.f.extractLsb' 0 6).toNat
    (s.ev.f.extractLsb' 16 16 = (s.ctx c).gen → ∃ t, exec .hostAnswer s = .next t ∧
      Sys2Proof.Claims.Queued s t { kind := 9, ctx := c, src := 3, detail := if s.ev.f.getLsbD 32 then 1 else 0, addr := s.ev.v.toNat } .info) ∧
    (s.ev.f.extractLsb' 16 16 ≠ (s.ctx c).gen → exec .hostAnswer s = .next { s with pgc := { s.pgc with lateAns := s.pgc.lateAns + 1 } })) ∧
  (∀ (s : State), s.pgc.takeover = none → exec .standbyPgcTakeover s = .next s) ∧
  (∀ (s : State) (k : Nat), s.pgc.takeover = some k → ∃ t g, exec .standbyPgcTakeover s = .next t ∧ t.pgc = { s.pgc with serving := 1, takeover := none } ∧
    tabFind t.groups 1 = some g ∧ g.pgc = true ∧ g.frontier.map (fun e => e.addr) = [0x00F800000000] ∧ g.clause = none ∧ (∀ n, g.readS n = {}) ∧
    SameGroupsBut 1 s t ∧ SameMemory s t)

/-- FRAMECTL, host answers and the standby PGC (R332-R337).
Readings of the model's own, by log entry: FRAMECTL at the edges (61), retirement (63), the memory of both PGCs (114). -/
def Obligations.PagerControl : Prop :=
  Sys2Proof.Claims.FrameControl ∧ Sys2Proof.Claims.AnswersAndTakeover

/-! ## Bank swaps, the debug port, the instruction cache -/

namespace Sys2Proof.Claims

/-- The plot's slice restarts at this tick, and writes of TSLICE and SLOTPART take effect (R351). -/
def sliceRestarted (s t : State) (p : Nat) : Prop :=
  let x := s.plot p; let y := t.plot p
  y.sliceStart = s.tick ∧ y.expiryDeferred = false ∧ y.tslice = x.tsliceNext.getD x.tslice ∧ y.slotPart = x.slotPartNext.getD x.slotPart ∧
  y.tsliceNext = none ∧ y.slotPartNext = none

/-- Groups of the active bank of a plot. -/
def activeBank (s : State) (p : Nat) : List Nat := (s.plot p).slots.filterMap id

end Sys2Proof.Claims

/-- A slice that expires, and a swap that the host asks for (R351-R354). A halted group of the active bank defers either; with no set in the shadow bank, a pinned
team, no free image or a busy spill engine an expiry only restarts the slice, and a request does nothing; otherwise the banks are exchanged, once the words of
this cycle have issued: blackout in the 24 cycles after it, the outgoing groups in the shadow bank, the incoming ones active, every register of every group as it
was, the spill engine starts in the cycle after the blackout, and the placer looks at the slots again, as it does when a new SLOTPART takes effect (R65). For
groups without a pending result. -/
def Sys2Proof.Claims.BankSwaps : Prop :=
  ∀ (i : Instr), i ∈ [.timeSliceExpiry, .hostSwapRequest] → ∀ (s : State), let p := s.ev.a; let x := s.plot p; let out := Sys2Proof.Claims.activeBank s p
    ((∃ g ∈ out, (s.group g).halted = true) → exec i s =
      .next (s.modPlot p (fun y => if i = .timeSliceExpiry then { y with expiryDeferred := true } else { y with swapAsked := true }))) ∧
    ((∀ g ∈ out, (s.group g).halted = false) →
      (x.shadow = none ∨ s.pinned p = true ∨ x.spill ≠ .idle ∨ s.imageFor x out = none →
        (i = .hostSwapRequest → exec i s = .next (s.modPlot p (fun y => { y with swapAsked := false }))) ∧
        (i = .timeSliceExpiry → ∃ t, exec i s = .next t ∧ Sys2Proof.Claims.sliceRestarted s t p ∧ t.groups = s.groups ∧
          (t.plot p).slots = x.slots ∧ (t.plot p).shadow = x.shadow ∧
          (x.slotPartNext = none → t.agenda = s.agenda) ∧ (x.slotPartNext ≠ none → ∃ n, n ≤ s.cycle ∧ Sys2Proof.Claims.InAgenda t n .placeCluster {}))) ∧
      (∀ (inc : ResidentSet) (im : Nat), x.shadow = some inc → s.pinned p = false → x.spill = .idle → s.imageFor x out = some im →
        (∀ g ∈ out ++ inc.groups, (tabFind s.groups g).isSome = true) → (out ++ inc.groups).Nodup →
        (∀ g ∈ out ++ inc.groups, (s.group g).pend = []) → (∀ g ∈ inc.groups, (s.group g).log = [] ∧ s.mwaitOp g = none) →
        ∃ t, exec i s = .next t ∧ Sys2Proof.Claims.sliceRestarted s t p ∧ (t.plot p).shadow = none ∧ (t.plot p).spill = .drain ∧
          (t.plot p).outgoing = some { groups := out, image := some im } ∧ (t.plot p).blackout = s.cycle + 24 ∧
          (∀ n, n < 8 → (t.plot p).slots[n]? = some (inc.groups.find? (fun g => decide ((s.group g).slot = n)))) ∧
          (∀ g ∈ out, t.group g = { s.group g with loc := if (s.group g).loc = .gone then .gone else .shadow, swapcnt := ((s.group g).swapcnt + 1) % 2 ^ 32 }) ∧
          (∀ g ∈ inc.groups, t.group g = { s.group g with loc := if (s.group g).loc = .gone then .gone else .active, restoring := [] }) ∧
          (∀ g, g ∉ out ++ inc.groups → tabFind t.groups g = tabFind s.groups g) ∧
          Sys2Proof.Claims.InAgenda t (s.cycle + 25) .spillEngine { a := p, b := 1 } ∧ (∃ n, n ≤ s.cycle ∧ Sys2Proof.Claims.InAgenda t n .placeCluster {}) ∧ SameMemory s t))

/-- The spill engine (R355, R387). Idle, it does nothing. With the outgoing teams' buffers empty it saves the set, for 768 cycles and the time of the teams' shared
memory; then the set is spilled to its image and the incoming teams' state follows; then, where a set waits, the one that has waited longest is restored to the
shadow bank and the engine is idle. -/
def Sys2Proof.Claims.SpillSteps : Prop :=
  ∀ (s : State), let p := s.ev.a; let x := s.plot p
    (x.spill = .idle → exec .spillEngine s = .next s) ∧
    (x.spill = .drain → s.ev.flag = false → s.pgc.moving = [] → ∀ r, x.outgoing = some r → (∀ g ∈ r.groups, (s.team (s.group g).team).cb = [] ∧ (s.team (s.group g).team).commits = []) →
      (∀ g ∈ r.groups, ∀ k, k < 8 → ∃ dpa pte, (s.translateWalk (s.group g).ctx
        ((s.ctx (s.group g).ctx).spillArea.toNat + (2 * p + r.image.getD 0) * 0x80000 + 65536 * k) .write).2 = .ok dpa pte) →
      ∃ t n, exec .spillEngine s = .next t ∧ (t.plot p).spill = .save ∧ 768 ≤ n ∧ Sys2Proof.Claims.InAgenda t (s.cycle + n) .spillEngine { a := p, b := 2 } ∧
        ∀ g, (∀ d a y w k l, (s.group g).hold ≠ some (.mwait d a y w k l)) → tabFind t.groups g = tabFind s.groups g) ∧
    (x.spill = .save → s.ev.b = 2 → ∀ r, x.outgoing = some r → r.groups.Nodup →
      (∀ g ∈ r.groups, (tabFind s.groups g).isSome = true) →
      ∃ t n, exec .spillEngine s = .next t ∧ (t.plot p).spill = .restoreTeams ∧ (t.plot p).outgoing = none ∧ (t.plot p).spilled = x.spilled ++ [r] ∧
        (∀ g ∈ r.groups, t.group g = { s.group g with loc := if (s.group g).loc = .gone then .gone else .spilled (r.image.getD 0) }) ∧ (∀ g, g ∉ r.groups → tabFind t.groups g = tabFind s.groups g) ∧
        1 ≤ n ∧ Sys2Proof.Claims.InAgenda t (s.cycle + n) .spillEngine { a := p, b := 2 }) ∧
    (x.spill = .restoreTeams → s.ev.b = 2 → ∃ t, exec .spillEngine s = .next t ∧ t.groups = s.groups ∧ (t.plot p).spilled = x.spilled ∧
      (x.spilled = [] → (t.plot p).spill = .idle ∧ t.agenda = s.agenda) ∧
      (x.spilled ≠ [] → (t.plot p).spill = .restoreSet ∧ Sys2Proof.Claims.InAgenda t (s.cycle + 768) .spillEngine { a := p, b := 2 })) ∧
    (x.spill = .restoreSet → s.ev.b = 2 → ∀ r rest, x.spilled = r :: rest → r.groups.Nodup →
      (∀ g ∈ r.groups, (tabFind s.groups g).isSome = true) →
      ∃ t, exec .spillEngine s = .next t ∧ (t.plot p).spill = .idle ∧ (t.plot p).spilled = rest ∧ (t.plot p).shadow = some { groups := r.groups } ∧
        (∀ g ∈ r.groups, t.group g = { s.group g with loc := if (s.group g).loc = .gone then .gone else .shadow }) ∧ (∀ g, g ∉ r.groups → tabFind t.groups g = tabFind s.groups g))

/-- The debug port (R357-R359, R398, R402). A request for a context that the debugger does not own does nothing. A halt stops the group with its pending results
written; a resume lets it go on; a step lets a halted group run one clause. A debugger reads the value at that moment of a lane of a mapped register, of a uniform
register or of a mask of a halted group, and writes one; memory and every other register are as they were. For a request that names one group.
Readings of the model's own, by log entry: the debugger's scopes (70), breakpoints (33). -/
def Obligations.DebuggerControl : Prop :=
  (∀ (s : State) (i : Instr), i ∈ [.halt, .resume, .step] → s.regs.dbgOwn.getLsbD (fld s.ev.v.toNat 4 6) = false → exec i s = .next s) ∧
  (∀ (s : State) (gid : Nat) (g : Group), s.regs.dbgOwn.getLsbD (fld s.ev.v.toNat 4 6) = true → s.ev.v.extractLsb' 2 2 ≠ 2 → s.scopeGroups s.ev.v = [gid] →
    tabFind s.groups gid = some g →
    (∃ t h, exec .halt s = .next t ∧ tabFind t.groups gid = some h ∧ h.halted = true ∧ h.stepping = false ∧ h.pend = [] ∧ h.s = g.s ∧ h.f = g.f ∧
      h.clause = g.clause ∧ h.frontier = g.frontier ∧ h.rows = g.rows ∧ SameGroupsBut gid s t ∧ { t with groups := s.groups } = s) ∧
    (g.halted = true → g.queuedTres = [] → s.mwaitOp gid = none → (s.plot g.plot).expiryDeferred = false → (s.plot g.plot).swapAsked = false →
      ∃ t, exec .resume s = .next t ∧ tabFind t.groups gid = some { g with halted := false, stepping := false } ∧ SameGroupsBut gid s t ∧
        { t with groups := s.groups } = s) ∧
    (g.halted = false → exec .resume s = .next s) ∧
    (∃ t, exec .step s = .next t ∧ tabFind t.groups gid = some { g with stepping := g.halted || g.stepping } ∧ SameGroupsBut gid s t ∧
      { t with groups := s.groups } = s)) ∧
  (∀ (s : State) (gid : Nat) (g : Group), tabFind s.groups gid = some g →
    ((g.halted = false ∨ g.pgc = true ∨ s.regs.dbgOwn.getLsbD g.ctx = false) → ∀ r, s.debugReadReg gid r = none) ∧
    (g.halted = true → g.pgc = false → s.regs.dbgOwn.getLsbD g.ctx = true →
      (∀ n l, n < 16 * g.rows → l < 64 → s.debugReadReg gid (.v n l) = some ((laneOf (g.readV n) l).setWidth 64)) ∧
      (∀ n, n < 64 → s.debugReadReg gid (.s n) = some (g.readS n).val) ∧
      (∀ n, 1 ≤ n → n < 8 → s.debugReadReg gid (.k n) = some (g.readK 0 n)))) ∧
  (∀ (s : State) (g : Group), tabFind s.groups s.ev.a = some g →
    ((g.halted = false ∨ g.pgc = true ∨ s.regs.dbgOwn.getLsbD g.ctx = false) → ∃ t, exec .debuggerRegisterWrite s = .next t ∧
      (∀ k, tabFind t.groups k = tabFind s.groups k) ∧ { t with groups := s.groups } = s) ∧
    (g.halted = true → g.pgc = false → s.regs.dbgOwn.getLsbD g.ctx = true → g.ops = [] →
      (∀ n l, s.ev.ext = .reg (.v n l) → n < 16 * g.rows → l < 64 → (g.readV n).length = 64 → ∃ t h, exec .debuggerRegisterWrite s = .next t ∧
        tabFind t.groups s.ev.a = some h ∧ (∀ r k, k < 64 → laneOf (h.readV r) k = if r = n ∧ k = l then s.ev.v.setWidth 32 else laneOf (g.readV r) k) ∧
        h.s = g.s ∧ h.k = g.k ∧ SameGroupsBut s.ev.a s t ∧ { t with groups := s.groups } = s) ∧
      (∀ n, s.ev.ext = .reg (.s n) → n < 63 → ∃ t h, exec .debuggerRegisterWrite s = .next t ∧ tabFind t.groups s.ev.a = some h ∧
        (∀ r, h.readS r = if r = n then { val := s.ev.v, tag := false } else g.readS r) ∧ h.v = g.v ∧ h.k = g.k ∧ { t with groups := s.groups } = s) ∧
      (∀ n, s.ev.ext = .reg (.k n) → 1 ≤ n → n < 8 → ∃ t h, exec .debuggerRegisterWrite s = .next t ∧ tabFind t.groups s.ev.a = some h ∧
        (∀ b r, h.readK b r = if r = n then s.ev.v else g.readK b r) ∧ h.v = g.v ∧ h.s = g.s ∧ { t with groups := s.groups } = s)))

namespace Sys2Proof.Claims

/-- The turn of plot p is over with nothing issued: STALL(r) counts one and nothing else does (R404, R406). -/
def Charges (s t : State) (p r : Nat) : Prop :=
  (∀ k, tabGet 0 (t.plot p).stall k = if k = r then (tabGet 0 (s.plot p).stall k + 1) % 2 ^ 64 else tabGet 0 (s.plot p).stall k) ∧
  { t.plot p with stall := (s.plot p).stall } = s.plot p ∧ (∀ q, q ≠ p → t.plot q = s.plot q) ∧
  t.todo = s.todo.drop 1 ∧ t.groups = s.groups ∧ SameMemory s t

/-- The group's slot holds a hold for which R404 and the rule of its form name a reason. -/
def heldReason : Hold → Option Nat
  | .flags _ => some 0
  | .tile _ => some 1
  | .barPrev .. | .barDrain .. | .barWait .. => some 2
  | .mwait .. => some 3
  | .racq .. => some 5
  | _ => none

end Sys2Proof.Claims

/-- The tick stop (R401), the trace rings (R400), slots that stay empty and the counts of eligible groups (R404, R406). Arming keeps a tick that has not passed and
puts a passed one at the next period; an armed stop stops every domain; the release restarts them and disarms. A ring is taken only as 32 reserved frames of HBM,
or 0. A turn with nothing to issue charges one reason, the first of R404 that applies: NO_GROUP, OTHER in a blackout, HALT, FAULT_HELD, the reason of its hold; a
cycle's eligible groups enter one of ELIG1 to ELIG8, and ELIG0 is what CYCLE leaves of these. The reading of a tick that stands now in the second cycle of its
period is the model's. -/
def Sys2Proof.Claims.StopsRingsSlots : Prop :=
  (∀ (s : State), let n := s.regs.tstopt.toNat
    (s.tick < n → ∃ t, exec .tstopArm s = .next t ∧ t.regs = { s.regs with arm := true } ∧ t.agenda = s.agenda) ∧
    (n < s.tick ∨ (n = s.tick ∧ s.cycle % 2 = 1) → ∃ t, exec .tstopArm s = .next t ∧ t.regs = { s.regs with arm := true, tstopt := BitVec.ofNat 64 (s.tick + 1) } ∧
      t.agenda = s.agenda) ∧
    (n = s.tick → s.cycle % 2 = 0 → ∃ t, exec .tstopArm s = .next t ∧ t.regs = { s.regs with arm := true } ∧
      t.agenda = { due := s.cycle, what := .tickStop } :: s.agenda)) ∧
  (∀ (s : State), exec .tickStop s = .next (if s.regs.arm then { s with regs := { s.regs with stopped := true } } else s)) ∧
  (∀ (s : State), s.regs.haltReqs = [] → exec .tstopRelease s = .next { s with regs := { s.regs with stopped := false, arm := false } }) ∧
  (∀ (s : State) (v : DWord), s.regs.haltReqs = [v] → v.extractLsb' 0 2 = 0 → ∃ t, exec .tstopRelease s = .next t ∧ t.regs.stopped = false ∧ t.regs.arm = false ∧
    t.regs.haltReqs = [] ∧ Sys2Proof.Claims.InAgenda t s.cycle .halt { v := v }) ∧
  (∀ (s : State), let v := s.ev.v.toNat
    let ok := v = 0 ∨ (v % 2 ^ 21 = 0 ∧ ∀ i, i < 32 → v / 65536 + i < s.hbmFrames ∧ (s.frame (v / 65536 + i)).reserved = true)
    (s.ev.a < 6 → ok → exec .trringWrite s = .next (s.modDie s.ev.a (fun x => { x with trRing := s.ev.v }))) ∧
    (¬ ok → exec .trringWrite s = .next s)) ∧
  (∀ (s : State), s.todo.head? ≠ some s.ev.a → exec .emptySlot s = .next s) ∧
  (∀ (s : State) (p : Nat) (rest : List Nat), s.ev.a = p → s.todo = p :: rest → p ≠ 385 → s.slotGroup p = none →
    ∃ t, exec .emptySlot s = .next t ∧ t.todo = rest ∧ t.groups = s.groups ∧ SameMemory s t ∧ (p < 384 → Sys2Proof.Claims.Charges s t p 12)) ∧
  (∀ (s : State) (p gid : Nat) (g : Group) (rest : List Nat), s.ev.a = p → s.todo = p :: rest → p < 384 → s.slotGroup p = some gid → tabFind s.groups gid = some g →
    g.plot = p → (∀ c, g.clause = some c → c.second = false) →
    let dark := s.cycle ≤ (s.plot p).blackout ∧ 0 < (s.plot p).blackout
    let still := g.halted = true ∧ g.stepping = false
    (g.loc ≠ .active → ∃ t, exec .emptySlot s = .next t ∧ Sys2Proof.Claims.Charges s t p 12) ∧
    (g.loc = .active → dark → ∃ t, exec .emptySlot s = .next t ∧ Sys2Proof.Claims.Charges s t p 15) ∧
    (g.loc = .active → ¬ dark → still → ∃ t, exec .emptySlot s = .next t ∧ Sys2Proof.Claims.Charges s t p 13) ∧
    (g.loc = .active → ¬ dark → ¬ still → s.faultHeld gid g = true → ∃ t, exec .emptySlot s = .next t ∧ Sys2Proof.Claims.Charges s t p 10) ∧
    (∀ h r, g.loc = .active → ¬ dark → ¬ still → s.faultHeld gid g = false → g.hold = some h → Sys2Proof.Claims.heldReason h = some r →
      ∃ t, exec .emptySlot s = .next t ∧ Sys2Proof.Claims.Charges s t p r)) ∧
  (∀ (s : State) (rest : List Nat), s.ev.a = 385 → s.todo = 385 :: rest → tabSorted s.plots = true → ∃ t, exec .emptySlot s = .next t ∧ t.todo = rest ∧
    t.groups = s.groups ∧ ∀ p x, tabFind s.plots p = some x →
      let n := (x.slots.filter (fun y => match y with
        | some gid => (match tabFind s.groups gid with | some g => s.wouldIssue gid g | none => false) | none => false)).length
      t.plot p = { x with eligNow := if n = 0 then x.eligNow else n }) ∧
  (∀ (s : State) (p k : Nat), tabSorted s.plots = true →
    let n := (s.plot p).eligNow
    tabGet 0 (s.foldElig.plot p).elig k = (if k = n ∧ n ≠ 0 then (tabGet 0 (s.plot p).elig k + 1) % 2 ^ 64 else tabGet 0 (s.plot p).elig k)) ∧
  (∀ (s : State) (p n : Nat), n < 8 → s.plotCount p (0x041 + n) = tabGet 0 (s.plot p).elig (n + 1)) ∧
  (∀ (s : State) (p : Nat), s.plotCount p 0x040 < 2 ^ 64 ∧
    (s.plotCount p 0x040 + ((s.plot p).elig.filter (fun e => decide (e.1 ≠ 0))).foldl (fun m e => m + e.2) 0) % 2 ^ 64 = s.plotCycle p % 2 ^ 64) ∧
  (∀ (s : State) (p : Nat) (rest : List Nat) (t : State), s.ev.a = p → s.todo = p :: rest → s.unitTurn p = .idle t → exec .emptySlot s = .next t)

/-- A line that a plot fetches arrives (R54, R405): its sixteen words and their header marks as memory holds them, for the context's virtual line; the request
ends, and the cache keeps at most 512 lines. A line that no plot waits for changes nothing. A page without the right to execute is PROT, cause 19, for the
groups that wait (R309); one under a `pmove` (R338), or one whose block memory has yet to bring or to zero (R275, R316), is tried again. Where no breakpoint map is set, for a page outside the pool that has no error. -/
def Sys2Proof.Claims.InstructionLines : Prop :=
  ∀ (s : State) (p c va : Nat), s.ev.a = p → s.ev.b = c → s.ev.v.toNat / 64 * 64 = va →
    (((s.plot p).fetching.contains (c, va / 64)) = false → exec .icacheFill s = .next s) ∧
    ((s.plot p).fetching.contains (c, va / 64) = true →
      (s.isMoving c va = true → exec .icacheFill s = .next (s.after 1 .icacheFill { a := p, b := c, v := s.ev.v })) ∧
      (s.isMoving c va = false → ∀ m,
        (s.translate p c va .fetch = (m, .perm) → ∃ t, exec .icacheFill s = .next t ∧
          (c, va / 64, { cls := 7, cause := 19, addr := BitVec.ofNat 64 va : Failure }) ∈ (t.plot p).fetchFail ∧ (c, va / 64) ∉ (t.plot p).fetching ∧ t.groups = m.groups) ∧
        (∀ dpa pte n, s.translate p c va .fetch = (m, .ok dpa pte) → m.blockWait dpa = some (n + 1) →
          exec .icacheFill s = .next (m.after (n + 1) .icacheFill { a := p, b := c, v := s.ev.v })) ∧
        (∀ dpa pte, s.translate p c va .fetch = (m, .ok dpa pte) → Sys2Proof.Claims.FramesAtRest m → m.eccErrors = [] → m.poisoned dpa = false →
          (cacheable dpa pte = false ∨ (m.l2Errors = [] ∧ isPool dpa = false)) →
          fld (tabGet 0 m.regs.brkMap c).toNat 0 57 = 0 → ∃ t l, exec .icacheFill s = .next t ∧ l ∈ (t.plot p).icache ∧ l.ctx = c ∧ l.vline = va / 64 ∧
            (∀ i, i < 16 → l.words[i]? = some (BitVec.ofNat 32 (m.readNat (dpa + 4 * i) 4))) ∧
            (descFmt (m.readDesc dpa) = 0 → l.marks = (m.readDesc dpa).extractLsb' 16 16) ∧ l.checked = hasMeta dpa ∧ l.brk = 0 ∧
            (c, va / 64) ∉ (t.plot p).fetching ∧ ((m.plot p).icache.length ≤ 512 → (t.plot p).icache.length ≤ 512) ∧ SameMemory m t)))

/-- Swaps of the banks of a plot, and the spill engine (R351-R355, R387).
Readings of the model's own, by log entry: the bytes of a spill image (68), swaps of halted groups (69), SWAPCNT wraps (115), which set is
loaded first (42). -/
def Obligations.BankSwapping : Prop :=
  Sys2Proof.Claims.BankSwaps ∧ Sys2Proof.Claims.SpillSteps

/-- The tick stop, trace rings, empty slots, and the lines of the instruction cache (R54, R400, R401, R404, R405).
Readings of the model's own, by log entry: the tick stop (71), the instruction cache (72), the lines of a failed fetch (32), the counting of
clause fetches (31), TRTAIL (122). -/
def Obligations.StopsRingsLines : Prop :=
  Sys2Proof.Claims.StopsRingsSlots ∧ Sys2Proof.Claims.InstructionLines

/-! ## Votes, culls, regrafts, field tests -/

namespace Sys2Proof.Claims

/-- The table of R373: the state (0 OK, 1 SUSPECT, 2 ACCUSE) and the misses after a period, from the state and the misses before and what the period
brought: 0 one good heartbeat, 1 none, 2 a malformed one, 3 babbling. -/
def afterPeriod (st miss sight : Nat) : Nat × Nat :=
  let more := Nat.min (miss + 1) 4
  match sight, st with
  | 0, 2 => (2, 0)
  | 0, _ => (0, 0)
  | 3, _ => (2, miss)
  | 2, 0 => (1, miss)
  | 2, 2 => (2, miss)
  | _, 2 => (2, more)
  | _, _ => (if 4 ≤ more then 2 else if 2 ≤ more then 1 else st, more)

/-- What a period brought (R373). -/
def sight (x : Nbr) : Nat := if x.babble = true ∨ 2 < x.good + x.bad ∨ 16 < x.flits then 3 else if 0 < x.bad then 2 else if 0 < x.good then 0 else 1

/-- A flit of a kind: its CRC checks and no reserved bit is set (R371). -/
def goodFlit (f : BitVec 256) (kind : Nat) : Prop :=
  crc32c 0 (natBytes 28 (f.toNat % 2 ^ 224)) = f.extractLsb' 224 32 ∧ f.extractLsb' 18 11 = 0 ∧ f.extractLsb' 36 12 = 0 ∧ (f.extractLsb' 29 3).toNat = kind

/-- Only what one plot keeps of one neighbour has changed, and it is `x`. -/
def NbrIs (s t : State) (p n : Nat) (x : Nbr) : Prop :=
  tabGet {} (t.plot p).nbr n = x ∧ (∀ k, k ≠ n → tabGet {} (t.plot p).nbr k = tabGet {} (s.plot p).nbr k) ∧ (∀ q, q ≠ p → t.plot q = s.plot q) ∧
  { t with plots := s.plots, agenda := s.agenda } = s

/-- More than half of the plots named are among the voters. -/
def moreThanHalf (live voters : List Nat) : Prop := live.length < 2 * (live.filter (fun q => voters.contains q)).length

/-- A flit that came by link `n` counts for the neighbour on it, when it bears that neighbour's id (R373). -/
def flitCounted (s : State) (p n src : Nat) : State :=
  if plotNbr p n = some src then
    let x := tabGet {} (s.plot p).nbr n
    s.modPlot p (fun y => { y with nbr := tabSet {} y.nbr n { x with flits := x.flits + 1 } })
  else s

/-- A flit that a plot sends to every unit counts at each neighbour of the plot that votes, and nothing else changes (R373). -/
def FlitHeard (s t : State) (src : Nat) : Prop :=
  { t with plots := s.plots } = s ∧ ∀ q, { t.plot q with nbr := (s.plot q).nbr } = s.plot q ∧
    ∀ n, let x := tabGet {} (s.plot q).nbr n
      tabGet {} (t.plot q).nbr n = if q ∈ plotNbrs src ∧ s.votes q = true ∧ n = dirOf q src then { x with flits := x.flits + 1 } else x

/-- An announcement that has come `b` links from its sender: the sender's own neighbours count it (R373, R374). -/
def CastHeard (s t : State) (src : Nat) : Prop := if s.ev.b ≤ 1 then FlitHeard s t src else t = s

/-- A flit that a plot sends to every unit is due at each after as many ticks as the unit is links away, with that number; where no plot is culled (R371). -/
def CastTo (s t : State) (p : Nat) (i : Instr) (f : BitVec 256) : Prop :=
  InAgenda t (2 * (s.tick + 1)) i { a := p, b := 1, f := f } ∧
  (tabSorted s.plots = true → (∀ q, (s.plot q).culled = false) → ∀ q, q < 384 → q ≠ p →
    let n := hopsXY p q
    InAgenda t (2 * (s.tick + n)) i { a := p, b := n, f := f })

/-- A quad stays withdrawn while some plot of it waits for its test (R379). -/
def QuadAfterTest (s t : State) (p : Nat) : Prop :=
  let q := plotQuad p
  ((∀ r ∈ quadPlots q, (t.plot r).withdrawn = false ∨ (t.plot r).selfFail = true) → (t.quad q).withdrawn = false) ∧
  ((∃ r ∈ quadPlots q, (t.plot r).withdrawn = true ∧ (t.plot r).selfFail = false) → t.quad q = s.quad q)

end Sys2Proof.Claims

/-- Heartbeats and accusations (R371-R374). A flit bears the health of its sender and of its sender's die. A plot in service sends one heartbeat to each live neighbour, a tick away, and counts its period; a heartbeat that
arrives is good, malformed or a sign of babbling; each period moves a neighbour by the table of R373. An accusation and its withdrawal change the
accusers, and the first majority announces the cull 512 ticks ahead. A flit of a culled plot is dropped and counted; every other counts for the
neighbour that sent it. -/
def Sys2Proof.Claims.HeartbeatsAndVotes : Prop :=
  (∀ (s : State) (p kind subj tick result : Nat) (a : BitVec 64), p < 512 → kind < 8 → subj < 512 → result < 2 ^ 32 → (s.plot p).hbSeq < 2 ^ 16 →
    let f := s.flit p kind subj tick result a
    Sys2Proof.Claims.goodFlit f kind ∧ (f.extractLsb' 0 9).toNat = p ∧ (f.extractLsb' 9 9).toNat = subj ∧ (f.extractLsb' 48 16).toNat = (s.plot p).hbSeq ∧
    (f.extractLsb' 64 64).toNat = tick % 2 ^ 64 ∧ (f.extractLsb' 128 32).toNat = result ∧ f.extractLsb' 160 64 = a ∧ f.getLsbD 35 = (s.plot p).selfFail ∧
    f.getLsbD 34 = s.boot.hot.contains (plotDie p) ∧ f.getLsbD 33 = decide ((s.die (plotDie p)).rasUe ≠ 0) ∧
    f.getLsbD 32 = decide ((s.die (plotDie p)).rasCe + (s.die (plotDie p)).rasCwd ≠ (s.plot p).hbCe)) ∧
  (∀ (s : State), let p := s.ev.a
    (s.inService p = false → exec .heartbeatSend s = .next s) ∧
    (s.inService p = true → (s.plot p).failed = 0 → ∃ t, exec .heartbeatSend s = .next t ∧ t.plot p =
        { s.plot p with hbSeq := ((s.plot p).hbSeq + 1) % 65536, hbCe := (s.die (plotDie p)).rasCe + (s.die (plotDie p)).rasCwd } ∧
      (∀ q, q ≠ p → t.plot q = s.plot q) ∧ t.groups = s.groups ∧ t.agenda.length = s.agenda.length + (s.liveNbrs p).length ∧
      ∀ q ∈ s.liveNbrs p, Sys2Proof.Claims.InAgenda t (2 * (s.tick + 1)) .heartbeat { a := q, b := dirOf q p, f := s.flit p 0 0 s.tick 0 0 })) ∧
  (∀ (s : State) (q : Nat), let p := s.ev.a; let n := s.ev.b; let f := s.ev.f; let x := tabGet {} (s.plot p).nbr n
    plotNbr p n = some q →
    (s.votes p = false → exec .heartbeat s = .next s) ∧
    (s.votes p = true → (s.plot q).culled = true → exec .heartbeat s = .next (s.modPlot p (fun y => { y with cullDrop := (y.cullDrop + 1) % 2 ^ 32 }))) ∧
    (s.votes p = true → (s.plot q).culled = false → let ok := Sys2Proof.Claims.goodFlit f 0 ∧ (f.extractLsb' 0 9).toNat = q
      (¬ ok → ∃ t, exec .heartbeat s = .next t ∧ Sys2Proof.Claims.NbrIs s t p n { x with flits := x.flits + 1, bad := x.bad + 1 }) ∧
      (ok → f.getLsbD 35 = true → ∃ t, exec .heartbeat s = .next t ∧ Sys2Proof.Claims.NbrIs s t p n { x with flits := x.flits + 1, babble := true }) ∧
      (ok → f.getLsbD 35 = false → ∃ t, exec .heartbeat s = .next t ∧ Sys2Proof.Claims.NbrIs s t p n
        { x with flits := x.flits + 1, good := x.good + 1, lastSeq := some ((f.extractLsb' 48 16).toNat, s.tick / 4096),
                 babble := match x.lastSeq with
                   | some (v, per) => x.babble || decide ((f.extractLsb' 48 16).toNat ≠ (v + (s.tick / 4096 - per)) % 65536)
                   | none => x.babble }))) ∧
  (∀ (s : State), s.votes s.ev.a = false → exec .periodEvaluation s = .next s) ∧
  (∀ (s : State), s.votes s.ev.a = true → ∃ t, exec .periodEvaluation s = .next t ∧ ∀ n q, n < 4 → plotNbr s.ev.a n = some q → (s.plot q).culled = false →
    let x := tabGet {} (s.plot s.ev.a).nbr n; let y := tabGet {} (t.plot s.ev.a).nbr n
    let clean := if x.st = 2 ∧ Sys2Proof.Claims.sight x = 0 then x.clean + 1 else 0
    y.good = 0 ∧ y.bad = 0 ∧ y.flits = 0 ∧ y.babble = false ∧
    (clean ≠ 256 → x.st < 3 → (y.st, y.miss) = Sys2Proof.Claims.afterPeriod x.st x.miss (Sys2Proof.Claims.sight x)) ∧ (clean ≠ 256 → y.clean = clean) ∧
    (clean = 256 → y.st = 0 ∧ y.miss = 0 ∧ y.clean = 0 ∧ s.ev.a ∉ y.accusers) ∧ (x.st ≠ 2 → y.st = 2 → s.ev.a ∈ y.accusers)) ∧
  (∀ (i : Instr) (kind : Nat), (i = .accuse ∧ kind = 1) ∨ (i = .withdraw ∧ kind = 2) → ∀ (s : State), let p := s.ev.a; let f := s.ev.f
    let src := (f.extractLsb' 0 9).toNat; let subj := (f.extractLsb' 9 9).toNat; let n := dirOf p subj; let x := tabGet {} (s.plot p).nbr n
    let heard := s.votes p = true ∧ Sys2Proof.Claims.goodFlit f kind ∧ subj ∈ plotNbrs p ∧ src ∈ plotNbrs subj
    (¬ heard → exec i s = .next (Sys2Proof.Claims.flitCounted s p s.ev.b src)) ∧
    (heard → (s.plot src).culled = true → exec i s = .next (s.modPlot p (fun y => { y with cullDrop := (y.cullDrop + 1) % 2 ^ 32 }))) ∧
    (heard → (s.plot src).culled = false → (s.plot subj).culled = false → ∃ t, exec i s = .next t ∧
      (∀ a, a ∈ (tabGet {} (t.plot p).nbr n).accusers ↔ if kind = 1 then a ∈ x.accusers ∨ a = src else a ∈ x.accusers ∧ a ≠ src) ∧
      (tabGet {} (t.plot p).nbr n).st = x.st ∧
      (kind = 1 → ¬ Sys2Proof.Claims.moreThanHalf (s.liveNbrs subj) x.accusers → Sys2Proof.Claims.moreThanHalf (s.liveNbrs subj) (insertNat x.accusers src) →
        p < 384 → Sys2Proof.Claims.CastTo s t p .cull (s.flit p 3 subj (s.tick + 512) 0 0)) ∧
      (kind = 2 ∨ ¬ Sys2Proof.Claims.moreThanHalf (s.liveNbrs subj) (insertNat x.accusers src) → t.agenda = s.agenda)))

/-- The cull (R367, R373-R375, R378). Every unit keeps the smallest cull tick it hears of; at that tick the plot is culled, with its caches and its roles, the grains
that it holds in M or O are poisoned, the teams of every instance with a team on it end, the commands that it issued stop, its neighbours hold that they have no
neighbour there, a self-test of 2^25 ticks starts, and the operating time is written; a plot regrafted twice within 24 hours is retired instead. A plot whose core
stops holds nothing that goes on; one that babbles runs on. -/
def Sys2Proof.Claims.Culls : Prop :=
  (∀ (s : State), let f := s.ev.f; let p := (f.extractLsb' 9 9).toNat; let k := (f.extractLsb' 64 64).toNat
    let heard := Sys2Proof.Claims.goodFlit f 3 ∧ p < 384 ∧ (s.plot p).culled = false
    let src := (f.extractLsb' 0 9).toNat
    (¬ heard → ∃ t, exec .cull s = .next t ∧ Sys2Proof.Claims.CastHeard s t src) ∧
    (heard → ∀ u, (s.plot p).cullAt = some u → u ≤ k → ∃ t, exec .cull s = .next t ∧ Sys2Proof.Claims.CastHeard s t src) ∧
    (heard → (∀ u, (s.plot p).cullAt = some u → k < u) → ∃ t m, Sys2Proof.Claims.CastHeard s m src ∧ exec .cull s = .next t ∧
      t.plot p = { m.plot p with cullAt := some k } ∧ (∀ q, q ≠ p → t.plot q = m.plot q) ∧ Sys2Proof.Claims.InAgenda t (2 * k) .cullTick { a := p } ∧ t.groups = s.groups)) ∧
  (∀ (s : State), ((s.plot s.ev.a).cullAt = none ∨ (s.plot s.ev.a).culled = true ∨ (∃ k, (s.plot s.ev.a).cullAt = some k ∧ s.tick < k)) →
    exec .cullTick s = .next s) ∧
  (∀ (s : State) (p k : Nat), s.ev.a = p → p < 384 → (s.plot p).cullAt = some k → k ≤ s.tick → (s.plot p).culled = false → s.cmds = [] → s.teamsOn p = [] →
    (s.die (plotDie p)).trRing = 0 → tabGet [] s.nvm.regrafts p = [] →
    (∀ q ∈ plotNbrs p, (s.plot q).culled = false ∧ ∃ r ∈ s.liveNbrs q, r ≠ p) →
    ∃ t, exec .cullTick s = .next t ∧ (t.plot p).culled = true ∧ (t.plot p).l1 = [] ∧ t.inService p = false ∧
      (∀ q ∈ plotNbrs p, tabGet {} (t.plot q).nbr (dirOf q p) = { st := 3 }) ∧ t.nvm.opTime = s.boot.opBase + s.tick ∧
      (∃ r, Sys2Proof.Claims.InAgenda t (2 * (s.tick + 2 ^ 25)) .selfTestEnd { a := p, flag := r }) ∧
      ∀ d j l e, tabFind (t.die d).l2 j = some l → e ∈ l.dir → e.2.owner = p → e.2.st = .shared) ∧
  (∀ (s : State) (p k : Nat), s.ev.a = p → p < 384 → (s.plot p).cullAt = some k → k ≤ s.tick → (s.plot p).culled = false →
    ∃ t, exec .cullTick s = .next t ∧ (t.plot p).culled = true ∧
      (∀ tid x, tabFind s.teams tid = some x → x.live = true → x.plot = p → (s.cluster x.cluster).live = true → tid ∈ (s.cluster x.cluster).teams →
        ((s.cluster x.cluster).handler = true → (s.cluster x.cluster).teams = [tid]) →
        (t.team tid).live = false) ∧
      (∀ id c, tabFind s.cmds id = some c → c.plot = p → tabFind t.cmds id = none) ∧
      (∀ a b, tabGet [] s.nvm.regrafts p = [a, b] → s.boot.opBase + s.tick ≤ a + 86400000000000 → s.boot.opBase + s.tick ≤ b + 86400000000000 →
        (s.plot p).stranded = false → p ∈ t.nvm.retiredPlots ∧ Msg.event 3 p ∈ t.outbox ∧ (t.plot p).testEnd = (s.plot p).testEnd)) ∧
  (∀ (s : State) (p k : Nat), s.ev.a = p → p < 384 → (s.plot p).cullAt = some k → k ≤ s.tick → (s.plot p).culled = false → s.cmds = [] → s.teamsOn p = [] →
    (s.die (plotDie p)).walkers = [] → (s.die (plotDie p)).pubQueue = [] → (s.die (plotDie p)).trRing = 0 → (∀ f, (s.frame f).dead = false) →
    (∀ q ∈ plotNbrs p, (s.plot q).culled = false ∧ ∃ r ∈ s.liveNbrs q, r ≠ p) →
    ∃ t, exec .cullTick s = .next t ∧ ∀ j l i c, tabFind (s.plot p).l1 j = some l → tabFind l.sect i = some c → (c = .m ∨ c = .o) →
      t.poisoned (l.line * 512 + 32 * i) = true) ∧
  (∀ (s : State), s.ev.flag = true → exec .plotFailure s = .next (s.modPlot s.ev.a (fun x => { x with failed := 2 }))) ∧
  (∀ (s : State), s.ev.flag = false → tabSorted s.groups = true → ∃ t, exec .plotFailure s = .next t ∧ (t.plot s.ev.a).failed = 1 ∧ (∀ q, q ≠ s.ev.a → t.plot q = s.plot q) ∧
    (∀ g, tabFind t.groups g = (tabFind s.groups g).map (fun y => if y.plot = s.ev.a ∧ y.pgc = false then
      { y with loc := .gone, clause := none, hold := none, ops := [], pend := [], log := [], heldFails := [] } else y)) ∧ SameMemory s t)

/-- Self-test, appeal, readmission (R376-R378). A test that passes appeals to every live neighbour under the plot's tag, with the id of its last package; a neighbour whose check of the tag passes
100 ticks later votes; the first majority announces the readmission 512 ticks ahead; at that tick the plot is in service and empty, its neighbours hold it OK with
no misses, and the regraft is noted. The operating time is written as the count that the start resumed plus TICK. The result of a test is the event's. -/
def Sys2Proof.Claims.Readmissions : Prop :=
  (∀ (s : State), let p := s.ev.a; let x := s.plot p
    let asked := s.regs.testBusy = true ∧ s.regs.testRun.1 = 1 ∧ s.regs.testRun.2.1 = p
    (x.culled = false → ¬ asked → exec .selfTestEnd s = .next s) ∧
    (x.culled = false → asked → exec .selfTestEnd s = .next { s with regs := { s.regs with testBusy := false, testStatus := 4 } }) ∧
    (x.culled = true → (x.testEnd = none ∨ ∃ k, x.testEnd = some k ∧ s.tick < k) → exec .selfTestEnd s = .next s) ∧
    (x.culled = true → ∀ k, x.testEnd = some k → k ≤ s.tick → ¬ asked → ∃ t, exec .selfTestEnd s = .next t ∧ t.plot p = { x with testEnd := none } ∧
      (s.ev.flag = false → t.agenda = s.agenda) ∧
      (s.ev.flag = true → let r := x.pkg * 65536; let f := s.flit p 4 p x.cullTick r (Config.attestTag (p + r * 2 ^ 9 + x.cullTick * 2 ^ 41))
        ∀ q ∈ s.liveNbrs p, Sys2Proof.Claims.InAgenda t (2 * (s.tick + 1)) .appeal { a := q, b := dirOf q p, f := f })) ∧
    (x.culled = true → ∀ k, x.testEnd = some k → k ≤ s.tick → asked → ∃ t, exec .selfTestEnd s = .next t ∧
      t.regs = { s.regs with testBusy := false, testStatus := if s.ev.flag then 0 else 6 })) ∧
  (∀ (s : State), let p := s.ev.a; let f := s.ev.f; let src := (f.extractLsb' 0 9).toNat
    let heard := s.votes p = true ∧ Sys2Proof.Claims.goodFlit f 4 ∧ plotNbr p s.ev.b = some src ∧ (f.extractLsb' 9 9).toNat = src ∧ (s.plot src).culled = true ∧
      src ∉ s.nvm.retiredPlots
    (heard → ∃ t, exec .appeal s = .next t ∧ { t with agenda := s.agenda } = Sys2Proof.Claims.flitCounted s p s.ev.b src ∧ Sys2Proof.Claims.InAgenda t (2 * (s.tick + 100)) .attestCheckEnd { a := p, f := f }) ∧
    (¬ heard → exec .appeal s = .next (Sys2Proof.Claims.flitCounted s p s.ev.b src))) ∧
  (∀ (s : State), let p := s.ev.a; let f := s.ev.f; let q := (f.extractLsb' 0 9).toNat; let res := f.extractLsb' 128 32
    let passed := s.votes p = true ∧ (s.plot q).culled = true ∧ res.extractLsb' 0 16 = 0 ∧
      f.extractLsb' 160 64 = Config.attestTag (q + res.toNat * 2 ^ 9 + (s.plot q).cullTick * 2 ^ 41)
    (¬ passed → exec .attestCheckEnd s = .next s) ∧
    (passed → ∃ t, exec .attestCheckEnd s = .next t ∧ p ∈ (tabGet {} (t.plot p).nbr (dirOf p q)).readmit ∧ t.groups = s.groups ∧ SameMemory s t ∧
      ∀ r h, r ∈ s.liveNbrs q → r ≠ p → s.hopsAround q p r = some h → Sys2Proof.Claims.InAgenda t (2 * (s.tick + h)) .readmit { a := r, b := dirOf r p, f := s.flit p 5 q 0 0 0 })) ∧
  (∀ (s : State), let p := s.ev.a; let f := s.ev.f; let q := (f.extractLsb' 9 9).toNat; let k := (f.extractLsb' 64 64).toNat; let src := (f.extractLsb' 0 9).toNat
    (¬ (Sys2Proof.Claims.goodFlit f 5 ∧ q < 384 ∧ (s.plot q).culled = true) → ∃ t, exec .readmit s = .next t ∧
      (if k = 0 then t = Sys2Proof.Claims.flitCounted s p s.ev.b src else Sys2Proof.Claims.CastHeard s t src)) ∧
    (Sys2Proof.Claims.goodFlit f 5 → q < 384 → (s.plot q).culled = true →
      (k ≠ 0 → (∀ u, (s.plot q).readmitAt = some u → k < u) → ∃ t, exec .readmit s = .next t ∧ (t.plot q).readmitAt = some k ∧
        Sys2Proof.Claims.InAgenda t (2 * k) .readmissionTick { a := q }) ∧
      (k ≠ 0 → ∀ u, (s.plot q).readmitAt = some u → u ≤ k → ∃ t, exec .readmit s = .next t ∧ Sys2Proof.Claims.CastHeard s t src) ∧
      (k = 0 → s.votes p = true → q ∈ plotNbrs p → src ∈ s.liveNbrs q → let x := tabGet {} (s.plot p).nbr (dirOf p q)
        ∃ t, exec .readmit s = .next t ∧ (tabGet {} (t.plot p).nbr (dirOf p q)).readmit = insertNat x.readmit src ∧
          (¬ Sys2Proof.Claims.moreThanHalf (s.liveNbrs q) x.readmit → Sys2Proof.Claims.moreThanHalf (s.liveNbrs q) (insertNat x.readmit src) →
            p < 384 → Sys2Proof.Claims.CastTo s t p .readmit (s.flit p 5 q (s.tick + 512) 0 0))))) ∧
  (∀ (s : State), let p := s.ev.a; let x := s.plot p
    ((x.readmitAt = none ∨ x.culled = false ∨ ∃ k, x.readmitAt = some k ∧ s.tick < k) → exec .readmissionTick s = .next s) ∧
    (∀ k, x.readmitAt = some k → k ≤ s.tick → x.culled = true → x.retired = false → p < 384 → (s.die (plotDie p)).trRing = 0 →
      ∃ t, exec .readmissionTick s = .next t ∧ t.inService p = true ∧ (t.plot p).slots = List.replicate 8 none ∧ (t.plot p).l1 = [] ∧ (t.plot p).tiles = [] ∧
        (t.plot p).cycleBase = s.cycle ∧ t.teams = s.teams ∧
        (∀ q ∈ plotNbrs p, tabGet {} (t.plot q).nbr (dirOf q p) = {}) ∧ t.nvm.opTime = s.boot.opBase + s.tick ∧
        (tabGet [] t.nvm.regrafts p).getLast? = some (s.boot.opBase + s.tick) ∧ (tabGet [] t.nvm.regrafts p).length ≤ 2 ∧
        ∃ n, Sys2Proof.Claims.InAgenda t n .placeCluster {})) ∧
  (∀ (s : State), exec .operatingTimeSave s = .next { s with nvm := { s.nvm with opTime := s.boot.opBase + s.tick } })

namespace Sys2Proof.Claims

/-- Byte o of the package at TESTADDR (R380): host memory by its physical address, in the host window of R308. -/
def packageAt (s : State) (o : Nat) : Nat := 0x0004000000000000 + s.regs.testAddr.toNat + o

/-- PKG.COUNT, PKG.TOTAL and target i of the package (R380). -/
def packageCount (s : State) : Nat := s.readNat (packageAt s 3) 1
def packageTotal (s : State) : Nat := s.readNat (packageAt s 4) 4
def packageTarget (s : State) (i : Nat) : Nat := s.readNat (packageAt s (64 + 2 * i)) 2
def packageKind (s : State) : Nat := s.readNat (packageAt s 2) 1

/-- The package is malformed (R380). -/
def packageBad (s : State) (len : Nat) : Prop :=
  1 < packageKind s ∨ packageCount s = 0 ∨ 96 < packageCount s ∨ packageTotal s % 64 ≠ 0 ∨ len * 4096 < packageTotal s ∨
  packageTotal s < 64 + (2 * packageCount s + 63) / 64 * 64 + 512 ∨
  (∃ i, i < packageCount s ∧ (if packageKind s = 0 then 384 else 96) ≤ packageTarget s i) ∨ ∃ o, 8 ≤ o ∧ o < 64 ∧ s.readByte (packageAt s o) ≠ 0

/-- The key has an unrevoked hash in the fuse store, and the last 512 bytes of the package are its signature over the digest of the bytes before (R379, R380). -/
def packageTrusted (s : State) (k : PublicKey) : Prop :=
  (∃ h, (h, false) ∈ s.nvm.keys ∧ h.toNat = k.hash) ∧
  let n := packageTotal s - 512
  k.verifies (sha512 n (beNat (s.readMem (packageAt s 0) n))) (beNat (s.readMem (packageAt s n) 512)) = true

end Sys2Proof.Claims

/-- In-field tests (R379, R380). A package that cannot be read ends its delivery with STATUS 3, a malformed one with 2, one whose key or signature fails with 1, the
last two counted; a good one withdraws its plots or quads. A regraft test needs a culled plot that is not retired, and joins a self-test that runs. A withdrawn plot is
tested once it holds no team; a pass ends the withdrawal, a failure shows in its heartbeats, and a quad's ends once no plot of it waits for its test. -/
def Sys2Proof.Claims.FieldTests : Prop :=
  (∀ (s : State), let idle := s.regs.testBusy = false ∨ s.regs.testRun.1 ≠ 0
    let len := s.regs.testRun.2.2
    let lost := s.ev.flag = true ∨ 2 ^ 50 < s.regs.testAddr.toNat + 4096 * len
    let key := s.nvm.image.key
    (idle → exec .testDeliver s = .next s) ∧
    (¬ idle → lost → exec .testDeliver s = .next { s with regs := { s.regs with testBusy := false, testStatus := 3 } }) ∧
    (¬ idle → ¬ lost → Sys2Proof.Claims.packageBad s len →
      exec .testDeliver s = .next { s with regs := { s.regs with testRejects := sat16 s.regs.testRejects, testBusy := false, testStatus := 2 } }) ∧
    (¬ idle → ¬ lost → ¬ Sys2Proof.Claims.packageBad s len → ¬ Sys2Proof.Claims.packageTrusted s key →
      exec .testDeliver s = .next { s with regs := { s.regs with testRejects := sat16 s.regs.testRejects, testBusy := false, testStatus := 1 } }) ∧
    (¬ idle → ¬ lost → ¬ Sys2Proof.Claims.packageBad s len → Sys2Proof.Claims.packageTrusted s key → ∃ t, exec .testDeliver s = .next t ∧
      t.regs = { s.regs with testBusy := false, testStatus := 0 } ∧
      let targets := (List.range (Sys2Proof.Claims.packageCount s)).map (Sys2Proof.Claims.packageTarget s)
      let kind := Sys2Proof.Claims.packageKind s
      (∀ p, let hit := p ∈ (if kind = 0 then targets else targets.flatMap quadPlots)
        (t.plot p).withdrawn = ((s.plot p).withdrawn || decide hit) ∧
        (t.plot p).pkg = if hit then s.readNat (Sys2Proof.Claims.packageAt s 0) 2 else (s.plot p).pkg) ∧
      (kind = 1 → ∀ q ∈ targets, (t.quad q).withdrawn = true))) ∧
  (∀ (s : State), let p := s.regs.testRun.2.1
    ((s.regs.testBusy = false ∨ s.regs.testRun.1 ≠ 1) → exec .regraftTest s = .next s) ∧
    (s.regs.testBusy = true → s.regs.testRun.1 = 1 →
      ((s.plot p).culled = false → exec .regraftTest s = .next { s with regs := { s.regs with testBusy := false, testStatus := 4 } }) ∧
      ((s.plot p).culled = true → p ∈ s.nvm.retiredPlots → exec .regraftTest s = .next { s with regs := { s.regs with testBusy := false, testStatus := 5 } }) ∧
      ((s.plot p).culled = true → p ∉ s.nvm.retiredPlots → (∀ k, (s.plot p).testEnd = some k → exec .regraftTest s = .next s) ∧
        ((s.plot p).testEnd = none → ∃ t r, exec .regraftTest s = .next t ∧ (t.plot p).testEnd = some (s.tick + 2 ^ 25) ∧ t.regs = s.regs ∧
          Sys2Proof.Claims.InAgenda t (2 * (s.tick + 2 ^ 25)) .selfTestEnd { a := p, flag := r })))) ∧
  (∀ (s : State), let x := s.plot s.ev.a
    ((x.withdrawn = false ∨ x.testing = true) → exec .fieldTestRun s = .next s) ∧
    (x.withdrawn = true → x.testing = false →
      ((s.teamsOn s.ev.a = []) → exec .fieldTestRun s = .next (s.modPlot s.ev.a (fun y => { y with testing := true }))) ∧
      ((s.teamsOn s.ev.a ≠ []) → ∃ t n, exec .fieldTestRun s = .next t ∧ { t with agenda := s.agenda } = s ∧
        Sys2Proof.Claims.InAgenda t n .fieldTestRun { a := s.ev.a })) ∧
    (x.testing = false → exec .fieldTestResult s = .next s) ∧
    (x.testing = true → s.ev.flag = true → ∃ t, exec .fieldTestResult s = .next t ∧ t.plot s.ev.a = { x with testing := false, withdrawn := false } ∧
      (∀ p, p ≠ s.ev.a → t.plot p = s.plot p) ∧ Sys2Proof.Claims.QuadAfterTest s t s.ev.a) ∧
    (x.testing = true → s.ev.flag = false → ∃ t, exec .fieldTestResult s = .next t ∧ t.plot s.ev.a = { x with testing := false, selfFail := true } ∧
      (∀ p, p ≠ s.ev.a → t.plot p = s.plot p) ∧ Sys2Proof.Claims.QuadAfterTest s t s.ev.a))

/-- Heartbeats, votes and culls (R371-R375).
Readings of the model's own, by log entry: heartbeats and votes (73, 74, 75), the work of a culled plot (77, 78). -/
def Obligations.VotesAndCulls : Prop :=
  Sys2Proof.Claims.HeartbeatsAndVotes ∧ Sys2Proof.Claims.Culls

/-- Self-tests, readmissions and in-field tests (R376-R380).
Readings of the model's own, by log entry: results of tests (76), what a READMIT carries (75), accusations kept (116), signatures and the
delivery of a package (121, 124, 125). -/
def Obligations.RegraftsAndTests : Prop :=
  Sys2Proof.Claims.Readmissions ∧ Sys2Proof.Claims.FieldTests

/-! ## Resets, registers from outside, starts, power -/

namespace Sys2Proof.Claims

/-- Nothing runs for a context and nothing is held for it, but what its tables map. -/
def Quiet (s : State) (c : Nat) : Prop :=
  (∀ e ∈ s.teams, e.2.ctx = c → e.2.live = false) ∧ (∀ e ∈ s.clusters, e.2.ctx = c → e.2.live = false) ∧ (∀ e ∈ s.cmds, e.2.ctx ≠ c) ∧
  (s.ctx c).launches = [] ∧ (s.ctx c).arenas = [] ∧ s.pgc.fq = [] ∧ s.pgc.fqWait = []

/-- Only one context has changed. -/
def OnlyContext (s t : State) (c : Nat) (x : Context) : Prop :=
  t.ctx c = x ∧ (∀ d, d ≠ c → t.ctx d = s.ctx d) ∧ { t with ctxs := s.ctxs } = s

/-- What a write of a context's register leaves (R385, R386), for offset 8·k of its window: fields that are RO or reserved keep their value, and the areas
cannot be written while the context is enabled. -/
def contextWrite (x : Context) (v : DWord) : Nat → Context
  | 0 => { x with en := v.getLsbD 8, trace := v.getLsbD 9, hrows := v.extractLsb' 10 3, hprio := v.extractLsb' 13 3 }
  | 1 => if x.en then x else { x with ptroot := v }
  | 2 => if x.en then x else { x with handler := v }
  | 3 => if x.en then x else { x with trapArea := v }
  | 4 => if x.en then x else { x with spillArea := v }
  | 5 => if x.en then x else { x with arenaHeap := v }
  | 6 => if x.en then x else { x with arenaSize := v }
  | 7 => if x.en then x else { x with walkScr := v }
  | 8 => if x.en then x else { x with walkSize := v }
  | 9 => { x with hbmw := v.extractLsb' 0 4, cew := v.extractLsb' 4 4 }
  | 10 => { x with vecEn := v }
  | _ => x

/-- The first step of R407 that fails with the facts of a start, and its cause. -/
def failure (s : State) (f : BootFacts) : Option (Nat × Nat) :=
  let failed := f.failedPlots.eraseDups.filter (fun p => decide (p < 384) && decide (p ∉ s.nvm.retiredPlots))
  let i := s.nvm.image
  let good := s.nvm.trusts i.key = true ∧ i.key.signs i.sig (natBytes 4 i.version.toNat ++ i.bytes) = true
  if f.fuseOk = false then some (1, 7) else if f.flashOk = false ∨ ¬ good then some (2, 1)
  else if i.version.toNat < s.nvm.minVersion.toNat then some (3, 2) else if f.trained = false then some (4, 3)
  else if 16 < failed.length then some (5, 4) else if tabFind f.links 0 = none then some (6, 5) else none

/-- A function that answers on the link (R384, R408). The model's choice, log entry 123: VF enable is SR-IOV's bit, clear after a reset. -/
def Answers (s : State) (c : Nat) : Prop := c = 0 ∨ (c < 64 ∧ s.boot.vfEnable = true)

/-- What a device reset leaves (R407): every register at its reset value, nothing of memory inside the package, the fuse store and the module flash. A block
outside the package that is dirty in the L2 holds what was last written back. -/
def afterReset (s t : State) (src : Nat) : Prop :=
  t.cycle = 0 ∧ t.ctxs = State.reset.ctxs ∧ t.teams = [] ∧ t.cmds = [] ∧ t.dies = [] ∧ t.frames = [] ∧ t.leases = [] ∧ t.regs = State.reset.regs ∧
  t.boot.src = src ∧ t.boot.opBase = s.nvm.opTime ∧ t.boot.pwrcap = 1800 ∧ t.outbox.take s.outbox.length = s.outbox ∧
  (∀ a, isHost a = true ∨ isPool a = true ∨ isPeer a = true → (∀ e ∈ s.under, s.phys (e.1 * 64) ≠ a / 64 * 64) → t.readByte a = tabGet 0 s.mem a) ∧
  (∀ b v d, s.under = [(b, v, d)] → s.phys (b * 64) = b * 64 → isPool (b * 64) = true → ∀ k, k < 64 → t.readByte (b * 64 + k) = BitVec.ofNat 8 (v / 256 ^ k)) ∧
  (∀ a, isHbm t a = true → t.readByte a = 0)

end Sys2Proof.Claims

/-- A context reset (R384, R395, R396), asked for by the host, a function-level reset or containment; a request during a reset merges into it. With no work, record,
arena, lease or frame of the context it ends at once: the generation counts, traps are dropped, the context is not busy, REASON says why and its vector is raised. -/
def Sys2Proof.Claims.ContextResets : Prop :=
  (∀ (s : State), ¬ Sys2Proof.Claims.Answers s s.ev.a → exec .functionLevelReset s = .next s) ∧
  (∀ (s : State), Sys2Proof.Claims.Answers s s.ev.a → s.ev.b ≠ 1 → s.ev.flag = false → exec .functionLevelReset s = exec .contextReset s) ∧
  (∀ (s : State), Sys2Proof.Claims.Answers s s.ev.a → (s.ctx s.ev.a).busy = true → exec .functionLevelReset s = .next s) ∧
  (∀ (s : State) (c : Nat), s.ev.a = c → Sys2Proof.Claims.Answers s c → (s.ctx c).busy = false → Sys2Proof.Claims.Quiet s c → s.leases = [] → s.ctxFrames c = [] →
    ∃ t, exec .functionLevelReset s = .next t ∧ (t.ctx c).busy = false ∧ (t.ctx c).gen = (s.ctx c).gen + 1 ∧ (t.ctx c).traps = [] ∧ (t.ctx c).rootDone = false ∧
      (t.ctx c).reason = 1 ∧ (t.ctx c).rootStat = 0 ∧ (∀ d, d ≠ c → t.ctx d = s.ctx d) ∧ t.teams = s.teams ∧ t.groups = s.groups) ∧
  (∀ (s : State), s.ev.b ≠ 1 → (s.ctx s.ev.a).busy = true → exec .contextReset s = .next s) ∧
  (∀ (s : State), s.ev.b = 1 → (s.ctx s.ev.a).busy = false → exec .contextReset s = .next s) ∧
  (∀ (s : State) (c : Nat), s.ev.a = c → s.ev.b ≠ 1 → (s.ctx c).busy = false → Sys2Proof.Claims.Quiet s c → s.leases = [] → s.ctxFrames c = [] →
    let n := if s.ev.flag then 64 else 65
    ∃ t, exec .contextReset s = .next t ∧ (t.ctx c).busy = false ∧ (t.ctx c).gen = (s.ctx c).gen + 1 ∧ (t.ctx c).traps = [] ∧ (t.ctx c).rootDone = false ∧
      (t.ctx c).reason = (if s.ev.flag then 2 else 1) ∧ (t.ctx c).rootStat = 0 ∧
      ((s.ctx c).msixMask.getLsbD n = false → (s.ctx c).msixAll = false → .msix c n ∈ t.outbox) ∧
      ((s.ctx c).msixMask.getLsbD n = true ∨ (s.ctx c).msixAll = true → (t.ctx c).msixPending.getLsbD n = true) ∧
      (∀ d, d ≠ c → t.ctx d = s.ctx d) ∧ t.teams = s.teams ∧ t.groups = s.groups) ∧
  (∀ (s : State) (c : Nat), s.ev.a = c → s.ev.b = 1 → (s.ctx c).busy = true → (∀ e ∈ s.leases, e.2.resetBy = none) →
    ∃ t, exec .contextReset s = .next t ∧ (t.ctx c).busy = false ∧ (t.ctx c).reason = if s.ev.flag then 2 else 1) ∧
  (∀ (s : State) (c : Nat), s.ev.a = c → s.ev.b = 1 → (s.ctx c).busy = true → (∃ e ∈ s.leases, e.2.resetBy = some (c, true) ∧ e.2.req.isSome = true) →
    tabSorted s.leases = true → ∃ t, exec .contextReset s = .next t ∧ (t.ctx c).busy = true ∧
      Sys2Proof.Claims.InAgenda t (s.cycle + 1) .contextReset { a := c, b := 1, flag := s.ev.flag })

/-- What a context reset leaves of a context that has work (R64, R274, R395 steps 2 to 6, R396): no team of it lives, and no other team has ended; no command, arena or
trap of it is left, nor a fault record that a reset which the host asked for discards; a launch's completion word reads status 3 and a command's
signal word status 9; the leases that it alone maps are RETURNING, those that had FAILED are dropped, and the frames that it alone maps are DEAD, with PTE.DEAD in
their leaves, as the model reads steps 6 and 7 (log entry 67). -/
def Sys2Proof.Claims.ResetSteps : Prop :=
  (∀ (s : State) (c : Nat), s.ev.a = c → s.ev.b ≠ 1 → (s.ctx c).busy = false → ∃ t, exec .contextReset s = .next t ∧
    (∀ i, (t.team i).live = ((s.team i).live && decide ((s.team i).ctx ≠ c))) ∧
    (∀ e ∈ s.clusters, e.2.ctx = c → (t.cluster e.1).live = false) ∧
    (∀ e ∈ t.cmds, e.2.ctx ≠ c) ∧ (∀ e ∈ s.cmds, e.2.ctx ≠ c → ∃ x ∈ t.cmds, x.1 = e.1) ∧
    (t.ctx c).arenas = [] ∧ (t.ctx c).rootDone = false ∧ (t.ctx c).rootStat = 0 ∧ (t.ctx c).traps = [] ∧ (t.ctx c).waitTraps = [] ∧
    (t.ctx c).gen = (s.ctx c).gen + 1 ∧
    (s.ev.flag = false → (∀ e ∈ t.pgc.fq, ctxKind (fqKind e.2.data) = true → fqCtx e.2.data ≠ c) ∧
      (∀ e ∈ t.pgc.fqWait, ctxKind (fqKind (t.fqPack e.1)) = true → fqCtx (t.fqPack e.1) ≠ c)) ∧
    (∀ e ∈ s.pgc.fq, fqCtx e.2.data ≠ c → e ∈ t.pgc.fq)) ∧
  (∀ (s : State) (c dpa pte : Nat) (l : Launch), s.ev.a = c → s.ev.b ≠ 1 → (s.ctx c).busy = false →
    (∀ e ∈ s.teams, e.2.ctx = c → e.2.live = false) → (∀ e ∈ s.clusters, e.2.ctx = c → e.2.live = false) → (∀ e ∈ s.cmds, e.2.ctx ≠ c) → (s.ctx c).arenas = [] →
    (s.ctx c).launches = [l] → l.done = false → l.signal ≠ 0 → (s.translateWalk c l.signal .write).2 = .ok dpa pte → isHost dpa = true → s.pgc.moving = [] →
    Sys2Proof.Claims.MemoryAtRest s → s.leases = [] → s.ctxFrames c = [] →
    ∃ t, exec .contextReset s = .next t ∧ t.readNat dpa 8 = (l.serial + 3 * 2 ^ 32) % 2 ^ 64 ∧ (t.ctx c).launches = []) ∧
  (∀ (s : State) (c id dpa pte : Nat) (x : Cmd), s.ev.a = c → s.ev.b ≠ 1 → (s.ctx c).busy = false →
    (∀ e ∈ s.teams, e.2.ctx = c → e.2.live = false) → (∀ e ∈ s.clusters, e.2.ctx = c → e.2.live = false) → (s.ctx c).launches = [] → (s.ctx c).arenas = [] →
    s.cmds = [(id, x)] → x.ctx = c → x.st = .queued → (s.ce x.ce).busy ≠ some id → x.pages = [] → cmSigen x.blk.toNat = true → cmSig x.blk.toNat % 8 = 0 →
    spaceOf (BitVec.ofNat 64 (cmSig x.blk.toNat)) = .virt (cmSig x.blk.toNat) →
    (s.translateWalk c (cmSig x.blk.toNat) .write).2 = .ok dpa pte → pteFmt pte ≠ 2 → isHost dpa = true → s.pgc.moving = [] →
    Sys2Proof.Claims.MemoryAtRest s → s.leases = [] → s.ctxFrames c = [] →
    ∃ t, exec .contextReset s = .next t ∧ t.readByte dpa = 9 ∧ t.cmds = [] ∧ (∀ e ∈ (t.plot x.plot).rlt, e.owner ≠ id)) ∧
  (∀ (s : State) (c : Nat), s.ev.a = c → s.ev.b ≠ 1 → (s.ctx c).busy = false → Sys2Proof.Claims.Quiet s c → Sys2Proof.Claims.MemoryAtRest s → tabSorted s.leases = true →
    tabSorted s.frames = true → ∃ t, exec .contextReset s = .next t ∧
      (∀ f, f ∈ s.ctxFrames c → (s.frame f).retired = false → (t.frame f).dead = true) ∧
      (∀ f l, f ∈ s.ctxFrames c → (s.frame f).retired = false → s.ctxLeaves c = [l] → f ∈ s.leavesFrames [l] → (∀ g ∈ s.ctxFrames c, frameOf l.2.2 ≠ g) →
        s.leases = [] → isHbm s l.2.2 = true → l.2.2 % 8 = 0 → (t.readNat l.2.2 8).testBit 17 = true) ∧
      (∀ i, i ∈ s.ctxLeases c → leaseState (s.lease i).data = 5 → leaseState (t.lease i).data = 0) ∧
      (∀ i, i ∈ s.ctxLeases c → leaseState (s.lease i).data ≠ 5 → (s.lease i).req = none →
        leaseState (t.lease i).data = 6 ∧ (t.lease i).resetBy = some (c, true) ∧ (∃ q, (t.lease i).req = some q ∧ q.ret = true ∧ q.sent = s.tick) ∧
        (t.ctx c).busy = true) ∧
      (∀ i, i ∈ s.ctxLeases c → leaseState (s.lease i).data ≠ 5 → (s.lease i).req.isSome = true →
        (t.lease i).req = (s.lease i).req ∧ (t.lease i).resetBy = some (c, false) ∧ (t.ctx c).busy = true))

/-- Writes of registers from outside (R385, R386, R389, R398, R401, R402, R408). A context's window takes its registers, its reset and its doorbell; the physical
function's BAR0 takes those, L2SCR, TSLICE (clamped) and SLOTPART of every plot, answers, DOMID, TESTADDR; the debug port its own. While the compute dies are in
reset only DOMID, TESTADDR and the debug port are. A virtual function answers while VF enable is set (the model's choice, log entry 123). A vector that is unmasked sends its pending message, and so does a function that is (R390). -/
def Sys2Proof.Claims.RegisterWrites : Prop :=
  (∀ (s : State) (c k : Nat), s.boot.minimal = false → s.boot.starting = false → c < 64 → k < 12 →
    (s.ev.ext = .space (.window c) ∧ s.ev.a = 8 * k ∧ Sys2Proof.Claims.Answers s c) ∨ (s.ev.ext = .space .pf ∧ s.ev.a = 0x1000 * c + 8 * k) →
    ∃ t, exec .registerWrite s = .next t ∧ Sys2Proof.Claims.OnlyContext s t c (Sys2Proof.Claims.contextWrite (s.ctx c) s.ev.v k)) ∧
  (∀ (s : State) (c : Nat), ¬ Sys2Proof.Claims.Answers s c → s.ev.ext = .space (.window c) → exec .registerWrite s = .next s) ∧
  (∀ (s : State), s.ev.ext = .space .sriov → exec .registerWrite s = .next
    (if s.boot.minimal || s.boot.starting then s else { s with boot := { s.boot with vfEnable := s.ev.v.getLsbD 0 } })) ∧
  (∀ (s : State) (c : Nat), s.boot.minimal = false → s.boot.starting = false → Sys2Proof.Claims.Answers s c → s.ev.ext = .space (.window c) →
    (s.ev.a = 0x60 → exec .registerWrite s = .next (if s.ev.v.getLsbD 0 then s.after 0 .contextReset { a := c } else s)) ∧
    (s.ev.a = 0x100 → exec .registerWrite s = .next (if (s.ctx c).en && !(s.ctx c).busy then s.after 40 .doorbell { a := c, v := s.ev.v } else s)) ∧
    (0x68 ≤ s.ev.a → s.ev.a ≠ 0x100 → exec .registerWrite s = .next s)) ∧
  (∀ (s : State), s.boot.minimal = false → s.boot.starting = false → s.ev.ext = .space .pf → let v := s.ev.v
    (∀ d, d < 4 → s.ev.a = 0x40000 + 0x1000 * d → exec .registerWrite s = .next (s.after 0 .l2scrWrite { a := d, v := v })) ∧
    (∀ p, p < 384 → s.ev.a = 0x60000 + 16 * p → exec .registerWrite s = .next (s.modPlot p (fun x =>
      { x with tsliceNext := some (Nat.min 10000000 (Nat.max 10000 (v.toNat % 2 ^ 24))) }))) ∧
    (∀ p, p < 384 → s.ev.a = 0x60008 + 16 * p → exec .registerWrite s = .next (s.modPlot p (fun x => { x with slotPartNext := some (v &&& 0x00FFFFFFFFFFFFFF) }))) ∧
    (s.ev.a = 0x70000 → exec .registerWrite s = .next { s with regs := { s.regs with pgcAns0 := v } }) ∧
    (s.ev.a = 0x70008 → exec .registerWrite s = .next (s.after 0 .hostAnswer { v := s.regs.pgcAns0, f := v.setWidth 256 })) ∧
    (s.ev.a = 0x71008 → s.regs.testBusy = true → v.getLsbD 0 = true → exec .registerWrite s = .next s) ∧
    (s.ev.a = 0x71008 → s.regs.testBusy = false → v.getLsbD 0 = true → ∃ t, exec .registerWrite s = .next t ∧
      let op := v.toNat / 2 % 4; let len := v.toNat / 2 ^ 20 % 2 ^ 19
      t.regs.testOp = op ∧ t.regs.testLen = len ∧ t.regs.testPlot = v.toNat / 2 ^ 39 % 2 ^ 9 ∧
      ((2 ≤ op ∨ (op = 0 ∧ len = 0)) → t.regs.testStatus = 7 ∧ t.regs.testBusy = false) ∧
      (op = 1 → t.regs.testBusy = true ∧ Sys2Proof.Claims.InAgenda t (2 * (s.tick + 1)) .regraftTest {}) ∧
      (op = 0 → len ≠ 0 → t.regs.testBusy = true ∧ ∃ n, s.cycle ≤ n ∧ Sys2Proof.Claims.InAgenda t n .testDeliver {}))) ∧
  (∀ (s : State), s.ev.ext = .space .pf →
    (s.ev.a = 0x70010 → exec .registerWrite s = .next { s with regs := { s.regs with domId := s.ev.v.setWidth 11 } }) ∧
    (s.ev.a = 0x71000 → exec .registerWrite s = .next { s with regs := { s.regs with testAddr := s.ev.v &&& ~~~0xFFF } }) ∧
    ((s.boot.minimal = true ∨ s.boot.starting = true) → s.ev.a ≠ 0x70010 → s.ev.a ≠ 0x71000 → exec .registerWrite s = .next s)) ∧
  (∀ (s : State) (c : Nat), (s.boot.minimal = true ∨ s.boot.starting = true) → s.ev.ext = .space (.window c) → exec .registerWrite s = .next s) ∧
  (∀ (s : State), s.ev.ext = .space .debug → let v := s.ev.v
    (s.ev.a = 0x0000 → exec .registerWrite s = .next { s with regs := { s.regs with dbgOwn := v } }) ∧
    (s.ev.a = 0x0008 → v.extractLsb' 0 2 = 3 → exec .registerWrite s = .next s) ∧
    (s.ev.a = 0x0008 → v.extractLsb' 0 2 ≠ 3 → s.regs.stopped = true → exec .registerWrite s = .next { s with regs := { s.regs with haltReqs := s.regs.haltReqs ++ [v] } }) ∧
    (∀ i, (v.extractLsb' 0 2, i) ∈ [(0, .halt), (1, .resume), (2, .step)] → s.ev.a = 0x0008 → s.regs.stopped = false →
      exec .registerWrite s = .next (s.after 0 i { v := v })) ∧
    (s.ev.a = 0x0010 → exec .registerWrite s = .next { s with regs := { s.regs with tstopt := v } }) ∧
    (s.ev.a = 0x0018 → exec .registerWrite s = .next (if v.getLsbD 2 then s.after 0 .tstopRelease {} else if v.getLsbD 0 then s.after 0 .tstopArm {}
      else { s with regs := { s.regs with arm := false } })) ∧
    (∀ d, d < 6 → s.ev.a = 0x0600 + 24 * d → exec .registerWrite s = .next (s.after 0 .trringWrite { a := d, v := v })) ∧
    (∀ d, d < 6 → s.ev.a = 0x0610 + 24 * d → exec .registerWrite s = .next (s.modDie d (fun x => { x with trTail := v.toNat }))) ∧
    (∀ c, c < 64 → s.ev.a = 0x0100 + 8 * c → ∃ t, exec .registerWrite s = .next t ∧ tabGet 0 t.regs.brkMap c = v &&& 0x01FFFFFFFFFFFFF8) ∧
    (∀ c, c < 64 → s.ev.a = 0x0400 + 8 * c → ∃ t, exec .registerWrite s = .next t ∧ tabGet 0 t.regs.brkWin c = v &&& ~~~0xFFFF)) ∧
  (∀ (s : State), let c := s.ev.a; let n := s.ev.b
    (¬ Sys2Proof.Claims.Answers s c ∨ 67 ≤ n → exec .msixUnmask s = .next s) ∧
    (Sys2Proof.Claims.Answers s c → s.ev.flag = true → (n < 66 → exec .msixUnmask s = .next (s.modCtx c (fun x => { x with msixMask := x.msixMask ||| BitVec.ofNat 66 (2 ^ n) }))) ∧
      (n = 66 → exec .msixUnmask s = .next (s.modCtx c (fun x => { x with msixAll := true })))) ∧
    (Sys2Proof.Claims.Answers s c → s.ev.flag = false → n = 66 → ∃ t, exec .msixUnmask s = .next t ∧ (t.ctx c).msixAll = false ∧ (t.ctx c).msixMask = (s.ctx c).msixMask ∧
      ∀ k, k < 66 → (t.ctx c).msixPending.getLsbD k = ((s.ctx c).msixPending.getLsbD k && (s.ctx c).msixMask.getLsbD k) ∧
        ((s.ctx c).msixPending.getLsbD k = true → (s.ctx c).msixMask.getLsbD k = false → .msix c k ∈ t.outbox)) ∧
    (Sys2Proof.Claims.Answers s c → s.ev.flag = false → n < 66 → (s.ctx c).msixAll = true → ∃ t, exec .msixUnmask s = .next t ∧ t.outbox = s.outbox ∧
      t.ctx c = { s.ctx c with msixMask := (s.ctx c).msixMask &&& ~~~ BitVec.ofNat 66 (2 ^ n) }) ∧
    (Sys2Proof.Claims.Answers s c → s.ev.flag = false → n < 66 → (s.ctx c).msixAll = false → (∀ k, k < 66 → (s.ctx c).msixPending.getLsbD k = true → (s.ctx c).msixMask.getLsbD k = true) →
      ∃ t, exec .msixUnmask s = .next t ∧ (t.ctx c).msixMask.getLsbD n = false ∧ (t.ctx c).msixPending.getLsbD n = false ∧
      (∀ k, k ≠ n → (t.ctx c).msixMask.getLsbD k = (s.ctx c).msixMask.getLsbD k ∧ (t.ctx c).msixPending.getLsbD k = (s.ctx c).msixPending.getLsbD k) ∧
      t.outbox = (if (s.ctx c).msixPending.getLsbD n then s.outbox ++ [.msix c n] else s.outbox)))

namespace Sys2Proof.Claims

/-- The bytes of a peer's stream and whether it is well-formed: plain ones, or a format code's values under EGC (R123, R393). -/
def stream (bs : List Byte) : Option (Nat × Nat) → List Byte × Bool
  | none => (bs, true)
  | some (fmt, n) => (((egcDecode (egcOf (decide (fmt = 0)) fmt) n bs).1.flatMap (natBytes (egcOf (decide (fmt = 0)) fmt).bytes)),
      (egcDecode (egcOf (decide (fmt = 0)) fmt) n bs).2)

/-- The value that a receiver returns for whole words it has written (R228, R394). -/
def returned (kind : Nat) (v : BitVec 32) (bs : List Byte) : BitVec 32 :=
  match kind with
  | 1 => (List.range (bs.length / 4)).foldl (fun x j => x + BitVec.ofNat 32 (bytesNat ((bs.drop (4 * j)).take 4))) v
  | 2 => crc32c v bs
  | _ => 0

/-- The sum of an element (R107, R226). -/
def addOf (w : Bool) (x y : Nat) : Nat :=
  if w then a96Code (a96Add (unpack a96 (x % 2 ^ 96)) (unpack a96 (y % 2 ^ 96))).1 else (addF f32 .rne false x y).1

/-- The requests of a range of bytes. -/
def asks (r : FabricReq) (a n : Nat) : Prop :=
  r = .read a n ∨ (∃ bs ds, r = .write a bs ds ∧ bs.length = n) ∨
  (∃ bs k v p f e, r = .peerWrite a bs k v p f e ∧ (stream bs e).1.length = n) ∨
  (∃ w bs k v p f e, r = .reduce a w bs k v p f e ∧ (stream bs (e.map (fun m => (if w then 0 else 0x18, m)))).1.length = n)

end Sys2Proof.Claims

/-- Accesses of the host and of peers to HBM (R393, R394, R396, R397). A read answers the bytes; a write stores them, with the descriptors that a loader gives; a
reduction adds FP32 or A96 elements at their home; a peer's write or reduction is decoded first where it comes as an EGC stream, and answers, at its end or where that
stream is malformed, with the checksum of the bytes as written (R107, R108, R123). One outside HBM reaches nothing, one that meets a frame or a channel which is busy is served
later, and none is served while the compute dies are in reset. -/
def Sys2Proof.Claims.FabricRequests : Prop :=
  (∀ (s : State), (s.boot.minimal = true ∨ s.boot.starting = true) → exec .fabricMemRequest s = .next s) ∧
  (∀ (s : State) (r : FabricReq) (a n : Nat), Sys2Proof.Claims.asks r a n → s.hbmFrames * 65536 < a + n → s.ev.ext = .request r → exec .fabricMemRequest s = .next s) ∧
  (∀ (s : State) (a n d : Nat), s.boot.minimal = false → s.boot.starting = false → s.ev.ext = .request (.read a n) → 0 < n → n ≤ 64 - a % 64 →
    a + n ≤ s.hbmFrames * 65536 → s.blockWait a = some d → exec .fabricMemRequest s = .next (s.after d .fabricMemRequest s.ev)) ∧
  (∀ (s : State), s.boot.minimal = false → s.boot.starting = false → Sys2Proof.Claims.MemoryAtRest s →
    (∀ a n, s.ev.ext = .request (.read a n) → a + n ≤ s.hbmFrames * 65536 → (∀ k, k < n → s.poisoned (a + k) = false) →
      ∃ t, exec .fabricMemRequest s = .next t ∧ t.outbox = s.outbox ++ [.readData a ((List.range n).map (fun k => s.readByte (a + k))) false] ∧ SameMemory s t) ∧
    (∀ a bs ds, s.ev.ext = .request (.write a bs ds) → a + bs.length ≤ s.hbmFrames * 65536 → ∃ t, exec .fabricMemRequest s = .next t ∧
      (∀ k, k < bs.length → t.readByte (a + k) = bs.getD k 0) ∧ (∀ x, isPool x = false → (x < a ∨ a + bs.length ≤ x) → t.readByte x = s.readByte x) ∧
      (∀ i, i < ds.length → a / 64 * 64 + 64 * i < s.hbmFrames * 65536 → t.readDesc (a / 64 * 64 + 64 * i) = ds.getD i 0)) ∧
    (∀ a w bs kind v pos final egc, s.ev.ext = .request (.reduce a w bs kind v pos final egc) → let z := if w then 16 else 4
      let d := Sys2Proof.Claims.stream bs (egc.map (fun m => (if w then 0 else 0x18, m)))
      let n := d.1.length
      (a % z ≠ 0 → exec .fabricMemRequest s = .next s) ∧
      (a % z = 0 → a + n ≤ s.hbmFrames * 65536 → n % z = 0 → ∃ t, exec .fabricMemRequest s = .next t ∧
        (∀ k, k < n → t.readByte (a + k) = BitVec.ofNat 8
          (Sys2Proof.Claims.addOf w (s.readNat (a + k / z * z) z) (bytesNat ((d.1.drop (k / z * z)).take z)) / 256 ^ (k % z))) ∧
        (∀ x, isPool x = false → (x < a ∨ a + n ≤ x) → t.readByte x = s.readByte x) ∧
        (final = false → d.2 = true → t.outbox = s.outbox) ∧
        ((final = true ∨ d.2 = false) → pos % 4 = 0 → t.outbox = s.outbox ++ [.peerDone d.2 (Sys2Proof.Claims.returned kind v (t.readMem a n))]))) ∧
    (∀ a bs kind v pos final egc, s.ev.ext = .request (.peerWrite a bs kind v pos final egc) →
      let d := Sys2Proof.Claims.stream bs egc
      let n := d.1.length
      a + n ≤ s.hbmFrames * 65536 → ∃ t, exec .fabricMemRequest s = .next t ∧
        (∀ k, k < n → t.readByte (a + k) = d.1.getD k 0) ∧ (∀ x, isPool x = false → (x < a ∨ a + n ≤ x) → t.readByte x = s.readByte x) ∧
        (final = false → d.2 = true → t.outbox = s.outbox) ∧
        ((final = true ∨ d.2 = false) → (kind = 1 → pos % 4 = 0 ∧ n % 4 = 0) →
          t.outbox = s.outbox ++ [.peerDone d.2 (Sys2Proof.Claims.returned kind v d.1)])))

/-- Device resets and starts (R378, R407, R408, R413, R414). A power-on, PERST#, a management reset and a thermal trip discard all but the fuse store and the module
flash, and name their source. A start that fails keeps its step and cause and is followed by the next; three in a row end in minimal mode; one that reaches
step 7 clears the count and runs both heartbeats; one still running after 2^34 ticks fails with cause 6. Memory outside the package is as it was last written. -/
def Sys2Proof.Claims.DeviceStarts : Prop :=
  (∀ (i : Instr) (src : Nat), (i, src) ∈ [(.powerOn, 0), (.perst, 1), (.managementReset, 2)] → ∀ (s : State) (b : List BootFacts), s.ev.ext = .boots b →
    (s.nvm.fails = 3 → ∃ t, exec i s = .next t ∧ Sys2Proof.Claims.afterReset s t src ∧ t.boot.minimal = true ∧ t.boot.fwver = 0 ∧ t.boot.vfEnable = false ∧ t.nvm = s.nvm ∧
      t.agenda = [] ∧ (∃ l, t.boot.links = [(0, l)]) ∧ t.outbox = s.outbox ++ [.event 0 0]) ∧
    (∀ f rest, b = f :: rest → s.nvm.fails < 3 → Sys2Proof.Claims.failure s f = none → s.nvm.retiredPlots = [] → s.nvm.retiredFrames = [] → s.nvm.quarantined = [] →
      s.nvm.image.bytes.length ≤ 0x80000 →
      (f.inTime = false → ∃ t, exec i s = .next t ∧ Sys2Proof.Claims.afterReset s t src ∧ t.boot.starting = true ∧
        t.agenda = [{ due := 2 ^ 35, what := .bootWatchdog, ev := { ext := .boots rest } }]) ∧
      (f.inTime = true → ∃ t, exec i s = .next t ∧ t.cycle = 0 ∧ t.boot.src = src ∧ t.boot.starting = false ∧ t.boot.minimal = false ∧ t.boot.parity = f.parity ∧
        t.boot.fwver = s.nvm.image.version ∧ t.boot.links = f.links ∧ t.nvm = { s.nvm with fails := 0 } ∧ t.groups = State.reset.groups ∧ t.agenda = State.reset.agenda ∧
        (∀ k, k < s.nvm.image.bytes.length → t.readByte (0x00F800000000 + k) = s.nvm.image.bytes.getD k 0) ∧
        (∀ p, p ∈ f.failedPlots → p < 384 → (t.plot p).selfFail = true ∧ (t.plot p).stranded = true))) ∧
    (∀ f step cause, b = [f] → s.nvm.fails < 2 → Sys2Proof.Claims.failure s f = some (step, cause) → ∃ t, exec i s = .next t ∧
      t.nvm = { s.nvm with fails := s.nvm.fails + 1, cause := cause, step := step } ∧ t.boot.starting = true) ∧
    (∀ f step cause, b = [f] → s.nvm.fails = 2 → Sys2Proof.Claims.failure s f = some (step, cause) → ∃ t, exec i s = .next t ∧
      t.nvm = { s.nvm with fails := 3, cause := cause, step := step } ∧ t.boot.minimal = true)) ∧
  (∀ (s : State), s.boot.starting = false → exec .bootWatchdog s = .next s) ∧
  (∀ (s : State), s.boot.starting = true → s.ev.ext = .boots [] → s.nvm.fails < 3 → ∃ t, exec .bootWatchdog s = .next t ∧ Sys2Proof.Claims.afterReset s t s.boot.src ∧
    t.nvm = { s.nvm with fails := s.nvm.fails + 1, cause := 6, step := 0 } ∧ t.boot.minimal = decide (s.nvm.fails = 2)) ∧
  (∀ (s : State), exec .clearFailedStart s = .next { s with nvm := { s.nvm with fails := 0 } }) ∧
  (∀ (s : State) (i : FirmwareImage), s.ev.ext = .image i → exec .pldmFirmwareUpdate s =
    .next { s with nvm := { s.nvm with image := i } })

/-- Power, temperature, rate points and the management port (R410-R414). Firmware samples what the sensors show. A sample takes the first action it calls for: hot channels
step down, power above the cap steps the hottest of each stack down, or withholds the eight highest plots that take teams; power well below it releases what is withheld,
and where nothing is, steps channels up. A die above 110 degrees in two samples in a row resets the device. A switch of a channel is in force 1,500 ticks later, as the
model reads R412; one ordered meanwhile follows it. PWRCAP is clamped to 600-1,800. The management port answers for its registers.
Readings of the model's own, by log entry: the readings of R411 and R412 (84) and the body of a control answer (85). -/
def Obligations.PowerAndManagement : Prop :=
  (∀ (s : State) (r : PowerReading), s.ev.ext = .power r → exec .powerSample s = .next { s with boot := { s.boot with sensed := r } }) ∧
  (∀ (s : State) (r : PowerReading), s.ev.ext = .none → s.boot.sensed = r →
    ((s.boot.minimal = true ∨ s.boot.starting = true) → exec .powerSample s = .next s) ∧
    (s.boot.minimal = false → s.boot.starting = false →
      ((∃ d, d < 6 ∧ 110 < tabGet 60 r.dies d ∧ d ∈ s.boot.hot) → exec .powerSample s = .next ((s.discard 3).starts r.boots) ∧ (s.discard 3).nvm = s.nvm ∧
        Sys2Proof.Claims.afterReset s (s.discard 3) 3 ∧ ((s.discard 3).starts r.boots).boot.src = 3) ∧
      ((∀ d, d < 6 → 110 < tabGet 60 r.dies d → d ∉ s.boot.hot) → ∃ t, exec .powerSample s = .next t ∧
        (∀ d, d ∈ t.boot.hot ↔ d < 6 ∧ 110 < tabGet 60 r.dies d) ∧ t.boot.watts = r.watts ∧
        t.boot.coolant = r.coolant ∧ t.boot.temps = r.channels ∧ t.nvm = s.nvm ∧ SameMemory s t ∧
        (∀ k, k < 256 → 95 < r.temp k → s.rateOf k < 2 → t.rateOf k = s.rateOf k + 1 ∧ .event 1 k ∈ t.outbox) ∧
        ((∀ k, k < 256 → r.temp k ≤ 95) →
          (r.watts ≤ s.boot.pwrcap → 9 * s.boot.pwrcap < 10 * r.watts → ∀ k, t.rateOf k = s.rateOf k) ∧
          (s.boot.pwrcap < r.watts → ∀ k, k < 8 → (∃ c, c < 32 ∧ s.rateOf (32 * k + c) < 2) → ∃ c, c < 32 ∧ t.rateOf (32 * k + c) = s.rateOf (32 * k + c) + 1 ∧
            ∀ d, d < 32 → s.rateOf (32 * k + d) < 2 → r.temp (32 * k + d) ≤ r.temp (32 * k + c)) ∧
          (s.boot.pwrcap < r.watts → (∀ k, k < 256 → s.rateOf k = 2) → tabSorted s.plots = true → ∀ p, p < 384 →
            ((t.plot p).withheld = true ↔ (s.plot p).withheld = true ∨ (s.inService p = true ∧
              ((List.range 384).filter (fun q => decide (p < q) && s.inService q && !(s.plot q).withheld)).length < 8))) ∧
          (10 * r.watts ≤ 9 * s.boot.pwrcap → (∀ k, k < 256 → r.temp k ≤ 85) → (∃ e ∈ s.plots, e.2.withheld = true) →
            (∀ p, (t.plot p).withheld = false) ∧ (∀ k, t.rateOf k = s.rateOf k) ∧ ∃ d ∈ t.agenda, d.what = .placeCluster ∧ d.due ≤ s.cycle) ∧
          (10 * r.watts ≤ 9 * s.boot.pwrcap → (∀ k, k < 256 → r.temp k ≤ 85) → (∀ e ∈ s.plots, e.2.withheld = false) →
            ∀ k, k < 256 → t.rateOf k = s.rateOf k - 1))))) ∧
  (∀ (s : State) (k code : Nat), k < 256 → tabFind s.boot.switching k = none → ∃ t, s.orderRate k code = t ∧ t.rateOf k = code ∧
    tabGet 0 t.boot.rate k = tabGet 0 s.boot.rate k ∧ Sys2Proof.Claims.InAgenda t (s.cycle + 3000) .hbmRateSwitch { a := k / 32, b := k % 32 }) ∧
  (∀ (s : State), let k := 32 * s.ev.a + s.ev.b
    ((tabFind s.boot.switching k = none ∨ ∃ e c q, tabFind s.boot.switching k = some (e, c, q) ∧ s.cycle < e) → exec .hbmRateSwitch s = .next s) ∧
    (∀ e c q, tabFind s.boot.switching k = some (e, c, q) → e ≤ s.cycle → ∃ t, exec .hbmRateSwitch s = .next t ∧ tabGet 0 t.boot.rate k = c ∧
      t.rateOf k = q.getD c ∧ (q = none → tabFind t.boot.switching k = none) ∧ SameMemory s t)) ∧
  (∀ (s : State), exec .mgmtPwrcapWrite s = .next { s with boot := { s.boot with pwrcap :=
    if s.ev.v.toNat < 600 then 600 else if 1800 < s.ev.v.toNat then 1800 else s.ev.v.toNat } }) ∧
  (∀ (s : State), let n := s.ev.a
    ((n < 0x030 ∨ (0x03F < n ∧ n < 0x200) ∨ 0x23F < n) → exec .mgmtRegisterRead s = .next s) ∧
    (n = 0x200 → exec .mgmtRegisterRead s = .next (s.emit (.mgmtReg n (BitVec.ofNat 64 s.bootReason)))) ∧
    (n = 0x201 → exec .mgmtRegisterRead s = .next (s.emit (.mgmtReg n (BitVec.ofNat 64 s.boot.pwrcap)))) ∧
    (∀ k, k < 8 → n = 0x210 + k → exec .mgmtRegisterRead s = .next (s.emit (.mgmtReg n (BitVec.ofNat 64 (s.hbmRate k)))))) ∧
  (∀ (s : State), exec .pldmMonitoring s = .next { s with outbox := s.outbox ++ [.pldm s.boot.watts s.boot.coolant s.boot.temps] }) ∧
  (∀ (s : State), ∃ t w, exec .mctpControl s = .next t ∧ t.outbox = s.outbox ++ [.mctp s.ev.a w] ∧ { t with outbox := s.outbox, fresh := s.fresh } = s)

/-- Context resets, device resets and starts (R378, R384, R395, R407, R408, R413).
Readings of the model's own, by log entry: context resets (67, 79), device resets and starts (82, 83, 121, 124), VF enable (123), the free
parts of a power-on (2). -/
def Obligations.Resets : Prop :=
  Sys2Proof.Claims.ContextResets ∧ Sys2Proof.Claims.ResetSteps ∧ Sys2Proof.Claims.DeviceStarts

/-- What the host and peers may write and read (R385-R398).
Readings of the model's own, by log entry: area registers (80), requests outside the HBM (81), latencies (11). -/
def Obligations.OutsideAccesses : Prop :=
  Sys2Proof.Claims.RegisterWrites ∧ Sys2Proof.Claims.FabricRequests

/-! ## An invariant -/

/-- Memory at reset is in its canonical form: addresses strictly rising, no byte listed that reads as an unlisted one does. -/
def Obligations.MemoryStartsCanonical : Prop := Memory.wf State.reset.mem = true

/-- Every step keeps memory in its canonical form, from every state whose memory is in it: words, steps of the device, resets and starts alike. -/
def Obligations.MemoryStaysCanonical : Prop :=
  ∀ (s t : State), Memory.wf s.mem = true → step s = .next t → Memory.wf t.mem = true
end

