-- ==== Sys2Proof/Laws/Code.lean ====
section
/-! SUPPORT. The fields of a word: what each layout leaves in its places, and the words of an instruction. -/

namespace Sys2Proof

/-! ## Fields of joined vectors -/

theorem extract_hi {n m : Nat} (x : BitVec n) (y : BitVec m) (s k : Nat) (h : m ≤ s) :
    (x ++ y).extractLsb' s k = x.extractLsb' (s - m) k := by
  ext i hi
  have e : ¬ (s + i < m) := by omega
  have f : s + i - m = s - m + i := by omega
  simp [BitVec.getLsbD_append, e, f]

theorem extract_lo {n m : Nat} (x : BitVec n) (y : BitVec m) (s k : Nat) (h : s + k ≤ m) :
    (x ++ y).extractLsb' s k = y.extractLsb' s k := by
  ext i hi
  have e : s + i < m := by omega
  simp [BitVec.getLsbD_append, e]

theorem extract_all {n : Nat} (x : BitVec n) : x.extractLsb' 0 n = x := by
  ext i hi
  simp


/-! ## Lane words (R69) -/

@[simp] theorem packLane_msb (op d a b : BitVec 7) (x : BitVec 3) : (packLane op d a b x).extractLsb' 31 1 = 0#1 := by
  show (0#1 ++ op ++ d ++ a ++ b ++ x : BitVec (1 + 7 + 7 + 7 + 7 + 3)).extractLsb' 31 1 = 0#1
  rw [extract_hi _ _ _ _ (by decide), extract_hi _ _ _ _ (by decide), extract_hi _ _ _ _ (by decide), extract_hi _ _ _ _ (by decide), extract_hi _ _ _ _ (by decide)]
  exact extract_all _

@[simp] theorem packLane_op (op d a b : BitVec 7) (x : BitVec 3) : (packLane op d a b x).extractLsb' 24 7 = op := by
  show (0#1 ++ op ++ d ++ a ++ b ++ x : BitVec (1 + 7 + 7 + 7 + 7 + 3)).extractLsb' 24 7 = op
  rw [extract_hi _ _ _ _ (by decide), extract_hi _ _ _ _ (by decide), extract_hi _ _ _ _ (by decide), extract_hi _ _ _ _ (by decide), extract_lo _ _ _ _ (by decide)]
  exact extract_all _

@[simp] theorem packLane_d (op d a b : BitVec 7) (x : BitVec 3) : (packLane op d a b x).extractLsb' 17 7 = d := by
  show (0#1 ++ op ++ d ++ a ++ b ++ x : BitVec (1 + 7 + 7 + 7 + 7 + 3)).extractLsb' 17 7 = d
  rw [extract_hi _ _ _ _ (by decide), extract_hi _ _ _ _ (by decide), extract_hi _ _ _ _ (by decide), extract_lo _ _ _ _ (by decide)]
  exact extract_all _

@[simp] theorem packLane_a (op d a b : BitVec 7) (x : BitVec 3) : (packLane op d a b x).extractLsb' 10 7 = a := by
  show (0#1 ++ op ++ d ++ a ++ b ++ x : BitVec (1 + 7 + 7 + 7 + 7 + 3)).extractLsb' 10 7 = a
  rw [extract_hi _ _ _ _ (by decide), extract_hi _ _ _ _ (by decide), extract_lo _ _ _ _ (by decide)]
  exact extract_all _

@[simp] theorem packLane_b (op d a b : BitVec 7) (x : BitVec 3) : (packLane op d a b x).extractLsb' 3 7 = b := by
  show (0#1 ++ op ++ d ++ a ++ b ++ x : BitVec (1 + 7 + 7 + 7 + 7 + 3)).extractLsb' 3 7 = b
  rw [extract_hi _ _ _ _ (by decide), extract_lo _ _ _ _ (by decide)]
  exact extract_all _

@[simp] theorem packLane_x (op d a b : BitVec 7) (x : BitVec 3) : (packLane op d a b x).extractLsb' 0 3 = x := by
  show (0#1 ++ op ++ d ++ a ++ b ++ x : BitVec (1 + 7 + 7 + 7 + 7 + 3)).extractLsb' 0 3 = x
  rw [extract_lo _ _ _ _ (by decide)]
  exact extract_all _

/-! ## Uniform words (R79) -/

@[simp] theorem packUni_msb (op : BitVec 7) (d a b f : BitVec 6) : (packUni op d a b f).extractLsb' 31 1 = 1#1 := by
  show (1#1 ++ op ++ d ++ a ++ b ++ f : BitVec (1 + 7 + 6 + 6 + 6 + 6)).extractLsb' 31 1 = 1#1
  rw [extract_hi _ _ _ _ (by decide), extract_hi _ _ _ _ (by decide), extract_hi _ _ _ _ (by decide), extract_hi _ _ _ _ (by decide), extract_hi _ _ _ _ (by decide)]
  exact extract_all _

@[simp] theorem packUni_op (op : BitVec 7) (d a b f : BitVec 6) : (packUni op d a b f).extractLsb' 24 7 = op := by
  show (1#1 ++ op ++ d ++ a ++ b ++ f : BitVec (1 + 7 + 6 + 6 + 6 + 6)).extractLsb' 24 7 = op
  rw [extract_hi _ _ _ _ (by decide), extract_hi _ _ _ _ (by decide), extract_hi _ _ _ _ (by decide), extract_hi _ _ _ _ (by decide), extract_lo _ _ _ _ (by decide)]
  exact extract_all _

@[simp] theorem packUni_d (op : BitVec 7) (d a b f : BitVec 6) : (packUni op d a b f).extractLsb' 18 6 = d := by
  show (1#1 ++ op ++ d ++ a ++ b ++ f : BitVec (1 + 7 + 6 + 6 + 6 + 6)).extractLsb' 18 6 = d
  rw [extract_hi _ _ _ _ (by decide), extract_hi _ _ _ _ (by decide), extract_hi _ _ _ _ (by decide), extract_lo _ _ _ _ (by decide)]
  exact extract_all _

@[simp] theorem packUni_a (op : BitVec 7) (d a b f : BitVec 6) : (packUni op d a b f).extractLsb' 12 6 = a := by
  show (1#1 ++ op ++ d ++ a ++ b ++ f : BitVec (1 + 7 + 6 + 6 + 6 + 6)).extractLsb' 12 6 = a
  rw [extract_hi _ _ _ _ (by decide), extract_hi _ _ _ _ (by decide), extract_lo _ _ _ _ (by decide)]
  exact extract_all _

@[simp] theorem packUni_b (op : BitVec 7) (d a b f : BitVec 6) : (packUni op d a b f).extractLsb' 6 6 = b := by
  show (1#1 ++ op ++ d ++ a ++ b ++ f : BitVec (1 + 7 + 6 + 6 + 6 + 6)).extractLsb' 6 6 = b
  rw [extract_hi _ _ _ _ (by decide), extract_lo _ _ _ _ (by decide)]
  exact extract_all _

@[simp] theorem packUni_f (op : BitVec 7) (d a b f : BitVec 6) : (packUni op d a b f).extractLsb' 0 6 = f := by
  show (1#1 ++ op ++ d ++ a ++ b ++ f : BitVec (1 + 7 + 6 + 6 + 6 + 6)).extractLsb' 0 6 = f
  rw [extract_lo _ _ _ _ (by decide)]
  exact extract_all _

/-! ## XPFX (R76) -/

@[simp] theorem packPfx_low (k : BitVec 3) (z : BitVec 1) (r : BitVec 3) (s : BitVec 1) (c : BitVec 7) (v : BitVec 1) : (packPfx k z r s c v).extractLsb' 0 8 = 0#8 := by
  show (0xFF#8 ++ k ++ z ++ r ++ s ++ c ++ v ++ 0#8 : BitVec (8 + 3 + 1 + 3 + 1 + 7 + 1 + 8)).extractLsb' 0 8 = 0#8
  rw [extract_lo _ _ _ _ (by decide)]
  exact extract_all _

@[simp] theorem packPfx_k (k : BitVec 3) (z : BitVec 1) (r : BitVec 3) (s : BitVec 1) (c : BitVec 7) (v : BitVec 1) : (packPfx k z r s c v).extractLsb' 21 3 = k := by
  show (0xFF#8 ++ k ++ z ++ r ++ s ++ c ++ v ++ 0#8 : BitVec (8 + 3 + 1 + 3 + 1 + 7 + 1 + 8)).extractLsb' 21 3 = k
  rw [extract_hi _ _ _ _ (by decide), extract_hi _ _ _ _ (by decide), extract_hi _ _ _ _ (by decide), extract_hi _ _ _ _ (by decide), extract_hi _ _ _ _ (by decide), extract_hi _ _ _ _ (by decide), extract_lo _ _ _ _ (by decide)]
  exact extract_all _

@[simp] theorem packPfx_z (k : BitVec 3) (z : BitVec 1) (r : BitVec 3) (s : BitVec 1) (c : BitVec 7) (v : BitVec 1) : (packPfx k z r s c v).extractLsb' 20 1 = z := by
  show (0xFF#8 ++ k ++ z ++ r ++ s ++ c ++ v ++ 0#8 : BitVec (8 + 3 + 1 + 3 + 1 + 7 + 1 + 8)).extractLsb' 20 1 = z
  rw [extract_hi _ _ _ _ (by decide), extract_hi _ _ _ _ (by decide), extract_hi _ _ _ _ (by decide), extract_hi _ _ _ _ (by decide), extract_hi _ _ _ _ (by decide), extract_lo _ _ _ _ (by decide)]
  exact extract_all _

@[simp] theorem packPfx_r (k : BitVec 3) (z : BitVec 1) (r : BitVec 3) (s : BitVec 1) (c : BitVec 7) (v : BitVec 1) : (packPfx k z r s c v).extractLsb' 17 3 = r := by
  show (0xFF#8 ++ k ++ z ++ r ++ s ++ c ++ v ++ 0#8 : BitVec (8 + 3 + 1 + 3 + 1 + 7 + 1 + 8)).extractLsb' 17 3 = r
  rw [extract_hi _ _ _ _ (by decide), extract_hi _ _ _ _ (by decide), extract_hi _ _ _ _ (by decide), extract_hi _ _ _ _ (by decide), extract_lo _ _ _ _ (by decide)]
  exact extract_all _

@[simp] theorem packPfx_s (k : BitVec 3) (z : BitVec 1) (r : BitVec 3) (s : BitVec 1) (c : BitVec 7) (v : BitVec 1) : (packPfx k z r s c v).extractLsb' 16 1 = s := by
  show (0xFF#8 ++ k ++ z ++ r ++ s ++ c ++ v ++ 0#8 : BitVec (8 + 3 + 1 + 3 + 1 + 7 + 1 + 8)).extractLsb' 16 1 = s
  rw [extract_hi _ _ _ _ (by decide), extract_hi _ _ _ _ (by decide), extract_hi _ _ _ _ (by decide), extract_lo _ _ _ _ (by decide)]
  exact extract_all _

@[simp] theorem packPfx_c (k : BitVec 3) (z : BitVec 1) (r : BitVec 3) (s : BitVec 1) (c : BitVec 7) (v : BitVec 1) : (packPfx k z r s c v).extractLsb' 9 7 = c := by
  show (0xFF#8 ++ k ++ z ++ r ++ s ++ c ++ v ++ 0#8 : BitVec (8 + 3 + 1 + 3 + 1 + 7 + 1 + 8)).extractLsb' 9 7 = c
  rw [extract_hi _ _ _ _ (by decide), extract_hi _ _ _ _ (by decide), extract_lo _ _ _ _ (by decide)]
  exact extract_all _

@[simp] theorem packPfx_v (k : BitVec 3) (z : BitVec 1) (r : BitVec 3) (s : BitVec 1) (c : BitVec 7) (v : BitVec 1) : (packPfx k z r s c v).extractLsb' 8 1 = v := by
  show (0xFF#8 ++ k ++ z ++ r ++ s ++ c ++ v ++ 0#8 : BitVec (8 + 3 + 1 + 3 + 1 + 7 + 1 + 8)).extractLsb' 8 1 = v
  rw [extract_hi _ _ _ _ (by decide), extract_lo _ _ _ _ (by decide)]
  exact extract_all _

theorem packPfx_msb (k : BitVec 3) (z : BitVec 1) (r : BitVec 3) (s : BitVec 1) (c : BitVec 7) (v : BitVec 1) :
    (packPfx k z r s c v).extractLsb' 31 1 = 1#1 := by
  show (0xFF#8 ++ k ++ z ++ r ++ s ++ c ++ v ++ 0#8 : BitVec (8 + 3 + 1 + 3 + 1 + 7 + 1 + 8)).extractLsb' 31 1 = 1#1
  rw [extract_hi _ _ _ _ (by decide), extract_hi _ _ _ _ (by decide), extract_hi _ _ _ _ (by decide), extract_hi _ _ _ _ (by decide),
    extract_hi _ _ _ _ (by decide), extract_hi _ _ _ _ (by decide), extract_hi _ _ _ _ (by decide)]
  decide

/-! ## Decoding a packed word -/

theorem wordOp_packLane (op d a b : BitVec 7) (x : BitVec 3) : wordOp (packLane op d a b x) = op := packLane_op op d a b x
theorem wordOp_packUni (op : BitVec 7) (d a b f : BitVec 6) : wordOp (packUni op d a b f) = op := packUni_op op d a b f

/-- A lane word decodes by its opcode and its fields. -/
theorem decode_packLane (op d a b : BitVec 7) (x : BitVec 3) (rest : List Word) :
    decode (packLane op d a b x :: rest) = decodeLane op.toNat d a b x := by
  simp [decode, wordOp_packLane]

/-- A uniform word that carries no literal decodes by its opcode and its fields. -/
theorem decode_packUni (op : BitVec 7) (d a b f : BitVec 6) (rest : List Word) (h : op ≠ 127#7) (h1 : op ≠ 23#7) (h2 : op ≠ 24#7) :
    decode (packUni op d a b f :: rest) = decodeUni op.toNat d a b f := by
  simp [decode, wordOp_packUni, h, h1, h2]

end Sys2Proof
end

