-- ==== Sys2Proof/Laws/Tab.lean ====
section
/-! SUPPORT. Sparse tables: what a table reads after each change of it, and the canonical form of memory that every change keeps. -/

namespace Sys2Proof.Machine

variable {α : Type}

/-! ## Reading after a change -/

@[simp] theorem tabFind_nil (k : Nat) : tabFind ([] : Tab α) k = none := rfl

@[simp] theorem tabFind_tabPut_same (t : Tab α) (k : Nat) (a : α) : tabFind (tabPut t k a) k = some a := by
  induction t with
  | nil => simp [tabPut, tabFind]
  | cons x t ih =>
    obtain ⟨j, b⟩ := x
    simp only [tabPut]
    split
    · simp [tabFind]
    · split
      · simp [tabFind]
      · next hne => simp [tabFind, Ne.symm hne, ih]

theorem tabFind_tabPut_ne (t : Tab α) {k j : Nat} (a : α) (h : j ≠ k) : tabFind (tabPut t k a) j = tabFind t j := by
  induction t with
  | nil => simp [tabPut, tabFind, Ne.symm h]
  | cons x t ih =>
    obtain ⟨i, b⟩ := x
    simp only [tabPut]
    split
    · simp [tabFind, Ne.symm h]
    · split
      · next e => subst e; simp [tabFind, Ne.symm h]
      · simp [tabFind, ih]

@[simp] theorem tabFind_tabDel_same (t : Tab α) (k : Nat) : tabFind (tabDel t k) k = none := by
  induction t with
  | nil => rfl
  | cons x t ih =>
    obtain ⟨j, b⟩ := x
    simp only [tabDel]
    split
    · exact ih
    · next hne => simp [tabFind, hne, ih]

theorem tabFind_tabDel_ne (t : Tab α) {k j : Nat} (h : j ≠ k) : tabFind (tabDel t k) j = tabFind t j := by
  induction t with
  | nil => rfl
  | cons x t ih =>
    obtain ⟨i, b⟩ := x
    simp only [tabDel]
    split
    · next e => subst e; simp [tabFind, Ne.symm h, ih]
    · simp [tabFind, ih]

@[simp] theorem tabGet_tabPut_same (d : α) (t : Tab α) (k : Nat) (a : α) : tabGet d (tabPut t k a) k = a := by simp [tabGet]

theorem tabGet_tabPut_ne (d : α) (t : Tab α) {k j : Nat} (a : α) (h : j ≠ k) : tabGet d (tabPut t k a) j = tabGet d t j := by
  simp [tabGet, tabFind_tabPut_ne t a h]

@[simp] theorem tabGet_tabSet_same [DecidableEq α] (d : α) (t : Tab α) (k : Nat) (a : α) : tabGet d (tabSet d t k a) k = a := by
  unfold tabSet
  split
  · next e => simp [tabGet, e]
  · simp

theorem tabGet_tabSet_ne [DecidableEq α] (d : α) (t : Tab α) {k j : Nat} (a : α) (h : j ≠ k) :
    tabGet d (tabSet d t k a) j = tabGet d t j := by
  unfold tabSet
  split
  · simp [tabGet, tabFind_tabDel_ne t h]
  · exact tabGet_tabPut_ne d t a h

@[simp] theorem tabGet_tabMod_same (d : α) (t : Tab α) (k : Nat) (f : α → α) : tabGet d (tabMod d t k f) k = f (tabGet d t k) := by
  simp [tabMod]

theorem tabGet_tabMod_ne (d : α) (t : Tab α) {k j : Nat} (f : α → α) (h : j ≠ k) : tabGet d (tabMod d t k f) j = tabGet d t j :=
  tabGet_tabPut_ne d t _ h

/-! ## The canonical form -/

/-- Every key of a table is above `n`. -/
theorem tabSorted_tail {x : Nat × α} {t : Tab α} (h : tabSorted (x :: t) = true) : tabSorted t = true := by
  cases t with
  | nil => rfl
  | cons y t => simp only [tabSorted, Bool.and_eq_true] at h; exact h.2

theorem tabSorted_cons {j : Nat} {b : α} {t : Tab α} :
    tabSorted ((j, b) :: t) = true ↔ (∀ e ∈ t, j < e.1) ∧ tabSorted t = true := by
  induction t generalizing j b with
  | nil => simp [tabSorted]
  | cons y t ih =>
    obtain ⟨k, c⟩ := y
    have key : tabSorted ((j, b) :: (k, c) :: t) = true ↔ j < k ∧ tabSorted ((k, c) :: t) = true := by simp [tabSorted]
    rw [key]
    constructor
    · rintro ⟨h1, h2⟩
      refine ⟨?_, h2⟩
      intro e he
      cases he with
      | head => exact h1
      | tail _ he => exact Nat.lt_trans h1 ((ih.1 h2).1 e he)
    · rintro ⟨h1, h2⟩
      exact ⟨h1 (k, c) (by simp), h2⟩

theorem mem_tabPut {t : Tab α} {k : Nat} {a : α} {e : Nat × α} (h : e ∈ tabPut t k a) : e = (k, a) ∨ e ∈ t := by
  induction t with
  | nil => simp [tabPut] at h; exact .inl h
  | cons x t ih =>
    obtain ⟨j, b⟩ := x
    simp only [tabPut] at h
    split at h
    · simpa using h
    · split at h
      · rcases List.mem_cons.1 h with h | h
        · exact .inl h
        · exact .inr (List.mem_cons_of_mem _ h)
      · rcases List.mem_cons.1 h with h | h
        · exact .inr (h ▸ List.mem_cons_self)
        · rcases ih h with h | h
          · exact .inl h
          · exact .inr (List.mem_cons_of_mem _ h)

theorem mem_tabDel {t : Tab α} {k : Nat} {e : Nat × α} (h : e ∈ tabDel t k) : e ∈ t := by
  induction t with
  | nil => cases h
  | cons x t ih =>
    obtain ⟨j, b⟩ := x
    simp only [tabDel] at h
    split at h
    · exact List.mem_cons_of_mem _ (ih h)
    · rcases List.mem_cons.1 h with h | h
      · exact h ▸ List.mem_cons_self
      · exact List.mem_cons_of_mem _ (ih h)

theorem tabSorted_tabPut {t : Tab α} (k : Nat) (a : α) (h : tabSorted t = true) : tabSorted (tabPut t k a) = true := by
  induction t with
  | nil => rfl
  | cons x t ih =>
    obtain ⟨j, b⟩ := x
    have hc := tabSorted_cons.1 h
    simp only [tabPut]
    split
    · next hlt =>
      refine tabSorted_cons.2 ⟨?_, h⟩
      intro e he
      rcases List.mem_cons.1 he with rfl | he
      · exact hlt
      · exact Nat.lt_trans hlt (hc.1 e he)
    · split
      · next e => subst e; exact tabSorted_cons.2 hc
      · next hn hne =>
        refine tabSorted_cons.2 ⟨?_, ih hc.2⟩
        intro e he
        rcases mem_tabPut he with rfl | he
        · exact Nat.lt_of_le_of_ne (Nat.le_of_not_lt hn) (Ne.symm hne)
        · exact hc.1 e he

theorem tabSorted_tabDel {t : Tab α} (k : Nat) (h : tabSorted t = true) : tabSorted (tabDel t k) = true := by
  induction t with
  | nil => rfl
  | cons x t ih =>
    obtain ⟨j, b⟩ := x
    have hc := tabSorted_cons.1 h
    simp only [tabDel]
    split
    · exact ih hc.2
    · exact tabSorted_cons.2 ⟨fun e he => hc.1 e (mem_tabDel he), ih hc.2⟩

theorem tabSorted_filter {t : Tab α} (p : Nat × α → Bool) (h : tabSorted t = true) : tabSorted (t.filter p) = true := by
  induction t with
  | nil => rfl
  | cons x t ih =>
    obtain ⟨j, b⟩ := x
    have hc := tabSorted_cons.1 h
    rw [List.filter_cons]
    split
    · exact tabSorted_cons.2 ⟨fun e he => hc.1 e (List.mem_filter.1 he).1, ih hc.2⟩
    · exact ih hc.2

/-- A write keeps the form of a memory. -/
theorem Memory.wf_tabSet {m : Memory} (k : Nat) (b : BitVec 8) (h : m.wf = true) : Memory.wf (tabSet 0 m k b) = true := by
  simp only [Memory.wf, Bool.and_eq_true, List.all_eq_true, decide_eq_true_eq] at h ⊢
  unfold tabSet
  split
  · exact ⟨tabSorted_tabDel k h.1, fun e he => h.2 e (mem_tabDel he)⟩
  · next hne =>
    refine ⟨tabSorted_tabPut k b h.1, fun e he => ?_⟩
    rcases mem_tabPut he with rfl | he
    · exact hne
    · exact h.2 e he

/-- Dropping bytes keeps the form of a memory. -/
theorem Memory.wf_filter {m : Memory} (p : Host.Cell → Bool) (h : m.wf = true) : Memory.wf (m.filter p) = true := by
  simp only [Memory.wf, Bool.and_eq_true, List.all_eq_true, decide_eq_true_eq] at h ⊢
  exact ⟨tabSorted_filter p h.1, fun e he => h.2 e (List.mem_filter.1 he).1⟩

end Sys2Proof.Machine
end

