-- ==== Sys2Proof/Laws/State.lean ====
section
/-! SUPPORT. Each named update of the state changes one field: what it leaves there, and every other field as it was. -/

namespace Sys2Proof.Machine

/-! ## setGroup -/

@[simp] theorem State.setGroup_cycle (s : State) (g : Nat) (x : Group) : (s.setGroup g x).cycle = s.cycle := rfl
@[simp] theorem State.setGroup_todo (s : State) (g : Nat) (x : Group) : (s.setGroup g x).todo = s.todo := rfl
@[simp] theorem State.setGroup_agenda (s : State) (g : Nat) (x : Group) : (s.setGroup g x).agenda = s.agenda := rfl
@[simp] theorem State.setGroup_ev (s : State) (g : Nat) (x : Group) : (s.setGroup g x).ev = s.ev := rfl
@[simp] theorem State.setGroup_fresh (s : State) (g : Nat) (x : Group) : (s.setGroup g x).fresh = s.fresh := rfl
@[simp] theorem State.setGroup_nextId (s : State) (g : Nat) (x : Group) : (s.setGroup g x).nextId = s.nextId := rfl
@[simp] theorem State.setGroup_mem (s : State) (g : Nat) (x : Group) : (s.setGroup g x).mem = s.mem := rfl
@[simp] theorem State.setGroup_desc (s : State) (g : Nat) (x : Group) : (s.setGroup g x).desc = s.desc := rfl
@[simp] theorem State.setGroup_poison (s : State) (g : Nat) (x : Group) : (s.setGroup g x).poison = s.poison := rfl
@[simp] theorem State.setGroup_eccErrors (s : State) (g : Nat) (x : Group) : (s.setGroup g x).eccErrors = s.eccErrors := rfl
@[simp] theorem State.setGroup_l2Errors (s : State) (g : Nat) (x : Group) : (s.setGroup g x).l2Errors = s.l2Errors := rfl
@[simp] theorem State.setGroup_scrub (s : State) (g : Nat) (x : Group) : (s.setGroup g x).scrub = s.scrub := rfl
@[simp] theorem State.setGroup_under (s : State) (g : Nat) (x : Group) : (s.setGroup g x).under = s.under := rfl
@[simp] theorem State.setGroup_versions (s : State) (g : Nat) (x : Group) : (s.setGroup g x).versions = s.versions := rfl
@[simp] theorem State.setGroup_switches (s : State) (g : Nat) (x : Group) : (s.setGroup g x).switches = s.switches := rfl
@[simp] theorem State.setGroup_groups (s : State) (g : Nat) (x : Group) : (s.setGroup g x).groups = tabPut s.groups g x := rfl
@[simp] theorem State.setGroup_teams (s : State) (g : Nat) (x : Group) : (s.setGroup g x).teams = s.teams := rfl
@[simp] theorem State.setGroup_clusters (s : State) (g : Nat) (x : Group) : (s.setGroup g x).clusters = s.clusters := rfl
@[simp] theorem State.setGroup_ctxs (s : State) (g : Nat) (x : Group) : (s.setGroup g x).ctxs = s.ctxs := rfl
@[simp] theorem State.setGroup_plots (s : State) (g : Nat) (x : Group) : (s.setGroup g x).plots = s.plots := rfl
@[simp] theorem State.setGroup_quads (s : State) (g : Nat) (x : Group) : (s.setGroup g x).quads = s.quads := rfl
@[simp] theorem State.setGroup_dies (s : State) (g : Nat) (x : Group) : (s.setGroup g x).dies = s.dies := rfl
@[simp] theorem State.setGroup_ces (s : State) (g : Nat) (x : Group) : (s.setGroup g x).ces = s.ces := rfl
@[simp] theorem State.setGroup_cmds (s : State) (g : Nat) (x : Group) : (s.setGroup g x).cmds = s.cmds := rfl
@[simp] theorem State.setGroup_frames (s : State) (g : Nat) (x : Group) : (s.setGroup g x).frames = s.frames := rfl
@[simp] theorem State.setGroup_leases (s : State) (g : Nat) (x : Group) : (s.setGroup g x).leases = s.leases := rfl
@[simp] theorem State.setGroup_pgc (s : State) (g : Nat) (x : Group) : (s.setGroup g x).pgc = s.pgc := rfl
@[simp] theorem State.setGroup_regs (s : State) (g : Nat) (x : Group) : (s.setGroup g x).regs = s.regs := rfl
@[simp] theorem State.setGroup_nvm (s : State) (g : Nat) (x : Group) : (s.setGroup g x).nvm = s.nvm := rfl
@[simp] theorem State.setGroup_boot (s : State) (g : Nat) (x : Group) : (s.setGroup g x).boot = s.boot := rfl
@[simp] theorem State.setGroup_placerLast (s : State) (g : Nat) (x : Group) : (s.setGroup g x).placerLast = s.placerLast := rfl
@[simp] theorem State.setGroup_outbox (s : State) (g : Nat) (x : Group) : (s.setGroup g x).outbox = s.outbox := rfl

/-! ## modGroup -/

@[simp] theorem State.modGroup_cycle (s : State) (g : Nat) (f : Group → Group) : (s.modGroup g f).cycle = s.cycle := rfl
@[simp] theorem State.modGroup_todo (s : State) (g : Nat) (f : Group → Group) : (s.modGroup g f).todo = s.todo := rfl
@[simp] theorem State.modGroup_agenda (s : State) (g : Nat) (f : Group → Group) : (s.modGroup g f).agenda = s.agenda := rfl
@[simp] theorem State.modGroup_ev (s : State) (g : Nat) (f : Group → Group) : (s.modGroup g f).ev = s.ev := rfl
@[simp] theorem State.modGroup_fresh (s : State) (g : Nat) (f : Group → Group) : (s.modGroup g f).fresh = s.fresh := rfl
@[simp] theorem State.modGroup_nextId (s : State) (g : Nat) (f : Group → Group) : (s.modGroup g f).nextId = s.nextId := rfl
@[simp] theorem State.modGroup_mem (s : State) (g : Nat) (f : Group → Group) : (s.modGroup g f).mem = s.mem := rfl
@[simp] theorem State.modGroup_desc (s : State) (g : Nat) (f : Group → Group) : (s.modGroup g f).desc = s.desc := rfl
@[simp] theorem State.modGroup_poison (s : State) (g : Nat) (f : Group → Group) : (s.modGroup g f).poison = s.poison := rfl
@[simp] theorem State.modGroup_eccErrors (s : State) (g : Nat) (f : Group → Group) : (s.modGroup g f).eccErrors = s.eccErrors := rfl
@[simp] theorem State.modGroup_l2Errors (s : State) (g : Nat) (f : Group → Group) : (s.modGroup g f).l2Errors = s.l2Errors := rfl
@[simp] theorem State.modGroup_scrub (s : State) (g : Nat) (f : Group → Group) : (s.modGroup g f).scrub = s.scrub := rfl
@[simp] theorem State.modGroup_under (s : State) (g : Nat) (f : Group → Group) : (s.modGroup g f).under = s.under := rfl
@[simp] theorem State.modGroup_versions (s : State) (g : Nat) (f : Group → Group) : (s.modGroup g f).versions = s.versions := rfl
@[simp] theorem State.modGroup_switches (s : State) (g : Nat) (f : Group → Group) : (s.modGroup g f).switches = s.switches := rfl
@[simp] theorem State.modGroup_groups (s : State) (g : Nat) (f : Group → Group) : (s.modGroup g f).groups = tabUpd s.groups g f := rfl
@[simp] theorem State.modGroup_teams (s : State) (g : Nat) (f : Group → Group) : (s.modGroup g f).teams = s.teams := rfl
@[simp] theorem State.modGroup_clusters (s : State) (g : Nat) (f : Group → Group) : (s.modGroup g f).clusters = s.clusters := rfl
@[simp] theorem State.modGroup_ctxs (s : State) (g : Nat) (f : Group → Group) : (s.modGroup g f).ctxs = s.ctxs := rfl
@[simp] theorem State.modGroup_plots (s : State) (g : Nat) (f : Group → Group) : (s.modGroup g f).plots = s.plots := rfl
@[simp] theorem State.modGroup_quads (s : State) (g : Nat) (f : Group → Group) : (s.modGroup g f).quads = s.quads := rfl
@[simp] theorem State.modGroup_dies (s : State) (g : Nat) (f : Group → Group) : (s.modGroup g f).dies = s.dies := rfl
@[simp] theorem State.modGroup_ces (s : State) (g : Nat) (f : Group → Group) : (s.modGroup g f).ces = s.ces := rfl
@[simp] theorem State.modGroup_cmds (s : State) (g : Nat) (f : Group → Group) : (s.modGroup g f).cmds = s.cmds := rfl
@[simp] theorem State.modGroup_frames (s : State) (g : Nat) (f : Group → Group) : (s.modGroup g f).frames = s.frames := rfl
@[simp] theorem State.modGroup_leases (s : State) (g : Nat) (f : Group → Group) : (s.modGroup g f).leases = s.leases := rfl
@[simp] theorem State.modGroup_pgc (s : State) (g : Nat) (f : Group → Group) : (s.modGroup g f).pgc = s.pgc := rfl
@[simp] theorem State.modGroup_regs (s : State) (g : Nat) (f : Group → Group) : (s.modGroup g f).regs = s.regs := rfl
@[simp] theorem State.modGroup_nvm (s : State) (g : Nat) (f : Group → Group) : (s.modGroup g f).nvm = s.nvm := rfl
@[simp] theorem State.modGroup_boot (s : State) (g : Nat) (f : Group → Group) : (s.modGroup g f).boot = s.boot := rfl
@[simp] theorem State.modGroup_placerLast (s : State) (g : Nat) (f : Group → Group) : (s.modGroup g f).placerLast = s.placerLast := rfl
@[simp] theorem State.modGroup_outbox (s : State) (g : Nat) (f : Group → Group) : (s.modGroup g f).outbox = s.outbox := rfl

/-! ## modTeam -/

@[simp] theorem State.modTeam_cycle (s : State) (k : Nat) (f : Team → Team) : (s.modTeam k f).cycle = s.cycle := rfl
@[simp] theorem State.modTeam_todo (s : State) (k : Nat) (f : Team → Team) : (s.modTeam k f).todo = s.todo := rfl
@[simp] theorem State.modTeam_agenda (s : State) (k : Nat) (f : Team → Team) : (s.modTeam k f).agenda = s.agenda := rfl
@[simp] theorem State.modTeam_ev (s : State) (k : Nat) (f : Team → Team) : (s.modTeam k f).ev = s.ev := rfl
@[simp] theorem State.modTeam_fresh (s : State) (k : Nat) (f : Team → Team) : (s.modTeam k f).fresh = s.fresh := rfl
@[simp] theorem State.modTeam_nextId (s : State) (k : Nat) (f : Team → Team) : (s.modTeam k f).nextId = s.nextId := rfl
@[simp] theorem State.modTeam_mem (s : State) (k : Nat) (f : Team → Team) : (s.modTeam k f).mem = s.mem := rfl
@[simp] theorem State.modTeam_desc (s : State) (k : Nat) (f : Team → Team) : (s.modTeam k f).desc = s.desc := rfl
@[simp] theorem State.modTeam_poison (s : State) (k : Nat) (f : Team → Team) : (s.modTeam k f).poison = s.poison := rfl
@[simp] theorem State.modTeam_eccErrors (s : State) (k : Nat) (f : Team → Team) : (s.modTeam k f).eccErrors = s.eccErrors := rfl
@[simp] theorem State.modTeam_l2Errors (s : State) (k : Nat) (f : Team → Team) : (s.modTeam k f).l2Errors = s.l2Errors := rfl
@[simp] theorem State.modTeam_scrub (s : State) (k : Nat) (f : Team → Team) : (s.modTeam k f).scrub = s.scrub := rfl
@[simp] theorem State.modTeam_under (s : State) (k : Nat) (f : Team → Team) : (s.modTeam k f).under = s.under := rfl
@[simp] theorem State.modTeam_versions (s : State) (k : Nat) (f : Team → Team) : (s.modTeam k f).versions = s.versions := rfl
@[simp] theorem State.modTeam_switches (s : State) (k : Nat) (f : Team → Team) : (s.modTeam k f).switches = s.switches := rfl
@[simp] theorem State.modTeam_groups (s : State) (k : Nat) (f : Team → Team) : (s.modTeam k f).groups = s.groups := rfl
@[simp] theorem State.modTeam_teams (s : State) (k : Nat) (f : Team → Team) : (s.modTeam k f).teams = tabUpd s.teams k f := rfl
@[simp] theorem State.modTeam_clusters (s : State) (k : Nat) (f : Team → Team) : (s.modTeam k f).clusters = s.clusters := rfl
@[simp] theorem State.modTeam_ctxs (s : State) (k : Nat) (f : Team → Team) : (s.modTeam k f).ctxs = s.ctxs := rfl
@[simp] theorem State.modTeam_plots (s : State) (k : Nat) (f : Team → Team) : (s.modTeam k f).plots = s.plots := rfl
@[simp] theorem State.modTeam_quads (s : State) (k : Nat) (f : Team → Team) : (s.modTeam k f).quads = s.quads := rfl
@[simp] theorem State.modTeam_dies (s : State) (k : Nat) (f : Team → Team) : (s.modTeam k f).dies = s.dies := rfl
@[simp] theorem State.modTeam_ces (s : State) (k : Nat) (f : Team → Team) : (s.modTeam k f).ces = s.ces := rfl
@[simp] theorem State.modTeam_cmds (s : State) (k : Nat) (f : Team → Team) : (s.modTeam k f).cmds = s.cmds := rfl
@[simp] theorem State.modTeam_frames (s : State) (k : Nat) (f : Team → Team) : (s.modTeam k f).frames = s.frames := rfl
@[simp] theorem State.modTeam_leases (s : State) (k : Nat) (f : Team → Team) : (s.modTeam k f).leases = s.leases := rfl
@[simp] theorem State.modTeam_pgc (s : State) (k : Nat) (f : Team → Team) : (s.modTeam k f).pgc = s.pgc := rfl
@[simp] theorem State.modTeam_regs (s : State) (k : Nat) (f : Team → Team) : (s.modTeam k f).regs = s.regs := rfl
@[simp] theorem State.modTeam_nvm (s : State) (k : Nat) (f : Team → Team) : (s.modTeam k f).nvm = s.nvm := rfl
@[simp] theorem State.modTeam_boot (s : State) (k : Nat) (f : Team → Team) : (s.modTeam k f).boot = s.boot := rfl
@[simp] theorem State.modTeam_placerLast (s : State) (k : Nat) (f : Team → Team) : (s.modTeam k f).placerLast = s.placerLast := rfl
@[simp] theorem State.modTeam_outbox (s : State) (k : Nat) (f : Team → Team) : (s.modTeam k f).outbox = s.outbox := rfl

/-! ## modCluster -/

@[simp] theorem State.modCluster_cycle (s : State) (k : Nat) (f : Cluster → Cluster) : (s.modCluster k f).cycle = s.cycle := rfl
@[simp] theorem State.modCluster_todo (s : State) (k : Nat) (f : Cluster → Cluster) : (s.modCluster k f).todo = s.todo := rfl
@[simp] theorem State.modCluster_agenda (s : State) (k : Nat) (f : Cluster → Cluster) : (s.modCluster k f).agenda = s.agenda := rfl
@[simp] theorem State.modCluster_ev (s : State) (k : Nat) (f : Cluster → Cluster) : (s.modCluster k f).ev = s.ev := rfl
@[simp] theorem State.modCluster_fresh (s : State) (k : Nat) (f : Cluster → Cluster) : (s.modCluster k f).fresh = s.fresh := rfl
@[simp] theorem State.modCluster_nextId (s : State) (k : Nat) (f : Cluster → Cluster) : (s.modCluster k f).nextId = s.nextId := rfl
@[simp] theorem State.modCluster_mem (s : State) (k : Nat) (f : Cluster → Cluster) : (s.modCluster k f).mem = s.mem := rfl
@[simp] theorem State.modCluster_desc (s : State) (k : Nat) (f : Cluster → Cluster) : (s.modCluster k f).desc = s.desc := rfl
@[simp] theorem State.modCluster_poison (s : State) (k : Nat) (f : Cluster → Cluster) : (s.modCluster k f).poison = s.poison := rfl
@[simp] theorem State.modCluster_eccErrors (s : State) (k : Nat) (f : Cluster → Cluster) : (s.modCluster k f).eccErrors = s.eccErrors := rfl
@[simp] theorem State.modCluster_l2Errors (s : State) (k : Nat) (f : Cluster → Cluster) : (s.modCluster k f).l2Errors = s.l2Errors := rfl
@[simp] theorem State.modCluster_scrub (s : State) (k : Nat) (f : Cluster → Cluster) : (s.modCluster k f).scrub = s.scrub := rfl
@[simp] theorem State.modCluster_under (s : State) (k : Nat) (f : Cluster → Cluster) : (s.modCluster k f).under = s.under := rfl
@[simp] theorem State.modCluster_versions (s : State) (k : Nat) (f : Cluster → Cluster) : (s.modCluster k f).versions = s.versions := rfl
@[simp] theorem State.modCluster_switches (s : State) (k : Nat) (f : Cluster → Cluster) : (s.modCluster k f).switches = s.switches := rfl
@[simp] theorem State.modCluster_groups (s : State) (k : Nat) (f : Cluster → Cluster) : (s.modCluster k f).groups = s.groups := rfl
@[simp] theorem State.modCluster_teams (s : State) (k : Nat) (f : Cluster → Cluster) : (s.modCluster k f).teams = s.teams := rfl
@[simp] theorem State.modCluster_clusters (s : State) (k : Nat) (f : Cluster → Cluster) : (s.modCluster k f).clusters = tabUpd s.clusters k f := rfl
@[simp] theorem State.modCluster_ctxs (s : State) (k : Nat) (f : Cluster → Cluster) : (s.modCluster k f).ctxs = s.ctxs := rfl
@[simp] theorem State.modCluster_plots (s : State) (k : Nat) (f : Cluster → Cluster) : (s.modCluster k f).plots = s.plots := rfl
@[simp] theorem State.modCluster_quads (s : State) (k : Nat) (f : Cluster → Cluster) : (s.modCluster k f).quads = s.quads := rfl
@[simp] theorem State.modCluster_dies (s : State) (k : Nat) (f : Cluster → Cluster) : (s.modCluster k f).dies = s.dies := rfl
@[simp] theorem State.modCluster_ces (s : State) (k : Nat) (f : Cluster → Cluster) : (s.modCluster k f).ces = s.ces := rfl
@[simp] theorem State.modCluster_cmds (s : State) (k : Nat) (f : Cluster → Cluster) : (s.modCluster k f).cmds = s.cmds := rfl
@[simp] theorem State.modCluster_frames (s : State) (k : Nat) (f : Cluster → Cluster) : (s.modCluster k f).frames = s.frames := rfl
@[simp] theorem State.modCluster_leases (s : State) (k : Nat) (f : Cluster → Cluster) : (s.modCluster k f).leases = s.leases := rfl
@[simp] theorem State.modCluster_pgc (s : State) (k : Nat) (f : Cluster → Cluster) : (s.modCluster k f).pgc = s.pgc := rfl
@[simp] theorem State.modCluster_regs (s : State) (k : Nat) (f : Cluster → Cluster) : (s.modCluster k f).regs = s.regs := rfl
@[simp] theorem State.modCluster_nvm (s : State) (k : Nat) (f : Cluster → Cluster) : (s.modCluster k f).nvm = s.nvm := rfl
@[simp] theorem State.modCluster_boot (s : State) (k : Nat) (f : Cluster → Cluster) : (s.modCluster k f).boot = s.boot := rfl
@[simp] theorem State.modCluster_placerLast (s : State) (k : Nat) (f : Cluster → Cluster) : (s.modCluster k f).placerLast = s.placerLast := rfl
@[simp] theorem State.modCluster_outbox (s : State) (k : Nat) (f : Cluster → Cluster) : (s.modCluster k f).outbox = s.outbox := rfl

/-! ## modCtx -/

@[simp] theorem State.modCtx_cycle (s : State) (k : Nat) (f : Context → Context) : (s.modCtx k f).cycle = s.cycle := rfl
@[simp] theorem State.modCtx_todo (s : State) (k : Nat) (f : Context → Context) : (s.modCtx k f).todo = s.todo := rfl
@[simp] theorem State.modCtx_agenda (s : State) (k : Nat) (f : Context → Context) : (s.modCtx k f).agenda = s.agenda := rfl
@[simp] theorem State.modCtx_ev (s : State) (k : Nat) (f : Context → Context) : (s.modCtx k f).ev = s.ev := rfl
@[simp] theorem State.modCtx_fresh (s : State) (k : Nat) (f : Context → Context) : (s.modCtx k f).fresh = s.fresh := rfl
@[simp] theorem State.modCtx_nextId (s : State) (k : Nat) (f : Context → Context) : (s.modCtx k f).nextId = s.nextId := rfl
@[simp] theorem State.modCtx_mem (s : State) (k : Nat) (f : Context → Context) : (s.modCtx k f).mem = s.mem := rfl
@[simp] theorem State.modCtx_desc (s : State) (k : Nat) (f : Context → Context) : (s.modCtx k f).desc = s.desc := rfl
@[simp] theorem State.modCtx_poison (s : State) (k : Nat) (f : Context → Context) : (s.modCtx k f).poison = s.poison := rfl
@[simp] theorem State.modCtx_eccErrors (s : State) (k : Nat) (f : Context → Context) : (s.modCtx k f).eccErrors = s.eccErrors := rfl
@[simp] theorem State.modCtx_l2Errors (s : State) (k : Nat) (f : Context → Context) : (s.modCtx k f).l2Errors = s.l2Errors := rfl
@[simp] theorem State.modCtx_scrub (s : State) (k : Nat) (f : Context → Context) : (s.modCtx k f).scrub = s.scrub := rfl
@[simp] theorem State.modCtx_under (s : State) (k : Nat) (f : Context → Context) : (s.modCtx k f).under = s.under := rfl
@[simp] theorem State.modCtx_versions (s : State) (k : Nat) (f : Context → Context) : (s.modCtx k f).versions = s.versions := rfl
@[simp] theorem State.modCtx_switches (s : State) (k : Nat) (f : Context → Context) : (s.modCtx k f).switches = s.switches := rfl
@[simp] theorem State.modCtx_groups (s : State) (k : Nat) (f : Context → Context) : (s.modCtx k f).groups = s.groups := rfl
@[simp] theorem State.modCtx_teams (s : State) (k : Nat) (f : Context → Context) : (s.modCtx k f).teams = s.teams := rfl
@[simp] theorem State.modCtx_clusters (s : State) (k : Nat) (f : Context → Context) : (s.modCtx k f).clusters = s.clusters := rfl
@[simp] theorem State.modCtx_ctxs (s : State) (k : Nat) (f : Context → Context) : (s.modCtx k f).ctxs = tabMod {} s.ctxs k f := rfl
@[simp] theorem State.modCtx_plots (s : State) (k : Nat) (f : Context → Context) : (s.modCtx k f).plots = s.plots := rfl
@[simp] theorem State.modCtx_quads (s : State) (k : Nat) (f : Context → Context) : (s.modCtx k f).quads = s.quads := rfl
@[simp] theorem State.modCtx_dies (s : State) (k : Nat) (f : Context → Context) : (s.modCtx k f).dies = s.dies := rfl
@[simp] theorem State.modCtx_ces (s : State) (k : Nat) (f : Context → Context) : (s.modCtx k f).ces = s.ces := rfl
@[simp] theorem State.modCtx_cmds (s : State) (k : Nat) (f : Context → Context) : (s.modCtx k f).cmds = s.cmds := rfl
@[simp] theorem State.modCtx_frames (s : State) (k : Nat) (f : Context → Context) : (s.modCtx k f).frames = s.frames := rfl
@[simp] theorem State.modCtx_leases (s : State) (k : Nat) (f : Context → Context) : (s.modCtx k f).leases = s.leases := rfl
@[simp] theorem State.modCtx_pgc (s : State) (k : Nat) (f : Context → Context) : (s.modCtx k f).pgc = s.pgc := rfl
@[simp] theorem State.modCtx_regs (s : State) (k : Nat) (f : Context → Context) : (s.modCtx k f).regs = s.regs := rfl
@[simp] theorem State.modCtx_nvm (s : State) (k : Nat) (f : Context → Context) : (s.modCtx k f).nvm = s.nvm := rfl
@[simp] theorem State.modCtx_boot (s : State) (k : Nat) (f : Context → Context) : (s.modCtx k f).boot = s.boot := rfl
@[simp] theorem State.modCtx_placerLast (s : State) (k : Nat) (f : Context → Context) : (s.modCtx k f).placerLast = s.placerLast := rfl
@[simp] theorem State.modCtx_outbox (s : State) (k : Nat) (f : Context → Context) : (s.modCtx k f).outbox = s.outbox := rfl

/-! ## modPlot -/

@[simp] theorem State.modPlot_cycle (s : State) (k : Nat) (f : Plot → Plot) : (s.modPlot k f).cycle = s.cycle := rfl
@[simp] theorem State.modPlot_todo (s : State) (k : Nat) (f : Plot → Plot) : (s.modPlot k f).todo = s.todo := rfl
@[simp] theorem State.modPlot_agenda (s : State) (k : Nat) (f : Plot → Plot) : (s.modPlot k f).agenda = s.agenda := rfl
@[simp] theorem State.modPlot_ev (s : State) (k : Nat) (f : Plot → Plot) : (s.modPlot k f).ev = s.ev := rfl
@[simp] theorem State.modPlot_fresh (s : State) (k : Nat) (f : Plot → Plot) : (s.modPlot k f).fresh = s.fresh := rfl
@[simp] theorem State.modPlot_nextId (s : State) (k : Nat) (f : Plot → Plot) : (s.modPlot k f).nextId = s.nextId := rfl
@[simp] theorem State.modPlot_mem (s : State) (k : Nat) (f : Plot → Plot) : (s.modPlot k f).mem = s.mem := rfl
@[simp] theorem State.modPlot_desc (s : State) (k : Nat) (f : Plot → Plot) : (s.modPlot k f).desc = s.desc := rfl
@[simp] theorem State.modPlot_poison (s : State) (k : Nat) (f : Plot → Plot) : (s.modPlot k f).poison = s.poison := rfl
@[simp] theorem State.modPlot_eccErrors (s : State) (k : Nat) (f : Plot → Plot) : (s.modPlot k f).eccErrors = s.eccErrors := rfl
@[simp] theorem State.modPlot_l2Errors (s : State) (k : Nat) (f : Plot → Plot) : (s.modPlot k f).l2Errors = s.l2Errors := rfl
@[simp] theorem State.modPlot_scrub (s : State) (k : Nat) (f : Plot → Plot) : (s.modPlot k f).scrub = s.scrub := rfl
@[simp] theorem State.modPlot_under (s : State) (k : Nat) (f : Plot → Plot) : (s.modPlot k f).under = s.under := rfl
@[simp] theorem State.modPlot_versions (s : State) (k : Nat) (f : Plot → Plot) : (s.modPlot k f).versions = s.versions := rfl
@[simp] theorem State.modPlot_switches (s : State) (k : Nat) (f : Plot → Plot) : (s.modPlot k f).switches = s.switches := rfl
@[simp] theorem State.modPlot_groups (s : State) (k : Nat) (f : Plot → Plot) : (s.modPlot k f).groups = s.groups := rfl
@[simp] theorem State.modPlot_teams (s : State) (k : Nat) (f : Plot → Plot) : (s.modPlot k f).teams = s.teams := rfl
@[simp] theorem State.modPlot_clusters (s : State) (k : Nat) (f : Plot → Plot) : (s.modPlot k f).clusters = s.clusters := rfl
@[simp] theorem State.modPlot_ctxs (s : State) (k : Nat) (f : Plot → Plot) : (s.modPlot k f).ctxs = s.ctxs := rfl
@[simp] theorem State.modPlot_plots (s : State) (k : Nat) (f : Plot → Plot) : (s.modPlot k f).plots = tabMod {} s.plots k f := rfl
@[simp] theorem State.modPlot_quads (s : State) (k : Nat) (f : Plot → Plot) : (s.modPlot k f).quads = s.quads := rfl
@[simp] theorem State.modPlot_dies (s : State) (k : Nat) (f : Plot → Plot) : (s.modPlot k f).dies = s.dies := rfl
@[simp] theorem State.modPlot_ces (s : State) (k : Nat) (f : Plot → Plot) : (s.modPlot k f).ces = s.ces := rfl
@[simp] theorem State.modPlot_cmds (s : State) (k : Nat) (f : Plot → Plot) : (s.modPlot k f).cmds = s.cmds := rfl
@[simp] theorem State.modPlot_frames (s : State) (k : Nat) (f : Plot → Plot) : (s.modPlot k f).frames = s.frames := rfl
@[simp] theorem State.modPlot_leases (s : State) (k : Nat) (f : Plot → Plot) : (s.modPlot k f).leases = s.leases := rfl
@[simp] theorem State.modPlot_pgc (s : State) (k : Nat) (f : Plot → Plot) : (s.modPlot k f).pgc = s.pgc := rfl
@[simp] theorem State.modPlot_regs (s : State) (k : Nat) (f : Plot → Plot) : (s.modPlot k f).regs = s.regs := rfl
@[simp] theorem State.modPlot_nvm (s : State) (k : Nat) (f : Plot → Plot) : (s.modPlot k f).nvm = s.nvm := rfl
@[simp] theorem State.modPlot_boot (s : State) (k : Nat) (f : Plot → Plot) : (s.modPlot k f).boot = s.boot := rfl
@[simp] theorem State.modPlot_placerLast (s : State) (k : Nat) (f : Plot → Plot) : (s.modPlot k f).placerLast = s.placerLast := rfl
@[simp] theorem State.modPlot_outbox (s : State) (k : Nat) (f : Plot → Plot) : (s.modPlot k f).outbox = s.outbox := rfl

/-! ## modQuad -/

@[simp] theorem State.modQuad_cycle (s : State) (k : Nat) (f : Quad → Quad) : (s.modQuad k f).cycle = s.cycle := rfl
@[simp] theorem State.modQuad_todo (s : State) (k : Nat) (f : Quad → Quad) : (s.modQuad k f).todo = s.todo := rfl
@[simp] theorem State.modQuad_agenda (s : State) (k : Nat) (f : Quad → Quad) : (s.modQuad k f).agenda = s.agenda := rfl
@[simp] theorem State.modQuad_ev (s : State) (k : Nat) (f : Quad → Quad) : (s.modQuad k f).ev = s.ev := rfl
@[simp] theorem State.modQuad_fresh (s : State) (k : Nat) (f : Quad → Quad) : (s.modQuad k f).fresh = s.fresh := rfl
@[simp] theorem State.modQuad_nextId (s : State) (k : Nat) (f : Quad → Quad) : (s.modQuad k f).nextId = s.nextId := rfl
@[simp] theorem State.modQuad_mem (s : State) (k : Nat) (f : Quad → Quad) : (s.modQuad k f).mem = s.mem := rfl
@[simp] theorem State.modQuad_desc (s : State) (k : Nat) (f : Quad → Quad) : (s.modQuad k f).desc = s.desc := rfl
@[simp] theorem State.modQuad_poison (s : State) (k : Nat) (f : Quad → Quad) : (s.modQuad k f).poison = s.poison := rfl
@[simp] theorem State.modQuad_eccErrors (s : State) (k : Nat) (f : Quad → Quad) : (s.modQuad k f).eccErrors = s.eccErrors := rfl
@[simp] theorem State.modQuad_l2Errors (s : State) (k : Nat) (f : Quad → Quad) : (s.modQuad k f).l2Errors = s.l2Errors := rfl
@[simp] theorem State.modQuad_scrub (s : State) (k : Nat) (f : Quad → Quad) : (s.modQuad k f).scrub = s.scrub := rfl
@[simp] theorem State.modQuad_under (s : State) (k : Nat) (f : Quad → Quad) : (s.modQuad k f).under = s.under := rfl
@[simp] theorem State.modQuad_versions (s : State) (k : Nat) (f : Quad → Quad) : (s.modQuad k f).versions = s.versions := rfl
@[simp] theorem State.modQuad_switches (s : State) (k : Nat) (f : Quad → Quad) : (s.modQuad k f).switches = s.switches := rfl
@[simp] theorem State.modQuad_groups (s : State) (k : Nat) (f : Quad → Quad) : (s.modQuad k f).groups = s.groups := rfl
@[simp] theorem State.modQuad_teams (s : State) (k : Nat) (f : Quad → Quad) : (s.modQuad k f).teams = s.teams := rfl
@[simp] theorem State.modQuad_clusters (s : State) (k : Nat) (f : Quad → Quad) : (s.modQuad k f).clusters = s.clusters := rfl
@[simp] theorem State.modQuad_ctxs (s : State) (k : Nat) (f : Quad → Quad) : (s.modQuad k f).ctxs = s.ctxs := rfl
@[simp] theorem State.modQuad_plots (s : State) (k : Nat) (f : Quad → Quad) : (s.modQuad k f).plots = s.plots := rfl
@[simp] theorem State.modQuad_quads (s : State) (k : Nat) (f : Quad → Quad) : (s.modQuad k f).quads = tabMod {} s.quads k f := rfl
@[simp] theorem State.modQuad_dies (s : State) (k : Nat) (f : Quad → Quad) : (s.modQuad k f).dies = s.dies := rfl
@[simp] theorem State.modQuad_ces (s : State) (k : Nat) (f : Quad → Quad) : (s.modQuad k f).ces = s.ces := rfl
@[simp] theorem State.modQuad_cmds (s : State) (k : Nat) (f : Quad → Quad) : (s.modQuad k f).cmds = s.cmds := rfl
@[simp] theorem State.modQuad_frames (s : State) (k : Nat) (f : Quad → Quad) : (s.modQuad k f).frames = s.frames := rfl
@[simp] theorem State.modQuad_leases (s : State) (k : Nat) (f : Quad → Quad) : (s.modQuad k f).leases = s.leases := rfl
@[simp] theorem State.modQuad_pgc (s : State) (k : Nat) (f : Quad → Quad) : (s.modQuad k f).pgc = s.pgc := rfl
@[simp] theorem State.modQuad_regs (s : State) (k : Nat) (f : Quad → Quad) : (s.modQuad k f).regs = s.regs := rfl
@[simp] theorem State.modQuad_nvm (s : State) (k : Nat) (f : Quad → Quad) : (s.modQuad k f).nvm = s.nvm := rfl
@[simp] theorem State.modQuad_boot (s : State) (k : Nat) (f : Quad → Quad) : (s.modQuad k f).boot = s.boot := rfl
@[simp] theorem State.modQuad_placerLast (s : State) (k : Nat) (f : Quad → Quad) : (s.modQuad k f).placerLast = s.placerLast := rfl
@[simp] theorem State.modQuad_outbox (s : State) (k : Nat) (f : Quad → Quad) : (s.modQuad k f).outbox = s.outbox := rfl

/-! ## modDie -/

@[simp] theorem State.modDie_cycle (s : State) (k : Nat) (f : Die → Die) : (s.modDie k f).cycle = s.cycle := rfl
@[simp] theorem State.modDie_todo (s : State) (k : Nat) (f : Die → Die) : (s.modDie k f).todo = s.todo := rfl
@[simp] theorem State.modDie_agenda (s : State) (k : Nat) (f : Die → Die) : (s.modDie k f).agenda = s.agenda := rfl
@[simp] theorem State.modDie_ev (s : State) (k : Nat) (f : Die → Die) : (s.modDie k f).ev = s.ev := rfl
@[simp] theorem State.modDie_fresh (s : State) (k : Nat) (f : Die → Die) : (s.modDie k f).fresh = s.fresh := rfl
@[simp] theorem State.modDie_nextId (s : State) (k : Nat) (f : Die → Die) : (s.modDie k f).nextId = s.nextId := rfl
@[simp] theorem State.modDie_mem (s : State) (k : Nat) (f : Die → Die) : (s.modDie k f).mem = s.mem := rfl
@[simp] theorem State.modDie_desc (s : State) (k : Nat) (f : Die → Die) : (s.modDie k f).desc = s.desc := rfl
@[simp] theorem State.modDie_poison (s : State) (k : Nat) (f : Die → Die) : (s.modDie k f).poison = s.poison := rfl
@[simp] theorem State.modDie_eccErrors (s : State) (k : Nat) (f : Die → Die) : (s.modDie k f).eccErrors = s.eccErrors := rfl
@[simp] theorem State.modDie_l2Errors (s : State) (k : Nat) (f : Die → Die) : (s.modDie k f).l2Errors = s.l2Errors := rfl
@[simp] theorem State.modDie_scrub (s : State) (k : Nat) (f : Die → Die) : (s.modDie k f).scrub = s.scrub := rfl
@[simp] theorem State.modDie_under (s : State) (k : Nat) (f : Die → Die) : (s.modDie k f).under = s.under := rfl
@[simp] theorem State.modDie_versions (s : State) (k : Nat) (f : Die → Die) : (s.modDie k f).versions = s.versions := rfl
@[simp] theorem State.modDie_switches (s : State) (k : Nat) (f : Die → Die) : (s.modDie k f).switches = s.switches := rfl
@[simp] theorem State.modDie_groups (s : State) (k : Nat) (f : Die → Die) : (s.modDie k f).groups = s.groups := rfl
@[simp] theorem State.modDie_teams (s : State) (k : Nat) (f : Die → Die) : (s.modDie k f).teams = s.teams := rfl
@[simp] theorem State.modDie_clusters (s : State) (k : Nat) (f : Die → Die) : (s.modDie k f).clusters = s.clusters := rfl
@[simp] theorem State.modDie_ctxs (s : State) (k : Nat) (f : Die → Die) : (s.modDie k f).ctxs = s.ctxs := rfl
@[simp] theorem State.modDie_plots (s : State) (k : Nat) (f : Die → Die) : (s.modDie k f).plots = s.plots := rfl
@[simp] theorem State.modDie_quads (s : State) (k : Nat) (f : Die → Die) : (s.modDie k f).quads = s.quads := rfl
@[simp] theorem State.modDie_dies (s : State) (k : Nat) (f : Die → Die) : (s.modDie k f).dies = tabMod {} s.dies k f := rfl
@[simp] theorem State.modDie_ces (s : State) (k : Nat) (f : Die → Die) : (s.modDie k f).ces = s.ces := rfl
@[simp] theorem State.modDie_cmds (s : State) (k : Nat) (f : Die → Die) : (s.modDie k f).cmds = s.cmds := rfl
@[simp] theorem State.modDie_frames (s : State) (k : Nat) (f : Die → Die) : (s.modDie k f).frames = s.frames := rfl
@[simp] theorem State.modDie_leases (s : State) (k : Nat) (f : Die → Die) : (s.modDie k f).leases = s.leases := rfl
@[simp] theorem State.modDie_pgc (s : State) (k : Nat) (f : Die → Die) : (s.modDie k f).pgc = s.pgc := rfl
@[simp] theorem State.modDie_regs (s : State) (k : Nat) (f : Die → Die) : (s.modDie k f).regs = s.regs := rfl
@[simp] theorem State.modDie_nvm (s : State) (k : Nat) (f : Die → Die) : (s.modDie k f).nvm = s.nvm := rfl
@[simp] theorem State.modDie_boot (s : State) (k : Nat) (f : Die → Die) : (s.modDie k f).boot = s.boot := rfl
@[simp] theorem State.modDie_placerLast (s : State) (k : Nat) (f : Die → Die) : (s.modDie k f).placerLast = s.placerLast := rfl
@[simp] theorem State.modDie_outbox (s : State) (k : Nat) (f : Die → Die) : (s.modDie k f).outbox = s.outbox := rfl

/-! ## modCe -/

@[simp] theorem State.modCe_cycle (s : State) (k : Nat) (f : Ce → Ce) : (s.modCe k f).cycle = s.cycle := rfl
@[simp] theorem State.modCe_todo (s : State) (k : Nat) (f : Ce → Ce) : (s.modCe k f).todo = s.todo := rfl
@[simp] theorem State.modCe_agenda (s : State) (k : Nat) (f : Ce → Ce) : (s.modCe k f).agenda = s.agenda := rfl
@[simp] theorem State.modCe_ev (s : State) (k : Nat) (f : Ce → Ce) : (s.modCe k f).ev = s.ev := rfl
@[simp] theorem State.modCe_fresh (s : State) (k : Nat) (f : Ce → Ce) : (s.modCe k f).fresh = s.fresh := rfl
@[simp] theorem State.modCe_nextId (s : State) (k : Nat) (f : Ce → Ce) : (s.modCe k f).nextId = s.nextId := rfl
@[simp] theorem State.modCe_mem (s : State) (k : Nat) (f : Ce → Ce) : (s.modCe k f).mem = s.mem := rfl
@[simp] theorem State.modCe_desc (s : State) (k : Nat) (f : Ce → Ce) : (s.modCe k f).desc = s.desc := rfl
@[simp] theorem State.modCe_poison (s : State) (k : Nat) (f : Ce → Ce) : (s.modCe k f).poison = s.poison := rfl
@[simp] theorem State.modCe_eccErrors (s : State) (k : Nat) (f : Ce → Ce) : (s.modCe k f).eccErrors = s.eccErrors := rfl
@[simp] theorem State.modCe_l2Errors (s : State) (k : Nat) (f : Ce → Ce) : (s.modCe k f).l2Errors = s.l2Errors := rfl
@[simp] theorem State.modCe_scrub (s : State) (k : Nat) (f : Ce → Ce) : (s.modCe k f).scrub = s.scrub := rfl
@[simp] theorem State.modCe_under (s : State) (k : Nat) (f : Ce → Ce) : (s.modCe k f).under = s.under := rfl
@[simp] theorem State.modCe_versions (s : State) (k : Nat) (f : Ce → Ce) : (s.modCe k f).versions = s.versions := rfl
@[simp] theorem State.modCe_switches (s : State) (k : Nat) (f : Ce → Ce) : (s.modCe k f).switches = s.switches := rfl
@[simp] theorem State.modCe_groups (s : State) (k : Nat) (f : Ce → Ce) : (s.modCe k f).groups = s.groups := rfl
@[simp] theorem State.modCe_teams (s : State) (k : Nat) (f : Ce → Ce) : (s.modCe k f).teams = s.teams := rfl
@[simp] theorem State.modCe_clusters (s : State) (k : Nat) (f : Ce → Ce) : (s.modCe k f).clusters = s.clusters := rfl
@[simp] theorem State.modCe_ctxs (s : State) (k : Nat) (f : Ce → Ce) : (s.modCe k f).ctxs = s.ctxs := rfl
@[simp] theorem State.modCe_plots (s : State) (k : Nat) (f : Ce → Ce) : (s.modCe k f).plots = s.plots := rfl
@[simp] theorem State.modCe_quads (s : State) (k : Nat) (f : Ce → Ce) : (s.modCe k f).quads = s.quads := rfl
@[simp] theorem State.modCe_dies (s : State) (k : Nat) (f : Ce → Ce) : (s.modCe k f).dies = s.dies := rfl
@[simp] theorem State.modCe_ces (s : State) (k : Nat) (f : Ce → Ce) : (s.modCe k f).ces = tabMod {} s.ces k f := rfl
@[simp] theorem State.modCe_cmds (s : State) (k : Nat) (f : Ce → Ce) : (s.modCe k f).cmds = s.cmds := rfl
@[simp] theorem State.modCe_frames (s : State) (k : Nat) (f : Ce → Ce) : (s.modCe k f).frames = s.frames := rfl
@[simp] theorem State.modCe_leases (s : State) (k : Nat) (f : Ce → Ce) : (s.modCe k f).leases = s.leases := rfl
@[simp] theorem State.modCe_pgc (s : State) (k : Nat) (f : Ce → Ce) : (s.modCe k f).pgc = s.pgc := rfl
@[simp] theorem State.modCe_regs (s : State) (k : Nat) (f : Ce → Ce) : (s.modCe k f).regs = s.regs := rfl
@[simp] theorem State.modCe_nvm (s : State) (k : Nat) (f : Ce → Ce) : (s.modCe k f).nvm = s.nvm := rfl
@[simp] theorem State.modCe_boot (s : State) (k : Nat) (f : Ce → Ce) : (s.modCe k f).boot = s.boot := rfl
@[simp] theorem State.modCe_placerLast (s : State) (k : Nat) (f : Ce → Ce) : (s.modCe k f).placerLast = s.placerLast := rfl
@[simp] theorem State.modCe_outbox (s : State) (k : Nat) (f : Ce → Ce) : (s.modCe k f).outbox = s.outbox := rfl

/-! ## modCmd -/

@[simp] theorem State.modCmd_cycle (s : State) (k : Nat) (f : Cmd → Cmd) : (s.modCmd k f).cycle = s.cycle := rfl
@[simp] theorem State.modCmd_todo (s : State) (k : Nat) (f : Cmd → Cmd) : (s.modCmd k f).todo = s.todo := rfl
@[simp] theorem State.modCmd_agenda (s : State) (k : Nat) (f : Cmd → Cmd) : (s.modCmd k f).agenda = s.agenda := rfl
@[simp] theorem State.modCmd_ev (s : State) (k : Nat) (f : Cmd → Cmd) : (s.modCmd k f).ev = s.ev := rfl
@[simp] theorem State.modCmd_fresh (s : State) (k : Nat) (f : Cmd → Cmd) : (s.modCmd k f).fresh = s.fresh := rfl
@[simp] theorem State.modCmd_nextId (s : State) (k : Nat) (f : Cmd → Cmd) : (s.modCmd k f).nextId = s.nextId := rfl
@[simp] theorem State.modCmd_mem (s : State) (k : Nat) (f : Cmd → Cmd) : (s.modCmd k f).mem = s.mem := rfl
@[simp] theorem State.modCmd_desc (s : State) (k : Nat) (f : Cmd → Cmd) : (s.modCmd k f).desc = s.desc := rfl
@[simp] theorem State.modCmd_poison (s : State) (k : Nat) (f : Cmd → Cmd) : (s.modCmd k f).poison = s.poison := rfl
@[simp] theorem State.modCmd_eccErrors (s : State) (k : Nat) (f : Cmd → Cmd) : (s.modCmd k f).eccErrors = s.eccErrors := rfl
@[simp] theorem State.modCmd_l2Errors (s : State) (k : Nat) (f : Cmd → Cmd) : (s.modCmd k f).l2Errors = s.l2Errors := rfl
@[simp] theorem State.modCmd_scrub (s : State) (k : Nat) (f : Cmd → Cmd) : (s.modCmd k f).scrub = s.scrub := rfl
@[simp] theorem State.modCmd_under (s : State) (k : Nat) (f : Cmd → Cmd) : (s.modCmd k f).under = s.under := rfl
@[simp] theorem State.modCmd_versions (s : State) (k : Nat) (f : Cmd → Cmd) : (s.modCmd k f).versions = s.versions := rfl
@[simp] theorem State.modCmd_switches (s : State) (k : Nat) (f : Cmd → Cmd) : (s.modCmd k f).switches = s.switches := rfl
@[simp] theorem State.modCmd_groups (s : State) (k : Nat) (f : Cmd → Cmd) : (s.modCmd k f).groups = s.groups := rfl
@[simp] theorem State.modCmd_teams (s : State) (k : Nat) (f : Cmd → Cmd) : (s.modCmd k f).teams = s.teams := rfl
@[simp] theorem State.modCmd_clusters (s : State) (k : Nat) (f : Cmd → Cmd) : (s.modCmd k f).clusters = s.clusters := rfl
@[simp] theorem State.modCmd_ctxs (s : State) (k : Nat) (f : Cmd → Cmd) : (s.modCmd k f).ctxs = s.ctxs := rfl
@[simp] theorem State.modCmd_plots (s : State) (k : Nat) (f : Cmd → Cmd) : (s.modCmd k f).plots = s.plots := rfl
@[simp] theorem State.modCmd_quads (s : State) (k : Nat) (f : Cmd → Cmd) : (s.modCmd k f).quads = s.quads := rfl
@[simp] theorem State.modCmd_dies (s : State) (k : Nat) (f : Cmd → Cmd) : (s.modCmd k f).dies = s.dies := rfl
@[simp] theorem State.modCmd_ces (s : State) (k : Nat) (f : Cmd → Cmd) : (s.modCmd k f).ces = s.ces := rfl
@[simp] theorem State.modCmd_cmds (s : State) (k : Nat) (f : Cmd → Cmd) : (s.modCmd k f).cmds = tabUpd s.cmds k f := rfl
@[simp] theorem State.modCmd_frames (s : State) (k : Nat) (f : Cmd → Cmd) : (s.modCmd k f).frames = s.frames := rfl
@[simp] theorem State.modCmd_leases (s : State) (k : Nat) (f : Cmd → Cmd) : (s.modCmd k f).leases = s.leases := rfl
@[simp] theorem State.modCmd_pgc (s : State) (k : Nat) (f : Cmd → Cmd) : (s.modCmd k f).pgc = s.pgc := rfl
@[simp] theorem State.modCmd_regs (s : State) (k : Nat) (f : Cmd → Cmd) : (s.modCmd k f).regs = s.regs := rfl
@[simp] theorem State.modCmd_nvm (s : State) (k : Nat) (f : Cmd → Cmd) : (s.modCmd k f).nvm = s.nvm := rfl
@[simp] theorem State.modCmd_boot (s : State) (k : Nat) (f : Cmd → Cmd) : (s.modCmd k f).boot = s.boot := rfl
@[simp] theorem State.modCmd_placerLast (s : State) (k : Nat) (f : Cmd → Cmd) : (s.modCmd k f).placerLast = s.placerLast := rfl
@[simp] theorem State.modCmd_outbox (s : State) (k : Nat) (f : Cmd → Cmd) : (s.modCmd k f).outbox = s.outbox := rfl

/-! ## setFrame -/

@[simp] theorem State.setFrame_cycle (s : State) (k : Nat) (x : Frame) : (s.setFrame k x).cycle = s.cycle := rfl
@[simp] theorem State.setFrame_todo (s : State) (k : Nat) (x : Frame) : (s.setFrame k x).todo = s.todo := rfl
@[simp] theorem State.setFrame_agenda (s : State) (k : Nat) (x : Frame) : (s.setFrame k x).agenda = s.agenda := rfl
@[simp] theorem State.setFrame_ev (s : State) (k : Nat) (x : Frame) : (s.setFrame k x).ev = s.ev := rfl
@[simp] theorem State.setFrame_fresh (s : State) (k : Nat) (x : Frame) : (s.setFrame k x).fresh = s.fresh := rfl
@[simp] theorem State.setFrame_nextId (s : State) (k : Nat) (x : Frame) : (s.setFrame k x).nextId = s.nextId := rfl
@[simp] theorem State.setFrame_mem (s : State) (k : Nat) (x : Frame) : (s.setFrame k x).mem = s.mem := rfl
@[simp] theorem State.setFrame_desc (s : State) (k : Nat) (x : Frame) : (s.setFrame k x).desc = s.desc := rfl
@[simp] theorem State.setFrame_poison (s : State) (k : Nat) (x : Frame) : (s.setFrame k x).poison = s.poison := rfl
@[simp] theorem State.setFrame_eccErrors (s : State) (k : Nat) (x : Frame) : (s.setFrame k x).eccErrors = s.eccErrors := rfl
@[simp] theorem State.setFrame_l2Errors (s : State) (k : Nat) (x : Frame) : (s.setFrame k x).l2Errors = s.l2Errors := rfl
@[simp] theorem State.setFrame_scrub (s : State) (k : Nat) (x : Frame) : (s.setFrame k x).scrub = s.scrub := rfl
@[simp] theorem State.setFrame_under (s : State) (k : Nat) (x : Frame) : (s.setFrame k x).under = s.under := rfl
@[simp] theorem State.setFrame_versions (s : State) (k : Nat) (x : Frame) : (s.setFrame k x).versions = s.versions := rfl
@[simp] theorem State.setFrame_switches (s : State) (k : Nat) (x : Frame) : (s.setFrame k x).switches = s.switches := rfl
@[simp] theorem State.setFrame_groups (s : State) (k : Nat) (x : Frame) : (s.setFrame k x).groups = s.groups := rfl
@[simp] theorem State.setFrame_teams (s : State) (k : Nat) (x : Frame) : (s.setFrame k x).teams = s.teams := rfl
@[simp] theorem State.setFrame_clusters (s : State) (k : Nat) (x : Frame) : (s.setFrame k x).clusters = s.clusters := rfl
@[simp] theorem State.setFrame_ctxs (s : State) (k : Nat) (x : Frame) : (s.setFrame k x).ctxs = s.ctxs := rfl
@[simp] theorem State.setFrame_plots (s : State) (k : Nat) (x : Frame) : (s.setFrame k x).plots = s.plots := rfl
@[simp] theorem State.setFrame_quads (s : State) (k : Nat) (x : Frame) : (s.setFrame k x).quads = s.quads := rfl
@[simp] theorem State.setFrame_dies (s : State) (k : Nat) (x : Frame) : (s.setFrame k x).dies = s.dies := rfl
@[simp] theorem State.setFrame_ces (s : State) (k : Nat) (x : Frame) : (s.setFrame k x).ces = s.ces := rfl
@[simp] theorem State.setFrame_cmds (s : State) (k : Nat) (x : Frame) : (s.setFrame k x).cmds = s.cmds := rfl
@[simp] theorem State.setFrame_frames (s : State) (k : Nat) (x : Frame) : (s.setFrame k x).frames = tabSet {} s.frames k x := rfl
@[simp] theorem State.setFrame_leases (s : State) (k : Nat) (x : Frame) : (s.setFrame k x).leases = s.leases := rfl
@[simp] theorem State.setFrame_pgc (s : State) (k : Nat) (x : Frame) : (s.setFrame k x).pgc = s.pgc := rfl
@[simp] theorem State.setFrame_regs (s : State) (k : Nat) (x : Frame) : (s.setFrame k x).regs = s.regs := rfl
@[simp] theorem State.setFrame_nvm (s : State) (k : Nat) (x : Frame) : (s.setFrame k x).nvm = s.nvm := rfl
@[simp] theorem State.setFrame_boot (s : State) (k : Nat) (x : Frame) : (s.setFrame k x).boot = s.boot := rfl
@[simp] theorem State.setFrame_placerLast (s : State) (k : Nat) (x : Frame) : (s.setFrame k x).placerLast = s.placerLast := rfl
@[simp] theorem State.setFrame_outbox (s : State) (k : Nat) (x : Frame) : (s.setFrame k x).outbox = s.outbox := rfl

/-! ## modFrame -/

@[simp] theorem State.modFrame_cycle (s : State) (k : Nat) (f : Frame → Frame) : (s.modFrame k f).cycle = s.cycle := rfl
@[simp] theorem State.modFrame_todo (s : State) (k : Nat) (f : Frame → Frame) : (s.modFrame k f).todo = s.todo := rfl
@[simp] theorem State.modFrame_agenda (s : State) (k : Nat) (f : Frame → Frame) : (s.modFrame k f).agenda = s.agenda := rfl
@[simp] theorem State.modFrame_ev (s : State) (k : Nat) (f : Frame → Frame) : (s.modFrame k f).ev = s.ev := rfl
@[simp] theorem State.modFrame_fresh (s : State) (k : Nat) (f : Frame → Frame) : (s.modFrame k f).fresh = s.fresh := rfl
@[simp] theorem State.modFrame_nextId (s : State) (k : Nat) (f : Frame → Frame) : (s.modFrame k f).nextId = s.nextId := rfl
@[simp] theorem State.modFrame_mem (s : State) (k : Nat) (f : Frame → Frame) : (s.modFrame k f).mem = s.mem := rfl
@[simp] theorem State.modFrame_desc (s : State) (k : Nat) (f : Frame → Frame) : (s.modFrame k f).desc = s.desc := rfl
@[simp] theorem State.modFrame_poison (s : State) (k : Nat) (f : Frame → Frame) : (s.modFrame k f).poison = s.poison := rfl
@[simp] theorem State.modFrame_eccErrors (s : State) (k : Nat) (f : Frame → Frame) : (s.modFrame k f).eccErrors = s.eccErrors := rfl
@[simp] theorem State.modFrame_l2Errors (s : State) (k : Nat) (f : Frame → Frame) : (s.modFrame k f).l2Errors = s.l2Errors := rfl
@[simp] theorem State.modFrame_scrub (s : State) (k : Nat) (f : Frame → Frame) : (s.modFrame k f).scrub = s.scrub := rfl
@[simp] theorem State.modFrame_under (s : State) (k : Nat) (f : Frame → Frame) : (s.modFrame k f).under = s.under := rfl
@[simp] theorem State.modFrame_versions (s : State) (k : Nat) (f : Frame → Frame) : (s.modFrame k f).versions = s.versions := rfl
@[simp] theorem State.modFrame_switches (s : State) (k : Nat) (f : Frame → Frame) : (s.modFrame k f).switches = s.switches := rfl
@[simp] theorem State.modFrame_groups (s : State) (k : Nat) (f : Frame → Frame) : (s.modFrame k f).groups = s.groups := rfl
@[simp] theorem State.modFrame_teams (s : State) (k : Nat) (f : Frame → Frame) : (s.modFrame k f).teams = s.teams := rfl
@[simp] theorem State.modFrame_clusters (s : State) (k : Nat) (f : Frame → Frame) : (s.modFrame k f).clusters = s.clusters := rfl
@[simp] theorem State.modFrame_ctxs (s : State) (k : Nat) (f : Frame → Frame) : (s.modFrame k f).ctxs = s.ctxs := rfl
@[simp] theorem State.modFrame_plots (s : State) (k : Nat) (f : Frame → Frame) : (s.modFrame k f).plots = s.plots := rfl
@[simp] theorem State.modFrame_quads (s : State) (k : Nat) (f : Frame → Frame) : (s.modFrame k f).quads = s.quads := rfl
@[simp] theorem State.modFrame_dies (s : State) (k : Nat) (f : Frame → Frame) : (s.modFrame k f).dies = s.dies := rfl
@[simp] theorem State.modFrame_ces (s : State) (k : Nat) (f : Frame → Frame) : (s.modFrame k f).ces = s.ces := rfl
@[simp] theorem State.modFrame_cmds (s : State) (k : Nat) (f : Frame → Frame) : (s.modFrame k f).cmds = s.cmds := rfl
@[simp] theorem State.modFrame_frames (s : State) (k : Nat) (f : Frame → Frame) : (s.modFrame k f).frames = tabSet {} s.frames k (f (s.frame k)) := rfl
@[simp] theorem State.modFrame_leases (s : State) (k : Nat) (f : Frame → Frame) : (s.modFrame k f).leases = s.leases := rfl
@[simp] theorem State.modFrame_pgc (s : State) (k : Nat) (f : Frame → Frame) : (s.modFrame k f).pgc = s.pgc := rfl
@[simp] theorem State.modFrame_regs (s : State) (k : Nat) (f : Frame → Frame) : (s.modFrame k f).regs = s.regs := rfl
@[simp] theorem State.modFrame_nvm (s : State) (k : Nat) (f : Frame → Frame) : (s.modFrame k f).nvm = s.nvm := rfl
@[simp] theorem State.modFrame_boot (s : State) (k : Nat) (f : Frame → Frame) : (s.modFrame k f).boot = s.boot := rfl
@[simp] theorem State.modFrame_placerLast (s : State) (k : Nat) (f : Frame → Frame) : (s.modFrame k f).placerLast = s.placerLast := rfl
@[simp] theorem State.modFrame_outbox (s : State) (k : Nat) (f : Frame → Frame) : (s.modFrame k f).outbox = s.outbox := rfl

/-! ## modLease -/

@[simp] theorem State.modLease_cycle (s : State) (k : Nat) (f : Lease → Lease) : (s.modLease k f).cycle = s.cycle := rfl
@[simp] theorem State.modLease_todo (s : State) (k : Nat) (f : Lease → Lease) : (s.modLease k f).todo = s.todo := rfl
@[simp] theorem State.modLease_agenda (s : State) (k : Nat) (f : Lease → Lease) : (s.modLease k f).agenda = s.agenda := rfl
@[simp] theorem State.modLease_ev (s : State) (k : Nat) (f : Lease → Lease) : (s.modLease k f).ev = s.ev := rfl
@[simp] theorem State.modLease_fresh (s : State) (k : Nat) (f : Lease → Lease) : (s.modLease k f).fresh = s.fresh := rfl
@[simp] theorem State.modLease_nextId (s : State) (k : Nat) (f : Lease → Lease) : (s.modLease k f).nextId = s.nextId := rfl
@[simp] theorem State.modLease_mem (s : State) (k : Nat) (f : Lease → Lease) : (s.modLease k f).mem = s.mem := rfl
@[simp] theorem State.modLease_desc (s : State) (k : Nat) (f : Lease → Lease) : (s.modLease k f).desc = s.desc := rfl
@[simp] theorem State.modLease_poison (s : State) (k : Nat) (f : Lease → Lease) : (s.modLease k f).poison = s.poison := rfl
@[simp] theorem State.modLease_eccErrors (s : State) (k : Nat) (f : Lease → Lease) : (s.modLease k f).eccErrors = s.eccErrors := rfl
@[simp] theorem State.modLease_l2Errors (s : State) (k : Nat) (f : Lease → Lease) : (s.modLease k f).l2Errors = s.l2Errors := rfl
@[simp] theorem State.modLease_scrub (s : State) (k : Nat) (f : Lease → Lease) : (s.modLease k f).scrub = s.scrub := rfl
@[simp] theorem State.modLease_under (s : State) (k : Nat) (f : Lease → Lease) : (s.modLease k f).under = s.under := rfl
@[simp] theorem State.modLease_versions (s : State) (k : Nat) (f : Lease → Lease) : (s.modLease k f).versions = s.versions := rfl
@[simp] theorem State.modLease_switches (s : State) (k : Nat) (f : Lease → Lease) : (s.modLease k f).switches = s.switches := rfl
@[simp] theorem State.modLease_groups (s : State) (k : Nat) (f : Lease → Lease) : (s.modLease k f).groups = s.groups := rfl
@[simp] theorem State.modLease_teams (s : State) (k : Nat) (f : Lease → Lease) : (s.modLease k f).teams = s.teams := rfl
@[simp] theorem State.modLease_clusters (s : State) (k : Nat) (f : Lease → Lease) : (s.modLease k f).clusters = s.clusters := rfl
@[simp] theorem State.modLease_ctxs (s : State) (k : Nat) (f : Lease → Lease) : (s.modLease k f).ctxs = s.ctxs := rfl
@[simp] theorem State.modLease_plots (s : State) (k : Nat) (f : Lease → Lease) : (s.modLease k f).plots = s.plots := rfl
@[simp] theorem State.modLease_quads (s : State) (k : Nat) (f : Lease → Lease) : (s.modLease k f).quads = s.quads := rfl
@[simp] theorem State.modLease_dies (s : State) (k : Nat) (f : Lease → Lease) : (s.modLease k f).dies = s.dies := rfl
@[simp] theorem State.modLease_ces (s : State) (k : Nat) (f : Lease → Lease) : (s.modLease k f).ces = s.ces := rfl
@[simp] theorem State.modLease_cmds (s : State) (k : Nat) (f : Lease → Lease) : (s.modLease k f).cmds = s.cmds := rfl
@[simp] theorem State.modLease_frames (s : State) (k : Nat) (f : Lease → Lease) : (s.modLease k f).frames = s.frames := rfl
@[simp] theorem State.modLease_leases (s : State) (k : Nat) (f : Lease → Lease) : (s.modLease k f).leases = tabSet {} s.leases k (f (s.lease k)) := rfl
@[simp] theorem State.modLease_pgc (s : State) (k : Nat) (f : Lease → Lease) : (s.modLease k f).pgc = s.pgc := rfl
@[simp] theorem State.modLease_regs (s : State) (k : Nat) (f : Lease → Lease) : (s.modLease k f).regs = s.regs := rfl
@[simp] theorem State.modLease_nvm (s : State) (k : Nat) (f : Lease → Lease) : (s.modLease k f).nvm = s.nvm := rfl
@[simp] theorem State.modLease_boot (s : State) (k : Nat) (f : Lease → Lease) : (s.modLease k f).boot = s.boot := rfl
@[simp] theorem State.modLease_placerLast (s : State) (k : Nat) (f : Lease → Lease) : (s.modLease k f).placerLast = s.placerLast := rfl
@[simp] theorem State.modLease_outbox (s : State) (k : Nat) (f : Lease → Lease) : (s.modLease k f).outbox = s.outbox := rfl

/-! ## modPgc -/

@[simp] theorem State.modPgc_cycle (s : State) (f : Pgc → Pgc) : (s.modPgc f).cycle = s.cycle := rfl
@[simp] theorem State.modPgc_todo (s : State) (f : Pgc → Pgc) : (s.modPgc f).todo = s.todo := rfl
@[simp] theorem State.modPgc_agenda (s : State) (f : Pgc → Pgc) : (s.modPgc f).agenda = s.agenda := rfl
@[simp] theorem State.modPgc_ev (s : State) (f : Pgc → Pgc) : (s.modPgc f).ev = s.ev := rfl
@[simp] theorem State.modPgc_fresh (s : State) (f : Pgc → Pgc) : (s.modPgc f).fresh = s.fresh := rfl
@[simp] theorem State.modPgc_nextId (s : State) (f : Pgc → Pgc) : (s.modPgc f).nextId = s.nextId := rfl
@[simp] theorem State.modPgc_mem (s : State) (f : Pgc → Pgc) : (s.modPgc f).mem = s.mem := rfl
@[simp] theorem State.modPgc_desc (s : State) (f : Pgc → Pgc) : (s.modPgc f).desc = s.desc := rfl
@[simp] theorem State.modPgc_poison (s : State) (f : Pgc → Pgc) : (s.modPgc f).poison = s.poison := rfl
@[simp] theorem State.modPgc_eccErrors (s : State) (f : Pgc → Pgc) : (s.modPgc f).eccErrors = s.eccErrors := rfl
@[simp] theorem State.modPgc_l2Errors (s : State) (f : Pgc → Pgc) : (s.modPgc f).l2Errors = s.l2Errors := rfl
@[simp] theorem State.modPgc_scrub (s : State) (f : Pgc → Pgc) : (s.modPgc f).scrub = s.scrub := rfl
@[simp] theorem State.modPgc_under (s : State) (f : Pgc → Pgc) : (s.modPgc f).under = s.under := rfl
@[simp] theorem State.modPgc_versions (s : State) (f : Pgc → Pgc) : (s.modPgc f).versions = s.versions := rfl
@[simp] theorem State.modPgc_switches (s : State) (f : Pgc → Pgc) : (s.modPgc f).switches = s.switches := rfl
@[simp] theorem State.modPgc_groups (s : State) (f : Pgc → Pgc) : (s.modPgc f).groups = s.groups := rfl
@[simp] theorem State.modPgc_teams (s : State) (f : Pgc → Pgc) : (s.modPgc f).teams = s.teams := rfl
@[simp] theorem State.modPgc_clusters (s : State) (f : Pgc → Pgc) : (s.modPgc f).clusters = s.clusters := rfl
@[simp] theorem State.modPgc_ctxs (s : State) (f : Pgc → Pgc) : (s.modPgc f).ctxs = s.ctxs := rfl
@[simp] theorem State.modPgc_plots (s : State) (f : Pgc → Pgc) : (s.modPgc f).plots = s.plots := rfl
@[simp] theorem State.modPgc_quads (s : State) (f : Pgc → Pgc) : (s.modPgc f).quads = s.quads := rfl
@[simp] theorem State.modPgc_dies (s : State) (f : Pgc → Pgc) : (s.modPgc f).dies = s.dies := rfl
@[simp] theorem State.modPgc_ces (s : State) (f : Pgc → Pgc) : (s.modPgc f).ces = s.ces := rfl
@[simp] theorem State.modPgc_cmds (s : State) (f : Pgc → Pgc) : (s.modPgc f).cmds = s.cmds := rfl
@[simp] theorem State.modPgc_frames (s : State) (f : Pgc → Pgc) : (s.modPgc f).frames = s.frames := rfl
@[simp] theorem State.modPgc_leases (s : State) (f : Pgc → Pgc) : (s.modPgc f).leases = s.leases := rfl
@[simp] theorem State.modPgc_pgc (s : State) (f : Pgc → Pgc) : (s.modPgc f).pgc = f s.pgc := rfl
@[simp] theorem State.modPgc_regs (s : State) (f : Pgc → Pgc) : (s.modPgc f).regs = s.regs := rfl
@[simp] theorem State.modPgc_nvm (s : State) (f : Pgc → Pgc) : (s.modPgc f).nvm = s.nvm := rfl
@[simp] theorem State.modPgc_boot (s : State) (f : Pgc → Pgc) : (s.modPgc f).boot = s.boot := rfl
@[simp] theorem State.modPgc_placerLast (s : State) (f : Pgc → Pgc) : (s.modPgc f).placerLast = s.placerLast := rfl
@[simp] theorem State.modPgc_outbox (s : State) (f : Pgc → Pgc) : (s.modPgc f).outbox = s.outbox := rfl

/-! ## modRegs -/

@[simp] theorem State.modRegs_cycle (s : State) (f : Regs → Regs) : (s.modRegs f).cycle = s.cycle := rfl
@[simp] theorem State.modRegs_todo (s : State) (f : Regs → Regs) : (s.modRegs f).todo = s.todo := rfl
@[simp] theorem State.modRegs_agenda (s : State) (f : Regs → Regs) : (s.modRegs f).agenda = s.agenda := rfl
@[simp] theorem State.modRegs_ev (s : State) (f : Regs → Regs) : (s.modRegs f).ev = s.ev := rfl
@[simp] theorem State.modRegs_fresh (s : State) (f : Regs → Regs) : (s.modRegs f).fresh = s.fresh := rfl
@[simp] theorem State.modRegs_nextId (s : State) (f : Regs → Regs) : (s.modRegs f).nextId = s.nextId := rfl
@[simp] theorem State.modRegs_mem (s : State) (f : Regs → Regs) : (s.modRegs f).mem = s.mem := rfl
@[simp] theorem State.modRegs_desc (s : State) (f : Regs → Regs) : (s.modRegs f).desc = s.desc := rfl
@[simp] theorem State.modRegs_poison (s : State) (f : Regs → Regs) : (s.modRegs f).poison = s.poison := rfl
@[simp] theorem State.modRegs_eccErrors (s : State) (f : Regs → Regs) : (s.modRegs f).eccErrors = s.eccErrors := rfl
@[simp] theorem State.modRegs_l2Errors (s : State) (f : Regs → Regs) : (s.modRegs f).l2Errors = s.l2Errors := rfl
@[simp] theorem State.modRegs_scrub (s : State) (f : Regs → Regs) : (s.modRegs f).scrub = s.scrub := rfl
@[simp] theorem State.modRegs_under (s : State) (f : Regs → Regs) : (s.modRegs f).under = s.under := rfl
@[simp] theorem State.modRegs_versions (s : State) (f : Regs → Regs) : (s.modRegs f).versions = s.versions := rfl
@[simp] theorem State.modRegs_switches (s : State) (f : Regs → Regs) : (s.modRegs f).switches = s.switches := rfl
@[simp] theorem State.modRegs_groups (s : State) (f : Regs → Regs) : (s.modRegs f).groups = s.groups := rfl
@[simp] theorem State.modRegs_teams (s : State) (f : Regs → Regs) : (s.modRegs f).teams = s.teams := rfl
@[simp] theorem State.modRegs_clusters (s : State) (f : Regs → Regs) : (s.modRegs f).clusters = s.clusters := rfl
@[simp] theorem State.modRegs_ctxs (s : State) (f : Regs → Regs) : (s.modRegs f).ctxs = s.ctxs := rfl
@[simp] theorem State.modRegs_plots (s : State) (f : Regs → Regs) : (s.modRegs f).plots = s.plots := rfl
@[simp] theorem State.modRegs_quads (s : State) (f : Regs → Regs) : (s.modRegs f).quads = s.quads := rfl
@[simp] theorem State.modRegs_dies (s : State) (f : Regs → Regs) : (s.modRegs f).dies = s.dies := rfl
@[simp] theorem State.modRegs_ces (s : State) (f : Regs → Regs) : (s.modRegs f).ces = s.ces := rfl
@[simp] theorem State.modRegs_cmds (s : State) (f : Regs → Regs) : (s.modRegs f).cmds = s.cmds := rfl
@[simp] theorem State.modRegs_frames (s : State) (f : Regs → Regs) : (s.modRegs f).frames = s.frames := rfl
@[simp] theorem State.modRegs_leases (s : State) (f : Regs → Regs) : (s.modRegs f).leases = s.leases := rfl
@[simp] theorem State.modRegs_pgc (s : State) (f : Regs → Regs) : (s.modRegs f).pgc = s.pgc := rfl
@[simp] theorem State.modRegs_regs (s : State) (f : Regs → Regs) : (s.modRegs f).regs = f s.regs := rfl
@[simp] theorem State.modRegs_nvm (s : State) (f : Regs → Regs) : (s.modRegs f).nvm = s.nvm := rfl
@[simp] theorem State.modRegs_boot (s : State) (f : Regs → Regs) : (s.modRegs f).boot = s.boot := rfl
@[simp] theorem State.modRegs_placerLast (s : State) (f : Regs → Regs) : (s.modRegs f).placerLast = s.placerLast := rfl
@[simp] theorem State.modRegs_outbox (s : State) (f : Regs → Regs) : (s.modRegs f).outbox = s.outbox := rfl

/-! ## modNvm -/

@[simp] theorem State.modNvm_cycle (s : State) (f : Nvm → Nvm) : (s.modNvm f).cycle = s.cycle := rfl
@[simp] theorem State.modNvm_todo (s : State) (f : Nvm → Nvm) : (s.modNvm f).todo = s.todo := rfl
@[simp] theorem State.modNvm_agenda (s : State) (f : Nvm → Nvm) : (s.modNvm f).agenda = s.agenda := rfl
@[simp] theorem State.modNvm_ev (s : State) (f : Nvm → Nvm) : (s.modNvm f).ev = s.ev := rfl
@[simp] theorem State.modNvm_fresh (s : State) (f : Nvm → Nvm) : (s.modNvm f).fresh = s.fresh := rfl
@[simp] theorem State.modNvm_nextId (s : State) (f : Nvm → Nvm) : (s.modNvm f).nextId = s.nextId := rfl
@[simp] theorem State.modNvm_mem (s : State) (f : Nvm → Nvm) : (s.modNvm f).mem = s.mem := rfl
@[simp] theorem State.modNvm_desc (s : State) (f : Nvm → Nvm) : (s.modNvm f).desc = s.desc := rfl
@[simp] theorem State.modNvm_poison (s : State) (f : Nvm → Nvm) : (s.modNvm f).poison = s.poison := rfl
@[simp] theorem State.modNvm_eccErrors (s : State) (f : Nvm → Nvm) : (s.modNvm f).eccErrors = s.eccErrors := rfl
@[simp] theorem State.modNvm_l2Errors (s : State) (f : Nvm → Nvm) : (s.modNvm f).l2Errors = s.l2Errors := rfl
@[simp] theorem State.modNvm_scrub (s : State) (f : Nvm → Nvm) : (s.modNvm f).scrub = s.scrub := rfl
@[simp] theorem State.modNvm_under (s : State) (f : Nvm → Nvm) : (s.modNvm f).under = s.under := rfl
@[simp] theorem State.modNvm_versions (s : State) (f : Nvm → Nvm) : (s.modNvm f).versions = s.versions := rfl
@[simp] theorem State.modNvm_switches (s : State) (f : Nvm → Nvm) : (s.modNvm f).switches = s.switches := rfl
@[simp] theorem State.modNvm_groups (s : State) (f : Nvm → Nvm) : (s.modNvm f).groups = s.groups := rfl
@[simp] theorem State.modNvm_teams (s : State) (f : Nvm → Nvm) : (s.modNvm f).teams = s.teams := rfl
@[simp] theorem State.modNvm_clusters (s : State) (f : Nvm → Nvm) : (s.modNvm f).clusters = s.clusters := rfl
@[simp] theorem State.modNvm_ctxs (s : State) (f : Nvm → Nvm) : (s.modNvm f).ctxs = s.ctxs := rfl
@[simp] theorem State.modNvm_plots (s : State) (f : Nvm → Nvm) : (s.modNvm f).plots = s.plots := rfl
@[simp] theorem State.modNvm_quads (s : State) (f : Nvm → Nvm) : (s.modNvm f).quads = s.quads := rfl
@[simp] theorem State.modNvm_dies (s : State) (f : Nvm → Nvm) : (s.modNvm f).dies = s.dies := rfl
@[simp] theorem State.modNvm_ces (s : State) (f : Nvm → Nvm) : (s.modNvm f).ces = s.ces := rfl
@[simp] theorem State.modNvm_cmds (s : State) (f : Nvm → Nvm) : (s.modNvm f).cmds = s.cmds := rfl
@[simp] theorem State.modNvm_frames (s : State) (f : Nvm → Nvm) : (s.modNvm f).frames = s.frames := rfl
@[simp] theorem State.modNvm_leases (s : State) (f : Nvm → Nvm) : (s.modNvm f).leases = s.leases := rfl
@[simp] theorem State.modNvm_pgc (s : State) (f : Nvm → Nvm) : (s.modNvm f).pgc = s.pgc := rfl
@[simp] theorem State.modNvm_regs (s : State) (f : Nvm → Nvm) : (s.modNvm f).regs = s.regs := rfl
@[simp] theorem State.modNvm_nvm (s : State) (f : Nvm → Nvm) : (s.modNvm f).nvm = f s.nvm := rfl
@[simp] theorem State.modNvm_boot (s : State) (f : Nvm → Nvm) : (s.modNvm f).boot = s.boot := rfl
@[simp] theorem State.modNvm_placerLast (s : State) (f : Nvm → Nvm) : (s.modNvm f).placerLast = s.placerLast := rfl
@[simp] theorem State.modNvm_outbox (s : State) (f : Nvm → Nvm) : (s.modNvm f).outbox = s.outbox := rfl

/-! ## modBoot -/

@[simp] theorem State.modBoot_cycle (s : State) (f : Boot → Boot) : (s.modBoot f).cycle = s.cycle := rfl
@[simp] theorem State.modBoot_todo (s : State) (f : Boot → Boot) : (s.modBoot f).todo = s.todo := rfl
@[simp] theorem State.modBoot_agenda (s : State) (f : Boot → Boot) : (s.modBoot f).agenda = s.agenda := rfl
@[simp] theorem State.modBoot_ev (s : State) (f : Boot → Boot) : (s.modBoot f).ev = s.ev := rfl
@[simp] theorem State.modBoot_fresh (s : State) (f : Boot → Boot) : (s.modBoot f).fresh = s.fresh := rfl
@[simp] theorem State.modBoot_nextId (s : State) (f : Boot → Boot) : (s.modBoot f).nextId = s.nextId := rfl
@[simp] theorem State.modBoot_mem (s : State) (f : Boot → Boot) : (s.modBoot f).mem = s.mem := rfl
@[simp] theorem State.modBoot_desc (s : State) (f : Boot → Boot) : (s.modBoot f).desc = s.desc := rfl
@[simp] theorem State.modBoot_poison (s : State) (f : Boot → Boot) : (s.modBoot f).poison = s.poison := rfl
@[simp] theorem State.modBoot_eccErrors (s : State) (f : Boot → Boot) : (s.modBoot f).eccErrors = s.eccErrors := rfl
@[simp] theorem State.modBoot_l2Errors (s : State) (f : Boot → Boot) : (s.modBoot f).l2Errors = s.l2Errors := rfl
@[simp] theorem State.modBoot_scrub (s : State) (f : Boot → Boot) : (s.modBoot f).scrub = s.scrub := rfl
@[simp] theorem State.modBoot_under (s : State) (f : Boot → Boot) : (s.modBoot f).under = s.under := rfl
@[simp] theorem State.modBoot_versions (s : State) (f : Boot → Boot) : (s.modBoot f).versions = s.versions := rfl
@[simp] theorem State.modBoot_switches (s : State) (f : Boot → Boot) : (s.modBoot f).switches = s.switches := rfl
@[simp] theorem State.modBoot_groups (s : State) (f : Boot → Boot) : (s.modBoot f).groups = s.groups := rfl
@[simp] theorem State.modBoot_teams (s : State) (f : Boot → Boot) : (s.modBoot f).teams = s.teams := rfl
@[simp] theorem State.modBoot_clusters (s : State) (f : Boot → Boot) : (s.modBoot f).clusters = s.clusters := rfl
@[simp] theorem State.modBoot_ctxs (s : State) (f : Boot → Boot) : (s.modBoot f).ctxs = s.ctxs := rfl
@[simp] theorem State.modBoot_plots (s : State) (f : Boot → Boot) : (s.modBoot f).plots = s.plots := rfl
@[simp] theorem State.modBoot_quads (s : State) (f : Boot → Boot) : (s.modBoot f).quads = s.quads := rfl
@[simp] theorem State.modBoot_dies (s : State) (f : Boot → Boot) : (s.modBoot f).dies = s.dies := rfl
@[simp] theorem State.modBoot_ces (s : State) (f : Boot → Boot) : (s.modBoot f).ces = s.ces := rfl
@[simp] theorem State.modBoot_cmds (s : State) (f : Boot → Boot) : (s.modBoot f).cmds = s.cmds := rfl
@[simp] theorem State.modBoot_frames (s : State) (f : Boot → Boot) : (s.modBoot f).frames = s.frames := rfl
@[simp] theorem State.modBoot_leases (s : State) (f : Boot → Boot) : (s.modBoot f).leases = s.leases := rfl
@[simp] theorem State.modBoot_pgc (s : State) (f : Boot → Boot) : (s.modBoot f).pgc = s.pgc := rfl
@[simp] theorem State.modBoot_regs (s : State) (f : Boot → Boot) : (s.modBoot f).regs = s.regs := rfl
@[simp] theorem State.modBoot_nvm (s : State) (f : Boot → Boot) : (s.modBoot f).nvm = s.nvm := rfl
@[simp] theorem State.modBoot_boot (s : State) (f : Boot → Boot) : (s.modBoot f).boot = f s.boot := rfl
@[simp] theorem State.modBoot_placerLast (s : State) (f : Boot → Boot) : (s.modBoot f).placerLast = s.placerLast := rfl
@[simp] theorem State.modBoot_outbox (s : State) (f : Boot → Boot) : (s.modBoot f).outbox = s.outbox := rfl

/-! ## emit -/

@[simp] theorem State.emit_cycle (s : State) (m : Msg) : (s.emit m).cycle = s.cycle := rfl
@[simp] theorem State.emit_todo (s : State) (m : Msg) : (s.emit m).todo = s.todo := rfl
@[simp] theorem State.emit_agenda (s : State) (m : Msg) : (s.emit m).agenda = s.agenda := rfl
@[simp] theorem State.emit_ev (s : State) (m : Msg) : (s.emit m).ev = s.ev := rfl
@[simp] theorem State.emit_fresh (s : State) (m : Msg) : (s.emit m).fresh = s.fresh := rfl
@[simp] theorem State.emit_nextId (s : State) (m : Msg) : (s.emit m).nextId = s.nextId := rfl
@[simp] theorem State.emit_mem (s : State) (m : Msg) : (s.emit m).mem = s.mem := rfl
@[simp] theorem State.emit_desc (s : State) (m : Msg) : (s.emit m).desc = s.desc := rfl
@[simp] theorem State.emit_poison (s : State) (m : Msg) : (s.emit m).poison = s.poison := rfl
@[simp] theorem State.emit_eccErrors (s : State) (m : Msg) : (s.emit m).eccErrors = s.eccErrors := rfl
@[simp] theorem State.emit_l2Errors (s : State) (m : Msg) : (s.emit m).l2Errors = s.l2Errors := rfl
@[simp] theorem State.emit_scrub (s : State) (m : Msg) : (s.emit m).scrub = s.scrub := rfl
@[simp] theorem State.emit_under (s : State) (m : Msg) : (s.emit m).under = s.under := rfl
@[simp] theorem State.emit_versions (s : State) (m : Msg) : (s.emit m).versions = s.versions := rfl
@[simp] theorem State.emit_switches (s : State) (m : Msg) : (s.emit m).switches = s.switches := rfl
@[simp] theorem State.emit_groups (s : State) (m : Msg) : (s.emit m).groups = s.groups := rfl
@[simp] theorem State.emit_teams (s : State) (m : Msg) : (s.emit m).teams = s.teams := rfl
@[simp] theorem State.emit_clusters (s : State) (m : Msg) : (s.emit m).clusters = s.clusters := rfl
@[simp] theorem State.emit_ctxs (s : State) (m : Msg) : (s.emit m).ctxs = s.ctxs := rfl
@[simp] theorem State.emit_plots (s : State) (m : Msg) : (s.emit m).plots = s.plots := rfl
@[simp] theorem State.emit_quads (s : State) (m : Msg) : (s.emit m).quads = s.quads := rfl
@[simp] theorem State.emit_dies (s : State) (m : Msg) : (s.emit m).dies = s.dies := rfl
@[simp] theorem State.emit_ces (s : State) (m : Msg) : (s.emit m).ces = s.ces := rfl
@[simp] theorem State.emit_cmds (s : State) (m : Msg) : (s.emit m).cmds = s.cmds := rfl
@[simp] theorem State.emit_frames (s : State) (m : Msg) : (s.emit m).frames = s.frames := rfl
@[simp] theorem State.emit_leases (s : State) (m : Msg) : (s.emit m).leases = s.leases := rfl
@[simp] theorem State.emit_pgc (s : State) (m : Msg) : (s.emit m).pgc = s.pgc := rfl
@[simp] theorem State.emit_regs (s : State) (m : Msg) : (s.emit m).regs = s.regs := rfl
@[simp] theorem State.emit_nvm (s : State) (m : Msg) : (s.emit m).nvm = s.nvm := rfl
@[simp] theorem State.emit_boot (s : State) (m : Msg) : (s.emit m).boot = s.boot := rfl
@[simp] theorem State.emit_placerLast (s : State) (m : Msg) : (s.emit m).placerLast = s.placerLast := rfl
@[simp] theorem State.emit_outbox (s : State) (m : Msg) : (s.emit m).outbox = s.outbox ++ [m] := rfl

/-! ## bump -/

@[simp] theorem State.bump_cycle (s : State) : (s.bump).cycle = s.cycle := rfl
@[simp] theorem State.bump_todo (s : State) : (s.bump).todo = s.todo := rfl
@[simp] theorem State.bump_agenda (s : State) : (s.bump).agenda = s.agenda := rfl
@[simp] theorem State.bump_ev (s : State) : (s.bump).ev = s.ev := rfl
@[simp] theorem State.bump_fresh (s : State) : (s.bump).fresh = s.fresh := rfl
@[simp] theorem State.bump_nextId (s : State) : (s.bump).nextId = s.nextId + 1 := rfl
@[simp] theorem State.bump_mem (s : State) : (s.bump).mem = s.mem := rfl
@[simp] theorem State.bump_desc (s : State) : (s.bump).desc = s.desc := rfl
@[simp] theorem State.bump_poison (s : State) : (s.bump).poison = s.poison := rfl
@[simp] theorem State.bump_eccErrors (s : State) : (s.bump).eccErrors = s.eccErrors := rfl
@[simp] theorem State.bump_l2Errors (s : State) : (s.bump).l2Errors = s.l2Errors := rfl
@[simp] theorem State.bump_scrub (s : State) : (s.bump).scrub = s.scrub := rfl
@[simp] theorem State.bump_under (s : State) : (s.bump).under = s.under := rfl
@[simp] theorem State.bump_versions (s : State) : (s.bump).versions = s.versions := rfl
@[simp] theorem State.bump_switches (s : State) : (s.bump).switches = s.switches := rfl
@[simp] theorem State.bump_groups (s : State) : (s.bump).groups = s.groups := rfl
@[simp] theorem State.bump_teams (s : State) : (s.bump).teams = s.teams := rfl
@[simp] theorem State.bump_clusters (s : State) : (s.bump).clusters = s.clusters := rfl
@[simp] theorem State.bump_ctxs (s : State) : (s.bump).ctxs = s.ctxs := rfl
@[simp] theorem State.bump_plots (s : State) : (s.bump).plots = s.plots := rfl
@[simp] theorem State.bump_quads (s : State) : (s.bump).quads = s.quads := rfl
@[simp] theorem State.bump_dies (s : State) : (s.bump).dies = s.dies := rfl
@[simp] theorem State.bump_ces (s : State) : (s.bump).ces = s.ces := rfl
@[simp] theorem State.bump_cmds (s : State) : (s.bump).cmds = s.cmds := rfl
@[simp] theorem State.bump_frames (s : State) : (s.bump).frames = s.frames := rfl
@[simp] theorem State.bump_leases (s : State) : (s.bump).leases = s.leases := rfl
@[simp] theorem State.bump_pgc (s : State) : (s.bump).pgc = s.pgc := rfl
@[simp] theorem State.bump_regs (s : State) : (s.bump).regs = s.regs := rfl
@[simp] theorem State.bump_nvm (s : State) : (s.bump).nvm = s.nvm := rfl
@[simp] theorem State.bump_boot (s : State) : (s.bump).boot = s.boot := rfl
@[simp] theorem State.bump_placerLast (s : State) : (s.bump).placerLast = s.placerLast := rfl
@[simp] theorem State.bump_outbox (s : State) : (s.bump).outbox = s.outbox := rfl

/-! ## endTurn -/

@[simp] theorem State.endTurn_cycle (s : State) : (s.endTurn).cycle = s.cycle := rfl
@[simp] theorem State.endTurn_todo (s : State) : (s.endTurn).todo = s.todo.drop 1 := rfl
@[simp] theorem State.endTurn_agenda (s : State) : (s.endTurn).agenda = s.agenda := rfl
@[simp] theorem State.endTurn_ev (s : State) : (s.endTurn).ev = s.ev := rfl
@[simp] theorem State.endTurn_fresh (s : State) : (s.endTurn).fresh = s.fresh := rfl
@[simp] theorem State.endTurn_nextId (s : State) : (s.endTurn).nextId = s.nextId := rfl
@[simp] theorem State.endTurn_mem (s : State) : (s.endTurn).mem = s.mem := rfl
@[simp] theorem State.endTurn_desc (s : State) : (s.endTurn).desc = s.desc := rfl
@[simp] theorem State.endTurn_poison (s : State) : (s.endTurn).poison = s.poison := rfl
@[simp] theorem State.endTurn_eccErrors (s : State) : (s.endTurn).eccErrors = s.eccErrors := rfl
@[simp] theorem State.endTurn_l2Errors (s : State) : (s.endTurn).l2Errors = s.l2Errors := rfl
@[simp] theorem State.endTurn_scrub (s : State) : (s.endTurn).scrub = s.scrub := rfl
@[simp] theorem State.endTurn_under (s : State) : (s.endTurn).under = s.under := rfl
@[simp] theorem State.endTurn_versions (s : State) : (s.endTurn).versions = s.versions := rfl
@[simp] theorem State.endTurn_switches (s : State) : (s.endTurn).switches = s.switches := rfl
@[simp] theorem State.endTurn_groups (s : State) : (s.endTurn).groups = s.groups := rfl
@[simp] theorem State.endTurn_teams (s : State) : (s.endTurn).teams = s.teams := rfl
@[simp] theorem State.endTurn_clusters (s : State) : (s.endTurn).clusters = s.clusters := rfl
@[simp] theorem State.endTurn_ctxs (s : State) : (s.endTurn).ctxs = s.ctxs := rfl
@[simp] theorem State.endTurn_plots (s : State) : (s.endTurn).plots = s.plots := rfl
@[simp] theorem State.endTurn_quads (s : State) : (s.endTurn).quads = s.quads := rfl
@[simp] theorem State.endTurn_dies (s : State) : (s.endTurn).dies = s.dies := rfl
@[simp] theorem State.endTurn_ces (s : State) : (s.endTurn).ces = s.ces := rfl
@[simp] theorem State.endTurn_cmds (s : State) : (s.endTurn).cmds = s.cmds := rfl
@[simp] theorem State.endTurn_frames (s : State) : (s.endTurn).frames = s.frames := rfl
@[simp] theorem State.endTurn_leases (s : State) : (s.endTurn).leases = s.leases := rfl
@[simp] theorem State.endTurn_pgc (s : State) : (s.endTurn).pgc = s.pgc := rfl
@[simp] theorem State.endTurn_regs (s : State) : (s.endTurn).regs = s.regs := rfl
@[simp] theorem State.endTurn_nvm (s : State) : (s.endTurn).nvm = s.nvm := rfl
@[simp] theorem State.endTurn_boot (s : State) : (s.endTurn).boot = s.boot := rfl
@[simp] theorem State.endTurn_placerLast (s : State) : (s.endTurn).placerLast = s.placerLast := rfl
@[simp] theorem State.endTurn_outbox (s : State) : (s.endTurn).outbox = s.outbox := rfl

/-! ## atCycle -/

@[simp] theorem State.atCycle_cycle (s : State) (c : Nat) (i : Instr) (e : Ev) : (s.atCycle c i e).cycle = s.cycle := rfl
@[simp] theorem State.atCycle_todo (s : State) (c : Nat) (i : Instr) (e : Ev) : (s.atCycle c i e).todo = s.todo := rfl
@[simp] theorem State.atCycle_agenda (s : State) (c : Nat) (i : Instr) (e : Ev) : (s.atCycle c i e).agenda = agendaInsert s.agenda { due := c, what := i, ev := e } := rfl
@[simp] theorem State.atCycle_ev (s : State) (c : Nat) (i : Instr) (e : Ev) : (s.atCycle c i e).ev = s.ev := rfl
@[simp] theorem State.atCycle_fresh (s : State) (c : Nat) (i : Instr) (e : Ev) : (s.atCycle c i e).fresh = s.fresh := rfl
@[simp] theorem State.atCycle_nextId (s : State) (c : Nat) (i : Instr) (e : Ev) : (s.atCycle c i e).nextId = s.nextId := rfl
@[simp] theorem State.atCycle_mem (s : State) (c : Nat) (i : Instr) (e : Ev) : (s.atCycle c i e).mem = s.mem := rfl
@[simp] theorem State.atCycle_desc (s : State) (c : Nat) (i : Instr) (e : Ev) : (s.atCycle c i e).desc = s.desc := rfl
@[simp] theorem State.atCycle_poison (s : State) (c : Nat) (i : Instr) (e : Ev) : (s.atCycle c i e).poison = s.poison := rfl
@[simp] theorem State.atCycle_eccErrors (s : State) (c : Nat) (i : Instr) (e : Ev) : (s.atCycle c i e).eccErrors = s.eccErrors := rfl
@[simp] theorem State.atCycle_l2Errors (s : State) (c : Nat) (i : Instr) (e : Ev) : (s.atCycle c i e).l2Errors = s.l2Errors := rfl
@[simp] theorem State.atCycle_scrub (s : State) (c : Nat) (i : Instr) (e : Ev) : (s.atCycle c i e).scrub = s.scrub := rfl
@[simp] theorem State.atCycle_under (s : State) (c : Nat) (i : Instr) (e : Ev) : (s.atCycle c i e).under = s.under := rfl
@[simp] theorem State.atCycle_versions (s : State) (c : Nat) (i : Instr) (e : Ev) : (s.atCycle c i e).versions = s.versions := rfl
@[simp] theorem State.atCycle_switches (s : State) (c : Nat) (i : Instr) (e : Ev) : (s.atCycle c i e).switches = s.switches := rfl
@[simp] theorem State.atCycle_groups (s : State) (c : Nat) (i : Instr) (e : Ev) : (s.atCycle c i e).groups = s.groups := rfl
@[simp] theorem State.atCycle_teams (s : State) (c : Nat) (i : Instr) (e : Ev) : (s.atCycle c i e).teams = s.teams := rfl
@[simp] theorem State.atCycle_clusters (s : State) (c : Nat) (i : Instr) (e : Ev) : (s.atCycle c i e).clusters = s.clusters := rfl
@[simp] theorem State.atCycle_ctxs (s : State) (c : Nat) (i : Instr) (e : Ev) : (s.atCycle c i e).ctxs = s.ctxs := rfl
@[simp] theorem State.atCycle_plots (s : State) (c : Nat) (i : Instr) (e : Ev) : (s.atCycle c i e).plots = s.plots := rfl
@[simp] theorem State.atCycle_quads (s : State) (c : Nat) (i : Instr) (e : Ev) : (s.atCycle c i e).quads = s.quads := rfl
@[simp] theorem State.atCycle_dies (s : State) (c : Nat) (i : Instr) (e : Ev) : (s.atCycle c i e).dies = s.dies := rfl
@[simp] theorem State.atCycle_ces (s : State) (c : Nat) (i : Instr) (e : Ev) : (s.atCycle c i e).ces = s.ces := rfl
@[simp] theorem State.atCycle_cmds (s : State) (c : Nat) (i : Instr) (e : Ev) : (s.atCycle c i e).cmds = s.cmds := rfl
@[simp] theorem State.atCycle_frames (s : State) (c : Nat) (i : Instr) (e : Ev) : (s.atCycle c i e).frames = s.frames := rfl
@[simp] theorem State.atCycle_leases (s : State) (c : Nat) (i : Instr) (e : Ev) : (s.atCycle c i e).leases = s.leases := rfl
@[simp] theorem State.atCycle_pgc (s : State) (c : Nat) (i : Instr) (e : Ev) : (s.atCycle c i e).pgc = s.pgc := rfl
@[simp] theorem State.atCycle_regs (s : State) (c : Nat) (i : Instr) (e : Ev) : (s.atCycle c i e).regs = s.regs := rfl
@[simp] theorem State.atCycle_nvm (s : State) (c : Nat) (i : Instr) (e : Ev) : (s.atCycle c i e).nvm = s.nvm := rfl
@[simp] theorem State.atCycle_boot (s : State) (c : Nat) (i : Instr) (e : Ev) : (s.atCycle c i e).boot = s.boot := rfl
@[simp] theorem State.atCycle_placerLast (s : State) (c : Nat) (i : Instr) (e : Ev) : (s.atCycle c i e).placerLast = s.placerLast := rfl
@[simp] theorem State.atCycle_outbox (s : State) (c : Nat) (i : Instr) (e : Ev) : (s.atCycle c i e).outbox = s.outbox := rfl

/-! ## after -/

@[simp] theorem State.after_cycle (s : State) (n : Nat) (i : Instr) (e : Ev) : (s.after n i e).cycle = s.cycle := rfl
@[simp] theorem State.after_todo (s : State) (n : Nat) (i : Instr) (e : Ev) : (s.after n i e).todo = s.todo := rfl
@[simp] theorem State.after_agenda (s : State) (n : Nat) (i : Instr) (e : Ev) : (s.after n i e).agenda = agendaInsert s.agenda { due := s.cycle + n, what := i, ev := e } := rfl
@[simp] theorem State.after_ev (s : State) (n : Nat) (i : Instr) (e : Ev) : (s.after n i e).ev = s.ev := rfl
@[simp] theorem State.after_fresh (s : State) (n : Nat) (i : Instr) (e : Ev) : (s.after n i e).fresh = s.fresh := rfl
@[simp] theorem State.after_nextId (s : State) (n : Nat) (i : Instr) (e : Ev) : (s.after n i e).nextId = s.nextId := rfl
@[simp] theorem State.after_mem (s : State) (n : Nat) (i : Instr) (e : Ev) : (s.after n i e).mem = s.mem := rfl
@[simp] theorem State.after_desc (s : State) (n : Nat) (i : Instr) (e : Ev) : (s.after n i e).desc = s.desc := rfl
@[simp] theorem State.after_poison (s : State) (n : Nat) (i : Instr) (e : Ev) : (s.after n i e).poison = s.poison := rfl
@[simp] theorem State.after_eccErrors (s : State) (n : Nat) (i : Instr) (e : Ev) : (s.after n i e).eccErrors = s.eccErrors := rfl
@[simp] theorem State.after_l2Errors (s : State) (n : Nat) (i : Instr) (e : Ev) : (s.after n i e).l2Errors = s.l2Errors := rfl
@[simp] theorem State.after_scrub (s : State) (n : Nat) (i : Instr) (e : Ev) : (s.after n i e).scrub = s.scrub := rfl
@[simp] theorem State.after_under (s : State) (n : Nat) (i : Instr) (e : Ev) : (s.after n i e).under = s.under := rfl
@[simp] theorem State.after_versions (s : State) (n : Nat) (i : Instr) (e : Ev) : (s.after n i e).versions = s.versions := rfl
@[simp] theorem State.after_switches (s : State) (n : Nat) (i : Instr) (e : Ev) : (s.after n i e).switches = s.switches := rfl
@[simp] theorem State.after_groups (s : State) (n : Nat) (i : Instr) (e : Ev) : (s.after n i e).groups = s.groups := rfl
@[simp] theorem State.after_teams (s : State) (n : Nat) (i : Instr) (e : Ev) : (s.after n i e).teams = s.teams := rfl
@[simp] theorem State.after_clusters (s : State) (n : Nat) (i : Instr) (e : Ev) : (s.after n i e).clusters = s.clusters := rfl
@[simp] theorem State.after_ctxs (s : State) (n : Nat) (i : Instr) (e : Ev) : (s.after n i e).ctxs = s.ctxs := rfl
@[simp] theorem State.after_plots (s : State) (n : Nat) (i : Instr) (e : Ev) : (s.after n i e).plots = s.plots := rfl
@[simp] theorem State.after_quads (s : State) (n : Nat) (i : Instr) (e : Ev) : (s.after n i e).quads = s.quads := rfl
@[simp] theorem State.after_dies (s : State) (n : Nat) (i : Instr) (e : Ev) : (s.after n i e).dies = s.dies := rfl
@[simp] theorem State.after_ces (s : State) (n : Nat) (i : Instr) (e : Ev) : (s.after n i e).ces = s.ces := rfl
@[simp] theorem State.after_cmds (s : State) (n : Nat) (i : Instr) (e : Ev) : (s.after n i e).cmds = s.cmds := rfl
@[simp] theorem State.after_frames (s : State) (n : Nat) (i : Instr) (e : Ev) : (s.after n i e).frames = s.frames := rfl
@[simp] theorem State.after_leases (s : State) (n : Nat) (i : Instr) (e : Ev) : (s.after n i e).leases = s.leases := rfl
@[simp] theorem State.after_pgc (s : State) (n : Nat) (i : Instr) (e : Ev) : (s.after n i e).pgc = s.pgc := rfl
@[simp] theorem State.after_regs (s : State) (n : Nat) (i : Instr) (e : Ev) : (s.after n i e).regs = s.regs := rfl
@[simp] theorem State.after_nvm (s : State) (n : Nat) (i : Instr) (e : Ev) : (s.after n i e).nvm = s.nvm := rfl
@[simp] theorem State.after_boot (s : State) (n : Nat) (i : Instr) (e : Ev) : (s.after n i e).boot = s.boot := rfl
@[simp] theorem State.after_placerLast (s : State) (n : Nat) (i : Instr) (e : Ev) : (s.after n i e).placerLast = s.placerLast := rfl
@[simp] theorem State.after_outbox (s : State) (n : Nat) (i : Instr) (e : Ev) : (s.after n i e).outbox = s.outbox := rfl

/-! ## atTick -/

@[simp] theorem State.atTick_cycle (s : State) (n : Nat) (i : Instr) (e : Ev) : (s.atTick n i e).cycle = s.cycle := rfl
@[simp] theorem State.atTick_todo (s : State) (n : Nat) (i : Instr) (e : Ev) : (s.atTick n i e).todo = s.todo := rfl
@[simp] theorem State.atTick_agenda (s : State) (n : Nat) (i : Instr) (e : Ev) : (s.atTick n i e).agenda = agendaInsert s.agenda { due := 2 * n, what := i, ev := e } := rfl
@[simp] theorem State.atTick_ev (s : State) (n : Nat) (i : Instr) (e : Ev) : (s.atTick n i e).ev = s.ev := rfl
@[simp] theorem State.atTick_fresh (s : State) (n : Nat) (i : Instr) (e : Ev) : (s.atTick n i e).fresh = s.fresh := rfl
@[simp] theorem State.atTick_nextId (s : State) (n : Nat) (i : Instr) (e : Ev) : (s.atTick n i e).nextId = s.nextId := rfl
@[simp] theorem State.atTick_mem (s : State) (n : Nat) (i : Instr) (e : Ev) : (s.atTick n i e).mem = s.mem := rfl
@[simp] theorem State.atTick_desc (s : State) (n : Nat) (i : Instr) (e : Ev) : (s.atTick n i e).desc = s.desc := rfl
@[simp] theorem State.atTick_poison (s : State) (n : Nat) (i : Instr) (e : Ev) : (s.atTick n i e).poison = s.poison := rfl
@[simp] theorem State.atTick_eccErrors (s : State) (n : Nat) (i : Instr) (e : Ev) : (s.atTick n i e).eccErrors = s.eccErrors := rfl
@[simp] theorem State.atTick_l2Errors (s : State) (n : Nat) (i : Instr) (e : Ev) : (s.atTick n i e).l2Errors = s.l2Errors := rfl
@[simp] theorem State.atTick_scrub (s : State) (n : Nat) (i : Instr) (e : Ev) : (s.atTick n i e).scrub = s.scrub := rfl
@[simp] theorem State.atTick_under (s : State) (n : Nat) (i : Instr) (e : Ev) : (s.atTick n i e).under = s.under := rfl
@[simp] theorem State.atTick_versions (s : State) (n : Nat) (i : Instr) (e : Ev) : (s.atTick n i e).versions = s.versions := rfl
@[simp] theorem State.atTick_switches (s : State) (n : Nat) (i : Instr) (e : Ev) : (s.atTick n i e).switches = s.switches := rfl
@[simp] theorem State.atTick_groups (s : State) (n : Nat) (i : Instr) (e : Ev) : (s.atTick n i e).groups = s.groups := rfl
@[simp] theorem State.atTick_teams (s : State) (n : Nat) (i : Instr) (e : Ev) : (s.atTick n i e).teams = s.teams := rfl
@[simp] theorem State.atTick_clusters (s : State) (n : Nat) (i : Instr) (e : Ev) : (s.atTick n i e).clusters = s.clusters := rfl
@[simp] theorem State.atTick_ctxs (s : State) (n : Nat) (i : Instr) (e : Ev) : (s.atTick n i e).ctxs = s.ctxs := rfl
@[simp] theorem State.atTick_plots (s : State) (n : Nat) (i : Instr) (e : Ev) : (s.atTick n i e).plots = s.plots := rfl
@[simp] theorem State.atTick_quads (s : State) (n : Nat) (i : Instr) (e : Ev) : (s.atTick n i e).quads = s.quads := rfl
@[simp] theorem State.atTick_dies (s : State) (n : Nat) (i : Instr) (e : Ev) : (s.atTick n i e).dies = s.dies := rfl
@[simp] theorem State.atTick_ces (s : State) (n : Nat) (i : Instr) (e : Ev) : (s.atTick n i e).ces = s.ces := rfl
@[simp] theorem State.atTick_cmds (s : State) (n : Nat) (i : Instr) (e : Ev) : (s.atTick n i e).cmds = s.cmds := rfl
@[simp] theorem State.atTick_frames (s : State) (n : Nat) (i : Instr) (e : Ev) : (s.atTick n i e).frames = s.frames := rfl
@[simp] theorem State.atTick_leases (s : State) (n : Nat) (i : Instr) (e : Ev) : (s.atTick n i e).leases = s.leases := rfl
@[simp] theorem State.atTick_pgc (s : State) (n : Nat) (i : Instr) (e : Ev) : (s.atTick n i e).pgc = s.pgc := rfl
@[simp] theorem State.atTick_regs (s : State) (n : Nat) (i : Instr) (e : Ev) : (s.atTick n i e).regs = s.regs := rfl
@[simp] theorem State.atTick_nvm (s : State) (n : Nat) (i : Instr) (e : Ev) : (s.atTick n i e).nvm = s.nvm := rfl
@[simp] theorem State.atTick_boot (s : State) (n : Nat) (i : Instr) (e : Ev) : (s.atTick n i e).boot = s.boot := rfl
@[simp] theorem State.atTick_placerLast (s : State) (n : Nat) (i : Instr) (e : Ev) : (s.atTick n i e).placerLast = s.placerLast := rfl
@[simp] theorem State.atTick_outbox (s : State) (n : Nat) (i : Instr) (e : Ev) : (s.atTick n i e).outbox = s.outbox := rfl

/-! ## unschedule -/

@[simp] theorem State.unschedule_cycle (s : State) (i : Instr) (e : Ev) : (s.unschedule i e).cycle = s.cycle := rfl
@[simp] theorem State.unschedule_todo (s : State) (i : Instr) (e : Ev) : (s.unschedule i e).todo = s.todo := rfl
@[simp] theorem State.unschedule_agenda (s : State) (i : Instr) (e : Ev) : (s.unschedule i e).agenda = s.agenda.filter (fun x => !(decide (x.what = i) && decide (x.ev = e))) := rfl
@[simp] theorem State.unschedule_ev (s : State) (i : Instr) (e : Ev) : (s.unschedule i e).ev = s.ev := rfl
@[simp] theorem State.unschedule_fresh (s : State) (i : Instr) (e : Ev) : (s.unschedule i e).fresh = s.fresh := rfl
@[simp] theorem State.unschedule_nextId (s : State) (i : Instr) (e : Ev) : (s.unschedule i e).nextId = s.nextId := rfl
@[simp] theorem State.unschedule_mem (s : State) (i : Instr) (e : Ev) : (s.unschedule i e).mem = s.mem := rfl
@[simp] theorem State.unschedule_desc (s : State) (i : Instr) (e : Ev) : (s.unschedule i e).desc = s.desc := rfl
@[simp] theorem State.unschedule_poison (s : State) (i : Instr) (e : Ev) : (s.unschedule i e).poison = s.poison := rfl
@[simp] theorem State.unschedule_eccErrors (s : State) (i : Instr) (e : Ev) : (s.unschedule i e).eccErrors = s.eccErrors := rfl
@[simp] theorem State.unschedule_l2Errors (s : State) (i : Instr) (e : Ev) : (s.unschedule i e).l2Errors = s.l2Errors := rfl
@[simp] theorem State.unschedule_scrub (s : State) (i : Instr) (e : Ev) : (s.unschedule i e).scrub = s.scrub := rfl
@[simp] theorem State.unschedule_under (s : State) (i : Instr) (e : Ev) : (s.unschedule i e).under = s.under := rfl
@[simp] theorem State.unschedule_versions (s : State) (i : Instr) (e : Ev) : (s.unschedule i e).versions = s.versions := rfl
@[simp] theorem State.unschedule_switches (s : State) (i : Instr) (e : Ev) : (s.unschedule i e).switches = s.switches := rfl
@[simp] theorem State.unschedule_groups (s : State) (i : Instr) (e : Ev) : (s.unschedule i e).groups = s.groups := rfl
@[simp] theorem State.unschedule_teams (s : State) (i : Instr) (e : Ev) : (s.unschedule i e).teams = s.teams := rfl
@[simp] theorem State.unschedule_clusters (s : State) (i : Instr) (e : Ev) : (s.unschedule i e).clusters = s.clusters := rfl
@[simp] theorem State.unschedule_ctxs (s : State) (i : Instr) (e : Ev) : (s.unschedule i e).ctxs = s.ctxs := rfl
@[simp] theorem State.unschedule_plots (s : State) (i : Instr) (e : Ev) : (s.unschedule i e).plots = s.plots := rfl
@[simp] theorem State.unschedule_quads (s : State) (i : Instr) (e : Ev) : (s.unschedule i e).quads = s.quads := rfl
@[simp] theorem State.unschedule_dies (s : State) (i : Instr) (e : Ev) : (s.unschedule i e).dies = s.dies := rfl
@[simp] theorem State.unschedule_ces (s : State) (i : Instr) (e : Ev) : (s.unschedule i e).ces = s.ces := rfl
@[simp] theorem State.unschedule_cmds (s : State) (i : Instr) (e : Ev) : (s.unschedule i e).cmds = s.cmds := rfl
@[simp] theorem State.unschedule_frames (s : State) (i : Instr) (e : Ev) : (s.unschedule i e).frames = s.frames := rfl
@[simp] theorem State.unschedule_leases (s : State) (i : Instr) (e : Ev) : (s.unschedule i e).leases = s.leases := rfl
@[simp] theorem State.unschedule_pgc (s : State) (i : Instr) (e : Ev) : (s.unschedule i e).pgc = s.pgc := rfl
@[simp] theorem State.unschedule_regs (s : State) (i : Instr) (e : Ev) : (s.unschedule i e).regs = s.regs := rfl
@[simp] theorem State.unschedule_nvm (s : State) (i : Instr) (e : Ev) : (s.unschedule i e).nvm = s.nvm := rfl
@[simp] theorem State.unschedule_boot (s : State) (i : Instr) (e : Ev) : (s.unschedule i e).boot = s.boot := rfl
@[simp] theorem State.unschedule_placerLast (s : State) (i : Instr) (e : Ev) : (s.unschedule i e).placerLast = s.placerLast := rfl
@[simp] theorem State.unschedule_outbox (s : State) (i : Instr) (e : Ev) : (s.unschedule i e).outbox = s.outbox := rfl

/-! ## pokeByte -/

@[simp] theorem State.pokeByte_cycle (s : State) (p : Nat) (b : Byte) : (s.pokeByte p b).cycle = s.cycle := rfl
@[simp] theorem State.pokeByte_todo (s : State) (p : Nat) (b : Byte) : (s.pokeByte p b).todo = s.todo := rfl
@[simp] theorem State.pokeByte_agenda (s : State) (p : Nat) (b : Byte) : (s.pokeByte p b).agenda = s.agenda := rfl
@[simp] theorem State.pokeByte_ev (s : State) (p : Nat) (b : Byte) : (s.pokeByte p b).ev = s.ev := rfl
@[simp] theorem State.pokeByte_fresh (s : State) (p : Nat) (b : Byte) : (s.pokeByte p b).fresh = s.fresh := rfl
@[simp] theorem State.pokeByte_nextId (s : State) (p : Nat) (b : Byte) : (s.pokeByte p b).nextId = s.nextId := rfl
@[simp] theorem State.pokeByte_mem (s : State) (p : Nat) (b : Byte) : (s.pokeByte p b).mem = tabSet 0 s.mem p b := rfl
@[simp] theorem State.pokeByte_desc (s : State) (p : Nat) (b : Byte) : (s.pokeByte p b).desc = s.desc := rfl
@[simp] theorem State.pokeByte_poison (s : State) (p : Nat) (b : Byte) : (s.pokeByte p b).poison = s.poison := rfl
@[simp] theorem State.pokeByte_eccErrors (s : State) (p : Nat) (b : Byte) : (s.pokeByte p b).eccErrors = s.eccErrors := rfl
@[simp] theorem State.pokeByte_l2Errors (s : State) (p : Nat) (b : Byte) : (s.pokeByte p b).l2Errors = s.l2Errors := rfl
@[simp] theorem State.pokeByte_scrub (s : State) (p : Nat) (b : Byte) : (s.pokeByte p b).scrub = s.scrub := rfl
@[simp] theorem State.pokeByte_under (s : State) (p : Nat) (b : Byte) : (s.pokeByte p b).under = s.under := rfl
@[simp] theorem State.pokeByte_versions (s : State) (p : Nat) (b : Byte) : (s.pokeByte p b).versions = tabMod 0 s.versions (p / 64) (fun n => n + 1) := rfl
@[simp] theorem State.pokeByte_switches (s : State) (p : Nat) (b : Byte) : (s.pokeByte p b).switches = s.switches := rfl
@[simp] theorem State.pokeByte_groups (s : State) (p : Nat) (b : Byte) : (s.pokeByte p b).groups = s.groups := rfl
@[simp] theorem State.pokeByte_teams (s : State) (p : Nat) (b : Byte) : (s.pokeByte p b).teams = s.teams := rfl
@[simp] theorem State.pokeByte_clusters (s : State) (p : Nat) (b : Byte) : (s.pokeByte p b).clusters = s.clusters := rfl
@[simp] theorem State.pokeByte_ctxs (s : State) (p : Nat) (b : Byte) : (s.pokeByte p b).ctxs = s.ctxs := rfl
@[simp] theorem State.pokeByte_plots (s : State) (p : Nat) (b : Byte) : (s.pokeByte p b).plots = s.plots := rfl
@[simp] theorem State.pokeByte_quads (s : State) (p : Nat) (b : Byte) : (s.pokeByte p b).quads = s.quads := rfl
@[simp] theorem State.pokeByte_dies (s : State) (p : Nat) (b : Byte) : (s.pokeByte p b).dies = s.dies := rfl
@[simp] theorem State.pokeByte_ces (s : State) (p : Nat) (b : Byte) : (s.pokeByte p b).ces = s.ces := rfl
@[simp] theorem State.pokeByte_cmds (s : State) (p : Nat) (b : Byte) : (s.pokeByte p b).cmds = s.cmds := rfl
@[simp] theorem State.pokeByte_frames (s : State) (p : Nat) (b : Byte) : (s.pokeByte p b).frames = s.frames := rfl
@[simp] theorem State.pokeByte_leases (s : State) (p : Nat) (b : Byte) : (s.pokeByte p b).leases = s.leases := rfl
@[simp] theorem State.pokeByte_pgc (s : State) (p : Nat) (b : Byte) : (s.pokeByte p b).pgc = s.pgc := rfl
@[simp] theorem State.pokeByte_regs (s : State) (p : Nat) (b : Byte) : (s.pokeByte p b).regs = s.regs := rfl
@[simp] theorem State.pokeByte_nvm (s : State) (p : Nat) (b : Byte) : (s.pokeByte p b).nvm = s.nvm := rfl
@[simp] theorem State.pokeByte_boot (s : State) (p : Nat) (b : Byte) : (s.pokeByte p b).boot = s.boot := rfl
@[simp] theorem State.pokeByte_placerLast (s : State) (p : Nat) (b : Byte) : (s.pokeByte p b).placerLast = s.placerLast := rfl
@[simp] theorem State.pokeByte_outbox (s : State) (p : Nat) (b : Byte) : (s.pokeByte p b).outbox = s.outbox := rfl

end Sys2Proof.Machine
end

