-- ==== Sys2Proof/Laws/Issue.lean ====
section
/-! SUPPORT. Issuing a word: what `issue` answers when the word passes its checks and waits, and what the end of a word changes. -/

namespace Sys2Proof.Machine

/-! ## Entries of the state after an update -/

@[simp] theorem tabFind_tabUpd_same {α : Type} (t : Tab α) (k : Nat) (f : α → α) : tabFind (tabUpd t k f) k = (tabFind t k).map f := by
  unfold tabUpd
  split <;> simp_all

theorem tabFind_tabUpd_ne {α : Type} (t : Tab α) {k j : Nat} (f : α → α) (h : j ≠ k) : tabFind (tabUpd t k f) j = tabFind t j := by
  unfold tabUpd
  split
  · exact tabFind_tabPut_ne t _ h
  · rfl

@[simp] theorem State.plot_modPlot_same (s : State) (p : Nat) (f : Plot → Plot) : (s.modPlot p f).plot p = f (s.plot p) := by
  simp [State.plot]

theorem State.plot_modPlot_ne (s : State) {p q : Nat} (f : Plot → Plot) (h : q ≠ p) : (s.modPlot p f).plot q = s.plot q := by
  simp only [State.plot, State.modPlot_plots]
  exact tabGet_tabMod_ne {} s.plots f h

theorem State.group_eq {s : State} {k : Nat} {g : Group} (h : tabFind s.groups k = some g) : s.group k = g := by
  simp [State.group, tabGet, h]

/-- The unit at issue is a group of the state. -/
theorem State.issuer_group {s : State} {u : Issuer} (h : s.issuer? = some u) : tabFind s.groups u.gid = some u.g := by
  unfold State.issuer? at h
  split at h
  · cases h
  · split at h
    · cases h
    · split at h
      · cases h
      · next g hg =>
        simp only [Option.map_eq_some_iff] at h
        obtain ⟨c, -, rfl⟩ := h
        exact hg

/-! ## What issue answers -/

theorem State.issuer_clause {s : State} {u : Issuer} (h : s.issuer? = some u) : u.g.clause = some u.c := by
  unfold State.issuer? at h
  split at h
  · cases h
  · split at h
    · cases h
    · split at h
      · cases h
      · next g hg =>
        simp only [Option.map_eq_some_iff] at h
        obtain ⟨c, hc, rfl⟩ := h
        exact hc

/-- A word that issues has its effect, or takes its primary's result. -/
theorem issue_eq {i : Instr} {s : State} {u : Issuer} (h : Issues i u s) (eff : Issuer → State → Eff) :
    issue i s eff = .next (finish u i (s.effect u i eff)) := by
  simp [issue, h.unit, h.checked, h.ready]

/-- A word of a team that is not paired has its own effect. -/
theorem issue_alone {i : Instr} {s : State} {u : Issuer} (h : IssuesAlone i u s) (eff : Issuer → State → Eff) :
    issue i s eff = .next (finish u i (eff u s)) := by
  rw [issue_eq h.toIssues]
  simp [State.effect, State.forwardedResult, h.alone]

/-- A word that no twin forwards has its own effect, paired or not. -/
theorem issue_own {i : Instr} {s : State} {u : Issuer} (h : Issues i u s) (hm : isMatched i = false) (hf : s.isForwarded u i = false)
    (eff : Issuer → State → Eff) : issue i s eff = .next (finish u i (eff u s)) := by
  rw [issue_eq h]
  simp [State.effect, State.forwardedResult, hm, hf]

/-! ## What the end of a word changes -/

/-- What sequencing changes in a state: the groups' sequencing places, ISSUED counters and the turns. -/
structure Sequenced (gid : Nat) (s t : State) : Prop where
  group : ∀ g, tabFind s.groups gid = some g → ∃ h, tabFind t.groups gid = some h ∧ h.asSequenced g = g
  others : SameGroupsBut gid s t
  plots : SamePlots s t
  elsewhere : SameElsewhere s t

theorem Sequenced.rfl' (gid : Nat) (s : State) : Sequenced gid s s :=
  ⟨fun g hg => ⟨g, hg, rfl⟩, fun _ _ => rfl, fun _ => rfl, rfl⟩

theorem SameElsewhere.trans {s t v : State} (a : SameElsewhere s t) (b : SameElsewhere t v) : SameElsewhere s v := by
  unfold SameElsewhere at *
  rw [← a, ← b]

theorem Sequenced.trans {gid : Nat} {s t v : State} (a : Sequenced gid s t) (b : Sequenced gid t v) : Sequenced gid s v := by
  refine ⟨?_, ?_, ?_, ?_⟩
  · intro g hg
    obtain ⟨h, hh, e⟩ := a.group g hg
    obtain ⟨k, hk, e2⟩ := b.group h hh
    refine ⟨k, hk, ?_⟩
    calc k.asSequenced g = (k.asSequenced h).asSequenced g := rfl
      _ = h.asSequenced g := by rw [e2]
      _ = g := e
  · intro k hk; rw [b.others k hk, a.others k hk]
  · intro p
    have h1 := a.plots p
    have h2 := b.plots p
    rw [← h1, ← h2]
  · exact a.elsewhere.trans b.elsewhere

/-- A change of the group's sequencing places only. -/
theorem Sequenced.modGroup (gid : Nat) (s : State) (f : Group → Group) (hf : ∀ g, (f g).asSequenced g = g) :
    Sequenced gid s (s.modGroup gid f) := by
  refine ⟨?_, ?_, fun _ => rfl, rfl⟩
  · intro g hg
    exact ⟨f g, by simp [hg], hf g⟩
  · intro k hk
    simp [tabFind_tabUpd_ne _ _ hk]

theorem Sequenced.endTurn (gid : Nat) (s : State) : Sequenced gid s s.endTurn :=
  ⟨fun g hg => ⟨g, hg, rfl⟩, fun _ _ => rfl, fun _ => rfl, rfl⟩

theorem Sequenced.issued (gid : Nat) (s : State) (p : Nat) (f : Plot → Plot) (hf : ∀ x, { f x with issued := x.issued } = x) :
    Sequenced gid s (s.modPlot p f) := by
  refine ⟨fun g hg => ⟨g, hg, rfl⟩, fun _ _ => rfl, ?_, rfl⟩
  intro q
  by_cases h : q = p
  · subst h; simp [hf]
  · rw [State.plot_modPlot_ne s _ h]

theorem State.countIssue_sequenced (s : State) (u : Issuer) : Sequenced u.gid s (s.countIssue u) := by
  have h1 : Sequenced u.gid s (s.modGroup u.gid Group.ageAll) := .modGroup _ _ _ fun _ => rfl
  unfold State.countIssue
  split
  · exact .rfl' _ _
  · dsimp only
    split
    · exact h1.trans (.issued _ _ _ (fun x => { x with issued := (x.issued + 1) % 2 ^ 64 }) fun _ => rfl)
    · exact h1

theorem Group.advance_asSequenced (g : Group) (u : Issuer) (n : Nat) : (g.advance u n).asSequenced g = g := by
  by_cases h : u.c.idx + n < u.c.words.length
  · simp only [Group.advance, h, if_true]; rfl
  · simp only [Group.advance, h, if_false]
    split <;> rfl

/-- The clause's place after its word. -/
def setSecond (b : Bool) (x : Group) : Group := { x with clause := x.clause.map (fun c => { c with second := b }) }

theorem State.afterWord_sequenced (s : State) (u : Issuer) (i : Instr) : Sequenced u.gid s (s.afterWord u i) := by
  unfold State.afterWord
  dsimp only
  split
  · exact .modGroup _ _ (setSecond true) fun _ => rfl
  · exact (Sequenced.modGroup _ _ (setSecond false) fun _ => rfl).trans (.endTurn _ _)

/-- The end of a word that is done changes nothing but sequencing. -/
theorem finish_ok_sequenced (u : Issuer) (i : Instr) (t : State) : Sequenced u.gid t (finish u i (.ok t)) :=
  ((t.countIssue_sequenced u).trans (.modGroup _ _ _ fun g => g.advance_asSequenced u _)).trans (State.afterWord_sequenced _ u i)

theorem SameElsewhere.memory {s t : State} (h : SameElsewhere s t) : SameMemory s t := by
  unfold SameElsewhere at h
  refine ⟨fun a => ?_, fun a => ?_, fun a => ?_⟩
  · exact Eq.trans (show t.readByte a = State.readByte { t with groups := s.groups, plots := s.plots, todo := s.todo } a from rfl) (by rw [h])
  · exact Eq.trans (show t.readDesc a = State.readDesc { t with groups := s.groups, plots := s.plots, todo := s.todo } a from rfl) (by rw [h])
  · exact Eq.trans (show t.poisoned a = State.poisoned { t with groups := s.groups, plots := s.plots, todo := s.todo } a from rfl) (by rw [h])

/-- A word that is done and has only changed its group leaves exactly that change. -/
theorem finish_ok_leaves {u : Issuer} {i : Instr} {s : State} (h : s.issuer? = some u) (f : Group → Group) :
    LeavesGroup s u ((f u.g).asSequenced u.g) (finish u i (.ok (s.modGroup u.gid f))) := by
  have q := finish_ok_sequenced u i (s.modGroup u.gid f)
  have hg := State.issuer_group h
  obtain ⟨k, hk, e⟩ := q.group (f u.g) (by simp [hg])
  have h0 : SameElsewhere s (s.modGroup u.gid f) := rfl
  have he : SameElsewhere s (finish u i (.ok (s.modGroup u.gid f))) := h0.trans q.elsewhere
  refine ⟨?_, ?_, ?_, he, he.memory⟩
  · rw [State.group_eq hk]
    calc k.asSequenced u.g = (k.asSequenced (f u.g)).asSequenced u.g := rfl
      _ = (f u.g).asSequenced u.g := by rw [e]
  · intro j hj
    rw [q.others j hj]
    simp [tabFind_tabUpd_ne _ _ hj]
  · exact q.plots

/-- The end of a word that is done after its effect has changed the state to `m` and its group by `f`. -/
theorem finish_ok_from {u : Issuer} {i : Instr} {m : State} {g : Group} (hg : tabFind m.groups u.gid = some g) (f : Group → Group) :
    LeavesGroup m u ((f g).asSequenced u.g) (finish u i (.ok (m.modGroup u.gid f))) := by
  have q := finish_ok_sequenced u i (m.modGroup u.gid f)
  obtain ⟨k, hk, e⟩ := q.group (f g) (by simp [hg])
  have h0 : SameElsewhere m (m.modGroup u.gid f) := rfl
  have he : SameElsewhere m (finish u i (.ok (m.modGroup u.gid f))) := h0.trans q.elsewhere
  refine ⟨?_, ?_, ?_, he, he.memory⟩
  · rw [State.group_eq hk]
    calc k.asSequenced u.g = (k.asSequenced (f g)).asSequenced u.g := rfl
      _ = (f g).asSequenced u.g := by rw [e]
  · intro j hj
    rw [q.others j hj]
    simp [tabFind_tabUpd_ne _ _ hj]
  · exact q.plots

/-- The end of a word that leaves its group as it was. -/
theorem finish_ok_same {u : Issuer} {i : Instr} {m : State} {g : Group} (hg : tabFind m.groups u.gid = some g) :
    LeavesGroup m u (g.asSequenced u.g) (finish u i (.ok m)) := by
  have q := finish_ok_sequenced u i m
  obtain ⟨k, hk, e⟩ := q.group g hg
  refine ⟨?_, q.others, q.plots, q.elsewhere, q.elsewhere.memory⟩
  rw [State.group_eq hk]
  calc k.asSequenced u.g = (k.asSequenced g).asSequenced u.g := rfl
    _ = g.asSequenced u.g := by rw [e]

/-- The end of a word that holds its group. -/
theorem finish_hold_from {u : Issuer} {i : Instr} {m : State} {g : Group} (hg : tabFind m.groups u.gid = some g) (h : Hold) :
    LeavesGroup m u ({ g with hold := some h }.asSequenced u.g) (finish u i (.hold m h)) := by
  have q0 := m.countIssue_sequenced u
  obtain ⟨k0, hk0, e0⟩ := q0.group g hg
  let f : Group → Group := fun x => { (x.advance u (wordCount i)) with hold := some h }
  have q2 := State.afterWord_sequenced ((m.countIssue u).modGroup u.gid f) u i
  obtain ⟨k, hk, e⟩ := q2.group (f k0) (by simp [hk0])
  have he : SameElsewhere m (finish u i (.hold m h)) :=
    q0.elsewhere.trans ((show SameElsewhere (m.countIssue u) ((m.countIssue u).modGroup u.gid f) from rfl).trans q2.elsewhere)
  have ef : (f k0).asSequenced u.g = { g with hold := some h }.asSequenced u.g := by
    have a := k0.advance_asSequenced u (wordCount i)
    have b : ({ (k0.advance u (wordCount i)) with hold := some h } : Group).asSequenced u.g =
        { ((k0.advance u (wordCount i)).asSequenced k0).asSequenced u.g with hold := some h } := rfl
    show ({ (k0.advance u (wordCount i)) with hold := some h } : Group).asSequenced u.g = _
    rw [b, a]
    have c : ({ (k0.asSequenced u.g) with hold := some h } : Group) = { ((k0.asSequenced g).asSequenced u.g) with hold := some h } := rfl
    rw [c, e0]
    rfl
  refine ⟨?_, ?_, ?_, he, he.memory⟩
  · have hk' : tabFind (finish u i (.hold m h)).groups u.gid = some k := hk
    rw [State.group_eq hk']
    calc k.asSequenced u.g = (k.asSequenced (f k0)).asSequenced u.g := rfl
      _ = (f k0).asSequenced u.g := by rw [e]
      _ = _ := ef
  · intro j hj
    rw [show tabFind (finish u i (.hold m h)).groups j = _ from q2.others j hj]
    simp [tabFind_tabUpd_ne _ _ hj]
    exact q0.others j hj
  · intro p
    have h1 := q0.plots p
    have h2 := q2.plots p
    rw [← h1]
    exact (by rw [show ((m.countIssue u).modGroup u.gid f).plot p = (m.countIssue u).plot p from rfl] at h2; rw [← h2]; rfl)

end Sys2Proof.Machine
end

