-- ==== Sys2Proof/Laws/Memory.lean ====
section
/-! SUPPORT. Memory: what a byte reads after each write, and that every memory operation keeps the canonical form. -/

namespace Sys2Proof.Machine

/-! ## Folds -/

/-- A property that every turn of a fold keeps holds at its end. -/
theorem foldl_keeps {α β : Type} (p : α → Prop) (f : α → β → α) (l : List β) (a : α) (ha : p a)
    (h : ∀ x b, p x → p (f x b)) : p (l.foldl f a) := by
  induction l generalizing a with
  | nil => exact ha
  | cons b l ih => exact ih (f a b) (h a b ha)

/-- A field that no turn of a fold changes is as it was. -/
theorem foldl_same {α β γ : Type} (q : α → γ) (f : α → β → α) (l : List β) (a : α) (h : ∀ x b, q (f x b) = q x) :
    q (l.foldl f a) = q a :=
  foldl_keeps (fun x => q x = q a) f l a rfl (fun x b hx => (h x b).trans hx)

/-! ## The canonical form -/

/-- The memory of a state is in its canonical form. -/
abbrev State.MemWf (s : State) : Prop := Memory.wf s.mem = true

theorem State.reset_memWf : State.reset.MemWf := by decide

theorem State.pokeByte_memWf (s : State) (p : Nat) (b : Byte) (h : s.MemWf) : (s.pokeByte p b).MemWf :=
  Memory.wf_tabSet p b h

theorem State.fillDead_memWf (s : State) (f : Nat) (h : s.MemWf) : (s.fillDead f).MemWf := by
  simp only [State.fillDead, State.MemWf, State.after_mem, State.modFrame_mem]
  exact Memory.wf_filter _ h

theorem State.wakeFrame_memWf (s : State) (p : Nat) (h : s.MemWf) : (s.wakeFrame p).MemWf := by
  unfold State.wakeFrame
  split
  · exact s.fillDead_memWf _ h
  · exact h

theorem State.markDirty_mem (s : State) (a : Nat) : (s.markDirty a).mem = s.mem := by
  unfold State.markDirty
  split <;> simp

theorem State.writeByte_memWf (s : State) (a : Nat) (b : Byte) (h : s.MemWf) : (s.writeByte a b).MemWf := by
  simp only [State.writeByte, State.MemWf, State.markDirty_mem]
  exact State.pokeByte_memWf _ _ _ (s.wakeFrame_memWf _ h)

theorem State.writeMem_memWf (bs : List Byte) : ∀ (s : State) (a : Nat), s.MemWf → (s.writeMem a bs).MemWf := by
  induction bs with
  | nil => exact fun _ _ h => h
  | cons b t ih => exact fun s a h => ih _ _ (s.writeByte_memWf a b h)

theorem State.writeDesc_memWf (s : State) (a : Nat) (d : BitVec 48) (h : s.MemWf) : (s.writeDesc a d).MemWf := by
  unfold State.writeDesc
  split
  · exact s.wakeFrame_memWf _ h
  · exact h

@[simp] theorem State.setPoison_mem (s : State) (a : Nat) : (s.setPoison a).mem = s.mem := rfl
@[simp] theorem State.clearPoison_mem (s : State) (a : Nat) : (s.clearPoison a).mem = s.mem := rfl

theorem State.clearTags_memWf (s : State) (a n : Nat) (h : s.MemWf) : (s.clearTags a n).MemWf := by
  refine foldl_keeps State.MemWf _ _ s h (fun t i ht => ?_)
  dsimp only
  split
  · exact t.writeDesc_memWf _ _ ht
  · exact ht

theorem State.storeMem_memWf (s : State) (a : Nat) (bs : List Byte) (h : s.MemWf) : (s.storeMem a bs).MemWf := by
  have h1 := State.clearTags_memWf _ a bs.length (State.writeMem_memWf bs s a h)
  unfold State.storeMem
  dsimp only
  split
  · exact h1
  · exact h1

theorem State.zeroRange_memWf (s : State) (lo n : Nat) (h : s.MemWf) : (s.zeroRange lo n).MemWf :=
  Memory.wf_filter _ h

theorem State.copyBlock_memWf (s : State) (src dst : Nat) (h : s.MemWf) : (s.copyBlock src dst).MemWf := by
  have h1 : ((List.range 64).foldl (fun t i => State.pokeByte t (dst + i) (((List.range 64).map (fun i => s.rawByte (src + i))).getD i 0)) s).MemWf :=
    foldl_keeps State.MemWf _ _ s h (fun t i ht => t.pokeByte_memWf _ _ ht)
  unfold State.copyBlock State.MemWf
  dsimp only
  split
  · exact h1
  · exact h1

/-! ## Reading after a write -/

@[simp] theorem State.pokeByte_same (s : State) (p : Nat) (b : Byte) : tabGet 0 (s.pokeByte p b).mem p = b :=
  tabGet_tabSet_same 0 s.mem p b

theorem State.pokeByte_ne (s : State) {p q : Nat} (b : Byte) (h : q ≠ p) : tabGet 0 (s.pokeByte p b).mem q = tabGet 0 s.mem q :=
  tabGet_tabSet_ne 0 s.mem b h

@[simp] theorem State.pokeByte_frame (s : State) (p f : Nat) (b : Byte) : (s.pokeByte p b).frame f = s.frame f := rfl

/-- Whether a DPA is in HBM depends on the start's facts alone. -/
theorem isHbm_congr {s t : State} (h : t.boot = s.boot) (a : Nat) : isHbm t a = isHbm s a := by
  unfold isHbm State.hbmFrames State.hbmGib
  rw [h]

/-- A write to memory alone leaves what reads zero as it was. -/
@[simp] theorem State.deadAt_pokeByte (s : State) (p q : Nat) (b : Byte) : (s.pokeByte p b).deadAt q = s.deadAt q := by
  unfold State.deadAt
  rw [isHbm_congr (s := s) rfl, State.pokeByte_frame]
  rfl

/-- A place whose frame is not DEAD reads the byte written to it; another place reads as before. -/
theorem State.rawByte_pokeByte (s : State) (p q : Nat) (b : Byte) :
    (s.pokeByte p b).rawByte q = if q = p then (if s.deadAt q then 0 else b) else s.rawByte q := by
  unfold State.rawByte
  rw [State.deadAt_pokeByte]
  by_cases h : q = p
  · rw [if_pos h, h, State.pokeByte_same]
  · rw [if_neg h, State.pokeByte_ne s b h]

/-- Writes to memory alone leave where bytes stand as it was. -/
theorem State.phys_pokeByte (s : State) (p a : Nat) (b : Byte) : (s.pokeByte p b).phys a = s.phys a := rfl

end Sys2Proof.Machine
end

