-- ==== Sys2Proof/Laws/Paths.lean ====
section
/-! SUPPORT. The paths of messages (R16): the whole mesh takes every message by its first path; what a road does at its end. -/

namespace Sys2Proof.Machine

@[simp] theorem State.along_ok (s : State) (c n : Nat) (i : Instr) (e : Ev) : s.along (.ok c) n i e = s.after (n + c) i e := rfl
@[simp] theorem State.along_error (s : State) (p n : Nat) (i : Instr) (e : Ev) : s.along (.error p) n i e = s.dropAt p := rfl

@[simp] theorem Road.then_ok (a b : Nat) : Road.then (.ok a) (.ok b) = .ok (a + b) := rfl
@[simp] theorem Road.max_ok (a b : Nat) : Road.max (.ok a) (.ok b) = .ok (Nat.max a b) := rfl

/-- With every plot in service a message takes no detour (R16). -/
theorem State.path_whole (s : State) (h : ∀ r, (s.plot r).culled = false) (p q : Nat) : s.path p q = some (hopsXY p q, crossXY p q) := by
  simp [State.path, h]

/-- With every plot in service every road leads somewhere. -/
theorem State.road_whole (s : State) (h : ∀ r, (s.plot r).culled = false) (p q n : Nat) : ∃ c, s.way? p q = some c ∧ s.road p q n = .ok (n + c) := by
  simp [State.road, State.way?, s.path_whole h]

end Sys2Proof.Machine
end

