-- ==== Sys2Proof/Laws/PerInstr.lean ====
section
/-! SUPPORT. Statements about every instruction as syntax, one lemma per constructor. -/

namespace Sys2Proof.Laws.Opcode
set_option Elab.async false

/-- The words of an instruction are as many as it takes in its clause (R68), and bit 31 of the first tells the lane set from the uniform set
(R69, R79); a step of the device or the outside world has none. -/
def Statement (i : Instr) : Prop :=
  encode i = [] ∨ ((encode i).length = wordCount i ∧ ((encode i).headD 0).extractLsb' 31 1 = if (Machine.laneForm i).isSome then 0#1 else 1#1)


theorem vaddI32 : ∀ a0 a1 a2 a3, Statement (.vaddI32 a0 a1 a2 a3) := fun _ _ _ _ => .inr ⟨rfl, packLane_msb _ _ _ _ _⟩
theorem vsubI32 : ∀ a0 a1 a2 a3, Statement (.vsubI32 a0 a1 a2 a3) := fun _ _ _ _ => .inr ⟨rfl, packLane_msb _ _ _ _ _⟩
theorem vaddsI32 : ∀ a0 a1 a2 a3, Statement (.vaddsI32 a0 a1 a2 a3) := fun _ _ _ _ => .inr ⟨rfl, packLane_msb _ _ _ _ _⟩
theorem vaddsN32 : ∀ a0 a1 a2 a3, Statement (.vaddsN32 a0 a1 a2 a3) := fun _ _ _ _ => .inr ⟨rfl, packLane_msb _ _ _ _ _⟩
theorem vsubsI32 : ∀ a0 a1 a2 a3, Statement (.vsubsI32 a0 a1 a2 a3) := fun _ _ _ _ => .inr ⟨rfl, packLane_msb _ _ _ _ _⟩
theorem vsubsN32 : ∀ a0 a1 a2 a3, Statement (.vsubsN32 a0 a1 a2 a3) := fun _ _ _ _ => .inr ⟨rfl, packLane_msb _ _ _ _ _⟩
theorem vmulI32 : ∀ a0 a1 a2 a3, Statement (.vmulI32 a0 a1 a2 a3) := fun _ _ _ _ => .inr ⟨rfl, packLane_msb _ _ _ _ _⟩
theorem vmulhI32 : ∀ a0 a1 a2 a3, Statement (.vmulhI32 a0 a1 a2 a3) := fun _ _ _ _ => .inr ⟨rfl, packLane_msb _ _ _ _ _⟩
theorem vmulhN32 : ∀ a0 a1 a2 a3, Statement (.vmulhN32 a0 a1 a2 a3) := fun _ _ _ _ => .inr ⟨rfl, packLane_msb _ _ _ _ _⟩
theorem vmadI32 : ∀ a0 a1 a2 a3, Statement (.vmadI32 a0 a1 a2 a3) := fun _ _ _ _ => .inr ⟨rfl, packLane_msb _ _ _ _ _⟩
theorem vminI32 : ∀ a0 a1 a2 a3, Statement (.vminI32 a0 a1 a2 a3) := fun _ _ _ _ => .inr ⟨rfl, packLane_msb _ _ _ _ _⟩
theorem vmaxI32 : ∀ a0 a1 a2 a3, Statement (.vmaxI32 a0 a1 a2 a3) := fun _ _ _ _ => .inr ⟨rfl, packLane_msb _ _ _ _ _⟩
theorem vminN32 : ∀ a0 a1 a2 a3, Statement (.vminN32 a0 a1 a2 a3) := fun _ _ _ _ => .inr ⟨rfl, packLane_msb _ _ _ _ _⟩
theorem vmaxN32 : ∀ a0 a1 a2 a3, Statement (.vmaxN32 a0 a1 a2 a3) := fun _ _ _ _ => .inr ⟨rfl, packLane_msb _ _ _ _ _⟩
theorem vand : ∀ a0 a1 a2 a3, Statement (.vand a0 a1 a2 a3) := fun _ _ _ _ => .inr ⟨rfl, packLane_msb _ _ _ _ _⟩
theorem vor : ∀ a0 a1 a2 a3, Statement (.vor a0 a1 a2 a3) := fun _ _ _ _ => .inr ⟨rfl, packLane_msb _ _ _ _ _⟩
theorem vxor : ∀ a0 a1 a2 a3, Statement (.vxor a0 a1 a2 a3) := fun _ _ _ _ => .inr ⟨rfl, packLane_msb _ _ _ _ _⟩
theorem vandn : ∀ a0 a1 a2 a3, Statement (.vandn a0 a1 a2 a3) := fun _ _ _ _ => .inr ⟨rfl, packLane_msb _ _ _ _ _⟩
theorem vshl : ∀ a0 a1 a2 a3, Statement (.vshl a0 a1 a2 a3) := fun _ _ _ _ => .inr ⟨rfl, packLane_msb _ _ _ _ _⟩
theorem vshrN32 : ∀ a0 a1 a2 a3, Statement (.vshrN32 a0 a1 a2 a3) := fun _ _ _ _ => .inr ⟨rfl, packLane_msb _ _ _ _ _⟩
theorem vshrI32 : ∀ a0 a1 a2 a3, Statement (.vshrI32 a0 a1 a2 a3) := fun _ _ _ _ => .inr ⟨rfl, packLane_msb _ _ _ _ _⟩
theorem vrol : ∀ a0 a1 a2 a3, Statement (.vrol a0 a1 a2 a3) := fun _ _ _ _ => .inr ⟨rfl, packLane_msb _ _ _ _ _⟩
theorem vunI : ∀ a0 a1 a2 a3, Statement (.vunI a0 a1 a2 a3) := fun _ _ _ _ => .inr ⟨rfl, packLane_msb _ _ _ _ _⟩
theorem vmov : ∀ a0 a1 a2, Statement (.vmov a0 a1 a2) := fun _ _ _ => .inr ⟨rfl, packLane_msb _ _ _ _ _⟩
theorem vli : ∀ a0 a1 a2, Statement (.vli a0 a1 a2) := fun _ _ _ => .inr ⟨rfl, packLane_msb _ _ _ _ _⟩
theorem vsel : ∀ a0 a1 a2 a3, Statement (.vsel a0 a1 a2 a3) := fun _ _ _ _ => .inr ⟨rfl, packLane_msb _ _ _ _ _⟩
theorem vcmpI32 : ∀ a0 a1 a2 a3 a4, Statement (.vcmpI32 a0 a1 a2 a3 a4) := fun _ _ _ _ _ => .inr ⟨rfl, packLane_msb _ _ _ _ _⟩
theorem vcmpN32 : ∀ a0 a1 a2 a3 a4, Statement (.vcmpN32 a0 a1 a2 a3 a4) := fun _ _ _ _ _ => .inr ⟨rfl, packLane_msb _ _ _ _ _⟩
theorem vcmpF32 : ∀ a0 a1 a2 a3 a4, Statement (.vcmpF32 a0 a1 a2 a3 a4) := fun _ _ _ _ _ => .inr ⟨rfl, packLane_msb _ _ _ _ _⟩
theorem vcmpF64 : ∀ a0 a1 a2 a3 a4, Statement (.vcmpF64 a0 a1 a2 a3 a4) := fun _ _ _ _ _ => .inr ⟨rfl, packLane_msb _ _ _ _ _⟩
theorem vlane : ∀ a0 a1, Statement (.vlane a0 a1) := fun _ _ => .inr ⟨rfl, packLane_msb _ _ _ _ _⟩
theorem vaddF32 : ∀ a0 a1 a2 a3, Statement (.vaddF32 a0 a1 a2 a3) := fun _ _ _ _ => .inr ⟨rfl, packLane_msb _ _ _ _ _⟩
theorem vsubF32 : ∀ a0 a1 a2 a3, Statement (.vsubF32 a0 a1 a2 a3) := fun _ _ _ _ => .inr ⟨rfl, packLane_msb _ _ _ _ _⟩
theorem vmulF32 : ∀ a0 a1 a2 a3, Statement (.vmulF32 a0 a1 a2 a3) := fun _ _ _ _ => .inr ⟨rfl, packLane_msb _ _ _ _ _⟩
theorem vfmaF32 : ∀ a0 a1 a2 a3, Statement (.vfmaF32 a0 a1 a2 a3) := fun _ _ _ _ => .inr ⟨rfl, packLane_msb _ _ _ _ _⟩
theorem vminF32 : ∀ a0 a1 a2 a3, Statement (.vminF32 a0 a1 a2 a3) := fun _ _ _ _ => .inr ⟨rfl, packLane_msb _ _ _ _ _⟩
theorem vmaxF32 : ∀ a0 a1 a2 a3, Statement (.vmaxF32 a0 a1 a2 a3) := fun _ _ _ _ => .inr ⟨rfl, packLane_msb _ _ _ _ _⟩
theorem vunF32 : ∀ a0 a1 a2 a3, Statement (.vunF32 a0 a1 a2 a3) := fun _ _ _ _ => .inr ⟨rfl, packLane_msb _ _ _ _ _⟩
theorem vsfuF32 : ∀ a0 a1 a2 a3, Statement (.vsfuF32 a0 a1 a2 a3) := fun _ _ _ _ => .inr ⟨rfl, packLane_msb _ _ _ _ _⟩
theorem vdivF32 : ∀ a0 a1 a2 a3, Statement (.vdivF32 a0 a1 a2 a3) := fun _ _ _ _ => .inr ⟨rfl, packLane_msb _ _ _ _ _⟩
theorem vcopysignF32 : ∀ a0 a1 a2 a3, Statement (.vcopysignF32 a0 a1 a2 a3) := fun _ _ _ _ => .inr ⟨rfl, packLane_msb _ _ _ _ _⟩
theorem vaddF64 : ∀ a0 a1 a2 a3, Statement (.vaddF64 a0 a1 a2 a3) := fun _ _ _ _ => .inr ⟨rfl, packLane_msb _ _ _ _ _⟩
theorem vmulF64 : ∀ a0 a1 a2 a3, Statement (.vmulF64 a0 a1 a2 a3) := fun _ _ _ _ => .inr ⟨rfl, packLane_msb _ _ _ _ _⟩
theorem vfmaF64 : ∀ a0 a1 a2 a3, Statement (.vfmaF64 a0 a1 a2 a3) := fun _ _ _ _ => .inr ⟨rfl, packLane_msb _ _ _ _ _⟩
theorem vminF64 : ∀ a0 a1 a2 a3, Statement (.vminF64 a0 a1 a2 a3) := fun _ _ _ _ => .inr ⟨rfl, packLane_msb _ _ _ _ _⟩
theorem vmaxF64 : ∀ a0 a1 a2 a3, Statement (.vmaxF64 a0 a1 a2 a3) := fun _ _ _ _ => .inr ⟨rfl, packLane_msb _ _ _ _ _⟩
theorem vunF64 : ∀ a0 a1 a2 a3, Statement (.vunF64 a0 a1 a2 a3) := fun _ _ _ _ => .inr ⟨rfl, packLane_msb _ _ _ _ _⟩
theorem vdivF64 : ∀ a0 a1 a2 a3, Statement (.vdivF64 a0 a1 a2 a3) := fun _ _ _ _ => .inr ⟨rfl, packLane_msb _ _ _ _ _⟩
theorem vsqrtF64 : ∀ a0 a1 a2, Statement (.vsqrtF64 a0 a1 a2) := fun _ _ _ => .inr ⟨rfl, packLane_msb _ _ _ _ _⟩
theorem vaddBf16x2 : ∀ a0 a1 a2 a3, Statement (.vaddBf16x2 a0 a1 a2 a3) := fun _ _ _ _ => .inr ⟨rfl, packLane_msb _ _ _ _ _⟩
theorem vmulBf16x2 : ∀ a0 a1 a2 a3, Statement (.vmulBf16x2 a0 a1 a2 a3) := fun _ _ _ _ => .inr ⟨rfl, packLane_msb _ _ _ _ _⟩
theorem vfmaBf16x2 : ∀ a0 a1 a2 a3, Statement (.vfmaBf16x2 a0 a1 a2 a3) := fun _ _ _ _ => .inr ⟨rfl, packLane_msb _ _ _ _ _⟩
theorem vmaxBf16x2 : ∀ a0 a1 a2 a3, Statement (.vmaxBf16x2 a0 a1 a2 a3) := fun _ _ _ _ => .inr ⟨rfl, packLane_msb _ _ _ _ _⟩
theorem vaddF16x2 : ∀ a0 a1 a2 a3, Statement (.vaddF16x2 a0 a1 a2 a3) := fun _ _ _ _ => .inr ⟨rfl, packLane_msb _ _ _ _ _⟩
theorem vmulF16x2 : ∀ a0 a1 a2 a3, Statement (.vmulF16x2 a0 a1 a2 a3) := fun _ _ _ _ => .inr ⟨rfl, packLane_msb _ _ _ _ _⟩
theorem vfmaF16x2 : ∀ a0 a1 a2 a3, Statement (.vfmaF16x2 a0 a1 a2 a3) := fun _ _ _ _ => .inr ⟨rfl, packLane_msb _ _ _ _ _⟩
theorem vmaxF16x2 : ∀ a0 a1 a2 a3, Statement (.vmaxF16x2 a0 a1 a2 a3) := fun _ _ _ _ => .inr ⟨rfl, packLane_msb _ _ _ _ _⟩
theorem vcvt : ∀ a0 a1 a2 a3, Statement (.vcvt a0 a1 a2 a3) := fun _ _ _ _ => .inr ⟨rfl, packLane_msb _ _ _ _ _⟩
theorem vpk8 : ∀ a0 a1 a2 a3, Statement (.vpk8 a0 a1 a2 a3) := fun _ _ _ _ => .inr ⟨rfl, packLane_msb _ _ _ _ _⟩
theorem vupk8 : ∀ a0 a1 a2 a3, Statement (.vupk8 a0 a1 a2 a3) := fun _ _ _ _ => .inr ⟨rfl, packLane_msb _ _ _ _ _⟩
theorem vpk4 : ∀ a0 a1 a2 a3, Statement (.vpk4 a0 a1 a2 a3) := fun _ _ _ _ => .inr ⟨rfl, packLane_msb _ _ _ _ _⟩
theorem vupk4 : ∀ a0 a1 a2 a3, Statement (.vupk4 a0 a1 a2 a3) := fun _ _ _ _ => .inr ⟨rfl, packLane_msb _ _ _ _ _⟩
theorem vshflIdx : ∀ a0 a1 a2 a3, Statement (.vshflIdx a0 a1 a2 a3) := fun _ _ _ _ => .inr ⟨rfl, packLane_msb _ _ _ _ _⟩
theorem vshflXor : ∀ a0 a1 a2 a3, Statement (.vshflXor a0 a1 a2 a3) := fun _ _ _ _ => .inr ⟨rfl, packLane_msb _ _ _ _ _⟩
theorem vshflUp : ∀ a0 a1 a2 a3, Statement (.vshflUp a0 a1 a2 a3) := fun _ _ _ _ => .inr ⟨rfl, packLane_msb _ _ _ _ _⟩
theorem vshflDn : ∀ a0 a1 a2 a3, Statement (.vshflDn a0 a1 a2 a3) := fun _ _ _ _ => .inr ⟨rfl, packLane_msb _ _ _ _ _⟩
theorem vswp2 : ∀ a0 a1 a2, Statement (.vswp2 a0 a1 a2) := fun _ _ _ => .inr ⟨rfl, packLane_msb _ _ _ _ _⟩
theorem vred : ∀ a0 a1 a2 a3 a4, Statement (.vred a0 a1 a2 a3 a4) := fun _ _ _ _ _ => .inr ⟨rfl, packLane_msb _ _ _ _ _⟩
theorem vscan : ∀ a0 a1 a2 a3 a4, Statement (.vscan a0 a1 a2 a3 a4) := fun _ _ _ _ _ => .inr ⟨rfl, packLane_msb _ _ _ _ _⟩
theorem vdot4I8 : ∀ a0 a1 a2 a3, Statement (.vdot4I8 a0 a1 a2 a3) := fun _ _ _ _ => .inr ⟨rfl, packLane_msb _ _ _ _ _⟩
theorem vdot4N8 : ∀ a0 a1 a2 a3, Statement (.vdot4N8 a0 a1 a2 a3) := fun _ _ _ _ => .inr ⟨rfl, packLane_msb _ _ _ _ _⟩
theorem vdot8I4 : ∀ a0 a1 a2 a3, Statement (.vdot8I4 a0 a1 a2 a3) := fun _ _ _ _ => .inr ⟨rfl, packLane_msb _ _ _ _ _⟩
theorem vdot4E4m3 : ∀ a0 a1 a2 a3, Statement (.vdot4E4m3 a0 a1 a2 a3) := fun _ _ _ _ => .inr ⟨rfl, packLane_msb _ _ _ _ _⟩
theorem vdsq4E4m3 : ∀ a0 a1 a2 a3, Statement (.vdsq4E4m3 a0 a1 a2 a3) := fun _ _ _ _ => .inr ⟨rfl, packLane_msb _ _ _ _ _⟩
theorem vdsq2Bf16 : ∀ a0 a1 a2 a3, Statement (.vdsq2Bf16 a0 a1 a2 a3) := fun _ _ _ _ => .inr ⟨rfl, packLane_msb _ _ _ _ _⟩
theorem vhamm : ∀ a0 a1 a2 a3, Statement (.vhamm a0 a1 a2 a3) := fun _ _ _ _ => .inr ⟨rfl, packLane_msb _ _ _ _ _⟩
theorem vsieve : ∀ a0 a1, Statement (.vsieve a0 a1) := fun _ _ => .inr ⟨rfl, packLane_msb _ _ _ _ _⟩
theorem vldB8 : ∀ a0 a1 a2 a3 a4 a5, Statement (.vldB8 a0 a1 a2 a3 a4 a5) := fun _ _ _ _ _ _ => .inr ⟨rfl, packLane_msb _ _ _ _ _⟩
theorem vldI8 : ∀ a0 a1 a2 a3 a4 a5, Statement (.vldI8 a0 a1 a2 a3 a4 a5) := fun _ _ _ _ _ _ => .inr ⟨rfl, packLane_msb _ _ _ _ _⟩
theorem vldB16 : ∀ a0 a1 a2 a3 a4 a5, Statement (.vldB16 a0 a1 a2 a3 a4 a5) := fun _ _ _ _ _ _ => .inr ⟨rfl, packLane_msb _ _ _ _ _⟩
theorem vldI16 : ∀ a0 a1 a2 a3 a4 a5, Statement (.vldI16 a0 a1 a2 a3 a4 a5) := fun _ _ _ _ _ _ => .inr ⟨rfl, packLane_msb _ _ _ _ _⟩
theorem vldB32 : ∀ a0 a1 a2 a3 a4 a5, Statement (.vldB32 a0 a1 a2 a3 a4 a5) := fun _ _ _ _ _ _ => .inr ⟨rfl, packLane_msb _ _ _ _ _⟩
theorem vldB64 : ∀ a0 a1 a2 a3 a4 a5, Statement (.vldB64 a0 a1 a2 a3 a4 a5) := fun _ _ _ _ _ _ => .inr ⟨rfl, packLane_msb _ _ _ _ _⟩
theorem vldB128 : ∀ a0 a1 a2 a3 a4 a5, Statement (.vldB128 a0 a1 a2 a3 a4 a5) := fun _ _ _ _ _ _ => .inr ⟨rfl, packLane_msb _ _ _ _ _⟩
theorem vldf : ∀ a0 a1 a2 a3 a4 a5, Statement (.vldf a0 a1 a2 a3 a4 a5) := fun _ _ _ _ _ _ => .inr ⟨rfl, packLane_msb _ _ _ _ _⟩
theorem vstB8 : ∀ a0 a1 a2 a3 a4 a5, Statement (.vstB8 a0 a1 a2 a3 a4 a5) := fun _ _ _ _ _ _ => .inr ⟨rfl, packLane_msb _ _ _ _ _⟩
theorem vstB16 : ∀ a0 a1 a2 a3 a4 a5, Statement (.vstB16 a0 a1 a2 a3 a4 a5) := fun _ _ _ _ _ _ => .inr ⟨rfl, packLane_msb _ _ _ _ _⟩
theorem vstB32 : ∀ a0 a1 a2 a3 a4 a5, Statement (.vstB32 a0 a1 a2 a3 a4 a5) := fun _ _ _ _ _ _ => .inr ⟨rfl, packLane_msb _ _ _ _ _⟩
theorem vstB64 : ∀ a0 a1 a2 a3 a4 a5, Statement (.vstB64 a0 a1 a2 a3 a4 a5) := fun _ _ _ _ _ _ => .inr ⟨rfl, packLane_msb _ _ _ _ _⟩
theorem vstB128 : ∀ a0 a1 a2 a3 a4 a5, Statement (.vstB128 a0 a1 a2 a3 a4 a5) := fun _ _ _ _ _ _ => .inr ⟨rfl, packLane_msb _ _ _ _ _⟩
theorem vstf : ∀ a0 a1 a2 a3 a4 a5, Statement (.vstf a0 a1 a2 a3 a4 a5) := fun _ _ _ _ _ _ => .inr ⟨rfl, packLane_msb _ _ _ _ _⟩
theorem vldt : ∀ a0 a1 a2 a3 a4, Statement (.vldt a0 a1 a2 a3 a4) := fun _ _ _ _ _ => .inr ⟨rfl, packLane_msb _ _ _ _ _⟩
theorem vstt : ∀ a0 a1 a2 a3 a4, Statement (.vstt a0 a1 a2 a3 a4) := fun _ _ _ _ _ => .inr ⟨rfl, packLane_msb _ _ _ _ _⟩
theorem vatomAddN32 : ∀ a0 a1 a2 a3 a4 a5 a6, Statement (.vatomAddN32 a0 a1 a2 a3 a4 a5 a6) := fun _ _ _ _ _ _ _ => .inr ⟨rfl, packLane_msb _ _ _ _ _⟩
theorem vatomAddF32 : ∀ a0 a1 a2 a3 a4 a5 a6, Statement (.vatomAddF32 a0 a1 a2 a3 a4 a5 a6) := fun _ _ _ _ _ _ _ => .inr ⟨rfl, packLane_msb _ _ _ _ _⟩
theorem vatomMinI32 : ∀ a0 a1 a2 a3 a4 a5 a6, Statement (.vatomMinI32 a0 a1 a2 a3 a4 a5 a6) := fun _ _ _ _ _ _ _ => .inr ⟨rfl, packLane_msb _ _ _ _ _⟩
theorem vatomMaxI32 : ∀ a0 a1 a2 a3 a4 a5 a6, Statement (.vatomMaxI32 a0 a1 a2 a3 a4 a5 a6) := fun _ _ _ _ _ _ _ => .inr ⟨rfl, packLane_msb _ _ _ _ _⟩
theorem vatomMinN32 : ∀ a0 a1 a2 a3 a4 a5 a6, Statement (.vatomMinN32 a0 a1 a2 a3 a4 a5 a6) := fun _ _ _ _ _ _ _ => .inr ⟨rfl, packLane_msb _ _ _ _ _⟩
theorem vatomMaxN32 : ∀ a0 a1 a2 a3 a4 a5 a6, Statement (.vatomMaxN32 a0 a1 a2 a3 a4 a5 a6) := fun _ _ _ _ _ _ _ => .inr ⟨rfl, packLane_msb _ _ _ _ _⟩
theorem vatomAnd : ∀ a0 a1 a2 a3 a4 a5 a6, Statement (.vatomAnd a0 a1 a2 a3 a4 a5 a6) := fun _ _ _ _ _ _ _ => .inr ⟨rfl, packLane_msb _ _ _ _ _⟩
theorem vatomOr : ∀ a0 a1 a2 a3 a4 a5 a6, Statement (.vatomOr a0 a1 a2 a3 a4 a5 a6) := fun _ _ _ _ _ _ _ => .inr ⟨rfl, packLane_msb _ _ _ _ _⟩
theorem vatomXor : ∀ a0 a1 a2 a3 a4 a5 a6, Statement (.vatomXor a0 a1 a2 a3 a4 a5 a6) := fun _ _ _ _ _ _ _ => .inr ⟨rfl, packLane_msb _ _ _ _ _⟩
theorem vatomXchg : ∀ a0 a1 a2 a3 a4 a5 a6, Statement (.vatomXchg a0 a1 a2 a3 a4 a5 a6) := fun _ _ _ _ _ _ _ => .inr ⟨rfl, packLane_msb _ _ _ _ _⟩
theorem vatomCas : ∀ a0 a1 a2 a3 a4 a5 a6, Statement (.vatomCas a0 a1 a2 a3 a4 a5 a6) := fun _ _ _ _ _ _ _ => .inr ⟨rfl, packLane_msb _ _ _ _ _⟩
theorem vatomAddN64 : ∀ a0 a1 a2 a3 a4 a5 a6, Statement (.vatomAddN64 a0 a1 a2 a3 a4 a5 a6) := fun _ _ _ _ _ _ _ => .inr ⟨rfl, packLane_msb _ _ _ _ _⟩
theorem xpfx : ∀ a0 a1 a2 a3 a4 a5, Statement (.xpfx a0 a1 a2 a3 a4 a5) := fun _ _ _ _ _ _ => .inr ⟨rfl, packPfx_msb _ _ _ _ _ _⟩
theorem sadd : ∀ a0 a1 a2, Statement (.sadd a0 a1 a2) := fun _ _ _ => .inr ⟨rfl, packUni_msb _ _ _ _ _⟩
theorem ssub : ∀ a0 a1 a2, Statement (.ssub a0 a1 a2) := fun _ _ _ => .inr ⟨rfl, packUni_msb _ _ _ _ _⟩
theorem smul : ∀ a0 a1 a2, Statement (.smul a0 a1 a2) := fun _ _ _ => .inr ⟨rfl, packUni_msb _ _ _ _ _⟩
theorem smulhI64 : ∀ a0 a1 a2, Statement (.smulhI64 a0 a1 a2) := fun _ _ _ => .inr ⟨rfl, packUni_msb _ _ _ _ _⟩
theorem smulhN64 : ∀ a0 a1 a2, Statement (.smulhN64 a0 a1 a2) := fun _ _ _ => .inr ⟨rfl, packUni_msb _ _ _ _ _⟩
theorem sdiv : ∀ a0 a1 a2, Statement (.sdiv a0 a1 a2) := fun _ _ _ => .inr ⟨rfl, packUni_msb _ _ _ _ _⟩
theorem srem : ∀ a0 a1 a2, Statement (.srem a0 a1 a2) := fun _ _ _ => .inr ⟨rfl, packUni_msb _ _ _ _ _⟩
theorem sand : ∀ a0 a1 a2, Statement (.sand a0 a1 a2) := fun _ _ _ => .inr ⟨rfl, packUni_msb _ _ _ _ _⟩
theorem sor : ∀ a0 a1 a2, Statement (.sor a0 a1 a2) := fun _ _ _ => .inr ⟨rfl, packUni_msb _ _ _ _ _⟩
theorem sxor : ∀ a0 a1 a2, Statement (.sxor a0 a1 a2) := fun _ _ _ => .inr ⟨rfl, packUni_msb _ _ _ _ _⟩
theorem sshl : ∀ a0 a1 a2, Statement (.sshl a0 a1 a2) := fun _ _ _ => .inr ⟨rfl, packUni_msb _ _ _ _ _⟩
theorem sshr : ∀ a0 a1 a2, Statement (.sshr a0 a1 a2) := fun _ _ _ => .inr ⟨rfl, packUni_msb _ _ _ _ _⟩
theorem smin : ∀ a0 a1 a2, Statement (.smin a0 a1 a2) := fun _ _ _ => .inr ⟨rfl, packUni_msb _ _ _ _ _⟩
theorem smax : ∀ a0 a1 a2, Statement (.smax a0 a1 a2) := fun _ _ _ => .inr ⟨rfl, packUni_msb _ _ _ _ _⟩
theorem sun : ∀ a0 a1 a2, Statement (.sun a0 a1 a2) := fun _ _ _ => .inr ⟨rfl, packUni_msb _ _ _ _ _⟩
theorem saddi : ∀ a0 a1 a2, Statement (.saddi a0 a1 a2) := fun _ _ _ => .inr ⟨rfl, packUni_msb _ _ _ _ _⟩
theorem sandi : ∀ a0 a1 a2, Statement (.sandi a0 a1 a2) := fun _ _ _ => .inr ⟨rfl, packUni_msb _ _ _ _ _⟩
theorem sori : ∀ a0 a1 a2, Statement (.sori a0 a1 a2) := fun _ _ _ => .inr ⟨rfl, packUni_msb _ _ _ _ _⟩
theorem sshli : ∀ a0 a1 a2, Statement (.sshli a0 a1 a2) := fun _ _ _ => .inr ⟨rfl, packUni_msb _ _ _ _ _⟩
theorem sshri : ∀ a0 a1 a2, Statement (.sshri a0 a1 a2) := fun _ _ _ => .inr ⟨rfl, packUni_msb _ _ _ _ _⟩
theorem scmp : ∀ a0 a1 a2 a3 a4, Statement (.scmp a0 a1 a2 a3 a4) := fun _ _ _ _ _ => .inr ⟨rfl, packUni_msb _ _ _ _ _⟩
theorem sli : ∀ a0 a1, Statement (.sli a0 a1) := fun _ _ => .inr ⟨rfl, packUni_msb _ _ _ _ _⟩
theorem slit : ∀ a0 a1, Statement (.slit a0 a1) := fun _ _ => .inr ⟨rfl, packUni_msb _ _ _ _ _⟩
theorem slit64 : ∀ a0 a1 a2, Statement (.slit64 a0 a1 a2) := fun _ _ _ => .inr ⟨rfl, packUni_msb _ _ _ _ _⟩
theorem sext : ∀ a0 a1 a2 a3, Statement (.sext a0 a1 a2 a3) := fun _ _ _ _ => .inr ⟨rfl, packUni_msb _ _ _ _ _⟩
theorem sexts : ∀ a0 a1 a2 a3, Statement (.sexts a0 a1 a2 a3) := fun _ _ _ _ => .inr ⟨rfl, packUni_msb _ _ _ _ _⟩
theorem sins : ∀ a0 a1 a2 a3, Statement (.sins a0 a1 a2 a3) := fun _ _ _ _ => .inr ⟨rfl, packUni_msb _ _ _ _ _⟩
theorem sselnz : ∀ a0 a1 a2 a3, Statement (.sselnz a0 a1 a2 a3) := fun _ _ _ _ => .inr ⟨rfl, packUni_msb _ _ _ _ _⟩
theorem radd : ∀ a0 a1 a2, Statement (.radd a0 a1 a2) := fun _ _ _ => .inr ⟨rfl, packUni_msb _ _ _ _ _⟩
theorem raddi : ∀ a0 a1 a2, Statement (.raddi a0 a1 a2) := fun _ _ _ => .inr ⟨rfl, packUni_msb _ _ _ _ _⟩
theorem rtag : ∀ a0 a1, Statement (.rtag a0 a1) := fun _ _ => .inr ⟨rfl, packUni_msb _ _ _ _ _⟩
theorem rbase : ∀ a0 a1, Statement (.rbase a0 a1) := fun _ _ => .inr ⟨rfl, packUni_msb _ _ _ _ _⟩
theorem oinit : ∀ a0 a1 a2, Statement (.oinit a0 a1 a2) := fun _ _ _ => .inr ⟨rfl, packUni_msb _ _ _ _ _⟩
theorem ofree : ∀ a0, Statement (.ofree a0) := fun _ => .inr ⟨rfl, packUni_msb _ _ _ _ _⟩
theorem ostat : ∀ a0 a1, Statement (.ostat a0 a1) := fun _ _ => .inr ⟨rfl, packUni_msb _ _ _ _ _⟩
theorem oreset : ∀ a0, Statement (.oreset a0) := fun _ => .inr ⟨rfl, packUni_msb _ _ _ _ _⟩
theorem sbal : ∀ a0 a1, Statement (.sbal a0 a1) := fun _ _ => .inr ⟨rfl, packUni_msb _ _ _ _ _⟩
theorem kset : ∀ a0 a1, Statement (.kset a0 a1) := fun _ _ => .inr ⟨rfl, packUni_msb _ _ _ _ _⟩
theorem kop : ∀ a0 a1 a2 a3, Statement (.kop a0 a1 a2 a3) := fun _ _ _ _ => .inr ⟨rfl, packUni_msb _ _ _ _ _⟩
theorem sfirst : ∀ a0 a1, Statement (.sfirst a0 a1) := fun _ _ => .inr ⟨rfl, packUni_msb _ _ _ _ _⟩
theorem br : ∀ a0, Statement (.br a0) := fun _ => .inr ⟨rfl, packUni_msb _ _ _ _ _⟩
theorem bz : ∀ a0 a1, Statement (.bz a0 a1) := fun _ _ => .inr ⟨rfl, packUni_msb _ _ _ _ _⟩
theorem bnz : ∀ a0 a1, Statement (.bnz a0 a1) := fun _ _ => .inr ⟨rfl, packUni_msb _ _ _ _ _⟩
theorem bkany : ∀ a0 a1, Statement (.bkany a0 a1) := fun _ _ => .inr ⟨rfl, packUni_msb _ _ _ _ _⟩
theorem bknone : ∀ a0 a1, Statement (.bknone a0 a1) := fun _ _ => .inr ⟨rfl, packUni_msb _ _ _ _ _⟩
theorem bl : ∀ a0 a1, Statement (.bl a0 a1) := fun _ _ => .inr ⟨rfl, packUni_msb _ _ _ _ _⟩
theorem call : ∀ a0, Statement (.call a0) := fun _ => .inr ⟨rfl, packUni_msb _ _ _ _ _⟩
theorem callx : ∀ a0 a1, Statement (.callx a0 a1) := fun _ _ => .inr ⟨rfl, packUni_msb _ _ _ _ _⟩
theorem jmpx : ∀ a0, Statement (.jmpx a0) := fun _ => .inr ⟨rfl, packUni_msb _ _ _ _ _⟩
theorem exit : Statement .exit := .inr ⟨rfl, packUni_msb _ _ _ _ _⟩
theorem wfl : ∀ a0, Statement (.wfl a0) := fun _ => .inr ⟨rfl, packUni_msb _ _ _ _ _⟩
theorem nop : Statement .nop := .inr ⟨rfl, packUni_msb _ _ _ _ _⟩
theorem bar : ∀ a0 a1, Statement (.bar a0 a1) := fun _ _ => .inr ⟨rfl, packUni_msb _ _ _ _ _⟩
theorem barr : ∀ a0 a1, Statement (.barr a0 a1) := fun _ _ => .inr ⟨rfl, packUni_msb _ _ _ _ _⟩
theorem barw : ∀ a0 a1, Statement (.barw a0 a1) := fun _ _ => .inr ⟨rfl, packUni_msb _ _ _ _ _⟩
theorem mwait : ∀ a0 a1 a2, Statement (.mwait a0 a1 a2) := fun _ _ _ => .inr ⟨rfl, packUni_msb _ _ _ _ _⟩
theorem fence : ∀ a0 a1, Statement (.fence a0 a1) := fun _ _ => .inr ⟨rfl, packUni_msb _ _ _ _ _⟩
theorem fenceng : Statement .fenceng := .inr ⟨rfl, packUni_msb _ _ _ _ _⟩
theorem racq : ∀ a0, Statement (.racq a0) := fun _ => .inr ⟨rfl, packUni_msb _ _ _ _ _⟩
theorem racqTry : ∀ a0 a1, Statement (.racqTry a0 a1) := fun _ _ => .inr ⟨rfl, packUni_msb _ _ _ _ _⟩
theorem rrel : ∀ a0, Statement (.rrel a0) := fun _ => .inr ⟨rfl, packUni_msb _ _ _ _ _⟩
theorem sld : ∀ a0 a1 a2 a3 a4 a5 a6, Statement (.sld a0 a1 a2 a3 a4 a5 a6) := fun _ _ _ _ _ _ _ => .inr ⟨rfl, packUni_msb _ _ _ _ _⟩
theorem sst : ∀ a0 a1 a2 a3 a4 a5, Statement (.sst a0 a1 a2 a3 a4 a5) := fun _ _ _ _ _ _ => .inr ⟨rfl, packUni_msb _ _ _ _ _⟩
theorem satom : ∀ a0 a1 a2 a3 a4 a5, Statement (.satom a0 a1 a2 a3 a4 a5) := fun _ _ _ _ _ _ => .inr ⟨rfl, packUni_msb _ _ _ _ _⟩
theorem rld : ∀ a0 a1 a2 a3 a4, Statement (.rld a0 a1 a2 a3 a4) := fun _ _ _ _ _ => .inr ⟨rfl, packUni_msb _ _ _ _ _⟩
theorem rst : ∀ a0 a1 a2 a3 a4, Statement (.rst a0 a1 a2 a3 a4) := fun _ _ _ _ _ => .inr ⟨rfl, packUni_msb _ _ _ _ _⟩
theorem pub : ∀ a0 a1 a2 a3 a4, Statement (.pub a0 a1 a2 a3 a4) := fun _ _ _ _ _ => .inr ⟨rfl, packUni_msb _ _ _ _ _⟩
theorem pfh : ∀ a0 a1, Statement (.pfh a0 a1) := fun _ _ => .inr ⟨rfl, packUni_msb _ _ _ _ _⟩
theorem advNeed : ∀ a0 a1, Statement (.advNeed a0 a1) := fun _ _ => .inr ⟨rfl, packUni_msb _ _ _ _ _⟩
theorem advCold : ∀ a0 a1, Statement (.advCold a0 a1) := fun _ _ => .inr ⟨rfl, packUni_msb _ _ _ _ _⟩
theorem advWarm : ∀ a0 a1, Statement (.advWarm a0 a1) := fun _ _ => .inr ⟨rfl, packUni_msb _ _ _ _ _⟩
theorem tset : ∀ a0 a1 a2 a3, Statement (.tset a0 a1 a2 a3) := fun _ _ _ _ => .inr ⟨rfl, packUni_msb _ _ _ _ _⟩
theorem tstat : ∀ a0 a1, Statement (.tstat a0 a1) := fun _ _ => .inr ⟨rfl, packUni_msb _ _ _ _ _⟩
theorem tdrop : ∀ a0, Statement (.tdrop a0) := fun _ => .inr ⟨rfl, packUni_msb _ _ _ _ _⟩
theorem tdropFree : ∀ a0, Statement (.tdropFree a0) := fun _ => .inr ⟨rfl, packUni_msb _ _ _ _ _⟩
theorem cpy : ∀ a0 a1 a2, Statement (.cpy a0 a1 a2) := fun _ _ _ => .inr ⟨rfl, packUni_msb _ _ _ _ _⟩
theorem cpyCe : ∀ a0 a1 a2 a3, Statement (.cpyCe a0 a1 a2 a3) := fun _ _ _ _ => .inr ⟨rfl, packUni_msb _ _ _ _ _⟩
theorem cpyq : ∀ a0 a1 a2 a3, Statement (.cpyq a0 a1 a2 a3) := fun _ _ _ _ => .inr ⟨rfl, packUni_msb _ _ _ _ _⟩
theorem mxp : ∀ a0 a1, Statement (.mxp a0 a1) := fun _ _ => .inr ⟨rfl, packUni_msb _ _ _ _ _⟩
theorem mxd : ∀ a0 a1 a2, Statement (.mxd a0 a1 a2) := fun _ _ _ => .inr ⟨rfl, packUni_msb _ _ _ _ _⟩
theorem mxzDefine : ∀ a0 a1 a2 a3, Statement (.mxzDefine a0 a1 a2 a3) := fun _ _ _ _ => .inr ⟨rfl, packUni_msb _ _ _ _ _⟩
theorem mxzClr : ∀ a0 a1 a2, Statement (.mxzClr a0 a1 a2) := fun _ _ _ => .inr ⟨rfl, packUni_msb _ _ _ _ _⟩
theorem mxzFree : ∀ a0 a1 a2, Statement (.mxzFree a0 a1 a2) := fun _ _ _ => .inr ⟨rfl, packUni_msb _ _ _ _ _⟩
theorem mxq : ∀ a0 a1 a2, Statement (.mxq a0 a1 a2) := fun _ _ _ => .inr ⟨rfl, packUni_msb _ _ _ _ _⟩
theorem svinit : ∀ a0 a1 a2 a3, Statement (.svinit a0 a1 a2 a3) := fun _ _ _ _ => .inr ⟨rfl, packUni_msb _ _ _ _ _⟩
theorem svinitFree : ∀ a0, Statement (.svinitFree a0) := fun _ => .inr ⟨rfl, packUni_msb _ _ _ _ _⟩
theorem svget : ∀ a0 a1 a2 a3, Statement (.svget a0 a1 a2 a3) := fun _ _ _ _ => .inr ⟨rfl, packUni_msb _ _ _ _ _⟩
theorem launch : ∀ a0 a1 a2 a3, Statement (.launch a0 a1 a2 a3) := fun _ _ _ _ => .inr ⟨rfl, packUni_msb _ _ _ _ _⟩
theorem lwait : ∀ a0 a1 a2, Statement (.lwait a0 a1 a2) := fun _ _ _ => .inr ⟨rfl, packUni_msb _ _ _ _ _⟩
theorem hsig : ∀ a0, Statement (.hsig a0) := fun _ => .inr ⟨rfl, packUni_msb _ _ _ _ _⟩
theorem srd : ∀ a0 a1, Statement (.srd a0 a1) := fun _ _ => .inr ⟨rfl, packUni_msb _ _ _ _ _⟩
theorem swr : ∀ a0 a1, Statement (.swr a0 a1) := fun _ _ => .inr ⟨rfl, packUni_msb _ _ _ _ _⟩
theorem trap : ∀ a0, Statement (.trap a0) := fun _ => .inr ⟨rfl, packUni_msb _ _ _ _ _⟩
theorem brk : ∀ a0, Statement (.brk a0) := fun _ => .inr ⟨rfl, packUni_msb _ _ _ _ _⟩
theorem tresReplay : ∀ a0 a1, Statement (.tresReplay a0 a1) := fun _ _ => .inr ⟨rfl, packUni_msb _ _ _ _ _⟩
theorem tresSkip : ∀ a0 a1, Statement (.tresSkip a0 a1) := fun _ _ => .inr ⟨rfl, packUni_msb _ _ _ _ _⟩
theorem tresKill : ∀ a0 a1, Statement (.tresKill a0 a1) := fun _ _ => .inr ⟨rfl, packUni_msb _ _ _ _ _⟩
theorem icinv : ∀ a0 a1, Statement (.icinv a0 a1) := fun _ _ => .inr ⟨rfl, packUni_msb _ _ _ _ _⟩
theorem icinvAll : Statement .icinvAll := .inr ⟨rfl, packUni_msb _ _ _ _ _⟩
theorem mark : ∀ a0 a1, Statement (.mark a0 a1) := fun _ _ => .inr ⟨rfl, packUni_msb _ _ _ _ _⟩
theorem tlbiRange : ∀ a0 a1 a2, Statement (.tlbiRange a0 a1 a2) := fun _ _ _ => .inr ⟨rfl, packUni_msb _ _ _ _ _⟩
theorem tlbiContext : ∀ a0 a1 a2, Statement (.tlbiContext a0 a1 a2) := fun _ _ _ => .inr ⟨rfl, packUni_msb _ _ _ _ _⟩
theorem tlbiDevice : ∀ a0 a1 a2, Statement (.tlbiDevice a0 a1 a2) := fun _ _ _ => .inr ⟨rfl, packUni_msb _ _ _ _ _⟩
theorem leaseInstall : ∀ a0 a1 a2, Statement (.leaseInstall a0 a1 a2) := fun _ _ _ => .inr ⟨rfl, packUni_msb _ _ _ _ _⟩
theorem leaseRenew : ∀ a0 a1 a2, Statement (.leaseRenew a0 a1 a2) := fun _ _ _ => .inr ⟨rfl, packUni_msb _ _ _ _ _⟩
theorem leaseReturn : ∀ a0 a1, Statement (.leaseReturn a0 a1) := fun _ _ => .inr ⟨rfl, packUni_msb _ _ _ _ _⟩
theorem leaseRead : ∀ a0 a1 a2, Statement (.leaseRead a0 a1 a2) := fun _ _ _ => .inr ⟨rfl, packUni_msb _ _ _ _ _⟩
theorem pmove : ∀ a0 a1, Statement (.pmove a0 a1) := fun _ _ => .inr ⟨rfl, packUni_msb _ _ _ _ _⟩
theorem bias : ∀ a0 a1 a2, Statement (.bias a0 a1 a2) := fun _ _ _ => .inr ⟨rfl, packUni_msb _ _ _ _ _⟩
theorem psplit : ∀ a0 a1 a2, Statement (.psplit a0 a1 a2) := fun _ _ _ => .inr ⟨rfl, packUni_msb _ _ _ _ _⟩
theorem acntRead : ∀ a0 a1, Statement (.acntRead a0 a1) := fun _ _ => .inr ⟨rfl, packUni_msb _ _ _ _ _⟩
theorem acntReadClear : ∀ a0 a1, Statement (.acntReadClear a0 a1) := fun _ _ => .inr ⟨rfl, packUni_msb _ _ _ _ _⟩
theorem acntWrite : ∀ a0 a1 a2, Statement (.acntWrite a0 a1 a2) := fun _ _ _ => .inr ⟨rfl, packUni_msb _ _ _ _ _⟩
theorem laneResultWrite : Statement .laneResultWrite := .inl rfl
theorem racqServe : Statement .racqServe := .inl rfl
theorem launchBlockCheck : Statement .launchBlockCheck := .inl rfl
theorem placeCluster : Statement .placeCluster := .inl rfl
theorem commitPoint : Statement .commitPoint := .inl rfl
theorem commitEntryDrain : Statement .commitEntryDrain := .inl rfl
theorem pairCommitCompare : Statement .pairCommitCompare := .inl rfl
theorem pairForward : Statement .pairForward := .inl rfl
theorem pairedWordMatch : Statement .pairedWordMatch := .inl rfl
theorem mwaitWake : Statement .mwaitWake := .inl rfl
theorem mwaitTimeout : Statement .mwaitTimeout := .inl rfl
theorem objectFormComplete : Statement .objectFormComplete := .inl rfl
theorem memoryAccessPerform : Statement .memoryAccessPerform := .inl rfl
theorem loadComplete : Statement .loadComplete := .inl rfl
theorem storeComplete : Statement .storeComplete := .inl rfl
theorem atomicStep : Statement .atomicStep := .inl rfl
theorem atomicComplete : Statement .atomicComplete := .inl rfl
theorem handlerTeamPlace : Statement .handlerTeamPlace := .inl rfl
theorem operandLogReplay : Statement .operandLogReplay := .inl rfl
theorem gleanerWalk : Statement .gleanerWalk := .inl rfl
theorem pfhHandoff : Statement .pfhHandoff := .inl rfl
theorem sievePairEntry : Statement .sievePairEntry := .inl rfl
theorem svgetSnapshot : Statement .svgetSnapshot := .inl rfl
theorem cpyRegister : Statement .cpyRegister := .inl rfl
theorem ceDispatch : Statement .ceDispatch := .inl rfl
theorem ceCopy : Statement .ceCopy := .inl rfl
theorem ceFill : Statement .ceFill := .inl rfl
theorem ceConvert : Statement .ceConvert := .inl rfl
theorem ceGather : Statement .ceGather := .inl rfl
theorem ceScatter : Statement .ceScatter := .inl rfl
theorem ceReduce : Statement .ceReduce := .inl rfl
theorem ceSegment : Statement .ceSegment := .inl rfl
theorem ceCommandComplete : Statement .ceCommandComplete := .inl rfl
theorem peerWriteCompletion : Statement .peerWriteCompletion := .inl rfl
theorem splitBroadcastArrival : Statement .splitBroadcastArrival := .inl rfl
theorem mxeGrant : Statement .mxeGrant := .inl rfl
theorem mxePassComplete : Statement .mxePassComplete := .inl rfl
theorem mxdBlockCheck : Statement .mxdBlockCheck := .inl rfl
theorem mxdRowWrite : Statement .mxdRowWrite := .inl rfl
theorem mxdDrainComplete : Statement .mxdDrainComplete := .inl rfl
theorem mxzComplete : Statement .mxzComplete := .inl rfl
theorem mxqResult : Statement .mxqResult := .inl rfl
theorem directoryRead : Statement .directoryRead := .inl rfl
theorem directoryWrite : Statement .directoryWrite := .inl rfl
theorem ownerForward : Statement .ownerForward := .inl rfl
theorem quadInvalidate : Statement .quadInvalidate := .inl rfl
theorem invalidationAck : Statement .invalidationAck := .inl rfl
theorem l1Writeback : Statement .l1Writeback := .inl rfl
theorem l2Fill : Statement .l2Fill := .inl rfl
theorem l2scrWrite : Statement .l2scrWrite := .inl rfl
theorem l2scrConvertDone : Statement .l2scrConvertDone := .inl rfl
theorem deadFilled : Statement .deadFilled := .inl rfl
theorem scrubRead : Statement .scrubRead := .inl rfl
theorem scrubWriteback : Statement .scrubWriteback := .inl rfl
theorem pageWalk : Statement .pageWalk := .inl rfl
theorem tlbiRequest : Statement .tlbiRequest := .inl rfl
theorem tlbiAck : Statement .tlbiAck := .inl rfl
theorem icinvRequest : Statement .icinvRequest := .inl rfl
theorem icinvAck : Statement .icinvAck := .inl rfl
theorem bloomRebuild : Statement .bloomRebuild := .inl rfl
theorem fillBlockArrival : Statement .fillBlockArrival := .inl rfl
theorem counterHalving : Statement .counterHalving := .inl rfl
theorem renewDue : Statement .renewDue := .inl rfl
theorem leaseExpiry : Statement .leaseExpiry := .inl rfl
theorem revokeDeadline : Statement .revokeDeadline := .inl rfl
theorem poolReadTimeout : Statement .poolReadTimeout := .inl rfl
theorem answerLimit : Statement .answerLimit := .inl rfl
theorem grant : Statement .grant := .inl rfl
theorem refuse : Statement .refuse := .inl rfl
theorem returned : Statement .returned := .inl rfl
theorem revoke : Statement .revoke := .inl rfl
theorem nodeFail : Statement .nodeFail := .inl rfl
theorem rhaodDiscard : Statement .rhaodDiscard := .inl rfl
theorem bisnp : Statement .bisnp := .inl rfl
theorem fqpop : Statement .fqpop := .inl rfl
theorem fqresReplay : Statement .fqresReplay := .inl rfl
theorem fqresPage : Statement .fqresPage := .inl rfl
theorem fqresLease : Statement .fqresLease := .inl rfl
theorem fqresPoolLost : Statement .fqresPoolLost := .inl rfl
theorem fqresProt : Statement .fqresProt := .inl rfl
theorem fqresChecksum : Statement .fqresChecksum := .inl rfl
theorem fqresClose : Statement .fqresClose := .inl rfl
theorem frameMarkDead : Statement .frameMarkDead := .inl rfl
theorem frameFlush : Statement .frameFlush := .inl rfl
theorem frameEvict : Statement .frameEvict := .inl rfl
theorem frameReserve : Statement .frameReserve := .inl rfl
theorem frameRelease : Statement .frameRelease := .inl rfl
theorem frameDiscard : Statement .frameDiscard := .inl rfl
theorem frameEvictGroup : Statement .frameEvictGroup := .inl rfl
theorem frameSetHostBias : Statement .frameSetHostBias := .inl rfl
theorem frameRetire : Statement .frameRetire := .inl rfl
theorem framectlInvalidOp : Statement .framectlInvalidOp := .inl rfl
theorem hostAnswer : Statement .hostAnswer := .inl rfl
theorem standbyPgcTakeover : Statement .standbyPgcTakeover := .inl rfl
theorem timeSliceExpiry : Statement .timeSliceExpiry := .inl rfl
theorem spillEngine : Statement .spillEngine := .inl rfl
theorem halt : Statement .halt := .inl rfl
theorem resume : Statement .resume := .inl rfl
theorem step : Statement .step := .inl rfl
theorem debuggerRegisterWrite : Statement .debuggerRegisterWrite := .inl rfl
theorem tstopArm : Statement .tstopArm := .inl rfl
theorem tickStop : Statement .tickStop := .inl rfl
theorem tstopRelease : Statement .tstopRelease := .inl rfl
theorem trringWrite : Statement .trringWrite := .inl rfl
theorem icacheFill : Statement .icacheFill := .inl rfl
theorem heartbeatSend : Statement .heartbeatSend := .inl rfl
theorem heartbeat : Statement .heartbeat := .inl rfl
theorem periodEvaluation : Statement .periodEvaluation := .inl rfl
theorem accuse : Statement .accuse := .inl rfl
theorem withdraw : Statement .withdraw := .inl rfl
theorem cull : Statement .cull := .inl rfl
theorem cullTick : Statement .cullTick := .inl rfl
theorem selfTestEnd : Statement .selfTestEnd := .inl rfl
theorem appeal : Statement .appeal := .inl rfl
theorem attestCheckEnd : Statement .attestCheckEnd := .inl rfl
theorem readmit : Statement .readmit := .inl rfl
theorem readmissionTick : Statement .readmissionTick := .inl rfl
theorem operatingTimeSave : Statement .operatingTimeSave := .inl rfl
theorem testDeliver : Statement .testDeliver := .inl rfl
theorem regraftTest : Statement .regraftTest := .inl rfl
theorem fieldTestRun : Statement .fieldTestRun := .inl rfl
theorem fieldTestResult : Statement .fieldTestResult := .inl rfl
theorem doorbell : Statement .doorbell := .inl rfl
theorem contextReset : Statement .contextReset := .inl rfl
theorem functionLevelReset : Statement .functionLevelReset := .inl rfl
theorem fabricMemRequest : Statement .fabricMemRequest := .inl rfl
theorem registerWrite : Statement .registerWrite := .inl rfl
theorem powerOn : Statement .powerOn := .inl rfl
theorem perst : Statement .perst := .inl rfl
theorem bootWatchdog : Statement .bootWatchdog := .inl rfl
theorem powerSample : Statement .powerSample := .inl rfl
theorem hbmRateSwitch : Statement .hbmRateSwitch := .inl rfl
theorem managementReset : Statement .managementReset := .inl rfl
theorem clearFailedStart : Statement .clearFailedStart := .inl rfl
theorem mgmtRegisterRead : Statement .mgmtRegisterRead := .inl rfl
theorem mgmtPwrcapWrite : Statement .mgmtPwrcapWrite := .inl rfl
theorem pldmFirmwareUpdate : Statement .pldmFirmwareUpdate := .inl rfl
theorem pldmMonitoring : Statement .pldmMonitoring := .inl rfl
theorem mctpControl : Statement .mctpControl := .inl rfl
theorem emptySlot : Statement .emptySlot := .inl rfl
theorem hostSwapRequest : Statement .hostSwapRequest := .inl rfl
theorem pmoveComplete : Statement .pmoveComplete := .inl rfl
theorem psplitComplete : Statement .psplitComplete := .inl rfl
theorem biasComplete : Statement .biasComplete := .inl rfl
theorem framectlComplete : Statement .framectlComplete := .inl rfl
theorem softError : Statement .softError := .inl rfl
theorem plotFailure : Statement .plotFailure := .inl rfl
theorem msixUnmask : Statement .msixUnmask := .inl rfl

end Sys2Proof.Laws.Opcode
end

