-- ==== Sys2Proof/Tests/Slice0.lean ====
section
/-! SUPPORT. Tests: ill-formed terms, decoded words, results worked from the manual by hand, and a witness for the hypotheses of every
statement. -/

namespace Sys2Proof.Tests
set_option Elab.async false
open Sys2Proof Sys2Proof.Machine

/-! ## A small machine -/

/-- The clause of one instruction, at 0x10000. -/
def clauseOf (ws : List Word) : Clause :=
  { addr := 0x10000, hdr := BitVec.ofNat 32 ((ws.length - 1) * 2 ^ 28 + 0x0100), words := ws, lanes := BitVec.allOnes 64 }

/-- s1 = 3, s2 = −7, s4 = the team's share, s5 = a reference to an object in the arena, s6 = an object of one block, s7 = 64, s8 = 4,
s12 = a matrix block of class 3 with BROW 1, s16 = a block of HBM. -/
def sregs : Tab SReg :=
  [(1, { val := 3 }), (2, { val := -7 }), (4, { val := sharedWindow }), (5, { val := 0x100000, tag := true, base := 0x100000 }), (6, { val := 0x10000 }),
   (7, { val := 64 }), (8, { val := 4 }), (12, { val := 0x30000000020 }), (16, { val := 0x10000 })]

/-- Group 2 of team 5 in slot 0 of plot 0, with the words of one clause. -/
def grp (ws : List Word) : Group :=
  { rows := 5, team := 5, s := sregs, clause := some (clauseOf ws), desc := [(0, 1), (1, 1), (2, 1), (3, 1), (64, 1), (65, 1), (66, 1), (67, 1)] }
def tm : Team :=
  { serial := 1, lserial := 1, cluster := 7, groups := [2], allGroups := [2], shared := 4, arenaBase := 0x100000, arenaLim := 0x200000, trapRec := some (0x3000, 0) }
def clu : Cluster := { teams := [5], live := true }

/-- A machine that runs the words on plot 0, and has nothing else to do. -/
def mach (ws : List Word) : State :=
  { State.reset with
    groups := tabPut State.reset.groups 2 (grp ws), teams := [(5, tm)], clusters := [(7, clu)],
    plots := tabPut State.reset.plots 0 { State.reset.plot 0 with
      slots := [some 2, none, none, none, none, none, none, none], sieve := { team := some 5, k := 4 }
      tiles := [(1, { team := 5, off := 0, len := 4, st := .ready })] }
    quads := [(0, { slots := [(0, { team := 5, tr := 1, tc := 1, unit := 0 })] })], todo := [0], agenda := [] }
def st (i : Instr) : State := mach (encode i)
def un (i : Instr) : Issuer := { gid := 2, g := grp (encode i), c := clauseOf (encode i) }

/-- The serving PGC runs the words. -/
def grpP (ws : List Word) : Group := { State.reset.group 0 with s := sregs, frontier := [], clause := some (clauseOf ws) }
def machP (ws : List Word) : State :=
  { State.reset with groups := tabPut State.reset.groups 0 (grpP ws), todo := [384], agenda := [] }
def stP (i : Instr) : State := machP (encode i)
def unP (i : Instr) : Issuer := { gid := 0, g := grpP (encode i), c := clauseOf (encode i) }

/-- The word is at issue and passes its checks and waits. -/
def ready (i : Instr) (u : Issuer) (s : State) : Bool := decide (s.issuer? = some u) && decide (checks i u s = none) && decide (waits i u s = none)

theorem issues_of_ready {i : Instr} {u : Issuer} {s : State} (h : ready i u s = true) : Issues i u s := by
  simp only [ready, Bool.and_eq_true, decide_eq_true_eq] at h
  exact ⟨h.1.1, h.1.2, h.2⟩

def isNext (o : Host.Outcome State Fault Refusal) : Bool := match o with | .next _ => true | _ => false

/-- The privileged forms run on the PGC (R185). -/
def onPgc : Instr → Bool
  | .tlbiRange .. | .tlbiContext .. | .tlbiDevice .. | .leaseInstall .. | .leaseRenew .. | .leaseReturn .. | .leaseRead .. | .pmove .. | .bias ..
  | .psplit .. | .acntRead .. | .acntReadClear .. | .acntWrite .. => true
  | _ => false
def stOf (i : Instr) : State := if onPgc i then stP i else st i
def unOf (i : Instr) : Issuer := if onPgc i then unP i else un i

/-- Context 0 maps its first GiB to the second GiB of HBM, readable, writable and executable. -/
def mapGib (fmt : Nat) (s : State) : State :=
  (((s.modCtx 0 (fun x => { x with ptroot := 0x100000, en := true })).writeMem 0x100000 (natBytes 8 0x101001)).writeMem 0x101000 (natBytes 8 0x102001)).writeMem
    0x102000 (natBytes 8 (0x18007B + fmt * 2 ^ 7 + 16384 * 2 ^ 21))

/-- Nothing is filled, dead or switching, and no error is outstanding. -/
def restB (s : State) : Bool := s.frames.all (fun e => !e.2.dead && e.2.zeroing.isNone && e.2.fill.isNone) && s.boot.switching.isEmpty
def memRestB (s : State) : Bool := s.eccErrors.isEmpty && s.l2Errors.isEmpty && restB s
theorem framesAtRest_of {s : State} (h : restB s = true) : Claims.FramesAtRest s := by
  simpa [restB, Claims.FramesAtRest, and_assoc] using h
theorem memoryAtRest_of {s : State} (h : memRestB s = true) : Claims.MemoryAtRest s := by
  simp only [memRestB, Bool.and_eq_true, List.isEmpty_iff] at h
  exact ⟨h.1.1, h.1.2, framesAtRest_of h.2⟩

/-! ## A word of every form that issues -/

/-- One word of every form: lane integer and selection words. -/
def laneWords : List Instr := [
  .vaddI32 32 0 16 0, .vsubI32 32 0 16 0, .vaddsI32 32 0 16 0, .vaddsN32 32 0 16 0, .vsubsI32 32 0 16 0, .vsubsN32 32 0 16 0,
  .vmulI32 32 0 16 0, .vmulhI32 32 0 16 0, .vmulhN32 32 0 16 0, .vmadI32 32 0 16 0, .vminI32 32 0 16 0, .vmaxI32 32 0 16 0,
  .vminN32 32 0 16 0, .vmaxN32 32 0 16 0, .vand 32 0 16 0, .vor 32 0 16 0, .vxor 32 0 16 0, .vandn 32 0 16 0, .vshl 32 0 16 0,
  .vshrN32 32 0 16 0, .vshrI32 32 0 16 0, .vrol 32 0 16 0, .vunI 32 0 0 0, .vmov 32 0 0, .vli 32 5 0, .vsel 32 0 16 1,
  .vcmpI32 1 0 0 16 0, .vcmpN32 1 0 0 16 0, .vcmpF32 1 0 0 16 0, .vcmpF64 1 0 0 16 0, .vlane 32 0]
/-- One word of every form: lane float words. -/
def floatWords : List Instr := [
  .vaddF32 32 0 16 0, .vsubF32 32 0 16 0, .vmulF32 32 0 16 0, .vfmaF32 32 0 16 0, .vminF32 32 0 16 0, .vmaxF32 32 0 16 0,
  .vunF32 32 0 0 0, .vsfuF32 32 0 0 0, .vdivF32 32 0 16 0, .vcopysignF32 32 0 16 0, .vaddF64 32 0 16 0, .vmulF64 32 0 16 0,
  .vfmaF64 32 0 16 0, .vminF64 32 0 16 0, .vmaxF64 32 0 16 0, .vunF64 32 0 0 0, .vdivF64 32 0 16 0, .vsqrtF64 32 0 0,
  .vaddBf16x2 32 0 16 0, .vmulBf16x2 32 0 16 0, .vfmaBf16x2 32 0 16 0, .vmaxBf16x2 32 0 16 0, .vaddF16x2 32 0 16 0,
  .vmulF16x2 32 0 16 0, .vfmaF16x2 32 0 16 0, .vmaxF16x2 32 0 16 0]
/-- One word of every form: conversions, cross-lane words, dot products, the Sieve. -/
def crossWords : List Instr := [
  .vcvt 32 0 0 0, .vpk8 32 0 1 2, .vupk8 32 0 1 2, .vpk4 32 0 3 3, .vupk4 32 0 3 3, .vshflIdx 32 0 16 0, .vshflXor 32 0 1 0,
  .vshflUp 32 0 1 0, .vshflDn 32 0 1 0, .vswp2 32 0 0, .vred 32 0 0 0 0, .vscan 32 0 0 0 0, .vdot4I8 32 0 16 0, .vdot4N8 32 0 16 0,
  .vdot8I4 32 0 16 0, .vdot4E4m3 32 0 16 0, .vdsq4E4m3 32 0 16 0, .vdsq2Bf16 32 0 16 0, .vhamm 32 0 16 0, .vsieve 0 16]
/-- One word of every form: lane accesses. -/
def accessWords : List Instr := [
  .vldB8 32 0 0 0 4 0, .vldI8 32 0 0 0 4 0, .vldB16 32 0 0 0 4 0, .vldI16 32 0 0 0 4 0, .vldB32 32 0 0 0 4 0, .vldB64 32 0 0 0 4 0,
  .vldB128 32 0 0 0 4 0, .vldf 32 96 0 0 4 0, .vstB8 32 0 0 0 4 0, .vstB16 32 0 0 0 4 0, .vstB32 32 0 0 0 4 0, .vstB64 32 0 0 0 4 0,
  .vstB128 32 0 0 0 4 0, .vstf 32 96 0 0 4 0, .vldt 32 0 0 1 0, .vstt 32 0 0 1 0, .vatomAddN32 32 0 0 0 4 0 1,
  .vatomAddF32 32 0 0 0 4 0 1, .vatomMinI32 32 0 0 0 4 0 1, .vatomMaxI32 32 0 0 0 4 0 1, .vatomMinN32 32 0 0 0 4 0 1,
  .vatomMaxN32 32 0 0 0 4 0 1, .vatomAnd 32 0 0 0 4 0 1, .vatomOr 32 0 0 0 4 0 1, .vatomXor 32 0 0 0 4 0 1,
  .vatomXchg 32 0 0 0 4 0 1, .vatomAddN64 32 0 0 0 4 0 1]
/-- One word of every form: uniform words. -/
def uniformWords : List Instr := [
  .xpfx 0 0 0 0 0 0, .sadd 3 1 2, .ssub 3 1 2, .smul 3 1 2, .smulhI64 3 1 2, .smulhN64 3 1 2, .sdiv 3 1 2, .srem 3 1 2, .sand 3 1 2,
  .sor 3 1 2, .sxor 3 1 2, .sshl 3 1 2, .sshr 3 1 2, .smin 3 1 2, .smax 3 1 2, .sun 3 1 0, .saddi 3 1 1, .sandi 3 1 1, .sori 3 1 1,
  .sshli 3 1 1, .sshri 3 1 1, .scmp 3 1 2 0 0, .sli 3 1, .slit 3 5, .slit64 3 5 6, .sext 3 1 0 3, .sexts 3 1 0 3, .sins 3 1 0 3,
  .sselnz 3 1 2 0, .radd 3 5 2, .raddi 3 5 1, .rtag 3 1, .rbase 3 5, .oinit 3 5 6, .ofree 5, .ostat 3 5, .oreset 5, .sbal 3 1,
  .kset 1 1, .kop 1 1 0 0, .sfirst 3 1]
/-- One word of every form: control, waiting, access and engine words. -/
def controlWords : List Instr := [
  .br 4, .bz 1 4, .bnz 1 4, .bkany 1 4, .bknone 1 4, .bl 1 4, .call 4, .callx 3 4, .jmpx 4, .exit, .wfl 1, .nop, .bar 0 1, .barr 0 1,
  .barw 0 1, .mwait 3 4 0, .fence 1 0, .fenceng, .racq 1, .racqTry 3 1, .rrel 1, .sld 3 4 0 3 0 0 0, .sst 3 4 0 3 0 0,
  .satom 3 4 1 0 0 0, .rld 3 4 0 0 0, .rst 3 4 0 0 0, .pub 5 16 0 0 0, .pfh 4 0, .advNeed 1 7, .advCold 1 7, .advWarm 1 7,
  .tset 2 0 7 0, .tstat 3 1, .tdrop 1, .tdropFree 1, .cpy 3 4 0, .cpyCe 3 4 1 0, .cpyq 3 4 1 0, .mxp 12 0, .mxd 3 4 0,
  .mxzDefine 3 0 1 0, .mxzClr 3 0 0, .mxzFree 3 0 0, .mxq 3 0 0, .svinit 3 8 1 1, .svinitFree 3, .svget 3 4 0 0, .launch 3 4 0 0,
  .lwait 3 1 1, .hsig 1]
/-- One word of every form: special registers, traps and privileged words. -/
def systemWords : List Instr := [
  .srd 3 7, .swr 1 19, .trap 0, .brk 0, .tresReplay 3 1, .tresSkip 3 1, .tresKill 3 1, .icinv 1 2, .icinvAll, .mark 1 5,
  .tlbiRange 0 1 2, .tlbiContext 0 1 2, .tlbiDevice 0 1 2, .leaseInstall 3 1 16, .leaseRenew 3 1 2, .leaseReturn 3 1,
  .leaseRead 3 1 16, .pmove 3 16, .bias 3 16 16, .psplit 3 16 16, .acntRead 3 1, .acntReadClear 3 1, .acntWrite 3 1 2]

theorem issues_all {l : List Instr} (h : (l.all fun i => ready i (unOf i) (stOf i)) = true) : ∀ i ∈ l, Issues i (unOf i) (stOf i) :=
  fun i hi => issues_of_ready (List.all_eq_true.1 h i hi)

theorem witness_laneWords_ready : (laneWords.all fun i => ready i (unOf i) (stOf i)) = true := by decide +kernel
theorem witness_floatWords_ready : (floatWords.all fun i => ready i (unOf i) (stOf i)) = true := by decide +kernel
theorem witness_crossWords_ready : (crossWords.all fun i => ready i (unOf i) (stOf i)) = true := by decide +kernel
theorem witness_accessWords_ready : (accessWords.all fun i => ready i (unOf i) (stOf i)) = true := by decide +kernel
theorem witness_uniformWords_ready : (uniformWords.all fun i => ready i (unOf i) (stOf i)) = true := by decide +kernel
theorem witness_controlWords_ready : (controlWords.all fun i => ready i (unOf i) (stOf i)) = true := by decide +kernel
theorem witness_systemWords_ready : (systemWords.all fun i => ready i (unOf i) (stOf i)) = true := by decide +kernel

/-! ## Decoding -/

/-- The words decode to the instruction. -/
def decodesTo (ws : List Word) (i : Instr) : Bool := match decode ws with | .ok j => decide (j = i) | .error _ => false

/-- Words written from the encoding tables: integer and selection. -/
def wordsOf1 : List (List Word × Instr) := [
   ([0x01BCFD89#32], .vaddI32 94 63 49 1), ([0x02D20F44#32], .vsubI32 105 3 104 4), ([0x03B7D81B#32], .vaddsI32 91 118 3 3),
   ([0x0481C2EA#32], .vaddsN32 64 112 93 2), ([0x05FBCD67#32], .vsubsI32 125 115 44 7), ([0x06B085B2#32], .vsubsN32 88 33 54 2),
   ([0x07BBC2C1#32], .vmulI32 93 112 88 1), ([0x088BC345#32], .vmulhI32 69 112 104 5), ([0x094C2CEB#32], .vmulhN32 38 11 29 3),
   ([0x0A336F20#32], .vmadI32 25 91 100 0), ([0x0BFA5D02#32], .vminI32 125 23 32 2), ([0x0C59A300#32], .vmaxI32 44 104 96 0),
   ([0x0DA52BA6#32], .vminN32 82 74 116 6), ([0x0E1A72D3#32], .vmaxN32 13 28 90 3), ([0x0F808193#32], .vand 64 32 50 3),
   ([0x103F959C#32], .vor 31 101 51 4), ([0x11B626A3#32], .vxor 91 9 84 3), ([0x12F0894E#32], .vandn 120 34 41 6),
   ([0x138C0C45#32], .vshl 70 3 8 5), ([0x148DD696#32], .vshrN32 70 117 82 6), ([0x1551BF00#32], .vshrI32 40 111 96 0),
   ([0x1622FD13#32], .vrol 17 63 34 3), ([0x175E0DE9#32], .vunI 47 3 61 1), ([0x18BB0800#32], .vmov 93 66 0),
   ([0x190D8C04#32], .vli 6 99 4), ([0x1A3B7E06#32], .vsel 29 95 64 6), ([0x1BB90DDB#32], .vcmpI32 5 12 67 59 3),
   ([0x1C0D5D0B#32], .vcmpN32 0 6 87 33 3), ([0x1D91B6F2#32], .vcmpF32 4 8 109 94 2), ([0x1EACDF3E#32], .vcmpF64 5 6 55 103 6),
   ([0x1F140006#32], .vlane 10 6)]
theorem test_decode_words_1 : (wordsOf1.all fun e => decodesTo e.1 e.2) = true := by decide +kernel

/-- Words written from the encoding tables: float. -/
def wordsOf2 : List (List Word × Instr) := [
   ([0x2045F302#32], .vaddF32 34 124 96 2), ([0x21224555#32], .vsubF32 17 17 42 5), ([0x22EE878F#32], .vmulF32 119 33 113 7),
   ([0x23B34DCA#32], .vfmaF32 89 83 57 2), ([0x24911183#32], .vminF32 72 68 48 3), ([0x2515F6CE#32], .vmaxF32 10 125 89 6),
   ([0x26423D4A#32], .vunF32 33 15 41 2), ([0x2776B7C9#32], .vsfuF32 59 45 121 1), ([0x28C6B0EA#32], .vdivF32 99 44 29 2),
   ([0x295F3383#32], .vcopysignF32 47 76 112 3), ([0x2B8BDBBA#32], .vaddF64 69 118 119 2), ([0x2CCF6A7A#32], .vmulF64 103 90 79 2),
   ([0x2DD59925#32], .vfmaF64 106 102 36 5), ([0x2EDC8209#32], .vminF64 110 32 65 1), ([0x2FF05419#32], .vmaxF64 120 21 3 1),
   ([0x300CB774#32], .vunF64 6 45 110 4), ([0x314B2198#32], .vdivF64 37 72 51 0), ([0x3218C006#32], .vsqrtF64 12 48 6),
   ([0x34EF693E#32], .vaddBf16x2 119 90 39 6), ([0x3535F22D#32], .vmulBf16x2 26 124 69 5), ([0x3660A697#32], .vfmaBf16x2 48 41 82 7),
   ([0x37D878AE#32], .vmaxBf16x2 108 30 21 6), ([0x38A5D16B#32], .vaddF16x2 82 116 45 3), ([0x3940552D#32], .vmulF16x2 32 21 37 5),
   ([0x3A62F707#32], .vfmaF16x2 49 61 96 7), ([0x3B2232AE#32], .vmaxF16x2 17 12 85 6), ([0x3C69190D#32], .vcvt 52 70 33 5)]
theorem test_decode_words_2 : (wordsOf2.all fun e => decodesTo e.1 e.2) = true := by decide +kernel

/-- Words written from the encoding tables: packing, cross-lane, dot products, the Sieve. -/
def wordsOf3 : List (List Word × Instr) := [
   ([0x3DD802A2#32], .vpk8 108 0 84 2), ([0x3EECBBEE#32], .vupk8 118 46 125 6), ([0x3FC08D70#32], .vpk4 96 35 46 0),
   ([0x40ABF83C#32], .vupk4 85 126 7 4), ([0x41DA53DB#32], .vshflIdx 109 20 123 3), ([0x42302014#32], .vshflXor 24 8 2 4),
   ([0x43E6B833#32], .vshflUp 115 46 6 3), ([0x449D5413#32], .vshflDn 78 85 2 3), ([0x45918001#32], .vswp2 72 96 1),
   ([0x4604EF37#32], .vred 2 59 12 6 7), ([0x47546BCA#32], .vscan 42 26 15 1 2), ([0x483A1F0A#32], .vdot4I8 29 7 97 2),
   ([0x49FCCB61#32], .vdot4N8 126 50 108 1), ([0x4A581F8E#32], .vdot8I4 44 7 113 6), ([0x4B409896#32], .vdot4E4m3 32 38 18 6),
   ([0x4CE15499#32], .vdsq4E4m3 112 85 19 1), ([0x4D7B8E90#32], .vdsq2Bf16 61 99 82 0), ([0x4E54F799#32], .vhamm 42 61 115 1),
   ([0x4F000A60#32], .vsieve 2 76)]
theorem test_decode_words_3 : (wordsOf3.all fun e => decodesTo e.1 e.2) = true := by decide +kernel

/-- Words written from the encoding tables: lane accesses and XPFX. -/
def wordsOf4 : List (List Word × Instr) := [
   ([0x509242FC#32], .vldB8 73 16 1 0 31 4), ([0x510E4D99#32], .vldI8 7 19 0 1 19 1), ([0x524F0491#32], .vldB16 39 65 0 0 18 1),
   ([0x53ECA6D3#32], .vldI16 118 41 1 0 26 3), ([0x545E7E8B#32], .vldB32 47 31 1 0 17 3), ([0x551B3993#32], .vldB64 13 78 0 1 18 3),
   ([0x5612372E#32], .vldB128 9 13 1 1 5 6), ([0x57D1799B#32], .vldf 104 94 0 1 19 3), ([0x5835AF33#32], .vstB8 26 107 1 1 6 3),
   ([0x590AEA24#32], .vstB16 5 58 1 0 4 4), ([0x5AF62C14#32], .vstB32 123 11 0 0 2 4), ([0x5B93F896#32], .vstB64 73 126 0 0 18 6),
   ([0x5C4D93C3#32], .vstB128 38 100 1 1 24 3), ([0x5D835D3C#32], .vstf 65 87 0 1 7 4), ([0x5EAEB67A#32], .vldt 87 45 1 15 2),
   ([0x5FACD053#32], .vstt 86 52 0 10 3), ([0x60091786#32], .vatomAddN32 4 69 1 1 16 3 0), ([0x61C2D1BE#32], .vatomAddF32 97 52 0 1 23 3 0),
   ([0x6230A438#32], .vatomMinI32 24 41 0 0 7 0 0), ([0x6320834A#32], .vatomMaxI32 16 32 1 1 9 1 0),
   ([0x64CCB093#32], .vatomMinN32 102 44 0 0 18 1 1), ([0x65DDBBC5#32], .vatomMaxN32 110 110 1 1 24 2 1),
   ([0x66BD236B#32], .vatomAnd 94 72 1 1 13 1 1), ([0x675F7615#32], .vatomOr 47 93 1 0 2 2 1), ([0x6858169D#32], .vatomXor 44 5 1 0 19 2 1),
   ([0x69828E55#32], .vatomXchg 65 35 1 0 10 2 1), ([0x6AF1AE31#32], .vatomCas 120 107 1 0 6 0 1),
   ([0x6B5F2633#32], .vatomAddN64 47 73 1 0 6 1 1), ([0xFF713400#32], .xpfx 3 1 0 1 26 0)]
theorem test_decode_words_4 : (wordsOf4.all fun e => decodesTo e.1 e.2) = true := by decide +kernel

/-- Words written from the encoding tables: uniform arithmetic, references, masks. -/
def wordsOf5 : List (List Word × Instr) := [
   ([0x81AA6640#32], .sadd 42 38 25), ([0x82B66B00#32], .ssub 45 38 44), ([0x83DA3500#32], .smul 54 35 20),
   ([0x84E1FC80#32], .smulhI64 56 31 50), ([0x854D9780#32], .smulhN64 19 25 30), ([0x869423C0#32], .sdiv 37 2 15),
   ([0x87E26740#32], .srem 56 38 29), ([0x88DBE700#32], .sand 54 62 28), ([0x894C0680#32], .sor 19 0 26), ([0x8AA74700#32], .sxor 41 52 28),
   ([0x8B4AE5C0#32], .sshl 18 46 23), ([0x8C7159C0#32], .sshr 28 21 39), ([0x8DFCC2C0#32], .smin 63 12 11),
   ([0x8EF35440#32], .smax 60 53 17), ([0x8F210016#32], .sun 8 16 22), ([0x903D2068#32], .saddi 15 18 104),
   ([0x91B45F55#32], .sandi 45 5 3925), ([0x929A18BB#32], .sori 38 33 2235), ([0x93FC4010#32], .sshli 63 4 16),
   ([0x941E1000#32], .sshri 7 33 0), ([0x958E190B#32], .scmp 35 33 36 0 11), ([0x96F9EB25#32], .sli 62 125733),
   ([0x97E00000#32, 0x89ABCDEF#32], .slit 56 0x89ABCDEF#32),
   ([0x98400000#32, 0x89ABCDEF#32, 0x01234567#32], .slit64 16 0x89ABCDEF#32 0x01234567#32), ([0x9908A5D6#32], .sext 2 10 23 22),
   ([0x9AD7083A#32], .sexts 53 48 32 58), ([0x9B1006E0#32], .sins 4 0 27 32), ([0x9C642BFA#32], .sselnz 25 2 47 58),
   ([0xA070BE80#32], .radd 28 11 58), ([0xA10E3EC1#32], .raddi 3 35 3777), ([0xA224B000#32], .rtag 9 11), ([0xA36AA000#32], .rbase 26 42),
   ([0xA498BD00#32], .oinit 38 11 52), ([0xA5FE1000#32], .ofree 33), ([0xA651B000#32], .ostat 20 27), ([0xA7FFD000#32], .oreset 61),
   ([0xA8D81000#32], .sbal 54 1), ([0xA9157000#32], .kset 5 23), ([0xAA042104#32], .kop 1 2 4 4), ([0xAB385000#32], .sfirst 14 5)]
theorem test_decode_words_5 : (wordsOf5.all fun e => decodesTo e.1 e.2) = true := by decide +kernel

/-- Words written from the encoding tables: control, waiting, accesses. -/
def wordsOf6 : List (List Word × Instr) := [
   ([0xB0472F89#32], .br 4665225), ([0xB1012CCA#32], .bz 0 77002), ([0xB21AAF5B#32], .bnz 6 175963), ([0xB31E9913#32], .bkany 7 170259),
   ([0xB40241C1#32], .bknone 0 147905), ([0xB51D0F6A#32], .bl 7 69482), ([0xB6716E40#32], .call 7433792), ([0xB78B0000#32], .callx 34 48),
   ([0xB8FF1000#32], .jmpx 49), ([0xB9FC0000#32], .exit), ([0xBAFC0FB3#32], .wfl 4019), ([0xBBFC0000#32], .nop),
   ([0xC0FC0013#32], .bar 1 3), ([0xC1FC003D#32], .barr 3 13), ([0xC2FC000F#32], .barw 0 15), ([0xC3D2E2CF#32], .mwait 52 46 719),
   ([0xC4FC001E#32], .fence 3 6), ([0xC5FC0000#32], .fenceng), ([0xC6FC0005#32], .racq 5), ([0xC6C4000B#32], .racqTry 49 3),
   ([0xC7FC0006#32], .rrel 6), ([0xC8B81571#32], .sld 46 1 21 3 0 0 1), ([0xC91505F2#32], .sst 5 16 23 3 0 2),
   ([0xCA58EAE3#32], .satom 22 14 43 2 1 1), ([0xCB33E133#32], .rld 12 62 4 0 3), ([0xCCD19736#32], .rst 52 25 28 1 2),
   ([0xCDFCBC08#32], .pub 11 48 1 0 0), ([0xCEFEB000#32], .pfh 43 0), ([0xCFFD0E00#32], .advNeed 16 56), ([0xCFFE5581#32], .advCold 37 22),
   ([0xCFFCD902#32], .advWarm 13 36)]
theorem test_decode_words_6 : (wordsOf6.all fun e => decodesTo e.1 e.2) = true := by decide +kernel

/-- Words written from the encoding tables: tiles, engines, system. -/
def wordsOf7 : List (List Word × Instr) := [
   ([0xD0670FC1#32], .tset 25 48 63 1), ([0xD1717000#32], .tstat 28 23), ([0xD2D40000#32], .tdrop 53), ([0xD2CC0001#32], .tdropFree 51),
   ([0xD3D38FC0#32], .cpy 52 56 0), ([0xD335D083#32], .cpyCe 13 29 2 1), ([0xD4CAD001#32], .cpyq 50 45 0 1), ([0xD5FE0001#32], .mxp 32 1),
   ([0xD618A000#32], .mxd 6 10 0), ([0xD782C00B#32], .mxzDefine 32 44 5 1), ([0xD7C8001F#32], .mxzClr 50 7 1),
   ([0xD7B00025#32], .mxzFree 44 2 1), ([0xD86C0000#32], .mxq 27 0 0), ([0xD9CC3003#32], .svinit 51 3 1 1),
   ([0xD9FC0004#32], .svinitFree 63), ([0xDAEF0001#32], .svget 59 48 0 1), ([0xDCA46013#32], .launch 41 6 1 3),
   ([0xDD45C001#32], .lwait 17 28 1), ([0xDEFC0022#32], .hsig 34), ([0xE06C0BCB#32], .srd 27 3019), ([0xE1FE8CED#32], .swr 40 3309),
   ([0xE2FF73DA#32], .trap 226266), ([0xE5FE8E27#32], .brk 167463), ([0xE3A5E000#32], .tresReplay 41 30),
   ([0xE3DAE001#32], .tresSkip 54 46), ([0xE3CF6002#32], .tresKill 51 54), ([0xE4FC2DC0#32], .icinv 2 55), ([0xE4FC0001#32], .icinvAll),
   ([0xE6FF0024#32], .mark 48 36), ([0xE8F7BD80#32], .tlbiRange 61 59 54), ([0xE8D3AC41#32], .tlbiContext 52 58 49),
   ([0xE846D642#32], .tlbiDevice 17 45 25), ([0xE96E7380#32], .leaseInstall 27 39 14), ([0xE9717A41#32], .leaseRenew 28 23 41),
   ([0xE98DB002#32], .leaseReturn 35 27), ([0xE9F66303#32], .leaseRead 61 38 12), ([0xEACE7000#32], .pmove 51 39),
   ([0xEBB5FC40#32], .bias 45 31 49), ([0xECD931C0#32], .psplit 54 19 7), ([0xED920000#32], .acntRead 36 32),
   ([0xED368001#32], .acntReadClear 13 40), ([0xED41AB42#32], .acntWrite 16 26 45)]
theorem test_decode_words_7 : (wordsOf7.all fun e => decodesTo e.1 e.2) = true := by decide +kernel

/-! ## Ill-formed terms -/

/-- Cause 2: an s register as the destination of a lane word, and an operand field that must be zero (R70, R167). -/
theorem test_ill_formed_fields : [Instr.vaddI32 112 0 0 0, .vaddI32 96 0 0 0, .vatomAddN32 96 0 0 0 4 0 1, .kop 1 1 1 4].all
    (fun i => decide (staticCause i = some 2) && !i.wf) = true := by decide

/-- Cause 3: codes that no form has, a written k0, and row counts that cannot be (R60, R73, R80, R129, R136, R143, R144, R156, R160, R167, R173,
R177, R190, R214). -/
theorem test_ill_formed_codes : [Instr.vcmpI32 1 6 0 16 0, .vcmpI32 0 0 0 16 0, .vunI 32 0 8 0, .vsfuF32 32 0 10 0, .vcvt 32 0 27 0, .vshflXor 32 0 0 0,
    .vshflUp 32 0 7 0, .vred 32 0 7 0 0, .scmp 3 1 2 0 6, .sun 3 1 8, .sext 3 1 63 1, .kset 0 1, .kop 1 1 0 7, .racq 0, .racq 5, .barr 2 1,
    .fence 0 5, .sld 3 4 5 3 1 0 0, .tset 24 0 7 0, .srd 3 0x00F].all (fun i => decide (staticCause i = some 3) && !i.wf) = true := by decide

/-- Cause 4: blocks that leave the register file, and odd registers of a pair or a quadruple (R71, R84, R238). -/
theorem test_ill_formed_operands : [Instr.vaddI32 95 0 0 1, .vaddF64 95 0 0 0, .vaddF64 1 0 0 0, .vldB64 33 0 0 0 4 0, .vpk8 32 0 1 0, .mxp 13 0].all
    (fun i => decide (staticCause i = some 4) && !i.wf) = true := by decide

/-- The same words put right. -/
theorem test_well_formed : [Instr.vaddI32 95 0 0 0, .vaddI32 0 127 0 0, .vaddF64 94 0 0 0, .vldB64 32 0 0 0 4 0, .vpk8 32 0 1 2, .mxp 12 0, .kop 1 1 0 4,
    .vcmpI32 1 5 0 16 0, .vunI 32 0 7 0, .vsfuF32 32 0 9 0, .vshflXor 32 0 1 0, .vshflUp 32 0 6 0, .vred 32 0 6 0 0, .scmp 3 1 2 0 5, .sun 3 1 7, .sext 3 1 63 0,
    .kset 1 1, .racq 1, .racq 4, .barr 1 1, .fence 0 4, .sld 3 4 5 3 0 0 0, .tset 23 0 7 0].all Instr.wf = true := by decide

/-! ## Witnesses: code and steps -/

/-- A word that encodes, and its words (DecodeEncode, EncodeDecode). -/
theorem witness_encodings : encode (.sadd 3 4 5) ≠ [] ∧ decode [0x810C4140#32] = .ok (.sadd 3 4 5) := ⟨by decide, rfl⟩

/-- The first and last opcodes of the unassigned ranges (UnassignedOpcodesRefused). -/
theorem witness_unassigned :
    ([0x00000000#32, 0x2A000000#32, 0x33000000#32, 0x6C000000#32, 0x7F000000#32].all
      fun w => !w.getLsbD 31 && Claims.laneUnassigned ((w.toNat / 2 ^ 24) % 128)) = true ∧
    ([0x80000000#32, 0x9D000000#32, 0x9F000000#32, 0xDB000000#32, 0xDF000000#32, 0xE7000000#32, 0xEE000000#32, 0xFE000000#32].all
      fun w => w.getLsbD 31 && Claims.uniUnassigned ((w.toNat / 2 ^ 24) % 128)) = true := by decide

/-- A group on plot 0 with a word at issue, nothing due and nothing that keeps it (StepRunsDecodedWord, and the last clause of FailedChecksTrap with the
all-zero word). -/
theorem witness_StepRunsDecodedWord :
    let s := st (.sadd 3 1 2)
    s.dueStep = none ∧ s.regs.stopped = false ∧ s.todo = [0] ∧ s.slotGroup 0 = some 2 ∧ tabFind s.groups 2 = some (grp (encode (.sadd 3 1 2))) ∧
    (grp (encode (.sadd 3 1 2))).clause = some (clauseOf (encode (.sadd 3 1 2))) ∧
    let g := grp (encode (.sadd 3 1 2))
    g.loc = .active ∧ g.halted = false ∧ g.hold = none ∧ s.faultHeld 2 g = false ∧ (s.plot g.plot).blackout = 0 ∧ (s.team g.team).paired = false ∧
    s.debugOwned g.ctx = false ∧ (s.plot g.plot).spill = .idle := by decide +kernel
theorem witness_StepRunsDecodedWord_word : let c := clauseOf (encode (.sadd 3 1 2)); decode (c.words.drop c.idx) = .ok (.sadd 3 1 2) := rfl
theorem witness_undecodable_word :
    let s := mach [0#32]
    s.dueStep = none ∧ s.regs.stopped = false ∧ s.todo = [0] ∧ s.slotGroup 0 = some 2 ∧ tabFind s.groups 2 = some (grp [0#32]) ∧
    s.faultHeld 2 (grp [0#32]) = false := by decide +kernel
theorem witness_undecodable_word_error : let c := clauseOf [0#32]; decode (c.words.drop c.idx) = .error .unassigned := rfl

/-- At reset a heartbeat is due; with neither step nor turn left the cycle ends (StepsWithoutWords). -/
theorem witness_StepsWithoutWords :
    State.reset.agenda = ({ what := .heartbeatSend, ev := { a := 0 } } : Due) :: [{ what := .heartbeatSend, ev := { a := 256 } }] ∧
    State.reset.cycle = 0 ∧ State.reset.regs.stopped = false ∧
    (let s := { State.reset with agenda := [] }; s.dueStep = none ∧ s.regs.stopped = false ∧ s.todo = []) := by decide

/-- Two accesses of a cycle, the first of the agenda of the higher plot; a grant that waits for the words of its cycle (StepsWithoutWords). -/
def dueS (l : List Due) : State := { st .nop with
  agenda := l, groups := tabPut State.reset.groups 2 { grp [] with plot := 9 } }
theorem witness_StepRunsDueEvent : let d : Due := { what := .memoryAccessPerform, ev := { a := 2, b := 9 } }; let e : Due := { what := .memoryAccessPerform, ev := { a := 3, b := 9 } }
    (dueS [d, e]).writerOf d = some 9 ∧ (dueS [d, e]).writerOf e = some 0 ∧ (dueS [d, e]).regs.stopped = false ∧ d.due ≤ (dueS [d, e]).cycle ∧ d.what ≠ .mxeGrant ∧
    (dueS [{ what := .mxeGrant }]).todo ≠ [] := by decide +kernel

/-- Memory at reset, and with bytes in it (MemoryStaysCanonical): a step from each. -/
theorem witness_MemoryStaysCanonical :
    Memory.wf State.reset.mem = true ∧ Memory.wf (mapGib 0 (st .nop)).mem = true ∧ isNext (step State.reset) = true ∧
    isNext (step (mapGib 0 (st .nop))) = true := by decide +kernel

/-! ## Witnesses: uniform words -/

/-- Quarters and fields at their bounds (RegisterFiles, UniformEncodings). -/
theorem witness_field_bounds : 3 < 4 ∧ 8 ≤ (8 : BitVec 6).toNat ∧ 8 ≤ (63 : BitVec 6).toNat ∧ (1 : BitVec 6) ≠ 0 ∧ 6 ≤ (6 : BitVec 4).toNat ∧
    64 < (63 : BitVec 6).toNat + ((1 : BitVec 6).toNat + 1) ∧ (un .nop).hasPfx = false := by decide

/-- Every form of UniformValues, UniformReferences and UniformMasks issues and has its row in the tables of results. -/
theorem witness_UniformWords : (uniformWords.all fun i => (Claims.uniformValue (unOf i) i).isSome || (Claims.uniformRegister (unOf i) i).isSome ||
    (Claims.uniformMask (unOf i) i).isSome || [Instr.xpfx 0 0 0 0 0 0, .oinit 3 5 6, .ofree 5, .ostat 3 5, .oreset 5].contains i) = true := by
  decide +kernel
theorem witness_nop : Issues .nop (unOf .nop) (stOf .nop) := issues_all witness_controlWords_ready _ (by decide)

/-- Each transfer moves lanes; `exit` with lanes left at another address (ControlTransfer). -/
theorem witness_ControlTransfer : ([Instr.br 4, .bz 1 4, .bnz 1 4, .bkany 1 4, .bknone 1 4, .bl 1 4, .call 4, .callx 3 4, .jmpx 4].all fun i =>
    ready i (unOf i) (stOf i) && match Claims.transferOf (unOf i) i with | some (_, t, r) => decide (t ≠ 0) || decide (r ≠ 0) | none => false) = true := by
  decide +kernel
def exitG (f : List FrontEntry) : Group := { grp (encode .exit) with frontier := f }
def exitS (f : List FrontEntry) : State := { st .exit with
  groups := tabPut (tabPut State.reset.groups 2 (exitG f)) 3 (grp []), teams := [(5, { tm with groups := [2, 3], allGroups := [2, 3] })] }
def exitU (f : List FrontEntry) : Issuer := { gid := 2, g := exitG f, c := clauseOf (encode .exit) }
theorem witness_exit_goes_on : let f := [{ addr := 0x20000, lanes := 1 }]
    ready .exit (exitU f) (exitS f) = true ∧ (exitU f).g.frontier ≠ [] ∧ Claims.transferOf (exitU f) .exit = some (0, 0, 0) := by decide +kernel
/-- The last lanes of one of two groups (GroupExit). -/
theorem witness_GroupExit : let s := exitS []; let u := exitU []
    ready .exit u s = true ∧ u.g.pgc = false ∧ u.g.frontier = [] ∧ u.g.hold = none ∧ u.g.trapHold = [] ∧ u.g.lostHold = false ∧ u.g.loc = .active ∧
    u.g.f = [] ∧ (tabFind s.teams u.g.team).isSome = true ∧ (s.team u.g.team).groups = [2, 3] := by decide +kernel

/-! ## Witnesses: lane words -/

/-- Every form of the integer and the float words has its row in the tables of results (IntegerLaneWords, FloatLaneWords). -/
theorem witness_lane_tables : ((laneWords ++ floatWords ++ crossWords).all fun i => (Claims.intElement i).isSome || (Claims.floatElement i).isSome ||
    match i with
    | .vli .. | .vsel .. | .vcmpI32 .. | .vcmpN32 .. | .vcmpF32 .. | .vcmpF64 .. | .vlane .. | .vsfuF32 .. | .vcvt .. | .vpk8 .. | .vpk4 .. | .vupk8 .. | .vupk4 ..
    | .vshflIdx .. | .vshflXor .. | .vshflUp .. | .vshflDn .. | .vswp2 .. | .vred .. | .vscan .. | .vsieve .. => true
    | _ => false) = true := by decide +kernel
/-- The words of LaneSelections, LaneConversions, LaneCrossWords and LaneFunctions issue. -/
theorem witness_lane_words : ∀ i ∈ ([.vli 32 5 0, .vlane 32 0, .vsel 32 0 16 1, .vcmpI32 1 0 0 16 0, .vcmpN32 1 0 0 16 0, .vcmpF32 1 0 0 16 0,
    .vcmpF64 1 0 0 16 0] : List Instr), Issues i (unOf i) (stOf i) := fun i hi => issues_all witness_laneWords_ready i (by revert i; decide)
theorem witness_cross_words : ∀ i ∈ ([.vpk8 32 0 1 2, .vpk4 32 0 3 3, .vupk8 32 0 1 2, .vupk4 32 0 3 3, .vshflIdx 32 0 16 0, .vshflXor 32 0 1 0,
    .vshflUp 32 0 1 0, .vshflDn 32 0 1 0, .vswp2 32 0 0, .vred 32 0 0 0 0, .vscan 32 0 0 0 0] : List Instr), Issues i (unOf i) (stOf i) :=
  fun i hi => issues_all witness_crossWords_ready i (by revert i; decide)
theorem witness_float_words : ∀ i ∈ ([.vcvt 32 0 0 0, .vsfuF32 32 0 0 0] : List Instr), Issues i (unOf i) (stOf i) := by
  intro i hi; simp only [List.mem_cons, List.not_mem_nil, or_false] at hi
  rcases hi with rfl | rfl
  · exact issues_of_ready (by decide +kernel)
  · exact issues_of_ready (by decide +kernel)
theorem witness_shuffles : (laneForm (.vshflXor 32 0 1 0)).isSome = true ∧
    (Claims.shuffleSource (un .nop) ((laneForm (.vshflXor 32 0 1 0)).getD default) 0 0 0 (.vshflXor 32 0 1 0)).isSome = true ∧
    (1 : BitVec 4) ≠ 0 ∧ (1 : BitVec 7) ≠ 0 ∧ ((laneForm (.vsfuF32 32 0 0 0)).bind (fun l => l.dst)).isSome = true := by decide

/-- Codes of every format (FloatArithmetic, ConversionValues), and every lane word at its issue (LaneWordsComplete). -/
theorem witness_codes : Claims.isCode f64 (2 ^ 64 - 1) ∧ Claims.isCode f32 (2 ^ 32 - 1) ∧ Claims.isCode bf16 (2 ^ 16 - 1) ∧ Claims.isCode f16 (2 ^ 16 - 1) ∧
    (255 : Nat) < 256 ∧ (15 : Nat) < 16 := by
  unfold Claims.isCode; decide
theorem witness_LaneWordsComplete : ∀ i ∈ laneWords ++ floatWords ++ crossWords, Issues i (unOf i) (stOf i) := by
  intro i hi
  simp only [List.mem_append] at hi
  rcases hi with (h | h) | h
  · exact issues_all witness_laneWords_ready i h
  · exact issues_all witness_floatWords_ready i h
  · exact issues_all witness_crossWords_ready i h

/-- A lane word with the results that it leaves (LaneResultsScheduled, LaneLatencies). -/
def onePend : Pending := { reg := .v 32, lanes := BitVec.allOnes 64, vals := [], avail := 0 }
theorem witness_LaneResultsScheduled : (st (.vaddI32 32 0 16 0)).issuer? = some (un (.vaddI32 32 0 16 0)) ∧
    (laneForm (.vaddI32 32 0 16 0)).map (fun l => decide ([onePend].length ≤ l.regOps)) = some true ∧ flagSel (.vaddI32 32 0 16 0) = none ∧
    (laneForm (.vcvt 32 0 4 0)).isSome = true ∧ (laneForm (.vcvt 32 0 9 0)).isSome = true := by decide +kernel
/-- A result and a mask result that are due (LaneResultWritten). -/
def pendS : State := { st .nop with
  ev := { a := 2, b := 7 }, groups := tabPut State.reset.groups 2 { grp [] with pend := [(7, onePend)] } }
theorem witness_LaneResultWritten : pendS.ev = { a := 2, b := 7 } ∧ (tabFind pendS.groups 2).bind (fun g => tabFind g.pend 7) = some onePend := by decide

/-- XPFX before `vadd.i32` (PrefixApplies). -/
def pfxWords : List Word := [0xFF004700#32, 0x01400080#32]
theorem witness_PrefixApplies : let s := mach pfxWords; let u : Issuer := { gid := 2, g := grp pfxWords, c := clauseOf pfxWords }
    s.issuer? = some u ∧ checks (.xpfx 0 0 0 0 35 1) u s = none ∧ u.c.words[u.c.idx + 1]? = some 0x01400080#32 ∧ (0x01400080#32).getLsbD 31 = false := by
  decide +kernel

/-! ## Witnesses: accesses -/

/-- The words that only start their operation issue on a team that is not paired (AccessWordsIssue, EngineAndObjectWords). -/
theorem witness_alone : ∀ i ∈ accessWords ++ controlWords ++ uniformWords, (State.uTeam (stOf i) (unOf i)).paired = false := by
  intro i hi; revert i; exact of_decide_eq_true (by decide +kernel)
theorem witness_access_words : (accessWords.all fun i => Claims.isAccessWord i) = true ∧
    ([Instr.sld 3 4 0 3 0 0 0, .sst 3 4 0 3 0 0, .satom 3 4 1 0 0 0, .rld 3 4 0 0 0, .rst 3 4 0 0 0].all fun i =>
      Claims.isAccessWord i && controlWords.contains i) = true := by decide
/-- A device with no culled plot, on which the access, engine and object words issue (AccessWordsComplete, EngineWordsComplete). -/
theorem witness_complete_words : (∀ i ∈ accessWords ++ controlWords ++ uniformWords, Issues i (unOf i) (stOf i)) ∧
    ((accessWords ++ controlWords ++ uniformWords).all fun i => (stOf i).plots.all fun e => !e.2.culled) = true ∧ (1 ≤ (64 : DWord).toNat ∧ (64 : DWord).toNat ≤ 64) := by
  refine ⟨fun i hi => ?_, by decide +kernel, by decide⟩
  simp only [List.mem_append] at hi
  rcases hi with (h | h) | h
  · exact issues_all witness_accessWords_ready i h
  · exact issues_all witness_controlWords_ready i h
  · exact issues_all witness_uniformWords_ready i h
/-- `vatom.cas` needs its prefix (R204). -/
def casClause : Clause := { clauseOf (encode (.vatomCas 32 0 0 0 4 0 1)) with pfx := some { cv := true, c := 16 } }
def casG : Group := { grp (encode (.vatomCas 32 0 0 0 4 0 1)) with clause := some casClause }
theorem witness_cas : let s := { st (.vatomCas 32 0 0 0 4 0 1) with groups := tabPut State.reset.groups 2 casG }
    ready (.vatomCas 32 0 0 0 4 0 1) { gid := 2, g := casG, c := casClause } s = true ∧
    (State.uTeam s { gid := 2, g := casG, c := casClause }).paired = false := by decide +kernel

/-- The state in which the access of a word that issues in `s` is performed. -/
def performing (i : Instr) (s : State) (gid : Nat) : State :=
  match exec i s with
  | .next t => { t with agenda := [], ev := { a := gid, b := s.nextId } }
  | _ => s
def opAt (s : State) : MemOp := (tabFind (s.group s.ev.a).ops s.ev.b).getD {}
/-- The operation that the event names may be performed now (`Performs`). -/
def performsB (s : State) : Bool :=
  let gid := s.ev.a; let op := s.ev.b; let o := opAt s; let x := s.checkOp gid o
  decide (s.ev = { a := gid, b := op }) && decide (tabFind s.groups gid = some (s.group gid)) && decide (tabFind (s.group gid).ops op = some o) &&
  decide (o.st = .issued) && !s.behindEarlier gid op o && !s.opMoving gid o && !s.shareAway gid o && decide (x.2.1 = none) &&
  decide (s.fillsWait gid o = 0 ∧ x.1.placesWake gid o x.2.2 = x.1 ∧ x.1.placesWait gid o x.2.2 = 0) &&
  !(!(s.group gid).pgc && x.2.2.any (fun y => x.1.placePoisoned gid y.1 y.2 (decide ((atomicScope o.word).getD 0 = 0)))) &&
  decide (x.1.groups = s.groups) && decide (x.1.agenda = s.agenda) && decide (x.1.teams = s.teams)
theorem performs_of {s : State} (h : performsB s = true) :
    Claims.Performs s s.ev.a s.ev.b (s.group s.ev.a) (opAt s) (s.checkOp s.ev.a (opAt s)).1 (s.checkOp s.ev.a (opAt s)).2.2 := by
  simp only [performsB, Bool.and_eq_true, decide_eq_true_eq, Bool.not_eq_true'] at h
  obtain ⟨⟨⟨⟨⟨⟨⟨⟨⟨⟨⟨⟨h1, h2⟩, h3⟩, h4⟩, h5⟩, h6⟩, hs⟩, h7⟩, hw⟩, h8⟩, h9⟩, h10⟩, h11⟩ := h
  exact ⟨h1, h2, h3, h4, h5, h6, hs, by rw [← h7], hw, h8, h9, h10, h11⟩
def isShare (p : Place) : Bool := match p with | .sh _ => true | _ => false
def places (s : State) : List (Elem × Place) := (s.checkOp s.ev.a (opAt s)).2.2

/-- The machine with s4 at an address that context 0 maps, the group's word performed, and the line in the home L1. -/
def memS (fmt : Nat) (i : Instr) (a : DWord) (t : Team := tm) : State :=
  let s := mapGib fmt (st i)
  let s := performing i { s with teams := [(5, t)], groups := tabPut s.groups 2 { grp (encode i) with s := tabPut sregs 4 { val := a } } } 2
  let d := 0x40000000 + a.toNat
  s.l1Set (s.l1Home 0 d) d 512 .m
def atHandB (s : State) : Bool := (places s).all fun x => match x.2 with
  | .sh _ => true
  | .mem dpa pte => !cacheable (dpa / 32 * 32) pte || ((s.checkOp s.ev.a (opAt s)).1.l1State (s.l1Home 0 (dpa / 32 * 32)) (dpa / 32 * 32)).isSome
/-- A load of memory with a byte that the team's buffer holds, `rld` of a plain word, of a pointer to a header that is live, and `vldf` of a block whose
descriptor the buffer holds (LoadPerforms). -/
def ldM : State := memS 0 (.sld 3 4 0 3 0 0 0) 0x20000 { tm with cb := [{ blk := 0x20000 / 64, bytes := [(3, 7)] }] }
def rldM (v : Nat) : State :=
  ((memS 0 (.rld 3 4 0 0 0) 0x20000).writeMem 0x40020000 (natBytes 8 v)).writeMem 0x102008 (natBytes 8 (0x18017B + 16384 * 2 ^ 21))
    |>.storeMem 0x40100000 (natBytes 8 (2 ^ 62 + 2 ^ 36 + 4 * 2 ^ 16))
def vldfM : State := memS 0 (.vldf 32 96 0 0 4 0) 0x20000
theorem witness_LoadPerforms_memory : ([ldM, rldM 5, rldM 0x40100000, vldfM].all fun s => performsB s && atHandB s && !(s.group 2).pgc && Claims.isAccessWord (opAt s).word &&
      !isWriteWord (opAt s).word && (places s).any (fun x => match x.2 with | .mem _ _ => true | _ => false)) = true ∧
    ([rldM 5, rldM 0x40100000].all fun s => decide ((opAt s).ref = none)) = true ∧
    (match ((rldM 0x40100000).headerAt 0 0 0x40100000).2 with | (.ok _ pte, h) => decide (pteFmt pte = 2 ∧ h / 2 ^ 62 % 4 ≠ 0) | _ => false) = true := by decide +kernel

/-- A load of the lanes and a uniform load from the team's share, and a PGC's load from its own memory (LoadPerforms). -/
def ldS : State := performing (.sld 3 4 0 3 0 0 0) (st (.sld 3 4 0 3 0 0 0)) 2
def vldS : State := performing (.vldB32 32 0 0 0 4 0) (st (.vldB32 32 0 0 0 4 0)) 2
def pgcAt (a : DWord) (i : Instr) : State :=
  let s := stP i
  { s with groups := tabPut s.groups 0 { grpP (encode i) with s := tabPut sregs 4 { val := a } } }
def ldP : State := performing (.sld 3 4 0 3 0 0 0) (pgcAt 0x00F800000100 (.sld 3 4 0 3 0 0 0)) 0
theorem witness_LoadPerforms : ([ldS, vldS].all fun s => performsB s && (places s).all (fun x => isShare x.2) && !(s.group s.ev.a).pgc &&
      Claims.isAccessWord (opAt s).word && !isWriteWord (opAt s).word) = true ∧
    (performsB ldP && (ldP.group ldP.ev.a).pgc && decide (places ldP ≠ [])) = true := by decide +kernel

/-- A load, a store and an atomic that wait for their completion (AccessCompletes). -/
def completing (w : Instr) (r : List (Nat × List Word)) (x : Option SReg) : State := { st .nop with
  ev := { a := 2, b := 9 }, groups := tabPut State.reset.groups 2 { grp (encode .nop) with f := [(0, 1)], ops :=
    [(9, { word := w, flag := some 0, st := .performed, lanes := 1, bundle := 3, res := r, sres := x })] } }
theorem witness_AccessCompletes : ([completing (.sld 3 4 0 3 0 0 0) [] (some { val := 7 }), completing (.vldB32 32 0 0 0 4 0) [(32, [5])] none,
    completing (.sst 3 4 0 3 0 0) [] none, completing (.satom 3 4 1 0 0 0) [] (some {})].all fun s =>
      decide (s.ev = { a := 2, b := 9 }) && decide ((opAt s).fwd = none ∧ (opAt s).dropped = [] ∧ (opAt s).st = .performed) &&
      (s.group 2).clause.isSome) = true := by decide +kernel

/-- Stores of the lanes and of the group to the share, and to memory through the commit buffer (StoresPerform). -/
def stS : State := performing (.vstB32 32 0 0 0 4 0) (st (.vstB32 32 0 0 0 4 0)) 2
def stM : State :=
  let i : Instr := .sst 3 4 0 3 0 0
  let s := mapGib 0 (st i)
  performing i { s with groups := tabPut s.groups 2 { grp (encode i) with s := tabPut sregs 4 { val := 0x20000 } } } 2
theorem witness_StoresPerform : (performsB stS && isWriteWord (opAt stS).word && decide (atomicScope (opAt stS).word = none) &&
      (places stS).all (fun x => match x.2 with | .sh off => decide (x.1.addr.toNat = sharedWindow.toNat + off) | _ => false) &&
      (tabFind (stS.checkOp 2 (opAt stS)).1.teams 5).isSome) = true ∧
    (performsB stM && isWriteWord (opAt stM).word && decide (atomicScope (opAt stM).word = none) &&
      (places stM).any (fun x => match x.2 with | .mem _ _ => true | _ => false) && !(stM.checkOp 2 (opAt stM)).1.refPrivate 2 (opAt stM).ref &&
      decide ((opAt stM).left = 0 ∧ tm.cb = [] ∧ tm.paired = false)) = true := by decide +kernel

/-- Atomics at their performance, and at a step of a lane, in the share and in a PGC's memory (AtomicsPerform). -/
def atS : State := performing (.vatomAddN32 32 0 0 0 4 0 1) (st (.vatomAddN32 32 0 0 0 4 0 1)) 2
def saS : State := performing (.satom 3 4 1 0 0 0) (st (.satom 3 4 1 0 0 0)) 2
def saP : State := performing (.satom 3 4 1 0 0 0) (pgcAt 0x00F800000100 (.satom 3 4 1 0 0 0)) 0
/-- The hypotheses of a step of the first lane. -/
def stepsLane (s : State) : Bool :=
  let gid := s.ev.a; let o := opAt s; let g := s.group gid
  match leastBy (fun (x : Elem) => x.lane) ((s.opElems gid o).filter (fun x => decide (o.lane ≤ x.lane))) with
  | none => false
  | some e =>
    let x := s.checkElem gid o.ref e.addr e.n .atomic (atomicScope o.word) false
    let old := bytesNat (x.1.loadElem gid e.addr x.2.2 e.n)
    decide (x.2.1 = none) && decide (x.1.groups = s.groups) && decide (e.n = elemBytes o.word) &&
    (!g.pgc && isShare x.2.2 && (tabFind x.1.teams g.team).isSome ||
      g.pgc && isPgcMem e.addr.toNat && isPgcMem (e.addr.toNat + e.n) && decide (x.2.2 = .mem e.addr.toNat 0)) &&
    (Claims.atomicResult o.word old (bytesNat (o.elemData e.k e.lane e.n)) 0).isSome
theorem witness_AtomicsPerform : ([atS, saS, saP].all fun s => performsB s && (atomicScope (opAt s).word).isSome && stepsLane s) = true := by decide +kernel

/-- An access without a page (cause 18), and a store to a page that may not be written, each logged at entry 0; an entry to be performed again, and one
still waiting (OperandLog). -/
def failing (i : Instr) (pte : Nat) (a : DWord) : State :=
  let s := (mapGib 0 (st i)).writeMem 0x102000 (natBytes 8 pte)
  performing i { s with groups := tabPut s.groups 2 { grp (encode i) with s := tabPut sregs 4 { val := a } } } 2
def failureOf (s : State) : Option Failure := (s.checkOp s.ev.a (opAt s)).2.1
theorem witness_OperandLog : ([(failing (.sld 3 4 0 3 0 0 0) 0 0x20000, 18), (failing (.sst 3 4 0 3 0 0) (0x18005B + 16384 * 2 ^ 21) 0x20000, 19)].all fun e => let s := e.1
      decide (tabFind (s.group 2).ops s.ev.b = some (opAt s)) && decide ((opAt s).st = .issued) && Claims.isAccessWord (opAt s).word &&
      !s.behindEarlier 2 s.ev.b (opAt s) && !s.opMoving 2 (opAt s) && decide (s.fillsWait 2 (opAt s) = 0) && decide ((s.checkOp 2 (opAt s)).1.groups = s.groups) &&
      decide ((failureOf s).map (fun f => f.cause) = some e.2) && decide (logFree (s.group 2) = some 0)) = true := by decide +kernel
def loggedS (x : LogState) : State := { ldS with ev := { a := 2 }, groups := tabPut ldS.groups 2 { ldS.group 2 with log := [(0, { op := ldS.ev.b, st := x, order := 1 })] } }
theorem witness_OperandLog_replay : ([LogState.replay, .pending].all fun x => let s := loggedS x
    decide (leastBy (fun (x : Nat × LogEntry) => x.2.order) (s.group 2).log = some (0, { op := ldS.ev.b, st := x, order := 1 })) &&
    decide ((s.group 2).loc = .active) && (tabFind (s.group 2).ops ldS.ev.b).isSome) = true := by decide +kernel
/-- A lane of an atomic whose page has gone (AtomicsPerform); an entry to be performed again on a page that moves, and one that is given up (OperandLog). -/
def goneS : State := failing (.satom 3 4 1 0 0 0) 0 0x20000
def movedS : State := { ldM with ev := { a := 2 }, pgc := { ldM.pgc with moving := [(0, 0x102000)] }
                                 groups := tabPut ldM.groups 2 { ldM.group 2 with log := [(0, { op := ldM.ev.b, st := .replay, order := 1 })] } }
def droppedS : State := { ldM with groups := tabPut ldM.groups 2 { ldM.group 2 with ops := (ldM.group 2).ops.map (fun e => (e.1, { e.2 with st := .logged 0 })),
                                                                                    log := [(0, { op := ldM.ev.b, st := .pending, order := 1 })] } }
theorem witness_refused_lane : (match leastBy (fun (x : Elem) => x.lane) ((goneS.opElems 2 (opAt goneS)).filter (fun x => decide ((opAt goneS).lane ≤ x.lane))) with
      | some e => (match goneS.checkElem 2 (opAt goneS).ref e.addr e.n .atomic (atomicScope (opAt goneS).word) false with
        | (m, some f, _) => decide (m.groups = goneS.groups ∧ f.cause = 18)
        | _ => false)
      | none => false) = true ∧ (goneS.group 2).pgc = false ∧ tabFind (goneS.group 2).ops goneS.ev.b = some (opAt goneS) := by decide +kernel
theorem witness_replay_waits : leastBy (fun (x : Nat × LogEntry) => x.2.order) (movedS.group 2).log = some (0, { op := ldM.ev.b, st := .replay, order := 1 }) ∧
    (movedS.group 2).loc = .active ∧ ((tabFind (movedS.group 2).ops ldM.ev.b).map fun o => movedS.opMoving 2 o) = some true := by decide +kernel
theorem witness_abandoned : ((tabFind (droppedS.group 2).ops ldM.ev.b).map fun o => decide (o.st = .logged 0 ∧ o.fwd = none) && Claims.isAccessWord o.word) = some true ∧
    (droppedS.group 2).log = [(0, { op := ldM.ev.b, st := .pending, order := 1 })] ∧ (droppedS.group 2).heldFails = [] ∧ ((droppedS.group 2).frontier ≠ [] ∨ (droppedS.group 2).clause.isSome = true) := by decide +kernel

/-! ## Witnesses: waits, rows, tiles -/

/-- `st i` with the group changed, and with the team changed. -/
def stG (i : Instr) (f : Group → Group) : State := { st i with groups := tabPut State.reset.groups 2 (f (grp (encode i))) }
def unG (i : Instr) (f : Group → Group) : Issuer := { gid := 2, g := f (grp (encode i)), c := clauseOf (encode i) }
def stT (i : Instr) (f : Team → Team) : State := { st i with teams := [(5, f tm)] }

/-- `wfl` with the flag up and with another flag up; `lwait` of a failed handle, of a pending launch, of a launch that is complete (WaitWords,
WaitConditions). -/
theorem witness_WaitWords :
    ready (.wfl 1) (unG (.wfl 1) fun g => { g with f := [(0, 2)] }) (stG (.wfl 1) fun g => { g with f := [(0, 2)] }) = true ∧
    ready (.wfl 1) (unG (.wfl 1) fun g => { g with f := [(1, 2)] }) (stG (.wfl 1) fun g => { g with f := [(1, 2)] }) = true ∧
    ready (.wfl 0) (un (.wfl 0)) (st (.wfl 0)) = true ∧
    (let f := fun (g : Group) => { g with s := [(1, { val := 0x8000000000000001 })] }; ready (.lwait 3 1 0) (unG (.lwait 3 1 0) f) (stG (.lwait 3 1 0) f)) = true ∧
    ready (.lwait 3 1 0) (un (.lwait 3 1 0)) (st (.lwait 3 1 0)) = true ∧ (st (.lwait 3 1 0)).launchStatus 0 3 = none ∧
    (let s := (st (.lwait 3 1 1)).modCtx 0 (fun x => { x with nextSerial := 9 }); ready (.lwait 3 1 1) (un (.lwait 3 1 1)) s && (s.launchStatus 0 3).isSome) = true ∧
    ready (.hsig 1) (un (.hsig 1)) (st (.hsig 1)) = true := by decide +kernel
/-- Entries of the frontier whose header is at hand, ready and waiting for f1 (WaitConditions). -/
def fetchedLine (h : Word) : ILine :=
  { ctx := 0, vline := 0x400, words := h :: List.replicate 15 0xBBFC0000#32, marks := 1, checked := false }
def fetched (h : Word) : State :=
  let s := stG .nop fun g => { g with clause := none, f := [(1, 1)], frontier := [{ addr := 0x10000, lanes := 1 }] }
  { s with plots := tabPut s.plots 0 { s.plot 0 with icache := [fetchedLine h] } }
def isReady (e : EntryState) : Bool := match e with | .ready _ => true | _ => false
def isWait (e : EntryState) : Bool := match e with | .wait _ _ => true | _ => false
theorem witness_WaitConditions : let e : FrontEntry := { addr := 0x10000, lanes := 1 }
    isReady ((fetched 0x00000100).entryState ((fetched 0x00000100).group 2) e) = true ∧
    isWait ((fetched 0x00020100).entryState ((fetched 0x00020100).group 2) e) = true := by decide +kernel

/-- A group under each hold, where the hold ends and where it goes on (HoldsEnd). -/
def held (h : Hold) (f : Tab Nat) : State := stG .nop fun g => { g with hold := some h, clause := none, f := f }
theorem witness_HoldsEnd : ([(Hold.flags 3, []), (.flags 3, [(0, 1)]), (.until 1, []), (.until 2, []), (.fence 1 2 false (some 1), []), (.fence 1 2 true (some 2), []),
    (.lwait 3 5, []), (.status 3 7 1, []), (.status 3 7 2, []), (.barWait 3 false 6, []), (.barWait 3 true 6, []), (.barPrev 3 true false 6, []), (.icinv 0, []), (.icinv 2, []), (.hsig 4, [])].all fun (e : Hold × Tab Nat) =>
      decide ((tabFind (held e.1 e.2).groups 2).bind (fun g => g.hold) = some e.1)) = true ∧ (held (.hsig 4) []).cycle = 0 ∧
    ((held (.hsig 4) []).group 2).pgc = false ∧ ((held (.hsig 4) []).team 5).paired = false := by decide +kernel

/-- `bar` with nothing outstanding, with an access outstanding, and of a group that has arrived; the last and not the last participant (Barriers). -/
theorem witness_Barriers : let i : Instr := .bar 0 3; let r : Instr := .barr 1 3; let w : Instr := .barw 0 3
    let f := fun (g : Group) => { g with ops := [(9, { word := .sld 3 4 0 3 0 0 0, flag := some 0 })] }
    let a := fun (t : Team) => { t with bars := [(3, { arrived := [2], phase := 7 })] }
    (ready i (un i) (st i) && ready r (un r) (st r) && ready w (un w) (st w) && ready i (unG i f) (stG i f) && ready i (un i) (stT i a) &&
      ready w (un w) (stT w a) && Claims.nothingBefore (st i) (un i) && !Claims.nothingBefore (stG i f) (unG i f) &&
      ((stT i a).barrier 5 false 3).arrived.contains 2) = true ∧
    (tabFind (st i).teams 5).isSome = true ∧ (tabFind (st i).clusters ((st i).team 5).cluster).isSome = true ∧
    (st i).participants 5 false = [2] := by decide +kernel

/-- A group of which an arrival is on its way (Barriers). -/
theorem witness_arrives : let f := fun (g : Group) => { g with arrivals := [{ b := 3, clu := false, before := 4 }] }
    ([Instr.bar 0 3, .barr 0 3, .barw 0 3].all fun i => ready i (unG i f) (stG i f) && Claims.arrives (stG i f) (unG i f) false 3) = true := by decide +kernel

/-- Fences with nothing to wait for, with a buffered store, of a team's scope, and of acquire kind (Fences). -/
theorem witness_Fences : let c := fun (t : Team) => { t with cb := [{ blk := 5 }] }
    ([(Instr.fence 0 2, st (.fence 0 2)), (.fence 0 2, stT (.fence 0 2) c), (.fence 0 1, stT (.fence 0 1) c), (.fence 2 3, stT (.fence 2 3) c), (.fenceng, st .fenceng)].all
      fun e => ready e.1 (un e.1) e.2) = true ∧ Claims.nothingBefore (st (.fence 0 2)) (un (.fence 0 2)) = true ∧
    Claims.nothingBefore (stT (.fence 0 2) c) (un (.fence 0 2)) = false := by decide +kernel

/-- Rows that the pool holds and rows that it has not; a request that can be served, one that cannot, and none (RegisterRows). -/
def fullPool (s : State) : State :=
  { s with groups := (List.range 7).foldl (fun (m : Tab Group) k => tabPut m (10 + k) { rows := 6, team := 5 }) s.groups
           plots := tabPut s.plots 0 { s.plot 0 with slots := [some 2, some 10, some 11, some 12, some 13, some 14, some 15, some 16] } }
theorem witness_RegisterRows : 1 ≤ (st (.racq 1)).freeRows 0 ∧ (st (.racq 1)).rowRequests 0 = [] ∧ (fullPool (st (.racq 2))).freeRows 0 = 1 ∧
    ready (.racq 1) (un (.racq 1)) (st (.racq 1)) = true ∧ ready (.racqTry 3 1) (un (.racqTry 3 1)) (fullPool (st (.racqTry 3 1))) = true ∧
    ready (.rrel 1) (un (.rrel 1)) (st (.rrel 1)) = true ∧ (held (.racq 1 77) []).rowRequests 0 = [(2, 1)] ∧ 1 ≤ (held (.racq 1 77) []).freeRows 0 ∧
    (fullPool (held (.racq 2 77) [])).rowRequests 0 = [(2, 2)] ∧ (fullPool (held (.racq 2 77) [])).freeRows 0 < 2 ∧
    ((fullPool (held (.racq 2 77) [])).group 2).plot = 0 := by decide +kernel

/-- Tiles that are ready, being filled, being drained, free and another team's (SharedTiles). -/
def stTile (i : Instr) (t : Tab Tile) : State := { st i with plots := tabPut (st i).plots 0 { (st i).plot 0 with tiles := t } }
theorem witness_SharedTiles : ([TileState.ready, .filling, .draining].all fun x => [Instr.tset 2 0 7 1, .tdrop 2, .tdropFree 2, .tstat 3 2].all fun i =>
      ready i (un i) (stTile i [(2, { team := 5, off := 0, len := 1, st := x })])) = true ∧
    ready (.tstat 3 2) (un (.tstat 3 2)) (stTile (.tstat 3 2) [(2, { team := 6, off := 0, len := 1, st := .ready })]) = true ∧
    ready (.tset 2 0 7 0) (un (.tset 2 0 7 0)) (stTile (.tset 2 0 7 0) []) = true := by decide +kernel
/-- A plot whose tile entries a swap has away (SharedTiles). -/
def awayS (i : Instr) : State :=
  let s := stTile i [(2, { team := 5, off := 0, len := 1, st := .ready })]
  { s with plots := tabMod {} s.plots 0 (fun x => { x with spill := .restoreTeams }) }
theorem witness_tilesAway : ([Instr.tset 2 0 7 0, .tdrop 2, .tdropFree 2].all fun i => ready i (un i) (awayS i)) = true ∧
    Claims.tilesAway (awayS (.tset 2 0 7 0)) (un (.tset 2 0 7 0)) :=
  ⟨by decide +kernel, .inr ⟨by decide +kernel, by decide +kernel⟩⟩
theorem witness_tileBusy : Claims.tileBusy (stTile (.tdrop 2) [(2, { team := 5, off := 0, len := 1, st := .filling })]) (un (.tdrop 2)) 2 :=
  ⟨_, rfl, rfl, .inl rfl⟩

/-- Every path leads somewhere on a device without culled plots (InstructionInvalidation, TlbInvalidation). -/
theorem witness_ways : let s := st .nop
    ((List.range 384).all fun p => (s.way? 0 p).isSome && (s.way? 384 p).isSome && (s.way? p 0).isSome && (s.way? p 384).isSome) = true := by decide +kernel

/-- A plot that is asked to drop lines, and an acknowledgement that is awaited (InstructionInvalidation). -/
theorem witness_InstructionInvalidation : let s := { held (.icinv 3) [] with ev := { a := 7, b := 2 } }
    (tabFind s.groups s.ev.b).isSome = true ∧ (s.group 2).pgc = false ∧ (s.group 2).hold = some (.icinv 3) ∧ s.inService 383 = true ∧
    ready (.icinv 1 2) (un (.icinv 1 2)) (st (.icinv 1 2)) = true ∧ ready .icinvAll (un .icinvAll) (st .icinvAll) = true := by decide +kernel

/-! ## Witnesses: special registers, traps -/

/-- A scoped register read by a PGC, one by a group, FQPOP with nothing queued, and each register that `swr` writes (SpecialRegisters). -/
theorem witness_SpecialRegisters :
    (ready (.srd 3 7) (un (.srd 3 7)) (st (.srd 3 7)) && ready (.srd 3 5) (unP (.srd 3 5)) (stP (.srd 3 5)) && ready (.srd 3 0x100) (unP (.srd 3 0x100)) (stP (.srd 3 0x100)) &&
      ready (.swr 1 0x013) (un (.swr 1 0x013)) (st (.swr 1 0x013)) && ready (.swr 1 0x104) (unP (.swr 1 0x104)) (stP (.swr 1 0x104)) &&
      ready (.swr 1 0x106) (unP (.swr 1 0x106)) (stP (.swr 1 0x106)) && ready (.swr 1 0x101) (unP (.swr 1 0x101)) (stP (.swr 1 0x101)) &&
      ready (.swr 1 0x102) (unP (.swr 1 0x102)) (stP (.swr 1 0x102)) && ready (.mark 1 5) (un (.mark 1 5)) (st (.mark 1 5))) = true ∧
    (stP (.srd 3 0x100)).pgc.fq = [] ∧ srScoped 5 = true ∧ (un (.srd 3 7)).g.pgc = false ∧ (un (.srd 3 7)).g.plot < 384 ∧
    ([0x000, 0x015, 0x020, 0x082, 0x084, 0x0C1, 0x0C3].all fun n => (Claims.groupRegister (st .nop) (un .nop) n).isSome) = true := by decide +kernel

/-- Words that fail: a field, the mode, a tag (FailedChecksTrap). -/
theorem witness_FailedChecksTrap :
    (encode (.sun 3 1 9) ≠ [] ∧ (st (.sun 3 1 9)).issuer? = some (un (.sun 3 1 9)) ∧ checks (.sun 3 1 9) (un (.sun 3 1 9)) (st (.sun 3 1 9)) = some { cls := 1, cause := 3 }) ∧
    ([Instr.tlbiDevice 0 1 2, .leaseReturn 3 1, .swr 1 0x104, .srd 3 0x100, .srd 3 0x1FF].all fun i => privBad (st i) (un i) i &&
      decide ((un i).flagOf i ≠ some 15) && !isTransfer i) = true ∧
    ([Instr.tlbiDevice 0 1 2, .leaseReturn 3 1, .swr 1 0x104, .srd 3 0x100, .tresKill 3 1].all fun i => decide (fieldCause (un i) i = none)) = true ∧
    (un .nop).g.pgc = false ∧ tm.admin = false ∧ ((stT (.tresKill 3 1) fun t => { t with trapRec := none }).team 5).trapRec = none ∧
    privBad (stT (.tresKill 3 1) fun t => { t with trapRec := none }) (un (.tresKill 3 1)) (.tresKill 3 1) = true ∧
    ([Instr.radd 3 1 2, .raddi 3 1 0, .rbase 3 1, .ofree 1, .oreset 1, .ostat 3 1, .pub 1 16 0 0 0].all fun i => !((un i).sreg 1).tag && decide (fieldCause (un i) i = none) &&
      decide ((un i).flagOf i ≠ some 15) && !privBad (st i) (un i) i && !regsWait (st i) (un i) i) = true := by decide +kernel
/-- An XPFX at a clause's end, before a lane word that decode refuses and before a uniform word, and a word that no PGC runs (FailedChecksTrap). -/
theorem witness_badCause : (match decode [(0x00000000#32 : Word)] with | .error _ => true | .ok _ => false) = true ∧ (0x00000000#32 : Word).getLsbD 31 = false ∧
    (0xBBFC0000#32 : Word).getLsbD 31 = true ∧ (clauseOf [0xFF004701#32, 0x00000000#32]).words[1]? = some 0x00000000#32 ∧
    (clauseOf [0xFF004701#32]).words[1]? = none ∧ pgcIllegalWord 0x01400080#32 = true ∧ pgcIllegalWord 0xBBFC0000#32 = false := by decide

/-- A context with a trap area that a page maps (TrapTaken, TrapsByWord). -/
def trapS (i : Instr) : State := (mapGib 0 (st i)).modCtx 0 (fun x => { x with trapArea := 0x8000, handler := 0x30000 })
theorem witness_TrapTaken : let s := trapS .nop
    (tabFind s.groups 2).isSome = true ∧ (s.team 5).depth ≠ 3 ∧ (s.ctx 0).trace = false ∧ trapSlot (s.ctx 0) = some 0 ∧ (s.ctx 0).traps = [] ∧
    (match (s.translateWalk 0 ((s.ctx 0).trapArea.toNat + 64 * 0) .write).2 with | .ok _ _ => true | _ => false) = true ∧ (s.ctx 0).waitTraps = [] ∧ s.pgc.moving = [] := by
  decide +kernel
theorem witness_FramesAtRest : Claims.FramesAtRest (trapS .nop) := framesAtRest_of (by decide +kernel)
def debugged (i : Instr) : State := { trapS i with regs := { (trapS i).regs with dbgOwn := 1 } }
theorem witness_TrapsByWord : ready (.trap 5) (un (.trap 5)) (trapS (.trap 5)) = true ∧ ready (.brk 5) (un (.brk 5)) (trapS (.brk 5)) = true ∧
    (trapS (.brk 5)).regs.dbgOwn.getLsbD 0 = false ∧ ready (.brk 5) (un (.brk 5)) (debugged (.brk 5)) = true ∧ (debugged (.brk 5)).regs.dbgOwn.getLsbD 0 = true ∧
    (un (.brk 5)).g.pgc = false := by decide +kernel

/-- A trap of group 2 that a handler may resolve: its record, found through TRAPREC, of a word and of a logged operation (TrapResolution). -/
def trappedS (i : Instr) : State :=
  let s := (trapS i).deliver 0 (some 2) 5 { cls := 18, cause := 5 } 15 0 0x10000
  { s with agenda := [], groups := tabPut s.groups 2 { s.group 2 with s := tabPut sregs 5 { val := 0x8000 } } }
def trappedU (i : Instr) : Issuer := { gid := 2, g := (trappedS i).group 2, c := clauseOf (encode i) }
theorem witness_TrapResolution : let i : Instr := .tresReplay 3 5; let s := trappedS i; let u := trappedU i
    ready i u s = true ∧ (tabFind (s.tres u (u.sreg 5) 0).1.groups 2).isSome = true ∧ (s.tresRead u (u.sreg 5)).2 = some (0, 0) ∧
    ((s.tresRead u (u.sreg 5)).1.ctx 0).traps.map (fun t => (t.seq, t.gid, t.logslot)) = [(0, some 2, 15)] ∧
    ((s.tresRead u (u.sreg 5)).1.group 2).queuedTres = [] ∧ (s.tresRead u (u.sreg 1)).2 = none ∧
    ready (.tresSkip 3 5) (trappedU (.tresSkip 3 5)) (trappedS (.tresSkip 3 5)) = true ∧
    ready (.tresKill 3 5) (trappedU (.tresKill 3 5)) (trappedS (.tresKill 3 5)) = true := by decide +kernel
theorem witness_TrapResolution_logged : let r : TrapRec := { seq := 0, slot := 0, gid := some 2, team := 5, logslot := 0, cls := 4, data := 0 }
    let s := stG .nop fun g => { g with log := [(0, { op := 9, st := .trapped, order := 1 })] }
    r.gid = some 2 ∧ r.logslot < 8 ∧ (tabFind (s.group 2).log r.logslot).isSome = true := by decide +kernel

/-! ## Witnesses: objects, hints, the Sieve -/

/-- A group held by an operation of its own. -/
def opS (o : MemOp) (h : Hold) (e : Ev) : State := { st .nop with
  ev := e, groups := tabPut State.reset.groups 2 { grp [] with clause := none, hold := some h, ops := [(9, o)] } }

/-- An object form at its completion; an `mwait` whose word is equal and one whose word differs, awake and timed out; a timeout that has been replaced
(HeldFormsEnd). -/
def initS : State := opS { word := .oinit 3 5 6, sres := some { val := 7, tag := true, base := 7 }, st := .performed } (.objForm 9) { a := 2, b := 9 }
/-- An operation of its own that waits for its completion. -/
def plainOp (o : MemOp) : Bool := decide (o.fwd = none) && decide (o.dropped = []) && decide (o.res = []) && decide (o.flag = none) && !isLane o.word
def heldOp (s : State) : MemOp := (tabFind (s.group 2).ops 9).getD {}
theorem witness_objectForm : initS.ev = { a := 2, b := 9 } ∧ tabFind (initS.group 2).ops 9 = some (heldOp initS) ∧ plainOp (heldOp initS) = true ∧
    (heldOp initS).sres.isSome = true ∧ uniDest (heldOp initS).word = some 3 ∧ (initS.group 2).hold.isSome = true := by decide +kernel
def waitS (v : DWord) (next : Nat) : State :=
  opS { word := .mwait 3 4 0, st := .performed, src := [{ val := v }, { val := sharedWindow }] } (.mwait 3 sharedWindow none true next 77) { a := 2 }
theorem witness_mwait : ([waitS 5 0, waitS 0 0].all fun s => let o := heldOp s
    decide (s.mwaitOp 2 = some (9, o)) && decide (o.word = .mwait 3 4 0) && decide (o.st = .performed) && plainOp o && decide (o.uniAddr = sharedWindow) &&
    decide (tabFind (s.group 2).ops 9 = some o) && decide (s.checkElem 2 o.ref o.uniAddr 8 .read none false = (s, none, .sh 0)) &&
    decide ((s.group 2).halted = false ∧ (s.group 2).loc = .active ∧ (s.group 2).pgc = false ∧ s.pgc.moving = [])) = true ∧
    BitVec.ofNat 64 (bytesNat ((waitS 5 0).loadElem 2 sharedWindow (.sh 0) 8)) ≠ (heldOp (waitS 5 0)).base.val ∧
    BitVec.ofNat 64 (bytesNat ((waitS 0 0).loadElem 2 sharedWindow (.sh 0) 8)) = (heldOp (waitS 0 0)).base.val ∧
    ((waitS 5 1).group 2).hold.isSome = true ∧ (waitS 5 1).cycle < 1 := by decide +kernel

/-- Headers of every state and scope (ObjectHeaders); `pub` at its issue, in the queue with a walker free and with none, and at the end of a walk (Publication). -/
theorem witness_ObjectHeaders : tm.serial < 2 ^ 24 ∧ (3 : Nat) < 4 ∧ (Claims.fields (BitVec.ofNat 64 (2 ^ 62 + 3 * 2 ^ 60 + 7 * 2 ^ 36 + 4 * 2 ^ 16 + 9))) =
    { state := 1, scope := 3, owner := 7, size := 4, cls := 9 } := by decide
theorem witness_pub : Issues (.pub 5 16 0 0 0) (un (.pub 5 16 0 0 0)) (st (.pub 5 16 0 0 0)) ∧ ((st (.pub 5 16 0 0 0)).die 0).pubQueue = [] :=
  ⟨issues_all witness_controlWords_ready _ (by decide), by decide⟩
def gleanS (q : List (Nat × Nat)) (w : List (Nat × Nat × Nat)) (left : Nat) (e : Ev) : State :=
  let s := opS { word := .pub 5 16 0 0 0, left := left, st := .performed, flag := some 0, src := [{ val := 0x100000, tag := true, base := 0x100000 }, { val := 0x10000 }] } (.pubWalk 9) e
  { s with dies := [(0, { s.die 0 with pubQueue := q, walkers := w })] }
theorem witness_Publication : ((gleanS [] [] 0 {}).die 0).pubQueue = [] ∧ ((gleanS [(2, 9)] [] 1 {}).die 0).pubQueue = [(2, 9)] ∧
    ((tabFind ((gleanS [(2, 9)] [] 1 {}).group 2).ops 9).map (fun o => o.left)) = some 1 ∧
    ((gleanS [(2, 9)] [(2, 1, 0), (2, 2, 1), (2, 3, 2), (2, 4, 3)] 1 {}).die 0).walkers.length = 4 ∧ ((gleanS [(2, 9)] [(2, 1, 0), (2, 2, 1), (2, 3, 2)] 1 {}).die 0).walkers.length < 4 := by
  decide
def walkS : State := (mapGib 2 (gleanS [] [(2, 9, 1)] 1 { a := 0, b := 9, flag := true })).storeMem 0x40100000 (natBytes 8 (2 ^ 62 + 2 ^ 36 + 4 * 2 ^ 16))
theorem witness_walkEnds : let s := walkS; let o := (tabFind (s.group 2).ops 9).getD {}
    s.ev.flag = true ∧ s.ev.v = 0 ∧ s.walkWait (s.group 2) (s.pubWalk (s.group 2) o) = 0 ∧ (s.die 0).walkers.find? (fun e => decide (e.2.1 = s.ev.b)) = some (2, 9, 1) ∧ tabFind (s.group 2).ops 9 = some o ∧
    let s1 := s.walked (s.group 2) 1 (s.pubWalk (s.group 2) o)
    (s1.pubWalk (s.group 2) o).poison = false ∧ (s1.pubWalk (s.group 2) o).fail = none ∧ (s1.pubWalk (s.group 2) o).marked ≠ [] ∧
    (s.group 2).hold = some (.pubWalk 9) ∧ (s.team (s.group 2).team).paired = false ∧ s.eccErrors = [] := by
  decide +kernel

/-- The store of a reference whose commit is done, to a page of host memory (Publication). -/
def refS : State :=
  (mapGib 0 (opS { word := .pub 5 16 0 0 0, left := 4, flag := some 0, src := [{ val := 0x100000, tag := true, base := 0x100000 }, { val := 0x20000 }] } (.pubWalk 9)
    { a := 2, b := 9, v := 1 })).writeMem 0x102000 (natBytes 8 (0x18007B + 2 ^ 14 + 16384 * 2 ^ 21))
theorem witness_pubStore : (let o := (tabFind (refS.group 2).ops 9).getD {}
    (match refS.pubCheck 2 o with
     | (m, none, .mem dpa pte) => decide (m.groups = refS.groups ∧ m.blockWait dpa = none ∧ dpa % 8 = 0) && !m.deadAt (m.phys dpa) && !cacheable dpa pte
     | _ => false) && decide (o.st = .issued ∧ o.fwd = none ∧ o.res = [] ∧ o.sres = none ∧ o.dropped = []) && !refS.opMoving 2 o) = true ∧
    refS.ev = { a := 2, b := 9, v := 1 } ∧ (refS.group 2).pgc = false ∧ (refS.group 2).hold.isSome = true ∧ (tabFind (refS.group 2).ops 9).isSome = true := by decide +kernel

/-- The object forms on an object of two blocks whose line the plot may write (ObjectsWritten). -/
def objM (i : Instr) : State :=
  let s := mapGib 2 (st i)
  let s := performing i { s with groups := tabPut s.groups 2 { grp (encode i) with s := tabPut sregs 6 { val := 0x20009 } } } 2
  let s := s.storeMem 0x40100000 (natBytes 8 (2 ^ 62 + 2 ^ 36 + 2 * 2 ^ 16 + 9))
  let s := s.l1Set (s.l1Home 0 0x40100000) 0x40100000 512 .m
  (s.objBlock (s.group 2) 0x100000 .write).1
def objOp (s : State) : MemOp := (tabFind (s.group s.ev.a).ops s.ev.b).getD {}
def objDpa (i : Nat) : Nat := 0x40100000 + 64 * i
def objPte (s : State) (i : Nat) : Nat := (s.objBlock (s.group 2) (0x100000 + 64 * i) .write).2.2.2
def objReady (s : State) : Bool :=
  let o := objOp s; let g := s.group 2
  decide (s.ev = { a := 2, b := s.ev.b }) && decide (tabFind s.groups 2 = some g) && decide (tabFind g.ops s.ev.b = some o) &&
  decide (o.st = .issued ∧ s.behindEarlier 2 s.ev.b o = false ∧ s.opMoving 2 o = false ∧ s.shareAway 2 o = false ∧ s.fillsWait 2 o = 0) && !g.pgc &&
  (List.range 2).all (fun i => decide (s.objBlock g (0x100000 + 64 * i) .write = (s, none, objDpa i, objPte s i)) && !s.deadAt (s.phys (objDpa i)) &&
    decide (s.l1State (s.l1Home g.plot (objDpa i)) (objDpa i) = some .m)) &&
  decide (s.phys (objDpa 0) / 64 ≠ s.phys (objDpa 1) / 64) && decide (s.poison = [] ∧ s.eccErrors = [] ∧ s.l2Errors = [])
theorem performsObject_of {s : State} (h : objReady s = true) :
    Claims.PerformsObject s 2 s.ev.b (s.group 2) (objOp s) 0x100000 2 objDpa (objPte s) := by
  simp only [objReady, Bool.and_eq_true, decide_eq_true_eq, Bool.not_eq_true', List.all_eq_true, List.mem_range] at h
  obtain ⟨⟨⟨⟨⟨⟨⟨h1, h2⟩, h3⟩, h4⟩, h5⟩, h6⟩, h7⟩, h8⟩ := h
  refine ⟨h1, h2, h3, h4, h5, by decide, fun i hi => ?_, fun i j hi hj ne => ?_, h8⟩
  · obtain ⟨⟨a, b⟩, c⟩ := h6 i hi
    exact ⟨a, by simp only [objDpa]; omega, b, .inr c⟩
  · have : i = 0 ∧ j = 1 ∨ i = 1 ∧ j = 0 := by omega
    rcases this with ⟨rfl, rfl⟩ | ⟨rfl, rfl⟩
    · exact h7
    · exact Ne.symm h7
theorem witness_ObjectsWritten : ([Instr.oinit 3 5 6, .ofree 5, .oreset 5].all fun i => objReady (objM i) && decide ((objOp (objM i)).sres = none) &&
      decide ((objOp (objM i)).base.val.toNat = 0x100000 ∧ (objOp (objM i)).word = i)) = true ∧
    (let f := Claims.fields (BitVec.ofNat 64 (2 ^ 62 + 2 ^ 36 + 2 * 2 ^ 16 + 9)); f.state = 1 ∧ f.owner = tm.serial ∧ f.size = 2) ∧
    ((objOp (objM (.oinit 3 5 6))).src.getD 1 {}).val.extractLsb' 16 20 = 2 ∧ tabFind (objM (.ofree 5)).teams 5 = some tm ∧
    bytesNat ((List.range 8).map (fun k => (objM (.ofree 5)).readByte (objDpa 0 + k))) = 2 ^ 62 + 2 ^ 36 + 2 * 2 ^ 16 + 9 := by decide +kernel

/-- A hint block that breaks a rule, and one that names four pages and none ahead, read from the share (Hints). -/
def hintS (b : Nat := 0xFFFF) : State :=
  let s := { st .nop with
    ev := { a := 2, b := 9 }, teams := [(5, { tm with shmem := (List.range 64).map (fun k => (k, BitVec.ofNat 8 (b / 2 ^ (8 * k)))) })]
    groups := tabPut State.reset.groups 2 { grp (encode .nop) with f := [(0, 1)], ops :=
      [(9, { word := .pfh 4 0, flag := some 0, src := [{ val := sharedWindow }] })] } }
  s
def goodHint : Nat := 0x40000 + 2 * 2 ^ 64 + 2 * 2 ^ 96 + 2 ^ 192 + 2 ^ 195 + 2 ^ 208
theorem witness_hintAccepted : Claims.hintAccepted (BitVec.ofNat 512 goodHint) ∧ (Claims.hintedPages (BitVec.ofNat 512 goodHint)).length = 4 ∧
    (let o := (tabFind ((hintS goodHint).group 2).ops 9).getD {}
     ((hintS goodHint).readBlock 2 o.base).2 = (none, some (BitVec.ofNat 512 goodHint)) ∧ (hintS goodHint).shareAway 2 o = false) := by
  unfold Claims.hintAccepted; decide +kernel
theorem witness_Hints : let s := hintS; let o := (tabFind (s.group 2).ops 9).getD {}
    s.ev = { a := 2, b := 9 } ∧ tabFind (s.group 2).ops 9 = some o ∧ o.st = .issued ∧ s.behindEarlier 2 9 o = false ∧ s.opMoving 2 o = false ∧ s.fillsWait 2 o = 0 ∧ o.word = .pfh 4 0 ∧
    (s.readBlock 2 o.base).2.1 = none ∧ (s.readBlock 2 o.base).2.2.map (fun b => hintOk b.toNat) = some false ∧ (s.readBlock 2 o.base).1.groups = s.groups ∧
    (s.group 2).pgc = false ∧ o.fwd = none ∧ o.res = [] ∧ o.sres = none ∧ o.dropped = [] ∧ (s.group 2).clause.isSome = true := by decide +kernel

/-- A Sieve of the team, of another team and of none; a pair that enters; a key that is NaN; a snapshot (SieveForms). -/
def sieveS (i : Instr) (v : Sieve) : State := { st i with plots := tabPut (st i).plots 0 { (st i).plot 0 with sieve := v } }
theorem witness_SieveForms :
    ([some 5, some 6, none].all fun t => ready (.svinit 3 8 1 1) (un (.svinit 3 8 1 1)) (sieveS (.svinit 3 8 1 1) { team := t }) &&
      ready (.svinitFree 3) (un (.svinitFree 3)) (sieveS (.svinitFree 3) { team := t })) = true ∧
    ready (.vsieve 0 16) (un (.vsieve 0 16)) (st (.vsieve 0 16)) = true ∧
    ((sieveS .nop { team := some 5, k := 2, queue := [(1, 2, 0)] }).plot 0).sieve.queue = [(1, 2, 0)] ∧ (0 : Nat) ≤ (st .nop).cycle ∧ ((sieveS .nop { team := some 5, k := 2, queue := [(1, 2, 0)] }).plot 0).savedSieves = [] ∧
    (unpack f32 (0x7FC00000#32).toNat).isNan = true ∧ (unpack f32 (0x3F800000#32).toNat).isNan = false ∧
    [((0 : Word), (0 : Word)), (1, 1)].Pairwise (fun a b => pairBefore true false a b = true) ∧
    (tabFind ((opS { word := .svget 3 4 1 0 } (.until 9) { a := 2, b := 9 }).group 2).ops 9).isSome = true := by decide +kernel

/-! ## Witnesses: copies -/

/-- Copy words of a team that is not paired; a `cpyq` of 64 commands, of none and of 65 (CopyWordsIssue). -/
def cpyqS (n : DWord) : State := { st (.cpyq 3 4 1 0) with groups := tabPut State.reset.groups 2 { grp (encode (.cpyq 3 4 1 0)) with s := tabPut sregs 1 { val := n } } }
def cpyqU (n : DWord) : Issuer := { gid := 2, g := { grp (encode (.cpyq 3 4 1 0)) with s := tabPut sregs 1 { val := n } }, c := clauseOf (encode (.cpyq 3 4 1 0)) }
theorem witness_CopyWordsIssue : ([0, 1, 64, 65].all fun n => ready (.cpyq 3 4 1 0) (cpyqU n) (cpyqS n)) = true ∧
    (Claims.submits (cpyqU 64) (cpyqS 64) (.cpyq 3 4 1 0)).isSome = true ∧ Claims.submits (cpyqU 65) (cpyqS 65) (.cpyq 3 4 1 0) = none ∧
    (Claims.submits (un (.cpy 3 4 0)) (st (.cpy 3 4 0)) (.cpy 3 4 0)).isSome = true ∧
    (Claims.submits (un (.cpyCe 3 4 1 0)) (st (.cpyCe 3 4 1 0)) (.cpyCe 3 4 1 0)).isSome = true := by decide +kernel

/-- A COPY of 8 bytes inside the share, FILL and REDUCE likewise: source at 0x40, destination at 0x80. -/
def cmdBlk (kind n : Nat) : BitVec 512 :=
  BitVec.ofNat 512 (kind + n * 2 ^ 160 + (sharedWindow.toNat + 0x40) * 2 ^ 192 + (sharedWindow.toNat + 0x80) * 2 ^ 256 + 0x0102030405060708 * 2 ^ 320)
def cmd (kind : Nat) (x : CmdState) : Cmd := { gid := 2, team := 5, ctx := 0, plot := 0, op := 9, blk := cmdBlk kind 8, st := x, started := true }
def cmdS (c : Cmd) (busy : Option Nat) : State := { st .nop with
  ev := { a := 0, b := 20 }, cmds := [(20, c)], ces := [(0, { queue := [20], busy := busy })], teams := [(5, { tm with shmem := (List.range 8).map (fun k => (0x40 + k, BitVec.ofNat 8 (k + 1))) })]
  groups := tabPut State.reset.groups 2 { grp (encode .nop) with f := [(0, 1)], ops := [(9, { word := .cpy 3 4 0, flag := some 0, left := 1, st := .performed })] } }
/-- A GATHER or SCATTER of the 4-byte element that the word at 0x20 of the share names, and a CONVERT of the granule at 0x40 from FP32 to BF16, FP32 and from BF16 to
FP8, at 0x80 (ElementsMove). -/
def elemBlk (kind : Nat) : BitVec 512 :=
  BitVec.ofNat 512 (kind + 2 * 2 ^ 24 + 2 ^ 160 + (sharedWindow.toNat + 0x40) * 2 ^ 192 + (sharedWindow.toNat + 0x80) * 2 ^ 256 + (sharedWindow.toNat + 0x20) * 2 ^ 320)
def convBlk (sf cf : Nat) : BitVec 512 :=
  BitVec.ofNat 512 (2 + cf * 2 ^ 128 + sf * 2 ^ 136 + 64 * 2 ^ 160 + (sharedWindow.toNat + 0x40) * 2 ^ 192 + (sharedWindow.toNat + 0x80) * 2 ^ 256)
def elemS (b : BitVec 512) : State :=
  let s := cmdS { cmd 0 .running with blk := b } (some 20)
  { s with ev := { a := 0 }, teams := [(5, { tm with shmem := (0x20, 3) :: (List.range 64).map (fun k => (0x40 + k, BitVec.ofNat 8 (k + 1))) })] }
theorem witness_ElementsMove : ([3, 4].all fun k => let b := (elemBlk k).toNat; let s := elemS (elemBlk k)
    decide ((s.ce 0).busy = some 20 ∧ cmKind b = k ∧ cmEszl b = 2 ∧ cmLen b = 1 ∧ cmCsum b = 0) &&
    decide (s.cmdSrc { cmd 0 .running with blk := elemBlk k } = sharedWindow.toNat + 0x40 ∧ s.cmdDst { cmd 0 .running with blk := elemBlk k } = sharedWindow.toNat + 0x80 ∧
      cmAux b = sharedWindow.toNat + 0x20 ∧ (cmd 0 .running).replica = false ∧ 0x80 + 16 ≤ 4096 * (s.team 5).shared)) = true ∧
    ([(0x18, 0x10), (0x18, 0x18), (0x10, 0x01)].all fun (e : Nat × Nat) => let b := (convBlk e.1 e.2).toNat
    decide (cmKind b = 2 ∧ cmLen b = 64 ∧ cmEgc b = false ∧ cmFrag b = false ∧ cmCsum b = 0 ∧ cmSfmt b ≠ 0) && (fmtClass (cmSfmt b)).isSome && (fmtClass (cmCfmt b)).isSome) = true := by
  decide +kernel
/-- The plot's queue of commands that wait for their locks. -/
def lockS (c : Cmd) (held : Nat) (w : List RangeWait) : State :=
  { cmdS c none with plots := tabPut (st .nop).plots 0 { (st .nop).plot 0 with rlt := List.replicate held { ctx := 0, lo := 0, hi := 0, reads := false, owner := 1 }, waiting := w } }
def oneWait : RangeWait := { owner := 20, ranges := [{ ctx := 0, lo := 0, hi := 7, reads := false, owner := 20 }, { ctx := 0, lo := 8, hi := 15, reads := true, owner := 20 }] }
/-- Locks that fit exactly and that do not; a locked command; an idle and a busy engine (CommandsAdvance). -/
theorem witness_CommandsAdvance : ((lockS (cmd 0 .reading) 46 [oneWait]).plot 0).rlt.length + oneWait.ranges.length = 48 ∧
    ((lockS (cmd 0 .reading) 47 [oneWait]).plot 0).rlt.length + oneWait.ranges.length = 49 ∧ ((lockS (cmd 0 .reading) 0 []).plot 0).waiting = [] ∧
    ((lockS (cmd 0 .reading) 46 [oneWait]).plot 0).waiting = [oneWait] ∧ tabFind (cmdS (cmd 0 .reading) none).cmds 20 = some (cmd 0 .reading) ∧
    (cmd 0 .locked).st = .locked ∧ (cmd 0 .locked).status = 0 ∧ (cmd 0 .locked).plot = 0 ∧ cmDtile (cmd 0 .locked).blk.toNat = 0 ∧ cmStile (cmd 0 .locked).blk.toNat = 0 ∧
    ((cmdS (cmd 0 .queued) (some 20)).ce 0).busy.isSome = true ∧ ({ cmdS (cmd 0 .queued) none with ces := [] }).cePick 0 = none ∧
    ((cmdS (cmd 0 .queued) none).ce 0).busy = none ∧ ((cmdS (cmd 0 .queued) none).cePick 0).map (fun x => x.2.1) = some 20 ∧ (cmd 0 .queued).started = true := by
  decide +kernel
theorem witness_CommandsMove : ([0, 1, 5].all fun k => let c := cmd k .running; let s := cmdS c (some 20)
    decide ((s.ce 0).busy = some 20) && decide (cmKind c.blk.toNat = k) && decide (cmLen c.blk.toNat = 8) && decide (cmCsum c.blk.toNat = 0) && !cmA96 c.blk.toNat &&
    decide (c.pos = 0 ∧ c.skip = 0) && decide (s.cmdSrc c = sharedWindow.toNat + 0x40) && decide (s.cmdDst c = sharedWindow.toNat + 0x80) && (s.team 5).live &&
    decide (0x80 + 8 ≤ 4096 * (s.team 5).shared)) = true ∧ (0x40 % 64 + 8 ≤ 64 ∧ 4096 * tm.shared < 2 ^ 32) := by decide +kernel
theorem witness_CommandsComplete : let s := cmdS (cmd 0 .finished) none
    s.ev.b = 20 ∧ cmSigen (cmd 0 .finished).blk.toNat = false ∧ cmCsum (cmd 0 .finished).blk.toNat = 0 ∧ (cmd 0 .finished).batch = false ∧ (cmd 0 .finished).tiles = false ∧
    (s.ctx 0).trace = false ∧ ((tabFind (s.group 2).ops 9).map fun o => decide (o.left = 1 ∧ o.status = 0 ∧ o.fwd = none ∧ o.dropped = [] ∧ o.res = [] ∧ isLane o.word = false ∧
      uniDest o.word = some 3)) = some true ∧ (s.group 2).clause.isSome = true ∧
    ((cmdS (cmd 0 .peer) none).ce 0).queue = [20] ∧ tabFind (cmdS (cmd 0 .peer) none).cmds 20 = some (cmd 0 .peer) ∧ (cmd 0 .peer).st = .peer ∧
    (cmd 0 .peer).ce = 0 ∧ (20 : DWord).toNat = 20 := by decide +kernel

/-! ## Witnesses: the matrix engine -/

/-- The quad of plot 0. -/
def quadS (i : Instr) (q : Quad) : State := { st i with quads := [(0, q)] }
def slot0 : AccSlot := { team := 5, tr := 1, tc := 1, unit := 0 }
/-- A matrix word that waits for its result. -/
def mxS (w : Instr) (o : MemOp) (q : Quad) (e : Ev) : State := { quadS .nop q with
  ev := e, groups := tabPut State.reset.groups 2 { grp (encode .nop) with f := [(0, 1)], ops := [(9, { o with word := w, flag := some 0 })] } }
theorem plainOp_of {s : State} {g : Group} {o : MemOp} {d : Nat} (h1 : tabFind s.groups 2 = some g) (h2 : tabFind g.ops 9 = some o)
    (h : (decide (o.fwd = none) && decide (o.dropped = []) && decide (o.res = []) && !isLane o.word && decide (uniDest o.word = some d) && g.clause.isSome) = true) :
    Claims.PlainOp s 2 9 g o d := by
  simp only [Bool.and_eq_true, decide_eq_true_eq, Bool.not_eq_true'] at h
  exact ⟨h1, h2, h.1.1.1.1.1, h.1.1.1.1.2, h.1.1.1.2, h.1.1.2, h.1.2, .inr (.inl h.2)⟩

/-- The define form with an owned slot, with a free run and with none; the slot forms issue (MatrixSlots). -/
def defS (q : Quad) : State := mxS (.mxzDefine 3 0 1 0) { src := [{ val := 0 }] } q { a := 2, b := 9 }
def fullQuad : Quad := { slots := [(0, { slot0 with tr := 8, tc := 4 })] }
theorem witness_PlainOp : ∀ q, Claims.PlainOp (defS q) 2 9 ((defS q).group 2) ((tabFind ((defS q).group 2).ops 9).getD {}) 3 :=
  fun _ => plainOp_of rfl rfl rfl
theorem witness_MatrixSlots : (defS {}).ev = { a := 2, b := 9 } ∧
    (tabFind ({ slots := [(1, slot0)] } : Quad).slots 1).isSome = true ∧ tabFind ({ slots := [(0, slot0)] } : Quad).slots 1 = none ∧
    ready (.mxzClr 3 0 0) (un (.mxzClr 3 0 0)) (st (.mxzClr 3 0 0)) = true ∧ ready (.mxzFree 3 0 0) (un (.mxzFree 3 0 0)) (st (.mxzFree 3 0 0)) = true := by
  decide +kernel
theorem witness_unitsFree : Claims.unitsFree { slots := [(0, slot0)] } 1 1 ∧ (∀ v, v < 1 → ¬ Claims.unitsFree { slots := [(0, slot0)] } v 1) ∧
    (∀ u, ¬ Claims.unitsFree fullQuad u 1) := by
  refine ⟨⟨by decide, by decide⟩, fun v hv h => ?_, fun u h => ?_⟩
  · have := h.2 (0, slot0) (by simp); simp [slot0] at this; omega
  · have := h.2 (0, { slot0 with tr := 8, tc := 4 }) (by simp [fullQuad]); simp [slot0] at this; have := h.1; omega

/-- The clr and the free form at their completion, 16 cycles after their issue (MatrixSlots). -/
theorem witness_slotForms : ∀ w ∈ ([Instr.mxzClr 3 0 0, .mxzFree 3 0 0] : List Instr), Claims.PlainOp (mxS w {} {} { a := 2, b := 9 }) 2 9
    ((mxS w {} {} { a := 2, b := 9 }).group 2) ((tabFind ((mxS w {} {} { a := 2, b := 9 }).group 2).ops 9).getD {}) 3 := by
  intro w hw; simp only [List.mem_cons, List.not_mem_nil, or_false] at hw
  rcases hw with rfl | rfl <;> exact plainOp_of rfl rfl rfl
theorem witness_slotForms_alone : ([Instr.mxzClr 3 0 0, .mxzFree 3 0 0].all fun i => ready i (un i) (st i) && !((st i).uTeam (un i)).paired &&
    (tabFind ((st i).quad 0).slots 0).isSome) = true := by decide +kernel

/-- A pass at its issue, at its grant and at its completion; a broadcast that arrives (MatrixPasses). -/
def passBlk : BitVec 512 := 0x30000000020
def passReq (entry granted : Option Nat) : MxReq :=
  { drain := false, gid := 2, team := 5, op := 9, plot := 0, gslot := 0, entry := entry, granted := granted, blk := passBlk
    a := List.replicate 4 { desc := 0x7F08, data := 0x38383838 }, b := List.replicate 4 { desc := 0x7F08, data := 0x38383838 } }
def passS (st : SlotState) (r : List (Nat × MxReq)) : State := mxS (.mxp 12 0) {} { slots := [(0, { slot0 with st := st })], resv := r } { a := 0, b := 7 }
theorem witness_MatrixPasses : ready (.mxp 12 0) (un (.mxp 12 0)) (st (.mxp 12 0)) = true ∧ mxSplit ((un (.mxp 12 0)).mxpBlock 12) = false ∧
    eligible ((passS .filling [(7, passReq (some 0) none)]).quad 0) (7, passReq (some 0) none) = false ∧
    eligible ((passS .ready [(7, passReq (some 0) none)]).quad 0) (7, passReq (some 0) none) = true ∧ ((passS .ready []).quad 0).arrayFree ≤ (passS .ready []).cycle ∧
    (passReq (some 0) (some 0)).asrc = none ∧ (passReq (some 0) (some 0)).part = none ∧ mxM passBlk.toNat ≤ 32 * slot0.tr ∧ mxN passBlk.toNat ≤ 32 * slot0.tc ∧
    ((tabFind ((passS .filling [(7, passReq (some 0) (some 0))]).group 2).ops 9).map fun o => decide (o.fwd = none ∧ o.res = [] ∧ o.sres = none)) = some true ∧
    slot0.team = (passReq none none).team ∧ ((passS .ready []).quad 0).resv = [] := by decide +kernel
/-- Two granules of the 8-bit class (PassArithmetic). -/
theorem witness_PassArithmetic : fmtClass (descFmt ({ desc := 0x7F08, data := 0x38383838 } : Granule).desc) = some 3 ∧
    fmtClass (descFmt ({ desc := 0x7F09, data := 0x38383838 } : Granule).desc) = some 3 := by decide

/-- A drain at its block check, at a row and at its end (MatrixDrains). -/
def drainBlk : BitVec 512 := BitVec.ofNat 512 (2 ^ 3 + 2 ^ 6 + 3 * 2 ^ 24 + 15 * 2 ^ 40 + 0x18 * 2 ^ 48)
def drainReq (entry : Option Nat) (row : Nat) : MxReq :=
  { drain := true, gid := 2, team := 5, op := 9, plot := 0, gslot := 0, entry := entry, granted := entry, blk := drainBlk, row := row }
def drainS (st : SlotState) (r : MxReq) (blk : BitVec 512) (e : Ev) : State :=
  let s := mxS (.mxd 3 4 0) { src := [{ val := sharedWindow }] } { slots := [(0, { slot0 with st := st, status := 5 })], resv := [(7, r)] } e
  { s with teams := [(5, { tm with shmem := (List.range 64).map (fun k => (k, BitVec.ofNat 8 (blk.toNat / 2 ^ (8 * k)))) })] }
theorem witness_MatrixDrains : let s := drainS .ready (drainReq none 0) drainBlk { a := 2, b := 9 }; let g := s.group 2; let o := (tabFind g.ops 9).getD {}
    let x := s.readBlock 2 o.base; let m1 := x.1.modOp 2 9 (fun y => { y with blk := drainBlk }); let y := m1.drainBlocks g drainBlk.toNat
    s.shareAway 2 o = false ∧ x.1.groups = s.groups ∧ m1.drainCheck g drainBlk.toNat = none ∧ drToReg drainBlk.toNat = true ∧
    o.st = .issued ∧ s.behindEarlier 2 9 o = false ∧ s.opMoving 2 o = false ∧ s.fillsWait 2 o = 0 ∧ (s.mxdEntry 0 9).isSome = true ∧ x.2 = (none, some drainBlk) ∧
    y.2.1 = none ∧ y.1.groups = m1.groups ∧ (y.1.mxdEntry 0 9).isSome = true := by decide +kernel
theorem witness_drain_row : let r := drainReq (some 0) 0; let s := drainS .draining r drainBlk { a := 0, b := 7 }
    tabFind (s.quad 0).resv 7 = some r ∧ (tabFind (s.quad 0).slots 0).isSome = true ∧ r.cut = false ∧ slot0.team = r.team ∧ s.eccErrors = [] ∧ s.drainPoisoned r = false ∧
    drToReg r.blk.toNat = true ∧ r.slot = 0 ∧ drM r.blk.toNat = 4 ∧ (drainReq (some 0) 3).row + 1 = 4 := by decide +kernel
theorem witness_drain_rest : Claims.FramesAtRest (drainS .draining (drainReq (some 0) 0) drainBlk { a := 0, b := 7 }) := framesAtRest_of (by decide +kernel)
/-- A drain to memory: a row of one granule at 0x40020000 (MatrixDrains). -/
def memBlk : BitVec 512 := BitVec.ofNat 512 (2 ^ 6 + 3 * 2 ^ 24 + 15 * 2 ^ 40 + 0x18 * 2 ^ 48 + 0x20000 * 2 ^ 64 + 64 * 2 ^ 128)
def memDrain (row : Nat) : MxReq := { drainReq (some 0) row with blk := memBlk, xlat := (List.range 4).map fun k => (0x20000 / 64 + k, 0x40020000 + 64 * k) }
def memDrainS : State := mapGib 0 (drainS .draining (memDrain 1) memBlk { a := 0, b := 7 })
theorem witness_drain_memory : let r := memDrain 1; let s := memDrainS
    tabFind (s.quad 0).resv 7 = some r ∧ (tabFind (s.quad 0).slots r.slot).isSome = true ∧ r.cut = false ∧ slot0.team = r.team ∧ s.eccErrors = [] ∧ s.drainPoisoned r = false ∧
    drToReg r.blk.toNat = false ∧ drGrans r.blk.toNat = 1 ∧ restB s = true ∧
    (r.xlat.find? (fun y => decide (y.1 = drDst r.blk.toNat / 64 + r.row * (drPitch r.blk.toNat / 64) + 0))).map (fun y => y.2) = some (0x40020000 + 64) ∧
    (s.l2Line (0x40020000 + 64)).isNone = true := by decide +kernel
theorem witness_drain_end : let r := drainReq (some 0) 4; let s := drainS .draining r drainBlk { a := 0, b := 7 }
    tabFind (s.quad 0).resv 7 = some r ∧ r.out = [] ∧ (s.ctx (s.team r.team).ctx).trace = false ∧ drZero r.blk.toNat = true ∧
    drZero (BitVec.ofNat 512 (drainBlk.toNat - 2 ^ 6)).toNat = false := by decide +kernel
theorem witness_drain_PlainOp : let s := drainS .draining (drainReq (some 0) 4) drainBlk { a := 0, b := 7 }
    Claims.PlainOp s 2 9 (s.group 2) ((tabFind (s.group 2).ops 9).getD {}) 3 := plainOp_of rfl rfl rfl

/-! ## Witnesses: launches, placement, commits, pairs -/

/-- A launch block of one cluster of one team with one group of two rows, and one that asks for no cluster in x (Launches). -/
def launchBlk : Nat := 2 ^ 64 + 2 ^ 80 + 2 ^ 96 + 2 * 2 ^ 118 + 0x20000
def launchS (b : Nat) : State :=
  let s := mxS (.launch 3 4 0 2) { src := [{ val := sharedWindow }] } {} { a := 2, b := 9 }
  { s with teams := [(5, { tm with shmem := (List.range 64).map (fun k => (k, BitVec.ofNat 8 (b / 2 ^ (8 * k)))) })] }
theorem witness_Launches : ([(launchBlk, 0), (launchBlk - 2 ^ 64, 3)].all fun (e : Nat × Nat) => let s := launchS e.1; let o := (tabFind (s.group 2).ops 9).getD {}
    decide (o.word = .launch 3 4 0 2) && decide (o.st = .issued) && !s.behindEarlier 2 9 o && !s.opMoving 2 o && decide (s.fillsWait 2 o = 0) && decide (queueFill (s.ctx 0) 2 < 256) &&
    decide ((s.readBlock 2 o.base).2 = (none, some (BitVec.ofNat 512 e.1))) && decide ((s.readBlock 2 o.base).1.groups = s.groups) &&
    decide (launchCode ((s.readBlock 2 o.base).1.ctx 0) 0 1 e.1 = e.2)) = true := by decide +kernel
theorem witness_launch_PlainOp : ∀ b, Claims.PlainOp (launchS b) 2 9 ((launchS b).group 2) ((tabFind ((launchS b).group 2).ops 9).getD {}) 3 :=
  fun _ => plainOp_of rfl rfl rfl
def bellS (en done : Bool) (v : DWord) : State :=
  let s := (mapGib 0 (st .nop)).modCtx 0 (fun x => { x with en := en, rootDone := done })
  { s.storeMem (0x40000000 + 0x40000) (natBytes 64 launchBlk) with ev := { a := 0, v := v } }
theorem witness_doorbell : ((bellS false false 0x40000).ctx 0).en = false ∧ ((bellS true true 0x40000).ctx 0).rootDone = true ∧
    ((bellS true false 0x40001).ctx 0).rootDone = false ∧ (0x40001 : DWord).toNat % 64 ≠ 0 ∧ 2 ^ 57 ≤ (0x0200000000000000 : DWord).toNat ∧ (0x40000 : DWord).toNat % 64 = 0 ∧
    ((bellS true false 0x40000).ctx 0).busy = false ∧ (bellS true false 0x40000).isMoving 0 0x40000 = false ∧
    (match (bellS true false 0x40000).translateWalk 0 0x40000 .read with
      | (m, .ok dpa _) => decide (m.ctxs = (bellS true false 0x40000).ctxs) && decide (launchCode (m.ctx 0) 0 1 (m.readNat dpa 64) = 0)
      | _ => false) = true := by decide +kernel

/-- A context whose launch can be placed, one with a handler team to place, and a team's groups (Placement). -/
def placeS : State := { st .nop with
  ctxs := [(0, { en := true, launches := [{ serial := 1, queue := 0, blk := BitVec.ofNat 512 launchBlk, plot := some 0 }], nextSerial := 2 })], placerLast := some 62 }
def handlerS : State := { st .nop with ev := { a := 0 }, ctxs := [(0, { en := true, traps := [{ seq := 0, slot := 0, gid := some 2, team := 5, logslot := 15, cls := 18, data := 0, written := true }] })] }
theorem witness_Placement : (placeS.placeTurn 0).isSome = true ∧ (placeS.roundOrder.findSome? (fun c => (placeS.placeTurn c).map (fun _ => c))) = some 0 ∧
    placeS.returnArenas = placeS ∧ handlerS.ev = { a := 0, b := 0 } ∧
    (let m := handlerS.modCtx 0 (fun x => { x with traps := x.traps.map (fun r => if r.seq = 0 then { r with ready := true } else r) })
     match (m.ctx 0).nextJob with
     | some (.handler r) => (m.placeHandler 0 r).isSome && decide (({ m with plots := (List.range 384).map (fun p => (p, { withheld := true })) } : State).placeHandler 0 r = none)
     | _ => false) = true ∧
    ((st .nop).ctx 0).nextJob = none ∧ (7 ≤ (freeSlots ((st .nop).plot 0) 0).length) := by decide +kernel

/-- A fence's commit at its point, and its last entry at its drain (Commits). -/
def fenceS (c : List Commit) (e : List CBEntry) (h : Option Hold) (ev : Ev) : State :=
  let s := mapGib 0 (st .nop)
  { s with ev := ev, agenda := [], teams := [(5, { tm with cb := e, commits := c })], groups := tabPut State.reset.groups 2 { grp (encode .nop) with hold := h } }
def oneEntry (c : Option Nat) : CBEntry := { blk := 0x20000 / 64, bytes := [(3, 7), (63, 0)], commit := c, sent := true }
theorem witness_commitPoint : let s := fenceS [] [oneEntry none] (some (.fence 0 2 true none)) { a := 5 }
    (s.team 5).groups = [2] ∧ (s.group 2).ops = [] ∧ (s.group 2).hold = some (.fence 0 2 true none) ∧ commitFor (s.team 5) 2 none = false ∧
    (tabFind s.teams 5).isSome = true ∧ (s.team 5).paired = false ∧ ((fenceS [] [] none { a := 5 }).group 2).hold = none := by decide +kernel
theorem witness_commitEntryDrain : let s := fenceS [{ id := 11, kind := .fence 2 2 }] [oneEntry (some 11)] (some (.fence 0 2 true none)) { a := 5, b := 0x20000 / 64 }
    (s.team 5).live = true ∧ (s.team 5).commits = [{ id := 11, kind := .fence 2 2 }] ∧ (s.team 5).cb = [oneEntry (some 11)] ∧ tabSorted (oneEntry (some 11)).bytes = true ∧
    s.pgc.moving = [] ∧
    (match s.translate (s.team 5).plot (s.team 5).ctx (0x20000 / 64 * 64) .write with
      | (m, .ok dpa pte) => !(m.eccMiss dpa).poisoned dpa && !isPool dpa && decide (dpa % 64 = 0) && decide (pteFmt pte = 0) && decide (m.teams = s.teams) &&
          decide (m.l2Errors = [] ∧ m.eccErrors = []) && !(isHbm m (m.phys dpa) && (m.frame (frameOf (m.phys dpa))).dead) && decide (m.blockWait dpa = none) && decide ((tabFind m.groups 2).bind (fun g => g.hold) = some (.fence 0 2 true none))
      | _ => false) = true ∧ ({ s with teams := [(5, { tm with live := false })] }.team 5).live = false := by decide +kernel

/-- An entry of a commit with two, on a plain page, and on an OBJ page with a tag; a whole block with its descriptor (Commits). -/
def twoS (fmt : Nat) (e : CBEntry) : State :=
  let s := mapGib fmt (fenceS [{ id := 11, kind := .fence 2 2 }] [e, { oneEntry (some 11) with blk := 0x20040 / 64 }] (some (.fence 0 2 true none)) { a := 5, b := 0x20000 / 64 })
  s.writeDesc 0x40020000 0x0F0040
theorem witness_commitDrain_two : ([(0, oneEntry (some 11)), (2, { oneEntry (some 11) with tags := 1 }), (0, { oneEntry (some 11) with bytes := (List.range 64).map (fun k => (k, 1)), desc := some 0x7F18 })].all
      fun (e : Nat × CBEntry) => let s := twoS e.1 e.2
        decide (e.2.sent = true ∧ tabSorted e.2.bytes = true ∧ s.pgc.moving = [] ∧ (s.team 5).live = true) && e.2.bytes.all (fun y => decide (y.1 < 64)) &&
        decide ((s.team 5).commits = [{ id := 11, kind := .fence 2 2 }] ∧ (s.team 5).cb.length = 2) &&
        decide ((s.team 5).cb.find? (fun y => decide (y.blk = 0x20000 / 64) && decide (y.commit = some 11) && !y.faulted) = some e.2) &&
        (match s.translate (s.team 5).plot (s.team 5).ctx 0x20000 (if e.2.desc.isSome then .fmtWrite else .write) with
          | (m, .ok dpa pte) => !(m.eccMiss dpa).poisoned dpa && !isPool dpa && !isHost dpa && decide (dpa % 64 = 0 ∧ pteFmt pte = e.1 ∧ m.teams = s.teams ∧ m.l2Errors = [] ∧ m.eccErrors = []) &&
              !(isHbm m (m.phys dpa) && (m.frame (frameOf (m.phys dpa))).dead) && decide (m.blockWait dpa = none) && decide ((m.readDesc dpa).setWidth 8 = 0x40#8)
          | _ => false)) = true := by decide +kernel

/-- An entry whose write has still to be sent, of a plot whose L1 holds the line. -/
theorem witness_commitEntrySend : let s0 := fenceS [{ id := 11, kind := .fence 2 2 }] [{ oneEntry (some 11) with sent := false }] (some (.fence 0 2 true none)) { a := 5, b := 0x20000 / 64 }
    let s := s0.l1Set (s0.l1Home 0 0x40020000) 0x40020000 512 .m
    (s.team 5).live = true ∧ (s.team 5).commits = [{ id := 11, kind := .fence 2 2 }] ∧ s.pgc.moving = [] ∧ ((s.team 5).cb.map fun e => e.sent) = [false] ∧
    (match s.translate (s.team 5).plot (s.team 5).ctx (0x20000 / 64 * 64) .write with
      | (m, .ok dpa _) => decide (m.teams = s.teams) && decide (m.eccErrors = []) && (m.l1State (m.l1Home 0 dpa) dpa).isSome
      | _ => false) = true := by decide +kernel

/-- Two twins at commit points of one kind and at different ones; a result on its way; two groups at matched words (PairedTeams). -/
def pairS (k1 k2 : CommitKind) (g1 g2 : List Word) : State := { st .nop with
  ev := { a := 5 }
  teams := [(5, { tm with paired := true, twin := some 6, primary := true, commits := [{ id := 11, kind := k1, unpaired := true }], cb := [oneEntry (some 11)], forwarded := [{ rank := 0, no := 4 }] }),
    (6, { tm with paired := true, twin := some 5, groups := [3], allGroups := [3], commits := [{ id := 12, kind := k2, unpaired := true }], cb := [oneEntry (some 12)] })]
  groups := tabPut (tabPut State.reset.groups 2 (grp g1)) 3 { grp g2 with team := 6, slot := 1 } }
theorem witness_PairedTeams : let s := pairS .highWater .highWater (encode (.hsig 1)) (encode (.hsig 1))
    (s.team 5).primary = true ∧ (s.team 5).twin = some 6 ∧ (((s.team 5).commits.find? (fun x => x.unpaired)).isSome = true) ∧
    ((s.team 6).commits.find? (fun x => x.unpaired)).isSome = true ∧ commitCode .highWater ≠ commitCode .exit ∧ (tabFind s.teams 6).isSome = true ∧
    ((st .nop).team 5).twin = none ∧ ((s.team 5).forwarded.find? (fun x => decide (x.rank = 0 ∧ x.no = 4))).isSome = true ∧ (s.team 5).groups = [2] ∧
    (s.group 2).pairOk = false ∧ s.twinGroup 5 2 = some 3 ∧ (s.group 3).fwdNo = (s.group 2).fwdNo := by decide +kernel
theorem witness_matchedWords : let s := pairS .highWater .exit (encode (.hsig 1)) (encode (.hsig 1)); let d := pairS .highWater .exit (encode (.hsig 1)) (encode (.hsig 2))
    ((s.matchedWord 2).isSome && decide (s.matchedWord 2 = s.matchedWord 3) && (d.matchedWord 2).isSome && (d.matchedWord 3).isSome &&
      !decide (d.matchedWord 2 = d.matchedWord 3)) = true := by decide +kernel

/-! ## Witnesses: privileged forms -/

/-- The serving PGC at a word, with some of its registers set. -/
def pgS (i : Instr) (r : List (Nat × DWord)) : State :=
  { stP i with groups := tabPut State.reset.groups 0 { grpP (encode i) with s := r.foldl (fun m e => tabPut m e.1 { val := e.2 }) sregs } }
def pgU (i : Instr) (r : List (Nat × DWord)) : Issuer :=
  { gid := 0, g := { grpP (encode i) with s := r.foldl (fun m e => tabPut m e.1 { val := e.2 }) sregs }, c := clauseOf (encode i) }

/-- The tlbi forms; a plot asked for a range that its filter rules out, and for one that it does not (TlbInvalidation). -/
def tlbEv (mode len : Nat) : Ev := { a := 0, b := 0, v := 0x200000, f := BitVec.ofNat 256 (len + 3 * 2 ^ 64 + mode * 2 ^ 72) }
def oneTlb : TlbEntry := { ctx := 3, vpn := 0x20, bits := 16, pte := 5 }
def tlbS (full : Bool) (e : Ev) : State :=
  let s := { stP .nop with ev := e, groups := tabPut State.reset.groups 0 { grpP (encode .nop) with hold := some (.priv (.tlbiRange 1 2 3) 2) } }
  if full then s.tlbFill 0 oneTlb else s
theorem witness_TlbInvalidation : ([Instr.tlbiRange 0 1 2, .tlbiContext 0 1 2, .tlbiDevice 0 1 2].all fun i => ready i (unP i) (stP i)) = true ∧
    ((tlbS true {}).plot 0).culled = false ∧
    (tlbS false (tlbEv 0 4096)).bloomNone 0 3 0x200000 4096 = true ∧ (tlbS true (tlbEv 0 4096)).bloomNone 0 3 0x200000 4096 = false ∧
    fld (tlbEv 2 0).f.toNat 72 2 = 2 ∧ (entryKeys oneTlb).all (fun k => bloomMay ((tlbS true {}).plot 0).bloom k) = true ∧
    ((tlbS true {}).plot 0).tlb.map (fun e => e.2.vpn) = [0x20] ∧ ((tlbS true {}).group 0).hold = some (.priv (.tlbiRange 1 2 3) 2) := by decide +kernel

/-- The last usable frame and the first beyond it; a record that can be installed and one that cannot; a record that is read, and an index beyond the table
(PrivilegedForms, counters and records). -/
def leaseRec (st exp : Nat) : Nat := 0x77 + 2 * 2 ^ 64 + 2 ^ 87 + 2 ^ 88 + st * 2 ^ 96 + 2 ^ 104 + 2 ^ 48 * 2 ^ 128 + exp * 2 ^ 192
/-- A way is taken in this many cycles, or its message is dropped at this router. -/
def roadIs (r : Road) (n : Nat) : Bool := match r with | .ok m => decide (m = n) | .error _ => false
def dropsAt (r : Road) (p : Nat) : Bool := match r with | .ok _ => false | .error q => decide (q = p)
def acntS (i : Instr) (f : Nat) : State := pgS i [(1, BitVec.ofNat 64 f)]
def recS (i : Instr) (k : Nat) : State := (pgS i [(1, BitVec.ofNat 64 k), (16, 0x00F800000100)]).storeMem 0x00F800000100 (natBytes 32 (leaseRec 0 1000000))
theorem witness_counters : ([Instr.acntRead 3 1, .acntReadClear 3 1, .acntWrite 3 1 2].all fun i => let n := (stP i).hbmFrames
      ready i (pgU i [(1, BitVec.ofNat 64 n)]) (acntS i n) && ready i (pgU i [(1, BitVec.ofNat 64 (n - 1))]) (acntS i (n - 1))) = true ∧
    ([0, 4095, 4096].all fun k => ([Instr.leaseInstall 3 1 16, .leaseRead 3 1 16].all fun i =>
      ready i (pgU i [(1, BitVec.ofNat 64 k), (16, 0x00F800000100)]) (recS i k))) = true ∧
    (recS .nop 0).eccErrors = [] ∧ (recS .nop 0).l2Errors = [] ∧ restB (recS .nop 0) = true ∧
    ([false, true].all fun w => roadIs ((recS .nop 0).addrRoad (unP .nop).g 0x00F800000100 w) 24) = true ∧
    (recS (.leaseInstall 3 1 16) 4095).installBad 4095 (BitVec.ofNat 256 (leaseRec 0 1000000)) = false ∧
    (recS (.leaseInstall 3 1 16) 4095).installBad 4095 (BitVec.ofNat 256 (leaseRec 0 0)) = true ∧
    (recS (.leaseInstall 3 1 16) 4096).installBad 4096 (BitVec.ofNat 256 (leaseRec 0 1000000)) = true := by decide +kernel

/-- A PGC's record in HBM whose home has no live neighbour: no path leads there (CountersAndLeaseRecords). -/
def cutOff (s : State) : State := [1, 24, 26, 49].foldl (fun (t : State) p => t.modPlot p (fun x => { x with culled := true })) s
def cutS (i : Instr) : State := cutOff (stP i)
theorem witness_noPath : ([Instr.leaseInstall 3 1 16, .leaseRead 3 1 16].all fun i => ready i (unP i) (cutS i) && decide (((unP i).sv 1).toNat < 4096) &&
      ([false, true].all fun w => dropsAt ((cutS i).addrRoad (unP i).g ((unP i).sv 16) w) 24)) = true := by decide +kernel

/-- A VALID lease that may be renewed, one that may be returned, and one with a request (LeaseRequests). -/
def rqS (i : Instr) (x : Lease) : State := { pgS i [(1, 7), (2, 1000000)] with leases := [(7, x)] }
theorem witness_LeaseRequests : ([Instr.leaseRenew 3 1 2, .leaseReturn 3 1].all fun i =>
      ready i (pgU i [(1, 7), (2, 1000000)]) (rqS i { data := BitVec.ofNat 256 (leaseRec 1 500) })) = true ∧
    leaseState (BitVec.ofNat 256 (leaseRec 1 500)) = 1 ∧ (rqS (.leaseReturn 3 1) { data := BitVec.ofNat 256 (leaseRec 1 500) }).leaseFrames 7 = [] ∧
    ((rqS .nop { data := BitVec.ofNat 256 (leaseRec 1 500), req := some { tag := 1, ret := true, sent := 0 } }).lease 7).req.isSome = true ∧
    ((rqS .nop {}).ctx 0).trace = false := by decide +kernel

/-- A move of a page of HBM to another frame of HBM, to a place that cannot take it, and one whose source cannot be read (PageMoves). -/
def leafOf (f : Nat) : Nat := 0x73 + f * 2 ^ 21
def moveEv (old new flags : Nat) : Ev := { a := 0, f := BitVec.ofNat 256 (0x00F800000100 + new * 2 ^ 64 + flags * 2 ^ 128 + 0 * old) }
def moveS (old new flags : Nat) : State :=
  let s := ({ pgS .nop [] with pgc := { (pgS .nop []).pgc with moving := [(0, 0x00F800000100)] } } : State).storeMem 0x00F800000100 (natBytes 8 old)
  { s with ev := moveEv old new flags, leases := [(0, { data := BitVec.ofNat 256 (leaseRec 3 1000000) })], groups := tabPut s.groups 0 { s.group 0 with hold := some (.priv (.pmove 3 16) 0) } }
theorem witness_pmove : ready (.pmove 3 16) (unP (.pmove 3 16)) (stP (.pmove 3 16)) = true ∧ ((moveS (leafOf 9) (leafOf 12) 0).group 0).hold = some (.priv (.pmove 3 16) 0) ∧
    (stP (.pmove 3 16)).eccErrors = [] ∧ memRestB (moveS (leafOf 9) (leafOf 12) 0) = true ∧ ((moveS (leafOf 9) (leafOf 12) 0).group 0).pgc = true ∧
    roadIs ((stP .nop).moveRoad (unP .nop) 0x00F800000100 0) 1120 = true ∧
    leafDpa (moveS (leafOf 9) 0 0) 0 = none ∧ leafDpa (moveS (leafOf 9) (leafOf 12) 0) (leafOf 12) = some (12 * 65536) ∧
    (moveS (leafOf 9) (leafOf 12) 0).moveTakes (leafOf 12) (12 * 65536) = true ∧
    (moveS (leafOf 9) (leafOf 12) 0).readNat (fld (moveS (leafOf 9) (leafOf 12) 0).ev.f.toNat 0 64) 8 = leafOf 9 ∧
    leafDpa (moveS (leafOf 9) (leafOf 12) 0) (leafOf 9) = some (9 * 65536) ∧
    ((List.range 1024).all fun i => (moveS (leafOf 9) (leafOf 12) 0).moveReadable (leafOf 9) (9 * 65536) i) = true ∧
    leafDpa (moveS (leafOf 9 + 2 ^ 13) (leafOf 12) 0) (leafOf 9 + 2 ^ 13) = some (2 ^ 48 + 9 * 65536) ∧
    (moveS (leafOf 9 + 2 ^ 13) (leafOf 12) 0).moveReadable (leafOf 9 + 2 ^ 13) (2 ^ 48 + 9 * 65536) 0 = false ∧
    (moveS 0 (leafOf 12) 2).ev.f.toNat.testBit 129 = true := by decide +kernel
/-- A 2 MiB leaf that can be split, one that is being split and a 64 KiB leaf; the step that ends a split (PageMoves). -/
def bigLeaf : Nat := 0x77 + 64 * 2 ^ 21
def splitS (e : Nat) : State := (pgS (.psplit 3 16 2) [(16, 0x00F800000100), (2, 0x00F800001000)]).storeMem 0x00F800000100 (natBytes 8 e)
theorem witness_psplit : ([bigLeaf, bigLeaf + 2 ^ 18, leafOf 9].all fun e =>
      ready (.psplit 3 16 2) (pgU (.psplit 3 16 2) [(16, 0x00F800000100), (2, 0x00F800001000)]) (splitS e)) = true ∧
    ([bigLeaf, bigLeaf + 2 ^ 18, leafOf 9].all fun e => memRestB (splitS e) && decide ((splitS e).pgcLoad (unP .nop) 0x00F800000100 8 = e)) = true ∧
    roadIs ((splitS bigLeaf).addrRoad (unP .nop).g 0x00F800000100 false) 24 = true ∧
    roadIs ((((splitS bigLeaf).addrRoad (unP .nop).g 0x00F800000100 false).then ((splitS bigLeaf).storeRoad (unP .nop) 0x00F800000100)).then
      ((splitS bigLeaf).splitRoad (unP .nop) 0x00F800000100 0x00F800001000)) 840 = true ∧
    ((List.range 8).all fun i => (List.range 256).all fun j =>
      decide ((splitS bigLeaf).phys (0x00F800000100 + i) ≠ (splitS bigLeaf).phys (0x00F800001000 + j))) = true ∧
    splitOk (splitS bigLeaf) bigLeaf = true ∧ splitOk (splitS bigLeaf) (bigLeaf + 2 ^ 18) = true ∧ splitOk (splitS bigLeaf) (leafOf 9) = false ∧
    (bigLeaf + 2 ^ 18).testBit 18 = true ∧ bigLeaf.testBit 18 = false ∧ bigLeaf < 2 ^ 64 ∧ pteLoc bigLeaf = 0 ∧ isHbm (splitS bigLeaf) (fld bigLeaf 21 27 * 65536) = true := by
  decide +kernel
def splitEnd (seen : Nat) : State :=
  let s := splitS (bigLeaf + 2 ^ 18)
  { s with ev := { a := 0, v := BitVec.ofNat 64 seen }, groups := tabPut s.groups 0 { s.group 0 with hold := some (.priv (.psplit 3 16 2) 0) } }
theorem witness_psplitComplete : let s := splitEnd (bigLeaf + 2 ^ 18)
    (s.group 0).hold = some (.priv (.psplit 3 16 2) 0) ∧
    s.readNat ((s.group 0).readS 16).val.toNat 8 = s.ev.v.toNat ∧ s.ev.v ≠ (splitEnd bigLeaf).ev.v ∧ memRestB s = true ∧ (s.group 0).pgc = true ∧
    roadIs ((splitEnd bigLeaf).splitRoad { gid := 0, g := (splitEnd bigLeaf).group 0, c := default } 0x00F800000100 0x00F800001000) 792 = true := by
  decide +kernel
/-- A bias over no byte and over two pages; an answer in its middle (PageMoves). -/
def biasS (n : Nat) (h : Option Hold) (k : Nat) : State :=
  let s := pgS (.bias 3 1 2) [(1, 0x20000), (2, BitVec.ofNat 64 n)]
  { s with ev := { a := k }, groups := tabPut s.groups 0 { s.group 0 with hold := h } }
theorem witness_bias : ([0, 0x20000].all fun n => ready (.bias 3 1 2) (pgU (.bias 3 1 2) [(1, 0x20000), (2, BitVec.ofNat 64 n)]) (biasS n none 0)) = true ∧
    (tabFind (biasS 0x20000 (some (.priv (.bias 3 1 2) 0)) 1024).groups (biasS 0x20000 none 0).pgc.serving).isSome = true := by decide +kernel

/-! ## Witnesses: the fault queue, leases, pool messages -/

def pgcOf (f : Pgc → Pgc) : State := { stP .nop with pgc := f State.reset.pgc }
def fqR (taken : Bool) (order : Nat) (t : FqTarget) : FqRec := { data := 5, taken := taken, order := order, target := t }
def fqN (n : Nat) : Tab FqRec := (List.range n).map fun i => (i, fqR false i .info)
/-- Slot 0 and the last slot free; a full queue; requests that wait; an oldest record behind a younger one; no record (FaultQueue). -/
theorem witness_FaultQueue : (∀ n j, j < n → (tabFind (pgcOf fun p => { p with fq := fqN n }).pgc.fq j).isSome = true) ∧
    tabFind (pgcOf fun p => { p with fq := fqN 1023 }).pgc.fq 1023 = none ∧ (pgcOf fun p => { p with fq := fqN 1023 }).pgc.fqWait = [] := by
  have h : ∀ (l : List Nat) j, j ∈ l → (tabFind (l.map fun i => (i, fqR false i .info)) j).isSome = true := by
    intro l j hj
    induction l with
    | nil => simp at hj
    | cons a l ih =>
      simp only [List.map_cons, tabFind]
      split
      · rfl
      · exact ih ((List.mem_cons.1 hj).resolve_left (Ne.symm ‹_›))
  exact ⟨fun n j hj => h _ j (List.mem_range.2 hj), by decide +kernel, rfl⟩
def popS : State := pgcOf fun p => { p with fq := [(0, fqR false 9 .info), (1, fqR true 2 .info), (2, fqR false 5 (.binv 3))], fqNext := 10, blocked := [(0, 64, 3), (64, 64, 4)] }
theorem witness_fqPop : (2, fqR false 5 (.binv 3)) ∈ popS.pgc.fq ∧ tabSorted popS.pgc.fq = true ∧
    (∀ e ∈ popS.pgc.fq, e.2.taken = false → e.1 ≠ 2 → (5 : Nat) < e.2.order) := by decide +kernel
/-- A slot that falls free while a request waits for it (FaultQueue). -/
theorem witness_fqRelease : (pgcOf fun p => { p with fq := fqN 3, fqWait := [({ kind := 4 }, .info)] }).pgc.fqWait = [({ kind := 4 }, .info)] := rfl
/-- A group whose load is in its log, its record in slot 3 (FaultQueue). -/
def loggedOp : MemOp := { word := .sld 3 4 0 3 0 0 0, flag := some 0, idx := 1, clause := 0x10000, st := .logged 0 }
def resolveS (t : FqTarget) (b : Nat) : State :=
  let s := st .nop
  { s with pgc := { s.pgc with fq := [(3, fqR true 2 t)], blocked := [(0, 64, 3), (64, 64, 4)] }, ev := { a := 3, b := b }
           groups := tabPut s.groups 2 { s.group 2 with ops := [(9, loggedOp)], log := [(0, { op := 9, st := .pending, order := 0, f := { cls := 4, cause := 19, addr := 77 } })] } }
/-- The resolution of that record arrives at the group's plot (FaultQueue). -/
def arrivedS : State :=
  let s := resolveS (.group 2 9) 12
  { s with pgc := { s.pgc with fq := [], answers := [(5, fqR true 2 (.group 2 9))] }, ev := { a := 5, b := 12, flag := true } }
/-- The same with no path to the group's plot. -/
def cutAnswer : State := cutOff ((resolveS (.group 2 9) 12).modGroup 2 (fun g => { g with plot := 25 }))
theorem witness_fqArrival : tabFind arrivedS.pgc.answers arrivedS.ev.a = some (fqR true 2 (.group 2 9)) ∧ tabFind (arrivedS.group 2).ops 9 = some loggedOp ∧
    (tabFind (arrivedS.group 2).log 0).map (fun e => e.st) = some .pending ∧ tabFind arrivedS.pgc.answers 6 = none ∧
    ((resolveS (.group 2 9) 12).way? 384 0).isSome = true ∧ cutAnswer.way? 384 (cutAnswer.group 2).plot = none ∧ (resolveS (.group 2 9) 12).ev.flag = false := by decide +kernel
theorem witness_fqres : (resolveS (.group 2 9) 12).pgc.fqWait = [] ∧ tabFind (resolveS (.group 2 9) 12).pgc.fq 3 = some (fqR true 2 (.group 2 9)) ∧
    tabFind ((resolveS (.group 2 9) 12).group 2).ops 9 = some loggedOp ∧ tabFind (resolveS .info 12).pgc.fq (resolveS .info 12).ev.a = some (fqR true 2 .info) ∧
    tabFind (pgcOf id).pgc.fq 3 = none ∧ tabFind (resolveS (.binv 3) 0).pgc.fq 3 = some (fqR true 2 (.binv 3)) := by decide +kernel

/-- A lease whose renewal is due at this tick and one tick later; whose expiry has come; which never expires; whose deadline is this tick and the one before
(LeaseTimes). -/
def lease1 (stt exp : Nat) (f : Lease → Lease := id) : State :=
  { stP .nop with cycle := 0x4000000, leases := [(7, f { data := BitVec.ofNat 256 (leaseRec stt exp) })], ev := { a := 7 } }
theorem witness_LeaseTimes : (lease1 1 0x3000000).tick = 0x2000000 ∧ (lease1 1 0x3000000).pgc.leaseMargin.toNat = 0x1000000 ∧
    lrExpiry ((lease1 1 0x3000000).lease 7).data = 0x3000000 ∧ lrExpiry ((lease1 1 0x3000001).lease 7).data = 0x3000001 ∧
    leaseState ((lease1 1 0x3000000).lease 7).data = 1 ∧ ((lease1 1 0x3000000).lease 7).dueSent = false ∧
    leaseState ((lease1 2 0x2000000).lease 7).data = 2 ∧ lrExpiry ((lease1 2 0x2000000).lease 7).data = 0x2000000 ∧
    lrExpiry ((lease1 1 (2 ^ 64 - 1)).lease 7).data = 2 ^ 64 - 1 ∧ leaseState ((lease1 4 5).lease 7).data = 4 ∧ leaseState ((lease1 5 5).lease 7).data = 5 := by
  decide +kernel
/-- A group of the PGC at a lease form whose request is out, of each kind (LeaseTimes, PoolMessages). -/
def rqOf (ret : Bool) (before : Nat) : LeaseReq := { tag := 9, ret := ret, sent := 100, before := before, waiter := some 0 }
def leaseWait (ret : Bool) (stt exp : Nat) (m : Nat) (b : Nat := 9) : State :=
  let s := lease1 stt exp fun x => { x with req := some (rqOf ret 1), dueSent := true }
  { s with groups := tabPut s.groups 0 { s.group 0 with hold := some (.priv (if ret then .leaseReturn 3 1 else .leaseRenew 3 1 2) 0) }
           ev := { a := 7, b := b, f := BitVec.ofNat 256 m } }
theorem witness_Waits (stt exp m b : Nat) (before : Nat) :
    Claims.Waits (leaseWait false stt exp m b) (rqOf false before) 0 3 ∧ Claims.Waits (leaseWait true stt exp m b) (rqOf true before) 0 3 :=
  ⟨⟨rfl, _, 0, 1, 2, rfl, .inl rfl⟩, ⟨rfl, _, 0, 1, 2, rfl, .inr rfl⟩⟩
theorem witness_answerLimit : ([(false, 2), (false, 4), (true, 6)].all fun (e : Bool × Nat) =>
    decide (((leaseWait e.1 e.2 0x2000001 0).lease 7).req = some (rqOf e.1 1) ∧ (leaseWait e.1 e.2 0x2000001 0).ev.b = (rqOf e.1 1).tag)) = true ∧
    ((lease1 1 5).lease 7).req = none := by decide +kernel
/-- A group's load of a page that is in a leased pool (LeaseTimes). -/
def poolS (x : OpState) : State :=
  let s := st .nop
  let s := (((s.modCtx 0 (fun x => { x with ptroot := 0x100000, en := true })).writeMem 0x100000 (natBytes 8 0x101001)).writeMem 0x101000 (natBytes 8 0x102001)).writeMem
    0x102000 (natBytes 8 (0x207B + 7 * 2 ^ 36))
  { s with leases := [(7, { data := BitVec.ofNat 256 (leaseRec 1 1000000) })], ev := { a := 2, b := 9 }
           groups := tabPut s.groups 2 { s.group 2 with ops := [(9, { loggedOp with st := x, src := [{ val := 0x12340 }, { val := 0 }] })] } }
theorem witness_poolReadTimeout : let s := poolS .issued
    (match tabFind (s.group 2).ops 9 with | some o => (match s.opElems 2 o with | [e] => decide (spaceOf e.addr = .virt 0x12340) | _ => false) | none => false) = true ∧
    (match (s.translateWalk 0 0x12340 .read).2 with | .ok dpa _ => isPool dpa && decide (s.leaseAt dpa = some 7) | _ => false) = true := by decide +kernel

/-- A message of a type with a check word, its tag 9, for the lease that `leaseRec` names (PoolMessages). -/
def msgOf (ty tag id span : Nat) : Nat :=
  let m := ty + 2 ^ 8 + tag * 2 ^ 16 + 2 * 2 ^ 32 + id * 2 ^ 64 + span * 2 ^ 128
  m + (crc32c 0 (natBytes 28 m)).toNat * 2 ^ 224
theorem witness_messages : ([2, 3, 5, 6, 8].all fun ty => let m := BitVec.ofNat 256 (msgOf ty 9 0x77 50)
    decide (crc32c 0 (natBytes 28 (m.toNat % 2 ^ 224)) = m.extractLsb' 224 32 ∧ m.extractLsb' 8 8 = 1 ∧ (m.extractLsb' 0 8).toNat = ty ∧
      m.extractLsb' 44 20 = 0 ∧ m.extractLsb' 192 21 = 0)) = true ∧
    ([0, msgOf 2 9 0x77 50 + 2 ^ 12].all fun m => decide (crc32c 0 (natBytes 28 (m % 2 ^ 224)) ≠ (BitVec.ofNat 256 m).extractLsb' 224 32)) = true ∧
    (leaseWait false 2 9 (msgOf 2 9 0x77 50)).rhMatch (BitVec.ofNat 256 (msgOf 2 9 0x77 50)) = some (7, rqOf false 1) ∧
    (leaseWait true 6 9 (msgOf 5 9 0x77 0)).rhMatch (BitVec.ofNat 256 (msgOf 5 9 0x77 0)) = some (7, rqOf true 1) ∧
    (∀ e ∈ (leaseWait false 2 9 0).leases, ∀ q, e.2.req = some q → q.tag ≠ ((BitVec.ofNat 256 (msgOf 2 8 0x77 50)).extractLsb' 16 16).toNat) := by
  refine ⟨by decide +kernel, by decide +kernel, by decide +kernel, by decide +kernel, ?_⟩
  intro e he q hq
  simp only [leaseWait, lease1, List.mem_singleton] at he
  subst he
  simp only [Option.some.injEq] at hq
  subst hq
  decide +kernel
/-- A revocation of a lease in force, of one that no entry has; the failure of a node of a lease, of another (PoolMessages). -/
theorem witness_revoke : (∀ e ∈ (lease1 1 9).leases, leaseState e.2.data ≠ 0 → e.2.data.extractLsb' 0 64 ≠ 0x78) ∧
    ((lease1 1 9).lease 7).data.extractLsb' 0 64 = 0x77 ∧ tabSorted (lease1 1 9).leases = true ∧
    (BitVec.ofNat 256 (msgOf 6 9 0x77 50)).extractLsb' 64 64 = 0x77 ∧ (BitVec.ofNat 256 (msgOf 6 9 0x78 50)).extractLsb' 64 64 = 0x78 ∧
    ((lease1 1 9).lease 7).data.extractLsb' 64 12 = (BitVec.ofNat 256 (msgOf 8 0 0 0)).extractLsb' 32 12 ∧
    (∀ e ∈ (lease1 5 9).leases, ¬ leaseState e.2.data ≠ 5) := by decide +kernel
/-- The frames of a machine at reset hold no page (PoolMessages). -/
theorem witness_bisnp : let s := st .nop; ∀ f g u, (s.frame f).tag = some u → (s.frame g).tag = some u → f = g := by
  intro s f g u h
  exact absurd h (by simp [s, st, mach, State.frame, State.reset, tabGet])

/-! ## Witnesses: directory, caches, walks, scratch, storage errors -/

theorem tabFind_elem {α : Type} : ∀ (t : Tab α) (k : Nat) (a : α), tabFind t k = some a → (k, a) ∈ t
  | [], _, _, h => by simp [tabFind] at h
  | (j, b) :: t, k, a, h => by
    simp only [tabFind] at h
    split at h
    · simp_all
    · exact List.mem_cons_of_mem _ (tabFind_elem t k a h)
theorem plot_elem {s : State} {p k : Nat} {a : L1Line} (h : tabFind (s.plot p).l1 k = some a) : (p, s.plot p) ∈ s.plots := by
  rcases hp : tabFind s.plots p with _ | x
  · simp [State.plot, tabGet, hp] at h
  · have hx : s.plot p = x := by simp [State.plot, tabGet, hp]
    rw [hx]; exact tabFind_elem _ _ _ hp
/-- A machine of which every L1 holds distinct lines. -/
def l1OnceB (s : State) : Bool := s.plots.all fun x => x.2.l1.all fun a => x.2.l1.all fun b => decide (a.2.line ≠ b.2.line ∨ a.1 = b.1)
theorem l1Once_of {s : State} (h : l1OnceB s = true) : Claims.L1Once s := by
  intro p k j a b ha hb hl
  have h1 := List.all_eq_true.1 (List.all_eq_true.1 h _ (plot_elem ha)) _ (tabFind_elem _ _ _ ha)
  have h2 := of_decide_eq_true (List.all_eq_true.1 h1 _ (tabFind_elem _ _ _ hb))
  exact h2.resolve_left (fun h => h hl)

/-- The line of 0x20000 in its home slice, its directory entry, and copies in the L1s of plots (DirectoryTransitions). -/
def dirS (grain : Nat) (e : Option DirEntry) (c : List (Nat × Coh)) (ev : Ev) : State :=
  let d := 0x20000
  let l : L2Line := { line := d / 512, grain := grain, valid := 0xFFFF, dir := match e with | some e => [(0, e)] | none => [] }
  let s := ({ st .nop with ev := ev } : State).setL2 d (l2Base d) l
  c.foldl (fun m x => m.modPlot x.1 (fun y => { y with l1 := [(8 * (d / 512 % l1Sets y), { line := d / 512, grain := grain, sect := [(0, x.2)] })] })) s
def dirEv (p : Nat) : Ev := { a := p, b := 0x20000 }
def ent (st : DirState) (o : Nat) : DirEntry := { st := st, owner := o, sharers := 1 }
def dirCases : List State :=
  [dirS 512 none [] (dirEv 0), dirS 128 (some (ent .shared 0)) [(0, .s)] (dirEv 383), dirS 32 (some (ent .exclusive 0)) [(0, .e)] (dirEv 9),
   dirS 512 (some (ent .modified 0)) [(0, .m)] (dirEv 9), dirS 512 (some (ent .owned 0)) [(0, .o)] (dirEv 9), dirS 512 (some (ent .exclusive 0)) [] (dirEv 9),
   dirS 512 (some (ent .exclusive 0)) [(0, .e)] (dirEv 0)]
theorem witness_DirectoryTransitions : (dirCases.all fun s => decide (s.l2Errors = [] ∧ s.eccErrors = []) && (s.way? 0 (s.homePlot s.ev.b)).isSome && (match s.l2Line s.ev.b with
      | some l => decide (l.grain = 32 ∨ l.grain = 128 ∨ l.grain = 512) | none => false)) = true ∧
    dirCases.map (fun s => (s.dirEntry s.ev.b).map (fun e => e.st)) =
      [none, some .shared, some .exclusive, some .modified, some .owned, some .exclusive, some .exclusive] ∧
    dirCases.map (fun s => s.l1State 0 s.ev.b) = [none, some .s, some .e, some .m, some .o, none, some .e] ∧
    ((quadPlots 0).all fun p => ((dirS 512 (some (ent .exclusive 0)) [] (dirEv 9)).l1State p 0x20000).isNone) = true ∧ plotQuad 0 = 0 := by decide +kernel
theorem witness_L1Once : ∀ s ∈ dirCases, Claims.L1Once s := by
  exact fun s hs => l1Once_of (List.all_eq_true.1 (by decide +kernel : dirCases.all l1OnceB = true) s hs)
/-- A line of pool that the slice does not hold; a walk that finds a leaf, of a read and of a write, and one that finds none (FillsAndWalks). -/
def walkEv (va : DWord) (k : AccKind) : Ev := { a := 0, b := 0, v := va, ext := .acc k }
theorem witness_FillsAndWalks : (let s := { st .nop with ev := dirEv 0 }; s.l2Line s.ev.a = none ∧ cacheWays (s.die (s.homeDie s.ev.a)) (homeSlice s.ev.a) ≠ []) ∧
    ([(AccKind.read, 0x12345), (.write, 0x12345), (.atomic, 0)].all fun (x : AccKind × Nat) => let s := { mapGib 0 (st .nop) with ev := walkEv (BitVec.ofNat 64 x.2) x.1 }
      decide (tlbHit (s.plot 0).tlb 0 x.2 = none ∧ tlbHit (s.die (plotDie 0)).tlb 0 x.2 = none ∧ x.2 < 2 ^ 57) &&
      (match s.walk 0 x.2 with | .leaf _ e b => decide (e < 2 ^ 64 ∧ b = 30) | _ => false)) = true ∧
    (match (mapGib 0 (st .nop)).walk 0 (2 ^ 57 - 1) with | .bad _ => true | _ => false) = true := by decide +kernel

/-- Tables of all levels for one address, with a leaf of 64 KiB; leaves that break a rule, an invalid entry, a table that cannot lie where it does
(PageWalks). -/
def walkVa : Nat := 2 ^ 48 + 2 * 2 ^ 39 + 3 * 2 ^ 30 + 4 * 2 ^ 21 + 5 * 2 ^ 16
def tables (root leaf : Nat) : State :=
  [(0x100008, 0x101001), (0x101010, 0x102001), (0x102018, 0x103001), (0x103020, 0x104101), (0x104128, leaf)].foldl
    (fun (s : State) (e : Nat × Nat) => s.writeMem e.1 (natBytes 8 e.2)) ((st .nop).modCtx 0 (fun x => { x with ptroot := BitVec.ofNat 64 root, en := true }))
theorem tableAt_hbm {s : State} {a : Nat} (h : isHbm s a = true) : Claims.tableAt s a := .inl h
theorem leadsOn_of {k e : Nat} (h : (decide (e.testBit 0 = true ∧ e.testBit 1 = false ∧ fld e 52 12 = 0 ∧ fld e 2 6 = 0 ∧ k < 4) && decide (k < 3 → fld e 8 4 = 0)) = true) :
    Claims.leadsOn k e := by
  rw [Bool.and_eq_true] at h
  exact have a := of_decide_eq_true h.1; ⟨a.1, a.2.1, a.2.2.1, a.2.2.2.1, a.2.2.2.2, of_decide_eq_true h.2⟩
theorem witness_Reaches : let s := tables 0x100000 (leafOf 9); ∃ t, t = 0x104100 ∧ Claims.Reaches s 0x100000 walkVa 4 t :=
  ⟨_, by decide +kernel, .next 3 _ (.next 2 _ (.next 1 _ (.next 0 _ .root (tableAt_hbm (by decide +kernel)) (leadsOn_of (by decide +kernel)))
    (tableAt_hbm (by decide +kernel)) (leadsOn_of (by decide +kernel))) (tableAt_hbm (by decide +kernel)) (leadsOn_of (by decide +kernel)))
    (tableAt_hbm (by decide +kernel)) (leadsOn_of (by decide +kernel))⟩
theorem witness_leafGood : let s := tables 0x100000 (leafOf 9); Claims.leafGood s 4 (leafOf 9) ∧ Claims.targetOk s bigLeaf 21 ∧
    ¬ Claims.leafGood s 4 (leafOf 9 + 2 ^ 63) ∧ ¬ Claims.leafGood s 4 (leafOf 9 + 4) ∧ ¬ Claims.leadsOn 4 0x101001 ∧ ¬ Claims.leadsOn 2 0x101005 :=
  ⟨⟨by decide +kernel, by decide +kernel, by decide +kernel, by decide +kernel, by decide +kernel, by decide +kernel, by decide +kernel, .inl (by decide +kernel)⟩,
    ⟨by decide +kernel, .inl (by decide +kernel)⟩, fun h => absurd h.2.1 (by decide +kernel), fun h => absurd h.1 (by decide +kernel),
    fun h => absurd h.2.2.2.2.1 (by decide), fun h => absurd h.2.2.2.1 (by decide)⟩
theorem witness_tableAt : ¬ Claims.tableAt (tables 0x0008000000000000 0) 0x0008000000000000 ∧ ((tables 0x0008000000000000 0).ctx 0).ptroot.toNat = 0x0008000000000000 ∧
    Claims.tableAt (tables 0 0) 0x00F8000FF000 ∧ Claims.tableAt (tables 0 0) 0x0007FFFFFFFFF000 ∧ (leafOf 9).testBit 0 = true ∧ (leafOf 9).testBit 1 = true ∧
    (0 : Nat).testBit 0 = false := by
  unfold Claims.tableAt; decide +kernel

/-- A die that may convert, one that is converting; an illegal number, the number in force, the largest (ScratchAndFrameTimes). -/
def scrS (cur req : Nat) (busy : Bool) (n : DWord) : State :=
  ({ st .nop with ev := { a := 3, v := n } } : State).modDie 3 (fun x => { x with scrCur := cur, scrReq := req, scrBusy := busy })
theorem witness_scratch : ((scrS 0 0 false 4).die 3).scrBusy = false ∧ ((scrS 0 4 true 2).die 3).scrBusy = true ∧ (scrS 0 0 false 5).ev.v.toNat % 8 = 5 ∧
    ((scrS 2 2 false 2).die 3).scrReq = 2 ∧ (scrS 0 4 true 0).ev.a < 4 := by decide +kernel
/-- A frame that is filled: at its first block and at its last, for a unit that it no longer caches; one that caches nothing; a DEAD one
(ScratchAndFrameTimes). -/
def fillS (x : Frame) (lease : Nat) : State :=
  ({ st .nop with ev := { a := 4 }, leases := [(7, { data := BitVec.ofNat 256 (leaseRec lease 1000000) })] } : State).setFrame 4 x
def fillOf (done : Nat) : Frame := { tag := some (2 ^ 32), fill := some { unit := 2 ^ 32, first := 1000, done := done } }
theorem witness_fills : ([0, 24, 1023].all fun n => decide (((fillS (fillOf n) 1).frame 4).fill = some { unit := 2 ^ 32, first := 1000, done := n } ∧
      ((fillS (fillOf n) 1).frame 4).tag = some (2 ^ 32) ∧ (fillS (fillOf n) 1).leaseAt (2 ^ 32 * 65536) = some 7 ∧
      leaseState ((fillS (fillOf n) 1).lease 7).data = 1 ∧ isHbm (fillS (fillOf n) 1) (4 * 65536) = true)) = true ∧
    (fillS { fillOf 3 with tag := none } 1).frame 4 ≠ fillOf 3 ∧ ((fillS {} 1).frame 4).fill = none ∧
    tabSorted (fillS { fillOf 3 with count := 9 } 1).frames = true ∧ ((fillS { dead := true, zeroing := some 5 } 1).frame 4).zeroing = some 5 ∧
    ((fillS {} 1).frame 4).zeroing = none := by decide +kernel
/-- Errors in HBM, in memory that is no HBM, in a line that the L2 holds and in one that it does not; a block that the scrubber reaches (StorageErrors). -/
def errS (e : SoftError) : State := { dirS 512 none [] (dirEv 0) with ev := { ext := .error e } }
def scrubS (b : Nat) (c par : Bool) : State :=
  { st .nop with ev := { a := 0 }, eccErrors := [(b, c)], boot := { State.reset.boot with parity := par } }
theorem witness_StorageErrors : isPool (2 ^ 48 - 1) = false ∧ isHbm (errS (.hbm (2 ^ 48 - 1) true)) ((2 ^ 48 - 1) / 64 * 64) = false ∧
    isHbm (errS (.hbm 0 true)) 0 = true ∧ (errS (.l2 0x20000)).l2Line 0x40000 = none ∧ ((errS (.l2 0x20000)).l2Line 0x20000).isSome = true ∧
    (scrubS 0 true true).hbmStack (0 / 1024) = 0 ∧ (scrubS 0 true true).scrubRank 0 = (scrubS 0 true true).scrubPos (scrubS 0 true true).tick ∧
    isHbm (scrubS 0 true true) (0 * 64) = true ∧ ((scrubS 0 false false).frame (0 / 1024)).dead = false ∧ ((scrubS 0 false false).frame (0 / 1024)).tag = none ∧
    (scrubS 2 true true).scrubRank 2 ≠ (scrubS 2 true true).scrubPos (scrubS 2 true true).tick ∧ tabFind (scrubS 0 true true).scrub 0 = none ∧
    tabFind { scrubS 0 true true with scrub := [(0, (5, 7, 9))] }.scrub 0 = some (5, 7, 9) := by decide +kernel

/-! ## Witnesses: FRAMECTL, answers, bank swaps, the debug port, the instruction cache -/

/-- A machine with a lease in a state, its unit 2^32 in the first frame that may hold it (FrameControl). -/
def unitF : Nat := ((st .nop).unitFrames (2 ^ 32)).getD 0 0
def frS (lease : Nat) (x : Frame) (ev : Ev) : State :=
  ({ st .nop with ev := ev, leases := [(7, { data := BitVec.ofNat 256 (leaseRec lease 1000000) })] } : State).setFrame unitF x
def dirty1 : Frame := { tag := some (2 ^ 32), valid := 3, dirty := 2, rclass := 2, mgroup := 5 }
theorem witness_FrameControl : (frS 1 dirty1 {}).frameFor (2 ^ 32) = some unitF ∧ (frS 1 dirty1 {}).frameHeld unitF = false ∧ (frS 3 dirty1 {}).frameHeld unitF = true ∧
    isPool (2 ^ 32 * 65536) = true ∧ unitF < (frS 1 dirty1 {}).hbmFrames ∧ (frS 1 {} {}).frame unitF = {} ∧ (frS 1 {} {}).frameFor 0 = none ∧ isHbm (frS 1 {} {}) 0 = true ∧
    (frS 1 {} {}).hbmFrames = 4128768 ∧ (frS 3 dirty1 {}).modelFrames = [unitF] ∧ ((frS 3 dirty1 {}).frame unitF).mgroup = 5 ∧
    isHbm (frS 1 {} {}) ((2 ^ 32 - 1) * 65536) = false ∧ scratchOf ((2 ^ 32 - 1) * 65536) = none ∧ isPool ((2 ^ 32 - 1) * 65536) = false ∧ isPeer ((2 ^ 32 - 1) * 65536) = false := by
  decide +kernel
theorem witness_tagsOnce (lease : Nat) (ev : Ev) : Claims.tagsOnce (frS lease dirty1 ev) := by
  intro f g u hf hg
  have h : ∀ k, (frS lease dirty1 ev).frame k = if unitF = k then dirty1 else {} := by
    intro k
    by_cases e : unitF = k
    · subst e; simp [frS, State.frame, State.setFrame]
    · rw [if_neg e, State.frame, frS, State.setFrame_frames, tabGet_tabSet_ne _ _ _ (Ne.symm e)]; rfl
  rw [h] at hf hg
  split at hf <;> split at hg <;> first | exact absurd hf (by simp) | exact absurd hg (by simp) | simp_all only
/-- Its frame lies in the set of its unit, none is DEAD, no error waits, and no block is dirty outside the L2 (FrameControl). -/
theorem frame_frS (lease : Nat) (x : Frame) (ev : Ev) (k : Nat) : (frS lease x ev).frame k = if unitF = k then x else {} := by
  by_cases e : unitF = k
  · subst e; simp [frS, State.frame, State.setFrame]
  · rw [if_neg e, State.frame, frS, State.setFrame_frames, tabGet_tabSet_ne _ _ _ (Ne.symm e)]; rfl
theorem witness_tagsHome (lease : Nat) (ev : Ev) : Claims.tagsHome (frS lease dirty1 ev) ∧ Claims.noneDead (frS lease dirty1 ev) := by
  refine ⟨fun f u h => ?_, fun f => ?_⟩
  · rw [frame_frS] at h
    split at h
    · have hu : u = 2 ^ 32 := by simpa [dirty1] using h.symm
      have hs : (frS lease dirty1 ev).unitFrames u = (st .nop).unitFrames u := rfl
      rw [hs, hu, ← ‹unitF = f›]; decide +kernel
    · exact absurd h (by simp)
  · rw [frame_frS]; split <;> rfl
theorem witness_frameRest : let s := frS 1 dirty1 { a := unitF }
    s.l2Errors = [] ∧ s.eccErrors = [] ∧ s.under = [] ∧ isHbm s (unitF * 65536) = true ∧ (s.frame unitF).retired = false ∧ tabSorted s.frames = true := by
  decide +kernel
/-- A die whose trace ring takes the frame, and one whose ring ends below it (FrameControl). -/
def ringS (ring : Nat) (f : Nat) : State := ({ st .nop with ev := { a := f } } : State).modDie 2 (fun x => { x with trRing := BitVec.ofNat 64 ring })
theorem witness_ring : (∀ d ∈ (ringS 0x200000 64).dies, d.2.trRing.toNat = 0 ∨ 64 < d.2.trRing.toNat / 65536 ∨ d.2.trRing.toNat / 65536 + 32 ≤ 64) ∧
    (∀ d ∈ (ringS 0x200000 31).dies, d.2.trRing.toNat = 0 ∨ 31 < d.2.trRing.toNat / 65536 ∨ d.2.trRing.toNat / 65536 + 32 ≤ 31) ∧
    (∃ d ∈ (ringS 0x200000 63).dies, d.2.trRing ≠ 0 ∧ d.2.trRing.toNat / 65536 ≤ 63 ∧ 63 < d.2.trRing.toNat / 65536 + 32) ∧
    (∃ d ∈ (ringS 0x200000 32).dies, d.2.trRing ≠ 0 ∧ d.2.trRing.toNat / 65536 ≤ 32 ∧ 32 < d.2.trRing.toNat / 65536 + 32) := by decide +kernel
/-- The PGC that waits for FRAMECTL, and one that does not (FrameControl); answers of the context's generation and of another; a takeover (AnswersAndTakeover). -/
def fcS (h : Option Hold) : State := let s := stP .nop; { s with ev := { a := 2 }, groups := tabPut s.groups 0 { s.group 0 with hold := h } }
theorem witness_AnswersAndTakeover : ((tabFind (fcS (some .frameCtl)).groups (fcS (some .frameCtl)).pgc.serving).bind fun g => g.hold) = some .frameCtl ∧
    (tabFind (fcS none).groups (fcS none).pgc.serving).isSome = true ∧
    (BitVec.ofNat 256 3).extractLsb' 16 16 = ((stP .nop).ctx 3).gen ∧ (BitVec.ofNat 256 (3 + 2 ^ 16)).extractLsb' 16 16 ≠ ((stP .nop).ctx 3).gen ∧
    (stP .nop).pgc.takeover = none ∧ (pgcOf fun p => { p with takeover := some 5 }).pgc.takeover = some 5 := by decide +kernel

/-- Two resident sets of a plot, the groups of each with a register of its own; one of them halted (BankSwaps). -/
def swapS (halted : Bool) (x : Plot → Plot) : State :=
  let s := st .nop
  { s with ev := { a := 0 }, plots := tabMod {} s.plots 0 x, teams := tabPut s.teams 6 { tm with groups := [11], allGroups := [11] }
           groups := tabPut (tabPut s.groups 2 { s.group 2 with halted := halted }) 11 { s.group 2 with team := 6, slot := 3, loc := .shadow, k := [(1, 77)] } }
def shadowed (y : Plot) : Plot := { y with shadow := some { groups := [11] }, tsliceNext := some 9, slotPartNext := some 3 }
theorem witness_BankSwaps : Claims.activeBank (swapS true shadowed) 0 = [2] ∧ ((swapS true shadowed).group 2).halted = true ∧ ((swapS false shadowed).group 2).halted = false ∧
    ((swapS false id).plot 0).shadow = none ∧ (swapS false shadowed).pinned 0 = false ∧ ((swapS false shadowed).plot 0).spill = .idle ∧
    (swapS false shadowed).imageFor ((swapS false shadowed).plot 0) [2] = some 0 ∧ ([2] ++ [11]).Nodup ∧ ((swapS false shadowed).group 11).log = [] ∧
    (swapS false shadowed).mwaitOp 11 = none ∧ ([2, 11].all fun g => decide (((swapS false shadowed).group g).loc ≠ .gone ∧ ((swapS false shadowed).group g).pend = [])) = true ∧ ((swapS false fun y => { y with shadow := some { groups := [11] }, spill := .save }).plot 0).spill ≠ .idle ∧
    ([2, 11].all fun g => (tabFind (swapS false shadowed).groups g).isSome) = true := by decide +kernel
/-- The plot at each step of a spill, with a set that waits and with none (SpillSteps). -/
def spillS (x : SpillStep) (out : Option ResidentSet) (w : List ResidentSet) (b : Nat) : State :=
  let s := mapGib 0 (swapS false fun y => { y with spill := x, outgoing := out, spilled := w })
  { s with ev := { a := 0, b := b } }
def setOf (g im : Nat) : ResidentSet := { groups := [g], image := some im }
theorem witness_SpillSteps : let s := spillS .drain (some (setOf 2 1)) [] 1
    (s.plot 0).spill = .drain ∧ s.ev.flag = false ∧ (s.plot 0).outgoing = some (setOf 2 1) ∧ (s.team (s.group 2).team).cb = [] ∧ (s.team (s.group 2).team).commits = [] ∧
    ((List.range 8).all fun k => match (s.translateWalk 0 ((s.ctx 0).spillArea.toNat + 1 * 0x80000 + 65536 * k) .write).2 with | .ok _ _ => true | _ => false) = true ∧
    ((spillS .save (some (setOf 2 1)) [] 2).plot 0).spill = .save ∧ ((spillS .restoreTeams none [setOf 2 1] 2).plot 0).spilled ≠ [] ∧
    ((spillS .restoreSet none [setOf 2 1, setOf 11 0] 2).plot 0).spilled = setOf 2 1 :: [setOf 11 0] ∧ (tabFind (spillS .save none [] 2).groups 2).isSome = true ∧
    ((spillS .restoreTeams none [] 2).plot 0).spilled = [] := by decide +kernel

/-- A debugger that owns context 0 and one that does not; a request for the group in slot 0 of plot 0 (DebuggerControl). -/
def dbgS (own : Bool) (ev : Ev) (f : Group → Group) : State :=
  let s := st .nop
  { s with ev := ev, regs := { s.regs with dbgOwn := if own then 1 else 0 }, groups := tabPut s.groups 2 (f { s.group 2 with pend := [] }) }
def halted (g : Group) : Group := { g with halted := true, v := [(79, List.replicate 64 5)] }
theorem witness_DebuggerControl : let s := dbgS true { v := 0 } id
    (s.plot 0).swapAsked = false ∧ s.regs.dbgOwn.getLsbD 0 = true ∧ (dbgS false {} id).regs.dbgOwn.getLsbD (fld (0 : DWord).toNat 4 6) = false ∧ (0 : DWord).extractLsb' 2 2 ≠ 2 ∧
    s.scopeGroups 0 = [2] ∧ (dbgS true {} halted).scopeGroups 0 = [2] ∧ (s.group 2).halted = false ∧ ((dbgS true {} halted).group 2).halted = true ∧
    ((dbgS true {} halted).group 2).queuedTres = [] ∧ (dbgS true {} halted).mwaitOp 2 = none ∧
    ((dbgS true {} halted).plot ((dbgS true {} halted).group 2).plot).expiryDeferred = false ∧ ((dbgS true {} halted).group 2).pgc = false ∧
    ((dbgS true {} halted).group 2).ctx = 0 ∧ ((dbgS true {} halted).group 2).ops = [] ∧ 79 < 16 * ((dbgS true {} halted).group 2).rows ∧
    (((dbgS true {} halted).group 2).readV 79).length = 64 ∧ (((dbgS true {} halted).group 2).readV 0).length = 64 := by decide +kernel

/-- A tick that has not come, one that has passed, one that stands now in each cycle of its period (StopsRingsSlots). -/
def stopS (tick cycle : Nat) (r : Regs → Regs) : State :=
  let s := st .nop
  { s with cycle := cycle, regs := r { s.regs with tstopt := BitVec.ofNat 64 tick } }
/-- A ring of 32 reserved frames, one of which 31 are reserved, one off a 2 MiB boundary; a turn of a unit with nothing to issue (StopsRingsSlots). -/
def trS (n v : Nat) (d : Nat) : State :=
  let s := st .nop
  { s with frames := (List.range n).map fun i => (64 + i, { reserved := true }), ev := { a := d, v := BitVec.ofNat 64 v } }
theorem witness_StopsRingsSlots : (stopS 5 9 id).tick < 5 ∧ 4 = (stopS 4 9 id).tick ∧ (stopS 4 9 id).cycle % 2 = 1 ∧ 4 = (stopS 4 8 id).tick ∧
    (stopS 4 8 id).regs.haltReqs = [] ∧ (stopS 4 8 fun r => { r with haltReqs := [0x10] }).regs.haltReqs = [0x10] ∧ (0x10 : DWord).extractLsb' 0 2 = 0 ∧
    ((List.range 32).all fun i => let s := trS 32 0x400000 5; decide (0x400000 / 65536 + i < s.hbmFrames) && (s.frame (0x400000 / 65536 + i)).reserved) = true ∧
    ((trS 31 0x400000 5).frame (0x400000 / 65536 + 31)).reserved = false ∧ 0x410000 % 2 ^ 21 ≠ 0 ∧
    ({ st .nop with todo := [5, 7], ev := { a := 5 } } : State).slotGroup 5 = none ∧ ({ st .nop with todo := [5, 7], ev := { a := 7 } } : State).todo.head? ≠ some 7 ∧
    (match (st .nop).unitTurn 0 with | .idle _ => false | _ => true) = true ∧
    (match ({ st .nop with todo := [5, 7], ev := { a := 5 } } : State).unitTurn 5 with | .idle _ => true | _ => false) = true := by decide +kernel

/-- A turn of each kind with nothing to issue: an exited group, a blackout, a halt, a lost team, a hold; the count of a cycle's eligible groups, and the end of
that cycle (StopsRingsSlots). -/
def slotS (f : Group → Group) (x : Plot → Plot) : State :=
  let s := { st .nop with todo := [0, 7], ev := { a := 0 } }
  { s with groups := tabMod {} s.groups 2 f, plots := tabMod {} s.plots 0 x }
theorem witness_Charges : let s := slotS id id
    s.slotGroup 0 = some 2 ∧ (s.group 2).plot = 0 ∧ (s.group 2).loc = .active ∧ ((s.group 2).clause.map fun c => c.second) = some false ∧
    ((slotS (fun g => { g with loc := .gone }) id).group 2).loc ≠ .active ∧ (slotS id fun x => { x with blackout := 5 }).cycle ≤ 5 ∧
    ((slotS (fun g => { g with halted := true }) id).group 2).stepping = false ∧ s.faultHeld 2 (s.group 2) = false ∧
    (slotS (fun g => { g with lostHold := true }) id).faultHeld 2 ((slotS (fun g => { g with lostHold := true }) id).group 2) = true ∧
    ([Hold.flags 3, .tile .nop, .barWait 3 false 9, .mwait 3 5 none false 0 0, .racq 3 9].all fun h => (Claims.heldReason h).isSome) = true ∧
    tabSorted s.plots = true ∧ ({ s with todo := [385, 0], ev := { a := 385 } } : State).todo = 385 :: [0] := by decide +kernel
/-- A line that a plot waits for, of a page that may run, of one that may not, and of one under a `pmove` (InstructionLines). -/
def lineS (flags : Nat) (mv : List (Nat × Nat)) (wait : Bool) : State :=
  let s := (mapGib 0 (st .nop)).writeMem 0x102000 (natBytes 8 (flags + 16384 * 2 ^ 21))
  let s := if wait then s.modPlot 0 (fun x => { x with fetching := [(0, 0x400)] }) else s
  { s with ev := { a := 0, b := 0, v := 0x10000 }, pgc := { s.pgc with moving := mv } }
theorem witness_InstructionLines : (lineS 0x18007B [] true).ev.v.toNat / 64 * 64 = 0x10000 ∧ ((lineS 0x18007B [] true).plot 0).fetching.contains (0, 0x400) = true ∧
    ((lineS 0x18007B [] false).plot 0).fetching.contains (0, 0x400) = false ∧ (lineS 0x18007B [(0, 0x102000)] true).isMoving 0 0x10000 = true ∧
    (lineS 0x18007B [] true).isMoving 0 0x10000 = false ∧
    (match (lineS 0x18007B [] true).translate 0 0 0x10000 .fetch with
      | (m, .ok dpa _) => decide (m.eccErrors = [] ∧ m.l2Errors = [] ∧ m.poisoned dpa = false ∧ isPool dpa = false ∧ fld (tabGet 0 m.regs.brkMap 0).toNat 0 57 = 0 ∧
          descFmt (m.readDesc dpa) = 0) | _ => false) = true ∧
    restB ((lineS 0x18007B [] true).translate 0 0 0x10000 .fetch).1 = true ∧
    (let s := (lineS 0x18007B [] true).setFrame (0x40010000 / 65536) { zeroing := some 7 }
     (s.translate 0 0 0x10000 .fetch).1.blockWait 0x40010000) = some 7 ∧
    (match ((lineS 0x18003B [] true).translate 0 0 0x10000 .fetch).2 with | .perm => true | _ => false) = true := by decide +kernel

/-! ## Witnesses: votes, culls, regrafts, field tests -/

/-- Plot 25 and its neighbours, with one record of plot 25 about the neighbour in direction 0 and a flit; a machine in which plot 25 is changed
(HeartbeatsAndVotes). -/
def nbr0 : Nat := (plotNbr 25 0).getD 999
def nbS (x : Nbr) (f : BitVec 256) (g : Plot → Plot := id) : State :=
  let s := (st .nop).modPlot 25 (fun y => { y with nbr := [(0, x)] })
  { s.modPlot nbr0 g with ev := { a := 25, b := 0, f := f }, cycle := 0x6000 }
def hb (kind subj tick : Nat) : BitVec 256 := (st .nop).flit nbr0 kind subj tick 0 0
def goodB (f : BitVec 256) (kind : Nat) : Bool :=
  decide (crc32c 0 (natBytes 28 (f.toNat % 2 ^ 224)) = f.extractLsb' 224 32 ∧ f.extractLsb' 18 11 = 0 ∧ f.extractLsb' 36 12 = 0 ∧ (f.extractLsb' 29 3).toNat = kind)
theorem goodFlit_of {f : BitVec 256} {k : Nat} (h : goodB f k = true) : Claims.goodFlit f k := by simpa [goodB, Claims.goodFlit] using h
def selfFailing : BitVec 256 := (nbS {} 0 fun x => { x with selfFail := true }).flit nbr0 0 0 5 0 0
theorem witness_HeartbeatsAndVotes : (st .nop).inService 25 = true ∧ (st .nop).inService 384 = false ∧ ((st .nop).plot 25).failed = 0 ∧
    plotNbr 25 0 = some nbr0 ∧ nbr0 < 384 ∧ (nbS {} 0).votes 25 = true ∧ ((st .nop).modPlot 25 fun x => { x with failed := 1 }).votes 25 = false ∧
    ((nbS {} 0 fun x => { x with culled := true }).plot nbr0).culled = true ∧ goodB (hb 0 0 5) 0 = true ∧ goodB (hb 1 0 5) 0 = false ∧
    goodB selfFailing 0 = true ∧ selfFailing.getLsbD 35 = true ∧ (hb 0 0 5).getLsbD 35 = false ∧ ((hb 0 0 5).extractLsb' 0 9).toNat = nbr0 := by decide +kernel
/-- Every state, number of misses and sight of the table of R373 (HeartbeatsAndVotes). -/
def sights : List Nbr := [{ good := 1 }, {}, { bad := 1, good := 1 }, { good := 3 }, { flits := 17 }, { babble := true }]
theorem witness_periods : sights.map Claims.sight = [0, 1, 2, 3, 3, 3] ∧ ((nbS { st := 2, clean := 255, good := 1 } 0).plot nbr0).culled = false ∧
    Claims.sight { st := 2, clean := 255, good := 1 } = 0 ∧ tabGet {} ((nbS { st := 2, clean := 255, good := 1 } 0).plot 25).nbr 0 = { st := 2, clean := 255, good := 1 } := by
  decide +kernel
/-- A plot hears a neighbour of its neighbour accuse it, as the first and as one of many (HeartbeatsAndVotes). -/
def far0 : Nat := ((plotNbrs nbr0).find? (fun q => decide (q ≠ 25))).getD 999
def accS (kind : Nat) (acc : List Nat) (g : Plot → Plot := id) : State :=
  let s := nbS { accusers := acc } 0
  { s.modPlot far0 g with ev := { a := 25, b := 0, f := s.flit far0 kind nbr0 7 0 0 } }
theorem witness_accusations : ([1, 2].all fun k => goodB (accS k []).ev.f k && decide (((accS k []).ev.f.extractLsb' 0 9).toNat = far0 ∧
      ((accS k []).ev.f.extractLsb' 9 9).toNat = nbr0)) = true ∧ nbr0 ∈ plotNbrs 25 ∧ far0 ∈ plotNbrs nbr0 ∧ dirOf 25 nbr0 = 0 ∧
    (accS 1 [] fun x => { x with culled := true }).votes 25 = true ∧
    (let l := (accS 1 []).liveNbrs nbr0; let a := l.filter (fun q => q ≠ far0)
     (∃ n, n ≤ a.length ∧ ¬ l.length < 2 * (l.filter (fun q => (a.take n).contains q)).length ∧
       l.length < 2 * (l.filter (fun q => (insertNat (a.take n) far0).contains q)).length)) := by
  refine ⟨by decide +kernel, by decide +kernel, by decide +kernel, by decide +kernel, by decide +kernel, 1, by decide +kernel, by decide +kernel, by decide +kernel⟩

/-- An announcement of a cull for a plot that has heard none, an earlier one and a later one; a plot whose tick has come (Culls). -/
def cullS (at? : Option Nat) (g : Plot → Plot := id) : State :=
  let s := (st .nop).modPlot 25 (fun x => g { x with cullAt := at? })
  { s with cycle := 1024, ev := { a := 25, f := s.flit nbr0 3 25 512 0 0 } }
theorem witness_Culls : goodB (cullS none).ev.f 3 = true ∧ ((cullS none).ev.f.extractLsb' 9 9).toNat = 25 ∧ ((cullS none).ev.f.extractLsb' 64 64).toNat = 512 ∧
    ((cullS none).plot 25).culled = false ∧ ((cullS (some 512)).plot 25).cullAt = some 512 ∧ ((cullS (some 513)).plot 25).cullAt = some 513 ∧
    (cullS (some 512)).tick = 512 ∧ (cullS (some 512)).cmds = [] ∧ (cullS (some 512)).teamsOn 25 = [] ∧ ((cullS (some 512)).die (plotDie 25)).trRing = 0 ∧
    tabGet [] (cullS (some 512)).nvm.regrafts 25 = [] ∧
    (∀ q ∈ plotNbrs 25, ((cullS (some 512)).plot q).culled = false ∧ ∃ r ∈ (cullS (some 512)).liveNbrs q, r ≠ 25) ∧ tabSorted (cullS none).groups = true ∧
    goodB (cullS none (fun x => { x with culled := true })).ev.f 3 = true := by decide +kernel

/-- Announcements at their sender's own neighbour and further away; a sound device, at which an announcement is due everywhere (HeartbeatsAndVotes, Culls). -/
theorem witness_casts : tabSorted (accS 1 []).plots = true ∧ (∀ e ∈ (accS 1 []).plots, e.2.culled = false) ∧ hopsXY 25 383 ≠ 0 ∧
    (cullS none).ev.b ≤ 1 ∧ ¬ ({ cullS none with ev := { b := 9 } } : State).ev.b ≤ 1 ∧ nbr0 ∈ plotNbrs 25 ∧ (cullS none).votes 25 = true := by decide +kernel
/-- A plot that is culled with a team and a command of its own, that holds grains in M and O, and that has been regrafted twice within 24 hours (Culls). -/
def cullT (f : State → State) : State :=
  let s := (st .nop).modPlot 0 (fun x => { x with cullAt := some 512, l1 := [(8, { line := 9, grain := 32, sect := [(0, .m), (3, .o), (5, .s)] })] })
  f { s with cycle := 1024, ev := { a := 0 } }
theorem witness_cullTeams : let s := cullT fun s => { s with cmds := [(3, { cmd 0 .running with plot := 0 })], nvm := { s.nvm with regrafts := [(0, [1, 2])] } }
    (s.plot 0).cullAt = some 512 ∧ s.tick = 512 ∧ (s.plot 0).culled = false ∧ tabFind s.teams 5 = some tm ∧ tm.live = true ∧ tm.plot = 0 ∧
    (s.cluster tm.cluster).live = true ∧ 5 ∈ (s.cluster tm.cluster).teams ∧ (s.cluster tm.cluster).handler = false ∧ (tabFind s.cmds 3).isSome = true ∧
    tabGet [] s.nvm.regrafts 0 = [1, 2] ∧ s.boot.opBase + s.tick ≤ 1 + 86400000000000 ∧ (s.plot 0).stranded = false := by decide +kernel
theorem witness_cullGrains : let s := { cullT id with teams := [] }
    s.cmds = [] ∧ s.teamsOn 0 = [] ∧ (s.die (plotDie 0)).walkers = [] ∧ (s.die (plotDie 0)).pubQueue = [] ∧ (s.die (plotDie 0)).trRing = 0 ∧
    restB s = true ∧ ((tabFind (s.plot 0).l1 8).map fun l => l.sect.map fun e => e.2) = some [Coh.m, .o, .s] ∧
    (∀ q ∈ plotNbrs 0, (s.plot q).culled = false ∧ ∃ r ∈ s.liveNbrs q, r ≠ 0) := by decide +kernel

/-- A culled plot at the end of its self-test, with an operation of TESTCTL that waits for it and without (Readmissions). -/
def outS (g : Plot → Plot) (r : Regs → Regs) (ev : Ev) : State :=
  let s := (st .nop).modPlot 25 (fun x => g { x with culled := true, cullTick := 3 })
  { s with cycle := 1024, regs := r s.regs, ev := ev }
theorem witness_selfTest : let s := outS (fun x => { x with testEnd := some 512 }) (fun r => { r with testBusy := true, testRun := (1, 25, 0) }) { a := 25, flag := true }
    (s.plot 25).culled = true ∧ (s.plot 25).testEnd = some 512 ∧ s.regs.testBusy = true ∧ s.regs.testRun.1 = 1 ∧ s.regs.testRun.2.1 = 25 ∧
    ((st .nop).plot 25).culled = false ∧ (outS id id {}).regs.testBusy = false ∧ ((outS id id {}).plot 25).testEnd = none ∧ s.liveNbrs 25 ≠ [] := by decide +kernel
/-- The appeal of plot 25 at its neighbour, and the tag that its check compares (Readmissions). -/
def appealS : State := { outS id id {} with ev := { a := nbr0, b := dirOf nbr0 25, f := (outS id id {}).flit 25 4 25 3 0 0 } }
theorem witness_appeal : appealS.votes nbr0 = true ∧ goodB appealS.ev.f 4 = true ∧ plotNbr nbr0 appealS.ev.b = some 25 ∧ (appealS.ev.f.extractLsb' 0 9).toNat = 25 ∧
    (appealS.ev.f.extractLsb' 9 9).toNat = 25 ∧ (appealS.plot 25).culled = true ∧ 25 ∉ appealS.nvm.retiredPlots := by decide +kernel
def taggedOf (p : BitVec 9) (a : BitVec 64) : BitVec 256 := (a.setWidth 256 <<< 160) ||| p.setWidth 256
theorem taggedOf_fields (p : BitVec 9) (a : BitVec 64) :
    (taggedOf p a).extractLsb' 0 9 = p ∧ (taggedOf p a).extractLsb' 128 32 = 0 ∧ (taggedOf p a).extractLsb' 160 64 = a := by
  refine ⟨?_, ?_, ?_⟩ <;> ext i h
  · simp [taggedOf, show i < 160 from by omega, show i < 256 by omega, BitVec.getLsbD_eq_getElem h]
  · simp [taggedOf, show 128 + i < 160 from by omega, show 128 + i < 256 by omega, BitVec.getLsbD_of_ge _ (128 + i) (show 9 ≤ 128 + i by omega)]
  · simp [taggedOf, show 160 + i < 256 by omega, BitVec.getLsbD_of_ge _ (160 + i) (show 9 ≤ 160 + i by omega), BitVec.getLsbD_eq_getElem h]
def checkS : State := { appealS with ev := { a := nbr0, f := taggedOf 25 (Config.attestTag (25 + 3 * 2 ^ 41)) } }
theorem witness_attestCheck : (appealS.plot 25).cullTick = 3 ∧ (0 : BitVec 32).extractLsb' 0 16 = 0 ∧ appealS.votes nbr0 = true ∧ (appealS.plot 25).culled = true := by
  decide +kernel
/-- A vote and an announcement of a readmission; a plot whose readmission has come (Readmissions). -/
def readS (tick : Nat) (g : Plot → Plot) (vote : List Nat) : State :=
  let s := (outS g id {}).modPlot nbr0 (fun x => { x with nbr := [(dirOf nbr0 25, { st := 3, readmit := vote })] })
  { s with ev := { a := nbr0, f := s.flit ((s.liveNbrs 25).getD 1 0) 5 25 tick 0 0 } }
theorem witness_Readmissions : let s := readS 0 id []; let w := readS 512 (fun x => { x with readmitAt := some 512 }) []
    goodB s.ev.f 5 = true ∧ (s.ev.f.extractLsb' 9 9).toNat = 25 ∧ (s.ev.f.extractLsb' 64 64).toNat = 0 ∧ (w.ev.f.extractLsb' 64 64).toNat = 512 ∧ s.votes nbr0 = true ∧
    25 ∈ plotNbrs nbr0 ∧ (s.ev.f.extractLsb' 0 9).toNat ∈ s.liveNbrs 25 ∧ (w.plot 25).readmitAt = some 512 ∧ w.tick = 512 ∧ (w.plot 25).culled = true ∧
    (w.plot 25).retired = false ∧ (w.die (plotDie 25)).trRing = 0 := by decide +kernel

/-- A key of 4,096 bits whose hash the fuse store holds, a package that it signs, and the image of which it is the key (FieldTests, DeviceStarts). -/
def keyModulus : Nat := [0x9daaa0b3a68a355968b87340a01cd23715637e4d1574c9fee3e7d420769d800a3022ddb6a68776eb4aca8e7da6fb6eddae951523eb0e5b8c50d28de3a289e684,
   0x4e35693dfab2b89ca8c0e9c0153b774fc4d7a0533a904bf0160ccabab4f62d75cbc8c574f553395d1ad613158dd29e1c0d13bcb4f990b1c477c5f4ab4ed9ae83,
   0xf208761df38f2beb73f36d0caf107550f2a0f52df32c77ae4a512c2396e71206eb6dc4db7bc6c0869dc8cf69a881a18dd3271e6bf6e5a6d849c919bee8e0436f,
   0x0cac19ddce1720b8eeafc74a7fcf7aec1fe44cb76e69c0c57ca4e0488209040922f9ced921b4255799d0987608b2ecff40d2c79cc99a60643cbca51e5b03de37,
   0x9153765bcbff205efd8de67bfe4e41591df2c3cf5a54deb8cea3d2082c2d44add77cb5507e58d6b729ace6adb51b9f8dd257babf01b61509ffbe4c773dbc7850,
   0x77eec3330b2ccd73772132840eafc17481cb2d075ace9446a64d6221eb06b45002c557c2d6cf427941efc0ca137fc6c51b917f424121f8728efe66f67a46531d,
   0xa3a6f48c7d315e5802f873611fa598da27531f62dbe8faf70efe9b9d0ebbbd1967e6506d86fe4110e915dd3d3a314b52adff88a838f104a3fe7d4b6fdafce4b2,
   0x2fbbbf4c0f57c3efa0284fcb3225f7e332b1f073297e52c2bb3f6cf53875089b0824c4afefcf1df3b2617da6207b5b8275cb52ba5a39f60e831a1d20e25dd5d9].foldl (fun v x => v * 2 ^ 512 + x) 0
def packageSig : Nat := [0x574f9be23a2e0adbc26dcfa04a247e1b6a0976f3bf8017b3deaa7129f93c92ee8df0ed7ffc7bea05760473f88ae048d45f2f22974135b402bba05c01f6eb0220,
   0xfe99b206811077c08eb8bb09a4e97113400dcbb2d60e60db9de88b6ed5b0ea4e9d45495fe86421333a14bbee24909a730fb14e816499d631276780bdcc2b3b6d,
   0xa997752f7a79f87cfd9fc6021b2427db0837dbccd65ce657592ee8e4527743b7e22173db3c5ef95d31667b4b94ef45ad60143d3733b151609e3e9e71aa9f5361,
   0x31d273107b4d92b325e38531f0c1039b08cdad20fcc57e687032aef2fa4409988be49c08380a7ecee9a3573a35e7d61acaaf38d4b93345d549e6609b6b506480,
   0x662532fc2eaae8388ed3fef2c1f0ce7a61851873f654b144366269d116d13338910704b9c9164591f695a56565dd6ebd85fb63081fdfd52d3f2288547534bb5f,
   0xac7abf2cefc2e9c314b94a9b43c4dce173ced596ab0ca4dce260cf36e12fcf042ab41de96a22d508873010e69732034d0c7376ced7e57503b5cb255fc9ddcdd3,
   0x53ff92cae1e67faaf63bce9a763c2ed469bddbc8c6145f4788a69bd5c28e24a200abfd2f95e829be4c8ed885d139aa9845f26355e85ae2af4a38b9afbd9ff3c0,
   0x301816477c9c29afd9c5946ba7cef01c79f9e887653213c9aa9ad95bd9d08278937ec5b2ffec3952ac4bf424b450cb01e9120ca3e1355ea0c0ea0045b93b8033].foldl (fun v x => v * 2 ^ 512 + x) 0
def imageSig : Nat := [0x8196106400cec0b1375efcc6efac367e77556e30e3fae672c9358dc8de12d3b9e8f02db22896071a55c72126bd564dfd99bc3afa1e5023caee74942cdb54a079,
   0x3f91d73c8df987b4fd7cad88b16c8753ee581f91d1d2a1546aae2dc51e0a86d1abd18bdc1e15e9793d8148495dbd93e35a5bc6b228ba1048336e48e4371d4e7d,
   0x58fc31469c334726d1350ad3b564683648cf47be74d966984e4cf42628e2b2be2959570c879c8a8fbac13ded1011a81f7047f3e6eac62f69b1249ed1a212887e,
   0xf02eb3f8a72825e3559e331bce90e55e05a48fb3dec20e840c69dbf40e3aa37c5a48ed10fad49f296e82afca3803332d8ea9e9dd5a7de3736a38b7eb3d53fa5b,
   0x90f90b5e6c2ac11f167307a2100ed0c2a892da16681c78138fac62a2864359f1c49ef7db543e6d98dbbcfdc3985a10c1a8ab316906c969845dad93985468f65c,
   0xdf846cc84de2405ff7bcec2d3c29955f58ac8240e7fb0150ffc1a8f7c90a5e2cb534a18ce68850d4542af20e0c27a89d51e59b2ce474ae4f12c9d3bd25ec2624,
   0xb86cf1e3aae740ecbd52af98c58192b0c2cdb915fee0ba163b223241f6c9f54a6f2af72a0d7bf7ae395ab2dc02ace0c3d0b11dc7159ddac5b92b23b62f3249b1,
   0xaa12daddde7b0da024c71f2749e480b22504bf22b950ca3a39f5e8f168ab67d79d90b8f424849592bad7023088f80602ea9eba9c30f46357a7c96a7565975cff].foldl (fun v x => v * 2 ^ 512 + x) 0
def testKey : PublicKey := { modulus := keyModulus, exponent := 65537 }
def keyHash : BitVec 512 := 0x554619d2e05caf9b833540a1925340eb1b754c26e473408ef49583e5a34d1e3c05d3f5375fae079572d189186c0611c7020b89e8c7ea6e5f5ace6c7fe6ecaf55
def goodImage : FirmwareImage := { version := 5, bytes := [0x11, 0x22, 0x33], key := testKey, sig := imageSig }
/-- The header and the targets 0 and 95 of a package of quads, then its signature; host memory holds it at TESTADDR. -/
def packageHead : Nat := 7 + 2 ^ 16 + 2 * 2 ^ 24 + 640 * 2 ^ 32 + 95 * 2 ^ 528
def packageByte (head sig i : Nat) : Byte := BitVec.ofNat 8 (if i < 128 then head >>> (8 * i) else sig >>> (8 * (639 - i)))
def cells (b : Nat) (f : Nat → Byte) (s n : Nat) : Memory := ((List.range' s n).map fun i => (b + i, f i)).filter fun c => decide (c.2 ≠ 0)
theorem tabGet_cells (b j : Nat) (f : Nat → Byte) : ∀ n s, tabGet 0 (cells b f s n) (b + j) = if s ≤ j ∧ j < s + n then f j else 0
  | 0, s => by rw [if_neg (by omega)]; rfl
  | n + 1, s => by
    have ih := tabGet_cells b j f n (s + 1)
    unfold cells at ih ⊢
    rw [List.range'_succ, List.map_cons, List.filter_cons]
    by_cases e : j = s
    · subst e
      rw [if_neg (by omega)] at ih
      split
      · simp [tabGet, tabFind]
      · simp_all
    · have ne : ¬ b + s = b + j := by omega
      split
      · rw [tabGet, tabFind, if_neg (by simpa using ne)]
        rw [tabGet] at ih
        rw [ih]
        split <;> split <;> first | rfl | omega
      · rw [ih]
        split <;> split <;> first | rfl | omega
def testS (head sig : Nat) (op : Nat) (busy : Bool) (g : Plot → Plot := id) : State :=
  let s := (st .nop).modPlot 25 g
  { s with mem := cells 0x0004000000000000 (packageByte head sig) 0 640, ev := { a := 25 }, regs := { s.regs with testBusy := busy, testRun := (op, 25, 1) }, nvm := { s.nvm with keys := [(keyHash, false)], image := goodImage } }
theorem testS_mem (head sig op : Nat) (busy : Bool) (g : Plot → Plot) :
    (testS head sig op busy g).mem = cells 0x0004000000000000 (packageByte head sig) 0 640 := rfl
def goodTest (op : Nat) (busy : Bool) (g : Plot → Plot := id) : State := testS packageHead packageSig op busy g
theorem witness_FieldTests : (goodTest 0 true).regs.testBusy = true ∧ (goodTest 0 true).regs.testRun.1 = 0 ∧ (goodTest 1 true).regs.testRun.1 = 1 ∧
    (goodTest 0 true).ev.flag = false ∧ (goodTest 0 true).regs.testAddr.toNat + 4096 * (goodTest 0 true).regs.testRun.2.2 ≤ 2 ^ 50 ∧
    ((goodTest 1 true fun x => { x with culled := true, testEnd := some 9 }).plot 25).testEnd = some 9 ∧ 25 ∉ (goodTest 1 true).nvm.retiredPlots ∧
    ((goodTest 1 true fun x => { x with withdrawn := true }).plot 25).withdrawn = true ∧ (goodTest 1 true).teamsOn 25 = [] ∧ (goodTest 1 true).teamsOn 0 ≠ [] := by
  decide +kernel
theorem package_byte (j : Nat) (h : j < 640) : (goodTest 0 true).readByte (0x0004000000000000 + j) = packageByte packageHead packageSig j := by
  have hp : (goodTest 0 true).phys (0x0004000000000000 + j) = 0x0004000000000000 + j := by
    have : isPool (0x0004000000000000 + j) = false := by simp [isPool]; omega
    simp [State.phys, State.frameHolding, this]
  have hd : (goodTest 0 true).deadAt (0x0004000000000000 + j) = false := by
    have : isHbm (goodTest 0 true) (0x0004000000000000 + j) = false := by
      have n : (goodTest 0 true).hbmFrames = 4128768 := by decide +kernel
      simp [isHbm, n]; omega
    simp [State.deadAt, this]
  have hm : (goodTest 0 true).mem = cells 0x0004000000000000 (packageByte packageHead packageSig) 0 640 := testS_mem _ _ _ _ _
  rw [State.readByte, hp, State.rawByte, hd, if_neg Bool.false_ne_true, hm, tabGet_cells, if_pos (by omega)]
theorem package_bytes (o n : Nat) (h : o + n ≤ 640) :
    (goodTest 0 true).readMem (Claims.packageAt (goodTest 0 true) o) n = (List.range n).map fun i => packageByte packageHead packageSig (o + i) := by
  refine List.map_congr_left fun i hi => ?_
  have : i < n := List.mem_range.1 hi
  rw [← package_byte (o + i) (by omega)]
  exact congrArg _ (by show 0x0004000000000000 + 0 + o + i = _; omega)
/-- A target beyond the last quad; a package of plots up to the last. -/
theorem witness_packageBad : Claims.packageBad (testS (packageHead + 2 ^ 528) packageSig 0 true) 1 ∧ ¬ Claims.packageBad (goodTest 0 true) 1 := by
  refine ⟨.inr (.inr (.inr (.inr (.inr (.inr (.inl ⟨1, by decide +kernel, by decide +kernel⟩)))))), ?_⟩
  have hi : ∀ i, i < Claims.packageCount (goodTest 0 true) →
      ¬ (if Claims.packageKind (goodTest 0 true) = 0 then 384 else 96) ≤ Claims.packageTarget (goodTest 0 true) i := by decide +kernel
  have ho : ∀ o, o < 64 → 8 ≤ o → (goodTest 0 true).readByte (Claims.packageAt (goodTest 0 true) o) = 0 := by decide +kernel
  rintro (h | h | h | h | h | h | ⟨i, h, hc⟩ | ⟨o, h8, h64, h⟩)
  · exact absurd h (by decide +kernel)
  · exact absurd h (by decide +kernel)
  · exact absurd h (by decide +kernel)
  · exact absurd h (by decide +kernel)
  · exact absurd h (by decide +kernel)
  · exact absurd h (by decide +kernel)
  · exact hi i h hc
  · exact h (ho o h64 h8)
/-- A trusted package, and one with another signature. -/
theorem witness_packageTrusted : Claims.packageTrusted (goodTest 0 true) (goodTest 0 true).nvm.image.key ∧
    ¬ Claims.packageTrusted (goodTest 0 true) {} :=
  ⟨⟨⟨keyHash, List.mem_singleton.2 rfl, by decide +kernel⟩, by
    have n : Claims.packageTotal (goodTest 0 true) - 512 = 128 := by decide +kernel
    intro m
    rw [show m = 128 from n, package_bytes 0 128 (by omega), package_bytes 128 512 (by omega)]; decide +kernel⟩, fun ⟨⟨h, m, e⟩, _⟩ => absurd (List.mem_singleton.1 m) (fun k => absurd e (by rw [(Prod.mk.inj k).1]; decide +kernel))⟩
/-- FIPS 180-4's example of a digest. -/
theorem test_sha512 : sha512 3 0x616263 = 0xDDAF35A193617ABACC417349AE20413112E6FA4E89A97EA20A9EEEE64B55D39A2192992A274FC1A836BA3C23A3FEEBBD454D4423643CE80E2A9AC94FA54CA49F := by
  decide +kernel

/-! ## Witnesses: resets, registers from outside, starts, power -/

/-- A machine with nothing of context 3, whose vectors are masked or not; a reset that has no lease to wait for, and one that waits (ContextResets). -/
def quietS (ev : Ev) (f : Context → Context) : State := ({ st .nop with ev := ev } : State).modCtx 3 f
theorem witness_Quiet (ev : Ev) (f : Context → Context) (h : (f {}).launches = []) (h' : (f {}).arenas = []) : Claims.Quiet (quietS ev f) 3 := by
  have hc : (quietS ev f).ctx 3 = f {} := by simp [quietS, State.ctx, State.modCtx, tabGet, tabMod, st, mach, State.reset]
  refine ⟨?_, ?_, ?_, hc ▸ h, hc ▸ h', rfl, rfl⟩
  · intro e he hctx; simp only [quietS, State.modCtx, st, mach, List.mem_singleton] at he; subst he; exact absurd hctx (by decide)
  · intro e he hctx; simp only [quietS, State.modCtx, st, mach, List.mem_singleton] at he; subst he; exact absurd hctx (by decide)
  · intro e he; exact absurd he (by simp [quietS, State.modCtx, st, mach, State.reset])
theorem witness_ContextResets : (quietS { a := 3 } id).leases = [] ∧ (quietS { a := 3 } id).ctxFrames 3 = [] ∧ ((quietS { a := 3 } id).ctx 3).busy = false ∧
    ((quietS { a := 3 } fun x => { x with busy := true }).ctx 3).busy = true ∧ ((quietS { a := 3 } id).ctx 3).msixMask.getLsbD 65 = true ∧
    ((quietS { a := 3 } fun x => { x with msixMask := 0 }).ctx 3).msixMask.getLsbD 64 = false := by decide +kernel
/-- A function that is masked, vectors that are pending behind their masks, one that is not (RegisterWrites). -/
theorem witness_msix : ((quietS { a := 3, b := 66 } fun x => { x with msixAll := true, msixMask := 6, msixPending := 15 }).ctx 3).msixAll = true ∧
    (let x := (quietS { a := 3, b := 1 } fun x => { x with msixMask := 6, msixPending := 2 }).ctx 3
     x.msixAll = false ∧ (∀ k, k < 66 → x.msixPending.getLsbD k = true → x.msixMask.getLsbD k = true)) := by decide +kernel
def awaitS : State := { quietS { a := 3, b := 1, flag := true } (fun x => { x with busy := true }) with leases := [(7, { req := some { tag := 1, ret := true, sent := 0 }, resetBy := some (3, true) })] }
theorem witness_awaited : (awaitS.ctx 3).busy = true ∧ (∃ e ∈ awaitS.leases, e.2.resetBy = some (3, true) ∧ e.2.req.isSome = true) ∧ tabSorted awaitS.leases = true := by
  decide +kernel

/-- A write at an offset of a space, while the compute dies run and while they do not (RegisterWrites). -/
def wrS (r : RegSpace) (a : Nat) (v : DWord) (down : Bool) : State :=
  let s := st .nop
  { s with ev := { a := a, v := v, ext := .space r }, boot := { s.boot with minimal := down } }
theorem witness_RegisterWrites : (wrS (.window 63) 0x58 5 false).boot.minimal = false ∧ (wrS (.window 63) 0x58 5 false).boot.starting = false ∧
    (wrS .pf (0x1000 * 63 + 8 * 11) 5 true).boot.minimal = true ∧ (wrS .pf 0x71008 1 false).regs.testBusy = false ∧ (1 : DWord).getLsbD 0 = true ∧
    ({ wrS .pf 0x71008 1 false with regs := { (wrS .pf 0 0 false).regs with testBusy := true } }).regs.testBusy = true ∧
    ({ wrS .debug 8 1 false with regs := { (wrS .pf 0 0 false).regs with stopped := true } }).regs.stopped = true ∧ (1 : DWord).extractLsb' 0 2 ≠ 3 ∧
    (3 : DWord).extractLsb' 0 2 = 3 ∧ (wrS .debug 8 1 false).regs.stopped = false := by decide +kernel

/-- A function that is enabled, and one that is not (ContextResets, RegisterWrites). -/
theorem witness_Answers : Claims.Answers (quietS { a := 0 } id) 0 ∧ ¬ Claims.Answers (quietS { a := 3 } id) 3 ∧ ¬ Claims.Answers (quietS { a := 64 } id) 64 ∧
    Claims.Answers { quietS { a := 63 } id with boot := { State.reset.boot with vfEnable := true } } 63 :=
  ⟨.inl rfl, fun h => by rcases h with h | ⟨_, h⟩ <;> exact absurd h (by decide +kernel), fun h => by rcases h with h | ⟨h, _⟩ <;> exact absurd h (by decide),
    .inr ⟨by decide, rfl⟩⟩

/-- Context 0 with its tables at a page of HBM, of a pool lease, of host memory, and nothing that runs for it (ResetSteps). -/
def mapS (leaf : Nat) (f : Context → Context) : State := { tables 0x100000 leaf with teams := [], clusters := [], ev := { a := 0 } }.modCtx 0 f
def hostLeaf : Nat := 0x180073 + 2 * 2 ^ 13 + 5 * 2 ^ 21
def poolLeaf : Nat := 0x180073 + 1 * 2 ^ 13 + 7 * 2 ^ 36
def ledgerS : State := mapS hostLeaf fun x => { x with launches := [{ serial := 9, queue := 0, blk := BitVec.ofNat 512 (walkVa * 2 ^ 384) }] }
def signalS : State :=
  { mapS hostLeaf id with cmds := [(3, { cmd 0 .queued with blk := cmdBlk 0 8 ||| BitVec.ofNat 512 (walkVa * 2 ^ 384 + 2 ^ 13) })] }
theorem witness_resetTeams : ((st .nop).ctx 0).busy = false ∧ (({ st .nop with cmds := [(3, cmd 0 .queued)] } : State).cmds.map fun e => e.2.ctx) = [0] ∧
    ctxKind 1 = true ∧ ((st .nop).team 5).live = true ∧ ((st .nop).team 5).ctx = 0 := by decide +kernel
theorem witness_resetLaunch : (ledgerS.ctx 0).busy = false ∧ ledgerS.teams = [] ∧ ledgerS.clusters = [] ∧ ledgerS.cmds = [] ∧ (ledgerS.ctx 0).arenas = [] ∧
    (ledgerS.ctx 0).launches = [{ serial := 9, queue := 0, blk := BitVec.ofNat 512 (walkVa * 2 ^ 384) }] ∧ memRestB ledgerS = true ∧ ledgerS.leases = [] ∧ ledgerS.ctxFrames 0 = [] ∧
    (match (ledgerS.translateWalk 0 walkVa .write).2 with | .ok dpa _ => isHost dpa | _ => false) = true ∧ ledgerS.pgc.moving = [] := by decide +kernel
theorem witness_resetSignal : signalS.teams = [] ∧ signalS.clusters = [] ∧ (signalS.ctx 0).launches = [] ∧ (signalS.ctx 0).arenas = [] ∧ (signalS.ctx 0).busy = false ∧
    (signalS.cmds.map fun e => (e.2.ctx, e.2.pages.length, cmSigen e.2.blk.toNat, cmSig e.2.blk.toNat)) = [(0, 0, true, walkVa)] ∧
    spaceOf (BitVec.ofNat 64 walkVa) = .virt walkVa ∧ memRestB signalS = true ∧ signalS.leases = [] ∧ signalS.ctxFrames 0 = [] ∧ (signalS.ce 0).busy = none ∧
    (match (signalS.translateWalk 0 walkVa .write).2 with | .ok dpa pte => isHost dpa && decide (pteFmt pte ≠ 2) | _ => false) = true := by decide +kernel
theorem witness_resetFrames : (mapS (leafOf 9) id).ctxFrames 0 = [9] ∧ ((mapS (leafOf 9) id).ctxLeaves 0).map (fun l => l.2.2) = [0x104128] ∧
    (mapS (leafOf 9) id).leavesFrames ((mapS (leafOf 9) id).ctxLeaves 0) = [9] ∧ frameOf 0x104128 ≠ 9 ∧ memRestB (mapS (leafOf 9) id) = true ∧
    ((mapS (leafOf 9) id).frame 9).retired = false ∧ tabSorted (mapS (leafOf 9) id).frames = true ∧ isHbm (mapS (leafOf 9) id) 0x104128 = true ∧
    ([1, 5].all fun x => (let s := { mapS poolLeaf id with leases := [(7, { data := BitVec.ofNat 256 (leaseRec x 1000000) })] }
      decide (s.ctxLeases 0 = [7] ∧ leaseState (s.lease 7).data = x ∧ (s.lease 7).req = none))) = true := by decide +kernel

/-- Requests within HBM, at its end, and beyond it; one of a block that is filled (FabricRequests). -/
def fabS (r : FabricReq) : State := { st .nop with ev := { ext := .request r } }
theorem witness_FabricRequests : (fabS (.read 60 8)).hbmFrames * 65536 = 0x3F00000000 ∧ memRestB (fabS (.read 60 8)) = true ∧
    (∀ k, k < 8 → (fabS (.read 60 8)).poisoned (60 + k) = false) ∧ 0x3F00000000 - 8 + 8 ≤ (fabS (.read 60 8)).hbmFrames * 65536 ∧
    (fabS (.read 60 8)).hbmFrames * 65536 < 0x3F00000000 - 7 + 8 ∧ (fabS (.read 60 8)).boot.minimal = false ∧ (fabS (.read 60 8)).boot.starting = false ∧ 64 % 4 = 0 ∧
    ((fabS (.read 64 8)).setFrame 0 { zeroing := some 7 }).blockWait 64 = some 7 := by
  decide +kernel
/-- A plain stream, one of FP4 under EGC and one that ends too soon (FabricRequests). -/
theorem witness_asks : Claims.asks (.reduce 64 true (List.replicate 16 0) 0 0 0 true none) 64 16 ∧ Claims.asks (.write 64 [1, 2] []) 64 2 ∧
    Claims.asks (.peerWrite 64 [1, 2] 0 0 0 true none) 64 2 ∧ (Claims.stream [] (some (0x18, 1))).2 = false :=
  ⟨.inr (.inr (.inr ⟨_, _, _, _, _, _, _, rfl, by decide +kernel⟩)), .inr (.inl ⟨_, _, rfl, rfl⟩), .inr (.inr (.inl ⟨_, _, _, _, _, _, rfl, rfl⟩)), by decide +kernel⟩

/-- A start that meets nothing wrong, one that takes too long, and one that fails at each step; the third failure (DeviceStarts). -/
def fine : BootFacts := { fuseOk := true, flashOk := true, trained := true, parity := false, failedPlots := [5, 383], links := [(0, 64, 16), (3, 32, 8)], inTime := true }
def startS (b : List BootFacts) (fails : Nat) (starting : Bool := false) : State :=
  let s := st .nop
  { s with ev := { ext := .boots b }, boot := { s.boot with starting := starting, src := 2 }
           nvm := { s.nvm with fails := fails, keys := [(7, false), (keyHash, false)], image := goodImage, minVersion := 5, opTime := 77 } }
theorem witness_image : (startS [] 0).nvm.trusts testKey = true ∧ testKey.signs imageSig (natBytes 4 5 ++ [0x11, 0x22, 0x33]) = true ∧
    ({ (startS [] 0).nvm with keys := [(7, false), (keyHash, true)] } : Nvm).trusts testKey = false := by decide +kernel
theorem witness_DeviceStarts : Claims.failure (startS [] 0) fine = none ∧ (startS [fine] 2).nvm.fails = 2 ∧ (startS [] 0).nvm.retiredPlots = [] ∧
    (startS [] 0).nvm.retiredFrames = [] ∧ (startS [] 0).nvm.quarantined = [] ∧ (startS [] 0).nvm.image.bytes.length ≤ 0x80000 ∧
    [{ fine with fuseOk := false }, { fine with flashOk := false }, { fine with trained := false }, { fine with failedPlots := List.range 17 }, { fine with links := [(1, 64, 16)] }].map
      (Claims.failure (startS [] 0)) = [some (1, 7), some (2, 1), some (4, 3), some (5, 4), some (6, 5)] ∧
    Claims.failure ((startS [] 0).modNvm fun n => { n with keys := [] }) fine = some (2, 1) ∧
    Claims.failure ((startS [] 0).modNvm fun n => { n with minVersion := 6 }) fine = some (3, 2) ∧ Claims.failure (startS [] 0) { fine with failedPlots := List.range 16 } = none ∧
    (startS [] 2 true).boot.starting = true := by decide +kernel

/-- A pool block that is dirty in the L2, with what its memory held before (R407). -/
def dirtyS : State := { startS [] 3 with under := [(2 ^ 42, 0x0807, 0)] }
theorem witness_DirtyAtReset : dirtyS.under = [(2 ^ 42, 0x0807, 0)] ∧ dirtyS.phys (2 ^ 42 * 64) = 2 ^ 42 * 64 ∧ isPool (2 ^ 42 * 64) = true ∧
    (∀ e ∈ dirtyS.under, dirtyS.phys (e.1 * 64) ≠ (2 ^ 48 + 64) / 64 * 64) := by decide +kernel

/-- Samples at the bounds of R411 and R414; channels at each rate; a switch that ends now, one that does not, and one with an order behind it
(PowerAndManagement). -/
def samp (w hot t : Nat) : PowerReading := { watts := w, channels := [(0, 0, t), (7, 31, t)], dies := [(2, hot)], coolant := 30, boots := [] }
def pwS (r : PowerReading) (b : Boot → Boot) : State := let s := st .nop; { s with boot := b { s.boot with sensed := r } }
def slow : Tab Nat := (List.range 256).map fun k => (k, 2)
theorem witness_PowerAndManagement : (samp 0 0 96).temp 0 = 96 ∧ (samp 0 0 96).temp 255 = 96 ∧ (samp 0 0 96).temp 1 = 60 ∧ (pwS (samp 0 0 96) id).rateOf 0 < 2 ∧
    ((List.range 256).all fun k => decide ((samp 1800 110 85).temp k ≤ 85)) = true ∧ (pwS (samp 1800 110 95) id).boot.pwrcap = 1800 ∧ 9 * 1800 < 10 * 1621 ∧ 10 * 1620 ≤ 9 * 1800 ∧
    ((List.range 256).all fun k => decide ((pwS (samp 1801 110 95) fun b => { b with rate := slow }).rateOf k = 2)) = true ∧
    (pwS (samp 1801 110 95) id).inService 383 = true ∧ tabGet 60 (samp 1801 111 95).dies 2 = 111 ∧ (pwS (samp 1801 111 95) fun b => { b with hot := [2] }).boot.hot = [2] ∧
    tabGet 60 (samp 0 110 0).dies 2 = 110 ∧ (pwS (samp 0 0 0) id).ev.ext = .none ∧ tabSorted (pwS (samp 0 0 0) id).plots = true ∧
    tabFind (pwS (samp 0 0 0) id).boot.switching 255 = none ∧ ((pwS (samp 0 0 0) id).plots.all fun e => !e.2.withheld) = true ∧
    (∃ e ∈ ((pwS (samp 1620 110 85) id).modPlot 9 fun x => { x with withheld := true }).plots, e.2.withheld = true) ∧
    tabFind (pwS (samp 0 0 0) fun b => { b with switching := [(255, (0, 1, some 2))] }).boot.switching 255 = some (0, 1, some 2) := by decide +kernel

/-! ## Results worked by hand, and the specification's worked examples -/

/-- A group with s1 and s2 set and a clause that may begin with a prefix. -/
def with2 (p : Option Prefix) (i : Instr) (a b : DWord) : State :=
  stG i fun g => { g with s := tabPut (tabPut g.s 1 { val := a }) 2 { val := b }, clause := some { clauseOf (encode i) with pfx := p } }
/-- The result of a lane word on s1 and s2 that will be written to lane 0 of v32, and its exceptions. -/
def laneOut (i : Instr) (a b : DWord) (p : Option Prefix := none) : Option (Word × BitVec 6) :=
  match exec i (with2 p i a b) with
  | .next t => ((t.group 2).pend.find? fun e => decide (e.2.reg = .v 32)).map fun e => (e.2.vals.getD 0 0, e.2.fp)
  | _ => none
/-- s3 after a uniform word on s1 and s2. -/
def uniOut (i : Instr) (a b : DWord) : Option DWord :=
  match exec i (with2 none i a b) with
  | .next t => some ((t.group 2).readS 3).val
  | _ => none

/-- R128, R129: the largest sum saturates; shift counts are modulo 32; high halves. -/
theorem test_lane_integer : laneOut (.vaddI32 32 97 98 0) 0xFFFFFFFF 2 = some (1, 0) ∧ laneOut (.vaddsI32 32 97 98 0) 0x7FFFFFFF 1 = some (0x7FFFFFFF, 32) ∧
    laneOut (.vsubsN32 32 97 98 0) 1 2 = some (0, 32) ∧ laneOut (.vmulhI32 32 97 98 0) 0xFFFFFFFF 0xFFFFFFFF = some (0, 0) ∧
    laneOut (.vmulhN32 32 97 98 0) 0xFFFFFFFF 0xFFFFFFFF = some (0xFFFFFFFE, 0) ∧ laneOut (.vshrI32 32 97 98 0) 0x80000000 33 = some (0xC0000000, 0) ∧
    laneOut (.vrol 32 97 98 0) 0x80000001 1 = some (3, 0) ∧ laneOut (.vandn 32 97 98 0) 0xF 5 = some (0xA, 0) := by decide +kernel
/-- R97, R101: a tie goes to even; 1/0; NaN handling of min; the notes' fraction of −2^−30 (R135). -/
theorem test_lane_float : laneOut (.vaddF32 32 97 98 0) 0x3F800000 0x33800000 = some (0x3F800000, 16) ∧ laneOut (.vmulF32 32 97 98 0) 0x40400000 0xC0000000 = some (0xC0C00000, 0) ∧
    laneOut (.vdivF32 32 97 98 0) 0x3F800000 0 = some (0x7F800000, 2) ∧ laneOut (.vsubF32 32 97 98 0) 0x3F800000 0x3F800000 = some (0, 0) ∧
    laneOut (.vcopysignF32 32 97 98 0) 0x3F800000 0x80000000 = some (0xBF800000, 0) := by decide +kernel
/-- The notes on the instructions: `frac` of −2^−30 rounds to 0x3F7FFFFF; sinpi and cospi at 2.5, 7, 7.5 and 2.75 (R135, R137). -/
theorem test_notes_functions : laneOut (.vunF32 32 97 6 0) 0xB0800000 0 = some (0x3F7FFFFF, 16) ∧ laneOut (.vsfuF32 32 97 5 0) 0x40200000 0 = some (0x3F800000, 0) ∧
    laneOut (.vsfuF32 32 97 5 0) 0x40E00000 0 = some (0, 0) ∧ laneOut (.vsfuF32 32 97 6 0) 0x40E00000 0 = some (0xBF800000, 0) ∧
    laneOut (.vsfuF32 32 97 5 0) 0x40F00000 0 = some (0xBF800000, 0) ∧
    laneOut (.vsfuF32 32 97 5 0) 0x40300000 0 = some (0x3F3504F3, 0) ∧ laneOut (.vsfuF32 32 97 6 0) 0x40300000 0 = some (0xBF3504F3, 0) := by decide +kernel
/-- The notes on number formats, "Saturation at a glance" (R104, R105). -/
theorem test_notes_saturation : [(0x08, 0x43E60000), (0x08, 0x43FA0000), (0x08, 0x7F800000), (0x09, 0x4788B800), (0x0C, 0x40D00000), (0x0C, 0x40F00000), (0x0C, 0x7FC00000),
      (0x01, 0x4396599A)].map (fun x => (packTo {} x.1 x.2, packTo { sat := true } x.1 x.2)) =
    [((0x7E, 16), (0x7E, 16)), ((0x7F, 20), (0x7E, 52)), ((0x7F, 0), (0x7E, 32)), ((0x7C, 20), (0x7B, 52)), ((7, 16), (7, 16)), ((7, 52), (7, 52)), ((0, 1), (0, 1)),
     ((127, 33), (127, 33))] := by decide +kernel
/-- The notes on number formats: a granule of FP4 with micro-scales 1, 0.5, 1.5 and 0 under 2^−1 (R110, R113). -/
theorem test_notes_granule : ([(0, 0xA), (1, 3), (34, 0xF), (35, 7), (66, 5), (67, 9), (100, 7)].map fun (x : Nat × Nat) => (deliver f32 .rne false (expandElem 0x0C 0x7E 0x00704060 x.1 x.2).1).1) =
    [0xBF000000, 0x3F400000, 0xBFC00000, 0x3FC00000, 0x40100000, 0xBEC00000, 0] := by decide +kernel
/-- The notes on number formats: the tree of a pass loses 1 beside 2^90, and keeps it when the terms that cancel share a node (R115). -/
def p90 (neg : Bool) : Val × Fp := (.fin neg 1 90, 0)
def one : Val × Fp := (.fin false 1 0, 0)
def zeros (n : Nat) : List (Val × Fp) := List.replicate n (.fin false 0 0, 0)
def treeOut (l : List (Val × Fp)) : Nat × Fp := ((deliver f32 .rne false (treeSum 4 l).1).1, (treeSum 4 l).2)
theorem test_notes_tree_loses : treeOut ([p90 false, one, p90 true] ++ zeros 13) = (0, 16) := by decide +kernel
theorem test_notes_tree_keeps : treeOut ([p90 false, p90 true, one] ++ zeros 13) = (0x3F800000, 0) := by decide +kernel
/-- The notes on the instructions: entry (3, 2) of the attention tile, an E4M3 row against an E5M2 column, is −1.5 (R113, R114, R241). -/
theorem test_notes_score : (let a := expandGranule 0x08 127 0 0xB800B0B8; let b := expandGranule 0x09 127 0 0xB8BC0040
    (passEntry 3 a b 0).2 = 0 ∧ (deliver f32 .rne false (unpack a96 (passEntry 3 a b 0).1.toNat)).1 = 0xBFC00000) := by decide +kernel
/-- The notes on number formats: an EGC group of BF16, compressed and restored (R121-R123). -/
theorem test_notes_egc : let v := [0x3F80, 0x4000, 0x0000, 0xBFC0, 0x4040, 0x3F00, 0x8000, 0x3FA0]
    egcEncode (egcOf false 0x10) v = [0x00, 0xA5, 0x44, 0x02, 0x98, 0x90, 0x54, 0x00] ∧ egcDecode (egcOf false 0x10) 8 (egcEncode (egcOf false 0x10) v) = (v, true) := by
  decide +kernel

/-- Uniform words: the most negative number over −1, division by zero, high products, signed shifts, fields (R154-R164). -/
theorem test_uniform : uniOut (.sadd 3 1 2) 0xFFFFFFFFFFFFFFFF 2 = some 1 ∧ uniOut (.smulhN64 3 1 2) 0xFFFFFFFFFFFFFFFF 0xFFFFFFFFFFFFFFFF = some 0xFFFFFFFFFFFFFFFE ∧
    uniOut (.smulhI64 3 1 2) 0xFFFFFFFFFFFFFFFF 5 = some 0xFFFFFFFFFFFFFFFF ∧ uniOut (.sdiv 3 1 2) 7 0xFFFFFFFFFFFFFFFE = some 0xFFFFFFFFFFFFFFFD ∧
    uniOut (.srem 3 1 2) 0xFFFFFFFFFFFFFFF9 2 = some 0xFFFFFFFFFFFFFFFF ∧ uniOut (.sli 3 0x3FFFF) 0 0 = some 0xFFFFFFFFFFFFFFFF ∧
    uniOut (.sext 3 1 4 7) 0xABCD 0 = some 0xBC ∧ uniOut (.sexts 3 1 4 7) 0xABCD 0 = some 0xFFFFFFFFFFFFFFBC ∧ uniOut (.slit 3 0x80000000) 0 0 = some 0xFFFFFFFF80000000 := by
  decide +kernel

/-- Numbering of the plot at (13, 9) (R11, R12); the home and the set of a unit of the pool (R315), its frames. -/
theorem test_numbering : plotDie 229 = 3 ∧ plotQuad 229 = 54 ∧ plotX 229 = 13 ∧ plotY 229 = 9 ∧ State.reset.homeDie (0x100030123 * 65536) = 2 ∧
    State.reset.unitFrames 0x100030123 = [2490944, 2490945, 2490946, 2490947, 2490948, 2490949, 2490950, 2490951] := by decide +kernel
/-- BOOTREASON after the start of the notes on bring-up (R409). -/
theorem test_boot_reason : ({ State.reset with boot := { State.reset.boot with fwver := 0x00020001, src := 2 }, nvm := { State.reset.nvm with cause := 6 } } : State).bootReason =
    0x0002000100020600 := by decide +kernel
/-- CRC-32C of nine ASCII digits, the check value of the CRC32C standard. -/
theorem test_crc32c : crc32c 0 [0x31, 0x32, 0x33, 0x34, 0x35, 0x36, 0x37, 0x38, 0x39] = 0xE3069283 := by decide +kernel
/-- The words of the notes on encoding and of the notes on the instructions (R67-R79). -/
theorem test_notes_words : [(0x2010031A, Instr.vaddF32 8 0 99 2), (0x54201C22, .vldB32 16 7 0 0 4 2), (0xB9FC0000, .exit), (0x23100022, .vfmaF32 8 0 4 2), (0xFF541900, .xpfx 2 1 2 0 12 1),
      (0x27488C28, .vsfuF32 36 35 5 0), (0x4544A400, .vswp2 34 41 0), (0x2358A528, .vfmaF32 44 41 37 0), (0x445AB030, .vshflDn 45 44 6 0), (0x5A10A018, .vstB32 8 40 0 0 3 0),
      (0x57219422, .vldf 16 101 0 0 4 2), (0xD71FF000, .mxzDefine 7 63 0 0), (0xD5FC8000, .mxp 8 0)].map (fun (x : Nat × Instr) => match decode [BitVec.ofNat 32 x.1] with | .ok j => decide (j = x.2) | .error _ => false) =
    List.replicate 13 true := by decide +kernel
/-- Control: a jump of 8 words forward from the end of its clause, a branch not taken, an exit of every lane (R51, R55, R170). -/
def frontOf (i : Instr) (a : DWord) : Option (List (DWord × Mask)) :=
  match exec i (with2 none i a 0) with
  | .next t => some ((t.group 2).frontier.map fun e => (e.addr, e.lanes))
  | _ => none
theorem test_control : (frontOf (.bz 1 4) 0).map List.length = some 1 ∧ frontOf (.bz 1 4) 0 ≠ frontOf (.bnz 1 4) 0 ∧ frontOf (.bz 1 4) 0 = frontOf (.bnz 1 4) 1 ∧
    frontOf .exit 0 = some [] := by decide +kernel
/-- Mask words: `kset` of a value, `kop` with 1 and 2 (R167, R169). -/
theorem test_masks : (match exec (.kset 1 1) (with2 none (.kset 1 1) 0xF0 0) with | .next t => (t.group 2).pend.map fun e => (e.2.reg, e.2.bits) | _ => []) = [(.k 1, 0xF0)] ∨
    (match exec (.kset 1 1) (with2 none (.kset 1 1) 0xF0 0) with | .next t => (t.group 2).readK 0 1 | _ => 0) = 0xF0 := by decide +kernel

end Sys2Proof.Tests
end

section
/-! Every step keeps memory in its canonical form (O60). Bytes change in few places: one is written, or a range is dropped. What each
function of the model does to the state is a chain of named changes, so its lemma chains theirs: `h.modPgc.writeMem` says of
`(s.modPgc f).writeMem a bs` what `h` says of `s`. -/

namespace Sys2Proof.Machine

-- One proof at a time: the several hundred short proofs below, elaborated side by side, start more threads than Lean's memory limit holds.
set_option Elab.async false

/-! ## The canonical form through the shapes of the definitions -/

/-- A change that leaves the bytes as they are keeps the form. -/
theorem State.MemWf.same {s t : State} (h : s.MemWf) (e : t.mem = s.mem := by rfl) : t.MemWf := by
  rw [State.MemWf, e]; exact h

/-- Either branch of a test. -/
theorem State.MemWf.ite {c : Prop} [Decidable c] {s t : State} (hs : s.MemWf) (ht : t.MemWf) : (if c then s else t).MemWf := by
  split
  · exact hs
  · exact ht

theorem State.MemWf.iteFst {α : Type} {c : Prop} [Decidable c] {x y : State × α} (hx : x.1.MemWf) (hy : y.1.MemWf) :
    (if c then x else y).1.MemWf := by
  split
  · exact hx
  · exact hy

/-- A fold whose every turn keeps the form. -/
theorem State.MemWf.foldl {β : Type} {s : State} {f : State → β → State} {l : List β} (h : s.MemWf)
    (hf : ∀ t b, t.MemWf → (f t b).MemWf) : (l.foldl f s).MemWf :=
  foldl_keeps State.MemWf f l s h hf

theorem State.MemWf.foldlFst {β γ : Type} {f : State × γ → β → State × γ} {l : List β} {r : State × γ} (h : r.1.MemWf)
    (hf : ∀ r b, r.1.MemWf → (f r b).1.MemWf) : (l.foldl f r).1.MemWf :=
  foldl_keeps (fun r => r.1.MemWf) f l r h hf

/-- The state of a pair that a match takes apart. -/
theorem State.MemWf.of_eq {α : Type} {x : State × α} {t : State} {a : α} (h : x.1.MemWf) (e : x = (t, a)) : t.MemWf := by
  subst e; exact h

/-- The state that an option holds. -/
theorem State.MemWf.of_some {s t : State} (h : s.MemWf) (e : some s = some t) : t.MemWf := by
  rw [← Option.some.inj e]; exact h

/-- A step that answers a state answers one whose memory is in its canonical form. -/
def Result.MemWf (r : Result) : Prop := ∀ t, r = .next t → t.MemWf

theorem State.MemWf.next {s : State} (h : s.MemWf) : Result.MemWf (.next s) := by
  rintro t ⟨⟩; exact h

theorem Result.MemWf.fault {f} : Result.MemWf (.fault f) := by
  intro t h; cases h

theorem Result.MemWf.ite {c : Prop} [Decidable c] {a b : Result} (ha : a.MemWf) (hb : b.MemWf) : Result.MemWf (if c then a else b) := by
  split
  · exact ha
  · exact hb

/-- The state that an effect leaves has its memory in canonical form. -/
def Eff.MemWf : Eff → Prop
  | .ok s | .hold s _ | .xfer s _ | .trapAfter s _ => s.MemWf

theorem Eff.MemWf.ite {c : Prop} [Decidable c] {a b : Eff} (ha : a.MemWf) (hb : b.MemWf) : (if c then a else b).MemWf := by
  split
  · exact ha
  · exact hb

theorem State.MemWf.ok {s : State} (h : s.MemWf) : (Eff.ok s).MemWf := h
theorem State.MemWf.hold {s : State} {x} (h : s.MemWf) : (Eff.hold s x).MemWf := h
theorem State.MemWf.xfer {s : State} {x} (h : s.MemWf) : (Eff.xfer s x).MemWf := h
theorem State.MemWf.trapAfter {s : State} {x} (h : s.MemWf) : (Eff.trapAfter s x).MemWf := h

section
variable {s : State} (h : s.MemWf)
include h
theorem State.MemWf.setGroup {g x} : (s.setGroup g x).MemWf := h
theorem State.MemWf.modGroup {g f} : (s.modGroup g f).MemWf := h
theorem State.MemWf.modTeam {t f} : (s.modTeam t f).MemWf := h
theorem State.MemWf.modCluster {c f} : (s.modCluster c f).MemWf := h
theorem State.MemWf.modCtx {c f} : (s.modCtx c f).MemWf := h
theorem State.MemWf.modPlot {p f} : (s.modPlot p f).MemWf := h
theorem State.MemWf.modQuad {q f} : (s.modQuad q f).MemWf := h
theorem State.MemWf.modDie {d f} : (s.modDie d f).MemWf := h
theorem State.MemWf.modCe {e f} : (s.modCe e f).MemWf := h
theorem State.MemWf.modCmd {c f} : (s.modCmd c f).MemWf := h
theorem State.MemWf.setFrame {f x} : (s.setFrame f x).MemWf := h
theorem State.MemWf.modFrame {f k} : (s.modFrame f k).MemWf := h
theorem State.MemWf.modLease {i f} : (s.modLease i f).MemWf := h
theorem State.MemWf.modPgc {f} : (s.modPgc f).MemWf := h
theorem State.MemWf.modRegs {f} : (s.modRegs f).MemWf := h
theorem State.MemWf.modNvm {f} : (s.modNvm f).MemWf := h
theorem State.MemWf.modBoot {f} : (s.modBoot f).MemWf := h
theorem State.MemWf.emit {m} : (s.emit m).MemWf := h
theorem State.MemWf.bump : s.bump.MemWf := h
theorem State.MemWf.endTurn : s.endTurn.MemWf := h
theorem State.MemWf.atCycle {c i e} : (s.atCycle c i e).MemWf := h
theorem State.MemWf.after {n i e} : (s.after n i e).MemWf := h
theorem State.MemWf.atTick {n i e} : (s.atTick n i e).MemWf := h
theorem State.MemWf.unschedule {i e} : (s.unschedule i e).MemWf := h
theorem State.MemWf.dropAt {p} : (s.dropAt p).MemWf := h
theorem State.MemWf.pokeByte {p b} : (s.pokeByte p b).MemWf := s.pokeByte_memWf p b h
theorem State.MemWf.fillDead {f} : (s.fillDead f).MemWf := s.fillDead_memWf f h
theorem State.MemWf.wakeFrame {p} : (s.wakeFrame p).MemWf := s.wakeFrame_memWf p h
theorem State.MemWf.markDirty {a} : (s.markDirty a).MemWf := h.same (s.markDirty_mem a)
theorem State.MemWf.writeByte {a b} : (s.writeByte a b).MemWf := s.writeByte_memWf a b h
theorem State.MemWf.writeMem {a bs} : (s.writeMem a bs).MemWf := s.writeMem_memWf bs a h
theorem State.MemWf.writeDesc {a d} : (s.writeDesc a d).MemWf := s.writeDesc_memWf a d h
theorem State.MemWf.setPoison {a} : (s.setPoison a).MemWf := h
theorem State.MemWf.clearPoison {a} : (s.clearPoison a).MemWf := h
theorem State.MemWf.clearTags {a n} : (s.clearTags a n).MemWf := s.clearTags_memWf a n h
theorem State.MemWf.storeMem {a bs} : (s.storeMem a bs).MemWf := s.storeMem_memWf a bs h
theorem State.MemWf.zeroRange {a n} : (s.zeroRange a n).MemWf := s.zeroRange_memWf a n h
theorem State.MemWf.copyBlock {a b} : (s.copyBlock a b).MemWf := s.copyBlock_memWf a b h
end

section
variable {s : State}

/-! ## The agenda and the registers -/

theorem State.MemWf.afterOnce {n i e} (h : s.MemWf) : (s.afterOnce n i e).MemWf := .ite h h.after

theorem State.MemWf.send {p q n i e} (h : s.MemWf) : (s.send p q n i e).MemWf := by
  unfold State.send
  split
  · exact h.after
  · exact h.dropAt

theorem State.MemWf.flushPend {gid} (h : s.MemWf) : (s.flushPend gid).MemWf := h.modGroup

/-! ## The fault queue, trace records, vectors -/

theorem State.MemWf.fqPlace {i d t} (h : s.MemWf) : (s.fqPlace i d t).MemWf := h.modPgc.writeMem

theorem State.MemWf.enqueue {f t} (h : s.MemWf) : (s.enqueue f t).MemWf := by
  unfold State.enqueue
  split
  · exact h.fqPlace
  · exact h.modPgc

theorem State.MemWf.report {f t} (h : s.MemWf) : (s.report f t).MemWf := by
  unfold State.report
  split
  · exact h.modPgc
  · exact h.dropAt

theorem State.MemWf.fqArrivals (h : s.MemWf) : (s.fqArrivals).MemWf := .ite h (h.modPgc.foldl fun _ _ h => h.enqueue)

theorem State.MemWf.fqRelease {i} (h : s.MemWf) : (s.fqRelease i).MemWf := by
  unfold State.fqRelease
  extract_lets s1
  split
  · exact h.modPgc.modPgc.fqPlace
  · exact h.modPgc

theorem State.MemWf.traceWrite {d r} (h : s.MemWf) : (s.traceWrite d r).MemWf := .ite h (.ite h.modDie h.writeMem.modDie)

theorem State.MemWf.fqDrop {f} (h : s.MemWf) : (s.fqDrop f).MemWf := h.modPgc.foldl fun _ _ h => h.fqRelease

theorem State.MemWf.trace {die kind tag ctx gslot plot team aux value} (h : s.MemWf) :
    (s.trace die kind tag ctx gslot plot team aux value).MemWf :=
  .ite h.traceWrite h

theorem State.MemWf.raiseVector {c n} (h : s.MemWf) : (s.raiseVector c n).MemWf := .ite h.modCtx h.emit
theorem State.MemWf.errorVector {c} (h : s.MemWf) : (s.errorVector c).MemWf := h.raiseVector

/-! ## The caches and the page cache -/

theorem State.MemWf.wakeWatch {p line} (h : s.MemWf) : (s.wakeWatch p line).MemWf := by
  unfold State.wakeWatch
  refine h.foldl fun t x ht => ?_
  split
  · split
    · exact .ite ht.modGroup.afterOnce ht
    · exact ht
  · exact ht

theorem State.MemWf.l1Touch {p dpa} (h : s.MemWf) : (s.l1Touch p dpa).MemWf := by
  unfold State.l1Touch
  split
  · exact h.modPlot
  · exact h

theorem State.MemWf.l1Drop {p dpa grain} (h : s.MemWf) : (s.l1Drop p dpa grain).MemWf := by
  unfold State.l1Drop
  split
  · split
    · exact .ite h.modPlot.wakeWatch h.modPlot
    · exact h
  · exact h

theorem State.MemWf.l1Set {p dpa grain c} (h : s.MemWf) : (s.l1Set p dpa grain c).MemWf := by
  unfold State.l1Set
  extract_lets x set lru way old evicted l s1
  clear_value evicted
  split
  · exact h.modPlot.wakeWatch
  · exact h.modPlot

theorem State.MemWf.l1Flush {p} (h : s.MemWf) : (s.l1Flush p).MemWf := h.modPlot
theorem State.MemWf.setL2 {dpa k l} (h : s.MemWf) : (s.setL2 dpa k l).MemWf := h.modDie
theorem State.MemWf.recallLine {dpa} (h : s.MemWf) : (s.recallLine dpa).MemWf := h.foldl fun _ _ h => h.l1Drop
theorem State.MemWf.cleanLine {dpa} (h : s.MemWf) : (s.cleanLine dpa).MemWf := h.same

theorem State.MemWf.blockWritten {blk} (h : s.MemWf) : (s.blockWritten blk).MemWf := by
  unfold State.blockWritten
  exact (State.MemWf.ite h.fillDead h).same

theorem State.MemWf.settleLine {dpa} (h : s.MemWf) : (s.settleLine dpa).MemWf := (h.foldl fun _ _ h => h.blockWritten).cleanLine

theorem State.MemWf.loseLine {dpa} (h : s.MemWf) : (s.loseLine dpa).MemWf :=
  (h.foldl fun _ _ h => (h.foldl fun _ _ h1 => h1.pokeByte).same).cleanLine

theorem State.MemWf.l2Drop {dpa} (h : s.MemWf) : (s.l2Drop dpa).MemWf := by
  unfold State.l2Drop
  split
  · exact h.recallLine.modDie.settleLine
  · exact h.recallLine

theorem State.MemWf.l2Discard {dpa} (h : s.MemWf) : (s.l2Discard dpa).MemWf := h.loseLine.l2Drop
theorem State.MemWf.zeroScratchWay {d sl j} (h : s.MemWf) : (s.zeroScratchWay d sl j).MemWf := h.foldl fun _ _ h => h.zeroRange

theorem State.MemWf.containLine {blk} (h : s.MemWf) : (s.containLine blk).MemWf := by
  unfold State.containLine
  extract_lets dpa s0
  split
  · exact h.same
  · extract_lets lost s1
    have hs1 : s1.MemWf := .ite (h.same.l2Discard.foldl fun _ _ h => h.setPoison).modDie.enqueue.after h.same.l2Drop
    split
    · exact hs1.after
    · exact hs1

theorem State.MemWf.writeBackLine {line} (h : s.MemWf) : (s.writeBackLine line).MemWf := by
  unfold State.writeBackLine
  split
  · exact .ite h.l2Drop h.containLine
  · exact h.l2Drop

theorem State.MemWf.quarantineWay {d sl w} (h : s.MemWf) : (s.quarantineWay d sl w).MemWf := by
  unfold State.quarantineWay
  extract_lets x ways n scratch s1 s2
  have hs1 : s1.MemWf := h.foldl fun _ _ h => h.writeBackLine
  have hs2 : s2.MemWf := by
    unfold s2
    split
    · exact hs1.zeroScratchWay.foldl fun _ _ h => h.writeBackLine
    · exact hs1
  exact hs2.modDie.modNvm

theorem State.MemWf.l2Uncorrectable {blk} (h : s.MemWf) : (s.l2Uncorrectable blk).MemWf := by
  unfold State.l2Uncorrectable
  split
  · exact h.containLine.quarantineWay
  · exact h.same

theorem State.MemWf.l2Storage {dpa} (h : s.MemWf) : (s.l2Storage dpa).MemWf := by
  unfold State.l2Storage
  split
  · exact h.l2Uncorrectable
  · exact h

theorem State.MemWf.eccReadAt {p} (h : s.MemWf) : (s.eccReadAt p).MemWf := by
  unfold State.eccReadAt
  split
  · exact h
  · extract_lets f x s1 d leased
    refine .ite h ?_
    refine .ite h.same.modDie ?_
    refine .ite h.same.modDie ?_
    split
    · exact h.same.copyBlock.modDie
    · exact h.same.modDie

theorem State.MemWf.eccRead {dpa} (h : s.MemWf) : (s.eccRead dpa).MemWf := h.eccReadAt
theorem State.MemWf.eccGrain {grain dpa} (h : s.MemWf) : (s.eccGrain grain dpa).MemWf := h.foldl fun _ _ h => h.eccRead

theorem State.MemWf.eccMiss {dpa} (h : s.MemWf) : (s.eccMiss dpa).MemWf := by
  unfold State.eccMiss
  refine .ite h ?_
  split
  · exact .ite h h.eccRead
  · exact h.eccRead

theorem State.MemWf.l2Evict {dpa} (h : s.MemWf) : (s.l2Evict dpa).MemWf := by
  unfold State.l2Evict
  extract_lets s1
  have hs1 : s1.MemWf := by
    unfold s1
    split
    · exact .ite h.same h.l2Storage
    · exact h
  exact hs1.l2Drop

theorem State.MemWf.l2Place {dpa grain blocks} : ∀ {n} {s : State}, s.MemWf → (State.l2Place dpa grain blocks n s).MemWf
  | 0, _, h => h
  | n + 1, s, h => by
    unfold State.l2Place
    split
    · exact h
    · extract_lets d b s1
      have hs1 : s1.MemWf := by
        unfold s1
        split
        · exact h.l2Evict
        · exact h
      exact .ite hs1.l2Place hs1.modDie

theorem State.MemWf.l2Ensure {s0 : State} {dpa grain} (h : s0.MemWf) : (s0.l2Ensure dpa grain).1.MemWf := by
  unfold State.l2Ensure
  extract_lets s d b blocks
  split
  · split
    · exact (State.MemWf.ite h.l2Storage.eccGrain h.l2Storage).setL2.modDie
    · exact h.l2Storage
  · exact h.l2Storage.eccGrain.l2Place

theorem State.MemWf.setDir {dpa e} (h : s.MemWf) : (s.setDir dpa e).MemWf := by
  unfold State.setDir
  split
  · split
    · exact h.setL2
    · exact h
  · exact h

theorem State.MemWf.keepUnder {dpa} (h : s.MemWf) : (s.keepUnder dpa).MemWf := by
  unfold State.keepUnder
  exact .ite h (State.MemWf.ite h.zeroRange h).same

theorem State.MemWf.l2Dirty {dpa ctx} (h : s.MemWf) : (s.l2Dirty dpa ctx).MemWf := by
  unfold State.l2Dirty
  split
  · split
    · exact (State.MemWf.ite h.settleLine h).keepUnder.setL2
    · exact h
  · exact h

theorem State.MemWf.forwardOwner {dpa e} (h : s.MemWf) : (s.forwardOwner dpa e).1.MemWf := by
  unfold State.forwardOwner
  extract_lets g
  split
  · exact h.l1Set.wakeWatch
  · exact h
  · exact h.l1Set.wakeWatch
  · exact h
  · exact h

theorem State.MemWf.invalidateQuad {q dpa keep} (h : s.MemWf) : (s.invalidateQuad q dpa keep).MemWf := h.foldl fun _ _ h => .ite h h.l1Drop

theorem State.MemWf.serveRead {p dpa grain} (h : s.MemWf) : (s.serveRead p dpa grain).MemWf := by
  unfold State.serveRead
  extract_lets s1 g
  refine .ite h.l2Ensure ?_
  split
  · exact h.l2Ensure.setDir.l1Set
  · exact .ite h.l2Ensure.setDir.l1Set (.ite h.l2Ensure.l1Set h.l2Ensure.forwardOwner.setDir.l1Set)

theorem State.MemWf.serveWrite {p dpa grain} (h : s.MemWf) : (s.serveWrite p dpa grain).MemWf := by
  unfold State.serveWrite
  extract_lets s1 g s2
  have hs2 : s2.MemWf := by
    unfold s2
    split
    · exact h.l2Ensure
    · exact h.l2Ensure.foldl fun _ _ h => h.invalidateQuad
  exact .ite h.l2Ensure hs2.setDir.l1Set

theorem State.MemWf.serveHome {dpa grain} (h : s.MemWf) : (s.serveHome dpa grain).MemWf := by
  unfold State.serveHome
  extract_lets s1 s2
  have hs2 : s2.MemWf := by
    unfold s2
    split
    · exact h.l2Ensure
    · exact h.l2Ensure.foldl fun _ _ h => h.invalidateQuad
  exact hs2.setDir

theorem State.MemWf.dropLine {dpa} (h : s.MemWf) : (s.dropLine dpa).MemWf := h.l2Evict
theorem State.MemWf.dropUnit {u} (h : s.MemWf) : (s.dropUnit u).MemWf := h.foldl fun _ _ h => h.l2Evict
theorem State.MemWf.loseUnit {u} (h : s.MemWf) : (s.loseUnit u).MemWf := h.foldl fun _ _ h => h.l2Discard
theorem State.MemWf.frameServed {f} (h : s.MemWf) : (s.frameServed f).MemWf := h.modFrame

theorem State.MemWf.writeBackFrame {f} (h : s.MemWf) : (s.writeBackFrame f).MemWf := by
  unfold State.writeBackFrame
  split
  · exact (h.foldl fun _ _ h => h.eccReadAt.copyBlock).modFrame
  · exact h

theorem State.MemWf.freeFrame {f} (h : s.MemWf) : (s.freeFrame f).MemWf := h.modFrame

theorem State.MemWf.pageFill {dpa rclass mgroup ctx} (h : s.MemWf) : (s.pageFill dpa rclass mgroup ctx).1.MemWf := by
  unfold State.pageFill
  extract_lets u okLease blk
  split
  · exact h
  · split
    · exact h
    · split
      · exact h.modPgc
      · extract_lets s1 s2 s3
        have hs1 : s1.MemWf := by
          unfold s1
          refine State.MemWf.wakeFrame ?_
          split
          · exact h.dropUnit.writeBackFrame.freeFrame
          · exact h
        exact hs1.copyBlock.modFrame.after

theorem State.MemWf.pageCache {dpa rclass mgroup ctx} (h : s.MemWf) : (s.pageCache dpa rclass mgroup ctx).1.MemWf := by
  unfold State.pageCache
  split
  · split
    · exact h.frameServed
    · exact h.pageFill
  · exact h

theorem State.MemWf.uncached {dpa} (h : s.MemWf) : (s.uncached dpa).1.MemWf := .ite h h.wakeFrame
theorem State.MemWf.ownHome {dpa} (h : s.MemWf) : (s.ownHome dpa).MemWf := .ite h.serveHome h
theorem State.MemWf.homeStore {dpa bs} (h : s.MemWf) : (s.homeStore dpa bs).MemWf := h.ownHome.storeMem

/-! ## Translation -/

theorem State.MemWf.walkEcc {c va} (h : s.MemWf) : (s.walkEcc c va).MemWf := .ite h (h.foldl fun _ _ h => h.eccMiss)
theorem State.MemWf.setAD {entry e write} (h : s.MemWf) : (s.setAD entry e write).1.MemWf := .iteFst h h.writeMem
theorem State.MemWf.tlbFill {p e} (h : s.MemWf) : (s.tlbFill p e).MemWf := h.modPlot
theorem State.MemWf.l2tlbFill {d e} (h : s.MemWf) : (s.l2tlbFill d e).MemWf := h.modDie
theorem State.MemWf.l2tlbTouch {d k} (h : s.MemWf) : (s.l2tlbTouch d k).MemWf := h.modDie

theorem State.MemWf.lookup {p c va write} (h : s.MemWf) : (s.lookup p c va write).1.MemWf := by
  unfold State.lookup
  split
  · exact h.modPlot
  · split
    · exact h.l2tlbTouch.tlbFill
    · extract_lets s'
      split
      · exact h.walkEcc
      · exact h.walkEcc.setAD.l2tlbFill.tlbFill

theorem State.MemWf.lookupWalk {s0 : State} {c va write} (h : s0.MemWf) : (s0.lookupWalk c va write).1.MemWf := by
  unfold State.lookupWalk
  extract_lets s
  split
  · exact h.walkEcc
  · exact h.walkEcc.setAD

theorem State.MemWf.translate {p c va u} (h : s.MemWf) : (s.translate p c va u).1.MemWf := by
  unfold State.translate
  extract_lets r
  split <;> exact h.lookup

theorem State.MemWf.translateWalk {c va u} (h : s.MemWf) : (s.translateWalk c va u).1.MemWf := by
  unfold State.translateWalk
  extract_lets r
  split <;> exact h.lookupWalk

theorem State.MemWf.cmdTlbDrop {f} (h : s.MemWf) : (s.cmdTlbDrop f).MemWf := h.same
theorem State.MemWf.tlbDrop {f} (h : s.MemWf) : (s.tlbDrop f).MemWf := h.same.cmdTlbDrop

/-! ## Barriers, traps, the end of a team, commits -/

theorem State.MemWf.setBarrier {tid clu b x} (h : s.MemWf) : (s.setBarrier tid clu b x).MemWf := .ite h.modCluster h.modTeam
theorem State.MemWf.barrierCheck {tid clu b} (h : s.MemWf) : (s.barrierCheck tid clu b).MemWf := .ite h (.ite h.setBarrier h)
theorem State.MemWf.barrierArrive {gid tid clu b} (h : s.MemWf) : (s.barrierArrive gid tid clu b).MemWf := h.setBarrier.barrierCheck
theorem State.MemWf.barriersCheck {tid} (h : s.MemWf) : (s.barriersCheck tid).MemWf := h.foldl fun _ _ h => h.barrierCheck.barrierCheck

theorem State.MemWf.trapDropped {c seq} (h : s.MemWf) : (s.trapDropped c seq).MemWf := by
  unfold State.trapDropped
  extract_lets g s1
  split
  · exact h.modCtx.errorVector.modGroup
  · exact h.modCtx.errorVector

theorem State.MemWf.trapWrite {c seq} (h : s.MemWf) : (s.trapWrite c seq).MemWf := by
  unfold State.trapWrite
  split
  · exact h
  · extract_lets va x t
    refine .ite h.after ?_
    split
    · exact .ite h.translateWalk.uncached.after h.translateWalk.uncached.homeStore.modCtx.after
    · exact h.translateWalk.enqueue
    · exact h.translateWalk.trapDropped

theorem State.MemWf.rltRelease {p owner} (h : s.MemWf) : (s.rltRelease p owner).MemWf := h.modPlot.afterOnce

theorem State.MemWf.partDiscarded {ag aop taken} (h : s.MemWf) : (s.partDiscarded ag aop taken).MemWf := by
  unfold State.partDiscarded
  extract_lets s1
  split
  · exact .ite h h.modGroup
  · exact .ite (State.MemWf.ite h h.modGroup).afterOnce (State.MemWf.ite h h.modGroup).modGroup

theorem State.MemWf.endMxe {tid} (h : s.MemWf) : (s.endMxe tid).MemWf :=
  ((h.same.foldl fun _ _ h => h.partDiscarded).foldl fun _ _ h => .ite h h.afterOnce).foldl fun _ _ h => h.rltRelease

theorem State.MemWf.zeroArena {c a units} (h : s.MemWf) : (s.zeroArena c a units).1.MemWf := by
  unfold State.zeroArena
  refine h.foldlFst fun r b hr => ?_
  extract_lets u
  split
  · extract_lets v
    refine State.MemWf.zeroRange ?_
    split
    · exact hr.loseUnit.zeroRange
    · exact hr.loseUnit
  · exact hr

theorem State.MemWf.returnArena {c a} (h : s.MemWf) : (s.returnArena c a).MemWf := .ite h.zeroArena.modCtx h.zeroArena.modCtx.afterOnce
theorem State.MemWf.endArena {tid} (h : s.MemWf) : (s.endArena tid).MemWf := h.foldl fun _ _ h => h.returnArena
theorem State.MemWf.returnArenas (h : s.MemWf) : s.returnArenas.MemWf := h.foldl fun _ _ h => h.foldl fun _ _ h1 => h1.returnArena

theorem State.MemWf.freeTeam {tid how} (h : s.MemWf) : (s.freeTeam tid how).MemWf := by
  unfold State.freeTeam
  extract_lets t s1 s2 s3 s4 s5 s6
  have hs2 : s2.MemWf := h.trace.endMxe.endArena.modPlot
  have hs6 : s6.MemWf := hs2.same.modTeam.modCtx.modDie
  exact .ite h hs6.barriersCheck.afterOnce.afterOnce

theorem State.MemWf.modLaunch {c serial f} (h : s.MemWf) : (s.modLaunch c serial f).MemWf := h.modCtx
theorem State.MemWf.retireLaunch {c serial} (h : s.MemWf) : (s.retireLaunch c serial).MemWf := h.modCtx
theorem State.MemWf.killTeamRaw {tid} (h : s.MemWf) : (s.killTeamRaw tid).MemWf := h.freeTeam.modLaunch
theorem State.MemWf.stopPgc {gid} (h : s.MemWf) : (s.stopPgc gid).MemWf := .ite h.modGroup.modPgc.atTick h.modGroup

theorem State.MemWf.deliver {c gid tid f logslot word clause} (h : s.MemWf) : (s.deliver c gid tid f logslot word clause).MemWf := by
  unfold State.deliver
  extract_lets t s0 seq plot
  have hs0 : s0.MemWf := by
    unfold s0
    split
    · exact h.modGroup
    · exact h
  refine .ite h.killTeamRaw.modCluster.modCtx.errorVector ?_
  split
  · exact hs0.modCtx
  · extract_lets r s1 s2
    have hs2 : s2.MemWf := by
      unfold s2
      split
      · exact h.modCtx.flushPend.modGroup
      · exact h.modCtx
    exact hs2.trace.trapWrite

theorem State.MemWf.trapsDelivered {c} : ∀ {n} {s : State}, s.MemWf → (s.trapsDelivered c n).MemWf
  | 0, _, h => h
  | n + 1, s, h => by
    unfold State.trapsDelivered
    split
    · exact h
    · exact .ite h h.modCtx.deliver.modCtx.trapsDelivered

theorem State.MemWf.trapWaiters (h : s.MemWf) : s.trapWaiters.MemWf := h.foldl fun _ _ h => h.trapsDelivered

theorem State.MemWf.trapResolved {c seq} (h : s.MemWf) : (s.trapResolved c seq).MemWf := by
  unfold State.trapResolved
  extract_lets g s1
  clear_value g
  split
  · exact h.modCtx.modGroup
  · exact h.modCtx

theorem State.MemWf.trapGroup {gid f logslot word clause} (h : s.MemWf) : (s.trapGroup gid f logslot word clause).MemWf :=
  .ite h.stopPgc h.deliver

theorem State.MemWf.trapContext {c f} (h : s.MemWf) : (s.trapContext c f).MemWf := h.deliver

theorem State.MemWf.signalLaunch {c serial} (h : s.MemWf) : (s.signalLaunch c serial).MemWf := by
  unfold State.signalLaunch
  split
  · exact h
  · refine .ite h.retireLaunch ?_
    extract_lets x again
    refine .ite h.after ?_
    split
    · exact .ite h.translateWalk.uncached.after h.translateWalk.uncached.homeStore.retireLaunch
    · exact h.translateWalk.enqueue
    · exact h.translateWalk.retireLaunch.trapContext

theorem State.MemWf.gridComplete {c serial} (h : s.MemWf) : (s.gridComplete c serial).MemWf := by
  unfold State.gridComplete
  split
  · exact h
  · exact .ite h h.modLaunch.modCtx.signalLaunch.afterOnce

theorem State.MemWf.clusterEnded {c serial} (h : s.MemWf) : (s.clusterEnded c serial).MemWf := by
  unfold State.clusterEnded
  extract_lets s1
  split
  · exact .ite h.modLaunch.gridComplete h.modLaunch
  · exact h.modLaunch

theorem State.MemWf.flushFused {cid} (h : s.MemWf) : (s.flushFused cid).MemWf :=
  .ite (h.foldl fun _ _ h => h.l1Flush.modPlot) (h.foldl fun _ _ h => h.l1Flush.modPlot).after

theorem State.MemWf.instanceCheck {cid} (h : s.MemWf) : (s.instanceCheck cid).MemWf := by
  unfold State.instanceCheck
  extract_lets c s0 s1
  have hs1 : s1.MemWf := (State.MemWf.ite h.flushFused h).modCluster
  refine .ite h ?_
  refine .ite hs1 ?_
  split
  · exact .ite hs1 hs1.clusterEnded
  · exact hs1.clusterEnded

theorem State.MemWf.killTeam {tid} (h : s.MemWf) : (s.killTeam tid).MemWf := h.killTeamRaw.instanceCheck

theorem State.MemWf.endInstance {tid} (h : s.MemWf) : (s.endInstance tid).MemWf := by
  unfold State.endInstance
  extract_lets cid c r s1 cids teams again s0 s1' s2 twin s3
  have hs0 : s0.MemWf := h.foldl fun _ _ h => h.flushFused
  have hs1' : s1'.MemWf := hs0.foldl fun _ _ h => h.freeTeam
  have hs2 : s2.MemWf := hs1'.foldl fun _ _ h => h.modCluster
  refine .ite h ?_
  refine .ite ?_ (.ite hs2.modLaunch.afterOnce hs2.modLaunch.deliver.clusterEnded)
  clear_value r
  split
  · exact h.freeTeam.modCluster.modCtx.after
  · exact h.freeTeam.modCluster

theorem State.MemWf.consumePoison {tid} (h : s.MemWf) : (s.consumePoison tid).MemWf := h.modDie.endInstance
theorem State.MemWf.markCommitted {tid} (h : s.MemWf) : (s.markCommitted tid).MemWf := h.modTeam

theorem State.MemWf.startDrain {tid} (h : s.MemWf) : (s.startDrain tid).MemWf := by
  unfold State.startDrain
  split
  · exact h
  · refine .ite h ?_
    split
    · exact h.after
    · exact h.foldl fun _ _ h => h.after

theorem State.MemWf.beginCommit {tid k} (h : s.MemWf) : (s.beginCommit tid k).MemWf :=
  .ite h.bump.modTeam.afterOnce (.ite h.bump.modTeam h.bump.modTeam.startDrain)

theorem State.MemWf.askCommit {tid} (h : s.MemWf) : (s.askCommit tid).MemWf := h.afterOnce

theorem State.MemWf.cbStore {tid blk bs tag na desc} (h : s.MemWf) : (s.cbStore tid blk bs tag na desc).MemWf :=
  .ite h.modTeam (.ite h.modTeam.beginCommit h.modTeam)

/-! ## One element of an access -/

theorem State.MemWf.headerAt {p c h} (hs : s.MemWf) : (s.headerAt p c h).1.MemWf := by
  unfold State.headerAt
  extract_lets x
  split
  · exact hs.translate.eccMiss
  · exact hs.translate

theorem State.MemWf.refCheck {gid ref addr n u} (h : s.MemWf) : (s.refCheck gid ref addr n u).1.MemWf := by
  unfold State.refCheck
  split
  · exact h
  · extract_lets g y
    split
    · exact h.headerAt
    · exact h.headerAt
    · exact .iteFst h.headerAt h.headerAt

theorem State.MemWf.checkElem {gid ref addr n u scope fmt} (h : s.MemWf) : (s.checkElem gid ref addr n u scope fmt).1.MemWf := by
  unfold State.checkElem
  extract_lets g y
  split
  · exact h.eccMiss
  · split
    · exact h
    · exact h.refCheck
    · extract_lets x y'
      have hx : x.1.MemWf := by
        unfold x
        split
        · rename_i heq
          have ht := h.translate.of_eq heq
          exact ht.eccMiss
        · exact h.translate
      split <;> exact hx.refCheck

theorem State.MemWf.afterFill {r} {dpa rclass mgroup ctx} (h : State.MemWf r.1) : (State.afterFill r dpa rclass mgroup ctx).MemWf := by
  unfold State.afterFill
  split
  · exact .ite h h.enqueue
  · exact h

theorem State.MemWf.servePool {dpa pte ctx} (h : s.MemWf) : (s.servePool dpa pte ctx).MemWf := h.pageCache.afterFill

theorem State.MemWf.touchRead {p dpa pte ctx} (h : s.MemWf) : (s.touchRead p dpa pte ctx).MemWf :=
  .ite h (.ite h.l1Touch (.ite h.serveRead.servePool h.serveRead))

theorem State.MemWf.touchWrite {p dpa pte ctx} (h : s.MemWf) : (s.touchWrite p dpa pte ctx).MemWf := by
  unfold State.touchWrite
  refine .ite h ?_
  extract_lets h' miss t s1
  have hs1 : s1.MemWf := by
    unfold s1
    split
    · exact h.l1Touch
    · exact h.l1Set
    · exact .ite h.serveWrite.servePool h.serveWrite
  exact hs1.l2Dirty

theorem State.MemWf.homeWrite {dpa pte ctx} (h : s.MemWf) : (s.homeWrite dpa pte ctx).MemWf :=
  .ite h (State.MemWf.ite h.serveHome.servePool h.serveHome).l2Dirty

theorem State.MemWf.sign {tid addr n atomic data} (h : s.MemWf) : (s.sign tid addr n atomic data).MemWf := h.modTeam

theorem State.MemWf.wakeWord {tid addr n} (h : s.MemWf) : (s.wakeWord tid addr n).MemWf := by
  unfold State.wakeWord
  refine h.foldl fun t x ht => ?_
  split
  · exact .ite ht.modGroup.afterOnce ht
  · exact ht

theorem State.MemWf.tagWords {dpa n on} (h : s.MemWf) : (s.tagWords dpa n on).MemWf := h.foldl fun _ _ h => h.writeDesc

theorem State.MemWf.storeNow {gid addr pl bs tag} (h : s.MemWf) : (s.storeNow gid addr pl bs tag).MemWf := by
  unfold State.storeNow
  extract_lets g
  split
  · exact h.modTeam.wakeWord
  · exact .ite h.ownHome.storeMem (State.MemWf.ite h.touchWrite.storeMem.tagWords h.touchWrite.storeMem).wakeWord

theorem State.MemWf.checkElems {gid ref u scope fmt} : ∀ {es} {s : State}, s.MemWf → (s.checkElems gid ref u scope fmt es).1.MemWf
  | [], _, h => h
  | _ :: _, _, h => h.checkElem.checkElems

/-! ## Roads -/

theorem State.MemWf.along {r n i e} (h : s.MemWf) : (s.along r n i e).MemWf := by
  unfold State.along
  split
  · exact h.after
  · exact h.dropAt

/-! ## The issue of a word -/

theorem State.MemWf.charge {p r} (h : s.MemWf) : (s.charge p r).MemWf := .ite h.modPlot h
theorem State.MemWf.emptyTurn {u r} (h : s.MemWf) : (s.emptyTurn u r).MemWf := .ite h.modGroup.endTurn h.charge.endTurn

theorem State.MemWf.exitCheck {gid} (h : s.MemWf) : (s.exitCheck gid).MemWf := by
  unfold State.exitCheck
  split
  · exact h
  · exact .ite h (.ite h.setGroup.modTeam.barriersCheck.beginCommit h.setGroup.modTeam.barriersCheck)

theorem State.MemWf.trapAtIssue {u f} (h : s.MemWf) : (s.trapAtIssue u f).MemWf :=
  (State.MemWf.ite h.modGroup.trapGroup h.modGroup.trapGroup.charge).endTurn

theorem State.MemWf.countIssue {u} (h : s.MemWf) : (s.countIssue u).MemWf := .ite h (.ite h.modGroup.modPlot h.modGroup)
theorem State.MemWf.afterWord {u i} (h : s.MemWf) : (s.afterWord u i).MemWf := .ite h.modGroup h.modGroup.endTurn

theorem Eff.MemWf.finish {u i} : ∀ {e : Eff}, e.MemWf → (finish u i e).MemWf
  | .ok _, h => State.MemWf.countIssue h |>.modGroup.afterWord
  | .hold _ _, h => State.MemWf.countIssue h |>.modGroup.afterWord
  | .xfer _ _, h => State.MemWf.countIssue h |>.modGroup.exitCheck.endTurn
  | .trapAfter _ _, h => State.MemWf.countIssue h |>.modGroup.trapGroup.afterWord

theorem State.MemWf.takeForwarded {u i e} (h : s.MemWf) : (s.takeForwarded u i e).MemWf :=
  (State.MemWf.ite h.modTeam (h.modTeam.foldl fun _ _ h => h.sign)).modGroup

theorem State.MemWf.effect {u i eff} (h : s.MemWf) (he : (eff u s).MemWf) : (s.effect u i eff).MemWf := by
  unfold State.effect
  split
  · exact h.takeForwarded.ok
  · exact he

/-- A word keeps the form where its effect does: a trap and an empty turn always do. -/
theorem State.MemWf.issue {i eff} (h : s.MemWf) (he : ∀ u, (eff u s).MemWf) : (issue i s eff).MemWf := by
  unfold Machine.issue
  split
  · exact .fault
  · split
    · exact h.trapAtIssue.next
    · split
      · exact h.emptyTurn.next
      · exact (h.effect (he _)).finish.next

theorem State.MemWf.setS {u d x} (h : s.MemWf) : (s.setS u d x).MemWf := h.modGroup
theorem State.MemWf.setSV {u d v} (h : s.MemWf) : (s.setSV u d v).MemWf := h.setS
theorem State.MemWf.setK {u k m} (h : s.MemWf) : (s.setK u k m).MemWf := h.modGroup
theorem State.MemWf.enterBackend {p n busy} (h : s.MemWf) : (s.enterBackend p n busy).1.MemWf := h.modPlot
theorem State.MemWf.pendOne {gid p} (h : s.MemWf) : (s.pendOne gid p).MemWf := h.bump.modGroup.atCycle

theorem State.MemWf.pendAll {u i ps} (h : s.MemWf) : (s.pendAll u i ps).MemWf := by
  unfold State.pendAll
  split
  · exact h
  · exact h.enterBackend.foldl fun _ _ h => h.pendOne

theorem State.MemWf.startOp {u i n what} (h : s.MemWf) : (s.startOp u i n what).MemWf := h.bump.modGroup.after

theorem State.MemWf.startAlong {u i r n what} (h : s.MemWf) : (s.startAlong u i r n what).MemWf := by
  unfold State.startAlong
  split
  · exact h.startOp
  · exact h.startOp.unschedule.dropAt

theorem State.MemWf.forward {gid e} (h : s.MemWf) : (s.forward gid e).MemWf := by
  unfold State.forward
  extract_lets g t s1
  split
  · exact h.modTeam.send
  · exact h.modTeam

theorem State.MemWf.forwardNow {gid x} (h : s.MemWf) : (s.forwardNow gid x).MemWf := h.modGroup.forward

theorem State.MemWf.endOp {s0 : State} {gid op} (h : s0.MemWf) : (s0.endOp gid op).MemWf := by
  unfold State.endOp
  extract_lets o s
  have hs : s.MemWf := by
    unfold s
    clear_value o
    split
    · split
      · exact h.forward
      · exact h
    · exact h
  exact hs.modGroup.exitCheck

theorem State.MemWf.modOp {gid op f} (h : s.MemWf) : (s.modOp gid op f).MemWf := h.modGroup

/-! ## Holds -/

theorem State.MemWf.afterArrival {gid clu wait b phase} (h : s.MemWf) : (s.afterArrival gid clu wait b phase).MemWf := h.modGroup
theorem State.MemWf.countArrival {gid clu wait b} (h : s.MemWf) : (s.countArrival gid clu wait b).MemWf := h.barrierArrive.afterArrival

theorem State.MemWf.beginArrival {gid clu wait b} (h : s.MemWf) : (s.beginArrival gid clu wait b).MemWf :=
  .ite h.modGroup (.ite h.countArrival (.ite h.modGroup h.modGroup))

theorem State.MemWf.tileForm {gid i t} (h : s.MemWf) (e : s.tileForm gid i = some t) : t.MemWf := by
  unfold State.tileForm at e
  extract_lets g busy used put at e
  have hput : ∀ {f}, some (put f) = some t → t.MemWf := fun e => h.modPlot.of_some e
  clear_value put
  split at e
  · cases e
  · split at e
    · split at e
      · cases e
      · exact hput e
    · split at e
      · cases e
      · exact hput e
    · split at e
      · cases e
      · exact hput e
    · exact h.of_some e

theorem State.MemWf.hostSignal {c n} (h : s.MemWf) : (s.hostSignal c n).MemWf := .ite h.raiseVector h.modCtx
theorem State.MemWf.unhold {gid} (h : s.MemWf) : (s.unhold gid).MemWf := h.modGroup

theorem State.MemWf.releaseHold {gid} (h : s.MemWf) : (s.releaseHold gid).MemWf := by
  unfold State.releaseHold
  extract_lets g done t
  split
  · exact h
  · split
    · exact .ite h.unhold h
    · exact .ite h.unhold.beginArrival h
    · exact .ite h.modGroup.askCommit h
    · exact .ite h.unhold h
    · exact .ite h.unhold h
    · exact .ite h.modGroup.unhold h
    · split
      · exact .ite h.unhold h
      · exact .ite h.unhold (.ite (.ite h.unhold h.modGroup.askCommit) h)
    · split
      · exact h.modGroup.unhold
      · exact h
    · exact .ite h.same.hostSignal.unhold (.ite h.markCommitted.hostSignal.forwardNow.unhold h.markCommitted.hostSignal.unhold)
    · exact .ite h.unhold h
    · exact .ite h h.unhold
    · split
      · rename_i heq
        have ht := h.tileForm heq
        exact ht.unhold
      · exact h
    · exact h

theorem State.MemWf.pubPoint {gid} (h : s.MemWf) : (s.pubPoint gid).MemWf := by
  unfold State.pubPoint
  extract_lets g
  refine h.foldl fun t x ht => ?_
  split
  · exact .ite ht.modOp.askCommit ht
  · exact ht

theorem State.MemWf.arrivalPoints {gid} (h : s.MemWf) : (s.arrivalPoints gid).MemWf := .ite h.modGroup.askCommit h

theorem State.MemWf.releaseHolds (h : s.MemWf) : s.releaseHolds.MemWf :=
  ((h.foldl fun _ _ h => h.releaseHold).foldl fun _ _ h => h.arrivalPoints).foldl fun _ _ h => h.pubPoint

/-! ## Lane words -/

theorem laneVec_memWf {i f} (h : s.MemWf) : (laneVec i s f).MemWf := by
  unfold laneVec
  refine h.issue fun u => ?_
  split
  · exact h.ok
  · split
    · exact h.ok
    · exact h.pendAll.ok

theorem laneMap_memWf {i f} (h : s.MemWf) : (laneMap i s f).MemWf := laneVec_memWf h
theorem laneUn_memWf {i f} (h : s.MemWf) : (laneUn i s f).MemWf := laneMap_memWf h
theorem laneBin_memWf {i f} (h : s.MemWf) : (laneBin i s f).MemWf := laneMap_memWf h
theorem laneTri_memWf {i f} (h : s.MemWf) : (laneTri i s f).MemWf := laneMap_memWf h

/-! ## Integer lane words -/

theorem laneCompare_memWf {i f} (h : s.MemWf) : (laneCompare i s f).MemWf := by
  unfold laneCompare
  refine h.issue fun u => ?_
  split
  · exact h.ok
  · exact h.pendAll.ok

/-! ## Cross-lane words -/

theorem laneShuffle_memWf {i f} (h : s.MemWf) : (laneShuffle i s f).MemWf := laneMap_memWf h

theorem execVsieve_memWf {a b} (h : s.MemWf) : (execVsieve a b s).MemWf := by
  unfold execVsieve
  refine h.issue fun u => ?_
  split
  · exact h.ok
  · exact h.enterBackend.modPlot.atCycle.ok

/-! ## Accesses and atomics -/

theorem memWord_memWf {i} (h : s.MemWf) : (memWord i s).MemWf := by
  unfold memWord
  refine h.issue fun u => ?_
  extract_lets road
  split
  · exact h.enterBackend.startAlong.modOp.ok
  · exact h.startAlong.ok

theorem State.MemWf.tryReplay {gid} (h : s.MemWf) : (s.tryReplay gid).MemWf := by
  unfold State.tryReplay
  extract_lets g
  split
  · exact .ite (.ite h h.along) h
  · exact h

theorem State.MemWf.logFailure {gid op slot order f} (h : s.MemWf) : (s.logFailure gid op slot order f).MemWf := by
  unfold State.logFailure
  extract_lets g f' put
  split
  · exact h
  · exact .ite h.modGroup.modOp.report h.modGroup.modOp.trapGroup

theorem State.MemWf.opFailed {gid op f} (h : s.MemWf) : (s.opFailed gid op f).MemWf := by
  unfold State.opFailed
  extract_lets g
  refine .ite h.stopPgc ?_
  split
  · exact h
  · exact h.logFailure
  · split
    · exact h.bump.logFailure
    · exact h.modOp.modGroup

theorem State.MemWf.logFreed {gid slot} (h : s.MemWf) : (s.logFreed gid slot).MemWf := by
  unfold State.logFreed
  extract_lets s1 g s2
  have hs2 : s2.MemWf := by
    unfold s2
    split
    · exact h.modGroup
    · extract_lets s3
      split
      · exact h.modGroup.modGroup.bump.logFailure
      · exact h.modGroup.modGroup
  exact hs2.tryReplay

theorem State.MemWf.opPerformed {gid op} (h : s.MemWf) : (s.opPerformed gid op).MemWf := by
  unfold State.opPerformed
  split
  · exact h.modOp.logFreed
  · exact h.modOp
  · exact h

theorem State.MemWf.opAbandoned {gid op} (h : s.MemWf) : (s.opAbandoned gid op).MemWf := by
  unfold State.opAbandoned
  extract_lets st s1 s2
  have hs2 : s2.MemWf := h.same.endOp
  clear_value st s2
  split
  · exact hs2.logFreed
  · exact hs2

theorem State.MemWf.markMoving {gid op x} (h : s.MemWf) : (s.markMoving gid op x).MemWf := h.modGroup

theorem State.MemWf.inTurn {gid op again next} (h : s.MemWf) (hn : ∀ o, (next o).MemWf) : (s.inTurn gid op again next).MemWf := by
  unfold State.inTurn
  split
  · exact h
  · exact .ite h.markMoving.after (.ite h.after (.ite h.after (hn _)))

theorem State.MemWf.touchReads {gid na ps} (h : s.MemWf) : (s.touchReads gid na ps).MemWf :=
  .ite h (h.foldl fun _ _ h => .ite (.ite h.l2Ensure.servePool h.l2Ensure) h.touchRead)

theorem State.MemWf.performLoad {gid op o ps} (h : s.MemWf) : (s.performLoad gid op o ps).MemWf := h.touchReads.modOp.opPerformed.after

theorem State.MemWf.cbBlocks {tid o ps bytes} : ∀ {bs n} {s : State}, s.MemWf → (s.cbBlocks tid o ps bytes bs n).1.MemWf
  | [], _, _, h => h
  | _ :: _, _, _, h => by
    unfold State.cbBlocks
    split
    · exact h.cbStore.cbBlocks
    · exact h

theorem State.MemWf.placeBlocks {gid op o ps} (h : s.MemWf) : (s.placeBlocks gid op o ps).MemWf := by
  unfold State.placeBlocks
  extract_lets bytes blks r
  split
  · exact h.cbBlocks.opPerformed.after
  · exact h.cbBlocks.opPerformed.modOp.after

theorem State.MemWf.performStore {gid op o ps} (h : s.MemWf) : (s.performStore gid op o ps).MemWf := by
  unfold State.performStore
  extract_lets g shared priv done s1 s2
  have hs1 : s1.MemWf := .ite h (h.foldl fun _ _ h => h.sign)
  have hs2 : s2.MemWf := hs1.foldl fun _ _ h => h.storeNow
  exact .ite (hs2.foldl fun _ _ h => h.clearPoison).opPerformed.after (h.same.foldl fun _ _ h => h.sign.wakeWord).placeBlocks

theorem State.MemWf.rstCheck {gid o} (h : s.MemWf) : (s.rstCheck gid o).1.MemWf := by
  unfold State.rstCheck
  extract_lets g r h' x hdr t visible
  split
  · split
    · exact h
    · split
      · exact h.headerAt
      · exact h.headerAt
      · exact .iteFst h.headerAt (.iteFst h.headerAt (.iteFst h.headerAt (.iteFst h.headerAt h.headerAt)))
  · exact h

theorem State.MemWf.atomicLane {gid op o e pl} (h : s.MemWf) : (s.atomicLane gid op o e pl).MemWf := by
  unfold State.atomicLane
  extract_lets g scope v c old bs s1
  have hs1 : s1.MemWf := by
    unfold s1
    split
    · exact h.storeNow
    · refine .ite h.storeNow ?_
      refine .ite h.storeNow ?_
      extract_lets s2 s3 s4
      have hs2 : s2.MemWf := .ite h.touchWrite h.homeWrite
      have hs4 : s4.MemWf := .ite hs2.storeMem.tagWords hs2.storeMem
      exact (State.MemWf.ite hs4.sign hs4).markCommitted.wakeWord
  exact hs1.modOp

theorem State.MemWf.checkOp {gid o} (h : s.MemWf) : (s.checkOp gid o).1.MemWf := by
  unfold State.checkOp
  extract_lets s0 r0 r q strip
  have hs0 : s0.MemWf := by
    unfold s0
    split
    · exact h.modPlot
    · exact h
  exact (State.MemWf.iteFst h hs0.checkElems).rstCheck

theorem State.MemWf.placesWake {gid o ps} (h : s.MemWf) : (s.placesWake gid o ps).MemWf := by
  unfold State.placesWake
  refine .ite ?_ h
  refine h.foldl fun t x ht => ?_
  split
  · exact ht.uncached
  · exact ht

theorem State.MemWf.lookAgain {o n gid op} (h : s.MemWf) : (MemOp.lookAgain o s n gid op).MemWf := by
  unfold MemOp.lookAgain
  split <;> exact h.after

theorem State.MemWf.performAccess {gid op o} (h : s.MemWf) : (s.performAccess gid op o).MemWf := by
  unfold State.performAccess
  extract_lets g r wide s1
  refine .ite h.placeBlocks ?_
  refine .ite h.lookAgain ?_
  refine .ite h.markMoving.lookAgain ?_
  split
  · exact h.checkOp.opFailed
  · refine .ite h.checkOp.placesWake.lookAgain (.ite (.ite h.checkOp.consumePoison ?_) h.checkOp.performStore)
    exact .ite h.checkOp.opPerformed.modOp.after h.checkOp.performLoad

theorem State.MemWf.completeOp {gid op} (h : s.MemWf) : (s.completeOp gid op).MemWf := by
  unfold State.completeOp
  split
  · exact h
  · exact h.modGroup.endOp

theorem execAtomicStep_memWf (h : s.MemWf) : (execAtomicStep s).MemWf := by
  unfold execAtomicStep
  extract_lets gid op
  split
  · exact h.next
  · extract_lets es
    split
    · exact h.after.next
    · extract_lets r
      split
      · exact h.checkElem.opFailed.next
      · exact h.checkElem.atomicLane.after.next

theorem execLaneResultWrite_memWf (h : s.MemWf) : (execLaneResultWrite s).MemWf := by
  unfold execLaneResultWrite
  split
  · exact h.next
  · exact h.modGroup.next

/-! ## Uniform words -/

theorem uniValue_memWf {i d f} (h : s.MemWf) : (uniValue i s d f).MemWf := h.issue fun _ => h.setSV.ok
theorem uniReg_memWf {i d f} (h : s.MemWf) : (uniReg i s d f).MemWf := h.issue fun _ => h.setS.ok
theorem branchIf_memWf {n i} {o : BitVec n} {f} (h : s.MemWf) : (branchIf i s o f).MemWf := h.issue fun _ => h.xfer

/-! ## Special registers -/

theorem State.MemWf.fqPop (h : s.MemWf) : s.fqPop.1.MemWf := by
  unfold State.fqPop
  split
  · exact h.modPgc
  · exact h

theorem execSrd_memWf {d r} (h : s.MemWf) : (execSrd d r s).MemWf := by
  unfold execSrd
  refine h.issue fun u => ?_
  extract_lets p z t1 team t2
  have ht1 : t1.MemWf := .ite (State.MemWf.iteFst h.fqPop h).same (.iteFst h.fqPop h)
  have ht2 : t2.MemWf := .ite ht1.forwardNow ht1
  exact ht2.setSV.ok

theorem execSwr_memWf {a r} (h : s.MemWf) : (execSwr a r s).MemWf := by
  unfold execSwr
  refine h.issue fun u => ?_
  extract_lets v op
  split
  · exact h.modGroup.ok
  · exact h.after.ok
  · exact h.after.hold
  · exact h.modPgc.ok
  · exact h.modPgc.ok
  · exact h.ok

/-! ## What recurs -/

theorem State.MemWf.leaseTimes (h : s.MemWf) : s.leaseTimes.MemWf :=
  h.foldl fun _ _ h => .ite (State.MemWf.ite h.afterOnce h).afterOnce (.ite h.afterOnce h)

theorem State.MemWf.heartTimes (h : s.MemWf) : s.heartTimes.MemWf := .ite h (h.foldl fun _ _ h => h.after)
theorem State.MemWf.periodTimes (h : s.MemWf) : s.periodTimes.MemWf := .ite (h.foldl fun _ _ h => h.after) h
theorem State.MemWf.longTimes (h : s.MemWf) : s.longTimes.MemWf := .ite (State.MemWf.ite h.after.after h).after (.ite h.after.after h)
theorem State.MemWf.scrubTimes (h : s.MemWf) : s.scrubTimes.MemWf := .ite h (h.foldl fun _ _ h => .ite h.after h)
theorem State.MemWf.bloomTimes (h : s.MemWf) : s.bloomTimes.MemWf := h.foldl fun _ _ h => .ite h.after h
theorem State.MemWf.sliceTimes (h : s.MemWf) : s.sliceTimes.MemWf := h.foldl fun _ _ h => .ite h.after h

theorem State.MemWf.periodic (h : s.MemWf) : s.periodic.MemWf :=
  .ite h (.ite h.leaseTimes.heartTimes.periodTimes.longTimes.scrubTimes.bloomTimes h.sliceTimes)

/-! ## The turn of a unit and the end of a cycle -/

theorem State.MemWf.requestLine {p c va} (h : s.MemWf) : (s.requestLine p c va).MemWf := h.along

theorem State.MemWf.codePath {g va} (h : s.MemWf) : ∀ {t}, s.codePath g va = some t → t.MemWf := by
  unfold State.codePath
  split
  · split
    · nofun
    · rintro _ ⟨⟩; exact h
  · rintro _ ⟨⟩; exact h
  · extract_lets t
    have ht : t.MemWf := h.foldl fun _ _ h => h.eccMiss
    rintro _ ⟨⟩
    split
    · exact ht.modPgc
    · exact ht.dropAt.modPgc

theorem State.MemWf.requestLines {gid g} (h : s.MemWf) : (s.requestLines gid g).MemWf :=
  (State.MemWf.ite h h.modPlot.modGroup).foldl fun _ _ h => .ite h h.modPlot.requestLine

theorem State.MemWf.slotEmpty {gid p r} (h : s.MemWf) : (s.slotEmpty gid p r).MemWf := by
  unfold State.slotEmpty
  split
  · exact h.modGroup.endTurn
  · exact h.charge.endTurn

theorem State.MemWf.haltGroup {gid} (h : s.MemWf) : (s.haltGroup gid).MemWf := h.flushPend.modGroup

theorem State.MemWf.fetchTrap {gid p f clause word} (h : s.MemWf) : (s.fetchTrap gid p f clause word).MemWf :=
  h.modPlot.trapGroup.charge.endTurn

/-- What a turn leaves has its memory in canonical form, whether a word issues or not. -/
def Turn.MemWf : Turn → Prop
  | .idle s | .run s _ => s.MemWf

theorem State.MemWf.idle (h : s.MemWf) : (Turn.idle s).MemWf := h

theorem State.MemWf.run {i} (h : s.MemWf) : (Turn.run s i).MemWf := h

theorem State.MemWf.clauseTurn {gid g c} (h : s.MemWf) : (s.clauseTurn gid g c).MemWf := by
  unfold State.clauseTurn
  extract_lets u
  split
  · exact h.modGroup.haltGroup.slotEmpty.idle
  · split
    · exact h.trapAtIssue.idle
    · split
      · exact h.slotEmpty.idle
      · exact (State.MemWf.ite h.afterOnce h).run

theorem State.MemWf.groupTurn {gid g} (h : s.MemWf) : (s.groupTurn gid g).MemWf := by
  have hr : (if g.pgc then s else s.requestLines gid g).MemWf := .ite h h.requestLines
  unfold State.groupTurn
  extract_lets p
  split
  · exact h.charge.endTurn.idle
  · split
    · exact h.slotEmpty.idle
    · split
      · exact h.slotEmpty.idle
      · split
        · exact h.slotEmpty.idle
        · split
          · exact h.slotEmpty.idle
          · split
            · exact h.clauseTurn
            · split
              · exact hr.charge.endTurn.idle
              · exact h.fetchTrap.idle
              · exact hr.charge.endTurn.idle
              · split
                · rename_i heq
                  exact (h.codePath heq).charge.endTurn.idle
                · exact (State.MemWf.ite h.modPgc h.requestLines).setGroup.clauseTurn
              · exact h.charge.endTurn.idle

theorem State.MemWf.countEligible (h : s.MemWf) : s.countEligible.MemWf := h.foldl fun _ _ h => .ite h h.modPlot
theorem State.MemWf.foldElig (h : s.MemWf) : s.foldElig.MemWf := h.foldl fun _ _ h => .ite h h.modPlot
theorem State.MemWf.settleHalts (h : s.MemWf) : s.settleHalts.MemWf := h.foldl fun _ _ h => .ite h.flushPend h

theorem State.MemWf.unitTurn {p} (h : s.MemWf) : (s.unitTurn p).MemWf := by
  unfold State.unitTurn
  split
  · exact h.countEligible.endTurn.idle
  · split
    · exact h.charge.endTurn.idle
    · split
      · exact h.charge.endTurn.idle
      · exact h.groupTurn

theorem State.MemWf.endCycle (h : s.MemWf) : s.endCycle.MemWf := by
  unfold State.endCycle
  extract_lets s1 s2 s3 s4
  have hs1 : s1.MemWf := h.settleHalts.foldElig.releaseHolds
  have hs2 : s2.MemWf := hs1.same.fqArrivals.trapWaiters
  have hs4 : s4.MemWf := .ite hs2.periodic.same hs2.periodic
  exact hs4.same

/-! ## Waits, fences, tiles, instruction cache -/

theorem execXpfx_memWf {k z r sat c v} (h : s.MemWf) : (execXpfx k z r sat c v s).MemWf := by
  unfold execXpfx
  split
  · exact .fault
  · split
    · exact h.trapAtIssue.next
    · split
      · exact h.trapAtIssue.next
      · exact h.modGroup.next

theorem State.MemWf.serveRows : ∀ {l} {s : State}, s.MemWf → (s.serveRows l).MemWf
  | [], _, h => h
  | (_, _) :: _, _, h => .ite h.modGroup.serveRows h

theorem tileWord_memWf {i} (h : s.MemWf) : (tileWord i s).MemWf := by
  unfold tileWord
  refine h.issue fun u => ?_
  split
  · rename_i heq
    have ht := h.tileForm heq
    exact ht.ok
  · exact h.hold

theorem execLwait_memWf {d a try_} (h : s.MemWf) : (execLwait d a try_ s).MemWf := by
  unfold execLwait
  refine h.issue fun u => ?_
  extract_lets h' serial
  split
  · exact h.setSV.ok
  · split
    · exact h.setSV.ok
    · exact .ite h.setSV.ok h.hold

theorem State.MemWf.skipHeader {gid clause} (h : s.MemWf) : (s.skipHeader gid clause).MemWf := by
  unfold State.skipHeader
  extract_lets g
  split
  · exact h.setGroup
  · exact h

theorem State.MemWf.tresAct {c r action} (h : s.MemWf) : (s.tresAct c r action).MemWf := by
  unfold State.tresAct
  split
  · exact h
  · extract_lets g s1
    refine .ite h.killTeam ?_
    refine .ite ?_ (.ite h.trapResolved (.ite h.trapResolved.skipHeader h.trapResolved.modGroup))
    split
    · exact h.trapResolved
    · exact .ite h.modGroup.trapResolved.tryReplay h.trapResolved.opAbandoned

theorem State.MemWf.takeQueued {gid} (h : s.MemWf) : (s.takeQueued gid).MemWf := by
  unfold State.takeQueued
  extract_lets c q
  refine h.modGroup.foldl fun t x ht => ?_
  split
  · exact ht.tresAct
  · exact ht

theorem State.MemWf.tresRead {u r} (h : s.MemWf) : (s.tresRead u r).1.MemWf := by
  unfold State.tresRead
  split
  · exact h
  · split
    · exact h
    · extract_lets fits x e b
      split
      · exact h
      · split
        · exact h.checkElem
        · exact .iteFst h.checkElem.consumePoison h.checkElem

theorem State.MemWf.tres {u r action} (h : s.MemWf) : (s.tres u r action).1.MemWf := by
  unfold State.tres
  extract_lets x
  split
  · exact h.tresRead
  · split
    · exact h.tresRead
    · split
      · exact h.tresRead
      · exact .iteFst h.tresRead (.iteFst h.tresRead.modGroup h.tresRead.tresAct)

theorem tresWord_memWf {i d a action} (h : s.MemWf) : (tresWord i d a action s).MemWf := h.issue fun _ => h.tres.setSV.ok

theorem State.MemWf.sendIcinv {u lo len all} (h : s.MemWf) : (s.sendIcinv u lo len all).MemWf :=
  (h.foldl fun _ _ h => h.send).hold

/-! ## Objects and hints -/

theorem State.MemWf.objBlock {g va u} (h : s.MemWf) : (s.objBlock g va u).1.MemWf := by
  unfold State.objBlock
  split
  · exact h.eccMiss
  · extract_lets x
    split
    · exact h.translate
    · exact h.translate
    · exact h.translate.eccMiss

theorem State.MemWf.objRange {g h n u} (hs : s.MemWf) : (s.objRange g h n u).1.MemWf := hs.foldlFst fun _ _ h => h.objBlock

theorem State.MemWf.objClear {g va lo zero} (h : s.MemWf) : (s.objClear g va lo zero).MemWf := by
  unfold State.objClear
  extract_lets x s1 s2 s3
  have hs2 : s2.MemWf := .ite h.objBlock.touchWrite.writeMem h.objBlock.touchWrite
  exact .ite hs2.tagWords.clearPoison hs2.tagWords

theorem State.MemWf.putHeader {g h hdr} (hs : s.MemWf) : (s.putHeader g h hdr).MemWf := hs.objBlock.touchWrite.writeMem
theorem State.MemWf.objPerformed {gid op n} (h : s.MemWf) : (s.objPerformed gid op n).MemWf := h.opPerformed.after

theorem State.MemWf.performObject {gid op o} (h : s.MemWf) : (s.performObject gid op o).MemWf := by
  unfold State.performObject
  extract_lets g t a b n r s1 ref h' x hdr n' r'
  have hs1 : s1.MemWf := h.objRange.foldl fun _ _ h => h.objClear
  split
  · split
    · exact h.objRange.opFailed
    · exact hs1.putHeader.modOp.objPerformed
  · split
    · exact h.objBlock.opFailed
    · refine .ite h.objBlock.consumePoison ?_
      split
      · exact h.objBlock.objRange.opFailed
      · extract_lets s1'
        have hs1' : s1'.MemWf := by
          unfold s1'
          split
          · exact (h.objBlock.objRange.foldl fun _ _ h => h.objClear).putHeader
          · exact h.objBlock.objRange.foldl fun _ _ h => h.objClear
        exact hs1'.objPerformed

theorem objWord_memWf {i} (h : s.MemWf) : (objWord i s).MemWf := h.issue fun _ => h.startOp.hold

theorem State.MemWf.performOstat {gid op o} (h : s.MemWf) : (s.performOstat gid op o).MemWf := by
  unfold State.performOstat
  extract_lets g h' x v
  split
  · exact h.objBlock.opFailed
  · exact .ite h.objBlock.consumePoison h.objBlock.touchRead.modOp.opPerformed.completeOp.unhold

theorem State.MemWf.performMwait {gid op o} (h : s.MemWf) : (s.performMwait gid op o).MemWf := by
  unfold State.performMwait
  extract_lets g r late e v s1 next
  refine .ite h ?_
  refine .ite h.after ?_
  split
  · exact h.checkElem.opFailed
  · refine .ite h.checkElem.after ?_
    refine .ite h.checkElem.consumePoison ?_
    exact .ite h.checkElem.touchReads.modOp.opPerformed.completeOp.unhold h.checkElem.touchReads.opPerformed.modGroup.atCycle

theorem State.MemWf.rereadMwait {gid} (h : s.MemWf) : (s.rereadMwait gid).MemWf := by
  unfold State.rereadMwait
  split
  · split
    · exact h.tryReplay
    · exact h
    · exact h.performMwait
  · exact h

theorem execMwaitTimeout_memWf (h : s.MemWf) : (execMwaitTimeout s).MemWf := by
  unfold execMwaitTimeout
  refine State.MemWf.next ?_
  split
  · exact .ite h.rereadMwait h
  · exact h

theorem State.MemWf.pubCheck {gid o} (h : s.MemWf) : (s.pubCheck gid o).1.MemWf := by
  unfold State.pubCheck
  extract_lets b
  split
  · exact h.checkElem
  · exact h

theorem State.MemWf.walked {g k w} (h : s.MemWf) : (s.walked g k w).MemWf := by
  unfold State.walked
  extract_lets s1 n
  have hs1 : s1.MemWf := .ite h (h.foldl fun _ _ h => h.foldl fun _ _ h1 => h1.objBlock)
  refine hs1.foldl fun t x ht => ?_
  extract_lets x'
  split
  · exact ht.translateWalk.touchWrite.writeMem
  · exact ht

theorem State.MemWf.publish {g h scope frozen} (hs : s.MemWf) : (s.publish g h scope frozen).MemWf := by
  unfold State.publish
  extract_lets x dpa heap s1
  split
  · exact hs.objBlock
  · exact hs.objBlock.homeWrite.writeMem.modCtx

theorem State.MemWf.queuePub {gid op} (h : s.MemWf) : (s.queuePub gid op).MemWf := h.modDie.modTeam
theorem State.MemWf.leaveGleaner {gid op} (h : s.MemWf) : (s.leaveGleaner gid op).MemWf := h.modDie.modTeam.afterOnce
theorem State.MemWf.pubFailed {gid op f} (h : s.MemWf) : (s.pubFailed gid op f).MemWf := h.leaveGleaner.modOp.opFailed

theorem State.MemWf.performPub {gid op o} (h : s.MemWf) : (s.performPub gid op o).MemWf := by
  unfold State.performPub
  extract_lets d s0 r
  split
  · exact (State.MemWf.ite h h.queuePub).pubCheck.pubFailed
  · exact (State.MemWf.ite h h.queuePub).pubCheck.modOp.afterOnce

theorem State.MemWf.grantWalkers {d} : ∀ {n} {s : State}, s.MemWf → (s.grantWalkers d n).MemWf
  | 0, _, h => h
  | n + 1, s, h => by
    unfold State.grantWalkers
    split
    · exact h
    · extract_lets g
      split
      · exact h.modDie.grantWalkers
      · exact .ite h.modDie.after.grantWalkers h

theorem State.MemWf.pubStore {gid op} (h : s.MemWf) : (s.pubStore gid op).MemWf := by
  unfold State.pubStore
  extract_lets g again
  split
  · exact h
  · refine .ite h.markMoving.after ?_
    extract_lets r late b s1
    have hlate : late.1.MemWf := by
      unfold late
      split
      · exact .iteFst h.pubCheck.uncached h.pubCheck
      · exact h.pubCheck
    split
    · exact h.pubCheck.modOp.opFailed
    · exact .ite hlate.after h.pubCheck.storeNow.markCommitted.opPerformed.completeOp

theorem State.MemWf.pubSend {gid op} (h : s.MemWf) : (s.pubSend gid op).MemWf := by
  unfold State.pubSend
  split
  · exact h.along
  · exact h

theorem execGleanerWalk_memWf (h : s.MemWf) : (execGleanerWalk s).MemWf := by
  unfold execGleanerWalk
  extract_lets d op
  split
  · exact h.pubStore.next
  · split
    · exact h.grantWalkers.next
    · split
      · exact h.next
      · extract_lets g
        split
        · exact h.leaveGleaner.next
        · extract_lets late s' w s1 s2
          have hs1 : s1.MemWf := h.walked.foldl fun _ _ h => h.publish
          split
          · exact (State.MemWf.ite h h.markMoving).after.next
          · split
            · exact h.walked.leaveGleaner.consumePoison.next
            · split
              · exact h.walked.pubFailed.next
              · refine State.MemWf.next ?_
                refine State.MemWf.pubPoint ?_
                split
                · exact .ite hs1.leaveGleaner.modOp.unhold hs1.leaveGleaner.modOp
                · exact hs1.leaveGleaner.modOp

theorem State.MemWf.hintFill {c va} (h : s.MemWf) : (s.hintFill c va).MemWf := by
  unfold State.hintFill
  refine .ite h ?_
  split
  · exact .ite h.pageFill.afterFill h
  · exact h

theorem State.MemWf.readBlock {gid r} (h : s.MemWf) : (s.readBlock gid r).1.MemWf := by
  unfold State.readBlock
  extract_lets e x
  split
  · exact h.checkElem
  · exact .iteFst h.checkElem h.checkElem.touchReads

theorem State.MemWf.withBlock {gid op r next} (h : s.MemWf) (hn : ∀ t b, t.MemWf → (next t b).MemWf) :
    (s.withBlock gid op r next).MemWf := by
  unfold State.withBlock
  extract_lets x
  split
  · exact h.readBlock.opFailed
  · exact h.readBlock.consumePoison
  · exact hn _ _ h.readBlock

theorem State.MemWf.performPfh {gid op o} (h : s.MemWf) : (s.performPfh gid op o).MemWf := by
  unfold State.performPfh
  extract_lets g
  refine h.withBlock fun t b ht => ?_
  exact (State.MemWf.ite (.ite ht ht.modCtx) (.ite ht (ht.foldl fun _ _ h => h.hintFill))).opPerformed.completeOp

theorem State.MemWf.advCount {c va n} (h : s.MemWf) : (s.advCount c va n).MemWf := by
  unfold State.advCount
  refine .ite h ?_
  split
  · split
    · exact h.modFrame
    · exact h
  · exact h

theorem advWord_memWf {i a b act} (h : s.MemWf) (ha : ∀ t c va, t.MemWf → (act t c va).MemWf) : (advWord i a b act s).MemWf :=
  h.issue fun _ => (State.MemWf.ite h (h.foldl fun _ _ h => ha _ _ _ h)).ok

/-! ## Copy engines -/

theorem State.MemWf.addCmds {u op ce n batch} (h : s.MemWf) : (s.addCmds u op ce n batch).MemWf := h.foldl fun _ _ h => h.same
theorem State.MemWf.submit {u i ce n batch} (h : s.MemWf) : (s.submit u i ce n batch).MemWf := h.startAlong.addCmds.modOp.markCommitted

theorem State.MemWf.readCmds {gid r} : ∀ {l} {s : State}, s.MemWf → (s.readCmds gid r l).1.MemWf
  | [], _, h => h
  | (_, _) :: _, _, h => by
    unfold State.readCmds
    extract_lets x
    split
    · exact h.readBlock
    · exact h.readBlock
    · exact h.readBlock.modCmd.readCmds

theorem State.MemWf.performCopy {gid op o} (h : s.MemWf) : (s.performCopy gid op o).MemWf := by
  unfold State.performCopy
  extract_lets x p
  split
  · exact h.readCmds.opFailed
  · exact .ite h.readCmds.consumePoison (h.readCmds.opPerformed.foldl fun _ _ h => h.modCmd.modPlot).afterOnce

theorem State.MemWf.rangesTaken {owner} (h : s.MemWf) : (s.rangesTaken owner).MemWf := by
  unfold State.rangesTaken
  split
  · exact h.modCmd.afterOnce
  · refine h.foldl fun t x ht => ?_
    split
    · exact ht.modQuad.afterOnce
    · exact ht

theorem State.MemWf.registerWaiting {p} : ∀ {l} {s : State}, s.MemWf → (s.registerWaiting p l).MemWf
  | [], _, h => h
  | _ :: _, _, h => .ite h.modPlot.rangesTaken.registerWaiting h

theorem State.MemWf.tileTo {c code st} (h : s.MemWf) : (s.tileTo c code st).MemWf := .ite h h.modPlot
theorem State.MemWf.toEngine {id c} (h : s.MemWf) : (s.toEngine id c).MemWf := h.modCmd.modCe.afterOnce

theorem State.MemWf.dispatchOne {id c} (h : s.MemWf) : (s.dispatchOne id c).MemWf := by
  unfold State.dispatchOne
  extract_lets b
  refine .ite h ?_
  refine .ite h.toEngine ?_
  split
  · exact h.tileTo.tileTo.modCmd.toEngine
  · exact h.afterOnce
  · exact h.modCmd.toEngine

theorem execCeDispatch_memWf (h : s.MemWf) : (execCeDispatch s).MemWf := by
  unfold execCeDispatch
  refine State.MemWf.next ?_
  refine h.foldl fun t x ht => ?_
  split
  · exact ht.dispatchOne
  · exact ht

theorem State.MemWf.keepPage {c k} (h : s.MemWf) : (s.keepPage c k).MemWf := h.same

/-- An engine's steps leave memory in its canonical form, however they end. -/
def CeM.KeepsMem {α : Type} (m : CeM α) : Prop := ∀ s, s.MemWf → (m.run.run s).2.MemWf

theorem CeM.KeepsMem.pure {α : Type} {a : α} : CeM.KeepsMem (Pure.pure a) := fun _ h => h

theorem CeM.KeepsMem.throw {α : Type} {e} : CeM.KeepsMem (α := α) (MonadExcept.throw e) := fun _ h => h

theorem CeM.KeepsMem.set {t : State} (h : t.MemWf) : CeM.KeepsMem (MonadStateOf.set t) := fun _ _ => h

theorem CeM.KeepsMem.change {f : State → State} (h : ∀ s, s.MemWf → (f s).MemWf) : CeM.KeepsMem (modify f) := h

theorem CeM.KeepsMem.bind {α β : Type} {m : CeM α} {f : α → CeM β} (hm : m.KeepsMem) (hf : ∀ a, (f a).KeepsMem) : (m >>= f).KeepsMem := by
  intro s h
  have hr := hm s h
  rw [ExceptT.run_bind, StateT.run_bind]
  rcases hx : m.run.run s with ⟨_ | a, t⟩ <;> rw [hx] at hr
  · exact hr
  · exact hf a t hr

/-- What is read of the state may count on its memory. -/
theorem CeM.KeepsMem.getBind {β : Type} {f : State → CeM β} (hf : ∀ s, s.MemWf → (f s).KeepsMem) : CeM.KeepsMem (get >>= f) :=
  fun s h => hf s h s h

theorem CeM.KeepsMem.throwBind {α β : Type} {e} {f : α → CeM β} : CeM.KeepsMem (MonadExcept.throw e >>= f) := fun _ h => h

theorem CeM.KeepsMem.ite {α : Type} {c : Prop} [Decidable c] {m n : CeM α} (hm : m.KeepsMem) (hn : n.KeepsMem) :
    (if c then m else n).KeepsMem := by
  split
  · exact hm
  · exact hn

theorem cePlace_keepsMem {c va n u replica} : (cePlace c va n u replica).KeepsMem := by
  refine .getBind fun s hs => ?_
  split
  · exact .throw
  · exact .ite .pure .throw
  · refine .ite .throwBind ?_
    dsimp only
    split
    · refine .ite .throwBind ?_
      split
      · exact .ite .throwBind (.bind (.set hs.eccMiss) fun _ => .pure)
      · exact .throw
    · refine .bind (.set hs.lookupWalk) fun _ => ?_
      split
      · exact .throw
      · refine .ite .throwBind ?_
        split
        · exact .throw
        · exact .throw
        · exact .bind (.set hs.lookupWalk.keepPage.eccMiss) fun _ => .pure

theorem State.MemWf.engineTouch {dpa pte ctx} (h : s.MemWf) : (s.engineTouch dpa pte ctx).MemWf :=
  .ite (.ite h.l2Ensure.servePool h.l2Ensure) h

theorem State.MemWf.engineSends {ce dpa pte n} (h : s.MemWf) : (s.engineSends ce dpa pte n).MemWf := .ite h.emit h

theorem ceReadBlock_keepsMem {c va n replica} : (ceReadBlock c va n replica).KeepsMem := by
  refine .bind cePlace_keepsMem fun x => ?_
  split
  · exact .getBind fun _ _ => .pure
  · exact .getBind fun s hs => .ite .throwBind (.ite .throwBind (.bind (.set hs.engineSends.engineTouch) fun _ => .pure))

theorem ceRead_keepsMem {c replica} : ∀ {fuel va n}, (ceRead c replica fuel va n).KeepsMem
  | 0, _, _ => .pure
  | _ + 1, _, _ => .ite .pure (.bind ceReadBlock_keepsMem fun _ => .bind ceRead_keepsMem fun _ => .pure)

theorem ceDesc_keepsMem {c va replica} : (ceDesc c va replica).KeepsMem := by
  refine .bind cePlace_keepsMem fun x => ?_
  split
  · exact .pure
  · exact .getBind fun _ _ => .pure

theorem ceWrite_keepsMem {c va bs desc u} : (ceWrite c va bs desc u).KeepsMem := by
  refine .bind cePlace_keepsMem fun x => ?_
  split
  · exact .change fun s hs => hs.modTeam.wakeWord
  · refine .getBind fun s hs => ?_
    extract_lets x jp
    have hx : x.1.MemWf := by
      unfold x
      split
      · exact hs
      · exact hs.uncached
    have hjp : ∀ r, (jp r).KeepsMem := by
      refine fun r => .change fun s hs => ?_
      split
      · exact hs.engineSends.homeWrite.storeMem.writeDesc
      · exact hs.engineSends.homeWrite.storeMem
    exact .bind (.set hx) fun _ => .ite .throwBind (hjp ())

theorem ceMove_keepsMem {c} : (ceMove c).KeepsMem := by
  refine .getBind fun s _ => ?_
  dsimp only
  split
  · exact .bind ceRead_keepsMem fun _ => .pure
  · exact .bind ceRead_keepsMem fun _ => .pure
  · exact .pure

/-- A REDUCE takes the sums' old values from its destination, and writes the sums there. -/
theorem cePiece_keepsMem {c} : (cePiece c).KeepsMem := by
  refine .getBind fun s _ => .bind ceMove_keepsMem fun m => ?_
  refine .ite (.bind ceWrite_keepsMem fun _ => .pure) (.bind ceRead_keepsMem fun new => .ite ?_ ?_)
  · refine .bind cePlace_keepsMem fun x => ?_
    extract_lets jp
    have hjp : ∀ r, (jp r).KeepsMem := by
      refine fun r => .getBind fun s _ => .bind cePlace_keepsMem fun y => .bind ?_ fun old =>
        .bind cePlace_keepsMem fun z => .bind ceWrite_keepsMem fun _ => .pure
      split
      · exact .pure
      · exact .pure
    split
    · exact .getBind fun s _ => .ite .throwBind (hjp ())
    · exact hjp ()
  · extract_lets jp
    have hjp : ∀ d, (jp d).KeepsMem := fun d =>
      .bind cePlace_keepsMem fun _ => .bind cePlace_keepsMem fun _ => .bind ceWrite_keepsMem fun _ => .pure
    exact .ite (.bind ceDesc_keepsMem hjp) (.bind .pure hjp)

theorem convTake_keepsMem {c rowEnd} : ∀ {n x need}, (convTake c rowEnd n x need).KeepsMem
  | 0, _, _ => .pure
  | _ + 1, _, _ => .ite .pure (.getBind fun _ _ => .bind ceReadBlock_keepsMem fun _ => .bind ceDesc_keepsMem fun _ =>
      .ite .throwBind (.bind convTake_keepsMem fun _ => .pure))

theorem egcBits_keepsMem {c pos n} : (egcBits c pos n).KeepsMem :=
  .ite .pure (.getBind fun _ _ => .bind ceRead_keepsMem fun _ => .pure)

theorem egcValues_keepsMem {c t raw emax dw tz zmap} : ∀ {n i pos}, (egcValues c t raw emax dw tz zmap n i pos).KeepsMem
  | 0, _, _ => .pure
  | _ + 1, _, _ => .ite
      (.bind egcBits_keepsMem fun _ => .bind egcValues_keepsMem fun _ => .pure)
      (.bind egcBits_keepsMem fun _ => .ite (.bind egcValues_keepsMem fun _ => .pure)
        (.bind egcBits_keepsMem fun _ => .bind egcBits_keepsMem fun _ =>
          .ite .throwBind (.bind egcValues_keepsMem fun _ => .pure)))

theorem egcGroup_keepsMem {c pos} : (egcGroup c pos).KeepsMem :=
  .bind egcBits_keepsMem fun _ => .ite egcValues_keepsMem (.bind egcBits_keepsMem fun _ => .bind egcBits_keepsMem fun _ =>
    .bind egcBits_keepsMem fun _ => .bind egcBits_keepsMem fun _ => .ite .throwBind egcValues_keepsMem)

theorem egcNext_keepsMem {x} : (egcNext x).KeepsMem := by
  refine .bind egcGroup_keepsMem fun g => ?_
  extract_lets codes upTo jp
  have hjp : ∀ r, (jp r).KeepsMem := fun r =>
    .ite (.getBind fun _ _ => .bind ceRead_keepsMem fun _ => .pure) (.bind .pure fun _ => .pure)
  refine .ite (.bind (.getBind fun _ _ => .bind cePlace_keepsMem fun p => ?_) hjp) (.bind .pure hjp)
  split
  · exact .pure
  · exact .pure

theorem egcTake_keepsMem {rowEnd} : ∀ {n x need}, (egcTake rowEnd n x need).KeepsMem
  | 0, _, _ => .pure
  | n + 1, x, need => by
    refine .ite .pure (.ite (.bind egcNext_keepsMem fun _ => ?_) (.bind .pure fun _ => ?_))
    · exact .bind egcTake_keepsMem fun _ => .pure
    · exact .bind egcTake_keepsMem fun _ => .pure

theorem convPiece_keepsMem {c} : (convPiece c).KeepsMem := by
  unfold convPiece
  extract_lets b len row e rowEnd write take jp
  have hwrite : ∀ r, (write r).KeepsMem := fun _ =>
    .getBind fun _ _ => .bind ceWrite_keepsMem fun _ => .bind cePlace_keepsMem fun _ => .pure
  have htake : ∀ r, (take r).KeepsMem := fun _ => .ite (.bind egcTake_keepsMem hwrite) (.bind convTake_keepsMem hwrite)
  exact .ite .throwBind (.ite .throwBind (htake ()))

theorem State.MemWf.ceIdle {ce id} (h : s.MemWf) : (s.ceIdle ce id).MemWf := h.modCe.afterOnce

theorem State.MemWf.cmdEnds {id status} (h : s.MemWf) : (s.cmdEnds id status).MemWf := by
  unfold State.cmdEnds
  split
  · exact h.modCmd.ceIdle.after
  · exact h

theorem State.MemWf.dropCmd {id} (h : s.MemWf) : (s.dropCmd id).MemWf := by
  unfold State.dropCmd
  split
  · exact h
  · exact h.same.modCe.rltRelease.afterOnce

theorem State.MemWf.skipAfter {c} (h : s.MemWf) : (s.skipAfter c).MemWf := h.same
theorem State.MemWf.tilesAtEnd {c ok} (h : s.MemWf) : (s.tilesAtEnd c ok).MemWf := .ite h.tileTo.tileTo h
theorem State.MemWf.cmdPoisoned {id c} (h : s.MemWf) : (s.cmdPoisoned id c).MemWf := h.skipAfter.tilesAtEnd.dropCmd.consumePoison

theorem State.MemWf.cmdFaults {id c kind detail lease va acc} (h : s.MemWf) : (s.cmdFaults id c kind detail lease va acc).MemWf :=
  h.enqueue.modCmd.ceIdle

theorem State.MemWf.cmdStops {id c e} (h : s.MemWf) : (s.cmdStops id c e).MemWf := by
  unfold State.cmdStops
  split
  · exact h.cmdEnds
  · exact h.cmdFaults
  · exact h.cmdPoisoned
  · exact h.modCmd.modCe.afterOnce

theorem State.MemWf.cmdWritten {id c} (h : s.MemWf) : (s.cmdWritten id c).MemWf := by
  unfold State.cmdWritten
  extract_lets b bad dst s1
  refine .ite (.ite h.modCmd.ceIdle h.cmdFaults) (.ite (State.MemWf.ite h.emit h).modCmd.ceIdle.after (State.MemWf.ite h.emit h).cmdEnds)

theorem State.MemWf.runPieces {piece id limit} (hp : ∀ c, (piece c).KeepsMem) :
    ∀ {n} {s : State}, s.MemWf → (State.runPieces piece id limit n s).MemWf
  | 0, _, h => h
  | n + 1, s, h => by
    unfold State.runPieces
    split
    · exact h
    · rename_i c _
      extract_lets r
      have hr : r.2.MemWf := hp c s h
      refine .ite h.cmdWritten (.ite h.modCmd.ceIdle ?_)
      split
      · exact hr.modCmd.runPieces hp
      · exact hr.cmdStops

theorem State.MemWf.ceSeg {kind piece} (h : s.MemWf) (hp : ∀ c, (piece c).KeepsMem) : (s.ceSeg kind piece).MemWf := by
  unfold State.ceSeg
  split
  · exact h
  · split
    · exact h.ceIdle
    · exact .ite (h.runPieces hp) h

theorem State.MemWf.cmdBegin {id c} (h : s.MemWf) : (s.cmdBegin id c).MemWf := by
  unfold State.cmdBegin
  extract_lets b ch seed go
  refine .ite h.modCmd ?_
  refine .ite h.modCmd ?_
  refine .ite h.modCtx.modCmd ?_
  split
  · exact .ite h.modCmd h.modCmd
  · exact h.modCmd

theorem execCeSegment_memWf (h : s.MemWf) : (execCeSegment s).MemWf := by
  unfold execCeSegment
  extract_lets e
  split
  · exact h.next
  · split
    · exact h.next
    · extract_lets s1
      split
      · exact h.next
      · extract_lets s2
        have hs2 : s2.MemWf := .ite h.modCe.modCmd.cmdBegin h.modCe.modCmd
        split
        · exact h.next
        · exact .ite hs2.cmdEnds.next hs2.after.next

theorem execPeerWriteCompletion_memWf (h : s.MemWf) : (execPeerWriteCompletion s).MemWf := by
  unfold execPeerWriteCompletion
  extract_lets id
  refine State.MemWf.next ?_
  split
  · exact .ite h.modCmd.cmdEnds h
  · exact h

theorem State.MemWf.endChain {id c} (h : s.MemWf) : (s.endChain id c).MemWf := (State.MemWf.ite h h.modCtx).modCmd
theorem State.MemWf.endSum {id c} (h : s.MemWf) : (s.endSum id c).MemWf := .ite h.modCmd (.ite h.endChain h.modCmd)

theorem State.MemWf.cmdCounts {c} (h : s.MemWf) : (s.cmdCounts c).MemWf := by
  unfold State.cmdCounts
  split
  · exact h
  · exact .ite h.modOp.modOp.completeOp h.modOp

theorem State.MemWf.cmdDone {id c} (h : s.MemWf) : (s.cmdDone id c).MemWf :=
  (State.MemWf.ite h h.skipAfter).tilesAtEnd.dropCmd.trace.cmdCounts.afterOnce

theorem State.MemWf.cmdSignal {id c} (h : s.MemWf) : (s.cmdSignal id c).MemWf := by
  unfold State.cmdSignal
  extract_lets b r
  have hr : r.2.MemWf := ceWrite_keepsMem s h
  refine .ite h.cmdDone ?_
  split
  · exact hr.cmdDone
  · exact hr.cmdFaults.modCmd
  · exact h.after
  · exact hr.cmdDone

theorem execCeCommandComplete_memWf (h : s.MemWf) : (execCeCommandComplete s).MemWf := by
  unfold execCeCommandComplete
  extract_lets id
  split
  · exact h.next
  · extract_lets s1
    split
    · exact (State.MemWf.ite h h.endSum).cmdSignal.next
    · exact (State.MemWf.ite h h.endSum).next

theorem State.MemWf.engineResolved {id outcome cause shard} (h : s.MemWf) : (s.engineResolved id outcome cause shard).MemWf := by
  unfold State.engineResolved
  split
  · exact h
  · exact .ite (.ite h.modCmd.after h.cmdDone) (.ite h.modCmd.afterOnce (State.MemWf.ite h.deliver h).cmdEnds)

/-! ## Matrix work -/

theorem State.MemWf.reserve {q r} (h : s.MemWf) : (s.reserve q r).MemWf := h.bump.modQuad.afterOnce
theorem State.MemWf.unreserve {q key} (h : s.MemWf) : (s.unreserve q key).MemWf := h.modQuad.afterOnce
theorem State.MemWf.startQuiet {u i} (h : s.MemWf) : (s.startQuiet u i).MemWf := h.bump.modGroup

theorem State.MemWf.broadcast {u op b a} (h : s.MemWf) : (s.broadcast u op b a).MemWf := by
  unfold State.broadcast
  extract_lets cid
  refine h.foldl fun t x ht => ?_
  split
  · exact ht.bump.modQuad.after
  · exact ht

theorem State.MemWf.partSettled {r} (h : s.MemWf) : (s.partSettled r).MemWf := by
  unfold State.partSettled
  split
  · exact h.completeOp
  · extract_lets s1
    split
    · exact .ite h h.completeOp
    · exact .ite (State.MemWf.ite h h.completeOp).completeOp (State.MemWf.ite h h.completeOp).modOp

theorem State.MemWf.formParts {q} (h : s.MemWf) : (s.formParts q).MemWf := by
  unfold State.formParts
  refine h.foldl fun t x ht => ?_
  refine .ite ht ?_
  split
  · exact ht
  · exact .ite ht.modQuad.modGroup.modQuad.afterOnce ht.modQuad.modGroup.unreserve.partSettled.opFailed

theorem execMxp_memWf {a f} (h : s.MemWf) : (execMxp a f s).MemWf := by
  unfold execMxp
  refine h.issue fun u => ?_
  extract_lets b op q ag bg t1 n t2 t3
  have ht3 : t3.MemWf := .ite h.startQuiet.modOp.modOp.modGroup.broadcast h.startQuiet.modOp
  split
  · exact h.startQuiet.reserve.ok
  · split
    · exact ht3.reserve.formParts.ok
    · exact ht3.ok

theorem State.MemWf.performMxp {gid op o} (h : s.MemWf) : (s.performMxp gid op o).MemWf := .ite h.after h.opPerformed.reserve.formParts
theorem State.MemWf.slotTo {q n st} (h : s.MemWf) : (s.slotTo q n st).MemWf := h.modQuad

theorem State.MemWf.grantPath {q drain} (h : s.MemWf) : (s.grantPath q drain).MemWf := by
  unfold State.grantPath
  extract_lets x free
  split
  · exact h
  · exact .ite h.afterOnce (.ite h.modQuad.slotTo.modQuad.after h.modQuad.slotTo.modQuad.after)

theorem execMxeGrant_memWf (h : s.MemWf) : (execMxeGrant s).MemWf := by
  unfold execMxeGrant
  extract_lets q s1 more s2
  have hs2 : s2.MemWf := .ite h.grantPath.grantPath.grantPath h.grantPath.grantPath
  exact (State.MemWf.ite hs2.grantPath hs2).next

theorem execMxePassComplete_memWf (h : s.MemWf) : (execMxePassComplete s).MemWf := by
  unfold execMxePassComplete
  extract_lets q
  split
  · exact h.next
  · exact h.modQuad.unreserve.partSettled.next

theorem execMxzComplete_memWf (h : s.MemWf) : (execMxzComplete s).MemWf := by
  unfold execMxzComplete
  extract_lets gid op g q
  split
  · exact h.next
  · exact h.modQuad.modOp.completeOp.next

theorem execMxqResult_memWf (h : s.MemWf) : (execMxqResult s).MemWf := by
  unfold execMxqResult
  extract_lets g
  split
  · exact h.modOp.completeOp.next
  · exact h.next

theorem State.MemWf.drainBlock {g k u} (h : s.MemWf) : (s.drainBlock g k u).1.MemWf := by
  unfold State.drainBlock
  split
  · extract_lets x
    split <;> exact h.translate
  · exact h

theorem State.MemWf.drainBlocks {g b} (h : s.MemWf) : (s.drainBlocks g b).1.MemWf := h.foldlFst fun _ _ h => h.drainBlock

theorem State.MemWf.drainFailed {gid op q f} (h : s.MemWf) : (s.drainFailed gid op q f).MemWf := by
  unfold State.drainFailed
  refine State.MemWf.opFailed ?_
  split
  · exact h.unreserve
  · exact h

theorem State.MemWf.performDrainBlock {gid op o} (h : s.MemWf) : (s.performDrainBlock gid op o).MemWf := by
  unfold State.performDrainBlock
  extract_lets g q s0
  refine .ite h.after ?_
  refine (State.MemWf.ite h.reserve h).withBlock fun t b ht => ?_
  extract_lets b' t' x
  have ht' : t'.MemWf := (State.MemWf.ite ht ht.markCommitted).modOp
  split
  · exact ht'.drainFailed
  · split
    · exact ht'.drainBlocks.drainFailed
    · split
      · exact ht'.drainBlocks
      · exact ht'.drainBlocks.modQuad.opPerformed.modOp.modPlot.afterOnce

theorem State.MemWf.drainWrite {ctx dpa g} (h : s.MemWf) : (s.drainWrite ctx dpa g).MemWf :=
  (State.MemWf.ite h.serveHome.l2Dirty h).storeMem.writeDesc

theorem State.MemWf.drainEcc {r} (h : s.MemWf) : (s.drainEcc r).MemWf := by
  unfold State.drainEcc
  refine .ite h ?_
  refine h.foldl fun t x ht => ?_
  refine ht.foldl fun t x ht => ?_
  split
  · exact ht.eccMiss
  · exact ht

theorem State.MemWf.drainWait {r} (h : s.MemWf) : (s.drainWait r).1.MemWf := .iteFst h (h.foldlFst fun _ _ h => h.uncached)

theorem execMxdRowWrite_memWf (h : s.MemWf) : (execMxdRowWrite s).MemWf := by
  unfold execMxdRowWrite
  extract_lets q
  split
  · exact h.next
  · extract_lets b next put s' late
    split
    · exact h.modQuad.after.next
    · split
      · exact h.modQuad.after.next
      · split
        · exact h.drainEcc.consumePoison.afterOnce.next
        · split
          · exact h.drainEcc.drainWait.modQuad.after.next
          · extract_lets o x s1
            have hs1 : s1.MemWf := by
              unfold s1
              refine h.drainEcc.foldl fun t x ht => ?_
              split
              · exact ht.drainWrite
              · exact ht
            exact .ite h.drainEcc.modQuad.after.next hs1.modQuad.after.next

theorem execMxdDrainComplete_memWf (h : s.MemWf) : (execMxdDrainComplete s).MemWf := by
  unfold execMxdDrainComplete
  extract_lets q
  split
  · exact h.next
  · extract_lets s0 t
    split
    · exact h.unreserve.rltRelease.next
    · exact .ite h.unreserve.rltRelease.next h.unreserve.rltRelease.modQuad.modGroup.trace.modOp.completeOp.next

/-! ## The placer -/

theorem State.MemWf.enqueueLaunch {c q blk plot} (h : s.MemWf) : (s.enqueueLaunch c q blk plot).MemWf := h.modCtx.after

theorem State.MemWf.performLaunch {gid op o} (h : s.MemWf) : (s.performLaunch gid op o).MemWf :=
  .ite h.after (h.withBlock fun _ _ h => (State.MemWf.ite h.enqueueLaunch.markCommitted h).modOp.opPerformed.completeOp)

theorem State.MemWf.rootLaunch {c va} (h : s.MemWf) : (s.rootLaunch c va).MemWf := by
  unfold State.rootLaunch
  refine .ite h.modCtx ?_
  refine .ite h.modCtx ?_
  refine .ite h.after ?_
  extract_lets x
  split
  · split
    · exact h.translateWalk.after
    · exact .ite h.translateWalk.eccMiss.modCtx h.translateWalk.eccMiss.modCtx.modCtx.enqueueLaunch
  · exact h.translateWalk.enqueue
  · exact h.translateWalk.trapContext

theorem State.MemWf.preparePlot {w p} (h : s.MemWf) : (s.preparePlot w p).MemWf :=
  .ite (State.MemWf.ite h.l1Flush.modPlot h).l1Flush (.ite h.l1Flush.modPlot h)

theorem State.MemWf.addTeam {w t entry delay} (h : s.MemWf) : (s.addTeam w t entry delay).MemWf := h.same.modPlot.trace

theorem State.MemWf.addInstance {w l index relaunches o arenas primary} (h : s.MemWf) :
    (s.addInstance w l index relaunches o arenas primary).1.MemWf :=
  ((h.bump.foldl fun _ _ h => h.preparePlot).foldlFst fun _ _ h => h.addTeam).same

theorem State.MemWf.twinTeams {a b} (h : s.MemWf) : (s.twinTeams a b).MemWf := h.modCluster.modCluster.foldl fun _ _ h => h.modTeam.modTeam

theorem State.MemWf.placeLaunch {c l} (h : s.MemWf) : ∀ {t}, s.placeLaunch c l = some t → t.MemWf := by
  unfold State.placeLaunch
  extract_lets b w sh k x place
  split
  · rename_i o rest as _ _
    extract_lets r r2 owners s1
    have hr2 : r2.MemWf := by
      unfold r2
      split
      · exact h.addInstance.addInstance.twinTeams
      · exact h.addInstance
    rintro _ ⟨⟩
    exact hr2.modCtx.modLaunch
  · nofun

theorem State.MemWf.placeHandler {c r} (h : s.MemWf) : ∀ {t}, s.placeHandler c r = some t → t.MemWf := by
  unfold State.placeHandler
  extract_lets x rows w
  split
  · nofun
  · rintro _ ⟨⟩
    exact h.bump.preparePlot.addTeam.same

theorem State.MemWf.placeTurn {c} (h : s.MemWf) : ∀ {t}, s.placeTurn c = some t → t.MemWf := by
  unfold State.placeTurn
  split
  · exact h.placeHandler
  · exact h.placeLaunch
  · nofun

theorem execPlaceCluster_memWf (h : s.MemWf) : (execPlaceCluster s).MemWf := by
  unfold execPlaceCluster
  refine .ite h.signalLaunch.next (State.MemWf.next ?_)
  split
  · rename_i c t heq
    obtain ⟨d, -, hd⟩ := List.exists_of_findSome?_eq_some heq
    obtain ⟨t', ht, ⟨⟩⟩ := Option.map_eq_some_iff.1 hd
    exact (h.returnArenas.placeTurn ht).same.afterOnce
  · exact h.returnArenas

theorem State.MemWf.trapReady {c seq} (h : s.MemWf) : (s.trapReady c seq).MemWf := h.modCtx

theorem execHandlerTeamPlace_memWf (h : s.MemWf) : (execHandlerTeamPlace s).MemWf := by
  unfold execHandlerTeamPlace
  extract_lets c s'
  refine .ite h.trapWrite.next (State.MemWf.next ?_)
  split
  · split
    · rename_i heq
      exact (h.trapReady.placeHandler heq).same
    · exact h.trapReady
  · exact h.trapReady.afterOnce
  · exact h.trapReady

/-! ## Commits -/

theorem State.MemWf.writeEntry {t e dpa pte} (h : s.MemWf) : (s.writeEntry t e dpa pte).MemWf := by
  unfold State.writeEntry
  extract_lets full s1 s2 s3 s4
  have hs1 : s1.MemWf := .ite h.homeWrite (h.foldl fun _ _ h => h.touchWrite)
  have hs2 : s2.MemWf := hs1.foldl fun _ _ h => h.writeByte
  have hs3 : s3.MemWf := .ite (hs2.foldl fun _ _ h => h.tagWords) (hs2.foldl fun _ _ h => h.clearTags)
  have hs4 : s4.MemWf := by
    unfold s4
    split
    · exact hs3.writeDesc
    · exact hs3
  exact .ite hs4.clearPoison hs4

theorem State.MemWf.dropEntry {tid blk id} (h : s.MemWf) : (s.dropEntry tid blk id).MemWf := h.modTeam
theorem State.MemWf.markSent {tid blk id} (h : s.MemWf) : (s.markSent tid blk id).MemWf := h.modTeam
theorem State.MemWf.markFaulted {tid blk id f} (h : s.MemWf) : (s.markFaulted tid blk id f).MemWf := h.modTeam

theorem State.MemWf.teamExit {tid} (h : s.MemWf) : (s.teamExit tid).MemWf := by
  unfold State.teamExit
  extract_lets t s1
  have hs1 : s1.MemWf := by
    unfold s1
    split
    · exact .ite h.trapResolved h
    · exact h
  exact hs1.freeTeam.instanceCheck

theorem State.MemWf.commitFinish {tid k} (h : s.MemWf) : (s.commitFinish tid k).MemWf := by
  unfold State.commitFinish
  split
  · exact h.modGroup
  · exact .ite h h.countArrival
  · exact h.pubSend
  · exact h.teamExit
  · exact h
  · exact h.afterOnce

theorem State.MemWf.commitCheck {tid} (h : s.MemWf) : (s.commitCheck tid).MemWf := by
  unfold State.commitCheck
  extract_lets t
  split
  · exact h
  · exact .ite h h.modTeam.startDrain.commitFinish

theorem State.MemWf.drainEntry {tid blk} (h : s.MemWf) : (s.drainEntry tid blk).MemWf := by
  unfold State.drainEntry
  extract_lets t va
  split
  · exact h
  · refine .ite h ?_
    split
    · exact h
    · refine .ite h.after ?_
      extract_lets x
      split
      · extract_lets x' y road
        refine .ite h.translate.eccMiss.markSent.along ?_
        refine .ite (State.MemWf.iteFst h.translate.eccMiss h.translate.eccMiss.uncached).after ?_
        exact .ite h.translate.eccMiss.consumePoison h.translate.eccMiss.writeEntry.dropEntry.markCommitted
      · exact h.translate.endInstance
      · exact h.translate.markFaulted.report

theorem State.MemWf.arrivalCommit {tid gid a} (h : s.MemWf) : (s.arrivalCommit tid gid a).MemWf := h.modGroup.beginCommit

theorem State.MemWf.groupPoints {tid gid} (h : s.MemWf) : (s.groupPoints tid gid).MemWf := by
  unfold State.groupPoints
  extract_lets g t s1 s2
  have hs1 : s1.MemWf := by
    unfold s1
    split
    · exact .ite h h.beginCommit
    · exact .ite h h.beginCommit
    · exact h
  have hs2 : s2.MemWf := hs1.foldl fun _ _ h => .ite h.arrivalCommit h
  refine hs2.foldl fun t x ht => ?_
  split
  · refine .ite ht.modOp.beginCommit ?_
    split
    · exact .ite ht.modOp.beginCommit.beginCommit ht.after
    · exact ht
  · exact ht

theorem State.MemWf.pairMismatch {tid} (h : s.MemWf) : (s.pairMismatch tid).MemWf := by
  unfold State.pairMismatch
  extract_lets t drop s1 twin
  have hs1 : s1.MemWf := by
    unfold s1
    dsimp only [drop]
    refine State.MemWf.modTeam ?_
    split
    · exact h.modTeam
    · exact h
  exact hs1.deliver.endInstance

theorem State.MemWf.pairCommit {p q} (h : s.MemWf) : (s.pairCommit p q).MemWf := by
  unfold State.pairCommit
  split
  · refine .ite h.pairMismatch ?_
    extract_lets s1 s2 s3 s4 s5
    have hs2 : s2.MemWf := .ite h.modTeam.startDrain h.modTeam
    have hs4 : s4.MemWf := by
      unfold s4
      split
      · exact hs2.modTeam
      · exact hs2.modTeam.commitFinish
    have hs5 : s5.MemWf := by
      unfold s5
      split
      · split
        · exact .ite hs4.unhold hs4
        · exact hs4
      · exact hs4
    exact hs5.afterOnce
  · exact h

theorem execPairCommitCompare_memWf (h : s.MemWf) : (execPairCommitCompare s).MemWf := by
  unfold execPairCommitCompare
  extract_lets tid t
  split
  · exact (State.MemWf.ite h.pairCommit h.pairCommit).next
  · exact h.next

theorem execPairForward_memWf (h : s.MemWf) : (execPairForward s).MemWf := by
  unfold execPairForward
  extract_lets g t
  split
  · exact h.modTeam.modTeam.next
  · exact h.next

theorem execPairedWordMatch_memWf (h : s.MemWf) : (execPairedWordMatch s).MemWf := by
  unfold execPairedWordMatch
  extract_lets p
  refine State.MemWf.next ?_
  refine h.foldl fun t x ht => ?_
  extract_lets twin
  refine .ite ht ?_
  split
  · exact .ite ht.modGroup ht.pairMismatch
  · exact ht

/-! ## The Sieve -/

theorem State.MemWf.sieveSnapshot {gid op o} (h : s.MemWf) : (s.sieveSnapshot gid op o).MemWf := (State.MemWf.ite h.modPlot h).modOp.after

theorem State.MemWf.performSvget {gid op o} (h : s.MemWf) : (s.performSvget gid op o).MemWf := by
  unfold State.performSvget
  extract_lets g es beyond r f
  refine .ite h.placeBlocks ?_
  refine .ite h.lookAgain ?_
  clear_value f
  split
  · exact h.checkElems.opFailed
  · exact h.checkElems.performStore

theorem execSvgetSnapshot_memWf (h : s.MemWf) : (execSvgetSnapshot s).MemWf := by
  unfold execSvgetSnapshot
  split
  · exact h.sieveSnapshot.next
  · exact h.next

/-! ## Operations at their time -/

theorem State.MemWf.performOp {gid op o} (h : s.MemWf) : (s.performOp gid op o).MemWf := by
  unfold State.performOp
  split
  · exact h.performObject
  · exact h.performObject
  · exact h.performObject
  · exact h.performOstat
  · exact h.performPub
  · exact .ite h.performSvget h.sieveSnapshot
  · exact h.performCopy
  · exact h.performCopy
  · exact h.performCopy
  · exact h.performPfh
  · exact h.performLaunch
  · exact h.performMwait
  · exact h.performDrainBlock
  · exact h.performMxp
  · exact h.performAccess

theorem execOperandLogReplay_memWf (h : s.MemWf) : (execOperandLogReplay s).MemWf := by
  unfold execOperandLogReplay
  extract_lets g
  split
  · split
    · split
      · exact (State.MemWf.ite h.markMoving.after (.ite h.after h.performOp)).next
      · exact h.next
    · exact h.next
  · exact h.next

/-! ## Leases -/

theorem State.MemWf.privDone {gid v} (h : s.MemWf) : (s.privDone gid v).MemWf := h.modGroup
theorem State.MemWf.privStatus {i n v} (h : s.MemWf) : (privStatus i s n v).MemWf := h.hold

theorem State.MemWf.privAlong {i r n f} (h : s.MemWf) (hf : (f s).1.MemWf) : (privAlong i s r n f).MemWf := by
  unfold Machine.privAlong
  split
  · exact hf.privStatus
  · exact h.dropAt.hold

theorem State.MemWf.leaseTo {i st} (h : s.MemWf) : (s.leaseTo i st).MemWf := h.modLease.trace
theorem State.MemWf.leaseRecord {kind i addr} (h : s.MemWf) : (s.leaseRecord kind i addr).MemWf := h.enqueue
theorem State.MemWf.leaseExpires {i} (h : s.MemWf) : (s.leaseExpires i).MemWf := h.leaseTo.leaseRecord

theorem execRevokeDeadline_memWf (h : s.MemWf) : (execRevokeDeadline s).MemWf := by
  unfold execRevokeDeadline
  extract_lets i l s1
  refine State.MemWf.next ?_
  split
  · exact .ite (.ite h.modLease h.modLease.leaseExpires) h
  · exact h

theorem State.MemWf.freeLease {i} (h : s.MemWf) : (s.freeLease i).MemWf := by
  unfold State.freeLease
  extract_lets s1
  have hs1 : s1.MemWf := by
    unfold s1
    refine h.foldl fun t x ht => ?_
    refine State.MemWf.freeFrame ?_
    split
    · exact ht.dropUnit
    · exact ht
  exact hs1.leaseTo.modLease

theorem State.MemWf.rhSend {node m} (h : s.MemWf) : (s.rhSend node m).MemWf := h.emit
theorem State.MemWf.rhBadCount (h : s.MemWf) : s.rhBadCount.MemWf := h.modPgc

theorem State.MemWf.leaseAnswered {i q status} (h : s.MemWf) : (s.leaseAnswered i q status).MemWf := by
  unfold State.leaseAnswered
  extract_lets s1
  split
  · exact h.modLease.unschedule.privDone
  · exact h.modLease.unschedule

theorem State.MemWf.renewEnds {i} (h : s.MemWf) : (s.renewEnds i).MemWf := .ite h (.ite h.leaseTo h.leaseExpires)

theorem execGrant_memWf (h : s.MemWf) : (execGrant s).MemWf := by
  unfold execGrant
  extract_lets m
  refine State.MemWf.next ?_
  split
  · exact .ite h.rhBadCount h.modLease.leaseTo.leaseAnswered
  · exact h.rhBadCount

theorem execRefuse_memWf (h : s.MemWf) : (execRefuse s).MemWf := by
  unfold execRefuse
  extract_lets m
  refine State.MemWf.next ?_
  split
  · exact (State.MemWf.ite h.leaseTo h.renewEnds).leaseAnswered
  · exact h.rhBadCount

theorem execReturned_memWf (h : s.MemWf) : (execReturned s).MemWf := by
  unfold execReturned
  extract_lets m
  refine State.MemWf.next ?_
  split
  · exact .ite h.leaseAnswered.freeLease h.rhBadCount
  · exact h.rhBadCount

theorem execRevoke_memWf (h : s.MemWf) : (execRevoke s).MemWf := by
  unfold execRevoke
  extract_lets m held node ack d
  refine State.MemWf.next ?_
  refine .ite ?_ h.rhBadCount
  clear_value held
  split
  · exact .ite h.rhSend.leaseTo.modLease.leaseRecord.atTick h.rhSend.rhBadCount
  · exact h.rhSend.rhBadCount

theorem execAnswerLimit_memWf (h : s.MemWf) : (execAnswerLimit s).MemWf := by
  unfold execAnswerLimit
  extract_lets i
  refine State.MemWf.next ?_
  split
  · refine .ite h ?_
    refine .ite ?_ h.renewEnds.leaseAnswered
    split
    · exact h.leaseAnswered
    · exact h.leaseAnswered.freeLease
  · exact h

theorem State.MemWf.unitTimeout {k} (h : s.MemWf) : (s.unitTimeout k).MemWf := by
  unfold State.unitTimeout
  extract_lets va x
  split
  · split
    · split
      · exact .ite h.unschedule.cmdFaults h
      · exact h
    · exact h
  · split
    · split
      · exact .ite h.unschedule.cmdFaults h
      · exact h
    · exact h
  · split
    · exact .ite h.unschedule.report h
    · exact h
  · split
    · exact h.unschedule.dropUnit.writeBackFrame.freeFrame.enqueue
    · exact h

theorem execPoolReadTimeout_memWf (h : s.MemWf) : (execPoolReadTimeout s).MemWf := by
  unfold execPoolReadTimeout
  split
  · exact h.unitTimeout.next
  · extract_lets gid op g late
    refine State.MemWf.next ?_
    split
    · exact h
    · extract_lets hit
      split
      · exact h.unschedule.opFailed
      · exact .ite h.unschedule.opFailed h
      · split
        · exact h.unschedule.opFailed
        · exact h
      · exact h

theorem State.MemWf.install {i r} (h : s.MemWf) : (s.install i r).MemWf := .ite h.modLease.leaseTo.modLease.leaseRecord h.modLease.leaseTo
theorem State.MemWf.pgcStore {gid a bs} (h : s.MemWf) : (s.pgcStore gid a bs).MemWf := h.uncached.storeNow

theorem execLeaseInstall_memWf {d a b} (h : s.MemWf) : (execLeaseInstall d a b s).MemWf := by
  unfold execLeaseInstall
  refine h.issue fun u => ?_
  extract_lets i
  refine h.privAlong ?_
  exact .iteFst h.eccMiss h.eccMiss.install

theorem execLeaseRead_memWf {d a b} (h : s.MemWf) : (execLeaseRead d a b s).MemWf := by
  unfold execLeaseRead
  refine h.issue fun u => ?_
  extract_lets i
  split
  · exact h.privStatus
  · refine h.privAlong ?_
    exact h.pgcStore

theorem State.MemWf.leaseRequest {i ty q span} (h : s.MemWf) : (s.leaseRequest i ty q span).MemWf := h.rhSend.modPgc.modLease.atTick

/-! ## Privileged forms -/

theorem tlbiWord_memWf {i c a b mode} (h : s.MemWf) : (tlbiWord i c a b mode s).MemWf :=
  h.issue fun _ => .ite (h.same.cmdTlbDrop.foldl fun _ _ h => h.send).ok (h.same.cmdTlbDrop.foldl fun _ _ h => h.send).hold

theorem acntWord_memWf {i a new} (h : s.MemWf) : (acntWord i a new s).MemWf := by
  unfold acntWord
  refine h.issue fun u => ?_
  extract_lets f old
  split
  · exact h.privStatus
  · refine State.MemWf.privStatus ?_
    split
    · exact h.modFrame
    · exact h

theorem State.MemWf.writeSplit {gid b e} (h : s.MemWf) : (s.writeSplit gid b e).MemWf := h.foldl fun _ _ h => h.pgcStore

theorem execPsplit_memWf {d a b} (h : s.MemWf) : (execPsplit d a b s).MemWf := by
  unfold execPsplit
  refine h.issue fun u => ?_
  extract_lets read t1 e e1
  split
  · refine h.privAlong ?_
    exact h.eccMiss
  · split
    · refine h.privAlong ?_
      exact h.eccMiss
    · split
      · exact h.eccMiss.pgcStore.writeSplit.after.hold
      · exact h.dropAt.hold

theorem execPsplitComplete_memWf (h : s.MemWf) : (execPsplitComplete s).MemWf := by
  unfold execPsplitComplete
  extract_lets gid g
  refine State.MemWf.next ?_
  split
  · exact .ite h.pgcStore.privDone h.writeSplit.along
  · exact h

theorem State.MemWf.movePage {src dst} (h : s.MemWf) : (s.movePage src dst).MemWf := by
  unfold State.movePage
  extract_lets s1 s2
  have hs1 : s1.MemWf := h.dropUnit.dropUnit.wakeFrame
  have hs2 : s2.MemWf := hs1.foldl fun _ _ h => h.eccRead.copyBlock
  split
  · exact hs2.freeFrame
  · exact hs2

theorem State.MemWf.freeSource {src} (h : s.MemWf) : (s.freeSource src).MemWf := by
  unfold State.freeSource
  split
  · exact h.freeFrame
  · exact .ite h.freeFrame.modFrame h

theorem State.MemWf.moveSends {e dpa} (h : s.MemWf) : (s.moveSends e dpa).MemWf := .ite h.emit h

theorem State.MemWf.moveBlock {s0 : State} {gid b} (h : s0.MemWf) : (s0.moveBlock gid b).1.MemWf := by
  unfold State.moveBlock
  extract_lets ptea s old new
  split
  · exact h.eccMiss
  · split
    · exact h.eccMiss
    · extract_lets lost s1 s2
      have hs1 : s1.MemWf := by
        unfold s1
        split
        · extract_lets t
          have ht : t.MemWf := .ite h.eccMiss.loseUnit h.eccMiss.movePage.moveSends.moveSends
          exact .ite ht ht.freeSource
        · exact h.eccMiss
      exact .iteFst h.eccMiss hs1.pgcStore.tlbDrop

theorem State.MemWf.moveWait {b} (h : s.MemWf) : (s.moveWait b).1.MemWf := by
  unfold State.moveWait
  extract_lets x y n
  have hy : y.1.MemWf := by
    unfold y
    split
    · exact .iteFst h.uncached h.uncached.uncached
    · exact h.uncached
  exact hy

theorem execBiasComplete_memWf (h : s.MemWf) : (execBiasComplete s).MemWf := by
  unfold execBiasComplete
  extract_lets gid g
  refine State.MemWf.next ?_
  split
  · exact (h.foldl fun _ _ h => h.modFrame).unschedule.privDone
  · exact h

/-! ## Frames -/

theorem State.MemWf.frameEnds {n stat} (h : s.MemWf) : (s.frameEnds n stat).MemWf := h.after

theorem State.MemWf.flushUnit {u} (h : s.MemWf) : (s.flushUnit u).MemWf := by
  unfold State.flushUnit
  extract_lets s1
  split
  · exact h.dropUnit.writeBackFrame
  · exact h.dropUnit

theorem State.MemWf.evictUnit {u} (h : s.MemWf) : (s.evictUnit u).MemWf := by
  unfold State.evictUnit
  extract_lets s1
  split
  · exact h.flushUnit.freeFrame
  · exact h.flushUnit

theorem State.MemWf.discardUnit {u} (h : s.MemWf) : (s.discardUnit u).MemWf := by
  unfold State.discardUnit
  extract_lets s1
  split
  · exact h.loseUnit.freeFrame
  · exact h.loseUnit

theorem State.MemWf.evictFrame {f} (h : s.MemWf) : (s.evictFrame f).MemWf := by
  unfold State.evictFrame
  split
  · exact h.evictUnit
  · exact h

theorem State.MemWf.retireFrame {f} (h : s.MemWf) : (s.retireFrame f).MemWf := .ite h (.ite h.emit h.modNvm)

theorem execFrameRetire_memWf (h : s.MemWf) : (execFrameRetire s).MemWf := by
  unfold execFrameRetire
  extract_lets f s1 n s2
  have hs2 : s2.MemWf := by
    unfold s2
    split
    · exact h.loseUnit.discardUnit
    · exact h.loseUnit.freeFrame
  refine State.MemWf.next ?_
  refine .ite ?_ (.ite h.frameEnds hs2.modFrame.retireFrame.frameEnds)
  refine State.MemWf.retireFrame ?_
  refine State.MemWf.modFrame ?_
  split
  · exact h.loseUnit.discardUnit
  · exact h.loseUnit.freeFrame

theorem execFillBlockArrival_memWf (h : s.MemWf) : (execFillBlockArrival s).MemWf := by
  unfold execFillBlockArrival
  extract_lets f x
  refine State.MemWf.next ?_
  split
  · exact h
  · exact .ite h.modFrame (.ite (State.MemWf.ite h h.copyBlock).modFrame.after (State.MemWf.ite h h.copyBlock).modFrame)

theorem execDeadFilled_memWf (h : s.MemWf) : (execDeadFilled s).MemWf := by
  unfold execDeadFilled
  extract_lets f
  refine State.MemWf.next ?_
  split
  · exact h.modFrame.enqueue
  · exact h

theorem execBisnp_memWf (h : s.MemWf) : (execBisnp s).MemWf := by
  unfold execBisnp
  extract_lets dpa n lines units s1 s2 id s3
  have hs1 : s1.MemWf := h.foldl fun _ _ h => h.dropLine
  have hs2 : s2.MemWf := by
    unfold s2
    refine hs1.foldl fun t x ht => ?_
    split
    · exact (State.MemWf.ite ht.writeBackFrame ht).freeFrame
    · exact ht
  exact hs2.bump.modPgc.emit.enqueue.next

theorem execSoftError_memWf (h : s.MemWf) : (execSoftError s).MemWf := by
  unfold execSoftError
  refine State.MemWf.next ?_
  split
  · exact .ite h.same h
  · exact .ite h.same h
  · exact h

theorem execScrubRead_memWf (h : s.MemWf) : (execScrubRead s).MemWf := by
  unfold execScrubRead
  extract_lets st pos
  refine State.MemWf.next ?_
  split
  · exact h
  · exact .ite h (.ite h.after (.ite h.eccReadAt.same.after h.eccReadAt))

theorem execScrubWriteback_memWf (h : s.MemWf) : (execScrubWriteback s).MemWf := by
  unfold execScrubWriteback
  extract_lets st s1
  refine State.MemWf.next ?_
  split
  · exact h
  · exact .ite (h.same.foldl fun _ _ h => h.pokeByte) h.same

/-! ## Coherence -/

theorem execOwnerForward_memWf (h : s.MemWf) : (execOwnerForward s).MemWf := by
  unfold execOwnerForward
  extract_lets p dpa
  refine State.MemWf.next ?_
  split
  · exact .ite h.forwardOwner.setDir h
  · exact h

theorem execInvalidationAck_memWf (h : s.MemWf) : (execInvalidationAck s).MemWf := by
  unfold execInvalidationAck
  extract_lets dpa
  refine State.MemWf.next ?_
  split
  · exact .ite h h.setDir
  · exact h

theorem execL1Writeback_memWf (h : s.MemWf) : (execL1Writeback s).MemWf := by
  unfold execL1Writeback
  extract_lets p dpa held g s1
  refine State.MemWf.next ?_
  refine .ite ?_ h
  split
  · exact h.l1Drop.l2Storage.setL2
  · exact h.l1Drop.l2Storage

theorem execPageWalk_memWf (h : s.MemWf) : (execPageWalk s).MemWf := by
  unfold execPageWalk
  extract_lets p c va k r
  refine State.MemWf.next ?_
  split
  · exact h.lookup.enqueue
  · exact h.lookup

/-! ## The pager -/

theorem State.MemWf.groupResolved {gid op d out cause} (h : s.MemWf) : (s.groupResolved gid op d out cause).MemWf := by
  unfold State.groupResolved
  extract_lets g z
  split
  · split
    · exact .ite h (.ite h.modGroup.tryReplay h.modGroup.trapGroup)
    · exact h
  · exact h

theorem State.MemWf.fetchResolved {d vline out cause} (h : s.MemWf) : (s.fetchResolved d vline out cause).MemWf :=
  .ite h.requestLine h.modPlot

theorem State.MemWf.drainResolved {tid blk out} (h : s.MemWf) : (s.drainResolved tid blk out).MemWf := by
  unfold State.drainResolved
  refine .ite h ?_
  refine .ite ?_ h.endInstance
  split
  · exact h.markFaulted.after
  · exact h

theorem State.MemWf.deviceTrap {d cause} (h : s.MemWf) : (s.deviceTrap d cause).MemWf := h.trapContext

theorem State.MemWf.modelResolved {d dpa rclass mgroup out cause} (h : s.MemWf) : (s.modelResolved d dpa rclass mgroup out cause).MemWf := by
  unfold State.modelResolved
  refine .ite h.deviceTrap ?_
  refine .ite h ?_
  extract_lets r
  split
  · exact h.pageFill.enqueue
  · exact h.pageFill

theorem State.MemWf.resolved {r out cause} (h : s.MemWf) : (s.resolved r out cause).MemWf := by
  unfold State.resolved
  split
  · exact h.groupResolved
  · exact h.fetchResolved
  · exact h.engineResolved
  · exact h.drainResolved
  · exact .ite h.signalLaunch h.retireLaunch.deviceTrap
  · exact .ite h.trapWrite h.trapDropped
  · exact h.after
  · exact .ite h.rootLaunch h.deviceTrap
  · exact .ite h.after h.deviceTrap
  · exact h.modPgc
  · exact h.modelResolved
  · exact h

theorem State.MemWf.answer {r out cause} (h : s.MemWf) : (s.answer r out cause).MemWf := by
  unfold State.answer
  split
  · exact h.resolved
  · split
    · exact h.bump.modPgc.after
    · exact h.dropAt

theorem State.MemWf.resolve {out} (h : s.MemWf) : (s.resolve out).MemWf := by
  unfold State.resolve
  extract_lets i
  refine .ite ?_ ?_
  · split
    · exact h.modPgc.resolved
    · exact h
  · split
    · exact h.fqRelease.answer
    · exact h

/-! ## Swaps -/

theorem State.MemWf.sliceBoundary {p} (h : s.MemWf) : (s.sliceBoundary p).MemWf := .ite h.modPlot.afterOnce h.modPlot

theorem State.MemWf.swap {p inc image} (h : s.MemWf) : (s.swap p inc image).MemWf := by
  unfold State.swap
  extract_lets x out s1 s2 s3 s4
  have hs1 : s1.MemWf := h.foldl fun _ _ h => h.flushPend.modGroup
  have hs2 : s2.MemWf := hs1.foldl fun _ _ h => h.modGroup
  have hs4 : s4.MemWf := hs2.modPlot.foldl fun _ _ h => h.tryReplay.rereadMwait
  exact hs4.after.afterOnce

theorem State.MemWf.trySwap {p} (h : s.MemWf) : (s.trySwap p).MemWf := by
  unfold State.trySwap
  split
  · exact h.sliceBoundary.swap
  · exact h.sliceBoundary

theorem State.MemWf.askSwap {p} (h : s.MemWf) : (s.askSwap p).MemWf := by
  unfold State.askSwap
  split
  · exact h.sliceBoundary.swap
  · exact h.modPlot

theorem State.MemWf.spillFails {p} (h : s.MemWf) : (s.spillFails p).MemWf :=
  ((h.foldl fun _ _ h => h.errorVector).foldl fun _ _ h => h.killTeam).modPlot.after

theorem State.MemWf.imageStore {c va bs} (h : s.MemWf) : (s.imageStore c va bs).MemWf := by
  unfold State.imageStore
  refine h.foldl fun t x ht => ?_
  split
  · exact ht.uncached.homeStore
  · exact ht

theorem State.MemWf.imagesStore {p r} (h : s.MemWf) : (s.imagesStore p r).MemWf := h.foldl fun _ _ h => h.imageStore

theorem State.MemWf.spillSave {p} (h : s.MemWf) : (s.spillSave p).MemWf := by
  unfold State.spillSave
  extract_lets r bad
  refine .ite h.after ?_
  clear_value bad
  split
  · exact h.enqueue
  · exact h.spillFails
  · exact h.imagesStore.modPlot.after

theorem State.MemWf.spillDrain {p first} (h : s.MemWf) : (s.spillDrain p first).MemWf := by
  unfold State.spillDrain
  extract_lets ts s1
  have hs1 : s1.MemWf := .ite (h.foldl fun _ _ h => .ite h h.beginCommit) h
  exact .ite hs1 hs1.spillSave

theorem State.MemWf.spillSaved {p} (h : s.MemWf) : (s.spillSaved p).MemWf := by
  unfold State.spillSaved
  extract_lets x s1
  have hs1 : s1.MemWf := by
    unfold s1
    split
    · exact h.foldl fun _ _ h => h.modGroup
    · exact h
  exact hs1.modPlot.after

theorem State.MemWf.teamsRestored {p} (h : s.MemWf) : (s.teamsRestored p).MemWf := .ite h.modPlot h.modPlot.after

theorem State.MemWf.setRestored {p} (h : s.MemWf) : (s.setRestored p).MemWf := by
  unfold State.setRestored
  split
  · exact (h.foldl fun _ _ h => h.modGroup).modPlot
  · exact h.modPlot

theorem execSpillEngine_memWf (h : s.MemWf) : (execSpillEngine s).MemWf := by
  unfold execSpillEngine
  extract_lets p
  refine State.MemWf.next ?_
  split
  · exact h
  · exact .ite h.spillFails h.spillDrain
  · exact .ite h.spillSaved h
  · exact .ite h.teamsRestored h
  · exact .ite h.setRestored h

/-! ## The debug port -/

theorem State.MemWf.resumeGroup {gid} (h : s.MemWf) : (s.resumeGroup gid).MemWf := by
  unfold State.resumeGroup
  extract_lets p s1 s2
  have hs2 : s2.MemWf := .ite h.modGroup.takeQueued.rereadMwait h.modGroup.takeQueued
  exact .ite hs2 (.ite hs2.trySwap (.ite hs2.askSwap hs2))

theorem execDebuggerRegisterWrite_memWf (h : s.MemWf) : (execDebuggerRegisterWrite s).MemWf := by
  unfold execDebuggerRegisterWrite
  extract_lets gid
  refine State.MemWf.next ?_
  split
  · exact h.modGroup
  · exact h

theorem State.MemWf.haltRequest {v} (h : s.MemWf) : (s.haltRequest v).MemWf := by
  unfold State.haltRequest
  split
  · exact h
  · exact .ite h.modRegs h.after

theorem State.MemWf.brkBits {p c va} (h : s.MemWf) : (s.brkBits p c va).1.MemWf := by
  unfold State.brkBits
  extract_lets m w base a x
  split
  · exact h
  · split <;> exact h.translate

theorem State.MemWf.fetchLine {p c va dpa} (h : s.MemWf) : (s.fetchLine p c va dpa).1.MemWf := h.brkBits

theorem execIcacheFill_memWf (h : s.MemWf) : (execIcacheFill s).MemWf := by
  unfold execIcacheFill
  extract_lets p c va who done x
  refine State.MemWf.next ?_
  refine .ite h ?_
  refine .ite h.after ?_
  split
  · extract_lets n t0 m t1 l
    have ht1 : t1.MemWf := .ite (.ite h.translate.eccMiss.l2Ensure.servePool h.translate.eccMiss.l2Ensure) h.translate.eccMiss
    exact .ite h.translate.after (.ite (h.translate.eccMiss.modPlot.foldl fun _ _ h => h.consumePoison) ht1.fetchLine.modPlot)
  · exact h.translate.modPlot.modPlot
  · clear_value who
    split
    · exact h.translate.report
    · exact h.translate.modPlot

theorem execEmptySlot_memWf (h : s.MemWf) : (execEmptySlot s).MemWf := by
  refine State.MemWf.next (.ite ?_ h)
  have ht : (s.unitTurn s.ev.a).MemWf := h.unitTurn
  split
  · rename_i heq
    rwa [heq] at ht
  · exact h

/-! ## Votes, culls and tests -/

theorem State.MemWf.moveTo {piece id limit} (hp : ∀ c, (piece c).KeepsMem) :
    ∀ {n} {s : State}, s.MemWf → (State.moveTo piece id limit n s).MemWf
  | 0, _, h => h
  | n + 1, s, h => by
    unfold State.moveTo
    split
    · exact h
    · rename_i c _
      extract_lets r
      have hr : r.2.MemWf := hp c s h
      refine .ite h ?_
      split
      · exact hr.modCmd.moveTo hp
      · exact hr

theorem State.MemWf.stopCmd {id} (h : s.MemWf) : (s.stopCmd id).MemWf := by
  unfold State.stopCmd
  split
  · exact h
  · rename_i c _
    extract_lets k s0
    have hs0 : s0.MemWf := .ite h.unschedule h
    have hp : ∀ x, ((if cmKind c.blk.toNat = 2 then convPiece else cePiece) x).KeepsMem := by
      split
      · exact fun _ => convPiece_keepsMem
      · exact fun _ => cePiece_keepsMem
    refine .ite ?_ hs0
    split
    · exact (hs0.unschedule.moveTo hp).ceIdle
    · exact hs0

theorem State.MemWf.modNbr {p n f} (h : s.MemWf) : (s.modNbr p n f).MemWf := h.modPlot

theorem State.MemWf.sendAround {p subj what f} (h : s.MemWf) : (s.sendAround p subj what f).MemWf := by
  unfold State.sendAround
  refine h.foldl fun t x ht => ?_
  split
  · exact ht.atTick
  · exact ht.dropAt

theorem State.MemWf.sendAll {p what f} (h : s.MemWf) : (s.sendAll p what f).MemWf :=
  (h.foldl fun _ _ h => h.atTick).foldl fun _ _ h => h.dropAt

theorem State.MemWf.flitDropped {p} (h : s.MemWf) : (s.flitDropped p).MemWf := h.modPlot
theorem State.MemWf.countFlit {p n src} (h : s.MemWf) : (s.countFlit p n src).MemWf := .ite h.modNbr h
theorem State.MemWf.countAll {src} (h : s.MemWf) : (s.countAll src).MemWf := h.foldl fun _ _ h => h.countFlit

theorem execHeartbeatSend_memWf (h : s.MemWf) : (execHeartbeatSend s).MemWf := by
  unfold execHeartbeatSend
  extract_lets p f n s1 ce
  have hs1 : s1.MemWf := .ite (h.foldl fun _ _ h => h.foldl fun _ _ h1 => h1.atTick) h
  exact (State.MemWf.ite hs1.modPlot hs1).next

theorem execHeartbeat_memWf (h : s.MemWf) : (execHeartbeat s).MemWf := by
  unfold execHeartbeat
  extract_lets p n f now s1
  refine State.MemWf.next ?_
  split
  · exact h
  · exact .ite h (.ite h.flitDropped (.ite h.modNbr.modNbr (.ite h.modNbr.modNbr h.modNbr.modNbr)))

theorem State.MemWf.announceCull {p subj} (h : s.MemWf) : (s.announceCull p subj).MemWf := h.sendAll
theorem State.MemWf.setAccusers {p n subj l} (h : s.MemWf) : (s.setAccusers p n subj l).MemWf := .ite h.modNbr.announceCull h.modNbr
theorem State.MemWf.enterAccuse {p n subj} (h : s.MemWf) : (s.enterAccuse p n subj).MemWf := h.setAccusers.sendAround
theorem State.MemWf.withdrawAccuse {p n subj} (h : s.MemWf) : (s.withdrawAccuse p n subj).MemWf := h.modNbr.sendAround

theorem State.MemWf.evaluate {p n subj} (h : s.MemWf) : (s.evaluate p n subj).MemWf :=
  .ite h.modNbr.enterAccuse (.ite h.modNbr.modNbr.withdrawAccuse h.modNbr)

theorem execPeriodEvaluation_memWf (h : s.MemWf) : (execPeriodEvaluation s).MemWf := by
  unfold execPeriodEvaluation
  extract_lets p
  refine State.MemWf.next ?_
  refine .ite h ?_
  refine h.foldl fun t x ht => ?_
  split
  · exact .ite ht ht.evaluate
  · exact ht

theorem execAccuse_memWf (h : s.MemWf) : (execAccuse s).MemWf := by
  unfold execAccuse
  extract_lets p f t
  refine State.MemWf.next ?_
  split
  · exact .ite h.flitDropped (.ite h.countFlit h.countFlit.setAccusers)
  · exact h.countFlit

theorem execWithdraw_memWf (h : s.MemWf) : (execWithdraw s).MemWf := by
  unfold execWithdraw
  extract_lets p f t
  refine State.MemWf.next ?_
  split
  · exact .ite h.flitDropped h.countFlit.modNbr
  · exact h.countFlit

theorem execCull_memWf (h : s.MemWf) : (execCull s).MemWf :=
  (State.MemWf.ite (.ite h.countAll h) (.ite (.ite h.countAll h) (State.MemWf.ite h.countAll h).modPlot.atTick)).next

theorem State.MemWf.cullCaches {p} (h : s.MemWf) : (s.cullCaches p).MemWf := (h.foldl fun _ _ h => .ite h.setPoison h).same
theorem State.MemWf.startSelfTest {p t} (h : s.MemWf) : (s.startSelfTest p t).MemWf := h.same
theorem State.MemWf.traceCull {p aux} (h : s.MemWf) : (s.traceCull p aux).MemWf := h.traceWrite
theorem State.MemWf.dropMessages {p} (h : s.MemWf) : (s.dropMessages p).MemWf := (h.foldl fun _ _ h => h.dropAt).same.modPgc

theorem State.MemWf.standPubs {p} (h : s.MemWf) : (s.standPubs p).MemWf := by
  unfold State.standPubs
  extract_lets x
  refine h.foldl fun t x ht => ?_
  extract_lets g
  split
  · exact .ite (.ite ht (ht.foldl fun _ _ h => h.publish)) ht
  · exact ht

theorem State.MemWf.cullPlot {p} (h : s.MemWf) : (s.cullPlot p).MemWf := by
  unfold State.cullPlot
  extract_lets retire s0 s1 s2 s3 s4 s5 s6
  have hs0 : s0.MemWf := h.standPubs.dropMessages.modPlot
  have hs1 : s1.MemWf := hs0.foldl fun _ _ h => h.stopCmd.dropCmd
  have hs3 : s3.MemWf := hs1.cullCaches.foldl fun _ _ h => h.endInstance
  have hs4 : s4.MemWf := hs3.foldl fun _ _ h => h.modNbr
  have hs6 : s6.MemWf := .ite hs4.modNvm.traceCull.emit hs4.modNvm.traceCull.startSelfTest
  exact hs6.afterOnce

theorem State.MemWf.announceReadmit {p subj} (h : s.MemWf) : (s.announceReadmit p subj).MemWf := h.sendAll

theorem State.MemWf.recount {old p} (h : s.MemWf) : (s.recount old p).MemWf :=
  (h.foldl fun _ _ h => h.foldl fun _ _ h => .ite h.announceReadmit h).foldl fun _ _ h => h.foldl fun _ _ h => .ite h.announceCull h

theorem execCullTick_memWf (h : s.MemWf) : (execCullTick s).MemWf := by
  refine State.MemWf.next ?_
  split
  · exact .ite h (h.cullPlot.foldl fun _ _ h => h.modPlot.cullPlot).recount
  · exact h

theorem State.MemWf.testStatus {st} (h : s.MemWf) : (s.testStatus st).MemWf := h.modRegs

theorem execSelfTestEnd_memWf (h : s.MemWf) : (execSelfTestEnd s).MemWf := by
  unfold execSelfTestEnd
  extract_lets p x s1 s2 r f
  have hs2 : s2.MemWf := .ite h.modPlot.testStatus h.modPlot
  exact (State.MemWf.ite (.ite h.testStatus h) (.ite h (.ite (hs2.foldl fun _ _ h => h.atTick) hs2))).next

theorem State.MemWf.countReadmit {p subj voter} (h : s.MemWf) : (s.countReadmit p subj voter).MemWf :=
  .ite h.modNbr.announceReadmit h.modNbr

theorem execReadmit_memWf (h : s.MemWf) : (execReadmit s).MemWf := by
  unfold execReadmit
  extract_lets p f q t s'
  have hs' : s'.MemWf := .ite h.countFlit (.ite h.countAll h)
  exact (State.MemWf.ite hs' (.ite (.ite hs'.countReadmit hs') (.ite hs' hs'.modPlot.atTick))).next

theorem execReadmissionTick_memWf (h : s.MemWf) : (execReadmissionTick s).MemWf := by
  unfold execReadmissionTick
  extract_lets p x kept s1 s2 s3
  have hs2 : s2.MemWf := h.modPlot.foldl fun _ _ h => h.modNbr
  refine State.MemWf.next ?_
  split
  · exact .ite h hs2.modNvm.traceCull.afterOnce
  · exact h

theorem State.MemWf.withdrawPlot {id p} (h : s.MemWf) : (s.withdrawPlot id p).MemWf := h.modPlot.afterOnce

theorem execTestDeliver_memWf (h : s.MemWf) : (execTestDeliver s).MemWf := by
  unfold execTestDeliver
  extract_lets len reject k ps s1
  have hs1 : s1.MemWf := .ite h (h.foldl fun _ _ h => h.modQuad)
  refine (State.MemWf.ite h (.ite h.testStatus (.ite h.modRegs.testStatus (.ite h.modRegs.testStatus ?_)))).next
  exact (hs1.foldl fun _ _ h => h.withdrawPlot).testStatus

theorem State.MemWf.quadTested {q} (h : s.MemWf) : (s.quadTested q).MemWf := .ite h.modQuad.afterOnce h

/-! ## Context resets -/

theorem State.MemWf.resetTeams {c} (h : s.MemWf) : (s.resetTeams c).MemWf :=
  ((h.foldl fun _ _ h => .ite h.flushFused h).foldl fun _ _ h => h.freeTeam).foldl fun _ _ h => h.modCluster

theorem State.MemWf.resetCmd {id} (h : s.MemWf) : (s.resetCmd id).MemWf := by
  unfold State.resetCmd
  extract_lets s1
  have hs1 : s1.MemWf := h.stopCmd.modCmd
  split
  · exact hs1
  · extract_lets s2
    have hs2 : s2.MemWf := hs1.endSum
    split
    · exact hs2
    · extract_lets b s3
      have hs3 : s3.MemWf := .ite (ceWrite_keepsMem s2 hs2) hs2
      exact hs3.cmdDone

theorem State.MemWf.resetLaunches {c} (h : s.MemWf) : (s.resetLaunches c).MemWf :=
  h.foldl fun _ _ h => .ite h.modLaunch.signalLaunch h.modLaunch.gridComplete

theorem State.MemWf.resetRecords {c contained} (h : s.MemWf) : (s.resetRecords c contained).MemWf :=
  (h.fqDrop.modCtx.foldl fun _ _ h => h.after).same

theorem State.MemWf.resetLease {c i} (h : s.MemWf) : (s.resetLease c i).MemWf := by
  unfold State.resetLease
  extract_lets l dirty s1
  have hs1 : s1.MemWf := by
    unfold s1
    refine h.foldl fun t x ht => ?_
    refine State.MemWf.writeBackFrame ?_
    split
    · exact ht.dropUnit
    · exact ht
  exact .ite h.modLease (.ite h.freeLease (.ite h.modLease hs1.leaseRequest.leaseTo.modLease))

theorem State.MemWf.resetArenas {c} (h : s.MemWf) : (s.resetArenas c).MemWf := (h.foldl fun _ _ h => h.zeroArena).modCtx
theorem State.MemWf.markLeaves {c fs} (h : s.MemWf) : (s.markLeaves c fs).MemWf := h.foldl fun _ _ h => h.homeStore

theorem State.MemWf.resetMemory {c} (h : s.MemWf) : (s.resetMemory c).MemWf :=
  (h.markLeaves.resetArenas.foldl fun _ _ h => h.loseUnit.modFrame).foldl fun _ _ h => h.resetLease

theorem State.MemWf.resetEnds {c contained} (h : s.MemWf) : (s.resetEnds c contained).MemWf := h.modCtx.raiseVector.afterOnce

theorem State.MemWf.resetPoll {c contained} (h : s.MemWf) : (s.resetPoll c contained).MemWf := by
  unfold State.resetPoll
  extract_lets s1 s2
  have hs1 : s1.MemWf := h.foldl fun _ _ h => h.resetLease
  have hs2 : s2.MemWf := hs1.foldl fun _ _ h => h.modLease
  exact .ite hs2.after hs2.resetEnds

theorem State.MemWf.resetPlacer {c} (h : s.MemWf) : (s.resetPlacer c).MemWf := h.same

theorem State.MemWf.resetContext {c contained} (h : s.MemWf) : (s.resetContext c contained).MemWf := by
  unfold State.resetContext
  exact (h.resetPlacer.resetTeams.foldl fun _ _ h => h.resetCmd).resetLaunches.resetRecords.resetMemory.resetPoll

theorem State.MemWf.askReset {c contained} (h : s.MemWf) : (s.askReset c contained).MemWf := .ite h h.resetContext

/-! ## The host and peers -/

theorem State.MemWf.ctxRegWrite {c m v} (h : s.MemWf) : (s.ctxRegWrite c m v).MemWf := by
  unfold State.ctxRegWrite
  extract_lets n locked area
  split
  · exact h.modCtx
  · exact .ite h h.modCtx
  · exact .ite h h.modCtx
  · exact .ite h h.modCtx
  · exact .ite h h.modCtx
  · exact .ite h h.modCtx
  · exact .ite h h.modCtx
  · exact .ite h h.modCtx
  · exact .ite h h.modCtx
  · exact h.modCtx
  · exact h.modCtx
  · exact .ite h.after h
  · exact h

theorem State.MemWf.windowWrite {c off v} (h : s.MemWf) : (s.windowWrite c off v).MemWf := .ite (.ite h.after h) (.ite h.ctxRegWrite h)

theorem State.MemWf.testCtl {v} (h : s.MemWf) : (s.testCtl v).MemWf := by
  unfold State.testCtl
  extract_lets n op len plot s1 s2
  refine .ite (.ite h h.modRegs) (.ite h.modRegs (.ite h.modRegs.testStatus (.ite h.modRegs.modRegs.atTick h.modRegs.modRegs.after)))

theorem State.MemWf.pfWrite {off v} (h : s.MemWf) : (s.pfWrite off v).MemWf := by
  unfold State.pfWrite
  refine .ite h.windowWrite ?_
  refine .ite (.ite h.after h) ?_
  refine .ite (.ite h.modPlot (.ite h.modPlot h)) ?_
  split
  · exact h.modRegs
  · exact h.after
  · exact h.modRegs
  · exact h.modRegs
  · exact h.testCtl
  · exact h

theorem State.MemWf.debugWrite {a v} (h : s.MemWf) : (s.debugWrite a v).MemWf := by
  unfold State.debugWrite
  refine .ite h.modRegs ?_
  refine .ite h.haltRequest (.ite h.modRegs ?_)
  exact .ite (.ite h.after (.ite h.after h.modRegs)) (.ite h.modRegs (.ite h.modRegs (.ite h.after (.ite h.modDie h))))

theorem execRegisterWrite_memWf (h : s.MemWf) : (execRegisterWrite s).MemWf := by
  unfold execRegisterWrite
  extract_lets down
  refine State.MemWf.next ?_
  split
  · exact .ite h h.windowWrite
  · exact .ite h h.pfWrite
  · exact h.debugWrite
  · exact .ite h h.modBoot
  · exact h

theorem State.MemWf.msixFlush {c} (h : s.MemWf) : (s.msixFlush c).MemWf := h.foldl fun _ _ h => .ite h.modCtx.emit h
theorem State.MemWf.fabricOwn {a n} (h : s.MemWf) : (s.fabricOwn a n).MemWf := h.foldl fun _ _ h => h.eccMiss.ownHome
theorem State.MemWf.fabricWait {a n write} (h : s.MemWf) : (s.fabricWait a n write).1.MemWf := h.foldlFst fun _ _ h => .iteFst h.uncached h
theorem State.MemWf.fabricDesc {a ds} (h : s.MemWf) : (s.fabricDesc a ds).MemWf := h.foldl fun _ _ h => .ite h.writeDesc h
theorem State.MemWf.fabricStore {a bs} (h : s.MemWf) : (s.fabricStore a bs).MemWf := h.fabricOwn.foldl fun _ _ h => h.storeMem

theorem State.MemWf.fabricPerform {r} (h : s.MemWf) : (s.fabricPerform r).MemWf := by
  unfold State.fabricPerform
  extract_lets held
  split
  · exact .ite h (.ite h.fabricWait.after (h.fabricWait.foldl fun _ _ h => h.eccMiss.l2Storage).emit)
  · exact .ite h (.ite h.fabricWait.after h.fabricWait.fabricStore.fabricDesc)
  · extract_lets d
    refine .ite h (.ite h (.ite h.fabricWait.after (.ite h.fabricWait.fabricOwn.fabricStore.emit h.fabricWait.fabricOwn.fabricStore)))
  · exact .ite h (.ite h.fabricWait.after (.ite h.fabricWait.fabricStore.emit h.fabricWait.fabricStore))

theorem execFabricMemRequest_memWf (h : s.MemWf) : (execFabricMemRequest s).MemWf := by
  unfold execFabricMemRequest
  refine State.MemWf.next ?_
  refine .ite h ?_
  split
  · exact h.fabricPerform
  · exact h

/-! ## Resets and starts -/

theorem State.MemWf.discard {src} (h : s.MemWf) : (s.discard src).MemWf := by
  have hs : (s.under.foldl (fun (t : State) e => t.loseLine (e.1 * 64)) s).MemWf := h.foldl fun _ _ h => h.loseLine
  exact Memory.wf_filter _ hs

theorem State.MemWf.enterMinimal {links} (h : s.MemWf) : (s.enterMinimal links).MemWf := h.modBoot.emit
theorem State.MemWf.startFails {step cause} (h : s.MemWf) : (s.startFails step cause).MemWf := h.modNvm
theorem State.MemWf.fence {p} (h : s.MemWf) : (s.fence p).MemWf := h.foldl fun _ _ h => h.modNbr

theorem State.MemWf.started {f} (h : s.MemWf) : (s.started f).MemWf := by
  unfold State.started
  extract_lets gone bad s1 s2 s3 s4 s5 s6
  have hs3 : s3.MemWf := h.same.writeMem.modBoot.foldl fun _ _ h => h.modFrame
  have hs4 : s4.MemWf := hs3.foldl fun _ _ h => h.modDie
  have hs5 : s5.MemWf := hs4.foldl fun _ _ h => h.modPlot.fence
  have hs6 : s6.MemWf := hs5.foldl fun _ _ h => h.modPlot
  exact hs6.modNvm

theorem State.MemWf.starts : ∀ {l} {s : State}, s.MemWf → (s.starts l).MemWf
  | [], _, h => .ite h.enterMinimal h.atTick
  | _ :: _, _, h => by
    unfold State.starts
    refine .ite h.enterMinimal ?_
    split
    · exact h.startFails.starts
    · exact .ite h.started h.atTick

theorem State.MemWf.orderRate {k code} (h : s.MemWf) : (s.orderRate k code).MemWf := by
  unfold State.orderRate
  split
  · exact h.modBoot
  · exact h.modBoot.after

theorem execHbmRateSwitch_memWf (h : s.MemWf) : (execHbmRateSwitch s).MemWf := by
  unfold execHbmRateSwitch
  extract_lets k
  refine State.MemWf.next ?_
  split
  · exact h
  · refine .ite h ?_
    extract_lets s1
    split
    · exact h.modBoot.orderRate
    · exact h.modBoot

theorem State.MemWf.powerAct {r} (h : s.MemWf) : (s.powerAct r).MemWf := by
  unfold State.powerAct
  extract_lets all tooHot
  have hrate : ∀ {l : List Nat} {f : State → Nat → _}, (l.foldl (fun t d => t.orderRate d (f t d)) s).MemWf := h.foldl fun _ _ h => h.orderRate
  refine .ite (h.foldl fun _ _ h => h.orderRate.emit) ?_
  exact .ite (.ite (h.foldl fun _ _ h => h.modPlot) hrate) (.ite (.ite h.same.afterOnce hrate) h)

theorem State.MemWf.sample {r} (h : s.MemWf) : (s.sample r).MemWf := .ite h.discard.starts h.modBoot.powerAct

theorem execPowerSample_memWf (h : s.MemWf) : (execPowerSample s).MemWf := by
  unfold execPowerSample
  refine State.MemWf.next ?_
  split
  · exact h.modBoot
  · exact .ite h h.sample

theorem execPldmFirmwareUpdate_memWf (h : s.MemWf) : (execPldmFirmwareUpdate s).MemWf := by
  unfold execPldmFirmwareUpdate
  refine State.MemWf.next ?_
  split
  · exact h.modNvm
  · exact h

theorem State.MemWf.dueStep (h : s.MemWf) : ∀ {d t}, s.dueStep = some (d, t) → t.MemWf := by
  unfold State.dueStep
  split
  · nofun
  · split
    · split
      · split
        · rintro _ _ ⟨⟩; exact h.same
        · nofun
      · nofun
    · split
      · split
        · rintro _ _ ⟨⟩; exact h.same
        · nofun
      · nofun

/-! ## Every step -/

/-- Every word and every step of the device keeps the form: the words of one shape by what issues that shape, the others by their own lemma. -/
theorem exec_memWf {i : Instr} (h : s.MemWf) : Result.MemWf (exec i s) := by
  cases i <;> unfold exec
  case vaddI32 | vsubI32 | vaddsI32 | vaddsN32 | vsubsI32 | vsubsN32 | vmulI32 | vmulhI32 | vmulhN32 | vminI32 | vmaxI32 | vminN32 |
    vmaxN32 | vand | vor | vxor | vandn | vshl | vshrN32 | vshrI32 | vrol | vaddF32 | vsubF32 | vmulF32 | vminF32 | vmaxF32 | vdivF32
    | vcopysignF32 | vaddF64 | vmulF64 | vminF64 | vmaxF64 | vdivF64 | vaddBf16x2 | vmulBf16x2 | vmaxBf16x2 | vaddF16x2 | vmulF16x2 |
    vmaxF16x2 => exact laneBin_memWf h
  case vmadI32 | vfmaF32 | vfmaF64 | vfmaBf16x2 | vfmaF16x2 | vdot4I8 | vdot4N8 | vdot8I4 | vdot4E4m3 | vdsq4E4m3 | vdsq2Bf16 | vhamm =>
    exact laneTri_memWf h
  case vunI | vmov | vunF32 | vunF64 | vsqrtF64 => exact laneUn_memWf h
  case vli | vsel | vlane | vcvt | vpk8 | vupk8 | vpk4 | vupk4 => exact laneMap_memWf h
  case vcmpI32 | vcmpN32 | vcmpF32 | vcmpF64 => exact laneCompare_memWf h
  case vsfuF32 => exact laneMap_memWf h.same
  case vshflIdx | vshflXor | vshflUp | vshflDn | vswp2 => exact laneShuffle_memWf h
  case vred | vscan => exact laneVec_memWf h
  case vsieve => exact execVsieve_memWf h
  case vldB8 | vldI8 | vldB16 | vldI16 | vldB32 | vldB64 | vldB128 | vldf | vstB8 | vstB16 | vstB32 | vstB64 | vstB128 | vstf | vldt |
    vstt | vatomAddN32 | vatomAddF32 | vatomMinI32 | vatomMaxI32 | vatomMinN32 | vatomMaxN32 | vatomAnd | vatomOr | vatomXor |
    vatomXchg | vatomCas | vatomAddN64 | sld | sst | satom | rld | rst => exact memWord_memWf h
  case xpfx => exact execXpfx_memWf h
  case sadd | ssub | smul | smulhI64 | smulhN64 | sdiv | srem | sand | sor | sxor | sshl | sshr | smin | smax | sun | saddi | sandi |
    sori | sshli | sshri | scmp | sli | slit | slit64 | sext | sexts | sins | rtag | sbal | sfirst => exact uniValue_memWf h
  case sselnz | radd | raddi | rbase => exact uniReg_memWf h
  case oinit | ofree | oreset => exact objWord_memWf h
  case ostat | mwait => exact h.issue fun _ => h.startAlong.hold
  case kset | kop => exact h.issue fun _ => h.setK.ok
  case br | bz | bnz | bkany | bknone => exact branchIf_memWf h
  case bl | jmpx | exit => exact h.issue fun _ => h.xfer
  case call | callx => exact h.issue fun _ => h.setSV.xfer
  case wfl => exact h.issue fun _ => .ite h.ok h.hold
  case nop => exact h.issue fun _ => h.ok
  case bar | barr => exact h.issue fun _ => h.beginArrival.ok
  case barw => exact h.issue fun _ => .ite h.hold h.ok
  case fence | fenceng | hsig => exact h.issue fun _ => h.hold
  case racq => exact h.issue fun _ => .ite h.modGroup.ok h.bump.hold
  case racqTry => exact h.issue fun _ => .ite h.modGroup.setSV.ok h.setSV.ok
  case rrel => exact h.issue fun _ => h.modGroup.afterOnce.ok
  case pub => exact h.issue fun _ => h.startAlong.queuePub.hold
  case pfh | launch => exact h.issue fun _ => h.startAlong.ok
  case advNeed => exact advWord_memWf h fun _ _ _ h => h.hintFill
  case advCold | advWarm => exact advWord_memWf h fun _ _ _ h => h.advCount
  case tset | tdrop | tdropFree => exact tileWord_memWf h
  case tstat => exact h.issue fun _ => h.setSV.ok
  case cpy | cpyCe => exact h.issue fun _ => h.submit.ok
  case cpyq => exact h.issue fun _ => .ite h.submit.ok h.startOp.modOp.markCommitted.ok
  case mxp => exact execMxp_memWf h
  case mxd => exact h.issue fun _ => h.startAlong.reserve.ok
  case mxzDefine | mxq | svget => exact h.issue fun _ => h.startOp.ok
  case mxzClr | mxzFree => exact h.issue fun _ => h.modQuad.startOp.ok
  case svinit | svinitFree => exact h.issue fun _ => .ite h.modPlot.setSV.ok h.setSV.ok
  case lwait => exact execLwait_memWf h
  case srd => exact execSrd_memWf h
  case swr => exact execSwr_memWf h
  case trap => exact h.issue fun _ => h.trapAfter
  case brk => exact h.issue fun _ => .ite h.haltGroup.ok h.trapAfter
  case tresReplay | tresSkip | tresKill => exact tresWord_memWf h
  case icinv | icinvAll => exact h.issue fun _ => h.sendIcinv
  case mark => exact h.issue fun _ => (State.MemWf.ite h h.trace).ok
  case tlbiRange | tlbiContext | tlbiDevice => exact tlbiWord_memWf h
  case leaseInstall => exact execLeaseInstall_memWf h
  case leaseRenew | leaseReturn => exact h.issue fun _ => .ite h.privStatus h.leaseRequest.leaseTo.hold
  case leaseRead => exact execLeaseRead_memWf h
  case pmove => exact h.issue fun _ => h.eccMiss.modPgc.along.hold
  case bias => exact h.issue fun _ => .ite h.privStatus (State.MemWf.ite h h.atTick).hold
  case psplit => exact execPsplit_memWf h
  case acntRead | acntReadClear | acntWrite => exact acntWord_memWf h
  case laneResultWrite => exact execLaneResultWrite_memWf h
  case racqServe => exact h.serveRows.next
  case launchBlockCheck => exact (h.inTurn fun _ => h.performLaunch).next
  case placeCluster => exact execPlaceCluster_memWf h
  case commitPoint => exact (h.foldl fun _ _ h => h.groupPoints).next
  case commitEntryDrain => exact .ite h.next (State.MemWf.ite (State.MemWf.ite h h.drainEntry).commitCheck (.ite h h.drainEntry)).next
  case pairCommitCompare => exact execPairCommitCompare_memWf h
  case pairForward => exact execPairForward_memWf h
  case pairedWordMatch => exact execPairedWordMatch_memWf h
  case mwaitWake => exact h.rereadMwait.next
  case mwaitTimeout => exact execMwaitTimeout_memWf h
  case objectFormComplete => exact h.completeOp.unhold.next
  case memoryAccessPerform => exact (h.inTurn fun _ => h.performOp).next
  case loadComplete | storeComplete => exact h.completeOp.next
  case atomicStep => exact execAtomicStep_memWf h
  case atomicComplete => exact h.opPerformed.completeOp.next
  case handlerTeamPlace => exact execHandlerTeamPlace_memWf h
  case operandLogReplay => exact execOperandLogReplay_memWf h
  case gleanerWalk => exact execGleanerWalk_memWf h
  case pfhHandoff => exact (h.inTurn fun _ => h.performPfh).next
  case sievePairEntry | bloomRebuild => exact h.modPlot.next
  case svgetSnapshot => exact execSvgetSnapshot_memWf h
  case cpyRegister => exact h.registerWaiting.next
  case ceDispatch => exact execCeDispatch_memWf h
  case ceCopy | ceFill | ceGather | ceScatter | ceReduce => exact (h.ceSeg fun _ => cePiece_keepsMem).next
  case ceConvert => exact (h.ceSeg fun _ => convPiece_keepsMem).next
  case ceSegment => exact execCeSegment_memWf h
  case ceCommandComplete => exact execCeCommandComplete_memWf h
  case peerWriteCompletion => exact execPeerWriteCompletion_memWf h
  case splitBroadcastArrival => exact h.modQuad.formParts.next
  case mxeGrant => exact execMxeGrant_memWf h
  case mxePassComplete => exact execMxePassComplete_memWf h
  case mxdBlockCheck => exact (h.inTurn fun _ => h.performDrainBlock).next
  case mxdRowWrite => exact execMxdRowWrite_memWf h
  case mxdDrainComplete => exact execMxdDrainComplete_memWf h
  case mxzComplete => exact execMxzComplete_memWf h
  case mxqResult => exact execMxqResult_memWf h
  case directoryRead => exact (State.MemWf.ite h.serveRead.servePool h.serveRead).next
  case directoryWrite => exact h.serveWrite.next
  case ownerForward => exact execOwnerForward_memWf h
  case quadInvalidate => exact (State.MemWf.ite h.invalidateQuad.dropAt h.invalidateQuad.after).next
  case invalidationAck => exact execInvalidationAck_memWf h
  case l1Writeback => exact execL1Writeback_memWf h
  case l2Fill => exact h.l2Ensure.next
  case l2scrWrite => exact (State.MemWf.ite h (h.modDie.foldl fun _ _ h => h.l2Evict).after).next
  case l2scrConvertDone => exact (State.MemWf.ite h (h.foldl fun _ _ h => h.l2Drop).zeroRange.modDie).next
  case deadFilled => exact execDeadFilled_memWf h
  case scrubRead => exact execScrubRead_memWf h
  case scrubWriteback => exact execScrubWriteback_memWf h
  case pageWalk => exact execPageWalk_memWf h
  case tlbiRequest => exact (State.MemWf.ite h.after (.ite h.send (State.MemWf.ite h.modPlot.afterOnce h.modPlot).send)).next
  case tlbiAck | icinvAck => exact h.modGroup.next
  case icinvRequest => exact (State.MemWf.ite h.after h.modPlot.send).next
  case fillBlockArrival => exact execFillBlockArrival_memWf h
  case counterHalving | mctpControl => exact h.same.next
  case renewDue => exact (State.MemWf.ite h.modLease.leaseRecord h).next
  case leaseExpiry => exact (State.MemWf.ite h.leaseExpires h).next
  case revokeDeadline => exact execRevokeDeadline_memWf h
  case poolReadTimeout => exact execPoolReadTimeout_memWf h
  case answerLimit => exact execAnswerLimit_memWf h
  case grant => exact execGrant_memWf h
  case refuse => exact execRefuse_memWf h
  case returned => exact execReturned_memWf h
  case revoke => exact execRevoke_memWf h
  case nodeFail => exact (State.MemWf.ite (.ite h (h.foldl fun _ _ h => h.leaseTo).enqueue) h.rhBadCount).next
  case rhaodDiscard => exact h.rhBadCount.next
  case bisnp => exact execBisnp_memWf h
  case fqpop => exact h.fqPop.next
  case fqresReplay | fqresPage | fqresLease | fqresPoolLost | fqresProt | fqresChecksum | fqresClose => exact h.resolve.next
  case frameMarkDead => exact (State.MemWf.ite h.frameEnds h.loseUnit.modFrame.frameEnds).next
  case frameFlush => exact (State.MemWf.ite h.frameEnds (.ite h.dropUnit.frameEnds h.flushUnit.frameEnds)).next
  case frameEvict => exact (State.MemWf.ite h.frameEnds (.ite h.dropUnit.frameEnds h.evictUnit.frameEnds)).next
  case frameReserve => exact (State.MemWf.ite h.frameEnds (.ite h.frameEnds h.evictFrame.modFrame.frameEnds)).next
  case frameRelease => exact (State.MemWf.ite h.frameEnds (.ite h.frameEnds h.modFrame.frameEnds)).next
  case frameDiscard => exact (State.MemWf.ite h.frameEnds h.discardUnit.frameEnds).next
  case frameEvictGroup => exact (State.MemWf.ite h.frameEnds (h.foldl fun _ _ h => h.evictFrame).frameEnds).next
  case frameSetHostBias => exact (State.MemWf.ite h.frameEnds h.modFrame.frameEnds).next
  case frameRetire => exact execFrameRetire_memWf h
  case framectlInvalidOp => exact h.frameEnds.next
  case hostAnswer => exact (State.MemWf.ite h.enqueue h.modPgc).next
  case standbyPgcTakeover => exact (State.MemWf.ite h.setGroup.modPgc h).next
  case timeSliceExpiry => exact (State.MemWf.ite h.modPlot h.trySwap).next
  case spillEngine => exact execSpillEngine_memWf h
  case halt => exact (State.MemWf.ite h ((State.MemWf.ite h.modCtx h).foldl fun _ _ h => h.haltGroup)).next
  case resume => exact (State.MemWf.ite h ((State.MemWf.ite h.modCtx h).foldl fun _ _ h => .ite h.resumeGroup h)).next
  case step => exact (State.MemWf.ite h (h.foldl fun _ _ h => h.modGroup)).next
  case debuggerRegisterWrite => exact execDebuggerRegisterWrite_memWf h
  case tstopArm => exact (State.MemWf.ite h.same h.modRegs).next
  case tickStop => exact (State.MemWf.ite h.modRegs h).next
  case tstopRelease => exact (h.modRegs.foldl fun _ _ h => h.haltRequest).next
  case trringWrite => exact (State.MemWf.ite h.modDie h).next
  case icacheFill => exact execIcacheFill_memWf h
  case heartbeatSend => exact execHeartbeatSend_memWf h
  case heartbeat => exact execHeartbeat_memWf h
  case periodEvaluation => exact execPeriodEvaluation_memWf h
  case accuse => exact execAccuse_memWf h
  case withdraw => exact execWithdraw_memWf h
  case cull => exact execCull_memWf h
  case cullTick => exact execCullTick_memWf h
  case selfTestEnd => exact execSelfTestEnd_memWf h
  case appeal => exact (State.MemWf.ite h.countFlit.atTick h.countFlit).next
  case attestCheckEnd => exact (State.MemWf.ite h.sendAround.countReadmit h).next
  case readmit => exact execReadmit_memWf h
  case readmissionTick => exact execReadmissionTick_memWf h
  case operatingTimeSave | clearFailedStart => exact h.modNvm.next
  case testDeliver => exact execTestDeliver_memWf h
  case regraftTest => exact (State.MemWf.ite h (.ite h.testStatus (.ite h.testStatus (.ite h h.startSelfTest)))).next
  case fieldTestRun => exact (State.MemWf.ite h (.ite h.modPlot h.afterOnce)).next
  case fieldTestResult => exact (State.MemWf.ite h (.ite h.modPlot.quadTested.afterOnce h.modPlot.quadTested)).next
  case doorbell => exact (State.MemWf.ite h h.rootLaunch).next
  case contextReset => exact (State.MemWf.ite (.ite h.resetPoll h) h.askReset).next
  case functionLevelReset => exact (State.MemWf.ite h.askReset h).next
  case fabricMemRequest => exact execFabricMemRequest_memWf h
  case registerWrite => exact execRegisterWrite_memWf h
  case powerOn | perst | managementReset => exact h.discard.starts.next
  case bootWatchdog => exact (State.MemWf.ite h.startFails.discard.starts h).next
  case powerSample => exact execPowerSample_memWf h
  case hbmRateSwitch => exact execHbmRateSwitch_memWf h
  case mgmtRegisterRead => exact (State.MemWf.ite h.emit h).next
  case mgmtPwrcapWrite => exact h.modBoot.next
  case pldmFirmwareUpdate => exact execPldmFirmwareUpdate_memWf h
  case pldmMonitoring => exact h.emit.next
  case emptySlot => exact execEmptySlot_memWf h
  case hostSwapRequest => exact (State.MemWf.ite h.modPlot h.askSwap).next
  case pmoveComplete => exact (State.MemWf.ite h.moveWait.after h.moveBlock.modPgc.privDone).next
  case psplitComplete => exact execPsplitComplete_memWf h
  case biasComplete => exact execBiasComplete_memWf h
  case framectlComplete => exact h.modPgc.modGroup.next
  case softError => exact execSoftError_memWf h
  case plotFailure => exact (State.MemWf.ite h.modPlot ((h.foldl fun _ _ h => h.modGroup).foldl fun _ _ h => h.modTeam).modPlot).next
  case msixUnmask => exact (State.MemWf.ite h (.ite h.modCtx h.modCtx.msixFlush)).next

/-! ## One step -/

theorem step_memWf (h : s.MemWf) : Result.MemWf (step s) := by
  unfold step
  split
  · rename_i heq
    exact exec_memWf (h.dueStep heq)
  · split
    · exact h.next
    · split
      · exact h.endCycle.next
      · rename_i p _ _
        have ht : (s.unitTurn p).MemWf := h.unitTurn
        split
        · rename_i heq
          exact State.MemWf.next (by rwa [heq] at ht)
        · rename_i heq
          exact exec_memWf (by rwa [heq] at ht)

end

/-- Settles O60: whatever a step runs, a due step, a word or the end of a cycle, changes bytes only by writing one or by dropping some,
and both keep the form. -/
theorem memoryStaysCanonical : Obligations.MemoryStaysCanonical :=
  fun _ _ hs ht => step_memWf hs _ ht

end Sys2Proof.Machine
end

section
/-! PROOFS. The values after reset. -/

namespace Sys2Proof.Machine

set_option Elab.async false

/-! ## Reset -/

/-- A byte that nothing has written reads zero, whatever its place (R108, R273). -/
theorem State.reset_readByte (a : Nat) : State.reset.readByte a = 0 := by
  unfold State.readByte State.rawByte
  split
  · rfl
  · rfl

/-- Every channel starts at its full rate (R412). -/
theorem State.reset_hbmRate (k : Nat) : State.reset.hbmRate k = 0 := by
  have rate : State.reset.boot.rate = [] := rfl
  simp [State.hbmRate, rate, tabGet]

/-- CTXCFG and QOS of a context that nothing has configured (R386). -/
theorem ctxReg_default_ctxcfg : ctxReg {} 0x0C0 = 0x800 := by decide
theorem ctxReg_default_qos : ctxReg {} 0x0C9 = 0x11 := by decide

/-- The other context registers start at zero (R386). -/
theorem ctxReg_default_zero :
    ∀ n, n ∈ [0x0C1, 0x0C2, 0x0C3, 0x0C4, 0x0C5, 0x0C6, 0x0C7, 0x0C8, 0x0CA, 0x0CB, 0x0CC] → ctxReg {} n = 0 := by decide

/-- A die's error counters start at zero (R381). -/
theorem rasCnt_default : rasCnt {} = 0 := by decide

/-- Settles O4: no table lists anything but the two PGCs, so every unit reads its defaults. -/
theorem resetValues : Obligations.ResetValues :=
  ⟨by decide, fun _ => by simp [State.plotCycle, State.reset], State.reset_readByte,
    fun _ => ⟨rfl, rfl, ctxReg_default_ctxcfg, ctxReg_default_qos, ctxReg_default_zero⟩, fun _ => ⟨rfl, rfl, rfl, rfl, rfl⟩,
    fun _ => rasCnt_default, rfl, rfl, rfl, rfl, rfl, rfl, rfl, State.reset_hbmRate, by decide⟩

end Sys2Proof.Machine
end

section
/-! PROOFS. The step that is due. -/

namespace Sys2Proof.Machine

set_option Elab.async false

/-! ## The step that is due -/

/-- The least element of a list that is not empty: a member whose key no other member's is below. -/
theorem leastBy_least {α : Type} (key : α → Nat) (l : List α) (h : l ≠ []) :
    ∃ a, leastBy key l = some a ∧ a ∈ l ∧ ∀ b ∈ l, key a ≤ key b := by
  induction l with
  | nil => exact absurd rfl h
  | cons x t ih =>
    by_cases ht : t = []
    · subst ht
      exact ⟨x, rfl, by simp, by simp⟩
    · obtain ⟨a, ha, hm, hle⟩ := ih ht
      by_cases hx : key x ≤ key a
      · exact ⟨x, by simp [leastBy, ha, hx], by simp, by
          intro b hb
          rcases List.mem_cons.1 hb with rfl | hb
          · exact Nat.le_refl _
          · exact Nat.le_trans hx (hle b hb)⟩
      · exact ⟨a, by simp [leastBy, ha, hx], by simp [hm], by
          intro b hb
          rcases List.mem_cons.1 hb with rfl | hb
          · omega
          · exact hle b hb⟩

/-- The first of the agenda acts next, but for the order of writes and of halts, unless words come before it. -/
theorem State.dueStep_cons {s : State} {d : Due} {rest : List Due} (ha : s.agenda = d :: rest) (hd : d.due ≤ s.cycle)
    (hs : s.regs.stopped = false) (hw : s.todo = [] ∨ endStep d.what = false) :
    s.dueStep = some (s.haltFirst (s.firstDue d),
      { s with agenda := s.agenda.erase (s.haltFirst (s.firstDue d)), ev := (s.haltFirst (s.firstDue d)).ev }) := by
  have hc : s.todo.isEmpty = true ∨ (!endStep d.what) = true := by
    rcases hw with h | h
    · exact .inl (by simp [h])
    · exact .inr (by simp [h])
  simp only [State.dueStep, ha, hs, if_pos hc, if_pos hd]
  rfl

/-- The step that is due is what the machine's step runs. -/
theorem step_due {s t : State} {d : Due} (h : s.dueStep = some (d, t)) : step s = exec d.what t := by
  simp [step, h]

theorem State.firstDue_of_none {s : State} {d : Due} (h : s.writerOf d = none) : s.firstDue d = d := by
  simp [State.firstDue, h]

theorem State.haltFirst_of_not_capture {s : State} {d : Due} (h : captureStep d.what = false) : s.haltFirst d = d := by
  simp [State.haltFirst, h]

/-- A step that acts at the end of a cycle writes no memory of a plot's. -/
theorem State.endStep_of_writer {s : State} {d : Due} (h : (s.writerOf d).isSome = true) : endStep d.what = false := by
  unfold State.writerOf at h
  split at h <;> simp_all [endStep, captureStep]

theorem endStep_of_capture {i : Instr} (h : captureStep i = true) : endStep i = true := by simp [endStep, h]

theorem captureStep_of_endStep {i : Instr} (h : endStep i = false) : captureStep i = false := by
  by_contra hc
  simp [endStep_of_capture (by simpa using hc)] at h

theorem endStep_iff {i : Instr} : endStep i = true ↔ i ∈ ([.mxeGrant, .halt, .timeSliceExpiry, .hostSwapRequest] : List Instr) := by
  simp [endStep, captureStep, or_assoc]

theorem captureStep_iff {i : Instr} : captureStep i = true ↔ i ∈ ([.timeSliceExpiry, .hostSwapRequest] : List Instr) := by
  simp [captureStep]

/-- A step that captures a bank writes no memory itself. -/
theorem State.writerOf_capture {s : State} {d : Due} (h : captureStep d.what = true) : s.writerOf d = none := by
  by_contra hw
  have he := State.endStep_of_writer (Option.isSome_iff_ne_none.2 hw)
  simp [endStep_of_capture h] at he

/-- The first of the agenda runs when it writes no memory, comes before the words that are left, and no halt stands before it. -/
theorem step_first {s : State} {d : Due} {rest : List Due} (ha : s.agenda = d :: rest) (hd : d.due ≤ s.cycle)
    (hs : s.regs.stopped = false) (hw : s.writerOf d = none) (hl : s.todo = [] ∨ endStep d.what = false)
    (hh : captureStep d.what = true → ∀ e ∈ s.agenda, e.what = .halt → s.cycle < e.due) :
    step s = exec d.what { s with agenda := rest, ev := d.ev } := by
  have hhalt : s.haltFirst d = d := by
    by_cases hc : captureStep d.what = true
    · have hn : s.agenda.find? (fun e => decide (e.what = .halt) && decide (e.due ≤ s.cycle)) = none := by
        rw [List.find?_eq_none]
        intro e he hx
        simp only [Bool.and_eq_true, decide_eq_true_eq] at hx
        exact absurd hx.2 (Nat.not_le.2 (hh hc e he hx.1))
      simp [State.haltFirst, hn]
    · exact State.haltFirst_of_not_capture (Bool.eq_false_iff.2 hc)
  have h := State.dueStep_cons ha hd hs hl
  rw [State.firstDue_of_none hw, hhalt, ha, List.erase_cons_head] at h
  exact step_due h

/-- Among the writes that are due the one of the lowest plot runs (R280). -/
theorem step_lowest_writer {s : State} {d : Due} {rest : List Due} (ha : s.agenda = d :: rest) (hd : d.due ≤ s.cycle)
    (hs : s.regs.stopped = false) (hw : (s.writerOf d).isSome = true) :
    ∃ e q, e ∈ s.agenda ∧ e.due ≤ s.cycle ∧ s.writerOf e = some q ∧
      (∀ x ∈ s.agenda, x.due ≤ s.cycle → ∀ r, s.writerOf x = some r → q ≤ r) ∧
      step s = exec e.what { s with agenda := s.agenda.erase e, ev := e.ev } := by
  have hne : s.agenda.filter (fun e => decide (e.due ≤ s.cycle) && (s.writerOf e).isSome) ≠ [] :=
    List.ne_nil_of_mem (List.mem_filter.2 ⟨by rw [ha]; exact List.mem_cons_self, by simp [hd, hw]⟩)
  obtain ⟨e, he, hm, hle⟩ := leastBy_least (fun e => (s.writerOf e).getD 0) _ hne
  obtain ⟨hin, hp⟩ := List.mem_filter.1 hm
  simp only [Bool.and_eq_true, decide_eq_true_eq] at hp
  obtain ⟨hdue, hwe⟩ := hp
  obtain ⟨q, hq⟩ := Option.isSome_iff_exists.1 hwe
  have hfirst : s.firstDue d = e := by
    obtain ⟨p, hp⟩ := Option.isSome_iff_exists.1 hw
    simp [State.firstDue, hp, he]
  have h := State.dueStep_cons ha hd hs (.inr (State.endStep_of_writer hw))
  rw [hfirst, State.haltFirst_of_not_capture (captureStep_of_endStep (State.endStep_of_writer hwe))] at h
  refine ⟨e, q, hin, hdue, hq, ?_, step_due h⟩
  intro x hx hxd r hr
  have := hle x (List.mem_filter.2 ⟨hx, by simp [hxd, hr]⟩)
  simpa [hq, hr] using this

/-- A halt that is due runs before the capture of a swap (R357). -/
theorem step_halt_before_capture {s : State} {d h : Due} {rest : List Due} (ha : s.agenda = d :: rest) (hd : d.due ≤ s.cycle)
    (hs : s.regs.stopped = false) (ht : s.todo = []) (hc : captureStep d.what = true) (hh : h ∈ s.agenda) (hhalt : h.what = .halt)
    (hdue : h.due ≤ s.cycle) :
    ∃ e, e ∈ s.agenda ∧ e.what = .halt ∧ e.due ≤ s.cycle ∧ step s = exec .halt { s with agenda := s.agenda.erase e, ev := e.ev } := by
  have hstep := State.dueStep_cons ha hd hs (.inl ht)
  rw [State.firstDue_of_none (State.writerOf_capture hc)] at hstep
  obtain ⟨e, he⟩ : ∃ e, s.agenda.find? (fun e => decide (e.what = .halt) && decide (e.due ≤ s.cycle)) = some e :=
    Option.isSome_iff_exists.1 (List.find?_isSome.2 ⟨h, hh, by simp [hhalt, hdue]⟩)
  have hp := List.find?_some he
  simp only [Bool.and_eq_true, decide_eq_true_eq] at hp
  have hfirst : s.haltFirst d = e := by simp [State.haltFirst, hc, he]
  rw [hfirst] at hstep
  refine ⟨e, List.mem_of_find?_eq_some he, hp.1, hp.2, ?_⟩
  rw [step_due hstep, hp.1]

/-- While words are left, what acts at the end of a cycle waits for them. -/
theorem State.dueStep_none_of_late {s : State} (hs : s.regs.stopped = false) (ht : s.todo ≠ [])
    (hall : ∀ e ∈ s.agenda, e.due ≤ s.cycle → endStep e.what = true) : s.dueStep = none := by
  have hfirst : ∀ e ∈ s.agenda, endStep e.what = false → ¬ e.due ≤ s.cycle := by
    intro e he hn hd
    simp [hall e he hd] at hn
  unfold State.dueStep
  split
  · rfl
  · rename_i d rest ha
    have hemp : s.todo.isEmpty = false := by simpa using ht
    simp only [hs, Bool.false_eq_true, if_false, hemp, false_or]
    split
    · rename_i x hx
      have hx : x ∈ s.agenda ∧ endStep x.what = false := by
        split at hx
        · next hne =>
          cases hx
          exact ⟨by rw [ha]; exact List.mem_cons_self, by simpa using hne⟩
        · exact ⟨List.mem_of_find?_eq_some hx, by simpa using List.find?_some hx⟩
      rw [if_neg (hfirst x hx.1 hx.2)]
    · rfl

theorem stepRunsDueEvent : Claims.StepRunsDueEvent :=
  ⟨fun _ _ _ ha hd hs hw hl hh => step_first ha hd hs hw (hl.imp_right fun h => Bool.eq_false_iff.2 (mt endStep_iff.1 h))
      (fun hc => hh (captureStep_iff.1 hc)),
    fun _ _ _ => step_lowest_writer,
    fun _ _ _ _ ha hd hs ht hc => step_halt_before_capture ha hd hs ht (captureStep_iff.2 hc),
    fun _ hs ht hall => State.dueStep_none_of_late hs ht fun e he hd => endStep_iff.2 (hall e he hd)⟩

end Sys2Proof.Machine
end

section
/-! PROOFS. The end of a core cycle. -/

namespace Sys2Proof.Machine

set_option Elab.async false

/-! ## What leaves the core cycle as it is

The end of a cycle moves the counter by one (R17); everything that it does beside leaves the counter alone. One lemma for each function. -/

/-- Either branch of a test. -/
theorem State.ite_cycle {c : Prop} [Decidable c] (s t : State) : (if c then s else t).cycle = if c then s.cycle else t.cycle := by split <;> rfl

/-- A fold none of whose turns moves the counter. -/
theorem State.foldl_cycle {β : Type} {f : State → β → State} (h : ∀ t b, (f t b).cycle = t.cycle) (l : List β) (s : State) :
    (l.foldl f s).cycle = s.cycle := foldl_same State.cycle f l s h

/-! ### Memory -/

@[simp] theorem State.dropAt_cycle (s : State) (p : Nat) : (s.dropAt p).cycle = s.cycle := rfl

@[simp] theorem State.afterOnce_cycle (s : State) (n : Nat) (i : Instr) (e : Ev) : (s.afterOnce n i e).cycle = s.cycle := by
  unfold State.afterOnce
  split <;> simp

@[simp] theorem State.send_cycle (s : State) (p q n : Nat) (i : Instr) (e : Ev) : (s.send p q n i e).cycle = s.cycle := by
  unfold State.send
  split <;> simp

@[simp] theorem State.fillDead_cycle (s : State) (f : Nat) : (s.fillDead f).cycle = s.cycle := rfl

@[simp] theorem State.wakeFrame_cycle (s : State) (p : Nat) : (s.wakeFrame p).cycle = s.cycle := by
  unfold State.wakeFrame
  split <;> simp

@[simp] theorem State.markDirty_cycle (s : State) (a : Nat) : (s.markDirty a).cycle = s.cycle := by
  unfold State.markDirty
  split <;> simp

@[simp] theorem State.writeByte_cycle (s : State) (a : Nat) (b : Byte) : (s.writeByte a b).cycle = s.cycle := by
  simp [State.writeByte]

@[simp] theorem State.writeMem_cycle (s : State) (a : Nat) (bs : List Byte) : (s.writeMem a bs).cycle = s.cycle := by
  induction bs generalizing s a with
  | nil => rfl
  | cons b t ih => simp [State.writeMem, ih]

@[simp] theorem State.writeDesc_cycle (s : State) (a : Nat) (d : BitVec 48) : (s.writeDesc a d).cycle = s.cycle := by
  unfold State.writeDesc
  split <;> simp

@[simp] theorem State.setPoison_cycle (s : State) (a : Nat) : (s.setPoison a).cycle = s.cycle := rfl
@[simp] theorem State.clearPoison_cycle (s : State) (a : Nat) : (s.clearPoison a).cycle = s.cycle := rfl
@[simp] theorem State.zeroRange_cycle (s : State) (a n : Nat) : (s.zeroRange a n).cycle = s.cycle := rfl

@[simp] theorem State.clearTags_cycle (s : State) (a n : Nat) : (s.clearTags a n).cycle = s.cycle :=
  State.foldl_cycle (fun t i => by dsimp only; split <;> simp) _ _

@[simp] theorem State.storeMem_cycle (s : State) (a : Nat) (bs : List Byte) : (s.storeMem a bs).cycle = s.cycle := by
  simp [State.storeMem, State.ite_cycle]

@[simp] theorem State.copyBlock_cycle (s : State) (a b : Nat) : (s.copyBlock a b).cycle = s.cycle := by
  have poke (l : List Nat) (t : State) (f : Nat → Byte) : (l.foldl (fun t i => t.pokeByte (b + i) (f i)) t).cycle = t.cycle :=
    State.foldl_cycle (fun t i => State.pokeByte_cycle t _ _) l t
  simp only [State.copyBlock, State.ite_cycle, ite_self, poke]

/-! ### The fault queue, trace records, vectors -/

@[simp] theorem State.fqPlace_cycle (s : State) (i : Nat) (d : BitVec 256) (t : FqTarget) : (s.fqPlace i d t).cycle = s.cycle := by
  simp [State.fqPlace]

@[simp] theorem State.enqueue_cycle (s : State) (f : FqFields) (t : FqTarget) : (s.enqueue f t).cycle = s.cycle := by
  unfold State.enqueue
  split <;> simp

@[simp] theorem State.fqArrivals_cycle (s : State) : s.fqArrivals.cycle = s.cycle := by
  unfold State.fqArrivals
  dsimp only
  split
  · rfl
  · simp [State.foldl_cycle]

@[simp] theorem State.traceWrite_cycle (s : State) (d : Nat) (r : BitVec 256) : (s.traceWrite d r).cycle = s.cycle := by
  simp [State.traceWrite, State.ite_cycle]

@[simp] theorem State.trace_cycle (s : State) (d k t c g p m a v : Nat) : (s.trace d k t c g p m a v).cycle = s.cycle := by
  simp [State.trace, State.ite_cycle]

@[simp] theorem State.raiseVector_cycle (s : State) (c n : Nat) : (s.raiseVector c n).cycle = s.cycle := by
  simp [State.raiseVector, State.ite_cycle]

@[simp] theorem State.errorVector_cycle (s : State) (c : Nat) : (s.errorVector c).cycle = s.cycle := by simp [State.errorVector]

/-! ### The caches -/

@[simp] theorem State.wakeWatch_cycle (s : State) (p l : Nat) : (s.wakeWatch p l).cycle = s.cycle :=
  State.foldl_cycle (fun t x => by
    repeat' split
    all_goals simp) _ _

@[simp] theorem State.l1Drop_cycle (s : State) (p a g : Nat) : (s.l1Drop p a g).cycle = s.cycle := by
  unfold State.l1Drop
  repeat' split
  all_goals simp

@[simp] theorem State.l1Set_cycle (s : State) (p a g : Nat) (c : Coh) : (s.l1Set p a g c).cycle = s.cycle := by
  unfold State.l1Set
  dsimp only
  split
  · exact State.wakeWatch_cycle _ _ _
  · rfl

@[simp] theorem State.setL2_cycle (s : State) (a k : Nat) (l : L2Line) : (s.setL2 a k l).cycle = s.cycle := rfl
@[simp] theorem State.cleanLine_cycle (s : State) (a : Nat) : (s.cleanLine a).cycle = s.cycle := rfl

@[simp] theorem State.recallLine_cycle (s : State) (a : Nat) : (s.recallLine a).cycle = s.cycle := by
  simp [State.recallLine, State.foldl_cycle]

@[simp] theorem State.blockWritten_cycle (s : State) (b : Nat) : (s.blockWritten b).cycle = s.cycle := by
  simp [State.blockWritten, State.ite_cycle]

@[simp] theorem State.settleLine_cycle (s : State) (a : Nat) : (s.settleLine a).cycle = s.cycle := by
  simp [State.settleLine, State.foldl_cycle]

@[simp] theorem State.loseLine_cycle (s : State) (a : Nat) : (s.loseLine a).cycle = s.cycle := by
  simp only [State.loseLine, State.cleanLine_cycle]
  refine State.foldl_cycle (fun t e => ?_) _ s
  exact State.foldl_cycle (fun v _ => State.pokeByte_cycle v _ _) _ t

@[simp] theorem State.l2Drop_cycle (s : State) (a : Nat) : (s.l2Drop a).cycle = s.cycle := by
  unfold State.l2Drop
  split <;> simp

@[simp] theorem State.l2Discard_cycle (s : State) (a : Nat) : (s.l2Discard a).cycle = s.cycle := by simp [State.l2Discard]

@[simp] theorem State.loseUnit_cycle (s : State) (u : Nat) : (s.loseUnit u).cycle = s.cycle := by
  simp [State.loseUnit, State.foldl_cycle]

@[simp] theorem State.zeroScratchWay_cycle (s : State) (d sl j : Nat) : (s.zeroScratchWay d sl j).cycle = s.cycle :=
  State.foldl_cycle (fun t _ => State.zeroRange_cycle t _ _) _ s

@[simp] theorem State.containLine_cycle (s : State) (b : Nat) : (s.containLine b).cycle = s.cycle := by
  unfold State.containLine
  dsimp only
  split
  · rfl
  · have poison (t : State) (bs : List Nat) : (bs.foldl (fun t b => t.setPoison (b * 64)) t).cycle = t.cycle := State.foldl_cycle (fun t _ => State.setPoison_cycle t _) _ t
    split <;> simp [State.ite_cycle, poison]

@[simp] theorem State.writeBackLine_cycle (s : State) (l : Nat) : (s.writeBackLine l).cycle = s.cycle := by
  unfold State.writeBackLine
  repeat' split
  all_goals simp

@[simp] theorem State.quarantineWay_cycle (s : State) (d sl w : Nat) : (s.quarantineWay d sl w).cycle = s.cycle := by
  unfold State.quarantineWay
  dsimp only
  split <;> simp [State.foldl_cycle]

@[simp] theorem State.l2Uncorrectable_cycle (s : State) (b : Nat) : (s.l2Uncorrectable b).cycle = s.cycle := by
  unfold State.l2Uncorrectable
  split <;> simp

@[simp] theorem State.l2Storage_cycle (s : State) (a : Nat) : (s.l2Storage a).cycle = s.cycle := by
  unfold State.l2Storage
  split <;> simp

@[simp] theorem State.eccReadAt_cycle (s : State) (p : Nat) : (s.eccReadAt p).cycle = s.cycle := by
  unfold State.eccReadAt
  dsimp only
  repeat' split
  all_goals simp

@[simp] theorem State.eccRead_cycle (s : State) (a : Nat) : (s.eccRead a).cycle = s.cycle := by simp [State.eccRead]

@[simp] theorem State.eccGrain_cycle (s : State) (g a : Nat) : (s.eccGrain g a).cycle = s.cycle := by
  simp [State.eccGrain, State.foldl_cycle]

@[simp] theorem State.eccMiss_cycle (s : State) (a : Nat) : (s.eccMiss a).cycle = s.cycle := by
  unfold State.eccMiss
  repeat' split
  all_goals simp

@[simp] theorem State.l2Evict_cycle (s : State) (a : Nat) : (s.l2Evict a).cycle = s.cycle := by
  unfold State.l2Evict
  dsimp only
  split <;> simp [State.ite_cycle]

@[simp] theorem State.l2Place_cycle (a g : Nat) (b : BitVec 16) (n : Nat) (s : State) : (State.l2Place a g b n s).cycle = s.cycle := by
  induction n generalizing s with
  | zero => rfl
  | succ n ih =>
    unfold State.l2Place
    split
    · rfl
    · dsimp only
      split <;> simp [State.ite_cycle, ih]

@[simp] theorem State.l2Ensure_cycle (s : State) (a g : Nat) : (s.l2Ensure a g).1.cycle = s.cycle := by
  unfold State.l2Ensure
  dsimp only
  repeat' split
  all_goals simp

@[simp] theorem State.setDir_cycle (s : State) (a : Nat) (e : Option DirEntry) : (s.setDir a e).cycle = s.cycle := by
  unfold State.setDir
  repeat' split
  all_goals simp

@[simp] theorem State.invalidateQuad_cycle (s : State) (q a : Nat) (k : Option Nat) : (s.invalidateQuad q a k).cycle = s.cycle := by
  simp [State.invalidateQuad, State.foldl_cycle, State.ite_cycle]

@[simp] theorem State.serveHome_cycle (s : State) (a g : Nat) : (s.serveHome a g).cycle = s.cycle := by
  unfold State.serveHome
  dsimp only
  split <;> simp [State.foldl_cycle]

@[simp] theorem State.uncached_cycle (s : State) (a : Nat) : (s.uncached a).1.cycle = s.cycle := by
  simp [State.uncached, State.ite_cycle]

@[simp] theorem State.ownHome_cycle (s : State) (a : Nat) : (s.ownHome a).cycle = s.cycle := by simp [State.ownHome, State.ite_cycle]

@[simp] theorem State.homeStore_cycle (s : State) (a : Nat) (bs : List Byte) : (s.homeStore a bs).cycle = s.cycle := by
  simp [State.homeStore]

/-! ### Translation -/

@[simp] theorem State.walkEcc_cycle (s : State) (c a : Nat) : (s.walkEcc c a).cycle = s.cycle := by
  simp [State.walkEcc, State.ite_cycle, State.foldl_cycle]

@[simp] theorem State.setAD_cycle (s : State) (x e : Nat) (w : Bool) : (s.setAD x e w).1.cycle = s.cycle := by
  simp only [State.setAD, apply_ite Prod.fst, State.ite_cycle, State.writeMem_cycle, ite_self]

@[simp] theorem State.lookupWalk_cycle (s : State) (c a : Nat) (w : Bool) : (s.lookupWalk c a w).1.cycle = s.cycle := by
  unfold State.lookupWalk
  dsimp only
  split <;> simp

@[simp] theorem State.translateWalk_cycle (s : State) (c a : Nat) (u : Use) : (s.translateWalk c a u).1.cycle = s.cycle := by
  unfold State.translateWalk
  dsimp only
  split <;> simp

/-! ### Barriers, the end of a team, traps -/

@[simp] theorem State.setBarrier_cycle (s : State) (t : Nat) (c : Bool) (b : Nat) (x : Barrier) : (s.setBarrier t c b x).cycle = s.cycle := by
  simp [State.setBarrier, State.ite_cycle]

@[simp] theorem State.barrierCheck_cycle (s : State) (t : Nat) (c : Bool) (b : Nat) : (s.barrierCheck t c b).cycle = s.cycle := by
  simp [State.barrierCheck, State.ite_cycle]

@[simp] theorem State.barrierArrive_cycle (s : State) (g t : Nat) (c : Bool) (b : Nat) : (s.barrierArrive g t c b).cycle = s.cycle := by
  simp [State.barrierArrive]

@[simp] theorem State.barriersCheck_cycle (s : State) (t : Nat) : (s.barriersCheck t).cycle = s.cycle := by
  simp [State.barriersCheck, State.foldl_cycle]

@[simp] theorem State.rltRelease_cycle (s : State) (p o : Nat) : (s.rltRelease p o).cycle = s.cycle := by simp [State.rltRelease]

@[simp] theorem State.partDiscarded_cycle (s : State) (a b : Nat) (t : Bool) : (s.partDiscarded a b t).cycle = s.cycle := by
  unfold State.partDiscarded
  dsimp only
  split <;> simp [State.ite_cycle]

@[simp] theorem State.endMxe_cycle (s : State) (t : Nat) : (s.endMxe t).cycle = s.cycle := by
  simp [State.endMxe, State.foldl_cycle, State.ite_cycle]

@[simp] theorem State.zeroArena_cycle (s : State) (c : Nat) (a : Arena) (us : List Nat) : (s.zeroArena c a us).1.cycle = s.cycle :=
  foldl_same (fun r : State × List Nat => r.1.cycle) _ us (s, []) fun r i => by
    dsimp only
    split
    · simp only [State.zeroRange_cycle]
      split <;> simp
    · rfl

@[simp] theorem State.returnArena_cycle (s : State) (c : Nat) (a : Arena) : (s.returnArena c a).cycle = s.cycle := by
  simp [State.returnArena, State.ite_cycle]

@[simp] theorem State.endArena_cycle (s : State) (t : Nat) : (s.endArena t).cycle = s.cycle := by
  simp [State.endArena, State.foldl_cycle]

@[simp] theorem State.freeTeam_cycle (s : State) (t h : Nat) : (s.freeTeam t h).cycle = s.cycle := by
  simp [State.freeTeam, State.ite_cycle]

@[simp] theorem State.modLaunch_cycle (s : State) (c n : Nat) (f : Launch → Launch) : (s.modLaunch c n f).cycle = s.cycle := rfl

@[simp] theorem State.killTeamRaw_cycle (s : State) (t : Nat) : (s.killTeamRaw t).cycle = s.cycle := by simp [State.killTeamRaw]

@[simp] theorem State.flushPend_cycle (s : State) (g : Nat) : (s.flushPend g).cycle = s.cycle := rfl

@[simp] theorem State.trapDropped_cycle (s : State) (c n : Nat) : (s.trapDropped c n).cycle = s.cycle := by
  unfold State.trapDropped
  dsimp only
  split <;> simp

@[simp] theorem State.trapWrite_cycle (s : State) (c n : Nat) : (s.trapWrite c n).cycle = s.cycle := by
  unfold State.trapWrite
  dsimp only
  repeat' split
  all_goals simp

@[simp] theorem State.deliver_cycle (s : State) (c : Nat) (g : Option Nat) (t : Nat) (f : Failure) (l w : Nat) (a : DWord) :
    (s.deliver c g t f l w a).cycle = s.cycle := by
  unfold State.deliver
  dsimp only
  split
  · simp
  · split <;> cases g <;> simp

@[simp] theorem State.trapsDelivered_cycle (s : State) (c n : Nat) : (s.trapsDelivered c n).cycle = s.cycle := by
  induction n generalizing s with
  | zero => rfl
  | succ n ih =>
    unfold State.trapsDelivered
    split
    · rfl
    · simp [State.ite_cycle, ih]

@[simp] theorem State.trapWaiters_cycle (s : State) : s.trapWaiters.cycle = s.cycle := by
  simp [State.trapWaiters, State.foldl_cycle]

/-! ### Holds -/

@[simp] theorem State.unhold_cycle (s : State) (g : Nat) : (s.unhold g).cycle = s.cycle := rfl
@[simp] theorem State.modOp_cycle (s : State) (g n : Nat) (f : MemOp → MemOp) : (s.modOp g n f).cycle = s.cycle := rfl
@[simp] theorem State.markCommitted_cycle (s : State) (t : Nat) : (s.markCommitted t).cycle = s.cycle := rfl
@[simp] theorem State.askCommit_cycle (s : State) (t : Nat) : (s.askCommit t).cycle = s.cycle := by simp [State.askCommit]

@[simp] theorem State.countArrival_cycle (s : State) (g : Nat) (c w : Bool) (b : Nat) : (s.countArrival g c w b).cycle = s.cycle := by
  simp [State.countArrival, State.afterArrival]

@[simp] theorem State.beginArrival_cycle (s : State) (g : Nat) (c w : Bool) (b : Nat) : (s.beginArrival g c w b).cycle = s.cycle := by
  simp [State.beginArrival, State.ite_cycle]

@[simp] theorem State.hostSignal_cycle (s : State) (c n : Nat) : (s.hostSignal c n).cycle = s.cycle := by
  simp [State.hostSignal, State.ite_cycle]

@[simp] theorem State.forward_cycle (s : State) (g : Nat) (e : Forwarded) : (s.forward g e).cycle = s.cycle := by
  unfold State.forward
  dsimp only
  split <;> simp

@[simp] theorem State.forwardNow_cycle (s : State) (g : Nat) (x : Option SReg) : (s.forwardNow g x).cycle = s.cycle := by
  simp [State.forwardNow]

theorem State.tileForm_cycle {s t : State} {g : Nat} {i : Instr} (h : s.tileForm g i = some t) : t.cycle = s.cycle := by
  unfold State.tileForm at h
  dsimp only at h
  split at h
  · simp at h
  · split at h
    iterate 3
      · cases (Option.ite_none_left_eq_some.1 h).2
        rfl
    · cases h
      rfl

@[simp] theorem State.releaseHold_cycle (s : State) (g : Nat) : (s.releaseHold g).cycle = s.cycle := by
  unfold State.releaseHold
  dsimp only
  repeat' split
  all_goals try simp
  exact State.tileForm_cycle ‹_›

@[simp] theorem State.arrivalPoints_cycle (s : State) (g : Nat) : (s.arrivalPoints g).cycle = s.cycle := by
  simp [State.arrivalPoints, State.ite_cycle]

@[simp] theorem State.pubPoint_cycle (s : State) (g : Nat) : (s.pubPoint g).cycle = s.cycle :=
  State.foldl_cycle (fun t e => by
    repeat' split
    all_goals simp) _ _

@[simp] theorem State.releaseHolds_cycle (s : State) : s.releaseHolds.cycle = s.cycle := by
  simp [State.releaseHolds, State.foldl_cycle]

/-! ### The end of a cycle -/

@[simp] theorem State.settleHalts_cycle (s : State) : s.settleHalts.cycle = s.cycle := by
  simp [State.settleHalts, State.foldl_cycle, State.ite_cycle]

@[simp] theorem State.foldElig_cycle (s : State) : s.foldElig.cycle = s.cycle := by
  simp [State.foldElig, State.foldl_cycle, State.ite_cycle]

@[simp] theorem State.leaseTimes_cycle (s : State) : s.leaseTimes.cycle = s.cycle := by
  simp [State.leaseTimes, State.foldl_cycle, State.ite_cycle]

@[simp] theorem State.heartTimes_cycle (s : State) : s.heartTimes.cycle = s.cycle := by
  unfold State.heartTimes
  dsimp only
  split
  · rfl
  · exact State.foldl_cycle (fun t _ => State.after_cycle t _ _ _) _ s

@[simp] theorem State.periodTimes_cycle (s : State) : s.periodTimes.cycle = s.cycle := by
  simp only [State.periodTimes, State.ite_cycle, State.foldl_cycle (fun t _ => State.after_cycle t _ _ _), ite_self]

@[simp] theorem State.longTimes_cycle (s : State) : s.longTimes.cycle = s.cycle := by
  simp [State.longTimes, State.ite_cycle]

@[simp] theorem State.scrubTimes_cycle (s : State) : s.scrubTimes.cycle = s.cycle := by
  simp [State.scrubTimes, State.foldl_cycle, State.ite_cycle]

@[simp] theorem State.bloomTimes_cycle (s : State) : s.bloomTimes.cycle = s.cycle := by
  simp [State.bloomTimes, State.foldl_cycle, State.ite_cycle]

@[simp] theorem State.sliceTimes_cycle (s : State) : s.sliceTimes.cycle = s.cycle := by
  simp [State.sliceTimes, State.foldl_cycle, State.ite_cycle]

@[simp] theorem State.periodic_cycle (s : State) : s.periodic.cycle = s.cycle := by
  simp [State.periodic, State.ite_cycle]

/-- The end of a cycle moves the counter by one (R17). -/
theorem State.endCycle_cycle (s : State) : s.endCycle.cycle = s.cycle + 1 := by
  simp [State.endCycle, State.ite_cycle]

theorem stepEndsCycle : Claims.StepEndsCycle := by
  intro s hd hs ht
  exact ⟨s.endCycle, by simp [step, hd, hs, ht], rfl, s.endCycle_cycle⟩
/-- Settles O6: the step that is due runs first, in its order; otherwise the core cycle ends. -/
theorem stepsWithoutWords : Obligations.StepsWithoutWords := ⟨stepRunsDueEvent, stepEndsCycle⟩

end Sys2Proof.Machine
end

section
/-! PROOFS. Ways that lead somewhere. -/

namespace Sys2Proof.Machine

set_option Elab.async false

/-! ## Ways that lead somewhere

With every plot in service no message is dropped on its way (R16): every way that an access can take leads to its destination. -/

/-- The way leads to its destination. -/
def Road.leads (r : Road) : Prop := ∃ n, r = .ok n

theorem Road.leads_ok (n : Nat) : Road.leads (.ok n) := ⟨n, rfl⟩

theorem Road.leads_bind {r : Road} {f : Nat → Road} (h : r.leads) (hf : ∀ n, (f n).leads) : Road.leads (r >>= f) := by
  obtain ⟨n, rfl⟩ := h
  exact hf n

theorem Road.leads_map {r : Road} (h : r.leads) (f : Nat → Nat) : Road.leads (Except.map f r) := by
  obtain ⟨n, rfl⟩ := h
  exact ⟨f n, rfl⟩

theorem Road.leads_ite {c : Prop} [Decidable c] {a b : Road} (ha : a.leads) (hb : b.leads) : Road.leads (if c then a else b) := by
  split
  · exact ha
  · exact hb

theorem Road.leads_max {a b : Road} (ha : a.leads) (hb : b.leads) : (a.max b).leads :=
  leads_bind ha fun _ => leads_bind hb fun _ => leads_ok _

theorem Road.leads_foldl {α : Type} (f : Road → α → Road) (hf : ∀ r a, r.leads → (f r a).leads) (l : List α) (r : Road) (h : r.leads) :
    (l.foldl f r).leads := foldl_keeps Road.leads f l r h hf

/-- What a table finds it lists. -/
theorem tabFind_mem {α : Type} {t : Tab α} {k : Nat} {a : α} (h : tabFind t k = some a) : (k, a) ∈ t := by
  induction t with
  | nil => cases h
  | cons e t ih =>
    obtain ⟨j, b⟩ := e
    by_cases hj : j = k
    · subst hj
      simp only [tabFind, if_true, Option.some.injEq] at h
      simp [h]
    · simp only [tabFind, if_neg hj] at h
      exact List.mem_cons_of_mem _ (ih h)

/-- Every plot is in service. -/
def State.Whole (s : State) : Prop := ∀ p, (s.plot p).culled = false

/-- A plot that no table lists has not been culled. -/
theorem State.whole_of {s : State} (h : ∀ e ∈ s.plots, e.2.culled = false) : s.Whole := by
  intro p
  unfold State.plot tabGet
  split
  · next x hx => exact h _ (tabFind_mem hx)
  · rfl

section
variable {s : State} (h : s.Whole)
include h

theorem State.road_leads (p q n : Nat) : (s.road p q n).leads := by
  obtain ⟨c, -, hc⟩ := s.road_whole h p q n
  exact ⟨_, hc⟩

theorem State.l2Road_leads (p a : Nat) : (s.l2Road p a).leads := State.road_leads h _ _ _

theorem State.snoopRoad_leads (p a : Nat) (w : Bool) : (s.snoopRoad p a w).leads := by
  have far (q r : Nat) : Road.leads ((s.road q r 0).map (fun c => 2 * c)) := Road.leads_map (State.road_leads h _ _ _) _
  unfold State.snoopRoad
  dsimp only
  split
  · exact Road.leads_ok _
  · split
    · exact Road.leads_foldl _ (fun r q hr => Road.leads_max hr (far _ _)) _ _ (Road.leads_ok _)
    · split
      · exact Road.leads_ok _
      · exact far _ _

theorem State.missRoad_leads (p a e : Nat) (w : Bool) : (s.missRoad p a e w).leads := by
  unfold State.missRoad
  dsimp only
  split
  · exact Road.leads_map (State.road_leads h _ _ _) _
  · split
    · exact Road.leads_map (State.road_leads h _ _ _) _
    · exact Road.leads_bind (State.l2Road_leads h _ _) fun _ => Road.leads_bind (State.snoopRoad_leads h _ _ _) fun _ => Road.leads_ok _

theorem State.placeRoad_leads (p a e : Nat) (w : Bool) : (s.placeRoad p a e w).leads := by
  unfold State.placeRoad
  exact Road.leads_ite (Road.leads_ok _) (State.missRoad_leads h _ _ _ _)

theorem State.dpaRoad_leads (p a : Nat) (w : Bool) : (s.dpaRoad p a w).leads := by
  unfold State.dpaRoad
  split
  · exact Road.leads_ok _
  · split
    · exact Road.leads_ok _
    · exact State.missRoad_leads h _ _ _ _

theorem State.xlatRoad_leads (p c a : Nat) (w : Bool) : (s.xlatRoad p c a w).leads := by
  unfold State.xlatRoad
  split
  · exact Road.leads_ok _
  · split
    · exact Road.leads_ok _
    · exact Road.leads_foldl _ (fun r _ hr => Road.leads_bind hr fun _ => Road.leads_bind (State.dpaRoad_leads h _ _ _) fun _ => Road.leads_ok _) _ _
        (Road.leads_ok _)

theorem State.addrRoad_leads (g : Group) (a : DWord) (w : Bool) : (s.addrRoad g a w).leads := by
  unfold State.addrRoad
  split
  · exact State.dpaRoad_leads h _ _ _
  · split
    · refine Road.leads_bind (State.xlatRoad_leads h _ _ _ _) fun x => ?_
      split
      · exact Road.leads_bind (State.placeRoad_leads h _ _ _ _) fun _ => Road.leads_ok _
      · exact Road.leads_ok _
    · exact Road.leads_ok _

theorem State.atomicRoad_leads (g : Group) (a : DWord) (n : Nat) : (s.atomicRoad g a n).leads := by
  have atHome (p b : Nat) : Road.leads (do pure ((← s.road p (s.homePlot b) 120) + (← s.snoopRoad 384 b true))) :=
    Road.leads_bind (State.road_leads h _ _ _) fun _ => Road.leads_bind (State.snoopRoad_leads h _ _ _) fun _ => Road.leads_ok _
  unfold State.atomicRoad
  dsimp only
  split
  · repeat' split
    · exact Road.leads_ok _
    · exact Road.leads_ok _
    · exact atHome _ _
  · split
    · refine Road.leads_bind (State.xlatRoad_leads h _ _ _ _) fun x => ?_
      split
      · exact Road.leads_ok _
      · split
        · split
          · split <;> exact Road.leads_ok _
          split
          · exact Road.leads_ok _
          split
          · exact Road.leads_bind (Road.leads_map (State.road_leads h _ _ _) _) fun _ => Road.leads_ok _
          · exact Road.leads_bind (atHome _ _) fun _ => Road.leads_ok _
        · exact Road.leads_ok _
    · exact Road.leads_ok _

/-- The way of every access leads to its place. -/
theorem State.opRoad_leads (gid : Nat) (o : MemOp) : (s.opRoad gid o).leads := by
  unfold State.opRoad
  dsimp only
  refine Road.leads_bind ?_ fun _ => Road.leads_bind (Road.leads_foldl _ (fun r _ hr => Road.leads_max hr ?_) _ _ (Road.leads_ok _)) fun _ => Road.leads_ok _
  · split
    · split
      · exact Road.leads_ok _
      · exact Road.leads_map (State.addrRoad_leads h _ _ _) _
    · exact Road.leads_ok _
  · split
    · exact State.atomicRoad_leads h _ _ _
    · split
      · exact Road.leads_map (State.xlatRoad_leads h _ _ _ _) _
      · exact State.addrRoad_leads h _ _ _

end

end Sys2Proof.Machine
end

section
/-! PROOFS. Words that start their operation: the accesses. -/

namespace Sys2Proof.Machine

set_option Elab.async false
open Claims

/-! ## A word that starts its operation -/

theorem SameMemory.refl (s : State) : SameMemory s s := ⟨fun _ => rfl, fun _ => rfl, fun _ => rfl⟩

theorem SameMemory.trans {s t v : State} (a : SameMemory s t) (b : SameMemory t v) : SameMemory s v := by
  obtain ⟨ab, ad, ap⟩ := a
  obtain ⟨bb, bd, bp⟩ := b
  exact ⟨fun x => (bb x).trans (ab x), fun x => (bd x).trans (ad x), fun x => (bp x).trans (ap x)⟩

theorem Group.readF_writeF (g : Group) (k v f : Nat) : (g.writeF k v).readF f = if f = k then v else g.readF f := by
  by_cases h : f = k
  · simp [Group.readF, Group.writeF, h]
  · simp [Group.readF, Group.writeF, h, tabGet_tabSet_ne]

/-- Counting up a flag. -/
theorem Group.readF_incF (g : Group) (n : Option Nat) (f : Nat) : (g.incF n).readF f = if n = some f then g.readF f + 1 else g.readF f := by
  cases n with
  | none => simp [Group.incF]
  | some k =>
    simp only [Group.incF, Group.readF_writeF, Option.some.injEq]
    by_cases h : f = k
    · simp [h]
    · simp [h, Ne.symm h]

/-- The operand capture names its word, its flag and its lanes, and starts afresh. -/
theorem Issuer.capture_fields (u : Issuer) (i : Instr) :
    (u.capture i).word = i ∧ (u.capture i).st = .issued ∧ (u.capture i).flag = u.flagOf i ∧ (u.capture i).lanes = u.incl ∧ (u.capture i).bundle = u.lanes ∧
    (u.capture i).left = 0 ∧ (u.capture i).lane = 0 ∧ (u.capture i).entries = [] ∧ (u.capture i).fwd = none := by
  unfold Issuer.capture
  dsimp only
  repeat' split
  all_goals exact ⟨rfl, rfl, rfl, rfl, rfl, rfl, rfl, rfl, rfl⟩

theorem Issuer.capture_flag (u : Issuer) (i : Instr) : (u.capture i).flag = u.flagOf i := (u.capture_fields i).2.2.1

/-- What the word's operation does to its group at its issue. -/
def Issuer.begun (u : Issuer) (i : Instr) (k : Nat) (g : Group) : Group :=
  { (g.incF (u.capture i).flag) with ops := tabPut g.ops k { u.capture i with fwd := none }, fwdNo := g.fwdNo, pairOk := g.pairOk && !isMatched i }

/-- For a team that is not paired: the operation stands in its group, and its step is due. -/
theorem State.startOp_alone {s : State} {u : Issuer} (h : (s.uTeam u).paired = false) (i : Instr) (n : Nat) (what : Instr) :
    s.startOp u i n what = (s.bump.modGroup u.gid (u.begun i s.nextId)).after n what { a := u.gid, b := s.nextId } := by
  simp only [State.startOp, h, Bool.false_and, Bool.false_eq_true, if_false]
  rfl

/-- Over a way that leads somewhere the access comes later by its cycles. -/
theorem State.startAlong_leads {s : State} {r : Road} (h : r.leads) (u : Issuer) (i : Instr) (n : Nat) (what : Instr) :
    ∃ c, s.startAlong u i r n what = s.startOp u i (c + n) what := by
  obtain ⟨c, rfl⟩ := h
  exact ⟨c, rfl⟩

theorem Group.incF_fields (g : Group) (n : Option Nat) :
    (g.incF n).v = g.v ∧ (g.incF n).s = g.s ∧ (g.incF n).k = g.k ∧ (g.incF n).desc = g.desc ∧ (g.incF n).fpstat = g.fpstat ∧ (g.incF n).rows = g.rows ∧
    (g.incF n).hold = g.hold := by
  cases n <;> exact ⟨rfl, rfl, rfl, rfl, rfl, rfl, rfl⟩

theorem agendaInsert_mem {l : List Due} {x d : Due} : d ∈ agendaInsert l x ↔ d = x ∨ d ∈ l := by
  induction l with
  | nil => simp [agendaInsert]
  | cons y t ih =>
    unfold agendaInsert
    split <;> simp [ih, or_left_comm]

/-- A step put on the agenda stands there. -/
theorem State.after_inAgenda (s : State) (n : Nat) (i : Instr) (e : Ev) : InAgenda (s.after n i e) (s.cycle + n) i e := by
  simp [InAgenda, agendaInsert_mem]

/-- Starting an operation lasts as long as its group's registers and operations, the agenda's steps, the other groups and memory do. -/
theorem starts_mono {i what : Instr} {u : Issuer} {s m t : State} (h : Starts i what u s m)
    (hr : SameRegisters (m.group u.gid) (t.group u.gid)) (ho : (t.group u.gid).ops = (m.group u.gid).ops)
    (ha : ∀ d ∈ m.agenda, d ∈ t.agenda) (hx : SameGroupsBut u.gid m t) (hm : SameMemory m t) : Starts i what u s t := by
  obtain ⟨hop, hops, hf, hv, hs, hk, hd, hfp, hrows, ⟨due, hdue, hin⟩, hothers, hmem⟩ := h
  obtain ⟨rv, rs, rk, rf, rd, rfp, rrows⟩ := hr
  refine ⟨by rwa [ho], by rwa [ho], fun f => ?_, rv.trans hv, rs.trans hs, rk.trans hk, rd.trans hd, rfp.trans hfp, rrows.trans hrows,
    ⟨due, hdue, ha _ hin⟩, fun k hk => (hx k hk).trans (hothers k hk), hmem.trans hm⟩
  exact (congrArg (fun t => tabGet 0 t f) rf).trans (hf f)

/-- The end of the word keeps a started operation. -/
theorem starts_leaves {i what : Instr} {u : Issuer} {s m t : State} (h : Starts i what u s m) {g g' : Group} (hg : tabFind m.groups u.gid = some g)
    (hl : LeavesGroup m u (g'.asSequenced u.g) t) (hr : SameRegisters g g') (ho : g'.ops = g.ops) :
    Starts i what u s t ∧ (t.group u.gid).hold = g'.hold := by
  obtain ⟨he, hx, -, hels, hmem⟩ := hl
  have field {α : Type} (q : Group → α) (hq : ∀ x y : Group, q (x.asSequenced y) = q x) : q (t.group u.gid) = q g' := by
    rw [← hq (t.group u.gid) u.g, he, hq]
  obtain ⟨rv, rs, rk, rf, rd, rfp, rrows⟩ := hr
  refine ⟨starts_mono h ?_ ?_ ?_ hx hmem, field (fun x => x.hold) fun _ _ => rfl⟩
  · rw [State.group_eq hg]
    exact ⟨(field (fun x => x.v) fun _ _ => rfl).trans rv, (field (fun x => x.s) fun _ _ => rfl).trans rs, (field (fun x => x.k) fun _ _ => rfl).trans rk,
      (field (fun x => x.f) fun _ _ => rfl).trans rf, (field (fun x => x.desc) fun _ _ => rfl).trans rd,
      (field (fun x => x.fpstat) fun _ _ => rfl).trans rfp, (field (fun x => x.rows) fun _ _ => rfl).trans rrows⟩
  · rw [State.group_eq hg]
    exact (field (fun x => x.ops) fun _ _ => rfl).trans ho
  · have hag : t.agenda = m.agenda := by
      unfold SameElsewhere at hels
      rw [← hels]
    exact fun d hd => hag ▸ hd

/-- What starts an operation puts it under way. -/
theorem starts_underWay {i what : Instr} {u : Issuer} {s t : State} (h : Starts i what u s t) : UnderWay i what u s t := by
  obtain ⟨⟨o, ho, hcap⟩, -, hrest⟩ := h
  obtain ⟨hword, hst, hfl, hla, hbu, -⟩ := u.capture_fields i
  rw [← hcap] at hword hst hfl hla hbu
  exact ⟨⟨o, ho, hword, hst, hfl, hla, hbu⟩, hrest⟩

/-- The effect of a word has started its operation, and its group is there and held as before. -/
structure Begins (i what : Instr) (u : Issuer) (s m : State) : Prop where
  starts : Starts i what u s m
  group : ∃ g, tabFind m.groups u.gid = some g ∧ g.hold = u.g.hold

/-- A word of a team that is not paired starts its operation. -/
theorem begins_startOp {s : State} {u : Issuer} {i : Instr} (hg : tabFind s.groups u.gid = some u.g) (ha : (s.uTeam u).paired = false) (n : Nat)
    (what : Instr) : Begins i what u s (s.startOp u i n what) := by
  have hf := u.capture_flag i
  rw [State.startOp_alone ha]
  have hgr : tabFind ((s.bump.modGroup u.gid (u.begun i s.nextId)).after n what { a := u.gid, b := s.nextId }).groups u.gid = some (u.begun i s.nextId u.g) := by
    simp [hg]
  obtain ⟨a1, a2, a3, a4, a5, a6, a7⟩ := u.g.incF_fields (u.capture i).flag
  refine ⟨?_, _, hgr, a7⟩
  unfold Starts
  rw [State.group_eq hgr]
  refine ⟨⟨_, tabFind_tabPut_same _ _ _, ?_⟩, fun k hk => tabFind_tabPut_ne _ _ hk, fun f => ?_, a1, a2, a3, a4, a5, a6,
    ⟨_, Nat.le_add_right _ n, State.after_inAgenda _ _ _ _⟩, fun k hk => ?_, ⟨fun _ => rfl, fun _ => rfl, fun _ => rfl⟩⟩
  · obtain ⟨-, -, -, -, -, hl, hla, he, hw⟩ := u.capture_fields i
    calc ({ ({ u.capture i with fwd := none } : MemOp) with left := 0, lane := 0, entries := [] } : MemOp)
      _ = { u.capture i with fwd := (u.capture i).fwd, left := (u.capture i).left, lane := (u.capture i).lane, entries := (u.capture i).entries } := by
        rw [hl, hla, he, hw]
      _ = u.capture i := rfl
  · exact hf ▸ u.g.readF_incF (u.capture i).flag f
  · simp [tabFind_tabUpd_ne _ _ hk]

/-- So does one whose access takes a way that leads somewhere. -/
theorem begins_startAlong {s : State} {u : Issuer} {i : Instr} (hg : tabFind s.groups u.gid = some u.g) (ha : (s.uTeam u).paired = false) {r : Road}
    (hr : r.leads) (n : Nat) (what : Instr) : Begins i what u s (s.startAlong u i r n what) := by
  obtain ⟨c, hc⟩ := State.startAlong_leads hr u i n what
  rw [hc]
  exact begins_startOp hg ha _ _

section
variable {i what : Instr} {u : Issuer} {s m t : State}

/-- What does not touch the groups keeps a started operation. -/
theorem Begins.elsewhere (h : Begins i what u s m) (hg : t.groups = m.groups) (ha : ∀ d ∈ m.agenda, d ∈ t.agenda) (hm : SameMemory m t) :
    Begins i what u s t := by
  have hu : t.group u.gid = m.group u.gid := by simp [State.group, hg]
  exact ⟨starts_mono h.starts (by rw [hu]; exact ⟨rfl, rfl, rfl, rfl, rfl, rfl, rfl⟩) (by rw [hu]) ha (fun k _ => by rw [hg]) hm, by rw [hg]; exact h.group⟩

/-- An operation may start from a state that has changed apart from groups, memory and names. -/
theorem Begins.before (h : Begins i what u m t) (hg : m.groups = s.groups) (hn : m.nextId = s.nextId)
    (hc : m.cycle = s.cycle) (hm : SameMemory s m) : Begins i what u s t := by
  obtain ⟨⟨hop, hops, hf, hv, hs, hk, hd, hfp, hrows, ⟨due, hdue, hin⟩, hothers, hmem⟩, hgr⟩ := h
  exact ⟨⟨by rwa [← hn], by rwa [← hn], hf, hv, hs, hk, hd, hfp, hrows, ⟨due, hc ▸ hdue, hn ▸ hin⟩, fun k hk => by rw [hothers k hk, hg], hm.trans hmem⟩, hgr⟩

/-- The parts of the operation that its progress changes are no part of what its issue captures. -/
theorem Begins.modOp (h : Begins i what u s m) (f : MemOp → MemOp)
    (hf : ∀ o, ({ f o with left := 0, lane := 0, entries := [] } : MemOp) = { o with left := 0, lane := 0, entries := [] }) :
    Begins i what u s (m.modOp u.gid s.nextId f) := by
  obtain ⟨⟨⟨o, hop, hcap⟩, hops, hfl, hv, hs, hk, hd, hfp, hrows, hin, hothers, hmem⟩, g, hg, hh⟩ := h
  rw [State.group_eq hg] at hop hops hfl hv hs hk hd hfp hrows
  have hgr : tabFind (m.modOp u.gid s.nextId f).groups u.gid = some { g with ops := tabPut g.ops s.nextId (f o) } := by
    simp [State.modOp, hg, hop]
  refine ⟨?_, _, hgr, hh⟩
  unfold Starts
  rw [State.group_eq hgr]
  refine ⟨⟨f o, by simp, (hf o).trans hcap⟩, fun k hk => ?_, hfl, hv, hs, hk, hd, hfp, hrows, hin, fun k hk => ?_,
    hmem.trans ⟨fun _ => rfl, fun _ => rfl, fun _ => rfl⟩⟩
  · exact (tabFind_tabPut_ne _ _ hk).trans (hops k hk)
  · rw [← hothers k hk]
    simp [State.modOp, tabFind_tabUpd_ne _ _ hk]

/-- A word that has started its operation and is done goes on. -/
theorem Begins.finish_ok (h : Begins i what u s m) :
    Starts i what u s (finish u i (.ok m)) ∧ ((finish u i (.ok m)).group u.gid).hold = u.g.hold := by
  obtain ⟨g, hg, hh⟩ := h.group
  exact hh ▸ starts_leaves h.starts hg (finish_ok_same hg) ⟨rfl, rfl, rfl, rfl, rfl, rfl, rfl⟩ rfl

/-- A word that has started its operation may hold its group. -/
theorem Begins.finish_hold (h : Begins i what u s m) (x : Hold) :
    Starts i what u s (finish u i (.hold m x)) ∧ ((finish u i (.hold m x)).group u.gid).hold = some x := by
  obtain ⟨g, hg, -⟩ := h.group
  exact starts_leaves h.starts hg (finish_hold_from hg x) ⟨rfl, rfl, rfl, rfl, rfl, rfl, rfl⟩ rfl

end

/-! ## Loads, stores, tile accesses and atomics -/

theorem State.enterBackend_same (s : State) (p n b : Nat) : (s.enterBackend p n b).1.groups = s.groups ∧ (s.enterBackend p n b).1.nextId = s.nextId ∧
    (s.enterBackend p n b).1.cycle = s.cycle ∧ (s.enterBackend p n b).1.teams = s.teams ∧ SameMemory s (s.enterBackend p n b).1 :=
  ⟨rfl, rfl, rfl, rfl, ⟨fun _ => rfl, fun _ => rfl, fun _ => rfl⟩⟩

/-- The form of an access word is a memory word's. -/
theorem exec_accessWord {i : Instr} (h : isAccessWord i = true) (s : State) : exec i s = memWord i s := by
  unfold isAccessWord at h
  split at h
  on_goal 34 => cases h
  all_goals rfl

/-- A memory word starts its operation, whose register-operations it notes where it has any. -/
theorem memWord_starts {i : Instr} {u : Issuer} {s : State} (h : IssuesAlone i u s) (hw : s.Whole) :
    ∃ t, memWord i s = .next t ∧ Starts i .memoryAccessPerform u s t ∧ (t.group u.gid).hold = u.g.hold := by
  have hg := State.issuer_group h.unit
  have hroad := State.opRoad_leads hw u.gid (u.capture i)
  unfold memWord
  rw [issue_alone h]
  refine ⟨_, rfl, ?_⟩
  cases laneForm i with
  | none => exact (begins_startAlong hg h.alone hroad _ _).finish_ok
  | some l =>
    obtain ⟨hgr, hn, hc, ht, hm⟩ := s.enterBackend_same u.g.plot l.regOps l.busy
    dsimp only
    generalize s.enterBackend u.g.plot l.regOps l.busy = r at *
    have ha : (r.1.uTeam u).paired = false := by simpa [State.uTeam, State.team, ht] using h.alone
    have hb := begins_startAlong (i := i) (hgr ▸ hg) ha hroad ((r.2.getLast?.getD s.cycle) - s.cycle) .memoryAccessPerform
    exact ((hb.before hgr hn hc hm).modOp (fun o => { o with entries := r.2 }) fun _ => rfl).finish_ok

theorem accessWordsStart : Claims.AccessWordsStart := by
  intro i u s h ha hw
  rw [exec_accessWord ha]
  exact memWord_starts h (State.whole_of hw)

/-- Every access word goes on. -/
theorem accessWord_goesOn {i : Instr} {u : Issuer} {s : State} (hw : ∀ e ∈ s.plots, e.2.culled = false) (ha : isAccessWord i = true)
    (h : IssuesAlone i u s) : GoesOn i .memoryAccessPerform u s := by
  obtain ⟨t, ht, hs, hh⟩ := accessWordsStart i u s h ha hw
  exact ⟨t, ht, starts_underWay hs, hh⟩

theorem accessWordsComplete : Claims.AccessWordsComplete := by
  intro u s hw
  refine ⟨?_, ?_, ?_, ?_⟩
  · intro d a f n z x i hi
    refine accessWord_goesOn hw ?_
    fin_cases hi <;> rfl
  · intro d a f n z x i hi
    refine accessWord_goesOn hw ?_
    fin_cases hi <;> rfl
  · intro d a f n z c r i hi
    refine accessWord_goesOn hw ?_
    fin_cases hi <;> rfl
  · intro d b n w z x f p i hi
    refine accessWord_goesOn hw ?_
    fin_cases hi <;> rfl

/-- Settles O18: an access word captures its operands, counts its flag up and lets its group go on. -/
theorem accessWordsIssue : Obligations.AccessWordsIssue := ⟨accessWordsStart, accessWordsComplete⟩

end Sys2Proof.Machine
end

section
/-! PROOFS. Words of the engines and of objects. -/

namespace Sys2Proof.Machine

set_option Elab.async false
open Claims

/-! ## Words of the engines and of objects -/

/-- A step that is put on the agenda once leaves what stands there. -/
theorem State.afterOnce_keeps (s : State) (n : Nat) (i : Instr) (e : Ev) : ∀ d ∈ s.agenda, d ∈ (s.afterOnce n i e).agenda := by
  intro d hd
  unfold State.afterOnce
  split
  · exact hd
  · exact agendaInsert_mem.2 (.inr hd)

theorem State.afterOnce_groups (s : State) (n : Nat) (i : Instr) (e : Ev) : (s.afterOnce n i e).groups = s.groups := by
  unfold State.afterOnce
  split <;> rfl

theorem State.afterOnce_quads (s : State) (n : Nat) (i : Instr) (e : Ev) : (s.afterOnce n i e).quads = s.quads := by
  unfold State.afterOnce
  split <;> rfl

theorem State.afterOnce_memory (s : State) (n : Nat) (i : Instr) (e : Ev) : SameMemory s (s.afterOnce n i e) := by
  unfold State.afterOnce
  split <;> exact ⟨fun _ => rfl, fun _ => rfl, fun _ => rfl⟩

section
variable {i what : Instr} {u : Issuer} {s m : State}

/-- A drain takes an entry of its quad's table beside the operation that it starts. -/
theorem Begins.reserve (h : Begins i what u s m) (q : Nat) (r : MxReq) : Begins i what u s (m.reserve q r) := by
  have h' : Begins i what u s (m.bump.modQuad q fun x => { x with resv := tabPut x.resv m.nextId r }) :=
    h.elsewhere rfl (fun _ hd => hd) ⟨fun _ => rfl, fun _ => rfl, fun _ => rfl⟩
  exact h'.elsewhere (State.afterOnce_groups _ _ _ _) (State.afterOnce_keeps _ _ _ _) (State.afterOnce_memory _ _ _ _)

theorem State.reserve_resv (m : State) (q : Nat) (r : MxReq) : ∃ x ∈ ((m.reserve q r).quad q).resv, x.2 = r := by
  have hq : (m.reserve q r).quad q = { m.quad q with resv := tabPut (m.quad q).resv m.nextId r } := by
    simp [State.reserve, State.quad, State.afterOnce_quads]
  exact ⟨(m.nextId, r), by rw [hq]; exact tabFind_mem (tabFind_tabPut_same _ _ _), rfl⟩

/-- A pub enters its die's queue beside the operation that it starts. -/
theorem Begins.queuePub (h : Begins i what u s m) (op : Nat) : Begins i what u s (m.queuePub u.gid op) :=
  h.elsewhere rfl (fun _ hd => hd) ⟨fun _ => rfl, fun _ => rfl, fun _ => rfl⟩

theorem Begins.markCommitted (h : Begins i what u s m) (t : Nat) : Begins i what u s (m.markCommitted t) :=
  h.elsewhere rfl (fun _ hd => hd) ⟨fun _ => rfl, fun _ => rfl, fun _ => rfl⟩

/-- The commands of a copy word enter the device beside the operation that it starts. -/
theorem Begins.addCmds (h : Begins i what u s m) (op ce n : Nat) (b : Bool) : Begins i what u s (m.addCmds u op ce n b) :=
  foldl_keeps (Begins i what u s) _ _ _ h fun _ _ ht => ht.elsewhere rfl (fun _ hd => hd) ⟨fun _ => rfl, fun _ => rfl, fun _ => rfl⟩

end

section
variable {i : Instr} {u : Issuer} {s : State}

/-- A copy word starts its operation. -/
theorem begins_submit (h : IssuesAlone i u s) (hw : s.Whole) (ce n : Nat) (b : Bool) :
    Begins i .memoryAccessPerform u s (s.submit u i ce n b) :=
  (((begins_startAlong (State.issuer_group h.unit) h.alone (State.addrRoad_leads hw _ _ _) _ _).addCmds _ _ _ _).modOp
    (fun o => { o with left := n }) fun _ => rfl).markCommitted _

/-- The word starts its operation and its group goes on. -/
def StartsOn (i what : Instr) (u : Issuer) (s : State) : Prop :=
  ∃ t, exec i s = .next t ∧ Starts i what u s t ∧ (t.group u.gid).hold = u.g.hold

/-- The word starts its operation and holds its group. -/
def StartsHeld (i what : Instr) (u : Issuer) (s : State) : Prop :=
  ∃ t, exec i s = .next t ∧ Starts i what u s t ∧ (t.group u.gid).hold.isSome = true

variable {what : Instr}

theorem startsOn_goesOn (h : StartsOn i what u s) : GoesOn i what u s := by
  obtain ⟨t, ht, hs, hh⟩ := h
  exact ⟨t, ht, starts_underWay hs, hh⟩

theorem startsHeld_isHeld (h : StartsHeld i what u s) : IsHeld i what u s := by
  obtain ⟨t, ht, hs, hh⟩ := h
  exact ⟨t, ht, starts_underWay hs, hh⟩

/-- A word whose effect starts its operation and is done. -/
theorem startsOn_of {f : Issuer → State → State} (h : IssuesAlone i u s) (hx : exec i s = issue i s fun u t => .ok (f u t))
    (hb : Begins i what u s (f u s)) : StartsOn i what u s :=
  ⟨_, hx.trans (issue_alone h _), hb.finish_ok⟩

/-- A word whose effect starts its operation and holds its group. -/
theorem startsHeld_of {f : Issuer → State → State} {x : Issuer → State → Hold} (h : IssuesAlone i u s)
    (hx : exec i s = issue i s fun u t => .hold (f u t) (x u t)) (hb : Begins i what u s (f u s)) : StartsHeld i what u s := by
  obtain ⟨hs, hh⟩ := hb.finish_hold (x u s)
  exact ⟨_, hx.trans (issue_alone h _), hs, by rw [hh]; rfl⟩

theorem begins_along (h : IssuesAlone i u s) (hw : s.Whole) (a : DWord) (w : Bool) (n : Nat) (what : Instr) :
    Begins i what u s (s.startAlong u i (s.addrRoad u.g a w) n what) :=
  begins_startAlong (State.issuer_group h.unit) h.alone (State.addrRoad_leads hw _ _ _) _ _

theorem begins_start (h : IssuesAlone i u s) (n : Nat) (what : Instr) : Begins i what u s (s.startOp u i n what) :=
  begins_startOp (State.issuer_group h.unit) h.alone _ _

end

/-! ### One lemma for each word -/

section
variable {u : Issuer} {s : State} {d a b : BitVec 6} {n : BitVec 3} {f : BitVec 1}

theorem pfh_starts (h : IssuesAlone (.pfh a f) u s) (hw : s.Whole) : StartsOn (.pfh a f) .pfhHandoff u s :=
  startsOn_of h rfl (begins_along h hw _ _ _ _)

theorem svget_starts {c : BitVec 1} (h : IssuesAlone (.svget d a c f) u s) : StartsOn (.svget d a c f) .svgetSnapshot u s :=
  startsOn_of h rfl (begins_start h _ _)

theorem launch_starts {q : BitVec 4} (h : IssuesAlone (.launch d a f q) u s) (hw : s.Whole) : StartsOn (.launch d a f q) .launchBlockCheck u s :=
  startsOn_of h rfl (begins_along h hw _ _ _ _)

theorem mxzDefine_starts (h : IssuesAlone (.mxzDefine d a n f) u s) : StartsOn (.mxzDefine d a n f) .mxzComplete u s :=
  startsOn_of h rfl (begins_start h _ _)

theorem mxq_starts (h : IssuesAlone (.mxq d n f) u s) : StartsOn (.mxq d n f) .mxqResult u s :=
  startsOn_of h rfl (begins_start h _ _)

/-- A word that changes its quad at its issue starts its operation from there. -/
theorem begins_modQuad {i what : Instr} (h : IssuesAlone i u s) (q : Nat) (g : Quad → Quad) (k : Nat) :
    Begins i what u s ((s.modQuad q g).startOp u i k what) :=
  (begins_startOp (s := s.modQuad q g) (State.issuer_group h.unit) h.alone _ _).before rfl rfl rfl ⟨fun _ => rfl, fun _ => rfl, fun _ => rfl⟩

theorem mxzClr_starts (h : IssuesAlone (.mxzClr d n f) u s) : StartsOn (.mxzClr d n f) .mxzComplete u s :=
  startsOn_of h rfl (begins_modQuad h _ _ _)

theorem mxzFree_starts (h : IssuesAlone (.mxzFree d n f) u s) : StartsOn (.mxzFree d n f) .mxzComplete u s :=
  startsOn_of h rfl (begins_modQuad h _ _ _)

/-- A drain takes its entry of the quad's table with its operation (R235). -/
theorem mxd_reserves (h : IssuesAlone (.mxd d a f) u s) (hw : s.Whole) :
    ∃ t, exec (.mxd d a f) s = .next t ∧ Starts (.mxd d a f) .mxdBlockCheck u s t ∧ (t.group u.gid).hold = u.g.hold ∧
      ∃ r ∈ (t.quad (plotQuad u.g.plot)).resv, r.2.drain = true ∧ r.2.gid = u.gid ∧ r.2.op = s.nextId := by
  have hb := (begins_along (what := .mxdBlockCheck) h hw (u.sv a) false 0).reserve (plotQuad u.g.plot) (drainReq u.gid s.nextId u.g)
  obtain ⟨hs, hh⟩ := hb.finish_ok
  refine ⟨_, issue_alone h _, hs, hh, ?_⟩
  obtain ⟨r, hr, he⟩ := State.reserve_resv (s.startAlong u (.mxd d a f) (s.addrRoad u.g (u.sv a) false) 0 .mxdBlockCheck) (plotQuad u.g.plot)
    (drainReq u.gid s.nextId u.g)
  have hels := (finish_ok_sequenced u (.mxd d a f) ((s.startAlong u (.mxd d a f) (s.addrRoad u.g (u.sv a) false) 0 .mxdBlockCheck).reserve
    (plotQuad u.g.plot) (drainReq u.gid s.nextId u.g))).elsewhere
  unfold SameElsewhere at hels
  refine ⟨r, ?_, by rw [he]; exact ⟨rfl, rfl, rfl⟩⟩
  rw [← hels] at hr
  exact hr

theorem cpy_starts (h : IssuesAlone (.cpy d a f) u s) (hw : s.Whole) : StartsOn (.cpy d a f) .memoryAccessPerform u s :=
  startsOn_of h rfl (begins_submit h hw _ _ _)

theorem cpyCe_starts (h : IssuesAlone (.cpyCe d a b f) u s) (hw : s.Whole) : StartsOn (.cpyCe d a b f) .memoryAccessPerform u s :=
  startsOn_of h rfl (begins_submit h hw _ _ _)

/-- A queue of commands whose count fits is submitted whole. -/
theorem cpyq_issue (h : IssuesAlone (.cpyq d a b f) u s) (hn : 1 ≤ (u.sv b).toNat ∧ (u.sv b).toNat ≤ 64) :
    exec (.cpyq d a b f) s = .next (finish u (.cpyq d a b f) (.ok (s.submit u (.cpyq d a b f) (s.ceChoice u.g.plot) (u.sv b).toNat true))) := by
  refine (issue_alone h _).trans ?_
  dsimp only
  rw [if_pos hn]

theorem cpyq_starts (h : IssuesAlone (.cpyq d a b f) u s) (hw : s.Whole) (hn : 1 ≤ (u.sv b).toNat ∧ (u.sv b).toNat ≤ 64) :
    StartsOn (.cpyq d a b f) .memoryAccessPerform u s :=
  ⟨_, cpyq_issue h hn, (begins_submit h hw _ _ _).finish_ok⟩

/-- The object forms but `ostat` start from their checks, 16 cycles after their issue (R163). -/
theorem objWord_starts {i : Instr} (h : IssuesAlone i u s) (hx : exec i s = objWord i s) : StartsHeld i .memoryAccessPerform u s :=
  startsHeld_of h hx (begins_start h _ _)

theorem ostat_starts (h : IssuesAlone (.ostat d a) u s) (hw : s.Whole) : StartsHeld (.ostat d a) .memoryAccessPerform u s :=
  startsHeld_of h rfl (begins_along h hw _ _ _ _)

theorem mwait_starts {im : BitVec 12} (h : IssuesAlone (.mwait d a im) u s) (hw : s.Whole) : StartsHeld (.mwait d a im) .mwaitWake u s :=
  startsHeld_of h rfl (begins_along h hw _ _ _ _)

theorem pub_starts {c : BitVec 1} {sc : BitVec 2} (h : IssuesAlone (.pub a b f c sc) u s) (hw : s.Whole) :
    StartsHeld (.pub a b f c sc) .memoryAccessPerform u s :=
  startsHeld_of h rfl ((begins_along h hw _ _ _ _).queuePub _)

end

/-! ### The statements -/

theorem engineWordsIssue : Claims.EngineWordsIssue := by
  intro i u s h hp what hwhat
  have hw := State.whole_of hp
  have plain {i what : Instr} (hn : ∀ d a f, i ≠ .mxd d a f) (h : StartsOn i what u s) :
      ∃ t, exec i s = .next t ∧ Starts i what u s t ∧ (t.group u.gid).hold = u.g.hold ∧
        (∀ d a f, i = .mxd d a f → ∃ r ∈ (t.quad (plotQuad u.g.plot)).resv, r.2.drain = true ∧ r.2.gid = u.gid ∧ r.2.op = s.nextId) := by
    obtain ⟨t, ht, hs, hh⟩ := h
    exact ⟨t, ht, hs, hh, fun d a f he => absurd he (hn d a f)⟩
  split at hwhat <;> cases hwhat
  · exact plain (by simp) (pfh_starts h hw)
  · exact plain (by simp) (svget_starts h)
  · exact plain (by simp) (launch_starts h hw)
  · exact plain (by simp) (mxzDefine_starts h)
  · exact plain (by simp) (mxq_starts h)
  · obtain ⟨t, ht, hs, hh, hr⟩ := mxd_reserves h hw
    exact ⟨t, ht, hs, hh, fun _ _ _ _ => hr⟩

theorem objectWordsHold : Claims.ObjectWordsHold := by
  intro i u s h hp what hwhat
  have hw := State.whole_of hp
  have held {i what : Instr} (hf : u.flagOf i = none) (h : StartsHeld i what u s) :
      ∃ t, exec i s = .next t ∧ Starts i what u s t ∧ (t.group u.gid).hold ≠ none ∧ u.flagOf i = none := by
    obtain ⟨t, ht, hs, hh⟩ := h
    exact ⟨t, ht, hs, Option.isSome_iff_ne_none.1 hh, hf⟩
  split at hwhat <;> cases hwhat
  · exact held rfl (objWord_starts h rfl)
  · exact held rfl (objWord_starts h rfl)
  · exact held rfl (objWord_starts h rfl)
  · exact held rfl (ostat_starts h hw)
  · exact held rfl (mwait_starts h hw)

theorem engineWordsComplete : Claims.EngineWordsComplete := by
  intro u s d a b n f c q im sc hp
  have hw := State.whole_of hp
  exact ⟨fun h => startsOn_goesOn (pfh_starts h hw), fun h => startsOn_goesOn (svget_starts h), fun h => startsOn_goesOn (launch_starts h hw),
    fun h => startsOn_goesOn (mxzDefine_starts h), fun h => startsOn_goesOn (mxzClr_starts h), fun h => startsOn_goesOn (mxzFree_starts h),
    fun h => startsOn_goesOn (mxq_starts h), fun h => let ⟨t, ht, hs, hh, _⟩ := mxd_reserves h hw; ⟨t, ht, starts_underWay hs, hh⟩,
    fun h => startsOn_goesOn (cpy_starts h hw), fun h => startsOn_goesOn (cpyCe_starts h hw),
    fun h h1 h64 => startsOn_goesOn (cpyq_starts h hw ⟨h1, h64⟩), fun h => startsHeld_isHeld (objWord_starts h rfl),
    fun h => startsHeld_isHeld (objWord_starts h rfl), fun h => startsHeld_isHeld (ostat_starts h hw), fun h => startsHeld_isHeld (objWord_starts h rfl),
    fun h => startsHeld_isHeld (mwait_starts h hw), fun h => startsHeld_isHeld (pub_starts h hw)⟩

/-- Settles O19: every word of an engine or of an object starts its operation, and the forms of R152 hold their group. -/
theorem engineAndObjectWords : Obligations.EngineAndObjectWords := ⟨engineWordsIssue, objectWordsHold, engineWordsComplete⟩

end Sys2Proof.Machine
end

section
/-! PROOFS. Copy words and their commands. -/

namespace Sys2Proof.Machine

set_option Elab.async false
open Claims

/-! ## Copy words and their commands -/

section
variable {u : Issuer} {i : Instr} {m : State}

/-- The end of a word changes only groups, plots and turns. -/
theorem finish_ok_field {α : Type} (q : State → α) (hq : ∀ (t : State) gs ps td, q { t with groups := gs, plots := ps, todo := td } = q t) :
    q (finish u i (.ok m)) = q m := by
  have h := (finish_ok_sequenced u i m).elsewhere
  unfold SameElsewhere at h
  exact (hq _ _ _ _).symm.trans (congrArg q h)

/-- The end of a word changes nothing of its group but what sequences its words. -/
theorem finish_ok_group {g : Group} (hg : tabFind m.groups u.gid = some g) {α : Type} (q : Group → α) (hq : ∀ x y : Group, q (x.asSequenced y) = q x) :
    q ((finish u i (.ok m)).group u.gid) = q g := by
  obtain ⟨he, -⟩ := finish_ok_same (u := u) (i := i) hg
  rw [← hq ((finish u i (.ok m)).group u.gid) u.g, he, hq]

end

/-- The command that a copy word enters as its k-th. -/
def Issuer.cmdOf (u : Issuer) (op ce : Nat) (batch : Bool) (k : Nat) : Cmd :=
  { gid := u.gid, team := u.g.team, ctx := u.g.ctx, plot := u.g.plot, op := op, idx := k, batch := batch, ce := ce }

theorem State.addCmds_succ (s : State) (u : Issuer) (op ce n : Nat) (b : Bool) :
    s.addCmds u op ce (n + 1) b = { (s.addCmds u op ce n b).bump with
      cmds := tabPut (s.addCmds u op ce n b).cmds (s.addCmds u op ce n b).nextId (u.cmdOf op ce b n) } := by
  simp only [State.addCmds, List.range_succ, List.foldl_append, List.foldl_cons, List.foldl_nil]
  rfl

theorem State.addCmds_nextId (s : State) (u : Issuer) (op ce n : Nat) (b : Bool) : (s.addCmds u op ce n b).nextId = s.nextId + n := by
  induction n with
  | zero => rfl
  | succ n ih => rw [State.addCmds_succ]; show (s.addCmds u op ce n b).nextId + 1 = _; rw [ih]; rfl

/-- The commands enter under the next names, in order. -/
theorem State.addCmds_cmds (s : State) (u : Issuer) (op ce n : Nat) (b : Bool) {k : Nat} (hk : k < n) :
    tabFind (s.addCmds u op ce n b).cmds (s.nextId + k) = some (u.cmdOf op ce b k) := by
  induction n with
  | zero => omega
  | succ n ih =>
    rw [State.addCmds_succ, State.addCmds_nextId]
    by_cases h : k = n
    · subst h
      exact tabFind_tabPut_same _ _ _
    · exact (tabFind_tabPut_ne _ _ (by omega)).trans (ih (by omega))

/-- A started operation stands in its group, found after a change of its own. -/
theorem State.modOp_found {s : State} {gid op : Nat} {g : Group} {o : MemOp} (hg : tabFind s.groups gid = some g) (ho : tabFind g.ops op = some o)
    (f : MemOp → MemOp) : tabFind (s.modOp gid op f).groups gid = some { g with ops := tabPut g.ops op (f o) } := by
  simp [State.modOp, hg, ho]

/-- The operation that a word has started. -/
theorem Begins.op {i what : Instr} {u : Issuer} {s m : State} (h : Begins i what u s m) :
    ∃ g o, tabFind m.groups u.gid = some g ∧ tabFind g.ops s.nextId = some o := by
  obtain ⟨⟨⟨o, ho, -⟩, -⟩, g, hg, -⟩ := h
  exact ⟨g, o, hg, by rwa [State.group_eq hg] at ho⟩

section
variable {i : Instr} {u : Issuer} {s : State}

/-- What a word that submits commands leaves at its issue (R223, R224). -/
theorem submit_issue (h : IssuesAlone i u s) (hw : s.Whole) (ce n : Nat) (b : Bool) :
    Starts i .memoryAccessPerform u s (finish u i (.ok (s.submit u i ce n b))) ∧
      (∃ o, tabFind ((finish u i (.ok (s.submit u i ce n b))).group u.gid).ops s.nextId = some o ∧ o.left = n) ∧
      ∀ k, k < n → tabFind (finish u i (.ok (s.submit u i ce n b))).cmds (s.nextId + 1 + k) = some (u.cmdOf s.nextId ce b k) := by
  have hb := begins_along (what := .memoryAccessPerform) h hw (u.capture i).base.val false 0
  obtain ⟨g, o, hg, ho⟩ := (hb.addCmds s.nextId ce n b).op
  have hm := State.modOp_found hg ho (fun o => { o with left := n })
  obtain ⟨c, hc⟩ := State.startAlong_leads (State.addrRoad_leads hw u.g (u.capture i).base.val false) u i 0 .memoryAccessPerform
  refine ⟨(begins_submit h hw _ _ _).finish_ok.1, ⟨{ o with left := n }, ?_, rfl⟩, fun k hk => ?_⟩
  · exact (congrArg (fun t => tabFind t s.nextId) (finish_ok_group (m := s.submit u i ce n b) hm (fun x => x.ops) fun _ _ => rfl)).trans
      (tabFind_tabPut_same _ _ _)
  · rw [finish_ok_field (fun t => t.cmds) fun _ _ _ _ => rfl]
    have hn : (s.startAlong u i (s.addrRoad u.g (u.capture i).base.val false) 0 .memoryAccessPerform).nextId = s.nextId + 1 := by rw [hc]; rfl
    exact hn ▸ State.addCmds_cmds _ u s.nextId ce n b hk

theorem copyWord_submits (h : IssuesAlone i u s) (hw : s.Whole) {ce n : Nat} {b : Bool} (hs : submits u s i = some (n, ce, b)) :
    ∃ t, exec i s = .next t ∧ Starts i .memoryAccessPerform u s t ∧ (∃ o, tabFind (t.group u.gid).ops s.nextId = some o ∧ o.left = n) ∧
      ∀ k, k < n → tabFind t.cmds (s.nextId + 1 + k) = some (u.cmdOf s.nextId ce b k) := by
  refine ⟨_, ?_, submit_issue h hw ce n b⟩
  unfold submits at hs
  split at hs
  · cases hs
    exact issue_alone h _
  · cases hs
    exact issue_alone h _
  · split at hs
    · next hn =>
      cases hs
      exact cpyq_issue h hn
    · cases hs
  · cases hs

end

/-- An operation that has ended with status 1. -/
def MemOp.refused (o : MemOp) : MemOp := { o with st := .performed, sres := some { val := 1 } }

/-- What a `cpyq` whose count does not fit leaves: its operation, ended. -/
def State.refuseBatch (s : State) (u : Issuer) (i : Instr) : State :=
  ((s.startOp u i 0 .loadComplete).modOp u.gid s.nextId MemOp.refused).markCommitted u.g.team

/-- A queue whose count is not 1 to 64 has ended with status 1 (R224). -/
theorem cpyq_badCount {u : Issuer} {s : State} {d a b : BitVec 6} {f : BitVec 1} (h : IssuesAlone (.cpyq d a b f) u s)
    (hn : (u.sv b).toNat = 0 ∨ 64 < (u.sv b).toNat) :
    ∃ t o, exec (.cpyq d a b f) s = .next t ∧ tabFind (t.group u.gid).ops s.nextId = some o ∧ o.sres = some { val := 1 } ∧
      InAgenda t s.cycle .loadComplete { a := u.gid, b := s.nextId } ∧
      (∀ n, (t.group u.gid).readF n = if u.flagOf (.cpyq d a b f) = some n then u.g.readF n + 1 else u.g.readF n) ∧ t.cmds = s.cmds := by
  have hb := begins_start h 0 .loadComplete
  obtain ⟨g, o, hg, ho⟩ := hb.op
  have hm : tabFind (s.refuseBatch u (.cpyq d a b f)).groups u.gid = some _ := State.modOp_found hg ho MemOp.refused
  have hfl := hb.starts.2.2.1
  rw [State.group_eq hg] at hfl
  refine ⟨finish u (.cpyq d a b f) (.ok (s.refuseBatch u (.cpyq d a b f))), o.refused, ?_, ?_, rfl, ?_, fun n => ?_, ?_⟩
  · refine (issue_alone h _).trans ?_
    dsimp only
    rw [if_neg (by omega)]
    rfl
  · exact (congrArg (fun t => tabFind t s.nextId) (finish_ok_group hm (fun x => x.ops) fun _ _ => rfl)).trans (tabFind_tabPut_same _ _ _)
  · unfold InAgenda
    rw [finish_ok_field (fun t => t.agenda) fun _ _ _ _ => rfl]
    exact agendaInsert_mem.2 (.inl rfl)
  · exact (finish_ok_group hm (fun x => x.readF n) fun _ _ => rfl).trans (hfl n)
  · rw [finish_ok_field (fun t => t.cmds) fun _ _ _ _ => rfl]
    rfl

theorem copyWordsIssue : Claims.CopyWordsIssue :=
  ⟨fun _ _ _ _ _ _ h hp hs => copyWord_submits h (State.whole_of hp) hs, fun _ _ _ _ _ _ h hn => cpyq_badCount h hn⟩

/-! ### Commands on their way to the engines -/

theorem State.afterOnce_cmds (s : State) (n : Nat) (i : Instr) (e : Ev) : (s.afterOnce n i e).cmds = s.cmds := by
  unfold State.afterOnce
  split <;> rfl

theorem State.afterOnce_ces (s : State) (n : Nat) (i : Instr) (e : Ev) : (s.afterOnce n i e).ces = s.ces := by
  unfold State.afterOnce
  split <;> rfl

theorem State.afterOnce_plot (s : State) (n : Nat) (i : Instr) (e : Ev) (p : Nat) : (s.afterOnce n i e).plot p = s.plot p := by
  unfold State.afterOnce
  split <;> rfl

theorem State.registerWaiting_nil (s : State) (p : Nat) : s.registerWaiting p [] = s := rfl

/-- Ranges that do not fit wait, and those behind them. -/
theorem State.registerWaiting_full {s : State} {p : Nat} {w : RangeWait} {rest : List RangeWait} (h : 48 < (s.plot p).rlt.length + w.ranges.length) :
    s.registerWaiting p (w :: rest) = s := by
  unfold State.registerWaiting
  rw [if_neg (Nat.not_le.2 h)]

/-- The plot after the first of its waiting ranges have taken their entries. -/
def State.takeRanges (s : State) (p : Nat) (w : RangeWait) : State :=
  s.modPlot p fun x => { x with rlt := x.rlt ++ w.ranges, waiting := x.waiting.drop 1 }

theorem State.registerWaiting_one {s : State} {p : Nat} {w : RangeWait} {c : Cmd} (h : (s.plot p).rlt.length + w.ranges.length ≤ 48)
    (hc : tabFind s.cmds w.owner = some c) :
    s.registerWaiting p [w] = ((s.takeRanges p w).modCmd w.owner fun x => { x with st := .locked }).afterOnce 0 .ceDispatch { a := c.plot } := by
  have hc' : (s.takeRanges p w).cmd? w.owner = some c := hc
  simp only [State.registerWaiting, if_pos h]
  show (s.takeRanges p w).rangesTaken w.owner = _
  simp [State.rangesTaken, hc']

/-- The last of a plot's waiting commands takes its range locks (R229). -/
theorem cpyRegister_locks {s : State} {w : RangeWait} {c : Cmd} (hw : (s.plot s.ev.a).waiting = [w])
    (hfit : (s.plot s.ev.a).rlt.length + w.ranges.length ≤ 48) (hc : tabFind s.cmds w.owner = some c) :
    ∃ t, exec .cpyRegister s = .next t ∧ tabFind t.cmds w.owner = some { c with st := .locked } ∧
      (t.plot s.ev.a).rlt = (s.plot s.ev.a).rlt ++ w.ranges ∧ (t.plot s.ev.a).waiting = [] ∧ t.groups = s.groups ∧ SameMemory s t := by
  have hx : exec .cpyRegister s = .next (s.registerWaiting s.ev.a [w]) := by rw [← hw]; rfl
  rw [State.registerWaiting_one hfit hc] at hx
  have hplot : ((s.takeRanges s.ev.a w).modCmd w.owner fun x => { x with st := .locked }).plot s.ev.a =
      { s.plot s.ev.a with rlt := (s.plot s.ev.a).rlt ++ w.ranges, waiting := (s.plot s.ev.a).waiting.drop 1 } := by
    simp [State.plot, State.takeRanges]
  have hsame : SameMemory s ((s.takeRanges s.ev.a w).modCmd w.owner fun x => { x with st := .locked }) := ⟨fun _ => rfl, fun _ => rfl, fun _ => rfl⟩
  refine ⟨_, hx, ?_, ?_, ?_, ?_, hsame.trans (State.afterOnce_memory _ _ _ _)⟩
  · rw [State.afterOnce_cmds]
    exact (tabFind_tabUpd_same _ _ _).trans (by rw [show (s.takeRanges s.ev.a w).cmds = s.cmds from rfl, hc]; rfl)
  · rw [State.afterOnce_plot, hplot]
  · rw [State.afterOnce_plot, hplot]
    simp [hw]
  · rw [State.afterOnce_groups]
    rfl

/-- A command that is not locked does not move to its engine. -/
theorem State.dispatchOne_unlocked {s : State} {id : Nat} {c : Cmd} (h : c.st ≠ .locked) : s.dispatchOne id c = s := by
  simp [State.dispatchOne, h]

theorem ceDispatch_idle {s : State} (h : ∀ e ∈ s.cmds, e.2.st ≠ .locked) : exec .ceDispatch s = .next s := by
  have hone : ∀ l : List (Nat × Cmd), l.foldl (fun (t : State) e => match t.cmd? e.1 with | some c => t.dispatchOne e.1 c | none => t) s = s := by
    intro l
    refine foldl_keeps (fun t => t = s) _ _ _ rfl ?_
    rintro t e rfl
    split
    · next c hc => exact State.dispatchOne_unlocked (h _ (tabFind_mem hc))
    · rfl
  exact congrArg Host.Outcome.next (hone _)

/-- The one command of the device is first of its batch. -/
theorem ceDispatch_one {s : State} {id : Nat} {c : Cmd} (hs : s.cmds = [(id, c)]) (hp : c.plot = s.ev.a) :
    exec .ceDispatch s = .next (s.dispatchOne id c) := by
  show Host.Outcome.next _ = _
  simp [hs, hp, State.cmd?, tabFind]

theorem State.earlierGone_one {s : State} {id : Nat} {c : Cmd} (hs : s.cmds = [(id, c)]) : s.earlierGone c = true := by
  simp [State.earlierGone, hs]

/-- A command in its engine's queue. -/
theorem State.toEngine_queued {s t : State} {id : Nat} {c d : Cmd} (hd : tabFind t.cmds id = some d) (hces : t.ces = s.ces) (hg : t.groups = s.groups)
    (hm : SameMemory s t) :
    tabFind (t.toEngine id c).cmds id = some { d with st := .queued } ∧ ((t.toEngine id c).ce c.ce).queue = (s.ce c.ce).queue ++ [id] ∧
      (t.toEngine id c).groups = s.groups ∧ SameMemory s (t.toEngine id c) := by
  have hsame : SameMemory t ((t.modCmd id fun x => { x with st := .queued }).modCe c.ce fun x => { x with queue := x.queue ++ [id] }) :=
    ⟨fun _ => rfl, fun _ => rfl, fun _ => rfl⟩
  refine ⟨?_, ?_, ?_, (hm.trans hsame).trans (State.afterOnce_memory _ _ _ _)⟩
  · simp [State.toEngine, State.afterOnce_cmds, hd]
  · simp [State.toEngine, State.ce, State.afterOnce_ces, hces]
  · simp [State.toEngine, State.afterOnce_groups, hg]

/-- A command that holds its locks and names no tile goes to its engine (R230). -/
theorem ceDispatch_queues {s : State} {id : Nat} {c : Cmd} (hs : s.cmds = [(id, c)]) (hp : c.plot = s.ev.a) (hl : c.st = .locked) (h0 : c.status = 0)
    (hd : cmDtile c.blk.toNat = 0) (ht : cmStile c.blk.toNat = 0) :
    ∃ t, exec .ceDispatch s = .next t ∧ tabFind t.cmds id = some { c with st := .queued, tiles := false } ∧
      (t.ce c.ce).queue = (s.ce c.ce).queue ++ [id] ∧ t.groups = s.groups ∧ SameMemory s t := by
  refine ⟨_, ceDispatch_one hs hp, ?_⟩
  have hone : s.dispatchOne id c = (s.modCmd id fun x => { x with tiles := false }).toEngine id c := by
    simp [State.dispatchOne, hl, State.earlierGone_one hs, h0, hd, ht, State.tileIn, State.tileTo]
  rw [hone]
  exact State.toEngine_queued (t := s.modCmd id fun x => { x with tiles := false }) (d := { c with tiles := false })
    (by simp [hs, tabFind]) rfl rfl ⟨fun _ => rfl, fun _ => rfl, fun _ => rfl⟩

/-- One that has already failed goes there with its status (R227). -/
theorem ceDispatch_failed {s : State} {id : Nat} {c : Cmd} (hs : s.cmds = [(id, c)]) (hp : c.plot = s.ev.a) (hl : c.st = .locked) (h0 : c.status ≠ 0) :
    ∃ t, exec .ceDispatch s = .next t ∧ tabFind t.cmds id = some { c with st := .queued } ∧
      (t.ce c.ce).queue = (s.ce c.ce).queue ++ [id] ∧ t.groups = s.groups ∧ SameMemory s t := by
  refine ⟨_, ceDispatch_one hs hp, ?_⟩
  have hone : s.dispatchOne id c = s.toEngine id c := by
    simp [State.dispatchOne, hl, State.earlierGone_one hs, h0]
  rw [hone]
  exact State.toEngine_queued (by simp [hs, tabFind]) rfl rfl (SameMemory.refl s)

theorem ceSegment_busy {s : State} (h : (s.ce s.ev.a).busy.isSome = true) : exec .ceSegment s = .next s := by
  show execCeSegment s = _
  simp [execCeSegment, h]

theorem ceSegment_empty {s : State} (h : s.cePick s.ev.a = none) : exec .ceSegment s = .next s := by
  show execCeSegment s = _
  simp [execCeSegment, h]

/-- The state after an engine has taken a command's segment. -/
def State.takeSegment (s : State) (e x id left : Nat) : State :=
  (s.modCe e fun y => { y with busy := some id, rr := some (x, left) }).modCmd id fun y => { y with st := .running }

/-- An idle engine moves the next 4,096 bytes of the command that its order names, at 64 bytes a cycle (R391). -/
theorem ceSegment_takes {s : State} {x id left : Nat} {c : Cmd} (hb : (s.ce s.ev.a).busy = none) (hp : s.cePick s.ev.a = some (x, id, left))
    (hc : tabFind s.cmds id = some c) (h0 : c.status = 0) (hst : c.started = true) :
    exec .ceSegment s = .next ((s.takeSegment s.ev.a x id left).after (Nat.max 1 (ceilDiv (Nat.min 4096 (cmTotal c.blk.toNat - c.pos)) 64))
      (ceStep (cmKind c.blk.toNat)) { a := s.ev.a }) := by
  have hcmd : (s.takeSegment s.ev.a x id left).cmd? id = some { c with st := .running } := by
    simp [State.takeSegment, State.cmd?, hc]
  show execCeSegment s = _
  unfold execCeSegment
  simp only [hb, hp, Option.isSome_none, Bool.false_eq_true, if_false]
  rw [show ((s.modCe s.ev.a fun y => { y with busy := some id, rr := some (x, left) }).modCmd id fun y => { y with st := .running }) =
    s.takeSegment s.ev.a x id left from rfl]
  simp only [hcmd, h0, hst, Bool.not_true, Bool.false_eq_true, and_false, if_false, ne_eq, not_true]

theorem commandsAdvance : Claims.CommandsAdvance := by
  refine ⟨fun s hw => ?_, fun s w rest hw hfull => ?_, fun s w c => cpyRegister_locks, fun s => ceDispatch_idle, fun s id c => ceDispatch_queues,
    fun s id c => ceDispatch_failed, fun s => ceSegment_busy, fun s => ceSegment_empty, fun s x id left c hb hp hc h0 hst => ?_⟩
  · show Host.Outcome.next (s.registerWaiting s.ev.a (s.plot s.ev.a).waiting) = _
    rw [hw, State.registerWaiting_nil]
  · show Host.Outcome.next (s.registerWaiting s.ev.a (s.plot s.ev.a).waiting) = _
    rw [hw, State.registerWaiting_full hfull]
  · refine ⟨_, ceSegment_takes hb hp hc h0 hst, ?_, ?_, ?_, rfl, ⟨fun _ => rfl, fun _ => rfl, fun _ => rfl⟩, State.after_inAgenda _ _ _ _⟩
    · simp [State.takeSegment, hc]
    · simp [State.takeSegment, State.ce]
    · simp [State.takeSegment, State.ce]

/-- Settles O36: a copy word enters its commands, which take their locks, their engine and their segments in order. -/
theorem copyCommands : Obligations.CopyCommands := ⟨copyWordsIssue, commandsAdvance⟩

end Sys2Proof.Machine
end

section
/-! PROOFS. Invalidation of the instruction caches. -/

namespace Sys2Proof.Machine

set_option Elab.async false
open Claims

/-! ## Invalidation of the instruction caches -/

/-- Ways depend on which plots are culled, and on nothing else. -/
theorem State.way?_congr {s t : State} (h : ∀ r, (t.plot r).culled = (s.plot r).culled) (p q : Nat) : t.way? p q = s.way? p q := by
  simp only [State.way?, State.path, h]

theorem State.send_way {s : State} {p q c : Nat} (h : s.way? p q = some c) (n : Nat) (i : Instr) (e : Ev) : s.send p q n i e = s.after (n + c) i e := by
  simp [State.send, h]

/-- A step for the agenda alone. -/
structure OnlyAgenda (s t : State) : Prop where
  same : { t with agenda := s.agenda } = s
  keeps : ∀ d ∈ s.agenda, d ∈ t.agenda

theorem OnlyAgenda.after {s t : State} (h : OnlyAgenda s t) (n : Nat) (i : Instr) (e : Ev) : OnlyAgenda s (t.after n i e) := by
  exact ⟨h.same, fun d hd => agendaInsert_mem.2 (.inr (h.keeps d hd))⟩

theorem OnlyAgenda.field {s t : State} (h : OnlyAgenda s t) {α : Type} (q : State → α) (hq : ∀ (t : State) a, q { t with agenda := a } = q t) : q t = q s :=
  (hq t s.agenda).symm.trans (congrArg q h.same)

/-- A message to each of some units, each over its way. -/
theorem foldl_send {s : State} {p : Nat} {i : Instr} (e : Nat → Ev) (l : List Nat) (hl : ∀ q ∈ l, (s.way? p q).isSome = true) {t : State} (ht : OnlyAgenda s t) :
    OnlyAgenda s (l.foldl (fun v q => v.send p q 0 i (e q)) t) ∧
      (∀ d ∈ t.agenda, d ∈ (l.foldl (fun v q => v.send p q 0 i (e q)) t).agenda) ∧
      ∀ q ∈ l, InAgenda (l.foldl (fun v q => v.send p q 0 i (e q)) t) (s.cycle + s.wayCycles p q) i (e q) := by
  induction l generalizing t with
  | nil => exact ⟨ht, fun _ hd => hd, by simp⟩
  | cons q l ih =>
    obtain ⟨c, hc⟩ := Option.isSome_iff_exists.1 (hl q List.mem_cons_self)
    have hway : t.way? p q = some c := by
      rw [← hc]
      exact ht.field (fun x => x.way? p q) fun _ _ => rfl
    have hcyc : t.cycle = s.cycle := ht.field (fun x => x.cycle) fun _ _ => rfl
    rw [List.foldl_cons, State.send_way hway]
    obtain ⟨ho, hk, hall⟩ := ih (fun r hr => hl r (List.mem_cons_of_mem _ hr)) (ht.after (0 + c) i (e q))
    refine ⟨ho, fun d hd => hk d (agendaInsert_mem.2 (.inr hd)), fun r hr => ?_⟩
    rcases List.mem_cons.1 hr with rfl | hr
    · refine hk _ (agendaInsert_mem.2 (.inl ?_))
      simp [State.wayCycles, hc, hcyc]
    · exact hall r hr

/-- The end of a word that has only put steps on the agenda and holds its group. -/
theorem holdsFrom_of_agenda {u : Issuer} {i : Instr} {s m : State} (hu : s.issuer? = some u) (hm : OnlyAgenda s m) (h : Hold) :
    HoldsFrom s u h { (finish u i (.hold m h)) with agenda := s.agenda } := by
  have hgr : m.groups = s.groups := hm.field (fun x => x.groups) fun _ _ => rfl
  have hpl : m.plots = s.plots := hm.field (fun x => x.plots) fun _ _ => rfl
  have htd : m.todo = s.todo := hm.field (fun x => x.todo) fun _ _ => rfl
  have hg : tabFind m.groups u.gid = some u.g := hgr ▸ State.issuer_group hu
  obtain ⟨he, hx, hp, hels, -⟩ := finish_hold_from (i := i) hg h
  have hels' : SameElsewhere s { (finish u i (.hold m h)) with agenda := s.agenda } := by
    unfold SameElsewhere at hels ⊢
    rw [hgr, hpl, htd] at hels
    exact (congrArg (fun x : State => { x with agenda := s.agenda }) hels).trans hm.same
  have hplot (p : Nat) : m.plot p = s.plot p := hm.field (fun x => x.plot p) fun _ _ => rfl
  exact ⟨he, fun k hk => (hx k hk).trans (by rw [hgr]), fun p => hplot p ▸ hp p, hels', hels'.memory⟩

/-- What `icinv` leaves at its issue (R183). -/
theorem icinv_sends {u : Issuer} {s : State} {i : Instr} (lo len : DWord) (all : Bool) (h : Issues i u s)
    (hway : ∀ p, s.inService p = true → (s.way? u.g.plot p).isSome = true)
    (hx : exec i s = .next (finish u i (s.sendIcinv u lo len all))) :
    ∃ t, exec i s = .next t ∧ HoldsFrom s u (.icinv ((List.range 384).filter s.inService).length) { t with agenda := s.agenda } ∧
      ∀ p, s.inService p = true → InAgenda t (s.cycle + s.wayCycles u.g.plot p) .icinvRequest
        { a := p, b := u.gid, v := lo, f := len.setWidth 256, flag := all } := by
  obtain ⟨ho, -, hall⟩ := foldl_send (i := .icinvRequest) (fun p => { a := p, b := u.gid, v := lo, f := len.setWidth 256, flag := all })
    ((List.range 384).filter s.inService) (fun q hq => hway q (List.mem_filter.1 hq).2) (⟨rfl, fun _ hd => hd⟩ : OnlyAgenda s s)
  refine ⟨_, hx, holdsFrom_of_agenda h.unit ho _, fun p hp => ?_⟩
  have hlt : p < 384 := by
    simp only [State.inService, Bool.and_eq_true, decide_eq_true_eq] at hp
    exact hp.1.1
  have hg := (ho.field (fun x => tabFind x.groups u.gid) fun _ _ => rfl).trans (State.issuer_group h.unit)
  obtain ⟨-, -, -, hels, -⟩ := finish_hold_from (i := i) hg (.icinv ((List.range 384).filter s.inService).length)
  unfold SameElsewhere at hels
  have := hall p (List.mem_filter.2 ⟨List.mem_range.2 hlt, hp⟩)
  unfold InAgenda at this ⊢
  rw [← hels] at this
  exact this

/-- A line that a request of the group names. -/
def icinvHits (g : Group) (e : Ev) (l : ILine) : Bool :=
  decide (l.ctx = g.ctx) && !g.pgc &&
    (e.flag || (decide (0 < e.f.toNat) && decide (e.v.toNat < l.vline * 64 + 64) && decide (l.vline * 64 < e.v.toNat + e.f.toNat)))

theorem icinvHits_iff {g : Group} (h : g.pgc = false) {e : Ev} {l : ILine} : icinvHits g e l = true ↔
    l.ctx = g.ctx ∧ (e.flag = true ∨ (0 < e.f.toNat ∧ e.v.toNat < l.vline * 64 + 64 ∧ l.vline * 64 < e.v.toNat + e.f.toNat)) := by
  simp [icinvHits, h, and_assoc]

/-- A plot without the lines that a request names. -/
def Plot.dropLines (g : Group) (e : Ev) (x : Plot) : Plot := { x with icache := x.icache.filter (fun l => !icinvHits g e l) }

/-- Dropping lines culls no plot. -/
theorem State.culled_dropLines (s : State) (g : Group) (e : Ev) (p r : Nat) :
    ((s.modPlot p (Plot.dropLines g e)).plot r).culled = (s.plot r).culled := by
  by_cases h : r = p
  · rw [h, State.plot_modPlot_same]
    rfl
  · rw [State.plot_modPlot_ne s _ h]

/-- A plot that is not culled drops its lines and sends its answer. -/
theorem icinvRequest_sends {s : State} {g : Group} (hg : tabFind s.groups s.ev.b = some g) (hc : (s.plot s.ev.a).culled = false)
    {n : Nat} (hn : s.way? s.ev.a g.plot = some n) :
    exec .icinvRequest s = .next ((s.modPlot s.ev.a (Plot.dropLines g s.ev)).after (40 + n) .icinvAck { a := s.ev.a, b := s.ev.b }) := by
  rw [← State.send_way ((State.way?_congr (s.culled_dropLines g s.ev s.ev.a) _ _).trans hn)]
  show execIcinvRequest s = _
  unfold execIcinvRequest
  dsimp only
  rw [State.group_eq hg, hc, if_neg Bool.false_ne_true]
  rfl

/-- A plot drops its lines of the context and answers (R183). -/
theorem icinvRequest_answers {s : State} {g : Group} (hg : tabFind s.groups s.ev.b = some g) (hpgc : g.pgc = false) (hc : (s.plot s.ev.a).culled = false)
    {n : Nat} (hn : s.way? s.ev.a g.plot = some n) :
    ∃ t, exec .icinvRequest s = .next t ∧
      (∀ l, l ∈ (t.plot s.ev.a).icache ↔ l ∈ (s.plot s.ev.a).icache ∧ ¬ (l.ctx = g.ctx ∧ (s.ev.flag = true ∨
        (0 < s.ev.f.toNat ∧ s.ev.v.toNat < l.vline * 64 + 64 ∧ l.vline * 64 < s.ev.v.toNat + s.ev.f.toNat)))) ∧
      (∀ p, p ≠ s.ev.a → t.plot p = s.plot p) ∧ t.groups = s.groups ∧ SameMemory s t ∧
      InAgenda t (s.cycle + (40 + n)) .icinvAck { a := s.ev.a, b := s.ev.b } := by
  refine ⟨_, icinvRequest_sends hg hc hn, fun l => ?_, fun p hp => State.plot_modPlot_ne s _ hp, rfl, ⟨fun _ => rfl, fun _ => rfl, fun _ => rfl⟩,
    State.after_inAgenda _ _ _ _⟩
  refine (congrArg (fun x : Plot => l ∈ x.icache) (State.plot_modPlot_same s s.ev.a (Plot.dropLines g s.ev))).to_iff.trans ?_
  simp only [Plot.dropLines, List.mem_filter, Bool.not_eq_true', ← Bool.not_eq_true, icinvHits_iff hpgc]

theorem icinvAck_counts {s : State} {g : Group} {n : Nat} (hg : tabFind s.groups s.ev.b = some g) (hh : g.hold = some (.icinv n)) :
    exec .icinvAck s = .next (s.setGroup s.ev.b { g with hold := some (.icinv (n - 1)) }) := by
  show execIcinvAck s = _
  simp [execIcinvAck, State.modGroup, State.setGroup, tabUpd, hg, hh]

/-- Settles O23: each plot in service is asked over its way, drops its lines and answers. -/
theorem instructionInvalidation : Obligations.InstructionInvalidation := by
  refine ⟨fun u s i lo len all h hway hi => ?_, fun s g hg hp hc n => icinvRequest_answers hg hp hc, fun s g n => icinvAck_counts⟩
  rcases hi with ⟨a, b, rfl, rfl, rfl, rfl⟩ | ⟨rfl, rfl, rfl, rfl⟩
  · exact icinv_sends _ _ _ h hway (issue_own h rfl rfl _)
  · exact icinv_sends _ _ _ h hway (issue_own h rfl rfl _)

end Sys2Proof.Machine
end

section
/-! PROOFS. Special registers. -/

namespace Sys2Proof.Machine

set_option Elab.async false
open Claims

/-! ## What a write to memory leaves -/

/-- Only memory, its frames and the agenda differ. -/
def OnlyMemory (s t : State) : Prop :=
  { t with mem := s.mem, versions := s.versions, desc := s.desc, poison := s.poison, eccErrors := s.eccErrors, scrub := s.scrub, frames := s.frames,
           agenda := s.agenda } = s

theorem OnlyMemory.refl (s : State) : OnlyMemory s s := rfl

theorem OnlyMemory.trans {s t v : State} (a : OnlyMemory s t) (b : OnlyMemory t v) : OnlyMemory s v := by
  unfold OnlyMemory at *
  rw [← a, ← b]

/-- A component that is neither memory nor agenda is as it was. -/
theorem OnlyMemory.field {s t : State} (h : OnlyMemory s t) {α : Type} (q : State → α)
    (hq : ∀ (t : State) m v d p e c f a, q { t with mem := m, versions := v, desc := d, poison := p, eccErrors := e, scrub := c, frames := f, agenda := a } = q t) :
    q t = q s := (hq _ _ _ _ _ _ _ _ _).symm.trans (congrArg q h)

theorem State.wakeFrame_onlyMemory (s : State) (p : Nat) : OnlyMemory s (s.wakeFrame p) := by
  unfold State.wakeFrame
  split <;> rfl

theorem State.markDirty_onlyMemory (s : State) (a : Nat) : OnlyMemory s (s.markDirty a) := by
  unfold State.markDirty
  split <;> rfl

theorem State.writeByte_onlyMemory (s : State) (a : Nat) (b : Byte) : OnlyMemory s (s.writeByte a b) :=
  ((s.wakeFrame_onlyMemory (s.phys a)).trans (show OnlyMemory _ ((s.wakeFrame (s.phys a)).pokeByte (s.phys a) b) from rfl)).trans
    (State.markDirty_onlyMemory _ a)

theorem State.writeMem_onlyMemory (s : State) (a : Nat) (bs : List Byte) : OnlyMemory s (s.writeMem a bs) := by
  induction bs generalizing s a with
  | nil => rfl
  | cons b l ih => exact (s.writeByte_onlyMemory a b).trans (ih _ _)

/-- A trace record changes memory and the rings of the dies. -/
theorem State.trace_groups (s : State) (d k t c g p m a v : Nat) : (s.trace d k t c g p m a v).groups = s.groups := by
  unfold State.trace
  split
  · unfold State.traceWrite
    dsimp only
    repeat' split
    · rfl
    · rfl
    · exact (State.writeMem_onlyMemory _ _ _).field (fun x => x.groups) fun _ _ _ _ _ _ _ _ _ => rfl
  · rfl

/-! ## Special registers -/

/-- The registers of a group are no part of what sequences its words. -/
theorem Group.writeS_asSequenced (g : Group) (n : Nat) (v : SReg) : (g.writeS n v).asSequenced g = g.writeS n v := by
  unfold Group.writeS
  split <;> rfl

theorem State.fqPop_groups (s : State) : s.fqPop.1.groups = s.groups := by
  unfold State.fqPop
  split <;> rfl

/-- FQPOP belongs to no group, team, plot or context. -/
theorem srScoped_fqpop : srScoped 256 = false := by decide

/-- What `srd` reads, and the state after its read. -/
def State.srdRead (s : State) (u : Issuer) (r : BitVec 12) : State × DWord :=
  if r = 0x100 then s.fqPop
  else if u.g.pgc && srScoped r.toNat then ({ s with fresh := s.fresh + 1 }, s.srValue u r.toNat)
  else (s, s.srValue u r.toNat)

theorem State.srdRead_groups (s : State) (u : Issuer) (r : BitVec 12) : (s.srdRead u r).1.groups = s.groups := by
  unfold State.srdRead
  split
  · exact s.fqPop_groups
  · split <;> rfl

theorem srd_issue {u : Issuer} {s : State} {d : BitVec 6} {r : BitVec 12} (h : IssuesAlone (.srd d r) u s) :
    exec (.srd d r) s = .next (finish u (.srd d r) (.ok ((s.srdRead u r).1.setSV u d (s.srdRead u r).2))) := by
  refine (issue_alone h _).trans ?_
  by_cases hr : r = 0x100
  · subst hr
    simp [State.srdRead, h.alone, srScoped_fqpop]
  · by_cases hs : (u.g.pgc && srScoped r.toNat) = true
    · simp only [State.srdRead, h.alone, if_neg hr, if_pos hs, Bool.false_and, Bool.false_eq_true, if_false]
    · simp only [State.srdRead, h.alone, if_neg hr, if_neg hs, Bool.false_and, Bool.false_eq_true, if_false]

/-- `srd` writes what it reads. -/
theorem srd_writes {u : Issuer} {s : State} {d : BitVec 6} {r : BitVec 12} (h : IssuesAlone (.srd d r) u s) :
    ∃ t, exec (.srd d r) s = .next t ∧ LeavesGroup (s.srdRead u r).1 u (u.g.writeS d.toNat { val := (s.srdRead u r).2 }) t := by
  have hg : tabFind (s.srdRead u r).1.groups u.gid = some u.g := by rw [State.srdRead_groups]; exact State.issuer_group h.unit
  refine ⟨_, srd_issue h, ?_⟩
  rw [← Group.writeS_asSequenced]
  exact finish_ok_from hg fun g => g.writeS d.toNat { val := (s.srdRead u r).2 }

/-- Where every record has been taken FQPOP reads 0 (R335). -/
theorem State.fqPop_none {s : State} (h : s.pgc.fq.all (fun e => e.2.taken) = true) : s.fqPop = (s, 0) := by
  have hf : s.pgc.fq.filter (fun e => !e.2.taken) = [] := by
    rw [List.filter_eq_nil_iff]
    intro e he
    simp [List.all_eq_true.1 h e he]
  simp [State.fqPop, State.fqOldest, hf, leastBy]

/-- `swr` of FPSTAT keeps the exceptions of its own cycle (R102, R103). -/
theorem swr_fpstat {u : Issuer} {s : State} {a : BitVec 6} (h : Issues (.swr a 0x013) u s) :
    ∃ t, exec (.swr a 0x013) s = .next t ∧ LeavesGroup s u { u.g with fpstat := (u.sv a).setWidth 6 ||| u.g.fpLate s.cycle } t :=
  ⟨_, issue_own h rfl rfl _, finish_ok_leaves h.unit fun g => { g with fpstat := (u.sv a).setWidth 6 ||| g.fpLate s.cycle }⟩

/-- A word that changes no group leaves its own as it was. -/
theorem leaves_same {u : Issuer} {i : Instr} {s m : State} (h : Issues i u s) (hm : m.groups = s.groups) : LeavesGroup m u u.g (finish u i (.ok m)) :=
  finish_ok_same (g := u.g) (by rw [hm]; exact State.issuer_group h.unit)

theorem swr_modelCap {u : Issuer} {s : State} {a : BitVec 6} (h : Issues (.swr a 0x104) u s) :
    ∃ t, exec (.swr a 0x104) s = .next t ∧ LeavesGroup (s.modPgc fun p => { p with modelCap := u.sv a }) u u.g t :=
  ⟨_, issue_own h rfl rfl _, leaves_same h rfl⟩

theorem swr_leaseMargin {u : Issuer} {s : State} {a : BitVec 6} (h : Issues (.swr a 0x106) u s) :
    ∃ t, exec (.swr a 0x106) s = .next t ∧ LeavesGroup (s.modPgc fun p => { p with leaseMargin := u.sv a }) u u.g t :=
  ⟨_, issue_own h rfl rfl _, leaves_same h rfl⟩

/-- FQRES orders a resolution (R335). -/
theorem swr_fqres {u : Issuer} {s : State} {a : BitVec 6} (h : Issues (.swr a 0x101) u s) :
    ∃ t, exec (.swr a 0x101) s = .next t ∧
      LeavesGroup (s.after 0 (fqresStep (fld (u.sv a).toNat 12 4)) { a := fld (u.sv a).toNat 0 10, b := fld (u.sv a).toNat 16 8 }) u u.g t :=
  ⟨_, issue_own h rfl rfl _, leaves_same h rfl⟩

/-- The state in which FRAMECTL has ordered an operation. -/
def State.frameOrdered (s : State) (v : DWord) : State :=
  s.after 0 (frameStep (fld v.toNat 60 4)) { a := if fld v.toNat 60 4 ≤ 8 then fld v.toNat 0 48 else fld v.toNat 60 4 }

/-- FRAMECTL orders an operation and holds the unit (R336). -/
theorem swr_frameCtl {u : Issuer} {s : State} {a : BitVec 6} (h : Issues (.swr a 0x102) u s) :
    ∃ t, exec (.swr a 0x102) s = .next t ∧ HoldsFrom (s.frameOrdered (u.sv a)) u .frameCtl t := by
  have hg : tabFind (s.frameOrdered (u.sv a)).groups u.gid = some u.g := State.issuer_group h.unit
  exact ⟨_, issue_own h rfl rfl _, finish_hold_from hg .frameCtl⟩

/-- `mark` adds its record to the trace (R184). -/
theorem mark_traces {u : Issuer} {s : State} {a n : BitVec 6} (h : Issues (.mark a n) u s) (hp : u.g.pgc = false) :
    ∃ t, exec (.mark a n) s = .next t ∧
      LeavesGroup (s.trace (plotDie u.g.plot) 7 n.toNat u.g.ctx u.g.slot u.g.plot (s.team u.g.team).serial 0 (u.sv a).toNat) u u.g t := by
  refine ⟨_, (issue_own h rfl rfl _).trans ?_, leaves_same h (State.trace_groups _ _ _ _ _ _ _ _ _ _)⟩
  simp [hp, State.uTeam]

theorem plotQuad_eq (p : Nat) : plotQuad p = p / 48 * 12 + p % 24 / 2 := by
  simp [plotQuad, plotX, plotY, Nat.div_div_eq_div_mul]

theorem plotDie_eq {p : Nat} (h : p < 384) : plotDie p = p % 24 / 12 + 2 * (p / 192) := by
  simp [plotDie, plotX, plotY, h, Nat.div_div_eq_div_mul]

/-- The registers whose value the rules give for a group: each case of the table is one of the register file. -/
theorem srValue_groupRegister {u : Issuer} {s : State} {n x : Nat} (hp : u.g.pgc = false) (hplot : u.g.plot < 384) (h : groupRegister s u n = some x) :
    s.srValue u n = BitVec.ofNat 64 x := by
  unfold groupRegister at h
  split at h
  case h_29 => cases h
  all_goals cases h
  case h_22.refl =>
    simp only [State.srValue, hp, State.uTeam]
    cases (s.team u.g.team).trapRec <;> simp
  all_goals simp [State.srValue, hp, plotQuad_eq, plotDie_eq hplot, State.uTeam, State.tick, State.plotCycle, ctxReg]

/-- Settles O26: `srd` writes what it reads, `swr` changes the register it names, `mark` adds its record. -/
theorem specialRegisters : Obligations.SpecialRegisters := by
  refine fun u s => ⟨fun d r h => ?_, fun n x => srValue_groupRegister, State.fqPop_none, fun a r h => ?_, fun a n => mark_traces⟩
  · obtain ⟨t, ht, hl⟩ := srd_writes h
    refine ⟨t, ht, ?_⟩
    unfold State.srdRead at hl
    split
    · next hr => rwa [if_pos hr] at hl
    · next hr =>
      rw [if_neg hr] at hl
      split
      · next hs =>
        rw [if_pos (by simp [hs])] at hl
        exact ⟨_, hl⟩
      · next hs => rwa [if_neg (by simpa using hs)] at hl
  · have hx : ∃ t, exec (.swr a r) s = .next t := ⟨_, issue_own h rfl rfl _⟩
    obtain ⟨t, ht⟩ := hx
    have same {P : State → Prop} (hP : ∃ t', exec (.swr a r) s = .next t' ∧ P t') : P t := by
      obtain ⟨t', ht', hP⟩ := hP
      cases ht.symm.trans ht'
      exact hP
    refine ⟨t, ht, ?_, ?_, ?_, ?_, ?_⟩
    · rintro rfl
      exact same (swr_fpstat h)
    · rintro rfl
      exact same (swr_modelCap h)
    · rintro rfl
      exact same (swr_leaseMargin h)
    · rintro rfl
      exact same (swr_fqres h)
    · rintro rfl
      exact same (swr_frameCtl h)

end Sys2Proof.Machine
end

section
/-! PROOFS. The fault queue. -/

namespace Sys2Proof.Machine

set_option Elab.async false
open Claims

/-! ## Memory beyond HBM and below the pool

PGC memory and the windows beside it are no frames: a byte stands at its own place, and a write wakes nothing. -/

/-- The place of a byte that no frame holds. -/
def outsideFrames (a : Nat) : Prop := 2 ^ 39 ≤ a ∧ a < 2 ^ 48

theorem isHbm_outside {a : Nat} (h : outsideFrames a) (s : State) : isHbm s a = false := by
  obtain ⟨hlo, -⟩ := h
  have : s.hbmGib ≤ 288 := by unfold State.hbmGib; split <;> omega
  exact decide_eq_false (by unfold State.hbmFrames; omega)

theorem State.deadAt_outside {a : Nat} (h : outsideFrames a) (s : State) : s.deadAt a = false := by
  simp [State.deadAt, isHbm_outside h]

theorem State.frameHolding_outside {a : Nat} (h : outsideFrames a) (s : State) : s.frameHolding a = none := by
  obtain ⟨-, hhi⟩ := h
  have : isPool a = false := by
    simp only [isPool, Bool.and_eq_false_iff, decide_eq_false_iff_not]
    omega
  simp [State.frameHolding, this]

theorem State.phys_outside {a : Nat} (h : outsideFrames a) (s : State) : s.phys a = a := by
  simp [State.phys, State.frameHolding_outside h]

theorem State.readByte_outside {a : Nat} (h : outsideFrames a) (s : State) : s.readByte a = tabGet 0 s.mem a := by
  simp [State.readByte, State.rawByte, State.phys_outside h, State.deadAt_outside h]

theorem State.writeByte_outside {a : Nat} (h : outsideFrames a) (s : State) (b : Byte) : s.writeByte a b = s.pokeByte a b := by
  simp [State.writeByte, State.wakeFrame, State.markDirty, State.phys_outside h, State.deadAt_outside h, State.frameHolding_outside h]

/-- A write there leaves its bytes at their places and every other byte as it was. -/
theorem State.readByte_writeMem_outside (bs : List Byte) (s : State) {a x : Nat} (ha : outsideFrames a) (hb : a + bs.length ≤ 2 ^ 48) (hx : outsideFrames x) :
    (s.writeMem a bs).readByte x = if a ≤ x ∧ x < a + bs.length then bs.getD (x - a) 0 else s.readByte x := by
  induction bs generalizing s a with
  | nil =>
    rw [if_neg (by simp only [List.length_nil]; omega)]
    rfl
  | cons b l ih =>
    have hpoke : (s.pokeByte a b).readByte x = if x = a then b else s.readByte x := by
      rw [State.readByte_outside hx, State.readByte_outside hx]
      by_cases h : x = a
      · simp [h, State.pokeByte]
      · simp [h, State.pokeByte, tabGet_tabSet_ne]
    show ((s.writeByte a b).writeMem (a + 1) l).readByte x = _
    rw [State.writeByte_outside ha]
    simp only [List.length_cons] at hb ⊢
    by_cases hl : l = []
    · subst hl
      show (s.pokeByte a b).readByte x = _
      rw [hpoke]
      by_cases h : x = a
      · simp [h]
      · rw [if_neg h, if_neg (by simp only [List.length_nil]; omega)]
    · have : 0 < l.length := List.length_pos_iff.2 hl
      obtain ⟨hlo, hhi⟩ := ha
      rw [ih (s.pokeByte a b) ⟨by omega, by omega⟩ (by omega), hpoke]
      by_cases h : x = a
      · rw [if_neg (by omega), if_pos h, if_pos (by omega), h]
        simp
      · by_cases hin : a + 1 ≤ x ∧ x < a + 1 + l.length
        · rw [if_pos hin, if_pos (by omega), show x - a = (x - (a + 1)) + 1 by omega]
          rfl
        · rw [if_neg hin, if_neg h, if_neg (by omega)]

theorem natBytes_length (n v : Nat) : (natBytes n v).length = n := by
  induction n generalizing v with
  | zero => rfl
  | succ n ih => simp [natBytes, ih]

/-- Byte k of a number. -/
theorem natBytes_getD {n k : Nat} (h : k < n) (v : Nat) : (natBytes n v).getD k 0 = BitVec.ofNat 8 (v / 2 ^ (8 * k)) := by
  induction n generalizing k v with
  | zero => omega
  | succ n ih =>
    cases k with
    | zero => simp [natBytes]
    | succ k =>
      show (natBytes n (v / 256)).getD k 0 = _
      rw [ih (by omega), Nat.div_div_eq_div_mul, show 256 = 2 ^ 8 from rfl, ← pow_add]
      congr 3
      omega

/-! ## The fault queue -/

/-- The record that takes a slot. -/
def State.fqRec (s : State) (d : BitVec 256) (g : FqTarget) : FqRec := { data := d, order := s.pgc.fqNext, target := g }

theorem State.fqPlace_pgc (s : State) (i : Nat) (d : BitVec 256) (g : FqTarget) :
    (s.fqPlace i d g).pgc = { s.pgc with fq := tabPut s.pgc.fq i (s.fqRec d g), fqNext := s.pgc.fqNext + 1 } :=
  (State.writeMem_onlyMemory _ _ _).field (fun x => x.pgc) fun _ _ _ _ _ _ _ _ _ => rfl

/-- A record stands in PGC memory too (R334). -/
theorem State.fqPlace_memory (s : State) {i : Nat} (hi : i < 1024) (d : BitVec 256) (g : FqTarget) {k : Nat} (hk : k < 32) :
    (s.fqPlace i d g).readByte (0x00F800080000 + 32 * i + k) = BitVec.ofNat 8 (d.toNat / 2 ^ (8 * k)) := by
  unfold State.fqPlace
  rw [State.readByte_writeMem_outside _ _ ⟨by omega, by omega⟩ (by rw [natBytes_length]; omega) ⟨by omega, by omega⟩, natBytes_length,
    if_pos (by omega), Nat.add_sub_cancel_left, natBytes_getD hk]

/-- The lowest slot that holds no record. -/
theorem fqFree_lowest {q : Tab FqRec} {i : Nat} (hi : i < 1024) (hn : tabFind q i = none) (hlow : ∀ j, j < i → (tabFind q j).isSome = true) :
    fqFree q = some i := by
  unfold fqFree
  rw [List.find?_range_eq_some]
  exact ⟨by simp [hn], List.mem_range.2 hi, fun j hj => by simpa [← Option.isSome_iff_ne_none] using hlow j hj⟩

theorem fqFree_full {q : Tab FqRec} (h : ∀ j, j < 1024 → (tabFind q j).isSome = true) : fqFree q = none := by
  unfold fqFree
  rw [List.find?_eq_none]
  intro j hj
  simpa [← Option.isSome_iff_ne_none] using h j (List.mem_range.1 hj)

/-- A record takes the lowest free slot, in the queue and in PGC memory. -/
theorem enqueue_places {s : State} {f : FqFields} {g : FqTarget} {i : Nat} (hw : s.pgc.fqWait = []) (hi : i < 1024) (hn : tabFind s.pgc.fq i = none)
    (hlow : ∀ j, j < i → (tabFind s.pgc.fq j).isSome = true) :
    ∃ t r, s.enqueue f g = t ∧ tabFind t.pgc.fq i = some r ∧ r.data = s.fqPack f ∧ r.target = g ∧ r.taken = false ∧
      (∀ j, j ≠ i → tabFind t.pgc.fq j = tabFind s.pgc.fq j) ∧ (∀ e ∈ s.pgc.fq, e.2.order < s.pgc.fqNext → e.2.order < r.order) ∧
      ∀ k, k < 32 → t.readByte (0x00F800080000 + 32 * i + k) = BitVec.ofNat 8 ((s.fqPack f).toNat / 2 ^ (8 * k)) := by
  have he : s.enqueue f g = s.fqPlace i (s.fqPack f) g := by simp [State.enqueue, hw, fqFree_lowest hi hn hlow]
  refine ⟨_, s.fqRec (s.fqPack f) g, he, ?_, rfl, rfl, rfl, fun j hj => ?_, fun e _ h => h, fun k hk => s.fqPlace_memory hi _ _ hk⟩
  · rw [State.fqPlace_pgc]
    exact tabFind_tabPut_same _ _ _
  · rw [State.fqPlace_pgc]
    exact tabFind_tabPut_ne _ _ hj

/-- While the queue is full a request waits behind those that wait (R334). -/
theorem enqueue_waits {s : State} {f : FqFields} {g : FqTarget} (h : s.pgc.fqWait ≠ [] ∨ ∀ j, j < 1024 → (tabFind s.pgc.fq j).isSome = true) :
    s.enqueue f g = { s with pgc := { s.pgc with fqWait := s.pgc.fqWait ++ [(f, g)] } } := by
  have hnone : (if s.pgc.fqWait.isEmpty then fqFree s.pgc.fq else none) = none := by
    rcases h with h | h
    · rw [if_neg (by simpa using h)]
    · rw [fqFree_full h, ite_self]
  unfold State.enqueue
  rw [hnone]
  rfl

/-- The queue with a slot that holds no record. -/
def State.fqFreed (s : State) (i : Nat) : State := { s with pgc := { s.pgc with fq := tabDel s.pgc.fq i } }

/-- With no request that waits the slot is free. -/
theorem fqRelease_frees {s : State} (i : Nat) (h : s.pgc.fqWait = []) : s.fqRelease i = s.fqFreed i := by
  show (match (s.fqFreed i).pgc.fqWait with | (f, g) :: rest => _ | [] => s.fqFreed i) = _
  rw [show (s.fqFreed i).pgc.fqWait = [] from h]

/-- The oldest request that waits takes a slot that falls free. -/
theorem fqRelease_takes {s : State} {f : FqFields} {g : FqTarget} {l : List (FqFields × FqTarget)} (i : Nat) (h : s.pgc.fqWait = (f, g) :: l) :
    ∃ t r, s.fqRelease i = t ∧ tabFind t.pgc.fq i = some r ∧ r.data = s.fqPack f ∧ r.target = g ∧ r.taken = false ∧ t.pgc.fqWait = l := by
  have he : s.fqRelease i = ((s.fqFreed i).modPgc fun p => { p with fqWait := l }).fqPlace i (s.fqPack f) g := by
    have hw : (s.modPgc fun p => { p with fq := tabDel p.fq i }).pgc.fqWait = (f, g) :: l := h
    simp only [State.fqRelease, hw]
    rfl
  refine ⟨_, ((s.fqFreed i).modPgc fun p => { p with fqWait := l }).fqRec (s.fqPack f) g, he, ?_, rfl, rfl, rfl, ?_⟩
  · rw [State.fqPlace_pgc]
    exact tabFind_tabPut_same _ _ _
  · rw [State.fqPlace_pgc]
    rfl

/-! ### FQPOP -/

/-- A member whose key is below every other's is the least. -/
theorem leastBy_strict {α : Type} {key : α → Nat} {l : List α} {a : α} (ha : a ∈ l) (hlt : ∀ b ∈ l, b ≠ a → key a < key b) : leastBy key l = some a := by
  obtain ⟨m, hm, hin, hle⟩ := leastBy_least key l (List.ne_nil_of_mem ha)
  by_cases h : m = a
  · rw [hm, h]
  · have h1 := hlt m hin h
    have h2 := hle a ha
    omega

/-- A sorted table lists one entry under a key. -/
theorem tabFind_of_mem {α : Type} {t : Tab α} (h : tabSorted t = true) {k : Nat} {a : α} (ha : (k, a) ∈ t) : tabFind t k = some a := by
  induction t with
  | nil => cases ha
  | cons e t ih =>
    obtain ⟨j, b⟩ := e
    obtain ⟨hlt, ht⟩ := tabSorted_cons.1 h
    rcases List.mem_cons.1 ha with he | ha
    · cases he
      simp [tabFind]
    · have hj : j ≠ k := Nat.ne_of_lt (hlt _ ha)
      simp [tabFind, hj, ih ht ha]

/-- FQPOP takes the oldest record not yet taken (R335). -/
theorem fqPop_oldest {s : State} {i : Nat} {r : FqRec} (hr : (i, r) ∈ s.pgc.fq) (hsort : tabSorted s.pgc.fq = true) (ht : r.taken = false)
    (hold : ∀ e ∈ s.pgc.fq, e.2.taken = false → e.1 ≠ i → r.order < e.2.order) :
    s.fqPop = ({ s with pgc := { s.pgc with fq := tabPut s.pgc.fq i { r with taken := true } } }, BitVec.ofNat 64 (2 ^ 63 + i)) := by
  have hleast : s.fqOldest = some (i, r) := by
    refine leastBy_strict (List.mem_filter.2 ⟨hr, by simp [ht]⟩) fun e he hne => ?_
    obtain ⟨hin, htk⟩ := List.mem_filter.1 he
    refine hold e hin (by simpa using htk) fun hk => hne ?_
    obtain ⟨k, q⟩ := e
    subst hk
    have := (tabFind_of_mem hsort hin).symm.trans (tabFind_of_mem hsort hr)
    cases this
    rfl
  simp only [State.fqPop, hleast]
  rfl

/-! ### Resolutions -/

/-- The outcome that each resolving step carries (R335); close acts as outcome 1. -/
def fqresSteps : List (Instr × Nat) :=
  [(.fqresReplay, 0), (.fqresPage, 1), (.fqresLease, 2), (.fqresPoolLost, 3), (.fqresProt, 4), (.fqresChecksum, 5), (.fqresClose, 1)]

theorem exec_fqres {i : Instr} {out : Nat} (h : (i, out) ∈ fqresSteps) (s : State) : exec i s = .next (s.resolve out) := by
  simp only [fqresSteps, List.mem_cons, Prod.mk.injEq, List.not_mem_nil, or_false] at h
  rcases h with ⟨rfl, rfl⟩ | ⟨rfl, rfl⟩ | ⟨rfl, rfl⟩ | ⟨rfl, rfl⟩ | ⟨rfl, rfl⟩ | ⟨rfl, rfl⟩ | ⟨rfl, rfl⟩ <;> rfl

section
variable {s : State} {out : Nat} {r : FqRec}

/-- A resolution of a slot frees it, and its answer goes to the unit that the record names. -/
theorem resolve_slot (hf : s.ev.flag = false) (hr : tabFind s.pgc.fq s.ev.a = some r) (hw : s.pgc.fqWait = []) :
    s.resolve out = (s.fqFreed s.ev.a).answer r out s.ev.b := by
  simp [State.resolve, hf, hr, fqRelease_frees _ hw]

/-- One for a slot that holds no record does nothing. -/
theorem resolve_empty (hf : s.ev.flag = false) (hr : tabFind s.pgc.fq s.ev.a = none) : s.resolve out = s := by
  simp [State.resolve, hf, hr]

/-- The state in which an answer has arrived. -/
def State.arrived (s : State) (i : Nat) : State := { s with pgc := { s.pgc with answers := tabDel s.pgc.answers i } }

/-- At its arrival it acts. -/
theorem resolve_arrived (hf : s.ev.flag = true) (hr : tabFind s.pgc.answers s.ev.a = some r) :
    s.resolve out = (s.arrived s.ev.a).resolved r out s.ev.b := by
  simp only [State.resolve, hf, if_true, hr]
  rfl

theorem resolve_unknown (hf : s.ev.flag = true) (hr : tabFind s.pgc.answers s.ev.a = none) : s.resolve out = s := by
  simp [State.resolve, hf, hr]

theorem resolved_group {gid op : Nat} (h : r.target = .group gid op) (c : Nat) : s.resolved r out c = s.groupResolved gid op r.data out c := by
  simp only [State.resolved, h]

theorem answer_info (h : r.target = .info) (c : Nat) : s.answer r out c = s := by
  simp [State.answer, State.resolvesAt, State.resolved, h]

/-- A BINV that waited for its record goes on. -/
theorem answer_binv {id : Nat} (h : r.target = .binv id) (c : Nat) (b : Nat × Nat × Nat) :
    b ∈ (s.answer r out c).pgc.blocked ↔ b ∈ s.pgc.blocked ∧ b.2.2 ≠ id := by
  simp [State.answer, State.resolvesAt, State.resolved, h]

/-- An answer for a group takes the way to its plot (R415). -/
theorem answer_group {gid op n : Nat} (h : r.target = .group gid op) (hn : s.way? (384 + s.pgc.serving) (s.group gid).plot = some n) (c : Nat) :
    s.answer r out c =
      (s.bump.modPgc fun x => { x with answers := tabPut x.answers s.nextId r }).after n (fqresStep out) { a := s.nextId, b := c, flag := true } := by
  simp only [State.answer, State.resolvesAt, h, hn]

/-- Without a way it is dropped (R16). -/
theorem answer_dropped {gid op : Nat} (h : r.target = .group gid op) (hn : s.way? (384 + s.pgc.serving) (s.group gid).plot = none) (c : Nat) :
    ∃ p, s.answer r out c = s.dropAt p := by
  refine ⟨(entryPort (384 + s.pgc.serving) (s.group gid).plot).1, ?_⟩
  simp only [State.answer, State.resolvesAt, h, hn]

end

/-- The class and cause of an outcome (R335, R340). -/
theorem outcomeFailure_cls {i : Instr} {out : Nat} (h : (i, out) ∈ fqresSteps) (d : BitVec 256) (c : Nat) :
    (outcomeFailure d out c).cls = [4, 4, 5, 6, 7, 21].getD out 0 := by
  simp only [fqresSteps, List.mem_cons, Prod.mk.injEq, List.not_mem_nil, or_false] at h
  rcases h with ⟨-, rfl⟩ | ⟨-, rfl⟩ | ⟨-, rfl⟩ | ⟨-, rfl⟩ | ⟨-, rfl⟩ | ⟨-, rfl⟩ | ⟨-, rfl⟩ <;> rfl

section
variable {s : State} {gid op slot : Nat} {g : Group} {o : MemOp} {e : LogEntry}

/-- The failure that an entry takes from its outcome keeps its own place and time (R348). -/
def LogEntry.failure (e : LogEntry) (d : BitVec 256) (out c : Nat) : Failure :=
  { outcomeFailure d out c with at? := e.f.at?, addr := e.f.addr, tick := e.f.tick }

/-- Outcomes 1 to 5 make the group's entry TRAPPED (R344). -/
theorem groupResolved_traps (hg : tabFind s.groups gid = some g) (ho : tabFind g.ops op = some o) (hst : o.st = .logged slot)
    (he : tabFind g.log slot = some e) (hp : e.st = .pending) (d : BitVec 256) {out : Nat} (hout : out ≠ 0) (c : Nat) :
    s.groupResolved gid op d out c =
      (s.modGroup gid fun x => { x with log := tabPut x.log slot { e with st := .trapped, f := e.failure d out c } }).trapGroup gid (e.failure d out c) slot
        o.idx o.clause := by
  cases o
  subst hst
  simp [State.groupResolved, State.group_eq hg, ho, he, hp, hout, LogEntry.failure]

/-- Outcome 0 makes it REPLAY. -/
theorem groupResolved_replays (hg : tabFind s.groups gid = some g) (ho : tabFind g.ops op = some o) (hst : o.st = .logged slot)
    (he : tabFind g.log slot = some e) (hp : e.st = .pending) (d : BitVec 256) (c : Nat) :
    s.groupResolved gid op d 0 c = (s.modGroup gid fun x => { x with log := tabPut x.log slot { e with st := .replay } }).tryReplay gid := by
  cases o
  subst hst
  simp [State.groupResolved, State.group_eq hg, ho, he, hp]

end

/-- What each resolving step does: nothing for an empty slot, else what the record's unit waits for. -/
theorem fqres_resolves {i : Instr} {out : Nat} (hi : (i, out) ∈ fqresSteps) (s : State) :
    (s.ev.flag = false → tabFind s.pgc.fq s.ev.a = none → exec i s = .next s) ∧
    (∀ r, s.ev.flag = false → tabFind s.pgc.fq s.ev.a = some r → s.pgc.fqWait = [] →
      let m : State := { s with pgc := { s.pgc with fq := tabDel s.pgc.fq s.ev.a } }
      (r.target = .info → exec i s = .next m) ∧
      (∀ id, r.target = .binv id → ∃ t, exec i s = .next t ∧ ∀ b, b ∈ t.pgc.blocked ↔ b ∈ s.pgc.blocked ∧ b.2.2 ≠ id) ∧
      (∀ gid op, r.target = .group gid op →
        (∀ n, s.way? (384 + s.pgc.serving) (s.group gid).plot = some n → exec i s =
          .next ((m.bump.modPgc (fun x => { x with answers := tabPut x.answers s.nextId r })).after n (fqresStep out) { a := s.nextId, b := s.ev.b, flag := true })) ∧
        (s.way? (384 + s.pgc.serving) (s.group gid).plot = none → ∃ p, exec i s = .next (m.dropAt p)))) ∧
    (s.ev.flag = true → tabFind s.pgc.answers s.ev.a = none → exec i s = .next s) ∧
    (∀ r, s.ev.flag = true → tabFind s.pgc.answers s.ev.a = some r →
      let m : State := { s with pgc := { s.pgc with answers := tabDel s.pgc.answers s.ev.a } }
      let f := outcomeFailure r.data out s.ev.b
      f.cls = [4, 4, 5, 6, 7, 21].getD out 0 ∧ (out ≠ 0 → f.cause = s.ev.b) ∧
      (∀ gid op g o slot e, r.target = .group gid op → tabFind s.groups gid = some g → tabFind g.ops op = some o → o.st = .logged slot →
        tabFind g.log slot = some e → e.st = .pending →
        (out ≠ 0 → let ff : Failure := { f with at? := e.f.at?, addr := e.f.addr, tick := e.f.tick }
          exec i s = .next ((m.modGroup gid (fun x => { x with log := tabPut x.log slot { e with st := .trapped, f := ff } })).trapGroup gid ff slot o.idx o.clause)) ∧
        (out = 0 → exec i s = .next ((m.modGroup gid (fun x => { x with log := tabPut x.log slot { e with st := .replay } })).tryReplay gid)))) := by
  rw [exec_fqres hi]
  refine ⟨fun hf hr => by rw [resolve_empty hf hr], fun r hf hr hw => ?_, fun hf hr => by rw [resolve_unknown hf hr], fun r hf hr => ?_⟩
  · rw [resolve_slot hf hr hw]
    refine ⟨fun ht => by rw [answer_info ht]; rfl, fun id ht => ⟨_, rfl, answer_binv (s := s.fqFreed s.ev.a) ht _⟩, fun gid op ht => ⟨fun n hn => ?_, fun hn => ?_⟩⟩
    · rw [answer_group (s := s.fqFreed s.ev.a) ht hn]
      rfl
    · obtain ⟨p, hp⟩ := answer_dropped (s := s.fqFreed s.ev.a) (out := out) ht hn s.ev.b
      exact ⟨p, by rw [hp]; rfl⟩
  · rw [resolve_arrived hf hr]
    refine ⟨outcomeFailure_cls hi _ _, fun _ => rfl, fun gid op g o slot e ht hg ho hst he hp => ⟨fun hout => ?_, fun hout => ?_⟩⟩
    · rw [resolved_group ht, groupResolved_traps (s := s.arrived s.ev.a) hg ho hst he hp _ hout]
      rfl
    · subst hout
      rw [resolved_group ht, groupResolved_replays (s := s.arrived s.ev.a) hg ho hst he hp]
      rfl

/-- Settles O46: a record takes a slot or waits, FQPOP takes the oldest, and a resolution frees the slot and answers its unit. -/
theorem faultQueue : Obligations.FaultQueue := by
  refine ⟨fun s f g i => enqueue_places, fun s f g => enqueue_waits, fun s i f g l => fqRelease_takes i,
    fun s i r hr hs ht hold => ⟨fqPop_oldest hr hs ht hold, rfl⟩, fun s r hf hr ht hw => ?_, fun i out hi s => fqres_resolves hi s⟩
  have freed {i : Instr} {out : Nat} (hi : (i, out) ∈ fqresSteps) : exec i s = .next (s.fqFreed s.ev.a) := by
    rw [exec_fqres hi, resolve_slot hf hr hw, answer_info ht]
  exact ⟨freed (out := 0) (by decide), freed (out := 1) (by decide), freed (out := 2) (by decide), freed (out := 3) (by decide),
    freed (out := 4) (by decide), freed (out := 5) (by decide), freed (out := 1) (by decide)⟩

end Sys2Proof.Machine
end

section
/-! PROOFS. The operand log. -/

namespace Sys2Proof.Machine

set_option Elab.async false
open Claims

/-! ## Registers that a change of a group keeps -/

theorem sameRegisters_refl (g : Group) : SameRegisters g g := ⟨rfl, rfl, rfl, rfl, rfl, rfl, rfl⟩

/-- A change of one group that keeps its registers keeps every group's. -/
theorem allRegisters_modGroup (s : State) (gid : Nat) {f : Group → Group} (hf : ∀ g, SameRegisters g (f g)) : AllRegisters s (s.modGroup gid f) := by
  intro k
  by_cases hk : k = gid
  · subst hk
    cases hg : tabFind s.groups k with
    | none =>
      have : (s.modGroup k f).group k = s.group k := by simp [State.group, tabGet, hg]
      exact this ▸ sameRegisters_refl _
    | some g =>
      rw [State.group_eq hg, State.group_eq (s := s.modGroup k f) (g := f g) (by simp [hg])]
      exact hf g
  · have : (s.modGroup gid f).group k = s.group k := by simp [State.group, tabGet, tabFind_tabUpd_ne _ _ hk]
    exact this ▸ sameRegisters_refl _

theorem allRegisters_modOp (s : State) (gid op : Nat) (f : MemOp → MemOp) : AllRegisters s (s.modOp gid op f) := by
  refine allRegisters_modGroup s gid fun g => ?_
  split <;> exact sameRegisters_refl g

theorem allRegisters_of_groups {s t : State} (h : t.groups = s.groups) : AllRegisters s t := by
  intro k
  have : t.group k = s.group k := by simp [State.group, h]
  exact this ▸ sameRegisters_refl _

theorem allRegisters_trans {s t v : State} (a : AllRegisters s t) (b : AllRegisters t v) : AllRegisters s v := by
  intro k
  obtain ⟨av, as, ak, af, ad, afp, ar⟩ := a k
  obtain ⟨bv, bs, bk, bf, bd, bfp, br⟩ := b k
  exact ⟨bv.trans av, bs.trans as, bk.trans ak, bf.trans af, bd.trans ad, bfp.trans afp, br.trans ar⟩

/-! ## A failed access -/

/-- An access whose turn it is is performed now. -/
theorem inTurn_now {s : State} {gid op : Nat} {g : Group} {o : MemOp} (hg : tabFind s.groups gid = some g) (ho : tabFind g.ops op = some o)
    (hm : s.opMoving gid o = false) (hb : s.behindEarlier gid op o = false) (hs : s.shareAway gid o = false) (hf : s.fillsWait gid o = 0) (again : Instr)
    (next : MemOp → State) : s.inTurn gid op again next = next o := by
  simp [State.inTurn, State.group_eq hg, ho, hm, hb, hs, hf]

/-- The words of `isAccessWord` perform as accesses. -/
theorem performOp_access {o : MemOp} (h : isAccessWord o.word = true) (s : State) (gid op : Nat) : s.performOp gid op o = s.performAccess gid op o := by
  cases o with
  | mk word =>
    unfold isAccessWord at h
    dsimp only at h
    split at h
    on_goal 34 => cases h
    all_goals rfl

/-- A check that fails at the performance fails the access as a whole. -/
theorem performAccess_failed {s s1 : State} {gid op : Nat} {o : MemOp} {f : Failure} {ps : List (Elem × Place)} (hst : o.st = .issued)
    (hb : s.behindEarlier gid op o = false) (hm : s.opMoving gid o = false) (hc : s.checkOp gid o = (s1, some f, ps)) :
    s.performAccess gid op o = s1.opFailed gid op f := by
  simp [State.performAccess, hst, hb, hm, hc]

/-- The failure as an entry keeps it: with the tick of its first failure. -/
def Failure.at (f : Failure) (tick : Nat) : Failure := { f with tick := some (f.tick.getD tick) }

/-- The state in which an operation stands in an entry of its group's log. -/
def State.enterLog (s : State) (gid op slot : Nat) (e : LogEntry) : State :=
  (s.modGroup gid fun x => { x with log := tabPut x.log slot e }).modOp gid op fun y => { y with st := .logged slot }

section
variable {s : State} {gid op slot : Nat} {g : Group} {o : MemOp} {f : Failure}

/-- A failure that no entry holds yet takes the lowest free one. -/
theorem opFailed_logs (hg : tabFind s.groups gid = some g) (ho : tabFind g.ops op = some o) (hst : o.st = .issued) (hp : g.pgc = false)
    (hl : logFree g = some slot) : s.opFailed gid op f = s.bump.logFailure gid op slot s.nextId f := by
  simp [State.opFailed, State.group_eq hg, ho, hst, hp, hl]

/-- The record of a translation failure (R334). -/
def State.logRecord (s : State) (g : Group) (o : MemOp) (f : Failure) : FqFields :=
  { kind := kindOfCls f.cls, ctx := g.ctx, src := 0, acc := opAcc o.word, gslot := g.slot, plot := g.plot, team := (s.team g.team).serial,
    detail := f.info.toNat % 256, lease := f.info.toNat / 256 % 4096, addr := f.addr.toNat }

/-- A translation failure is PENDING and its record is on its way (R344). -/
theorem logFailure_pending (hg : tabFind s.groups gid = some g) (ho : tabFind g.ops op = some o) (hc : f.cause = 18) (n : Nat) :
    s.logFailure gid op slot n f =
      (s.enterLog gid op slot { op := op, st := .pending, order := n, f := f.at s.tick }).report (s.logRecord g o f) (.group gid op) := by
  simp [State.logFailure, State.group_eq hg, ho, hc, State.enterLog, State.logRecord, Failure.at]

/-- Any other failure is TRAPPED with a trap (R344). -/
theorem logFailure_trapped (hg : tabFind s.groups gid = some g) (ho : tabFind g.ops op = some o) (hc : f.cause ≠ 18) (n : Nat) :
    s.logFailure gid op slot n f =
      (s.enterLog gid op slot { op := op, st := .trapped, order := n, f := f.at s.tick }).trapGroup gid (f.at s.tick) slot o.idx o.clause := by
  simp [State.logFailure, State.group_eq hg, ho, hc, State.enterLog, Failure.at]

/-- The group whose operation stands in an entry. -/
def Group.withEntry (g : Group) (op slot : Nat) (o : MemOp) (e : LogEntry) : Group :=
  { g with log := tabPut g.log slot e, ops := tabPut g.ops op { o with st := .logged slot } }

theorem enterLog_group (hg : tabFind s.groups gid = some g) (ho : tabFind g.ops op = some o) (e : LogEntry) :
    tabFind (s.enterLog gid op slot e).groups gid = some (g.withEntry op slot o e) :=
  State.modOp_found (s := s.modGroup gid fun x => { x with log := tabPut x.log slot e }) (g := { g with log := tabPut g.log slot e }) (by simp [hg]) ho _

theorem enterLog_others (e : LogEntry) : SameGroupsBut gid s (s.enterLog gid op slot e) := by
  intro k hk
  simp [State.enterLog, State.modOp, tabFind_tabUpd_ne _ _ hk]

theorem enterLog_registers (e : LogEntry) : AllRegisters s (s.enterLog gid op slot e) :=
  allRegisters_trans (allRegisters_modGroup s gid (f := fun x => { x with log := tabPut x.log slot e }) fun g => sameRegisters_refl g)
    (allRegisters_modOp _ _ _ _)

end

/-- A record sent changes no group, no team and no memory. -/
theorem report_same (s : State) (r : FqFields) (t : FqTarget) :
    (s.report r t).groups = s.groups ∧ (s.report r t).teams = s.teams ∧ SameMemory s (s.report r t) := by
  unfold State.report
  split <;> exact ⟨rfl, rfl, fun _ => rfl, fun _ => rfl, fun _ => rfl⟩

/-- Where there is a way to the PGC the record is on it. -/
theorem report_onRoad {s : State} {r : FqFields} {n : Nat} (h : s.way? r.plot (384 + s.pgc.serving) = some n) (t : FqTarget) :
    (s.cycle + n, r, t) ∈ (s.report r t).pgc.fqRoad := by
  simp [State.report, h]

section
variable {s s1 : State} {gid op slot : Nat} {g : Group} {o : MemOp} {ps : List (Elem × Place)} {f : Failure}

/-- The performance of an access that a check refuses. -/
theorem memoryAccessPerform_fails (hev : s.ev = { a := gid, b := op }) (hg : tabFind s.groups gid = some g) (ho : tabFind g.ops op = some o)
    (hst : o.st = .issued) (hw : isAccessWord o.word = true) (hb : s.behindEarlier gid op o = false) (hm : s.opMoving gid o = false)
    (hs : s.shareAway gid o = false) (hfw : s.fillsWait gid o = 0) (hc : s.checkOp gid o = (s1, some f, ps)) (hgr : s1.groups = s.groups)
    (hp : g.pgc = false) (hl : logFree g = some slot) :
    exec .memoryAccessPerform s = .next (s1.bump.logFailure gid op slot s1.nextId f) := by
  have hx : exec .memoryAccessPerform s = .next (s.inTurn gid op .memoryAccessPerform fun o => s.performOp gid op o) := by
    show execMemoryAccessPerform s = _
    simp [execMemoryAccessPerform, hev]
  rw [hx, inTurn_now hg ho hm hb hs hfw, performOp_access hw, performAccess_failed hst hb hm hc, opFailed_logs (hgr ▸ hg) ho hst hp hl]

/-- A translation failure leaves the group's registers and memory as they were, its entry PENDING and its record on the way. -/
theorem failed_pending (hg : tabFind s.groups gid = some g) (ho : tabFind g.ops op = some o) (hst : o.st = .issued) (hgr : s1.groups = s.groups)
    (hf : f.cause = 18) :
    let t := s1.bump.logFailure gid op slot s1.nextId f
    tabFind (t.group gid).log slot = some { op := op, st := .pending, order := s1.nextId, f := { f with tick := some (f.tick.getD s1.tick) } } ∧
      (∃ o', tabFind (t.group gid).ops op = some o' ∧ { o' with st := .issued } = o ∧ o'.st = .logged slot) ∧
      AllRegisters s t ∧ (∀ n, (t.group gid).readF n = g.readF n) ∧ SameMemory s1 t ∧ t.teams = s1.teams ∧ SameGroupsBut gid s t ∧
      (∀ n, s1.way? g.plot (384 + s1.pgc.serving) = some n → ∃ r, (s1.cycle + n, r, FqTarget.group gid op) ∈ t.pgc.fqRoad) := by
  have hg1 : tabFind s1.bump.groups gid = some g := by rw [← hg, ← hgr]; rfl
  intro t
  have ht : t = _ := logFailure_pending (slot := slot) hg1 ho hf s1.nextId
  generalize he : ({ op := op, st := .pending, order := s1.nextId, f := f.at s1.bump.tick } : LogEntry) = e at ht
  generalize hr : s1.bump.logRecord g o f = r at ht
  obtain ⟨hrg, hrt, hrm⟩ := report_same (s1.bump.enterLog gid op slot e) r (.group gid op)
  have hgroup : tabFind t.groups gid = some (g.withEntry op slot o e) := by rw [ht, hrg]; exact enterLog_group hg1 ho e
  rw [State.group_eq hgroup]
  refine ⟨?_, ⟨{ o with st := .logged slot }, tabFind_tabPut_same _ _ _, by rw [← hst], rfl⟩, ?_, fun _ => rfl, ?_, ?_, ?_, fun n hn => ⟨r, ?_⟩⟩
  · rw [← he]
    exact tabFind_tabPut_same _ _ _
  · have h0 : AllRegisters s s1.bump := allRegisters_of_groups hgr
    have h1 : AllRegisters (s1.bump.enterLog gid op slot e) t := allRegisters_of_groups (by rw [ht, hrg])
    exact allRegisters_trans h0 (allRegisters_trans (enterLog_registers e) h1)
  · have h0 : SameMemory s1 (s1.bump.enterLog gid op slot e) := ⟨fun _ => rfl, fun _ => rfl, fun _ => rfl⟩
    rw [ht]
    exact h0.trans hrm
  · rw [ht, hrt]
    rfl
  · intro k hk
    rw [ht, hrg, enterLog_others e k hk, ← hgr]
    rfl
  · rw [ht]
    refine report_onRoad (s := s1.bump.enterLog gid op slot e) ?_ _
    rw [← hr]
    exact hn

end

/-! ## Replay -/

section
variable {s : State} {g : Group} {k : Nat} {e : LogEntry} {o : MemOp}

/-- The oldest entry in REPLAY is performed again where nothing holds it (R345). -/
theorem operandLogReplay_performs (hg : tabFind s.groups s.ev.a = some g) (hl : leastBy (fun (x : Nat × LogEntry) => x.2.order) g.log = some (k, e))
    (he : e.st = .replay) (ha : g.loc = .active) (ho : tabFind g.ops e.op = some o) (hm : s.opMoving s.ev.a o = false) (hs : s.shareAway s.ev.a o = false) :
    exec .operandLogReplay s = .next (s.performOp s.ev.a e.op o) := by
  show execOperandLogReplay s = _
  simp [execOperandLogReplay, State.group_eq hg, hl, he, ha, ho, hm, hs]

/-- It waits for the page that a `pmove` holds or for its team's share (R338, R355). -/
theorem operandLogReplay_waits (hg : tabFind s.groups s.ev.a = some g) (hl : leastBy (fun (x : Nat × LogEntry) => x.2.order) g.log = some (k, e))
    (he : e.st = .replay) (ha : g.loc = .active) (ho : tabFind g.ops e.op = some o) (h : s.opMoving s.ev.a o = true ∨ s.shareAway s.ev.a o = true) :
    ∃ t, exec .operandLogReplay s = .next t ∧ AllRegisters s t ∧ SameMemory s t ∧
      InAgenda t (s.cycle + 1) .operandLogReplay { a := s.ev.a, b := e.op } := by
  have hx : exec .operandLogReplay s = .next (if s.opMoving s.ev.a o then (s.markMoving s.ev.a e.op true).after 1 .operandLogReplay { a := s.ev.a, b := e.op }
      else if s.shareAway s.ev.a o then s.after 1 .operandLogReplay { a := s.ev.a, b := e.op } else s.performOp s.ev.a e.op o) := by
    show execOperandLogReplay s = _
    simp [execOperandLogReplay, State.group_eq hg, hl, he, ha, ho]
  by_cases hm : s.opMoving s.ev.a o = true
  · rw [if_pos hm] at hx
    refine ⟨_, hx, allRegisters_modGroup s s.ev.a fun g => ?_, ⟨fun _ => rfl, fun _ => rfl, fun _ => rfl⟩, State.after_inAgenda _ _ _ _⟩
    split <;> exact sameRegisters_refl g
  · rw [if_neg hm, if_pos (h.resolve_left hm)] at hx
    exact ⟨_, hx, allRegisters_of_groups rfl, ⟨fun _ => rfl, fun _ => rfl, fun _ => rfl⟩, State.after_inAgenda _ _ _ _⟩

theorem operandLogReplay_other (hg : tabFind s.groups s.ev.a = some g) (hl : leastBy (fun (x : Nat × LogEntry) => x.2.order) g.log = some (k, e))
    (he : e.st ≠ .replay) : exec .operandLogReplay s = .next s := by
  show execOperandLogReplay s = _
  simp [execOperandLogReplay, State.group_eq hg, hl, he]

end

/-! ## An entry that `tres` gives up -/

/-- A group that has a bundle left has not exited. -/
theorem Group.not_exited {g : Group} (h : g.frontier ≠ [] ∨ g.clause.isSome = true) : g.exited = false := by
  rcases h with h | h
  · have : g.frontier.isEmpty = false := by simpa using h
    simp [Group.exited, this]
  · have : g.clause.isNone = false := by simpa [← Option.isSome_iff_ne_none] using h
    simp [Group.exited, this]

theorem exitCheck_goesOn {s : State} {gid : Nat} {g : Group} (hg : tabFind s.groups gid = some g) (h : g.exited = false) : s.exitCheck gid = s := by
  simp [State.exitCheck, hg, h]

theorem Group.decF_fields (g : Group) (n : Option Nat) :
    (g.decF n).v = g.v ∧ (g.decF n).s = g.s ∧ (g.decF n).k = g.k ∧ (g.decF n).desc = g.desc ∧ (g.decF n).fpstat = g.fpstat ∧ (g.decF n).rows = g.rows ∧
    (g.decF n).frontier = g.frontier ∧ (g.decF n).clause = g.clause ∧ (g.decF n).log = g.log ∧ (g.decF n).heldFails = g.heldFails := by
  cases n <;> exact ⟨rfl, rfl, rfl, rfl, rfl, rfl, rfl, rfl, rfl, rfl⟩

/-- Counting down a flag. -/
theorem Group.readF_decF (g : Group) (n : Option Nat) (f : Nat) : (g.decF n).readF f = if n = some f then g.readF f - 1 else g.readF f := by
  cases n with
  | none => simp [Group.decF]
  | some k =>
    simp only [Group.decF, Group.readF_writeF, Option.some.injEq]
    by_cases h : f = k
    · simp [h]
    · simp [h, Ne.symm h]

/-- The group without an operation that has ended. -/
def Group.ended (g : Group) (op : Nat) (o : MemOp) : Group := { (g.decF o.flag) with ops := tabDel g.ops op }

/-- The end of an operation that no twin shares, in a group that goes on. -/
theorem endOp_goesOn {s : State} {gid op : Nat} {g : Group} {o : MemOp} (hg : tabFind s.groups gid = some g) (ho : tabFind g.ops op = some o)
    (hf : o.fwd = none) (h : g.frontier ≠ [] ∨ g.clause.isSome = true) : s.endOp gid op = s.modGroup gid fun x => x.ended op o := by
  obtain ⟨-, -, -, -, -, -, hfr, hcl, -⟩ := g.decF_fields o.flag
  have hx : (g.ended op o).exited = false := Group.not_exited (by rw [show (g.ended op o).frontier = g.frontier from hfr, show (g.ended op o).clause = g.clause from hcl]; exact h)
  simp only [State.endOp, State.group_eq hg, ho, hf, Option.bind_some]
  exact exitCheck_goesOn (g := g.ended op o) (by simp [hg, Group.ended]) hx

/-- The last entry of a log falls free: nothing waits for it. -/
theorem logFreed_last {s : State} {gid slot : Nat} {g : Group} {e : LogEntry} (hg : tabFind s.groups gid = some g) (hl : g.log = [(slot, e)])
    (hh : g.heldFails = []) : s.logFreed gid slot = s.modGroup gid fun x => { x with log := tabDel x.log slot } := by
  have hdel : tabDel g.log slot = [] := by rw [hl]; simp [tabDel]
  have hg1 : (s.modGroup gid fun x => { x with log := tabDel x.log slot }).group gid = { g with log := [] } :=
    State.group_eq (by simp [hg, hdel])
  simp only [State.logFreed, hg1, hh]
  simp [State.tryReplay, hg1, leastBy]

/-- The hold that an abandoned operation leaves its group. -/
def Group.holdWithout (g : Group) (op : Nat) : Option Hold :=
  match g.hold with
  | some (.objForm n) => if n = op then none else g.hold
  | some (.ostat n) => if n = op then none else g.hold
  | some (.pubWalk n) => if n = op then none else g.hold
  | some (.mwait ..) => (match tabFind g.ops op with | some { word := .mwait .., .. } => none | _ => g.hold)
  | h => h

/-- The group that an abandoned operation no longer holds. -/
def Group.unheld (op : Nat) (g : Group) : Group := { g with hold := g.holdWithout op }

/-- The group without an entry of its log. -/
def Group.logCleared (slot : Nat) (g : Group) : Group := { g with log := tabDel g.log slot }

/-- The state without what an abandoned operation had entered in its group's hold, the engines and the quads. -/
def State.withoutEntries (s : State) (gid op : Nat) : State :=
  let m := s.modGroup gid (Group.unheld op)
  { m with cmds := m.cmds.filter (fun e => decide (e.2.op ≠ op)),
           quads := m.quads.map (fun q => (q.1, { q.2 with resv := q.2.resv.filter (fun e => decide (e.2.op ≠ op)) })) }

theorem State.withoutEntries_groups (s : State) (gid op : Nat) : (s.withoutEntries gid op).groups = tabUpd s.groups gid (Group.unheld op) := rfl

theorem State.withoutEntries_memory (s : State) (gid op : Nat) : SameMemory s (s.withoutEntries gid op) := ⟨fun _ => rfl, fun _ => rfl, fun _ => rfl⟩

section
variable {s : State} {gid op slot : Nat} {g : Group} {e : LogEntry} {o : MemOp}

theorem opAbandoned_eq (hg : tabFind s.groups gid = some g) (ho : tabFind g.ops op = some o) (hst : o.st = .logged slot) :
    s.opAbandoned gid op = ((s.withoutEntries gid op).endOp gid op).logFreed gid slot := by
  simp only [State.opAbandoned, State.group_eq hg, ho, hst, Option.map_some]
  rfl

/-- An abandoned operation goes with its entry, its entries elsewhere, and nothing else. -/
theorem opAbandoned_last (hg : tabFind s.groups gid = some g) (ho : tabFind g.ops op = some o) (hst : o.st = .logged slot) (hl : g.log = [(slot, e)])
    (hh : g.heldFails = []) (hf : o.fwd = none) (hgo : g.frontier ≠ [] ∨ g.clause.isSome = true) :
    s.opAbandoned gid op = ((s.withoutEntries gid op).modGroup gid fun x => x.ended op o).modGroup gid (Group.logCleared slot) := by
  have h1 : tabFind (s.withoutEntries gid op).groups gid = some (g.unheld op) := by simp [State.withoutEntries_groups, hg]
  obtain ⟨-, -, -, -, -, -, -, -, hlog, hheld⟩ := (g.unheld op).decF_fields o.flag
  have h2 : tabFind ((s.withoutEntries gid op).modGroup gid fun x => x.ended op o).groups gid = some ((g.unheld op).ended op o) := by simp [h1]
  rw [opAbandoned_eq hg ho hst, endOp_goesOn h1 ho hf hgo, logFreed_last h2 (hlog.trans hl) (hheld.trans hh)]
  rfl

/-- The group that an abandoned operation leaves. -/
theorem opAbandoned_group (hg : tabFind s.groups gid = some g) (ho : tabFind g.ops op = some o) (hst : o.st = .logged slot) (hl : g.log = [(slot, e)])
    (hh : g.heldFails = []) (hf : o.fwd = none) (hgo : g.frontier ≠ [] ∨ g.clause.isSome = true) :
    tabFind (s.opAbandoned gid op).groups gid = some (((g.unheld op).ended op o).logCleared slot) ∧ SameGroupsBut gid s (s.opAbandoned gid op) ∧
      SameMemory s (s.opAbandoned gid op) ∧ (s.opAbandoned gid op).teams = s.teams := by
  rw [opAbandoned_last hg ho hst hl hh hf hgo]
  refine ⟨by simp [State.withoutEntries_groups, hg], fun k hk => by simp [State.withoutEntries_groups, tabFind_tabUpd_ne _ _ hk], ?_, rfl⟩
  exact (s.withoutEntries_memory gid op).trans ⟨fun _ => rfl, fun _ => rfl, fun _ => rfl⟩

theorem opAbandoned_leaves (hg : tabFind s.groups gid = some g) (ho : tabFind g.ops op = some o) (hst : o.st = .logged slot) (hl : g.log = [(slot, e)])
    (hh : g.heldFails = []) (hf : o.fwd = none) (hgo : g.frontier ≠ [] ∨ g.clause.isSome = true) :
    let t := s.opAbandoned gid op
    tabFind (t.group gid).ops op = none ∧ (t.group gid).log = [] ∧ SameRegisters' g (t.group gid) ∧
      (∀ n, (t.group gid).readF n = if o.flag = some n then g.readF n - 1 else g.readF n) ∧ (∀ k, k ≠ op → tabFind (t.group gid).ops k = tabFind g.ops k) ∧
      SameGroupsBut gid s t ∧ SameMemory s t ∧ t.teams = s.teams := by
  obtain ⟨hgr, hx, hm, ht⟩ := opAbandoned_group hg ho hst hl hh hf hgo
  obtain ⟨hv, hs, hk, hd, hfp, hr, -, -, hlog, -⟩ := (g.unheld op).decF_fields o.flag
  intro t
  rw [State.group_eq hgr]
  refine ⟨tabFind_tabDel_same _ _, ?_, ⟨hv, hs, hk, hd, hfp, hr⟩, fun n => ?_, fun k hk => tabFind_tabDel_ne _ hk, hx, hm, ht⟩
  · show tabDel ((g.unheld op).decF o.flag).log slot = []
    rw [hlog, show (g.unheld op).log = [(slot, e)] from hl]
    simp [tabDel]
  · exact (g.unheld op).readF_decF o.flag n

end

/-- Settles O32: a failed access stands in the log with none of its effect, is performed again, or goes away with its operation. -/
theorem operandLog : Obligations.OperandLog := by
  refine ⟨fun s s1 gid op slot g o ps f hev hg ho hst hw hb hm hs hfw hc hgr hp hl => ?_, fun s g k e o hg hl => ⟨fun he ha ho => ?_, ?_⟩,
    fun s gid op slot g e o hg ho hst hl hh hf _ hgo => opAbandoned_leaves hg ho hst hl hh hf hgo⟩
  · have hx := memoryAccessPerform_fails hev hg ho hst hw hb hm hs hfw hc hgr hp hl
    refine ⟨fun hf => ⟨_, hx, failed_pending hg ho hst hgr hf⟩, fun hf => hx.trans ?_⟩
    rw [logFailure_trapped (s := s1.bump) (hgr ▸ hg) ho hf]
    rfl
  · exact ⟨operandLogReplay_performs hg hl he ha ho, operandLogReplay_waits hg hl he ha ho⟩
  · exact operandLogReplay_other hg hl

end Sys2Proof.Machine
end

section
/-! PROOFS. The word of the unit whose turn it is. -/

namespace Sys2Proof.Machine

set_option Elab.async false

/-! ## The word of the unit whose turn it is -/

section
variable {s : State} {p gid : Nat} {rest : List Nat} {g : Group} {c : Clause} {i : Instr}

/-- The group in the slot of the unit whose turn it is, with a clause in progress, is at issue. -/
theorem State.issuer_slot (ht : s.todo = p :: rest) (hs : s.slotGroup p = some gid) (hg : tabFind s.groups gid = some g) (hc : g.clause = some c) :
    s.issuer? = some { gid := gid, g := g, c := c } := by
  simp [State.issuer?, ht, hs, hg, hc]

/-- With nothing due, the step is the turn of the next unit. -/
theorem step_turn (hd : s.dueStep = none) (hstop : s.regs.stopped = false) (ht : s.todo = p :: rest) {t : State} (hu : s.unitTurn p = .run t i) :
    step s = exec i t := by
  simp [step, hd, hstop, ht, hu]

theorem State.unitTurn_group (hp : p ≠ 385) (hs : s.slotGroup p = some gid) (hg : tabFind s.groups gid = some g) : s.unitTurn p = s.groupTurn gid g := by
  simp [State.unitTurn, hp, hs, hg]

/-- A group that nothing keeps from issuing goes on with its clause (R52, R54). -/
theorem State.groupTurn_clause (hloc : g.loc = .active) (hh : g.halted = false) (hhold : g.hold = none) (hf : s.faultHeld gid g = false)
    (hb : g.plot < 384 → (s.plot g.plot).blackout < s.cycle ∨ (s.plot g.plot).blackout = 0) (hc : g.clause = some c) :
    s.groupTurn gid g = s.clauseTurn gid g c := by
  have dark : ¬ (g.plot < 384 ∧ s.cycle ≤ (s.plot g.plot).blackout ∧ 0 < (s.plot g.plot).blackout) := by
    rintro ⟨hp, hle, hpos⟩
    have := hb hp
    omega
  simp [State.groupTurn, hloc, dark, hh, hf, hhold, hc]

/-- No swap keeps a word of a plot whose spill engine is idle waiting (R355). -/
theorem State.restoreWait_idle {u : Issuer} (h : (s.plot u.g.plot).spill = .idle) : s.restoreWait u i = false := by simp [State.restoreWait, h]

/-- A context that no debugger owns meets no breakpoint (R398, R403). -/
theorem State.breaks_unowned (h : s.debugOwned g.ctx = false) : s.breaks g c = false := by simp [State.breaks, h]

/-- A clause runs the word that it decodes next (R85). -/
theorem State.clauseTurn_run (hd : s.debugOwned g.ctx = false) (hs : (s.plot g.plot).spill = .idle) (hp : (s.team g.team).paired = false)
    (hi : decode (c.words.drop c.idx) = .ok i) : s.clauseTurn gid g c = .run s i := by
  have wait : s.restoreWait { gid := gid, g := g, c := c } i = false := State.restoreWait_idle hs
  simp [State.clauseTurn, State.breaks_unowned hd, hi, wait, hp]

end

/-- Settles O3: the turn of the next unit is the turn of its group, which is the turn of its clause, which runs the word. -/
theorem stepRunsDecodedWord : Obligations.StepRunsDecodedWord := by
  intro s p rest gid g c i hdue hstop htodo hp hslot hg hc hloc hhalt hhold hfault hdark hpair hdbg hspill hdec
  refine ⟨State.issuer_slot htodo hslot hg hc, step_turn hdue hstop htodo ?_⟩
  rw [State.unitTurn_group hp hslot hg, State.groupTurn_clause hloc hhalt hhold hfault hdark hc]
  exact State.clauseTurn_run hdbg hspill hpair hdec

end Sys2Proof.Machine
end

section
/-! PROOFS. Transfers of control and exit. -/

namespace Sys2Proof.Machine

set_option Elab.async false
open Claims

/-! ## What sequencing leaves -/

/-- What only sequences a group's words leaves its group as it was. -/
theorem Sequenced.leaves {m t : State} {u : Issuer} {g : Group} (q : Sequenced u.gid m t) (hg : tabFind m.groups u.gid = some g) :
    LeavesGroup m u (g.asSequenced u.g) t := by
  obtain ⟨k, hk, e⟩ := q.group g hg
  refine ⟨?_, q.others, q.plots, q.elsewhere, q.elsewhere.memory⟩
  rw [State.group_eq hk]
  calc k.asSequenced u.g = (k.asSequenced g).asSequenced u.g := rfl
    _ = g.asSequenced u.g := by rw [e]

/-- A change of the group itself is no change elsewhere. -/
theorem LeavesGroup.of_modGroup {s t : State} {u : Issuer} {f : Group → Group} {g : Group} (h : LeavesGroup (s.modGroup u.gid f) u g t) :
    LeavesGroup s u g t := by
  obtain ⟨hg, ho, hp, he, -⟩ := h
  have hs : SameElsewhere s t := SameElsewhere.trans (t := s.modGroup u.gid f) rfl he
  refine ⟨hg, fun k hk => ?_, hp, hs, hs.memory⟩
  rw [ho k hk]
  simp [tabFind_tabUpd_ne _ _ hk]

theorem SameElsewhere.teams {s t : State} (h : SameElsewhere s t) : t.teams = s.teams := by
  unfold SameElsewhere at h
  rw [← h]

theorem State.countIssue_group {s : State} {u : Issuer} {g : Group} (hg : tabFind s.groups u.gid = some g) :
    tabFind (s.countIssue u).groups u.gid = some (if u.c.second then g else g.ageAll) := by
  unfold State.countIssue
  split
  · exact hg
  · dsimp only
    split <;> simp [hg]

/-- The entry that a target of a transfer makes. -/
def Issuer.arrival (u : Issuer) (e : DWord × Mask × Bool) : FrontEntry :=
  { addr := e.1, lanes := e.2.1, from? := if e.2.2 then some (u.c.addr, u.c.idx, u.nextHeader) else none }

/-- A transfer ends the clause and adds its entries to the frontier; a step ends there; the group's registers stay. -/
theorem Group.transfer_fields (g : Group) (u : Issuer) (l : List (DWord × Mask × Bool)) :
    (g.transfer u l).asSequenced g = g ∧ (g.transfer u l).clause = none ∧
      (g.transfer u l).frontier = l.foldl (fun f e => addEntry f (u.arrival e)) g.frontier := by
  have added (l : List (DWord × Mask × Bool)) (h : Group) : ∃ f, l.foldl (fun (x : Group) e => x.addFront (u.arrival e)) h = { h with frontier := f } ∧
      f = l.foldl (fun f e => addEntry f (u.arrival e)) h.frontier := by
    induction l generalizing h with
    | nil => exact ⟨_, rfl, rfl⟩
    | cons e l ih => exact ih (h.addFront (u.arrival e))
  obtain ⟨f, hf, rfl⟩ := added l { g with clause := none }
  have heq : g.transfer u l = (let h := l.foldl (fun (x : Group) e => x.addFront (u.arrival e)) { g with clause := none }
      if h.stepping then { h with stepping := false, halted := true } else h) := rfl
  rw [heq, hf]
  dsimp only
  split <;> exact ⟨rfl, rfl, rfl⟩

/-! ## The lanes of a frontier (R51) -/

theorem lanesAt_cons (e : FrontEntry) (f : List FrontEntry) (x : DWord) :
    lanesAt (e :: f) x = (if e.addr = x then e.lanes else 0) ||| lanesAt f x := by
  have from_ (f : List FrontEntry) (m : Mask) : f.foldl (fun m e => if e.addr = x then m ||| e.lanes else m) m = m ||| lanesAt f x := by
    induction f generalizing m with
    | nil => simp [lanesAt]
    | cons e f ih =>
      simp only [lanesAt, List.foldl_cons]
      rw [ih, ih (if e.addr = x then 0 ||| e.lanes else 0)]
      split <;> simp [BitVec.or_assoc]
  simp only [lanesAt, List.foldl_cons]
  rw [from_]
  split <;> simp [lanesAt]

/-- An entry adds its lanes at its address. -/
theorem lanesAt_addEntry (f : List FrontEntry) (e : FrontEntry) (x : DWord) :
    lanesAt (addEntry f e) x = lanesAt f x ||| (if x = e.addr then e.lanes else 0) := by
  by_cases hz : e.lanes = 0
  · cases f <;> simp [addEntry, hz]
  · induction f with
    | nil =>
      simp only [addEntry, hz, if_false, lanesAt_cons, eq_comm (a := x)]
      simp [lanesAt]
    | cons y f ih =>
      by_cases hy : y.addr = e.addr
      · simp only [addEntry, hz, if_false, hy, if_true, lanesAt_cons, eq_comm (a := x)]
        split
        · simp only [BitVec.or_assoc, BitVec.or_comm]
        · simp
      · simp only [addEntry, hz, if_false, hy, lanesAt_cons, ih, BitVec.or_assoc]

theorem addEntry_ne_nil {f : List FrontEntry} {e : FrontEntry} (h : e.lanes ≠ 0 ∨ f ≠ []) : addEntry f e ≠ [] := by
  cases f with
  | nil => simpa [addEntry] using h
  | cons y f =>
    unfold addEntry
    split
    · simp
    · split <;> simp

theorem lanesAt_age (f : List FrontEntry) (x : DWord) : lanesAt (f.map fun e => { e with age := e.age + 1 }) x = lanesAt f x := by
  induction f with
  | nil => rfl
  | cons e f ih => simp [lanesAt_cons, ih]

/-- The lanes that a transfer sends to an address. -/
def sentTo : List (DWord × Mask × Bool) → DWord → Mask
  | [], _ => 0
  | e :: l, x => (if x = e.1 then e.2.1 else 0) ||| sentTo l x

/-- The lanes of a transfer stand at their targets beside those that stood there. -/
theorem lanesAt_arrivals (u : Issuer) (l : List (DWord × Mask × Bool)) (f : List FrontEntry) (x : DWord) :
    lanesAt (l.foldl (fun f e => addEntry f (u.arrival e)) f) x = lanesAt f x ||| sentTo l x := by
  induction l generalizing f with
  | nil => simp [sentTo]
  | cons e l ih =>
    rw [List.foldl_cons, ih, lanesAt_addEntry, sentTo, BitVec.or_assoc]
    rfl

theorem arrivals_ne_nil (u : Issuer) (l : List (DWord × Mask × Bool)) (f : List FrontEntry) (h : (∃ e ∈ l, e.2.1 ≠ 0) ∨ f ≠ []) :
    l.foldl (fun f e => addEntry f (u.arrival e)) f ≠ [] := by
  induction l generalizing f with
  | nil => simpa using h
  | cons e l ih =>
    refine ih _ ?_
    by_cases he : e.2.1 ≠ 0 ∨ f ≠ []
    · exact .inr (addEntry_ne_nil he)
    · simp only [ne_eq, not_or, not_not] at he
      exact .inl (by simpa [he] using h)

/-! ## The end of a transfer -/

/-- The state after a transfer, before its group is found to have exited. -/
def State.moved (m : State) (u : Issuer) (l : List (DWord × Mask × Bool)) : State := (m.countIssue u).modGroup u.gid (fun g => g.transfer u l)

theorem finish_xfer (u : Issuer) (i : Instr) (m : State) (l : List (DWord × Mask × Bool)) :
    finish u i (.xfer m l) = ((m.moved u l).exitCheck u.gid).endTurn := rfl

section
variable {u : Issuer} {i : Instr} {m : State} {g : Group} {l : List (DWord × Mask × Bool)}

theorem State.moved_sequenced : Sequenced u.gid m (m.moved u l) :=
  (m.countIssue_sequenced u).trans (.modGroup _ _ _ fun g => (g.transfer_fields u l).1)

/-- The group after a transfer: its clause has ended, and its lanes have moved. -/
theorem State.moved_group (hg : tabFind m.groups u.gid = some g) :
    ∃ h f, tabFind (m.moved u l).groups u.gid = some h ∧ h.asSequenced g = g ∧ h.clause = none ∧
      h.frontier = l.foldl (fun f e => addEntry f (u.arrival e)) f ∧ (∀ x, lanesAt f x = lanesAt g.frontier x) ∧ (f = [] ↔ g.frontier = []) := by
  have hc := State.countIssue_group hg
  have aged : (if u.c.second then g else g.ageAll).asSequenced g = g := by split <;> rfl
  obtain ⟨hs, hclause, hfront⟩ := (if u.c.second then g else g.ageAll).transfer_fields u l
  refine ⟨_, _, by simp [State.moved, hc], ?_, hclause, hfront, fun x => ?_, ?_⟩
  · calc ((if u.c.second then g else g.ageAll).transfer u l).asSequenced g
      _ = (((if u.c.second then g else g.ageAll).transfer u l).asSequenced (if u.c.second then g else g.ageAll)).asSequenced g := rfl
      _ = g := by rw [hs, aged]
  · split
    · rfl
    · exact lanesAt_age _ _
  · split
    · rfl
    · simp [Group.ageAll]

/-- A transfer that leaves lanes of its group changes nothing but where they stand. -/
theorem finish_xfer_leaves (hg : tabFind m.groups u.gid = some g) (hne : (∃ e ∈ l, e.2.1 ≠ 0) ∨ g.frontier ≠ []) :
    LeavesGroup m u (g.asSequenced u.g) (finish u i (.xfer m l)) ∧ ((finish u i (.xfer m l)).group u.gid).clause = none ∧
      ∀ x, lanesAt ((finish u i (.xfer m l)).group u.gid).frontier x = lanesAt g.frontier x ||| sentTo l x := by
  obtain ⟨h, f, hh, -, hclause, hfront, hlanes, hnil⟩ := State.moved_group (l := l) hg
  have hleft : h.frontier ≠ [] := hfront ▸ arrivals_ne_nil u l f (hne.imp_right (mt hnil.1))
  have hstay : (m.moved u l).exitCheck u.gid = m.moved u l := exitCheck_goesOn hh (Group.not_exited (.inl hleft))
  rw [finish_xfer, hstay]
  have hgr : (m.moved u l).endTurn.group u.gid = h := State.group_eq hh
  rw [hgr]
  exact ⟨(State.moved_sequenced.trans (.endTurn _ _)).leaves hg, hclause, fun x => by rw [hfront, lanesAt_arrivals, hlanes]⟩

end

/-! ## The words that transfer control (R82, R169-R171) -/

/-- A relative target: the word's address plus four times the signed offset. -/
theorem Issuer.target_eq {n : Nat} (u : Issuer) (o : BitVec n) : u.target o = branchTarget u o := by
  have scaled : (BitVec.ofInt 64 (4 * o.toInt) : DWord) = o.signExtend 64 <<< 2 := by
    rw [BitVec.ofInt_mul, BitVec.shiftLeft_eq_mul_twoPow, BitVec.mul_comm]
    rfl
  simp [Issuer.target, branchTarget, scaled]

/-- What a word that transfers control does: from which state its lanes move, and where to. -/
structure Transfers (i : Instr) (u : Issuer) (s m : State) (l : List (DWord × Mask × Bool)) (a : DWord) (taken rest : Mask) : Prop where
  runs : exec i s = .next (finish u i (.xfer m l))
  from_ : (m = s ∧ linkOf u i = u.g) ∨ ∃ n v, m = s.modGroup u.gid (fun g => g.writeS n v) ∧ linkOf u i = u.g.writeS n v
  sent : ∀ x, sentTo l x = (if x = a then taken else 0) ||| (if x = u.nextHeader then rest else 0)
  some_ : taken ≠ 0 ∨ rest ≠ 0 → ∃ e ∈ l, e.2.1 ≠ 0

theorem branchIf_runs {n : Nat} {i : Instr} {u : Issuer} {s : State} (h : Issues i u s) (hm : isMatched i = false) (hf : s.isForwarded u i = false)
    (o : BitVec n) (f : Issuer → Bool) : branchIf i s o f =
      .next (finish u i (.xfer s [if f u then (branchTarget u o, u.lanes, true) else (u.nextHeader, u.lanes, false)])) := by
  rw [branchIf, issue_own h hm hf, Issuer.target_eq]

/-- A branch of the whole bundle. -/
theorem Transfers.of_branch {n : Nat} {i : Instr} {u : Issuer} {s : State} {o : BitVec n} {c : Bool} {taken rest : Mask}
    (hrun : exec i s = .next (finish u i (.xfer s [if c then (branchTarget u o, u.lanes, true) else (u.nextHeader, u.lanes, false)])))
    (hlink : linkOf u i = u.g) (htaken : taken = if c then u.lanes else 0) (hrest : rest = if c then 0 else u.lanes) :
    Transfers i u s s [if c then (branchTarget u o, u.lanes, true) else (u.nextHeader, u.lanes, false)] (branchTarget u o) taken rest := by
  refine ⟨hrun, .inl ⟨rfl, hlink⟩, fun x => ?_, fun h => ?_⟩
  · cases c <;> simp [sentTo, htaken, hrest]
  · cases c <;> simpa [htaken, hrest] using h

/-- A word that sends the whole bundle to its targets. -/
theorem Transfers.of_sent {i : Instr} {u : Issuer} {s m : State} {l : List (DWord × Mask × Bool)} {a : DWord} {taken : Mask}
    (hrun : exec i s = .next (finish u i (.xfer m l)))
    (hfrom : (m = s ∧ linkOf u i = u.g) ∨ ∃ n v, m = s.modGroup u.gid (fun g => g.writeS n v) ∧ linkOf u i = u.g.writeS n v)
    (hsent : ∀ x, sentTo l x = if x = a then taken else 0) (hsome : taken ≠ 0 → ∃ e ∈ l, e.2.1 ≠ 0) : Transfers i u s m l a taken 0 :=
  ⟨hrun, hfrom, fun x => by simp [hsent], fun h => hsome (by simpa using h)⟩

section
variable {u : Issuer} {s : State}

theorem transfers_bl {k : BitVec 3} {o : BitVec 18} (h : Issues (.bl k o) u s) :
    ∃ m l, Transfers (.bl k o) u s m l (branchTarget u o) (u.lanes &&& u.kv k) (u.lanes &&& ~~~ u.kv k) := by
  have run : exec (.bl k o) s = .next (finish u (.bl k o)
      (.xfer s [(branchTarget u o, u.lanes &&& u.kv k, true), (u.nextHeader, u.lanes &&& ~~~ u.kv k, false)])) := by
    show execBl k o s = _
    rw [execBl, issue_own h rfl rfl, Issuer.target_eq]
  exact ⟨_, _, run, .inl ⟨rfl, rfl⟩, fun x => by simp [sentTo], fun h => by simpa using h⟩

theorem transfers_call {o : BitVec 24} (h : Issues (.call o) u s) : ∃ m l, Transfers (.call o) u s m l (branchTarget u o) u.lanes 0 := by
  have run : exec (.call o) s = .next (finish u (.call o) (.xfer (s.setSV u 62 u.nextHeader) [(branchTarget u o, u.lanes, true)])) := by
    show execCall o s = _
    rw [execCall, issue_own h rfl rfl, Issuer.target_eq]
  exact ⟨_, _, .of_sent run (.inr ⟨62, _, rfl, rfl⟩) (fun x => by simp [sentTo]) (by simp)⟩

theorem transfers_callx {d b : BitVec 6} (h : Issues (.callx d b) u s) : ∃ m l, Transfers (.callx d b) u s m l (u.sv b) u.lanes 0 := by
  have run : exec (.callx d b) s = .next (finish u (.callx d b) (.xfer (s.setSV u d u.nextHeader) [(u.sv b, u.lanes, true)])) := by
    show execCallx d b s = _
    rw [execCallx, issue_own h rfl rfl]
  exact ⟨_, _, .of_sent run (.inr ⟨_, _, rfl, rfl⟩) (fun x => by simp [sentTo]) (by simp)⟩

theorem transfers_jmpx {b : BitVec 6} (h : Issues (.jmpx b) u s) : ∃ m l, Transfers (.jmpx b) u s m l (u.sv b) u.lanes 0 := by
  have run : exec (.jmpx b) s = .next (finish u (.jmpx b) (.xfer s [(u.sv b, u.lanes, true)])) := by
    show execJmpx b s = _
    rw [execJmpx, issue_own h rfl rfl]
  exact ⟨_, _, .of_sent run (.inl ⟨rfl, rfl⟩) (fun x => by simp [sentTo]) (by simp)⟩

theorem exec_exit (h : Issues .exit u s) : exec .exit s = .next (finish u .exit (.xfer s [])) := by
  show execExit s = _
  rw [execExit, issue_own h rfl rfl]

end

/-- Every word that transfers control sends the lanes that it takes to its target, and the others to the next header. -/
theorem transfers_of {i : Instr} {u : Issuer} {s : State} {a : DWord} {taken rest : Mask} (h : Issues i u s)
    (ht : transferOf u i = some (a, taken, rest)) : ∃ m l, Transfers i u s m l a taken rest := by
  cases i
  case br o => cases ht; exact ⟨_, _, .of_branch (c := true) (branchIf_runs h rfl rfl o fun _ => true) rfl rfl rfl⟩
  case bz r o => cases ht; exact ⟨_, _, .of_branch (branchIf_runs h rfl rfl o fun u => decide (u.sv r = 0)) rfl (by simp) (by simp)⟩
  case bnz r o => cases ht; exact ⟨_, _, .of_branch (branchIf_runs h rfl rfl o fun u => decide (u.sv r ≠ 0)) rfl (by simp) (by simp)⟩
  case bkany k o =>
    cases ht
    exact ⟨_, _, .of_branch (branchIf_runs h rfl rfl o fun u => decide (u.kv k &&& u.lanes ≠ 0)) rfl (by simp only [decide_eq_true_eq]; rfl)
      (by simp only [decide_eq_true_eq]; rfl)⟩
  case bknone k o =>
    cases ht
    exact ⟨_, _, .of_branch (branchIf_runs h rfl rfl o fun u => decide (u.kv k &&& u.lanes = 0)) rfl (by simp only [decide_eq_true_eq]; rfl)
      (by simp only [decide_eq_true_eq]; rfl)⟩
  case bl k o => cases ht; exact transfers_bl h
  case call o => cases ht; exact transfers_call h
  case callx d b => cases ht; exact transfers_callx h
  case jmpx b => cases ht; exact transfers_jmpx h
  case exit => cases ht; exact ⟨_, _, .of_sent (exec_exit h) (.inl ⟨rfl, rfl⟩) (fun x => by simp [sentTo]) (by simp)⟩
  all_goals exact nomatch ht

theorem controlTransfer : ControlTransfer := by
  intro i u s a taken rest h ht hne
  obtain ⟨m, l, hrun, hfrom, hsent, hsome⟩ := transfers_of h ht
  have hg := State.issuer_group h.unit
  refine ⟨_, hrun, ?_⟩
  rcases hfrom with ⟨rfl, hl⟩ | ⟨n, v, rfl, hl⟩
  · obtain ⟨hleaves, hclause, hlanes⟩ := finish_xfer_leaves (i := i) (l := l) hg ((or_assoc.2 hne).imp_left hsome)
    exact ⟨hl ▸ hleaves, hclause, fun x => by rw [hlanes, hsent, BitVec.or_assoc]⟩
  · have hfront : (u.g.writeS n v).frontier = u.g.frontier := (congrArg Group.frontier (u.g.writeS_asSequenced n v)).symm
    obtain ⟨hleaves, hclause, hlanes⟩ := finish_xfer_leaves (i := i) (l := l) (m := s.modGroup u.gid fun g => g.writeS n v) (g := u.g.writeS n v) (u := u)
      (by simp [hg]) (by rw [hfront]; exact (or_assoc.2 hne).imp_left hsome)
    rw [u.g.writeS_asSequenced, ← hl] at hleaves
    exact ⟨hleaves.of_modGroup, hclause, fun x => by rw [hlanes, hsent, hfront, BitVec.or_assoc]⟩

/-! ## A group's exit (R63) -/

theorem State.setBarrier_groups (s : State) (t : Nat) (c : Bool) (b : Nat) (x : Barrier) : (s.setBarrier t c b x).groups = s.groups := by
  unfold State.setBarrier
  split <;> rfl

/-- A barrier's change leaves the groups of every team, and whether it has ended. -/
theorem State.setBarrier_team (s : State) (t : Nat) (c : Bool) (b : Nat) (x : Barrier) (k : Nat) :
    ((s.setBarrier t c b x).team k).groups = (s.team k).groups ∧ ((s.setBarrier t c b x).team k).live = (s.team k).live := by
  unfold State.setBarrier
  split
  · exact ⟨rfl, rfl⟩
  · by_cases h : k = t
    · subst h
      simp only [State.team, State.modTeam_teams, tabGet, tabFind_tabUpd_same]
      cases tabFind s.teams k <;> exact ⟨rfl, rfl⟩
    · simp [State.team, tabGet, tabFind_tabUpd_ne _ _ h]

/-- The check of a team's barriers changes no group, and neither a team's groups nor whether it has ended (R173). -/
theorem State.barriersCheck_same (s : State) (t : Nat) :
    (s.barriersCheck t).groups = s.groups ∧ ∀ k, ((s.barriersCheck t).team k).groups = (s.team k).groups ∧ ((s.barriersCheck t).team k).live = (s.team k).live := by
  have check (v : State) (c : Bool) (b : Nat)
      (hv : v.groups = s.groups ∧ ∀ k, (v.team k).groups = (s.team k).groups ∧ (v.team k).live = (s.team k).live) :
      (v.barrierCheck t c b).groups = s.groups ∧
        ∀ k, ((v.barrierCheck t c b).team k).groups = (s.team k).groups ∧ ((v.barrierCheck t c b).team k).live = (s.team k).live := by
    unfold State.barrierCheck
    dsimp only
    split
    · exact hv
    · split
      · refine ⟨(State.setBarrier_groups _ _ _ _ _).trans hv.1, fun k => ?_⟩
        obtain ⟨hg, hl⟩ := v.setBarrier_team t c b { phase := (v.barrier t c b).phase + 1, arrived := [], doneAt := v.cycle } k
        exact ⟨hg.trans (hv.2 k).1, hl.trans (hv.2 k).2⟩
      · exact hv
  exact foldl_keeps (fun v : State => v.groups = s.groups ∧ ∀ k, (v.team k).groups = (s.team k).groups ∧ (v.team k).live = (s.team k).live) _ _ s
    ⟨rfl, fun _ => ⟨rfl, rfl⟩⟩ fun v b hv => check _ true b (check v false b hv)

/-- The group gives up its place and leaves its team (R63). -/
def State.departs (s : State) (gid : Nat) (g : Group) : State :=
  (s.setGroup gid { g with loc := .gone }).modTeam g.team (fun t => { t with groups := t.groups.filter (fun x => decide (x ≠ gid)) })

theorem State.exitCheck_exited {s : State} {gid : Nat} {g : Group} (hg : tabFind s.groups gid = some g) (hex : g.exited = true)
    (hleft : (((s.departs gid g).barriersCheck g.team).team g.team).groups ≠ []) : s.exitCheck gid = (s.departs gid g).barriersCheck g.team := by
  have hne : (((s.departs gid g).barriersCheck g.team).team g.team).groups.isEmpty = false := by simpa using hleft
  have shape : s.exitCheck gid = (let t := (s.departs gid g).barriersCheck g.team
      if !g.exited then s else if (t.team g.team).groups.isEmpty && (t.team g.team).live then t.beginCommit g.team .exit else t) := by
    simp only [State.exitCheck, hg]
    rfl
  rw [shape]
  simp [hex, hne]

/-- A group that has exited gives up its place and leaves its team, whose other groups go on. -/
theorem State.exitCheck_exits {s : State} {gid : Nat} {g : Group} {tm : Team} (hg : tabFind s.groups gid = some g) (hex : g.exited = true)
    (ht : tabFind s.teams g.team = some tm) (hk : ∃ k ∈ tm.groups, k ≠ gid) :
    tabFind (s.exitCheck gid).groups gid = some { g with loc := .gone } ∧
      ((s.exitCheck gid).team g.team).groups = tm.groups.filter (fun k => decide (k ≠ gid)) ∧ ((s.exitCheck gid).team g.team).live = tm.live := by
  obtain ⟨hgr, htm⟩ := (s.departs gid g).barriersCheck_same g.team
  have hteam : (s.departs gid g).team g.team = { tm with groups := tm.groups.filter (fun k => decide (k ≠ gid)) } := by
    simp [State.departs, State.team, tabGet, ht]
  obtain ⟨hgroups, hlive⟩ := htm g.team
  rw [hteam] at hgroups hlive
  have hleft : tm.groups.filter (fun k => decide (k ≠ gid)) ≠ [] := by
    obtain ⟨k, hk, hne⟩ := hk
    exact List.ne_nil_of_mem (List.mem_filter.2 ⟨hk, by simpa using hne⟩)
  rw [State.exitCheck_exited hg hex (by rw [hgroups]; exact hleft)]
  exact ⟨by rw [hgr]; simp [State.departs], hgroups, hlive⟩

/-- A group without lanes, holds or flags has exited. -/
theorem Group.exited_of {g : Group} (hf : g.frontier = []) (hc : g.clause = none) (hh : g.hold = none) (ht : g.trapHold = []) (hl : g.lostHold = false)
    (hz : ∀ e ∈ g.f, e.2 = 0) (ha : g.loc = .active) (hp : g.pgc = false) : g.exited = true := by
  simpa [Group.exited, hf, hc, hh, ht, hl, ha, hp] using hz

theorem groupExit : GroupExit := by
  intro u s tm h hp hf hh ht hl ha hz htm hk
  have hg := State.issuer_group h.unit
  obtain ⟨k, f, hm, hseq, hclause, hfront, -, hnil⟩ := State.moved_group (l := []) hg
  have keeps {α : Type} (q : Group → α) (hq : ∀ x y : Group, q (x.asSequenced y) = q x) : q k = q u.g := by rw [← hq k u.g, hseq]
  have hteam : k.team = u.g.team := keeps Group.team fun _ _ => rfl
  have hfk : k.frontier = [] := by rw [hfront, List.foldl_nil, hnil.2 hf]
  have hex : k.exited = true := Group.exited_of hfk hclause ((keeps Group.hold fun _ _ => rfl).trans hh) ((keeps Group.trapHold fun _ _ => rfl).trans ht)
    ((keeps Group.lostHold fun _ _ => rfl).trans hl) (by rwa [keeps Group.f fun _ _ => rfl]) ((keeps Group.loc fun _ _ => rfl).trans ha)
    ((keeps Group.pgc fun _ _ => rfl).trans hp)
  have hteams : (s.moved u []).teams = s.teams := (State.moved_sequenced (u := u) (m := s) (l := [])).elsewhere.teams
  obtain ⟨hgone, hgroups, hlive⟩ := State.exitCheck_exits hm hex (by rw [hteams, hteam]; exact htm) hk
  refine ⟨_, exec_exit h, ?_⟩
  rw [finish_xfer, show ((s.moved u []).exitCheck u.gid).endTurn.group u.gid = _ from State.group_eq hgone]
  exact ⟨rfl, hfk, hteam ▸ hgroups, hteam ▸ hlive⟩

/-- Settles O9: a transfer is the end of its word in which its lanes have moved; a group without lanes is found to have exited there. -/
theorem control : Obligations.Control := ⟨controlTransfer, groupExit⟩

end Sys2Proof.Machine
end

section
/-! PROOFS. Lane words: their pending results, and what the writing of one changes. -/

namespace Sys2Proof.Machine

set_option Elab.async false
open Claims

/-! ## Registers of a group after a write -/

theorem laneOf_mapLanes (f : Nat → Word) {n : Nat} (h : n < 64) : laneOf (mapLanes f) n = f n := by
  simp [laneOf, mapLanes, h]

theorem laneOf_mergeLanes (m : Mask) (new old : List Word) {n : Nat} (h : n < 64) :
    laneOf (mergeLanes m new old) n = if m.getLsbD n then laneOf new n else laneOf old n :=
  laneOf_mapLanes (fun l => if m.getLsbD l then laneOf new l else laneOf old l) h

theorem Group.readV_writeV (g : Group) (r q : Nat) (v : List Word) : (g.writeV r v).readV q = if q = r then v else g.readV q := by
  by_cases h : q = r
  · simp [Group.readV, Group.writeV, h]
  · simp [Group.readV, Group.writeV, h, tabGet_tabSet_ne]

theorem Group.readK_writeK (g : Group) (b : Mask) {k n : Nat} (v : Mask) (hk : k ≠ 0) :
    (g.writeK n v).readK b k = if k = n then v else g.readK b k := by
  by_cases h : k = n
  · subst h
    simp [Group.readK, Group.writeK, hk]
  · simp [Group.readK, Group.writeK, hk, h, tabGet_tabSet_ne]

/-! ## The writing of a pending result (R49, R102, R103) -/

/-- A pending result changes its register in the lanes that it names, and FPSTAT. -/
theorem Group.writePending_lanes (g : Group) (c : Nat) (p : Pending) {r n : Nat} (h : n < 64) :
    laneOf ((g.writePending c p).readV r) n = if p.reg = .v r ∧ p.lanes.getLsbD n = true then laneOf p.vals n else laneOf (g.readV r) n := by
  unfold Group.writePending
  cases hp : p.reg with
  | v q =>
    show laneOf ((g.writeVM p.lanes q p.vals).readV r) n = _
    rw [Group.writeVM, Group.readV_writeV]
    by_cases hq : r = q
    · subst hq
      simp [laneOf_mergeLanes _ _ _ h]
    · simp [hq, Ne.symm hq]
  | k | s | f => simp [Group.orFp, Group.readV, Group.writeK]

theorem Group.writePending_mask (g : Group) (c : Nat) (p : Pending) (b : Mask) {k n : Nat} (hk : k ≠ 0) :
    ((g.writePending c p).readK b k).getLsbD n =
      if p.reg = .k k ∧ p.lanes.getLsbD n = true then p.bits.getLsbD n else (g.readK b k).getLsbD n := by
  unfold Group.writePending
  cases hp : p.reg with
  | k q =>
    show ((g.writeK q ((p.bits &&& p.lanes) ||| (g.readK 0 q &&& ~~~p.lanes))).readK b k).getLsbD n = _
    rw [Group.readK_writeK _ _ _ hk]
    by_cases hq : k = q
    · subst hq
      have hr : g.readK 0 k = g.readK b k := by simp [Group.readK, hk]
      simp only [if_true, true_and, BitVec.getLsbD_or, BitVec.getLsbD_and, BitVec.getLsbD_not, hr]
      by_cases hn : n < 64
      · cases p.lanes.getLsbD n <;> simp [hn]
      · simp [BitVec.getLsbD_of_ge _ _ (Nat.le_of_not_lt hn)]
    · simp [hq, Ne.symm hq]
  | v | s | f => simp [Group.orFp, Group.readK, Group.writeVM, Group.writeV]

/-- Everything else of the group stays. -/
theorem Group.writePending_rest (g : Group) (c : Nat) (p : Pending) :
    (g.writePending c p).fpstat = g.fpstat ||| p.fp ∧ (g.writePending c p).s = g.s ∧ (g.writePending c p).f = g.f ∧ (g.writePending c p).desc = g.desc ∧
      (g.writePending c p).ops = g.ops ∧ (g.writePending c p).frontier = g.frontier := by
  unfold Group.writePending
  cases p.reg <;> exact ⟨rfl, rfl, rfl, rfl, rfl, rfl⟩

theorem laneResultWritten : LaneResultWritten := by
  intro s gid key g p hev hg hp
  have hrun : exec .laneResultWrite s = .next (s.modGroup gid (fun g => { (g.writePending s.cycle p) with pend := tabDel g.pend key })) := by
    show execLaneResultWrite s = _
    simp only [execLaneResultWrite, hev, State.group_eq hg, hp]
  obtain ⟨hfp, hs, hf, hd, ho, hfr⟩ := g.writePending_rest s.cycle p
  refine ⟨_, { (g.writePending s.cycle p) with pend := tabDel g.pend key }, hrun, by simp [hg], tabFind_tabDel_same _ _, hfp,
    fun r n hn => g.writePending_lanes s.cycle p hn, fun b k n hk _ => g.writePending_mask s.cycle p b hk, hs, hf, hd, ho, hfr, fun k hk => ?_, rfl⟩
  simp [tabFind_tabUpd_ne _ _ hk]

/-! ## The latencies (R126) -/

theorem laneLatencies : LaneLatencies := by
  intro i l h hf
  cases i
  case vcvt d a c x =>
    cases h
    have wide : ∀ c : BitVec 7, ((if cvtWidths c.toNat = (1, 1) then 8 else 16, 1) : Nat × Nat) =
      if c = 4 ∨ c = 5 ∨ c = 6 ∨ c = 7 ∨ c = 8 then (16, 1) else (8, 1) := by decide
    exact wide c
  all_goals cases h
  all_goals cases hf
  all_goals rfl

/-! ## Entry cycles (R48) -/

/-- The entry of an operation after the first is that of an operation issued a cycle later. -/
theorem entryCycle_succ (busy c free j : Nat) : entryCycle busy c free (j + 1) = entryCycle busy (c + 1) (Nat.max c free + busy) j := by
  induction j with
  | zero => rfl
  | succ j ih =>
    show Nat.max (c + (j + 1) + 1) (entryCycle busy c free (j + 1) + busy) = Nat.max (c + 1 + j + 1) (entryCycle busy (c + 1) (Nat.max c free + busy) j + busy)
    rw [ih]
    congr 1
    omega

theorem entryCycles_getD (busy c n k free d : Nat) {j : Nat} (h : j < n) :
    (entryCycles busy c n k free).getD j d = entryCycle busy (c + k) free j := by
  induction n generalizing k free j with
  | zero => omega
  | succ n ih =>
    cases j with
    | zero => rfl
    | succ j =>
      rw [entryCycle_succ]
      exact ih (k + 1) (Nat.max (c + k) free + busy) (Nat.lt_of_succ_lt_succ h)

theorem le_entryCycle (busy c free j : Nat) : c ≤ entryCycle busy c free j := by
  cases j with
  | zero => exact Nat.le_max_left _ _
  | succ j => exact Nat.le_trans (by omega) (Nat.le_max_left (c + j + 1) _)

theorem entryCycles_length (busy c n k free : Nat) : (entryCycles busy c n k free).length = n := by
  induction n generalizing k free with
  | zero => rfl
  | succ n ih => simp [entryCycles, ih]

/-- No operation enters before the issue of its word. -/
theorem le_entryCycles_getD (busy c n free j : Nat) : c ≤ (entryCycles busy c n 0 free).getD j c := by
  by_cases h : j < n
  · rw [entryCycles_getD _ _ _ _ _ _ h]
    exact le_entryCycle _ _ _ _
  · have hnone : (entryCycles busy c n 0 free)[j]? = none := List.getElem?_eq_none (by rw [entryCycles_length]; omega)
    simp [List.getD_eq_getElem?_getD, hnone]

/-! ## Pending results (R49) -/

/-- Only groups, plots, the agenda, names and turns have changed. -/
def SameButIssue (s t : State) : Prop :=
  { t with groups := s.groups, plots := s.plots, todo := s.todo, agenda := s.agenda, nextId := s.nextId } = s

theorem SameButIssue.trans {s t v : State} (a : SameButIssue s t) (b : SameButIssue t v) : SameButIssue s v := by
  unfold SameButIssue at *
  rw [← a, ← b]

theorem SameElsewhere.read {s t : State} (h : SameElsewhere s t) {α : Type} (q : State → α)
    (hq : ∀ v : State, q { v with groups := s.groups, plots := s.plots, todo := s.todo } = q v) : q t = q s := by
  rw [← hq t, h]

theorem SameElsewhere.sameButIssue {s t : State} (h : SameElsewhere s t) : SameButIssue s t := by
  unfold SameElsewhere at h
  unfold SameButIssue
  rw [← h]

/-- What reads none of these reads the same. -/
theorem SameButIssue.read {s t : State} (h : SameButIssue s t) {α : Type} (q : State → α)
    (hq : ∀ v : State, q { v with groups := s.groups, plots := s.plots, todo := s.todo, agenda := s.agenda, nextId := s.nextId } = q v) : q t = q s := by
  rw [← hq t, h]

theorem SameButIssue.memory {s t : State} (h : SameButIssue s t) : SameMemory s t :=
  ⟨fun a => h.read (fun v => v.readByte a) fun _ => rfl, fun a => h.read (fun v => v.readDesc a) fun _ => rfl, fun a => h.read (fun v => v.poisoned a) fun _ => rfl⟩

/-- From `s` on the group has been given the pending results `l`, each under a name of its own and due at its cycle. -/
structure Pends (gid : Nat) (g : Group) (l : List Pending) (s t : State) : Prop where
  group : ∃ pend, tabFind t.groups gid = some { g with pend := pend } ∧
    (∀ j p, l[j]? = some p → tabFind pend (s.nextId + j) = some p) ∧ ∀ key, key < s.nextId → tabFind pend key = tabFind g.pend key
  due : ∀ j p, l[j]? = some p → InAgenda t p.avail .laneResultWrite { a := gid, b := s.nextId + j }
  agenda : ∀ d ∈ s.agenda, d ∈ t.agenda
  others : SameGroupsBut gid s t
  plots : t.plots = s.plots
  same : SameButIssue s t

theorem State.atCycle_inAgenda (s : State) (c : Nat) (i : Instr) (e : Ev) : InAgenda (s.atCycle c i e) c i e := by simp [InAgenda, agendaInsert_mem]

theorem pends_nil {gid : Nat} {g : Group} {s : State} (hg : tabFind s.groups gid = some g) : Pends gid g [] s s where
  group := ⟨g.pend, hg, by simp, fun _ _ => rfl⟩
  due := by simp
  agenda _ h := h
  others _ _ := rfl
  plots := rfl
  same := rfl

/-- One result more. -/
theorem pends_cons {gid : Nat} {g : Group} {p : Pending} {l : List Pending} {s t : State}
    (h : Pends gid { g with pend := tabPut g.pend s.nextId p } l (s.pendOne gid p) t) : Pends gid g (p :: l) s t := by
  have hn : (s.pendOne gid p).nextId = s.nextId + 1 := rfl
  obtain ⟨⟨pend, hpend, hnew, hold⟩, hdue, hag, hothers, hplots, hsame⟩ := h
  rw [hn] at hnew hold hdue
  refine ⟨⟨pend, hpend, ?_, fun key hk => ?_⟩, ?_, fun d hd => hag d ?_, fun k hk => ?_, hplots, SameButIssue.trans (t := s.pendOne gid p) rfl hsame⟩
  · intro j q hj
    cases j with
    | zero =>
      cases hj
      exact (hold _ (Nat.lt_succ_self _)).trans (tabFind_tabPut_same _ _ _)
    | succ j => rw [← Nat.add_assoc, Nat.add_right_comm, hnew j q hj]
  · rw [hold _ (by omega)]
    exact tabFind_tabPut_ne _ _ (by omega)
  · intro j q hj
    cases j with
    | zero =>
      cases hj
      exact hag _ (State.atCycle_inAgenda _ _ _ _)
    | succ j =>
      rw [← Nat.add_assoc, Nat.add_right_comm]
      exact hdue j q hj
  · simp [State.pendOne, agendaInsert_mem, hd]
  · rw [hothers k hk]
    simp [State.pendOne, tabFind_tabUpd_ne _ _ hk]

theorem pends_fold {gid : Nat} {g : Group} (l : List Pending) {s : State} (hg : tabFind s.groups gid = some g) :
    Pends gid g l s (l.foldl (fun t p => t.pendOne gid p) s) := by
  induction l generalizing s g with
  | nil => exact pends_nil hg
  | cons p l ih => exact pends_cons (ih (by simp [State.pendOne, hg]))

/-- The results of a lane word with the cycles in which they are available: operation j after its entry and the form's latency. -/
def LaneForm.timed (l : LaneForm) (es : List Nat) (c : Nat) (ps : List Pending) : List Pending :=
  (ps.zip (List.range ps.length)).map (fun e => { e.1 with avail := es.getD (l.regOps - ps.length + e.2) c + l.lat })

theorem LaneForm.timed_getElem? {l : LaneForm} {es : List Nat} {c j : Nat} {ps : List Pending} {p : Pending} (h : ps[j]? = some p) :
    (l.timed es c ps)[j]? = some { p with avail := es.getD (l.regOps - ps.length + j) c + l.lat } := by
  obtain ⟨hj, rfl⟩ := List.getElem?_eq_some_iff.1 h
  simp [LaneForm.timed, hj]

theorem State.pendAll_eq {s : State} {u : Issuer} {i : Instr} {l : LaneForm} (hl : laneForm i = some l) (ps : List Pending) :
    s.pendAll u i ps = (l.timed (entryCycles l.busy s.cycle l.regOps 0 (s.plot u.g.plot).dataFree) s.cycle ps).foldl (fun t p => t.pendOne u.gid p)
      (s.enterBackend u.g.plot l.regOps l.busy).1 := by
  simp only [State.pendAll, hl, LaneForm.timed, List.foldl_map]
  rfl

/-- The results of a lane word wait; no register has changed, nor anything but the group's sequencing and its plot. -/
structure Scheduled (u : Issuer) (l : List Pending) (s t : State) : Prop where
  results : ∀ j p, l[j]? = some p →
    tabFind (t.group u.gid).pend (s.nextId + j) = some p ∧ InAgenda t p.avail .laneResultWrite { a := u.gid, b := s.nextId + j }
  earlier : ∀ key, key < s.nextId → tabFind (t.group u.gid).pend key = tabFind u.g.pend key
  registers : SameRegisters u.g (t.group u.gid)
  ops : (t.group u.gid).ops = u.g.ops
  hold : (t.group u.gid).hold = u.g.hold
  others : SameGroupsBut u.gid s t
  same : SameButIssue s t
  plots : ∀ q, q ≠ u.g.plot → t.plot q = s.plot q

/-- The end of a word that is done leaves every other plot as it was. -/
theorem finish_ok_plot (u : Issuer) (i : Instr) (t : State) {q : Nat} (h : q ≠ u.g.plot) : (finish u i (.ok t)).plot q = t.plot q := by
  have word (v : State) : (v.afterWord u i).plot q = v.plot q := by
    unfold State.afterWord
    dsimp only
    split <;> rfl
  have count : (t.countIssue u).plot q = t.plot q := by
    unfold State.countIssue
    split
    · rfl
    · dsimp only
      split
      · exact State.plot_modPlot_ne _ _ h
      · rfl
  exact (word _).trans count

theorem pendAll_scheduled {s : State} {u : Issuer} {i : Instr} {l : LaneForm} (hu : s.issuer? = some u) (hl : laneForm i = some l) (ps : List Pending) :
    Scheduled u (l.timed (entryCycles l.busy s.cycle l.regOps 0 (s.plot u.g.plot).dataFree) s.cycle ps) s (finish u i (.ok (s.pendAll u i ps))) := by
  have hg := State.issuer_group hu
  rw [← (s.enterBackend_same u.g.plot l.regOps l.busy).1] at hg
  have hp := pends_fold (l.timed (entryCycles l.busy s.cycle l.regOps 0 (s.plot u.g.plot).dataFree) s.cycle ps) hg
  rw [State.pendAll_eq hl]
  generalize l.timed (entryCycles l.busy s.cycle l.regOps 0 (s.plot u.g.plot).dataFree) s.cycle ps = rs at hp ⊢
  generalize rs.foldl (fun t p => t.pendOne u.gid p) (s.enterBackend u.g.plot l.regOps l.busy).1 = m at hp ⊢
  obtain ⟨⟨pend, hpend, hnew, hold⟩, hdue, -, hothers, hplots, hsame⟩ := hp
  have q := finish_ok_sequenced u i m
  obtain ⟨k, hk, hseq⟩ := q.group _ hpend
  have field {α : Type} (r : Group → α) (hr : ∀ x y : Group, r (x.asSequenced y) = r x) : r k = r { u.g with pend := pend } := by rw [← hr k, hseq]
  have hpk : k.pend = pend := field Group.pend fun _ _ => rfl
  have hag : (finish u i (.ok m)).agenda = m.agenda := q.elsewhere.read State.agenda fun _ => rfl
  refine ⟨fun j p hj => ⟨?_, ?_⟩, fun key hkey => ?_, ?_, ?_, ?_, fun x hx => (q.others x hx).trans (hothers x hx), ?_, fun x hx => ?_⟩
  · rw [State.group_eq hk, hpk]
    exact hnew j p hj
  · rw [InAgenda, hag]
    exact hdue j p hj
  · rw [State.group_eq hk, hpk]
    exact hold key hkey
  · rw [State.group_eq hk]
    exact ⟨field Group.v fun _ _ => rfl, field Group.s fun _ _ => rfl, field Group.k fun _ _ => rfl, field Group.f fun _ _ => rfl,
      field Group.desc fun _ _ => rfl, field Group.fpstat fun _ _ => rfl, field Group.rows fun _ _ => rfl⟩
  · rw [State.group_eq hk]
    exact field Group.ops fun _ _ => rfl
  · rw [State.group_eq hk]
    exact field Group.hold fun _ _ => rfl
  · exact SameButIssue.trans (t := (s.enterBackend u.g.plot l.regOps l.busy).1) rfl (hsame.trans q.elsewhere.sameButIssue)
  · rw [finish_ok_plot u i m hx, State.plot, hplots]
    exact State.plot_modPlot_ne s _ hx

/-- What the rest of the machine shows after a lane word has issued. -/
theorem Scheduled.rest {u : Issuer} {l : List Pending} {s t : State} (h : Scheduled u l s t) :
    SameMemory s t ∧ t.teams = s.teams ∧ t.ctxs = s.ctxs ∧ t.quads = s.quads ∧ t.cycle = s.cycle :=
  ⟨h.same.memory, h.same.read State.teams fun _ => rfl, h.same.read State.ctxs fun _ => rfl, h.same.read State.quads fun _ => rfl,
    h.same.read State.cycle fun _ => rfl⟩

theorem laneResultsScheduled : LaneResultsScheduled := by
  intro i u s l ps hu hl hlen
  have h := pendAll_scheduled hu hl ps
  obtain ⟨hmem, ht, hc, hq, hcy⟩ := h.rest
  refine ⟨_, rfl, h.registers, h.ops, fun j p hj => ?_, h.others, hmem, ht, hc, hq, hcy, h.plots⟩
  have hlt : j < ps.length := (List.getElem?_eq_some_iff.1 hj).1
  obtain ⟨hpend, hdue⟩ := h.results j _ (LaneForm.timed_getElem? hj)
  rw [entryCycles_getD _ _ _ _ _ _ (show l.regOps - ps.length + j < l.regOps by omega)] at hpend hdue
  exact ⟨_, _, rfl, hpend, hdue⟩

/-- Settles O17: the results of a lane word wait under names of their own until their cycles; each is written as `Group.writePending` writes it. -/
theorem laneResults : Obligations.LaneResults := ⟨laneResultsScheduled, laneLatencies, laneResultWritten⟩

end Sys2Proof.Machine
end

section
/-! PROOFS. Every lane word at its issue. -/

namespace Sys2Proof.Machine

set_option Elab.async false
open Claims

/-! ## Every lane word at its issue -/

/-- The word's meaning is that of `laneVec`, but for the number of free choices taken so far, on which no check depends. -/
def RunsVec (i : Instr) (s : State) (r : Result) : Prop :=
  ∃ f n, r = laneVec i { s with fresh := n } f ∧ ∀ u, Issues i u s → Issues i u { s with fresh := n }

theorem laneVec_runs {i : Instr} {s : State} {f} : RunsVec i s (laneVec i s f) := ⟨f, s.fresh, rfl, fun _ h => h⟩
theorem laneMap_runs {i : Instr} {s : State} {f} : RunsVec i s (laneMap i s f) := laneVec_runs
theorem laneUn_runs {i : Instr} {s : State} {f} : RunsVec i s (laneUn i s f) := laneMap_runs
theorem laneBin_runs {i : Instr} {s : State} {f} : RunsVec i s (laneBin i s f) := laneMap_runs
theorem laneTri_runs {i : Instr} {s : State} {f} : RunsVec i s (laneTri i s f) := laneMap_runs
theorem laneShuffle_runs {i : Instr} {s : State} {f} : RunsVec i s (laneShuffle i s f) := laneMap_runs

/-- What a word is that writes a block of registers from operands, and not from memory. -/
structure BlockWord (i : Instr) (s : State) : Prop where
  runs : RunsVec i s (exec i s)
  unmatched : isMatched i = false
  unforwarded : ∀ v u, State.isForwarded v u i = false

/-! ### `vsfu.f32`, which takes 4096 numbers of free choices -/

section
variable (u : Issuer) (s : State) (n : Nat) (d a b : BitVec 7) (x : BitVec 3)

theorem logRegs_fresh (i : Instr) : logRegs { s with fresh := n } u i = logRegs s u i := rfl
theorem pendWait_fresh (i : Instr) : pendWait { s with fresh := n } u i = pendWait s u i := rfl
theorem regsWait_fresh (i : Instr) : regsWait { s with fresh := n } u i = regsWait s u i := rfl
theorem addrIssue_vsfu : addrIssue s u (.vsfuF32 d a b x) = none := rfl
theorem privBad_vsfu : privBad s u (.vsfuF32 d a b x) = false := rfl
theorem formWait_vsfu : formWait s u (.vsfuF32 d a b x) = none := rfl
theorem opBlocks_vsfu : s.opBlocks u.gid (u.capture (.vsfuF32 d a b x)) = [] := by
  have hw : (u.capture (.vsfuF32 d a b x)).word = .vsfuF32 d a b x := rfl
  simp [State.opBlocks, State.opRanges, hw, isAccess, isVarMem, flagSel, laneForm, lane1]

theorem checks_vsfu_fresh : checks (.vsfuF32 d a b x) u { s with fresh := n } = checks (.vsfuF32 d a b x) u s := by
  unfold checks
  rw [regsWait_fresh, addrIssue_vsfu, addrIssue_vsfu, privBad_vsfu, privBad_vsfu]
  rfl

theorem logWait_vsfu_fresh : logWait { s with fresh := n } u (.vsfuF32 d a b x) = logWait s u (.vsfuF32 d a b x) := by
  simp only [logWait, logRegs_fresh, opBlocks_vsfu, List.any_nil]

theorem pairWait_vsfu_fresh : pairWait { s with fresh := n } u (.vsfuF32 d a b x) = pairWait s u (.vsfuF32 d a b x) := by
  simp only [pairWait, State.isForwarded]
  rfl

theorem waits_vsfu_fresh : waits (.vsfuF32 d a b x) u { s with fresh := n } = waits (.vsfuF32 d a b x) u s := by
  simp only [waits, pendWait_fresh, formWait_vsfu, pairWait_vsfu_fresh, logWait_vsfu_fresh]
  rfl

end

/-- The number of free choices taken so far keeps no `vsfu.f32` from issuing. -/
theorem Issues.vsfu_fresh {d a b : BitVec 7} {x : BitVec 3} {u : Issuer} {s : State} (h : Issues (.vsfuF32 d a b x) u s) (n : Nat) :
    Issues (.vsfuF32 d a b x) u { s with fresh := n } where
  unit := h.unit
  checked := (checks_vsfu_fresh u s n d a b x).trans h.checked
  ready := (waits_vsfu_fresh u s n d a b x).trans h.ready

/-- A lane word with a destination block and no flag: the words of one shape by what runs that shape. -/
theorem blockWord_of {i : Instr} {s : State} {l : LaneForm} {o : Opnd} (hl : laneForm i = some l) (ho : l.dst = some o) (hf : flagSel i = none) : BlockWord i s := by
  cases i
  case vaddI32 | vsubI32 | vaddsI32 | vaddsN32 | vsubsI32 | vsubsN32 | vmulI32 | vmulhI32 | vmulhN32 | vminI32 | vmaxI32 | vminN32 |
    vmaxN32 | vand | vor | vxor | vandn | vshl | vshrN32 | vshrI32 | vrol | vaddF32 | vsubF32 | vmulF32 | vminF32 | vmaxF32 | vdivF32
    | vcopysignF32 | vaddF64 | vmulF64 | vminF64 | vmaxF64 | vdivF64 | vaddBf16x2 | vmulBf16x2 | vmaxBf16x2 | vaddF16x2 | vmulF16x2 |
    vmaxF16x2 => exact ⟨by unfold exec; exact laneBin_runs, rfl, fun _ _ => rfl⟩
  case vmadI32 | vfmaF32 | vfmaF64 | vfmaBf16x2 | vfmaF16x2 | vdot4I8 | vdot4N8 | vdot8I4 | vdot4E4m3 | vdsq4E4m3 | vdsq2Bf16 | vhamm =>
    exact ⟨by unfold exec; exact laneTri_runs, rfl, fun _ _ => rfl⟩
  case vunI | vmov | vunF32 | vunF64 | vsqrtF64 => exact ⟨by unfold exec; exact laneUn_runs, rfl, fun _ _ => rfl⟩
  case vli | vsel | vlane | vcvt | vpk8 | vupk8 | vpk4 | vupk4 => exact ⟨by unfold exec; exact laneMap_runs, rfl, fun _ _ => rfl⟩
  case vsfuF32 => exact ⟨⟨_, s.fresh + 4096, by unfold exec execVsfuF32 laneMap; rfl, fun _ h => h.vsfu_fresh _⟩, rfl, fun _ _ => rfl⟩
  case vshflIdx | vshflXor | vshflUp | vshflDn | vswp2 => exact ⟨by unfold exec; exact laneShuffle_runs, rfl, fun _ _ => rfl⟩
  case vred | vscan => exact ⟨by unfold exec; exact laneVec_runs, rfl, fun _ _ => rfl⟩
  case vcmpI32 | vcmpN32 | vcmpF32 | vcmpF64 | vsieve => cases hl; cases ho
  case vldB8 | vldI8 | vldB16 | vldI16 | vldB32 | vldB64 | vldB128 | vldf | vldt | vatomAddN32 | vatomAddF32 | vatomMinI32 | vatomMaxI32 |
    vatomMinN32 | vatomMaxN32 | vatomAnd | vatomOr | vatomXor | vatomXchg | vatomCas | vatomAddN64 => simp [flagSel, laneForm, laneLoad, laneAtom] at hf
  all_goals cases hl
  all_goals exact nomatch ho

/-- A register of the destination block has its pending result among those of the block's elements. -/
theorem Issuer.pendElem_mem (u : Issuer) (o : Opnd) (f : Nat → Nat → List (Nat × Fp)) {r c j : Nat} (hr : r < o.rows) (hc : c < o.cols) (hj : j < o.w) :
    ∃ p ∈ o.elems.flatMap (fun e => u.pendElem o e.1 e.2 (f e.1 e.2)), p.reg = .v (o.code + 16 * r + o.w * c + j) ∧
      p.lanes = if u.pfx.z then u.lanes else u.incl := by
  have helem : (r, c) ∈ o.elems := by simp [Opnd.elems, hr, hc]
  have hreg : ∃ p ∈ u.pendElem o r c (f r c), p.reg = .v (o.code + 16 * r + o.w * c + j) ∧ p.lanes = if u.pfx.z then u.lanes else u.incl :=
    ⟨_, List.mem_map.2 ⟨j, List.mem_range.2 hj, rfl⟩, rfl, rfl⟩
  obtain ⟨p, hp, h⟩ := hreg
  exact ⟨p, List.mem_flatMap.2 ⟨_, helem, hp⟩, h⟩

/-- A result that waits has its name and its cycle: no sooner than its form's latency allows. -/
theorem Scheduled.find {u : Issuer} {l : LaneForm} {ps : List Pending} {s t : State} {free : Nat} {p : Pending}
    (h : Scheduled u (l.timed (entryCycles l.busy s.cycle l.regOps 0 free) s.cycle ps) s t) (hp : p ∈ ps) :
    ∃ key q, s.nextId ≤ key ∧ tabFind (t.group u.gid).pend key = some q ∧ q.reg = p.reg ∧ q.lanes = p.lanes ∧ s.cycle + l.lat ≤ q.avail ∧
      InAgenda t q.avail .laneResultWrite { a := u.gid, b := key } := by
  obtain ⟨j, hj, rfl⟩ := List.getElem_of_mem hp
  obtain ⟨hpend, hdue⟩ := h.results j _ (LaneForm.timed_getElem? (List.getElem?_eq_getElem hj))
  exact ⟨_, _, Nat.le_add_right _ _, hpend, rfl, rfl, Nat.add_le_add_right (le_entryCycles_getD _ _ _ _ _) _, hdue⟩

/-- A word that leaves the results of a block's elements pending. -/
theorem issuesBlock_of {i : Instr} {u : Issuer} {s v : State} {l : LaneForm} {o : Opnd} {f : Nat → Nat → List (Nat × Fp)} (hu : v.issuer? = some u)
    (hl : laneForm i = some l) (ho : l.dst = some o)
    (hrun : exec i s = .next (finish u i (.ok (v.pendAll u i (o.elems.flatMap (fun e => u.pendElem o e.1 e.2 (f e.1 e.2)))))))
    (hv : ∃ n, v = { s with fresh := n }) : IssuesBlock i u s := by
  obtain ⟨n, rfl⟩ := hv
  have h := pendAll_scheduled hu hl (o.elems.flatMap (fun e => u.pendElem o e.1 e.2 (f e.1 e.2)))
  obtain ⟨hmem, ht, hc, hq, hcy⟩ := h.rest
  refine ⟨_, l, o, hrun, hl, ho, fun r c j hr hcc hj => ?_, h.earlier, h.registers, h.ops, h.hold, h.others, hmem, ht, hc, hq, hcy⟩
  obtain ⟨p, hp, hreg, hlanes⟩ := u.pendElem_mem o f hr hcc hj
  obtain ⟨key, q, hkey, hfind, hqr, hql, hav, hdue⟩ := h.find hp
  exact ⟨key, q, hkey, hfind, hqr.trans hreg, hql.trans hlanes, hav, hdue⟩

/-- Every lane word with a destination block and no flag issues it. -/
theorem issuesBlock_of_form {i : Instr} {u : Issuer} {s : State} (hform : ∃ l o, laneForm i = some l ∧ l.dst = some o ∧ flagSel i = none) (h : Issues i u s) :
    IssuesBlock i u s := by
  obtain ⟨l, o, hl, ho, hf⟩ := hform
  obtain ⟨⟨f, n, hrun, hready⟩, hm, hfwd⟩ := blockWord_of (s := s) hl ho hf
  refine issuesBlock_of (v := { s with fresh := n }) (f := f u l) h.unit hl ho ?_ ⟨n, rfl⟩
  rw [hrun, laneVec, issue_own (hready u h) hm (hfwd _ u)]
  simp only [hl, ho]

/-- A compare issues the result of its mask. -/
theorem laneCompare_issues {i : Instr} {k : BitVec 3} {u : Issuer} {s : State} {f l} (h : Issues i u s) (hl : laneForm i = some l) (hk : l.km = some k.toNat)
    (hm : isMatched i = false) (hf : State.isForwarded s u i = false) (hrun : exec i s = laneCompare i s f) : IssuesMask i k u s := by
  rw [laneCompare, issue_own h hm hf] at hrun
  simp only [hl, hk] at hrun
  obtain ⟨p, hrun, hreg, hlanes⟩ : ∃ p : Pending, exec i s = .next (finish u i (.ok (s.pendAll u i [p]))) ∧ p.reg = .k k.toNat ∧
      p.lanes = if u.pfx.z then u.lanes else u.incl := ⟨_, hrun, rfl, rfl⟩
  have hsch := pendAll_scheduled h.unit hl [p]
  obtain ⟨hmem, ht, hc, hq, hcy⟩ := hsch.rest
  obtain ⟨key, q, hkey, hfind, hqr, hql, hav, hdue⟩ := hsch.find (List.mem_singleton_self _)
  exact ⟨_, l, key, q, hrun, hl, hkey, hfind, hqr.trans hreg, hql.trans hlanes, hav, hdue, hsch.earlier, hsch.registers, hsch.ops, hsch.hold, hsch.others, hmem, ht, hc, hq, hcy⟩

/-- Settles O15: a word with a destination block by what its shape runs, a compare by its one result. -/
theorem laneWordsComplete : Obligations.LaneWordsComplete := by
  intro u s d a b x k e p m c n
  have block (i : Instr) (l : LaneForm) (o : Opnd) (hl : laneForm i = some l) (ho : l.dst = some o) (hf : flagSel i = none) (h : Issues i u s) :
      IssuesBlock i u s := issuesBlock_of_form ⟨l, o, hl, ho, hf⟩ h
  refine ⟨?_, ?_, ?_, ?_, ?_, ?_, ?_, ?_⟩
  case refine_8 =>
    simp only [List.forall_mem_cons]
    refine ⟨fun h => ?_, fun h => ?_, fun h => ?_, fun h => ?_, nofun⟩
    all_goals exact laneCompare_issues h rfl rfl rfl rfl (by unfold exec; rfl)
  all_goals
    intro i hi
    fin_cases hi
    all_goals exact block _ _ _ rfl rfl rfl

end Sys2Proof.Machine
end

section
/-! PROOFS. Register rows and shared tiles. -/

namespace Sys2Proof.Machine

set_option Elab.async false
open Claims

/-! ## Register rows -/

/-- A table filtered by its keys. -/
theorem tabFind_filter_key {α : Type} (p : Nat → Bool) (t : Tab α) (k : Nat) : tabFind (t.filter (fun e => p e.1)) k = if p k then tabFind t k else none := by
  induction t with
  | nil => simp [tabFind]
  | cons e t ih =>
    by_cases hk : e.1 = k
    · subst hk
      by_cases hp : p e.1 <;> simp_all [tabFind]
    · by_cases hp : p e.1 <;> simp_all [tabFind]

theorem Group.readV_zeroRows (g : Group) (n m r : Nat) : (g.zeroRows n m).readV r = if 16 * n ≤ r ∧ r < 16 * m then zeroLanes else g.readV r := by
  simp only [Group.readV, Group.zeroRows, tabGet, tabFind_filter_key (fun r => !(decide (16 * n ≤ r) && decide (r < 16 * m)))]
  simp only [← Bool.decide_and]
  by_cases h : 16 * n ≤ r ∧ r < 16 * m <;> simp [h]

theorem Group.readDesc_zeroRows (g : Group) (n m r : Nat) {q : Nat} (hq : q < 4) :
    (g.zeroRows n m).readDesc r q = if 16 * n ≤ r ∧ r < 16 * m then 0 else g.readDesc r q := by
  have hkey : (64 * n ≤ 4 * r + q ∧ 4 * r + q < 64 * m) ↔ (16 * n ≤ r ∧ r < 16 * m) := by omega
  simp only [Group.readDesc, Group.zeroRows, tabGet, tabFind_filter_key (fun r => !(decide (64 * n ≤ r) && decide (r < 64 * m)))]
  simp only [← Bool.decide_and, hkey]
  by_cases h : 16 * n ≤ r ∧ r < 16 * m <;> simp [h]

/-- What a word leaves that gives its group a value in an s register, from a state in which the group is `g`. -/
theorem finish_setSV_leaves {u : Issuer} {i : Instr} {m : State} {g : Group} (hg : tabFind m.groups u.gid = some g) (d : BitVec 6) (v : DWord)
    (hs : g.asSequenced u.g = g) : LeavesGroup m u (g.writeS d.toNat { val := v }) (finish u i (.ok (m.setSV u d v))) := by
  have h := finish_ok_from (i := i) hg (fun g => g.writeS d.toNat { val := v })
  have hw : (g.writeS d.toNat { val := v }).asSequenced u.g = g.writeS d.toNat { val := v } := by
    unfold Group.writeS
    split <;> rw [← hs] <;> rfl
  exact hw ▸ h

theorem racq_rows {u : Issuer} {s : State} {n : BitVec 3} (h : Issues (.racq n) u s) : ∃ t, exec (.racq n) s = .next t ∧
    if n.toNat ≤ s.freeRows u.g.plot ∧ (s.rowRequests u.g.plot).isEmpty = true then LeavesGroup s u (u.g.mapRows n.toNat) t
    else HoldsFrom s.bump u (.racq n.toNat s.nextId) t := by
  refine ⟨_, issue_own h rfl rfl _, ?_⟩
  split
  · exact finish_ok_leaves h.unit fun g => g.mapRows n.toNat
  · exact finish_hold_from (m := s.bump) (State.issuer_group h.unit) _

theorem racqTry_rows {u : Issuer} {s : State} {d : BitVec 6} {n : BitVec 3} (h : Issues (.racqTry d n) u s) : ∃ t, exec (.racqTry d n) s = .next t ∧
    if n.toNat ≤ s.freeRows u.g.plot ∧ (s.rowRequests u.g.plot).isEmpty = true then LeavesGroup s u ((u.g.mapRows n.toNat).writeS d.toNat { val := 1 }) t
    else LeavesGroup s u (u.g.writeS d.toNat {}) t := by
  have hg := State.issuer_group h.unit
  refine ⟨_, issue_own h rfl rfl _, ?_⟩
  split
  · exact (finish_setSV_leaves (m := s.modGroup u.gid _) (by simp [hg]) d 1 rfl).of_modGroup
  · exact finish_setSV_leaves hg d 0 rfl

theorem rrel_rows {u : Issuer} {s : State} {n : BitVec 3} (h : Issues (.rrel n) u s) : ∃ t, exec (.rrel n) s = .next t ∧
    LeavesGroup (s.afterOnce 0 .racqServe { a := u.g.plot }) u { (u.g.zeroRows (u.g.rows - n.toNat) u.g.rows) with rows := u.g.rows - n.toNat } t := by
  refine ⟨_, issue_own h rfl rfl _, ?_⟩
  have hg : tabFind (s.afterOnce 0 .racqServe { a := u.g.plot }).groups u.gid = some u.g := by
    have h0 := State.issuer_group h.unit
    unfold State.afterOnce
    split <;> exact h0
  have hcomm (f : Group → Group) : (s.modGroup u.gid f).afterOnce 0 .racqServe { a := u.g.plot } = (s.afterOnce 0 .racqServe { a := u.g.plot }).modGroup u.gid f := by
    unfold State.afterOnce
    rw [apply_ite (fun t : State => t.modGroup u.gid f)]
    rfl
  dsimp only
  rw [hcomm]
  exact finish_ok_from hg fun g => { (g.zeroRows (u.g.rows - n.toNat) g.rows) with rows := u.g.rows - n.toNat }

theorem registerRows : RegisterRows := by
  refine ⟨fun g n => ⟨rfl, fun r => g.readV_zeroRows _ _ r, fun r q hq => g.readDesc_zeroRows _ _ r hq⟩, fun u s => ⟨fun n => racq_rows, fun d n => racqTry_rows,
    fun n => rrel_rows, fun h => ?_, fun gid n rest h hn => ?_, fun gid n h hn => ?_⟩⟩
  all_goals
    change Host.Outcome.next _ = _
    rw [h]
  · rfl
  · simp [State.serveRows, Nat.not_le.2 hn]
  · simp [State.serveRows, hn]

/-! ## Shared tiles -/

/-- A tile that is being filled or drained, as the model tests it. -/
theorem tileBusy_iff {s : State} {u : Issuer} {n : Nat} : tileBusy s u n ↔
    (match s.tileAt u.g.plot n with
      | some e => decide (e.team = u.g.team) && (decide (e.st = .filling) || decide (e.st = .draining))
      | none => false) = true := by
  unfold tileBusy State.tileAt
  cases tabFind (s.plot u.g.plot).tiles n <;> simp

/-- A tile with an access under way, as the model tests it. -/
theorem tileUsed_iff {s : State} {u : Issuer} {n : Nat} : tileUsed s u n ↔
    s.groups.any (fun e => decide (e.2.team = u.g.team) && !e.2.pgc && e.2.ops.any (fun o => decide (tileOf o.2.word = some n))) = true := by
  simp [tileUsed, and_assoc]

/-- What keeps a form on a tile from taking place: the tile's entry is away, the tile is busy, or for the two drops it is used. -/
def tileWaits (s : State) (u : Issuer) (n : Nat) (drops : Bool) : Prop := tilesAway s u ∨ tileBusy s u n ∨ drops = true ∧ tileUsed s u n

/-- What becomes of the plot's table. -/
def tileChange (u : Issuer) : Instr → Option (Nat × Bool × (Tab Tile → Tab Tile))
  | .tset n a b r =>
    some (n.toNat, false, fun m => tabPut m n.toNat
      { team := u.g.team, off := (u.sv a).toNat / 64, len := (u.sv b).toNat / 64, st := if r = 1 then .ready else .empty })
  | .tdrop n => some (n.toNat, true, fun m => match tabFind m n.toNat with | some e => tabPut m n.toNat { e with st := .empty } | none => m)
  | .tdropFree n => some (n.toNat, true, fun m => tabDel m n.toNat)
  | _ => none

/-- A form on a tile waits, or takes place. -/
theorem State.tileForm_waits {s : State} {u : Issuer} {i : Instr} {n : Nat} {drops : Bool} {f : Tab Tile → Tab Tile} (hg : s.group u.gid = u.g)
    (hi : tileChange u i = some (n, drops, f)) :
    (tileWaits s u n drops → s.tileForm u.gid i = none) ∧ (¬ tileWaits s u n drops → s.tileForm u.gid i = some (withTiles s u.g.plot f)) := by
  unfold State.tileForm tileWaits
  rw [hg]
  dsimp only
  by_cases haway : tilesAway s u
  · exact ⟨fun _ => if_pos haway, fun h => absurd (.inl haway) h⟩
  · have hhere : ¬ (u.g.loc ≠ .active ∨ ((s.plot u.g.plot).spill ≠ .idle ∧ (s.plot u.g.plot).spill ≠ .restoreSet)) := haway
    rw [if_neg hhere]
    cases i
    case tset n a b r =>
      cases hi
      have hw := (tileBusy_iff (s := s) (u := u) (n := n.toNat)).symm
      exact ⟨fun h => if_pos (hw.2 (by simpa [haway] using h)), fun h => if_neg fun c => h (.inr (.inl (hw.1 c)))⟩
    case tdrop n | tdropFree n =>
      cases hi
      have hw := (Bool.or_eq_true _ _).to_iff.trans (or_congr (tileBusy_iff (s := s) (u := u) (n := n.toNat)) (tileUsed_iff (s := s) (u := u) (n := n.toNat))).symm
      exact ⟨fun h => if_pos (hw.2 (by simpa [haway] using h)), fun h => if_neg fun c => h (by simpa [haway] using hw.1 c)⟩
    all_goals exact nomatch hi

/-- Only what the plot holds counts for its change. -/
theorem State.modPlot_congr {s : State} {p : Nat} {f g : Plot → Plot} (h : f (s.plot p) = g (s.plot p)) : s.modPlot p f = s.modPlot p g := by
  simp only [State.modPlot, tabMod]
  rw [show f (tabGet {} s.plots p) = g (tabGet {} s.plots p) from h]

/-- A form on a tile: held, or done. -/
theorem tileWord_leaves {u : Issuer} {s : State} {i : Instr} {n : Nat} {drops : Bool} {f : Tab Tile → Tab Tile} (h : Issues i u s)
    (hi : tileChange u i = some (n, drops, f)) (hm : isMatched i = false) (hf : s.isForwarded u i = false) : ∃ t, tileWord i s = .next t ∧
    (tileWaits s u n drops → HoldsFrom s u (.tile i) t) ∧ (¬ tileWaits s u n drops → LeavesGroup (withTiles s u.g.plot f) u u.g t) := by
  have hg := State.issuer_group h.unit
  obtain ⟨waits, takes⟩ := State.tileForm_waits (State.group_eq hg) hi
  refine ⟨_, issue_own h hm hf _, fun hw => ?_, fun hw => ?_⟩
  · rw [waits hw]
    exact finish_hold_from hg _
  · rw [takes hw]
    exact finish_ok_same (m := withTiles s u.g.plot f) hg

theorem tstat_reads {u : Issuer} {s : State} {d n : BitVec 6} (h : Issues (.tstat d n) u s) : ∃ t, exec (.tstat d n) s = .next t ∧
    LeavesGroup s u (u.g.writeS d.toNat { val := s.tileStat u n.toNat }) t :=
  ⟨_, issue_own h rfl rfl _, finish_setSV_leaves (State.issuer_group h.unit) d _ rfl⟩

theorem sharedTiles : SharedTiles := by
  refine fun u s => ⟨fun n a b r h => ?_, fun n h => ?_, fun n h => ?_, fun d n h => ?_⟩
  · obtain ⟨t, ht, hold, done⟩ := tileWord_leaves h rfl rfl rfl
    simp only [tileWaits, Bool.false_eq_true, false_and, or_false] at hold done
    exact ⟨t, ht, hold, done⟩
  · obtain ⟨t, ht, hold, done⟩ := tileWord_leaves h rfl rfl rfl
    simp only [tileWaits, true_and] at hold done
    refine ⟨t, ht, hold, fun hw e he => ?_⟩
    have hput : withTiles s u.g.plot (fun m => tabPut m n.toNat { e with st := .empty }) =
        withTiles s u.g.plot (fun m => match tabFind m n.toNat with | some e => tabPut m n.toNat { e with st := .empty } | none => m) :=
      State.modPlot_congr (by simp [he])
    rw [hput]
    exact done hw
  · obtain ⟨t, ht, hold, done⟩ := tileWord_leaves h rfl rfl rfl
    simp only [tileWaits, true_and] at hold done
    exact ⟨t, ht, hold, done⟩
  · exact tstat_reads h

/-- Settles O25: the rows of the pool, and the entries of a plot's tiles. -/
theorem rowsAndTiles : Obligations.RowsAndTiles := ⟨registerRows, sharedTiles⟩

end Sys2Proof.Machine
end

section
/-! PROOFS. The end of an operation: what it writes, and what it keeps. -/

namespace Sys2Proof.Machine

set_option Elab.async false
open Claims

/-! ## What each part of a completion keeps -/

theorem Group.readS_writeS (g : Group) (d n : Nat) (x : SReg) : (g.writeS d x).readS n = if d = n ∧ n ≠ 63 then x else g.readS n := by
  unfold Group.writeS Group.readS
  by_cases hd : d = 63
  · by_cases hn : n = 63 <;> simp [hd, hn]
    exact fun h => absurd h.symm hn
  · by_cases hn : n = 63
    · simp [hn]
    · by_cases h : d = n
      · subst h
        simp [hn]
      · simp [hd, hn, h, tabGet_tabSet_ne _ _ _ (Ne.symm h)]

/-- A write of an s register changes no other field. -/
theorem Group.writeS_keeps (g : Group) (d : Nat) (x : SReg) : { g.writeS d x with s := g.s } = g := by
  unfold Group.writeS
  split <;> rfl

/-- The lane results of an operation, written one after another. -/
def Group.writeLanes (g : Group) (m : Mask) (rs : List (Nat × List Word)) : Group := rs.foldl (fun x r => x.writeVM m r.1 r.2) g

theorem Group.writeLanes_keeps (m : Mask) (rs : List (Nat × List Word)) (g : Group) : { g.writeLanes m rs with v := g.v } = g := by
  induction rs generalizing g with
  | nil => rfl
  | cons r rs ih =>
    have h := congrArg (fun x : Group => { x with v := g.v }) (ih (g.writeVM m r.1 r.2))
    exact h

/-- With nothing dropped, every result is written. -/
theorem Group.writeResults_eq (g : Group) {o : MemOp} (h : o.dropped = []) : g.writeResults o =
    match o.sres, uniDest o.word with
    | some v, some d => (g.writeLanes o.writeLanes o.res).writeS d v
    | _, _ => g.writeLanes o.writeLanes o.res := by
  simp only [Group.writeResults, h, Group.writeLanes, List.contains_nil, Bool.not_false, List.filter_true, Bool.false_eq_true, if_false] <;> rfl

theorem Group.writeResults_keeps (g : Group) {o : MemOp} (h : o.dropped = []) : { g.writeResults o with v := g.v, s := g.s } = g := by
  have hl := g.writeLanes_keeps o.writeLanes o.res
  rw [g.writeResults_eq h]
  split
  · next v d _ _ =>
    have hs := congrArg (fun x : Group => { x with v := g.v, s := g.s }) ((g.writeLanes o.writeLanes o.res).writeS_keeps d v)
    exact hs.trans (congrArg (fun x : Group => { x with s := g.s }) hl)
  · exact congrArg (fun x : Group => { x with s := g.s }) hl

theorem Group.writeResults_v (g : Group) {o : MemOp} (h : o.dropped = []) : (g.writeResults o).v = (g.writeLanes o.writeLanes o.res).v := by
  rw [g.writeResults_eq h]
  split
  · next v d _ _ =>
    have hs := congrArg Group.v ((g.writeLanes o.writeLanes o.res).writeS_keeps d v)
    exact hs
  · rfl

theorem Group.writeLanes_s (g : Group) (m : Mask) (rs : List (Nat × List Word)) : (g.writeLanes m rs).s = g.s := by
  have h := congrArg Group.s (g.writeLanes_keeps m rs)
  exact h

theorem Group.readS_writeResults (g : Group) {o : MemOp} (h : o.dropped = []) (n : Nat) : (g.writeResults o).readS n =
    match o.sres, uniDest o.word with
    | some v, some d => if d = n ∧ n ≠ 63 then v else g.readS n
    | _, _ => g.readS n := by
  have hs : (g.writeLanes o.writeLanes o.res).readS n = g.readS n := by rw [Group.readS, Group.writeLanes_s, Group.readS]
  rw [g.writeResults_eq h]
  cases o.sres with
  | none => exact hs
  | some v =>
    cases uniDest o.word with
    | none => exact hs
    | some d => exact (Group.readS_writeS _ _ _ _).trans (by rw [hs])

/-- The shadow that a completed `vldf` gives quarter `q` of its register `j`, where it gives one (R197). -/
def MemOp.shadow (o : MemOp) (j q : Nat) : Option (BitVec 48) :=
  let part := (List.range 16).map (fun i => 16 * q + i)
  if part.any (fun l => o.lanes.getLsbD l) then some (o.descs.getD (4 * j + q) 0)
  else if o.pfx.z && part.any (fun l => o.bundle.getLsbD l) then some 0
  else none

/-- Writes a shadow, if there is one. -/
def Group.giveDesc (g : Group) (r q : Nat) : Option (BitVec 48) → Group
  | some d => g.writeDesc r q d
  | none => g

theorem Group.readDesc_giveDesc (g : Group) {r q r' q' : Nat} (hq : q < 4) (hq' : q' < 4) (d : Option (BitVec 48)) :
    (g.giveDesc r q d).readDesc r' q' = if r' = r ∧ q' = q then d.getD (g.readDesc r' q') else g.readDesc r' q' := by
  cases d with
  | none => simp [Group.giveDesc]
  | some d =>
    by_cases h : r' = r ∧ q' = q
    · obtain ⟨rfl, rfl⟩ := h
      simp [Group.giveDesc, Group.readDesc, Group.writeDesc]
    · have hne : 4 * r' + q' ≠ 4 * r + q := by omega
      simp [Group.giveDesc, Group.readDesc, Group.writeDesc, tabGet_tabSet_ne _ _ _ hne, h]

/-- The four shadows of one register. -/
def Group.giveShadows (g : Group) (o : MemOp) (r j : Nat) : Group := (List.range 4).foldl (fun x q => x.giveDesc r q (o.shadow j q)) g

theorem Group.readDesc_giveShadows (g : Group) (o : MemOp) (r j r' : Nat) {q : Nat} (hq : q < 4) :
    (g.giveShadows o r j).readDesc r' q = if r' = r then (o.shadow j q).getD (g.readDesc r' q) else g.readDesc r' q := by
  have hr : List.range 4 = [0, 1, 2, 3] := rfl
  simp only [Group.giveShadows, hr, List.foldl_cons, List.foldl_nil, Group.readDesc_giveDesc, hq, Nat.reduceLT]
  by_cases h : r' = r
  · have : q = 0 ∨ q = 1 ∨ q = 2 ∨ q = 3 := by omega
    rcases this with rfl | rfl | rfl | rfl <;> simp [h]
  · simp [h]

/-- Shadows are written register by register. -/
theorem Group.writeShadows_vldf (g : Group) {o : MemOp} {d a : BitVec 7} {f n : BitVec 1} {z : BitVec 5} {x : BitVec 3} (h : o.word = .vldf d a f n z x) :
    g.writeShadows o = (o.res.zip (List.range o.res.length)).foldl (fun y r => y.giveShadows o r.1.1 r.2) g := by
  simp only [Group.writeShadows, h, List.foldl_flatMap, List.foldl_map]
  refine congrArg (fun f => List.foldl f g _) (funext fun y => funext fun r => ?_)
  refine congrArg (fun f => List.foldl f y _) (funext fun w => funext fun q => ?_)
  rw [MemOp.shadow, apply_ite (w.giveDesc r.1.1 q), apply_ite (w.giveDesc r.1.1 q)]
  rfl

/-- A fold each of whose turns gives a key of its own a value: the keys of the list have theirs, every other keeps what it had. -/
theorem foldl_keyed {α β κ γ : Type} {key : β → κ} {f : α → β → α} {get : α → κ → γ} {val : β → γ → γ}
    (hsame : ∀ x b, get (f x b) (key b) = val b (get x (key b))) (hne : ∀ x b k, k ≠ key b → get (f x b) k = get x k) (l : List β) (x : α) :
    (∀ k, k ∉ l.map key → get (l.foldl f x) k = get x k) ∧ ((l.map key).Nodup → ∀ b ∈ l, get (l.foldl f x) (key b) = val b (get x (key b))) := by
  induction l generalizing x with
  | nil => exact ⟨fun _ _ => rfl, fun _ _ hb => nomatch hb⟩
  | cons c l ih =>
    obtain ⟨out, hits⟩ := ih (f x c)
    constructor
    · intro k hk
      rw [List.map_cons, List.mem_cons, not_or] at hk
      exact (out k hk.2).trans (hne x c k hk.1)
    · intro hn b hb
      rw [List.map_cons, List.nodup_cons] at hn
      rcases List.mem_cons.1 hb with rfl | hb
      · exact (out _ hn.1).trans (hsame x b)
      · have hbc : key b ≠ key c := fun h => hn.1 (h ▸ List.mem_map_of_mem hb)
        rw [List.foldl_cons, hits hn.2 b hb, hne x c _ hbc]

/-- What a completed `vldf` leaves in the shadows, where no register is written twice. -/
theorem Group.readDesc_writeShadows (g : Group) {o : MemOp} {d a : BitVec 7} {f n : BitVec 1} {z : BitVec 5} {x : BitVec 3} (h : o.word = .vldf d a f n z x)
    {q : Nat} (hq : q < 4) : (∀ r, r ∉ o.res.map (fun r => r.1) → (g.writeShadows o).readDesc r q = g.readDesc r q) ∧
    ((o.res.map (fun r => r.1)).Nodup → ∀ j r vs, o.res[j]? = some (r, vs) → (g.writeShadows o).readDesc r q = (o.shadow j q).getD (g.readDesc r q)) := by
  have hkeys : (o.res.zip (List.range o.res.length)).map (fun r => r.1.1) = o.res.map (fun r => r.1) := by
    rw [show (fun r : (Nat × List Word) × Nat => r.1.1) = (fun r => r.1) ∘ Prod.fst from rfl, ← List.map_map, List.map_fst_zip (by simp)]
  have hfold := foldl_keyed (key := fun r : (Nat × List Word) × Nat => r.1.1) (f := fun y r => Group.giveShadows y o r.1.1 r.2)
    (get := fun y r => Group.readDesc y r q) (val := fun r old => (o.shadow r.2 q).getD old)
    (fun y r => by simp [Group.readDesc_giveShadows _ _ _ _ _ hq]) (fun y r k hk => by simp [Group.readDesc_giveShadows _ _ _ _ _ hq, hk])
    (o.res.zip (List.range o.res.length)) g
  rw [hkeys] at hfold
  rw [g.writeShadows_vldf h]
  refine ⟨hfold.1, fun hn j r vs hj => ?_⟩
  obtain ⟨hlt, hget⟩ := List.getElem?_eq_some_iff.1 hj
  have hmem : ((r, vs), j) ∈ o.res.zip (List.range o.res.length) :=
    List.mem_of_getElem? (i := j) (by simp [hlt, hget])
  exact hfold.2 hn _ hmem

/-- A completion that gives no shadows gives none. -/
theorem Group.writeShadows_other (g : Group) {o : MemOp} (h : match o.word with | .vldf .. => False | _ => True) : g.writeShadows o = g := by
  unfold Group.writeShadows
  split
  · next hw => simp [hw] at h
  · rfl

theorem Group.giveShadows_keeps (g : Group) (o : MemOp) (r j : Nat) : { g.giveShadows o r j with desc := g.desc } = g := by
  refine foldl_keeps (fun x : Group => { x with desc := g.desc } = g) _ _ g rfl fun x q hx => ?_
  cases o.shadow j q <;> exact hx

theorem Group.writeShadows_keeps (g : Group) (o : MemOp) : { g.writeShadows o with desc := g.desc } = g := by
  unfold Group.writeShadows
  split
  · refine foldl_keeps (fun x : Group => { x with desc := g.desc } = g) _ _ g rfl fun x e hx => ?_
    dsimp only
    split
    · exact hx
    · split <;> exact hx
  · rfl

theorem Group.ended_keeps (g : Group) (op : Nat) (o : MemOp) : { g.ended op o with f := g.f, ops := g.ops } = g := by
  unfold Group.ended
  cases o.flag <;> rfl

theorem Group.ended_f (g : Group) (op : Nat) (o : MemOp) (n : Nat) : (g.ended op o).readF n = if o.flag = some n then g.readF n - 1 else g.readF n :=
  g.readF_decF o.flag n

/-- What following the registers changes in an operation. -/
theorem MemOp.recapture_keeps (g : Group) (c : Nat) (o : MemOp) : { o.recapture g c with data := o.data, descs := o.descs, cmp := o.cmp } = o := by
  unfold MemOp.recapture
  split <;> rfl

/-- An operation whose registers have all been read follows them no more (R193). -/
theorem MemOp.recapture_read {g : Group} {c : Nat} {o : MemOp} (h : ∀ n ∈ o.entries, n ≤ c) : o.recapture g c = o := by
  have hlate (j : Nat) : ¬ c < o.entryOf j := by
    have hlast : o.entries.getLast?.getD 0 ≤ c := by
      cases hl : o.entries.getLast? with
      | none => exact Nat.zero_le _
      | some n => exact h n (List.mem_of_getLast? hl)
    unfold MemOp.entryOf
    rw [List.getD_eq_getElem?_getD]
    cases hj : o.entries[j]? with
    | none => exact Nat.not_lt.2 hlast
    | some n => exact Nat.not_lt.2 (h n (List.mem_of_getElem? hj))
  have hzip {α : Type} (l : List α) : (l.zip (List.range l.length)).map (fun e => e.1) = l := List.map_fst_zip (by simp)
  unfold MemOp.recapture
  split
  · rfl
  · simp only [hlate, decide_false, Bool.false_eq_true, if_false, hzip, ite_self]
    split <;> split <;> split <;> rfl

/-! ## A completion -/

theorem Group.recapture_keeps (g : Group) (c : Nat) : { g.recapture c with ops := g.ops } = g := rfl

/-- A group that goes on has not exited. -/
theorem Group.goesOn_not_exited {g : Group} (h : g.frontier ≠ [] ∨ g.clause.isSome = true ∨ g.hold.isSome = true) : g.exited = false := by
  rcases h with h | h | h
  · exact Group.not_exited (.inl h)
  · exact Group.not_exited (.inr h)
  · have : g.hold.isNone = false := by simpa [← Option.isSome_iff_ne_none] using h
    simp [Group.exited, this]

/-- The group after an operation has completed at cycle `c`. -/
def Group.completed (g : Group) (op : Nat) (o : MemOp) (c : Nat) : Group := (((g.writeResults o).writeShadows o).recapture c).ended op o

/-- The group as `y` has it but for what a completion may change, which is `x`'s. -/
def Group.besides (x y : Group) : Group := { y with v := x.v, s := x.s, desc := x.desc, f := x.f, ops := x.ops }

section
variable (g : Group) (op : Nat) {o : MemOp} (c : Nat) {α : Type} (q : Group → α)

theorem Group.ended_reads (hq : ∀ y f ops, q { y with f := f, ops := ops } = q y) : q (g.ended op o) = q g := by
  rw [← hq (g.ended op o) g.f g.ops, g.ended_keeps]

theorem Group.writeShadows_reads (hq : ∀ y d, q { y with desc := d } = q y) : q (g.writeShadows o) = q g := by
  rw [← hq (g.writeShadows o) g.desc, g.writeShadows_keeps]

theorem Group.writeResults_reads (h : o.dropped = []) (hq : ∀ y v s, q { y with v := v, s := s } = q y) : q (g.writeResults o) = q g := by
  rw [← hq (g.writeResults o) g.v g.s, g.writeResults_keeps h]

/-- A completion changes registers, shadows, flags and operations only. -/
theorem Group.completed_reads (h : o.dropped = []) (hq : ∀ y v s d f ops, q { y with v := v, s := s, desc := d, f := f, ops := ops } = q y) :
    q (g.completed op o c) = q g :=
  calc q (g.completed op o c) = q (((g.writeResults o).writeShadows o).recapture c) := Group.ended_reads _ op q fun y f ops => hq y y.v y.s y.desc f ops
    _ = q ((g.writeResults o).writeShadows o) := hq ((g.writeResults o).writeShadows o) _ _ _ _ _
    _ = q (g.writeResults o) := Group.writeShadows_reads _ q fun y d => hq y y.v y.s d y.f y.ops
    _ = q g := g.writeResults_reads q h fun y v s => hq y v s y.desc y.f y.ops

end

theorem Group.completed_v (g : Group) (op : Nat) {o : MemOp} (c : Nat) (h : o.dropped = []) : (g.completed op o c).v = (g.writeLanes o.writeLanes o.res).v :=
  (Group.ended_reads _ op Group.v fun _ _ _ => rfl).trans ((Group.writeShadows_reads _ Group.v fun _ _ => rfl).trans (g.writeResults_v h))

theorem Group.readS_completed (g : Group) (op : Nat) {o : MemOp} (c : Nat) (h : o.dropped = []) (n : Nat) : (g.completed op o c).readS n =
    match o.sres, uniDest o.word with
    | some v, some d => if d = n ∧ n ≠ 63 then v else g.readS n
    | _, _ => g.readS n :=
  (Group.ended_reads _ op (fun y => y.readS n) fun _ _ _ => rfl).trans
    ((Group.writeShadows_reads _ (fun y => y.readS n) fun _ _ => rfl).trans (g.readS_writeResults h n))

theorem Group.completed_desc (g : Group) (op : Nat) {o : MemOp} (c : Nat) : (g.completed op o c).desc = ((g.writeResults o).writeShadows o).desc :=
  Group.ended_reads _ op Group.desc fun _ _ _ => rfl

theorem Group.readF_completed (g : Group) (op : Nat) {o : MemOp} (c : Nat) (h : o.dropped = []) (n : Nat) :
    (g.completed op o c).readF n = if o.flag = some n then g.readF n - 1 else g.readF n := by
  have hr : (((g.writeResults o).writeShadows o).recapture c).readF n = g.readF n :=
    (Group.writeShadows_reads _ (fun y => y.readF n) fun _ _ => rfl).trans (g.writeResults_reads (fun y => y.readF n) h fun _ _ _ => rfl)
  exact (Group.ended_f _ _ _ _).trans (by rw [hr])

theorem tabFind_map {α β : Type} (t : Tab α) (f : α → β) (k : Nat) : tabFind (t.map (fun e => (e.1, f e.2))) k = (tabFind t k).map f := by
  induction t with
  | nil => rfl
  | cons e t ih =>
    simp only [List.map_cons, tabFind, ih]
    split <;> rfl

/-- The other operations follow the registers that they have still to read. -/
theorem Group.completed_ops (g : Group) (op : Nat) {o : MemOp} (c : Nat) (h : o.dropped = []) :
    tabFind (g.completed op o c).ops op = none ∧
    ∃ y, ∀ k, k ≠ op → tabFind (g.completed op o c).ops k = (tabFind g.ops k).map (MemOp.recapture y c) := by
  have hops : ((g.writeResults o).writeShadows o).ops = g.ops :=
    (Group.writeShadows_reads _ Group.ops fun _ _ => rfl).trans (g.writeResults_reads Group.ops h fun _ _ _ => rfl)
  refine ⟨tabFind_tabDel_same _ _, (g.writeResults o).writeShadows o, fun k hk => ?_⟩
  rw [← hops]
  exact (tabFind_tabDel_ne _ hk).trans (tabFind_map _ _ _)

theorem MemOp.recapture_reads {α : Type} (g : Group) (c : Nat) (o : MemOp) (q : MemOp → α) (hq : ∀ y d e m, q { y with data := d, descs := e, cmp := m } = q y) :
    q (o.recapture g c) = q o := by
  rw [← hq (o.recapture g c) o.data o.descs o.cmp, o.recapture_keeps]

theorem tabPut_tabPut {α : Type} (t : Tab α) (k : Nat) (a b : α) : tabPut (tabPut t k a) k b = tabPut t k b := by
  induction t with
  | nil => simp [tabPut]
  | cons e t ih =>
    simp only [tabPut]
    split
    · simp [tabPut]
    · split
      · simp [tabPut]
      · simp_all [tabPut]

/-- Two changes of one group are one. -/
theorem State.modGroup_modGroup (s : State) (gid : Nat) (f f' : Group → Group) : (s.modGroup gid f).modGroup gid f' = s.modGroup gid fun x => f' (f x) := by
  have h : tabUpd (tabUpd s.groups gid f) gid f' = tabUpd s.groups gid fun x => f' (f x) := by
    cases hg : tabFind s.groups gid with
    | none => simp [tabUpd, hg]
    | some g => simp [tabUpd, hg, tabPut_tabPut]
  exact congrArg (fun l => ({ s with groups := l } : State)) h

/-- An operation that no twin shares completes in a group that goes on. -/
theorem completeOp_goesOn {s : State} {gid op : Nat} {g : Group} {o : MemOp} (hg : tabFind s.groups gid = some g) (ho : tabFind g.ops op = some o)
    (hf : o.fwd = none) (hd : o.dropped = []) (h : g.frontier ≠ [] ∨ g.clause.isSome = true ∨ g.hold.isSome = true) :
    s.completeOp gid op = s.modGroup gid fun x => x.completed op o s.cycle := by
  let y := (g.writeResults o).writeShadows o
  have hops : y.ops = g.ops := (Group.writeShadows_reads _ Group.ops fun _ _ => rfl).trans (g.writeResults_reads Group.ops hd fun _ _ _ => rfl)
  have hr : tabFind (y.recapture s.cycle).ops op = some (o.recapture y s.cycle) := by
    refine (tabFind_map _ _ _).trans ?_
    rw [hops, ho]
    rfl
  have hflag : (o.recapture y s.cycle).flag = o.flag := o.recapture_reads y s.cycle MemOp.flag fun _ _ _ _ => rfl
  have hfwd : (o.recapture y s.cycle).fwd = none := (o.recapture_reads y s.cycle MemOp.fwd fun _ _ _ _ => rfl).trans hf
  have hex : (g.completed op o s.cycle).exited = false := Group.goesOn_not_exited (by
    rwa [g.completed_reads op s.cycle Group.frontier hd fun _ _ _ _ _ _ => rfl, g.completed_reads op s.cycle Group.clause hd fun _ _ _ _ _ _ => rfl,
      g.completed_reads op s.cycle Group.hold hd fun _ _ _ _ _ _ => rfl])
  have hg1 : tabFind (s.modGroup gid fun x => ((x.writeResults o).writeShadows o).recapture s.cycle).groups gid = some (y.recapture s.cycle) := by
    simp [hg, y]
  simp only [State.completeOp, State.group_eq hg, ho, State.endOp, State.group_eq hg1, hr, hfwd, Option.bind_some, hflag, State.modGroup_modGroup]
  exact exitCheck_goesOn (g := g.completed op o s.cycle) (by simp [hg, Group.completed, Group.ended]) hex

end Sys2Proof.Machine
end

section
/-! PROOFS. Loads perform, and accesses complete. -/

namespace Sys2Proof.Machine

set_option Elab.async false
open Claims

/-! ## A completed access -/

/-- A change of one group leaves the memory, the teams, the contexts and the other groups as they were. -/
theorem State.modGroup_rest (s : State) (gid : Nat) (f : Group → Group) :
    SameGroupsBut gid s (s.modGroup gid f) ∧ SameMemory s (s.modGroup gid f) ∧ (s.modGroup gid f).teams = s.teams ∧ (s.modGroup gid f).ctxs = s.ctxs :=
  ⟨fun k hk => by simp [tabFind_tabUpd_ne _ _ hk], ⟨fun _ => rfl, fun _ => rfl, fun _ => rfl⟩, rfl, rfl⟩

/-- An access that no log holds has been performed. -/
theorem opPerformed_unlogged {s : State} {gid op : Nat} {g : Group} {o : MemOp} (hg : tabFind s.groups gid = some g) (ho : tabFind g.ops op = some o)
    (h : ∀ n, o.st ≠ .logged n) : s.opPerformed gid op = s.modOp gid op fun o => { o with st := .performed } := by
  have hst : (tabFind (s.group gid).ops op).map (fun (o : MemOp) => o.st) = some o.st := by rw [State.group_eq hg, ho]; rfl
  unfold State.opPerformed
  split
  · next slot hs => exact absurd (Option.some.inj (hst.symm.trans hs)) (h slot)
  · rfl
  · next hn => rw [hst] at hn; cases hn

/-- What a completion leaves of its group. -/
theorem completed_access (g : Group) (op c : Nat) {o : MemOp} (hd : o.dropped = []) :
    let h := g.completed op o c
    tabFind h.ops op = none ∧
    (∀ k, k ≠ op → (tabFind h.ops k).map (fun o => { o with data := [], descs := [], cmp := [] }) =
      (tabFind g.ops k).map (fun o => { o with data := [], descs := [], cmp := [] })) ∧
    (∀ k x, k ≠ op → tabFind g.ops k = some x → (∀ n ∈ x.entries, n ≤ c) → tabFind h.ops k = some x) ∧
    (∀ d a f n z x, o.word = .vldf d a f n z x → (o.res.map (fun r => r.1)).Nodup →
      (∀ j r vs q, o.res[j]? = some (r, vs) → q < 4 → h.readDesc r q =
        if (List.range 16).any (fun l => o.lanes.getLsbD (16 * q + l)) then o.descs.getD (4 * j + q) 0
        else if o.pfx.z ∧ (List.range 16).any (fun l => o.bundle.getLsbD (16 * q + l)) = true then 0 else g.readDesc r q) ∧
      (∀ r q, q < 4 → r ∉ o.res.map (fun r => r.1) → h.readDesc r q = g.readDesc r q)) ∧
    ((match o.word with | .vldf .. => False | _ => True) → h.desc = g.desc) := by
  obtain ⟨hgone, y, hops⟩ := g.completed_ops op c hd
  have hdesc := g.completed_desc op (o := o) c
  have hread (r q : Nat) : (g.completed op o c).readDesc r q = ((g.writeResults o).writeShadows o).readDesc r q := by rw [Group.readDesc, hdesc, Group.readDesc]
  have hres (r q : Nat) : (g.writeResults o).readDesc r q = g.readDesc r q := g.writeResults_reads (fun x => x.readDesc r q) hd fun _ _ _ => rfl
  refine ⟨hgone, fun k hk => ?_, fun k x hk hx he => ?_, fun d a f n z x hw hn => ⟨fun j r vs q hj hq => ?_, fun r q hq hr => ?_⟩, fun hw => ?_⟩
  · rw [hops k hk, Option.map_map]
    refine congrArg (fun f => Option.map f _) (funext fun o => ?_)
    exact o.recapture_reads y c (fun o => { o with data := [], descs := [], cmp := [] }) fun _ _ _ _ => rfl
  · rw [hops k hk, hx]
    exact congrArg some (MemOp.recapture_read he)
  · rw [hread, ((g.writeResults o).readDesc_writeShadows hw hq).2 hn j r vs hj, hres]
    simp only [MemOp.shadow, List.any_map, Function.comp_def, Bool.and_eq_true]
    split
    · rfl
    · split <;> rfl
  · rw [hread, ((g.writeResults o).readDesc_writeShadows hw hq).1 r hr, hres]
  · rw [hdesc, (g.writeResults o).writeShadows_other hw]
    exact g.writeResults_reads Group.desc hd fun _ _ _ => rfl

/-- The lane results do not depend on what operations a group has. -/
theorem Group.writeLanes_v_ops (m : Mask) (rs : List (Nat × List Word)) (g : Group) (ops : Tab MemOp) :
    (({ g with ops := ops } : Group).writeLanes m rs).v = (g.writeLanes m rs).v := by
  induction rs generalizing g with
  | nil => rfl
  | cons r rs ih => exact ih (g.writeVM m r.1 r.2)

/-- A completion is one change of its group; an atomic's operation has been marked as performed before. -/
theorem exec_completes {i : Instr} {s : State} {gid op : Nat} {g : Group} {o : MemOp}
    (hi : i = .loadComplete ∨ i = .storeComplete ∨ (i = .atomicComplete ∧ ∀ n, o.st ≠ .logged n)) (hev : s.ev = { a := gid, b := op })
    (hg : tabFind s.groups gid = some g) (ho : tabFind g.ops op = some o) (hf : o.fwd = none) (hd : o.dropped = [])
    (hgo : g.frontier ≠ [] ∨ g.clause.isSome = true ∨ g.hold.isSome = true) :
    ∃ f ops st, exec i s = .next (s.modGroup gid f) ∧ f g = ({ g with ops := ops } : Group).completed op { o with st := st } s.cycle ∧
      ∀ k, k ≠ op → tabFind ops k = tabFind g.ops k := by
  have hnow : s.completeOp s.ev.a s.ev.b = s.modGroup gid fun x => x.completed op o s.cycle := by
    rw [hev]
    exact completeOp_goesOn hg ho hf hd hgo
  rcases hi with rfl | rfl | ⟨rfl, hlog⟩
  · exact ⟨_, g.ops, o.st, congrArg _ hnow, rfl, fun _ _ => rfl⟩
  · exact ⟨_, g.ops, o.st, congrArg _ hnow, rfl, fun _ _ => rfl⟩
  · let p : MemOp := { o with st := .performed }
    have hp : tabFind (tabPut g.ops op p) op = some p := tabFind_tabPut_same _ _ _
    have hdone : (s.opPerformed s.ev.a s.ev.b).completeOp s.ev.a s.ev.b = (s.modOp gid op fun o => { o with st := .performed }).modGroup gid
        fun x => x.completed op p s.cycle := by
      rw [hev]
      dsimp only
      rw [opPerformed_unlogged hg ho hlog]
      exact completeOp_goesOn (State.modOp_found hg ho _) hp hf hd hgo
    refine ⟨_, tabPut g.ops op p, .performed, (congrArg _ hdone).trans (congrArg _ (State.modGroup_modGroup _ _ _ _)), ?_, fun k hk => tabFind_tabPut_ne _ _ hk⟩
    dsimp only
    rw [ho]

theorem accessCompletes : AccessCompletes := by
  intro i s gid op g o hi hev hg ho hf hd hgo
  obtain ⟨f, ops, st, hexec, hgrp, hsame⟩ := exec_completes hi hev hg ho hf hd hgo
  have hfind : tabFind (s.modGroup gid f).groups gid = some (({ g with ops := ops } : Group).completed op { o with st := st } s.cycle) := by simp [hg, hgrp]
  obtain ⟨hgone, hops, hfix, hvldf, hdesc⟩ := completed_access { g with ops := ops } op s.cycle (o := { o with st := st }) hd
  obtain ⟨hoth, hmem, hteams, hctxs⟩ := s.modGroup_rest gid f
  have reads {α : Type} (q : Group → α) (hq : ∀ y v s d f ops, q { y with v := v, s := s, desc := d, f := f, ops := ops } = q y) :
      q (({ g with ops := ops } : Group).completed op { o with st := st } s.cycle) = q g :=
    (Group.completed_reads _ op s.cycle q hd hq).trans (hq g g.v g.s g.desc g.f ops)
  refine ⟨_, _, hexec, hfind, hgone, fun k hk => ?_, fun k x hk hx => ?_, Group.readF_completed _ op s.cycle hd, ?_, fun n _ => Group.readS_completed _ op s.cycle hd n,
    hvldf, hdesc, reads Group.k fun _ _ _ _ _ _ => rfl, reads Group.fpstat fun _ _ _ _ _ _ => rfl, reads Group.pend fun _ _ _ _ _ _ => rfl,
    reads Group.clause fun _ _ _ _ _ _ => rfl, reads Group.frontier fun _ _ _ _ _ _ => rfl, reads Group.hold fun _ _ _ _ _ _ => rfl, hoth, hmem, hteams, hctxs⟩
  · rw [← hsame k hk]
    exact hops k hk
  · rw [← hsame k hk] at hx
    exact hfix k x hk hx
  · exact (Group.completed_v _ op (o := { o with st := st }) s.cycle hd).trans (Group.writeLanes_v_ops o.writeLanes o.res g ops)

/-! ## A read of sectors at hand -/

/-- From `s` on only the replacement bits of the L1s have changed. -/
structure LruOnly (s t : State) : Prop where
  rest : { t with plots := s.plots } = s
  plot : ∀ p, { t.plot p with l1Lru := (s.plot p).l1Lru } = s.plot p

theorem LruOnly.refl (s : State) : LruOnly s s := ⟨rfl, fun _ => rfl⟩

theorem LruOnly.trans {s t v : State} (a : LruOnly s t) (b : LruOnly t v) : LruOnly s v where
  rest := (congrArg (fun x : State => { x with plots := s.plots }) b.rest).trans a.rest
  plot p := (congrArg (fun x : Plot => { x with l1Lru := (s.plot p).l1Lru }) (b.plot p)).trans (a.plot p)

theorem LruOnly.read {s t : State} (h : LruOnly s t) {α : Type} (q : State → α) (hq : ∀ (v : State) ps, q { v with plots := ps } = q v) : q t = q s := by
  rw [← hq t s.plots, h.rest]

theorem LruOnly.readPlot {s t : State} (h : LruOnly s t) (p : Nat) {α : Type} (q : Plot → α) (hq : ∀ (x : Plot) l, q { x with l1Lru := l } = q x) :
    q (t.plot p) = q (s.plot p) := by
  rw [← hq (t.plot p) (s.plot p).l1Lru, h.plot]

theorem LruOnly.l1State {s t : State} (h : LruOnly s t) (p a : Nat) : t.l1State p a = s.l1State p a := by
  have hl : (t.plot p).l1 = (s.plot p).l1 := h.readPlot p Plot.l1 fun _ _ => rfl
  have hs : l1Sets (t.plot p) = l1Sets (s.plot p) := h.readPlot p l1Sets fun _ _ => rfl
  simp only [State.l1State, State.l1Key, hl, hs]

theorem LruOnly.l1Home {s t : State} (h : LruOnly s t) (p a : Nat) : t.l1Home p a = s.l1Home p a := by
  have hs : (t.plot p).slots = (s.plot p).slots := h.readPlot p Plot.slots fun _ _ => rfl
  have hg : t.group = s.group := h.read State.group fun _ _ => rfl
  have ht : t.team = s.team := h.read State.team fun _ _ => rfl
  have hc : t.cluster = s.cluster := h.read State.cluster fun _ _ => rfl
  simp only [State.l1Home, hs, hg, ht, hc]

theorem LruOnly.atHand {s t : State} (h : LruOnly s t) {p : Nat} {x : Place} (hx : atHand s p x) : atHand t p x := by
  cases x with
  | sh _ => trivial
  | mem d e => exact hx.imp_right fun hx => by rwa [h.l1Home, h.l1State]

theorem State.l1Touch_lru (s : State) (p a : Nat) : LruOnly s (s.l1Touch p a) := by
  unfold State.l1Touch
  split
  · next k _ =>
    refine ⟨rfl, fun q => ?_⟩
    by_cases hq : q = p
    · subst hq
      rw [State.plot_modPlot_same]
    · rw [State.plot_modPlot_ne _ _ hq]
  · exact LruOnly.refl s

/-- A read of a sector at hand leaves the directory as it was. -/
theorem State.touchRead_lru {s : State} {p d e : Nat} (c : Nat) (h : atHand s p (.mem d e)) : LruOnly s (s.touchRead p (d / 32 * 32) e c) := by
  unfold State.touchRead
  rcases h with h | h
  · simp [h, LruOnly.refl]
  · rw [if_pos h]
    split
    · exact LruOnly.refl s
    · exact s.l1Touch_lru _ _

/-- Reads of sectors at hand leave the directory as it was; the PGC's pass it by. -/
theorem State.touchReads_lru {s : State} {gid : Nat} (na : Bool) {ps : List Place}
    (h : (s.group gid).pgc = true ∨ ∀ x ∈ ps, atHand s (s.group gid).plot x) : LruOnly s (s.touchReads gid na ps) := by
  unfold State.touchReads
  dsimp only
  split
  · exact LruOnly.refl s
  · next hp =>
    have hat := h.resolve_left hp
    refine List.foldlRecOn _ _ (LruOnly.refl s) fun t ht x hx => ?_
    obtain ⟨y, hy, hxy⟩ := List.mem_filterMap.1 (List.mem_eraseDups.1 hx)
    cases y with
    | sh _ => cases hxy
    | mem d e =>
      cases hxy
      have hhere := ht.atHand (hat _ hy)
      have hmiss : (na && (t.l1State (t.l1Home (s.group gid).plot (d / 32 * 32)) (d / 32 * 32)).isNone && cacheable (d / 32 * 32) e) = false := by
        rcases hhere with h | h
        · simp [h]
        · simp [Option.isSome_iff_ne_none.1 h]
      simp only [hmiss, Bool.false_eq_true, if_false]
      exact ht.trans (State.touchRead_lru _ hhere)

/-! ## A load that performs -/

/-- A load reads its sectors and puts what it found into its operation (R190, R191, R197, R208). -/
theorem performLoad_fills (s : State) (gid op : Nat) (o : MemOp) (ps : List (Elem × Place)) : ∃ fill : MemOp → MemOp,
    s.performLoad gid op o ps = (((s.touchReads gid (noAlloc o.word) (ps.map (fun x => x.2))).modOp gid op fill).opPerformed gid op).after 0 .loadComplete
      { a := gid, b := op } ∧
    ∀ y, (fill y).st = y.st ∧
      (fill y).res = loadRegs o.word (ps.map (fun x => (x.1.k, x.1.lane, extendLoad o.word (bytesNat (s.loadElem gid x.1.addr x.2 x.1.n))))) ∧
      (∀ d b i w sx f c x, o.word = .sld d b i w sx f c → ps.head? = some x →
        (fill y).sres = some { val := BitVec.ofNat 64 (extendLoad o.word (bytesNat (s.loadElem gid x.1.addr x.2 x.1.n))) }) ∧
      (∀ d b i f c x, o.word = .rld d b i f c → ps.head? = some x →
        (fill y).sres = some (s.rldResult gid o x.1.addr x.2 (BitVec.ofNat 64 (bytesNat (s.loadElem gid x.1.addr x.2 x.1.n))))) ∧
      (∀ d a f n z x, o.word = .vldf d a f n z x → (fill y).descs = s.vldfDescs gid o ps) := by
  refine ⟨_, rfl, fun y => ⟨rfl, rfl, ?_, ?_, ?_⟩⟩
  · intro d b i w sx f c x hw hx
    obtain ⟨ps, rfl⟩ := List.head?_eq_some_iff.1 hx
    simp [hw]
  · intro d b i f c x hw hx
    obtain ⟨ps, rfl⟩ := List.head?_eq_some_iff.1 hx
    simp [hw, extendLoad]
  · intro d a f n z x hw
    simp [hw]

/-- An access at its turn that reads and whose bytes are clean is a load. -/
theorem exec_performs_load {s s1 : State} {gid op : Nat} {g : Group} {o : MemOp} {ps : List (Elem × Place)} (h : Performs s gid op g o s1 ps)
    (hacc : isAccessWord o.word = true) (hw : isWriteWord o.word = false) : exec .memoryAccessPerform s = .next (s1.performLoad gid op o ps) := by
  have hatom : atomicScope o.word = none := by
    unfold isWriteWord at hw
    simpa using (Bool.or_eq_false_iff.1 hw).2
  obtain ⟨hfill, hwake, hwait⟩ := h.filled
  have hpgc : s1.group gid = g := State.group_eq (by rw [h.kept.1]; exact h.group)
  have hrun : exec .memoryAccessPerform s = .next (s.inTurn s.ev.a s.ev.b .memoryAccessPerform fun o => s.performOp s.ev.a s.ev.b o) := rfl
  have hclean := h.clean
  simp only [hatom, Option.getD_none, decide_true] at hclean
  rw [hrun, h.event]
  dsimp only
  rw [inTurn_now h.group h.oper h.still h.inOrder h.inPlace hfill, performOp_access hacc]
  simp only [State.performAccess, h.issued, h.inOrder, h.still, h.checked, hwake, hwait, hw, hatom, State.group_eq h.group]
  simp [hclean]

/-- The bytes that a group's load finds in memory, its own team's buffered ones first. -/
theorem loadElem_seen {s : State} {gid : Nat} {g : Group} (hg : s.group gid = g) (hp : g.pgc = false) (a : DWord) (dpa pte n : Nat) :
    s.loadElem gid a (.mem dpa pte) n = (List.range n).map (fun j => seenByte s g.team (a.toNat + j) (dpa + j)) := by
  simp only [State.loadElem, hg, hp, Bool.false_eq_true, if_false, seenByte]
  refine List.map_congr_left fun j _ => ?_
  cases cbByte (s.team g.team) (a.toNat + j) <;> rfl

/-- A reference read from an object's word carries the word's tag. -/
theorem rldResult_object {s : State} {gid : Nat} {g : Group} {o : MemOp} (hg : s.group gid = g) {h : DWord} (ho : o.ref = some h) (a : DWord) (dpa pte : Nat) (v : DWord) :
    let tag := (cbTag (s.team g.team) a.toNat).getD (!isHost dpa && (s.readDesc dpa).getLsbD (16 + dpa % 64 / 8))
    s.rldResult gid o a (.mem dpa pte) v = { val := v, tag := tag, base := if tag then v else 0 } := by
  have htag : descTag (s.readDesc dpa) (dpa % 64 / 8) = (!isHost dpa && (s.readDesc dpa).getLsbD (16 + dpa % 64 / 8)) := by
    by_cases hh : isHost dpa = true <;> simp [descTag, State.readDesc, hasMeta, hh]
  simp only [State.rldResult, hg, ho, ← htag]
  cases cbTag (s.team g.team) a.toNat <;> rfl

/-- A value read from plain memory that names no header is no reference. -/
theorem rldResult_plain {s : State} {gid : Nat} {g : Group} {o : MemOp} (hg : s.group gid = g) (ho : o.ref = none) (a : DWord) (pl : Place) {v : DWord}
    (h : g.pgc = true ∨ v.toNat % 64 ≠ 0 ∨ 2 ^ 57 ≤ v.toNat) : s.rldResult gid o a pl v = { val := v } := by
  have hno : (!g.pgc && decide (v.toNat % 64 = 0) && decide (v.toNat < 2 ^ 57)) = false := by
    rcases h with h | h | h
    · simp [h]
    · simp [h]
    · simp only [Nat.not_lt.2 h, decide_false, Bool.and_false]
  simp only [State.rldResult, hg, ho, hno, Bool.false_and]
  rfl

/-- A value read from plain memory that may name a header is a reference where a header stands. -/
theorem rldResult_header {s y : State} {gid : Nat} {g : Group} {o : MemOp} (hg : s.group gid = g) (ho : o.ref = none) (a : DWord) (pl : Place) {v : DWord}
    (hp : g.pgc = false) (h64 : v.toNat % 64 = 0) (h57 : v.toNat < 2 ^ 57) {x : Xlat} {hdr : Nat} (hh : s.headerAt g.plot g.ctx v.toNat = (y, x, hdr)) :
    let live := match (generalizing := false) x with | .ok _ pte => decide (pteFmt pte = 2) && decide (hdr / 2 ^ 62 % 4 ≠ 0) | _ => false
    s.rldResult gid o a pl v = { val := v, tag := live, base := if live then v else 0 } := by
  simp only [State.rldResult, hg, ho, hp, h64, h57, hh, Bool.not_false, decide_true, Bool.true_and]
  cases x <;> rfl

/-- The entry of a list of rows of four. -/
theorem getElem?_rowsOfFour {α : Type} (f : Nat → Nat → α) (n : Nat) {k q : Nat} (hk : k < n) (hq : q < 4) :
    ((List.range n).flatMap (fun k => (List.range 4).map (f k)))[4 * k + q]? = some (f k q) := by
  have hlen (m : Nat) : ((List.range m).flatMap (fun k => (List.range 4).map (f k))).length = 4 * m := by
    simp [List.length_flatMap, Nat.mul_comm]
  induction n with
  | zero => exact absurd hk (Nat.not_lt_zero k)
  | succ n ih =>
    rw [List.range_succ (n := n), List.flatMap_append]
    rcases Nat.lt_succ_iff_lt_or_eq.1 hk with h | rfl
    · rw [List.getElem?_append_left (by rw [hlen]; omega)]
      exact ih h
    · rw [List.getElem?_append_right (by rw [hlen]; omega), hlen]
      simp [hq]

/-- The descriptors of a granule load, quarter by quarter. -/
theorem vldfDescs_quarter {s : State} {gid : Nat} {g : Group} (hg : s.group gid = g) (o : MemOp) (ps : List (Elem × Place)) {k q : Nat} (hk : k < elemCount o.word)
    (hq : q < 4) : (s.vldfDescs gid o ps)[4 * k + q]? = some (quarterDesc s g.team o ps k q) := by
  refine (getElem?_rowsOfFour _ _ hk hq).trans (congrArg some ?_)
  rw [hg]
  unfold quarterDesc
  split
  · rfl
  · cases ps.find? (fun x => decide (x.1.k = k) && decide (x.1.lane / 16 = q)) with
    | none => rfl
    | some x =>
      obtain ⟨e, pl⟩ := x
      cases pl with
      | sh _ => rfl
      | mem dpa pte => cases h : isHost dpa <;> simp [hasMeta, h]

theorem loadPerforms : LoadPerforms := by
  intro s s1 gid op g o ps hp hacc hw hat
  obtain ⟨hgroups, hagenda, hteams⟩ := hp.kept
  have hg1 : tabFind s1.groups gid = some g := by rw [hgroups]; exact hp.group
  have hgrp := State.group_eq hg1
  obtain ⟨fill, hrun, hfill⟩ := performLoad_fills s1 gid op o ps
  obtain ⟨hst, hres, hsld, hrld, hvldf⟩ := hfill o
  have hlru : LruOnly s1 (s1.touchReads gid (noAlloc o.word) (ps.map (fun x => x.2))) := State.touchReads_lru _ (by
    rw [hgrp]
    refine hat.imp_right fun h x hx => ?_
    obtain ⟨y, hy, rfl⟩ := List.mem_map.1 hx
    exact h y hy)
  generalize s1.touchReads gid (noAlloc o.word) (ps.map (fun x => x.2)) = m at hrun hlru
  have hgm : tabFind m.groups gid = some g := by rw [hlru.read State.groups fun _ _ => rfl]; exact hg1
  have hgf := State.modOp_found hgm hp.oper fill
  have hissued : ∀ n, (fill o).st ≠ .logged n := fun n hn => by rw [hst, hp.issued] at hn; cases hn
  rw [opPerformed_unlogged hgf (tabFind_tabPut_same _ _ _) hissued] at hrun
  have hgt := State.modOp_found hgf (tabFind_tabPut_same _ _ _) fun o => { o with st := .performed }
  have hsame : SameButIssue s1 (((m.modOp gid op fill).modOp gid op fun o => { o with st := .performed }).after 0 .loadComplete { a := gid, b := op }) := by
    have h := congrArg (fun x : State => { x with groups := s1.groups, todo := s1.todo, agenda := s1.agenda, nextId := s1.nextId }) hlru.rest
    exact h
  refine ⟨_, { fill o with st := .performed }, (exec_performs_load hp hacc hw).trans (congrArg _ hrun), ?_, rfl, hres, fun d b i w sx f c x => hsld d b i w sx f c x,
    ?_, fun d b i f c x hword hx => ?_, fun d a f n z x hword k q hk hq => ?_, ?_, ?_, fun k hk => ?_, hsame.memory⟩
  · exact (congrArg (fun y : Group => tabFind y.ops op) (State.group_eq hgt)).trans (tabFind_tabPut_same _ _ _)
  · intro x _ dpa pte hpgc hx
    rw [hx]
    exact loadElem_seen hgrp hpgc _ _ _ _
  · have hsres := hrld d b i f c x hword hx
    refine ⟨fun h dpa pte href hpl => ?_, fun href hplain => ?_, fun href hpgc h64 h57 y x2 hdr hh => ?_⟩
    · rw [hpl] at hsres ⊢
      exact hsres.trans (congrArg some (rldResult_object hgrp href _ _ _ _))
    · exact hsres.trans (congrArg some (rldResult_plain hgrp href _ _ hplain))
    · exact hsres.trans (congrArg some (rldResult_header hgrp href _ _ hpgc h64 h57 hh))
  · exact (congrArg (fun l => l[4 * k + q]?) (hvldf d a f n z x hword)).trans (vldfDescs_quarter hgrp o ps hk hq)
  · have hcycle : m.cycle = s1.cycle := hlru.read State.cycle fun _ _ => rfl
    rw [← hcycle]
    exact State.atCycle_inAgenda _ _ _ _
  · have hreg : SameRegisters g (((m.modOp gid op fill).modOp gid op fun o => { o with st := .performed }).group gid) := by
      rw [State.group_eq hgt]
      exact sameRegisters_refl g
    exact hreg
  · rw [← hgroups, ← show m.groups = s1.groups from hlru.read State.groups fun _ _ => rfl]
    exact (tabFind_tabUpd_ne _ _ hk).trans (tabFind_tabUpd_ne _ _ hk)

/-- Settles O20: what a load finds, and what a completion writes. -/
theorem loadsComplete : Obligations.LoadsComplete := ⟨loadPerforms, accessCompletes⟩

end Sys2Proof.Machine
end

section
/-! PROOFS. Launch blocks: the reasons to turn one away, acceptance and completion. -/

namespace Sys2Proof.Machine

set_option Elab.async false
open Claims

/-! ## The reasons of R35 -/

/-- The number of the first reason is its place in the list. -/
theorem firstReason_eq (l : List Bool) (n : Nat) : firstReason (n + 1) l = if l.any id then l.findIdx id + 1 + n else 0 := by
  induction l generalizing n with
  | nil => rfl
  | cons r l ih =>
    cases r with
    | true => simp [firstReason, Nat.add_comm, List.findIdx_cons]
    | false =>
      simp only [firstReason, Bool.false_eq_true, if_false, ih, List.any_cons, List.findIdx_cons, id, Bool.false_or]
      split
      · simp only [cond_false]
        omega
      · rfl

/-- A field of a block as the model reads it. -/
theorem fld_toNat (b : BitVec 512) (i n : Nat) : fld b.toNat i n = (b.extractLsb' i n).toNat := by
  rw [fld, BitVec.extractLsb'_toNat, Nat.shiftRight_eq_div_pow]

theorem fld_eq_iff (b : BitVec 512) (i n : Nat) (k : BitVec n) : fld b.toNat i n = k.toNat ↔ b.extractLsb' i n = k := by
  rw [fld_toNat, BitVec.toNat_inj]

theorem fld_ne_iff (b : BitVec 512) (i n : Nat) (k : BitVec n) : fld b.toNat i n ≠ k.toNat ↔ b.extractLsb' i n ≠ k := (fld_eq_iff b i n k).not

/-- A lower part of a field. -/
theorem fld_mod (v i n m : Nat) (h : m ≤ n) : fld v i n % 2 ^ m = fld v i m := by
  rw [fld, fld, Nat.mod_mod_of_dvd _ (Nat.pow_dvd_pow 2 h)]

theorem fld_getLsbD (b : BitVec 512) (i : Nat) : fld b.toNat i 1 = 1 ↔ b.getLsbD i = true := by
  simp [fld, BitVec.getLsbD, Nat.testBit_eq_decide_div_mod_eq]

theorem fld_last (b : BitVec 512) : b.toNat / 2 ^ 441 = fld b.toNat 441 71 :=
  (Nat.mod_eq_of_lt (Nat.div_lt_of_lt_mul (by rw [← Nat.pow_add]; exact b.isLt))).symm

/-- Bits that a block must leave zero. -/
theorem reserved_eq (b : BitVec 512) :
    (decide (fld b.toNat 57 7 ≠ 0) || decide (fld b.toNat 152 40 ≠ 0) || decide (fld b.toNat 249 7 ≠ 0) || decide (b.toNat / 2 ^ 441 ≠ 0)) =
    (decide (b.extractLsb' 57 7 ≠ 0) || decide (b.extractLsb' 152 40 ≠ 0) || decide (b.extractLsb' 249 7 ≠ 0) || decide (b.extractLsb' 441 71 ≠ 0)) := by
  rw [fld_last]
  simp only [← fld_ne_iff]
  rfl

/-- The alignment of an address of a block. -/
theorem aligned_eq (b : BitVec 512) {i n : Nat} (m : Nat) (h : m ≤ n) : decide (fld b.toNat i n % 2 ^ m ≠ 0) = decide (b.extractLsb' i m ≠ 0) := by
  rw [decide_eq_decide, fld_mod _ _ _ _ h]
  exact fld_ne_iff b i m 0

/-- The rows of a group. -/
theorem rows_eq (b : BitVec 512) : (decide (lbRows b.toNat ≤ 1) || decide (lbRows b.toNat = 7)) =
    (decide (b.extractLsb' 118 3 = 0) || decide (b.extractLsb' 118 3 = 1) || decide (b.extractLsb' 118 3 = 7)) := by
  have h (n : Nat) : (decide (n ≤ 1) || decide (n = 7)) = (decide (n = 0) || decide (n = 1) || decide (n = 7)) := by
    rw [← Bool.decide_or, ← Bool.decide_or, ← Bool.decide_or, decide_eq_decide]
    omega
  simp only [← fld_eq_iff]
  exact h _

theorem launchCode_eq (x : Context) (c serial : Nat) (b : BitVec 512) : launchCode x c serial b.toNat = firstTrue (launchReasons x c serial b) := by
  have h (l : List Bool) : firstReason 1 l = firstTrue l := firstReason_eq l 0
  unfold launchCode launchReasons
  dsimp only
  rw [h, reserved_eq, rows_eq]
  refine congrArg firstTrue ?_
  simp only [List.cons.injEq, and_true, true_and]
  refine ⟨aligned_eq b 2 (by omega), ?_, ?_, ?_, ?_, ?_, ?_, ?_, aligned_eq b 3 (by omega), ?_⟩
  · simp only [← fld_eq_iff]
    rfl
  · rw [← fld_toNat]
    rfl
  · rw [← fld_toNat, ← fld_toNat]
    rfl
  · rw [← fld_toNat]
    rfl
  · simp only [← fld_eq_iff, lbFuse, fld_getLsbD, Bool.decide_eq_true]
    rfl
  · simp only [lbAdmin, fld_getLsbD, Bool.decide_eq_true]
  · simp only [← fld_toNat, lbPreds, List.any_map, show List.range 4 = [0, 1, 2, 3] from rfl, List.any_cons, List.any_nil, Function.comp_apply, Nat.reduceMul,
      Nat.reduceAdd]
  · rw [← fld_toNat]
    rfl

/-! ## A word that completes with a value -/

/-- No lane word: its completion gives no shadow. -/
theorem uniform_not_vldf {i : Instr} (h : isLane i = false) : match (generalizing := false) i with | .vldf .. => False | _ => True := by
  cases i
  case vldf => cases h
  all_goals trivial

/-- A uniform word's result is put into its operation, the operation is marked as performed and completes: one change of its group. -/
theorem completes_with {s t : State} {gid op d : Nat} {g : Group} {o : MemOp} (hp : PlainOp s gid op g o d) (hi : o.st = .issued) (ht : t.groups = s.groups) (x : DWord) :
    ∃ f, ((t.modOp gid op fun y => { y with sres := some { val := x } }).opPerformed gid op).completeOp gid op = t.modGroup gid f ∧
      ∀ m : State, m.groups = s.groups → CompletesWith s (m.modGroup gid f) gid op g o d x := by
  let o1 : MemOp := { o with sres := some { val := x } }
  let o2 : MemOp := { o1 with st := .performed }
  let ops := tabPut (tabPut g.ops op o1) op o2
  have hg : tabFind t.groups gid = some g := ht ▸ hp.group
  have hg1 := State.modOp_found hg hp.oper fun y => { y with sres := some { val := x } }
  have ho1 : tabFind (tabPut g.ops op o1) op = some o1 := tabFind_tabPut_same _ _ _
  have hg2 := State.modOp_found hg1 ho1 fun y => { y with st := .performed }
  have ho2 : tabFind ops op = some o2 := tabFind_tabPut_same _ _ _
  have hnot : ∀ n, o1.st ≠ .logged n := fun n hn => by cases hi.symm.trans hn
  rw [opPerformed_unlogged hg1 ho1 hnot, completeOp_goesOn hg2 ho2 hp.alone hp.whole hp.goesOn]
  refine ⟨_, (State.modGroup_modGroup _ _ _ _).trans (State.modGroup_modGroup _ _ _ _), fun m hm => ⟨({ g with ops := ops } : Group).completed op o2 t.cycle, ?_,
    tabFind_tabDel_same _ _, fun n _ => ?_, Group.readF_completed _ op _ hp.whole, ?_, Group.completed_reads _ op _ Group.k hp.whole fun _ _ _ _ _ _ => rfl, ?_, ?_⟩⟩
  · simp [hm, hp.group, hp.oper, ops, o1, o2]
  · rw [Group.readS_completed _ op (o := o2) _ hp.whole, show uniDest o2.word = some d from hp.dest]
    simp only [eq_comm (a := n), o2, o1]
    rfl
  · rw [Group.completed_v _ op (o := o2) _ hp.whole, show o2.res = [] from hp.noLanes]
    rfl
  · rw [Group.completed_desc, Group.writeShadows_other _ (o := o2) (uniform_not_vldf hp.uniform)]
    exact Group.writeResults_reads _ Group.desc hp.whole fun _ _ _ => rfl
  · intro k hk
    rw [← hm]
    exact tabFind_tabUpd_ne _ _ hk

/-! ## A launch -/

/-- What a launch leaves before it completes: an accepted one has entered its queue. -/
def State.launched (m : State) (code c q : Nat) (blk : BitVec 512) (plot team : Nat) : State :=
  if code = 0 then (m.enqueueLaunch c q blk (some plot)).markCommitted team else m

/-- The answer of a launch (R34). -/
def launchAnswer (code serial : Nat) : DWord := if code = 0 then BitVec.ofNat 64 serial else BitVec.ofNat 64 (2 ^ 63 + code)

/-- A launch whose block has been read is checked, entered and completed. -/
theorem launchBlockCheck_eq {s m : State} {gid op dd : Nat} {g : Group} {o : MemOp} {blk : BitVec 512} {d a : BitVec 6} {f : BitVec 1} {q : BitVec 4}
    (hev : s.ev = { a := gid, b := op }) (hp : PlainOp s gid op g o dd) (hw : o.word = .launch d a f q) (hb : s.behindEarlier gid op o = false)
    (hm : s.opMoving gid o = false) (hs : s.shareAway gid o = false) (hf : s.fillsWait gid o = 0) (hq : queueFill (s.ctx g.ctx) q.toNat < 256)
    (hr : s.readBlock gid o.base = (m, none, some blk)) :
    let code := launchCode (m.ctx g.ctx) g.ctx (m.ctx g.ctx).nextSerial blk.toNat
    exec .launchBlockCheck s = .next (((((m.launched code g.ctx q.toNat blk g.plot g.team).modOp gid op fun y =>
      { y with sres := some { val := launchAnswer code (m.ctx g.ctx).nextSerial } }).opPerformed gid op).completeOp gid op)) := by
  have hrun : exec .launchBlockCheck s = .next (s.inTurn s.ev.a s.ev.b .launchBlockCheck fun o => s.performLaunch s.ev.a s.ev.b o) := rfl
  have hlq : launchQueue o.word = q.toNat := by rw [hw]; rfl
  rw [hrun, hev]
  dsimp only
  rw [inTurn_now hp.group hp.oper hm hb hs hf]
  simp only [State.performLaunch, State.group_eq hp.group, hlq, Nat.not_le.2 hq, if_false, State.withBlock, hr]
  rfl

theorem State.ctx_modCtx_same (s : State) (c : Nat) (f : Context → Context) : (s.modCtx c f).ctx c = f (s.ctx c) := tabGet_tabMod_same _ _ _ _

theorem State.modCtx_memory (s : State) (c : Nat) (f : Context → Context) : SameMemory s (s.modCtx c f) := ⟨fun _ => rfl, fun _ => rfl, fun _ => rfl⟩

/-- The context with a launch accepted into a queue. -/
def Context.entering (x : Context) (q : Nat) (blk : BitVec 512) (plot : Option Nat) : Context :=
  { x with launches := x.launches ++ [{ serial := x.nextSerial, queue := q, blk := blk, plot := plot }], nextSerial := Machine.nextSerial x.nextSerial }

theorem enqueueLaunch_eq (m : State) (c q : Nat) (blk : BitVec 512) (plot : Option Nat) :
    m.enqueueLaunch c q blk plot = (m.modCtx c fun x => x.entering q blk plot).after 8 .placeCluster {} := rfl

theorem enqueueLaunch_ctx (m : State) (c q : Nat) (blk : BitVec 512) (plot : Option Nat) : (m.enqueueLaunch c q blk plot).ctx c = (m.ctx c).entering q blk plot :=
  m.ctx_modCtx_same c fun x => x.entering q blk plot

theorem enqueueLaunch_memory (m : State) (c q : Nat) (blk : BitVec 512) (plot : Option Nat) : SameMemory m (m.enqueueLaunch c q blk plot) :=
  ⟨fun _ => rfl, fun _ => rfl, fun _ => rfl⟩

/-- An accepted launch stands at the end of its queue, has its serial, and the placer looks 8 cycles later. -/
theorem enqueueLaunch_enters (m : State) (c q : Nat) (blk : BitVec 512) (plot : Option Nat) :
    ((m.enqueueLaunch c q blk plot).ctx c).launches = (m.ctx c).launches ++ [{ serial := (m.ctx c).nextSerial, queue := q, blk := blk, plot := plot }] ∧
    ((m.enqueueLaunch c q blk plot).ctx c).nextSerial = (if (m.ctx c).nextSerial = 2 ^ 32 - 1 then 1 else (m.ctx c).nextSerial + 1) ∧
    InAgenda (m.enqueueLaunch c q blk plot) (m.cycle + 8) .placeCluster {} := by
  rw [enqueueLaunch_ctx]
  exact ⟨rfl, rfl, State.atCycle_inAgenda _ _ _ _⟩

theorem launches_accept {s m : State} {gid op dd : Nat} {g : Group} {o : MemOp} {blk : BitVec 512} {d a : BitVec 6} {f : BitVec 1} {q : BitVec 4}
    (hev : s.ev = { a := gid, b := op }) (hp : PlainOp s gid op g o dd) (hw : o.word = .launch d a f q) (hi : o.st = .issued) (hb : s.behindEarlier gid op o = false)
    (hm : s.opMoving gid o = false) (hs : s.shareAway gid o = false) (hf : s.fillsWait gid o = 0) (hq : queueFill (s.ctx g.ctx) q.toNat < 256)
    (hr : s.readBlock gid o.base = (m, none, some blk)) (hg : m.groups = s.groups) :
    let code := launchCode (m.ctx g.ctx) g.ctx (m.ctx g.ctx).nextSerial blk.toNat
    (code ≠ 0 → ∃ t, exec .launchBlockCheck s = .next t ∧ CompletesWith s t gid op g o dd (BitVec.ofNat 64 (2 ^ 63 + code)) ∧ t.ctxs = m.ctxs) ∧
    (code = 0 → ∃ t, exec .launchBlockCheck s = .next t ∧
      CompletesWith s t gid op g o dd (BitVec.ofNat 64 (m.ctx g.ctx).nextSerial) ∧
      (t.ctx g.ctx).launches = (m.ctx g.ctx).launches ++ [{ serial := (m.ctx g.ctx).nextSerial, queue := q.toNat, blk := blk, plot := some g.plot }] ∧
      (t.ctx g.ctx).nextSerial = (if (m.ctx g.ctx).nextSerial = 2 ^ 32 - 1 then 1 else (m.ctx g.ctx).nextSerial + 1) ∧
      InAgenda t (m.cycle + 8) .placeCluster {}) := by
  have hrun := launchBlockCheck_eq hev hp hw hb hm hs hf hq hr
  dsimp only at hrun ⊢
  generalize launchCode (m.ctx g.ctx) g.ctx (m.ctx g.ctx).nextSerial blk.toNat = code at hrun ⊢
  constructor
  · intro hc
    simp only [State.launched, launchAnswer, hc, if_false] at hrun
    obtain ⟨f, hdone, hcomp⟩ := completes_with hp hi hg (BitVec.ofNat 64 (2 ^ 63 + code))
    exact ⟨_, hrun.trans (congrArg _ hdone), hcomp m hg, rfl⟩
  · intro hc
    simp only [State.launched, launchAnswer, hc, if_true] at hrun
    have hg1 : ((m.enqueueLaunch g.ctx q.toNat blk (some g.plot)).markCommitted g.team).groups = s.groups := hg
    obtain ⟨f, hdone, hcomp⟩ := completes_with hp hi hg1 (BitVec.ofNat 64 (m.ctx g.ctx).nextSerial)
    obtain ⟨hl, hn, ha⟩ := enqueueLaunch_enters m g.ctx q.toNat blk (some g.plot)
    exact ⟨_, hrun.trans (congrArg _ hdone), hcomp _ hg1, hl, hn, ha⟩

/-! ## The root doorbell -/

theorem eccMiss_none {s : State} (h : s.eccErrors = []) (a : Nat) : s.eccMiss a = s := by simp [State.eccMiss, h]

/-- The doorbell of a context that is not being reset. -/
theorem doorbell_eq {s : State} (h : (s.ctx s.ev.a).busy = false) : exec .doorbell s = .next (s.rootLaunch s.ev.a s.ev.v.toNat) := by
  have hrun : exec .doorbell s = .next (if (s.ctx s.ev.a).busy then s else s.rootLaunch s.ev.a s.ev.v.toNat) := rfl
  simp [hrun, h]

/-- A root block that has been read is checked; an accepted one is the first launch of its context. -/
theorem rootLaunch_read {s m : State} {c va dpa pte : Nat} (hd : (s.ctx c).rootDone = false) (h64 : va % 64 = 0) (h57 : va < 2 ^ 57) (hm : s.isMoving c va = false)
    (hx : s.translateWalk c va .read = (m, .ok dpa pte)) (hc : m.ctxs = s.ctxs) (hb : m.blockWait dpa = none) (he : m.eccErrors = []) :
    let code := launchCode (s.ctx c) c 1 (m.readNat dpa 64)
    let t := m.modCtx c fun y => { y with rootStat := BitVec.ofNat 64 (2 ^ 63 + code) }
    s.rootLaunch c va = if code ≠ 0 then t
      else (t.modCtx c fun y => { y with rootDone := true, nextSerial := 1 }).enqueueLaunch c 16 (BitVec.ofNat 512 (m.readNat dpa 64)) none := by
  have hctx : m.ctx c = s.ctx c := by rw [State.ctx, hc, State.ctx]
  simp only [State.rootLaunch, hd, h64, Nat.not_le.2 h57, hm, Nat.mod_eq_of_lt h57, hx, hb, eccMiss_none he, hctx]
  simp [rootHandled]

theorem doorbell_reads {s m : State} {dpa pte : Nat} (hbusy : (s.ctx s.ev.a).busy = false) (hd : (s.ctx s.ev.a).rootDone = false) (h64 : s.ev.v.toNat % 64 = 0)
    (h57 : s.ev.v.toNat < 2 ^ 57) (hm : s.isMoving s.ev.a s.ev.v.toNat = false) (hx : s.translateWalk s.ev.a s.ev.v.toNat .read = (m, .ok dpa pte))
    (hc : m.ctxs = s.ctxs) (hb : m.blockWait dpa = none) (he : m.eccErrors = []) :
    let code := launchCode (s.ctx s.ev.a) s.ev.a 1 (m.readNat dpa 64)
    ∃ t, exec .doorbell s = .next t ∧ (t.ctx s.ev.a).rootStat = BitVec.ofNat 64 (2 ^ 63 + code) ∧ (t.ctx s.ev.a).rootDone = decide (code = 0) ∧
      (code = 0 → (t.ctx s.ev.a).launches = (s.ctx s.ev.a).launches ++
        [{ serial := 1, queue := 16, blk := BitVec.ofNat 512 (m.readNat dpa 64), plot := none }]) ∧ SameMemory m t := by
  have hroot := rootLaunch_read hd h64 h57 hm hx hc hb he
  have hctx : m.ctx s.ev.a = s.ctx s.ev.a := by rw [State.ctx, hc, State.ctx]
  dsimp only at hroot ⊢
  generalize launchCode (s.ctx s.ev.a) s.ev.a 1 (m.readNat dpa 64) = code at hroot ⊢
  refine ⟨_, doorbell_eq hbusy, ?_⟩
  rw [hroot]
  have hone (f : Context → Context) : (m.modCtx s.ev.a f).ctx s.ev.a = f (s.ctx s.ev.a) := (m.ctx_modCtx_same _ f).trans (congrArg f hctx)
  by_cases hcode : code = 0
  · rw [if_neg (by simpa using hcode), enqueueLaunch_ctx, State.ctx_modCtx_same, hone]
    exact ⟨rfl, by simp [hcode, Context.entering], fun _ => rfl,
      (m.modCtx_memory _ _).trans ((State.modCtx_memory _ _ _).trans (enqueueLaunch_memory _ _ _ _ _))⟩
  · rw [if_pos hcode, hone]
    exact ⟨rfl, by simpa [hcode] using hd, fun h => absurd h hcode, m.modCtx_memory _ _⟩

/-- Settles O40: the reasons in their order, the launch word, the doorbell. -/
theorem launches : Obligations.Launches := by
  refine ⟨launchCode_eq, fun s m gid op dd g o blk d a f q hev hp hw hi hb hm hs hf hq hr hg => launches_accept hev hp hw hi hb hm hs hf hq hr hg, fun s h => ?_,
    fun s h => ⟨fun hd => ?_, fun hd hva => ?_, fun hd h64 h57 hm m dpa pte hx hc hb he => doorbell_reads h hd h64 h57 hm hx hc hb he⟩⟩
  · have hrun : exec .doorbell s = .next (if (s.ctx s.ev.a).busy then s else s.rootLaunch s.ev.a s.ev.v.toNat) := rfl
    simp [hrun, h]
  · rw [doorbell_eq h, State.rootLaunch, if_pos hd]
    rfl
  · rw [doorbell_eq h, State.rootLaunch, if_neg (by simp [hd]), if_pos hva]
    rfl

end Sys2Proof.Machine
end

section
/-! PROOFS. The placer: which job it serves, and what a placed team holds. -/

namespace Sys2Proof.Machine

set_option Elab.async false
open Claims

/-! ## Rounds -/

/-- A decision of the placer: the first context of its round whose next job fits. -/
theorem placeCluster_eq {s : State} (hf : s.ev.flag = false) (hr : s.returnArenas = s) :
    exec .placeCluster s = .next (match s.roundOrder.findSome? (fun c => (s.placeTurn c).map (fun t => (c, t))) with
      | some (c, t) => ({ t with placerLast := some c } : State).afterOnce 0 .placeCluster {}
      | none => s) := by
  have hrun : exec .placeCluster s = execPlaceCluster s := rfl
  rw [hrun, execPlaceCluster, if_neg (by simp [hf]), hr] <;> rfl

/-- A round takes the 64 contexts in turn. -/
theorem mem_roundOrder {s : State} {c : Nat} (h : c ∈ s.roundOrder) : c < 64 := by
  obtain ⟨i, -, rfl⟩ := List.mem_map.1 h
  exact Nat.mod_lt _ (by omega)

theorem placeCluster_idle {s : State} (hf : s.ev.flag = false) (hr : s.returnArenas = s) (hn : ∀ c, c < 64 → s.placeTurn c = none) :
    exec .placeCluster s = .next s := by
  have hnone : s.roundOrder.findSome? (fun c => (s.placeTurn c).map (fun t => (c, t))) = none := by
    simp only [List.findSome?_eq_none_iff, Option.map_eq_none_iff]
    exact fun c hc => hn c (mem_roundOrder hc)
  rw [placeCluster_eq hf hr, hnone]

theorem placeCluster_serves {s t : State} {c : Nat} (hf : s.ev.flag = false) (hr : s.returnArenas = s)
    (h : s.roundOrder.findSome? (fun c => (s.placeTurn c).map (fun t => (c, t))) = some (c, t)) :
    exec .placeCluster s = .next (({ t with placerLast := some c } : State).afterOnce 0 .placeCluster {}) := by
  rw [placeCluster_eq hf hr, h]

/-! ## Handler teams -/

theorem handlerTeamPlace_eq {s : State} (hf : s.ev.flag = false) :
    exec .handlerTeamPlace s = .next (match ((s.trapReady s.ev.a s.ev.b).ctx s.ev.a).nextJob with
      | some (.handler r) =>
        (match (s.trapReady s.ev.a s.ev.b).placeHandler s.ev.a r with | some t => { t with placerLast := some s.ev.a } | none => s.trapReady s.ev.a s.ev.b)
      | some (.cluster _) => (s.trapReady s.ev.a s.ev.b).afterOnce 0 .placeCluster {}
      | none => s.trapReady s.ev.a s.ev.b) := by
  have hrun : exec .handlerTeamPlace s = execHandlerTeamPlace s := rfl
  rw [hrun, execHandlerTeamPlace, if_neg (by simp [hf])] <;> rfl

/-- A handler team that comes next is that of a record which is written and may start. -/
theorem nextJob_handler {x : Context} {r : TrapRec} (h : x.nextJob = some (.handler r)) : r ∈ x.traps ∧ r.written = true ∧ r.ready = true ∧ r.handler = none := by
  have hfind : x.traps.find? (fun r => r.written && r.ready && r.handler.isNone) = some r := by
    unfold Context.nextJob at h
    dsimp only at h
    split at h
    · cases h
    · split at h
      · split at h
        · cases h
          assumption
        · cases h
      · cases h
        assumption
      · cases h
      · cases h
  have hp := List.find?_some hfind
  simp only [Bool.and_eq_true, Option.isNone_iff_eq_none] at hp
  exact ⟨List.mem_of_find?_eq_some hfind, hp.1.1, hp.1.2, hp.2⟩

/-! ## A placed team -/

theorem State.trace_plots (s : State) (d k t c g p m a v : Nat) : (s.trace d k t c g p m a v).plots = s.plots := by
  unfold State.trace
  split
  · unfold State.traceWrite
    dsimp only
    repeat' split
    · rfl
    · rfl
    · exact (State.writeMem_onlyMemory _ _ _).field (fun x => x.plots) fun _ _ _ _ _ _ _ _ _ => rfl
  · rfl

/-- Entries listed under keys of their own. -/
theorem foldl_tabPut_keys {α β : Type} (key : β → Nat) (f : β → α) (l : List β) (t : Tab α) (hn : (l.map key).Nodup) {b : β} (hb : b ∈ l) :
    tabFind (l.foldl (fun m e => tabPut m (key e) (f e)) t) (key b) = some (f b) :=
  (foldl_keyed (key := key) (get := tabFind) (val := fun b _ => some (f b)) (fun _ _ => tabFind_tabPut_same _ _ _) (fun _ _ _ h => tabFind_tabPut_ne _ _ h) l t).2 hn b hb

theorem length_foldl_set {α β : Type} (l : List β) (i : β → Nat) (a : β → α) (xs : List α) : (l.foldl (fun ys b => ys.set (i b) (a b)) xs).length = xs.length :=
  foldl_same List.length _ l xs fun _ _ => List.length_set

theorem addTeam_slots (s : State) (w : Need) (tm : Team) (entry delay : Nat) :
    ((s.addTeam w tm entry delay).plot tm.plot).slots.length = (s.plot tm.plot).slots.length := by
  unfold State.addTeam
  rw [State.plot, State.trace_plots, ← State.plot]
  dsimp only
  rw [State.plot_modPlot_same]
  exact length_foldl_set _ _ _ _

/-- Group i of a placed team. -/
theorem addTeam_groups {s : State} {w : Need} {tm : Team} {entry delay i : Nat} (hi : i < w.n) (hw : w.n ≤ (freeSlots (s.plot tm.plot) tm.ctx).length) :
    ∃ g, tabFind (s.addTeam w tm entry delay).groups (s.nextId + 1 + i) = some g ∧
      some g.slot = (freeSlots (s.plot tm.plot) tm.ctx)[i]? ∧ g.rank = i ∧ g.ctx = tm.ctx ∧ g.team = s.nextId ∧ g.plot = tm.plot ∧ g.rows = w.rows ∧
      (∀ r, g.readV r = zeroLanes) ∧ (∀ n, g.readS n = {}) ∧ (∀ n, n ≠ 0 → g.readK 0 n = 0) ∧ (∀ n, g.readF n = 0) ∧ (∀ r q, g.readDesc r q = 0) ∧
      g.fpstat = 0 ∧ g.frontier.map (fun e => (e.addr, e.lanes, e.age)) = [(BitVec.ofNat 64 entry, BitVec.allOnes 64, 0)] ∧ g.clause = none ∧ g.log = [] ∧
      (delay ≠ 0 → g.hold = some (.until (s.cycle + delay))) ∧ ((s.addTeam w tm entry delay).plot tm.plot).slots.length = (s.plot tm.plot).slots.length := by
  have hlen : ((freeSlots (s.plot tm.plot) tm.ctx).take w.n).length = w.n := by simpa using hw
  have hkeys : (((freeSlots (s.plot tm.plot) tm.ctx).take w.n).zip (List.range w.n)).map (fun e => s.nextId + 1 + e.2) = (List.range w.n).map (s.nextId + 1 + ·) := by
    rw [show (fun e : Nat × Nat => s.nextId + 1 + e.2) = (s.nextId + 1 + ·) ∘ Prod.snd from rfl, ← List.map_map, List.map_snd_zip (by simp [hlen])]
  have hnodup : (((freeSlots (s.plot tm.plot) tm.ctx).take w.n).zip (List.range w.n)).map (fun e => s.nextId + 1 + e.2) |>.Nodup := by
    rw [hkeys]
    exact List.nodup_range.map fun a b h => by omega
  obtain ⟨sl, hsl⟩ : ∃ sl, (freeSlots (s.plot tm.plot) tm.ctx)[i]? = some sl := ⟨_, List.getElem?_eq_getElem (by omega)⟩
  have hmem : (sl, i) ∈ ((freeSlots (s.plot tm.plot) tm.ctx).take w.n).zip (List.range w.n) :=
    List.mem_of_getElem? (i := i) (by simp [List.getElem?_zip_eq_some, hi, hsl])
  have hfind := foldl_tabPut_keys (fun e : Nat × Nat => s.nextId + 1 + e.2) (fun e =>
    ({ ctx := tm.ctx, team := s.nextId, plot := tm.plot, slot := e.1, rank := e.2, rows := w.rows,
       frontier := [{ addr := BitVec.ofNat 64 entry, lanes := BitVec.allOnes 64,
                      from? := some (BitVec.ofNat 64 entry, 0, BitVec.ofNat 64 entry) }],
       halted := (s.ctx tm.ctx).dbgHalt,
       hold := if delay = 0 then none else some (.until (s.cycle + delay)) } : Group)) _ s.groups hnodup hmem
  refine ⟨_, (congrArg (fun t => tabFind t _) (State.trace_groups _ _ _ _ _ _ _ _ _ _)).trans hfind, hsl.symm, rfl, rfl, rfl, rfl, rfl, fun _ => rfl,
    fun n => ?_, fun n hn => ?_, fun _ => rfl, fun _ _ => rfl, rfl, rfl, rfl, rfl, fun hd => if_neg hd, addTeam_slots s w tm entry delay⟩
  · simp [Group.readS, tabGet, tabFind]
  · simp [Group.readK, tabGet, tabFind, hn]

/-- Settles O41: the rounds of the placer, the handler teams, a team's groups where it is placed. -/
theorem placement : Obligations.Placement := by
  refine ⟨fun s hf hr hn => placeCluster_idle hf hr hn, fun s t c hf hr h => placeCluster_serves hf hr h, fun s => rfl, fun s m hf hm => ?_,
    fun x r h => nextJob_handler h, fun s w tm entry delay i hi hw => addTeam_groups hi hw⟩
  have hready : s.trapReady s.ev.a s.ev.b = m := hm.symm
  have hrun := handlerTeamPlace_eq hf
  rw [hready] at hrun
  exact ⟨fun h => by rw [hrun, h], fun t r h hp => by rw [hrun, h]; dsimp only; rw [hp], fun r h hp => by rw [hrun, h]; dsimp only; rw [hp]⟩

end Sys2Proof.Machine
end

section
/-! PROOFS. Swaps of the banks of a plot. -/

namespace Sys2Proof.Machine

set_option Elab.async false
open Claims

/-! ## A list of groups that changes -/

/-- A table in which each key of a list is changed. -/
def tabUpdAll {α : Type} (f : α → α) (l : List Nat) (t : Tab α) : Tab α := l.foldl (fun x k => tabUpd x k f) t

theorem tabFind_tabUpdAll {α : Type} (f : α → α) {l : List Nat} (t : Tab α) (hn : l.Nodup) (k : Nat) :
    tabFind (tabUpdAll f l t) k = if k ∈ l then (tabFind t k).map f else tabFind t k := by
  obtain ⟨out, hits⟩ := foldl_keyed (key := id) (f := fun x k => tabUpd x k f) (get := tabFind) (val := fun _ => Option.map f)
    (fun x b => tabFind_tabUpd_same x b f) (fun x b k h => tabFind_tabUpd_ne x f h) l t
  rw [List.map_id] at out hits
  split
  next h => exact hits hn k h
  next h => exact out k h

/-- Each group of a list changes. -/
def State.modGroups (s : State) (l : List Nat) (f : Group → Group) : State := { s with groups := tabUpdAll f l s.groups }

theorem State.foldl_modGroup (f : Group → Group) (l : List Nat) (s : State) : l.foldl (fun (t : State) g => t.modGroup g f) s = s.modGroups l f := by
  induction l generalizing s with
  | nil => rfl
  | cons g l ih => exact ih _

section
variable {s : State} {l : List Nat} {f : Group → Group} (hn : l.Nodup)
include hn

theorem State.find_modGroups (k : Nat) : tabFind (s.modGroups l f).groups k = if k ∈ l then (tabFind s.groups k).map f else tabFind s.groups k :=
  tabFind_tabUpdAll f s.groups hn k

theorem State.group_modGroups {g : Nat} (hg : g ∈ l) (hs : (tabFind s.groups g).isSome = true) : (s.modGroups l f).group g = f (s.group g) := by
  obtain ⟨y, hy⟩ := Option.isSome_iff_exists.1 hs
  rw [State.group_eq hy]
  exact State.group_eq (by rw [State.find_modGroups hn, if_pos hg, hy]; rfl)

theorem State.find_modGroups_others {g : Nat} (hg : g ∉ l) : tabFind (s.modGroups l f).groups g = tabFind s.groups g := by
  rw [State.find_modGroups hn, if_neg hg]

end

/-! ## The banks -/

/-- A group of the outgoing bank of a swap in cycle `c`: its pending results are written, it stands in the shadow bank. -/
def Group.carriedOut (g : Group) (c : Nat) : Group :=
  let h := { (g.pend.foldl (fun h e => h.writePending c e.2) g) with pend := [] }
  { h.moveTo .shadow with swapcnt := (h.swapcnt + 1) % 2 ^ 32 }

/-- A group of the incoming bank. -/
def Group.carriedIn (g : Group) : Group :=
  { g.moveTo .active with restoring := (g.log.filter (fun e => decide (e.2.st = .replay))).map (fun e => e.2.op) }

theorem Group.moveTo_eq (g : Group) (l : Loc) : g.moveTo l = { g with loc := if g.loc = .gone then .gone else l } := by
  unfold Group.moveTo
  split
  next h => rw [← h]
  next => rfl

theorem Group.carriedOut_eq {g : Group} (c : Nat) (h : g.pend = []) :
    g.carriedOut c = { g with loc := if g.loc = .gone then .gone else .shadow, swapcnt := (g.swapcnt + 1) % 2 ^ 32 } := by
  have hsame : { (g.pend.foldl (fun h e => h.writePending c e.2) g) with pend := [] } = g := by rw [h, List.foldl_nil, ← h]
  rw [Group.carriedOut, hsame, Group.moveTo_eq]

theorem Group.carriedIn_eq {g : Group} (h : g.log = []) : g.carriedIn = { g with loc := if g.loc = .gone then .gone else .active, restoring := [] } := by
  rw [Group.carriedIn, Group.moveTo_eq, h]
  rfl

theorem State.foldl_carriedOut (l : List Nat) (s : State) :
    l.foldl (fun (t : State) g => (t.flushPend g).modGroup g (fun y => { y.moveTo .shadow with swapcnt := (y.swapcnt + 1) % 2 ^ 32 })) s =
      s.modGroups l (fun g => g.carriedOut s.cycle) := by
  induction l generalizing s with
  | nil => rfl
  | cons g l ih =>
    rw [List.foldl_cons, ih, State.flushPend, State.modGroup_modGroup]
    rfl

/-- The banks of a swap before its incoming groups go on. -/
def State.banksMoved (s : State) (p : Nat) (inc : ResidentSet) : State :=
  (s.modGroups (activeGroups (s.plot p)) (fun g => g.carriedOut s.cycle)).modGroups inc.groups Group.carriedIn

/-- The plot of a swap. -/
def Plot.swapped (x : Plot) (slots : List (Option Nat)) (image c : Nat) : Plot :=
  { x with slots := slots, shadow := none, outgoing := some { groups := activeGroups x, image := some image }, spill := .drain, blackout := c + 24 }

/-- A group with neither a log nor an `mwait` has nothing to do again. -/
theorem State.nothingAgain {s : State} {g : Nat} (hl : (s.group g).log = []) (hm : s.mwaitOp g = none) : (s.tryReplay g).rereadMwait g = s := by
  have hr : s.tryReplay g = s := by
    rw [State.tryReplay, hl]
    rfl
  rw [hr, State.rereadMwait, hm]

theorem foldl_fixed_of_mem {α β : Type} {f : α → β → α} {x : α} {l : List β} (h : ∀ b ∈ l, f x b = x) : l.foldl f x = x := by
  induction l with
  | nil => rfl
  | cons b l ih => rw [List.foldl_cons, h b List.mem_cons_self, ih fun c hc => h c (List.mem_cons_of_mem _ hc)]

section
variable {s : State} {p : Nat} {inc : ResidentSet} (hn : (activeGroups (s.plot p) ++ inc.groups).Nodup)
  (hs : ∀ g ∈ activeGroups (s.plot p) ++ inc.groups, (tabFind s.groups g).isSome = true)
include hn

theorem State.banksMoved_others {g : Nat} (hg : g ∉ activeGroups (s.plot p) ++ inc.groups) :
    tabFind (s.banksMoved p inc).groups g = tabFind s.groups g := by
  rw [List.mem_append, not_or] at hg
  rw [State.banksMoved, State.find_modGroups_others hn.of_append_right hg.2, State.find_modGroups_others hn.of_append_left hg.1]

include hs

theorem State.banksMoved_out {g : Nat} (hg : g ∈ activeGroups (s.plot p)) : (s.banksMoved p inc).group g = (s.group g).carriedOut s.cycle := by
  have hin : g ∉ inc.groups := fun h => (List.nodup_append.1 hn).2.2 g hg g h rfl
  have hsame : (s.banksMoved p inc).group g = (s.modGroups (activeGroups (s.plot p)) (fun g => g.carriedOut s.cycle)).group g := by
    unfold State.group tabGet
    rw [State.banksMoved, State.find_modGroups_others hn.of_append_right hin]
  rw [hsame, State.group_modGroups hn.of_append_left hg (hs g (List.mem_append_left _ hg))]

theorem State.banksMoved_in {g : Nat} (hg : g ∈ inc.groups) : (s.banksMoved p inc).group g = (s.group g).carriedIn := by
  have hout : g ∉ activeGroups (s.plot p) := fun h => (List.nodup_append.1 hn).2.2 g h g hg rfl
  have hfind := State.find_modGroups_others (s := s) (f := fun g => g.carriedOut s.cycle) hn.of_append_left hout
  rw [State.banksMoved, State.group_modGroups hn.of_append_right hg (by rw [hfind]; exact hs g (List.mem_append_right _ hg))]
  unfold State.group tabGet
  rw [hfind]

/-- A swap whose incoming groups have neither a log nor an `mwait`. -/
theorem State.swap_eq (im : Nat) (hq : ∀ g ∈ inc.groups, (s.group g).log = [] ∧ s.mwaitOp g = none) :
    s.swap p inc im = ((((s.banksMoved p inc).modPlot p fun x => x.swapped ((s.banksMoved p inc).bySlot inc.groups) im s.cycle).after 25
      .spillEngine { a := p, b := 1 }).afterOnce 0 .placeCluster {}) := by
  rw [State.swap]
  dsimp only
  rw [State.foldl_carriedOut, State.foldl_modGroup, foldl_fixed_of_mem]
  · rfl
  · intro g hg
    obtain ⟨hl, hm⟩ := hq g hg
    have hgrp := State.banksMoved_in hn hs hg
    refine State.nothingAgain ?_ ?_
    · have h : ((s.banksMoved p inc).group g).log = [] := by rw [hgrp, Group.carriedIn_eq hl]; exact hl
      exact h
    · have h : (s.banksMoved p inc).mwaitOp g = none := by
        rw [State.mwaitOp, hgrp, Group.carriedIn_eq hl]
        exact hm
      exact h

end

/-! ## Slices -/

theorem State.afterOnce_inAgenda (s : State) (n : Nat) (i : Instr) (e : Ev) : ∃ c, c ≤ s.cycle + n ∧ InAgenda (s.afterOnce n i e) c i e := by
  unfold State.afterOnce
  split
  next h =>
    obtain ⟨d, hd, h⟩ := List.any_eq_true.1 h
    simp only [Bool.and_eq_true, decide_eq_true_eq] at h
    obtain ⟨⟨rfl, rfl⟩, hdue⟩ := h
    exact ⟨d.due, hdue, hd⟩
  next => exact ⟨_, le_rfl, State.atCycle_inAgenda _ _ _ _⟩

/-- The plot of a slice that ends at a tick. -/
def Plot.restarted (x : Plot) (tick : Nat) : Plot :=
  { x with sliceStart := tick, expiryDeferred := false, swapAsked := false, tslice := x.tsliceNext.getD x.tslice, tsliceNext := none,
           slotPart := x.slotPartNext.getD x.slotPart, slotPartNext := none }

theorem State.sliceBoundary_eq (s : State) (p : Nat) : s.sliceBoundary p = if (s.plot p).slotPartNext.isSome then
    (s.modPlot p fun x => x.restarted s.tick).afterOnce 0 .placeCluster {} else s.modPlot p fun x => x.restarted s.tick := rfl

theorem State.sliceBoundary_plot (s : State) (p : Nat) : (s.sliceBoundary p).plot p = (s.plot p).restarted s.tick := by
  rw [State.sliceBoundary_eq]
  split
  · rw [State.afterOnce_plot, State.plot_modPlot_same]
  · rw [State.plot_modPlot_same]

/-- A slice boundary changes the plot and the agenda. -/
theorem State.sliceBoundary_keeps (s : State) (p : Nat) : { s.sliceBoundary p with plots := s.plots, agenda := s.agenda } = s := by
  rw [State.sliceBoundary_eq]
  unfold State.afterOnce
  repeat' split
  all_goals rfl

theorem State.sliceBoundary_groups (s : State) (p : Nat) : (s.sliceBoundary p).groups = s.groups := by
  have h := congrArg State.groups (State.sliceBoundary_keeps s p)
  exact h

theorem State.sliceBoundary_group (s : State) (p g : Nat) : (s.sliceBoundary p).group g = s.group g := by
  unfold State.group
  rw [State.sliceBoundary_groups]

theorem State.sliceBoundary_cycle (s : State) (p : Nat) : (s.sliceBoundary p).cycle = s.cycle := by
  have h := congrArg State.cycle (State.sliceBoundary_keeps s p)
  exact h

theorem State.sliceBoundary_memory (s : State) (p : Nat) : SameMemory s (s.sliceBoundary p) := by
  rw [State.sliceBoundary_eq]
  split
  · exact State.afterOnce_memory (s.modPlot p fun x => x.restarted s.tick) 0 .placeCluster {}
  · exact ⟨fun _ => rfl, fun _ => rfl, fun _ => rfl⟩

theorem State.sliceBoundary_slots (s : State) (p : Nat) : activeGroups ((s.sliceBoundary p).plot p) = activeGroups (s.plot p) := by
  rw [State.sliceBoundary_plot]
  rfl

/-- The slice restarts and no bank changes. -/
theorem State.sliceBoundary_only (s : State) (p : Nat) : sliceRestarted s (s.sliceBoundary p) p ∧ (s.sliceBoundary p).groups = s.groups ∧
    ((s.sliceBoundary p).plot p).slots = (s.plot p).slots ∧ ((s.sliceBoundary p).plot p).shadow = (s.plot p).shadow ∧
    ((s.plot p).slotPartNext = none → (s.sliceBoundary p).agenda = s.agenda) ∧
    ((s.plot p).slotPartNext ≠ none → ∃ n, n ≤ s.cycle ∧ InAgenda (s.sliceBoundary p) n .placeCluster {}) := by
  refine ⟨?_, State.sliceBoundary_groups s p, ?_, ?_, fun h => ?_, fun h => ?_⟩
  · rw [sliceRestarted, State.sliceBoundary_plot]
    exact ⟨rfl, rfl, rfl, rfl, rfl, rfl⟩
  · rw [State.sliceBoundary_plot]
    rfl
  · rw [State.sliceBoundary_plot]
    rfl
  · rw [State.sliceBoundary_eq, h]
    rfl
  · rw [State.sliceBoundary_eq, if_pos (Option.isSome_iff_ne_none.2 h)]
    exact State.afterOnce_inAgenda (s.modPlot p fun x => x.restarted s.tick) 0 .placeCluster {}

/-! ## Swaps -/

theorem State.swapTo_none {s : State} {p : Nat}
    (h : (s.plot p).shadow = none ∨ s.pinned p = true ∨ (s.plot p).spill ≠ .idle ∨ s.imageFor (s.plot p) (activeGroups (s.plot p)) = none) :
    s.swapTo p = none := by
  unfold State.swapTo
  dsimp only
  split
  next inc i hinc hi =>
    rcases h with h | h | h | h
    · rw [h] at hinc; cases hinc
    · rw [if_pos (.inl h)]
    · rw [if_pos (.inr h)]
    · rw [h] at hi; cases hi
  next => rfl

theorem State.swapTo_some {s : State} {p im : Nat} {inc : ResidentSet} (hinc : (s.plot p).shadow = some inc) (hp : s.pinned p = false)
    (hi : (s.plot p).spill = .idle) (him : s.imageFor (s.plot p) (activeGroups (s.plot p)) = some im) : s.swapTo p = some (inc, im) := by
  unfold State.swapTo
  dsimp only
  rw [hinc, him]
  exact if_neg (by simp [hp, hi])

theorem State.modGroups_memory (s : State) (l : List Nat) (f : Group → Group) : SameMemory s (s.modGroups l f) := ⟨fun _ => rfl, fun _ => rfl, fun _ => rfl⟩
theorem State.modPlot_memory (s : State) (p : Nat) (f : Plot → Plot) : SameMemory s (s.modPlot p f) := ⟨fun _ => rfl, fun _ => rfl, fun _ => rfl⟩
theorem State.after_memory (s : State) (n : Nat) (i : Instr) (e : Ev) : SameMemory s (s.after n i e) := ⟨fun _ => rfl, fun _ => rfl, fun _ => rfl⟩

/-- A swap before it calls the placer. -/
def State.banksSwapped (s : State) (p : Nat) (inc : ResidentSet) (im : Nat) : State :=
  ((s.banksMoved p inc).modPlot p fun x => x.swapped ((s.banksMoved p inc).bySlot inc.groups) im s.cycle).after 25 .spillEngine { a := p, b := 1 }

theorem State.banksSwapped_memory (s : State) (p : Nat) (inc : ResidentSet) (im : Nat) : SameMemory s (s.banksSwapped p inc im) :=
  (((State.modGroups_memory s _ _).trans (State.modGroups_memory _ _ _)).trans (State.modPlot_memory _ _ _)).trans (State.after_memory _ _ _ _)

theorem State.banksSwapped_plot (s : State) (p : Nat) (inc : ResidentSet) (im : Nat) :
    (s.banksSwapped p inc im).plot p = (s.plot p).swapped ((s.banksMoved p inc).bySlot inc.groups) im s.cycle :=
  State.plot_modPlot_same (s.banksMoved p inc) p fun x => x.swapped ((s.banksMoved p inc).bySlot inc.groups) im s.cycle

/-- What a swap of two banks leaves. -/
theorem State.swap_leaves {s : State} {p : Nat} {inc : ResidentSet} (hn : (activeGroups (s.plot p) ++ inc.groups).Nodup)
    (hs : ∀ g ∈ activeGroups (s.plot p) ++ inc.groups, (tabFind s.groups g).isSome = true) (im : Nat)
    (hq : ∀ g ∈ inc.groups, (s.group g).log = [] ∧ s.mwaitOp g = none) :
    (s.swap p inc im).plot p = (s.plot p).swapped ((s.banksMoved p inc).bySlot inc.groups) im s.cycle ∧
    (s.swap p inc im).groups = (s.banksMoved p inc).groups ∧ InAgenda (s.swap p inc im) (s.cycle + 25) .spillEngine { a := p, b := 1 } ∧
    (∃ n, n ≤ s.cycle ∧ InAgenda (s.swap p inc im) n .placeCluster {}) ∧ SameMemory s (s.swap p inc im) := by
  have hswap : s.swap p inc im = (s.banksSwapped p inc im).afterOnce 0 .placeCluster {} := State.swap_eq hn hs im hq
  rw [hswap, State.afterOnce_plot, State.afterOnce_groups]
  exact ⟨State.banksSwapped_plot s p inc im, rfl, State.afterOnce_keeps _ _ _ _ _ (State.atCycle_inAgenda _ _ _ _),
    State.afterOnce_inAgenda (s.banksSwapped p inc im) 0 _ _,
    (State.banksSwapped_memory s p inc im).trans (State.afterOnce_memory _ _ _ _)⟩

/-- Groups by slot in a bank whose groups keep their slots. -/
theorem State.bySlot_get {s t : State} {gs : List Nat} (h : ∀ g ∈ gs, (t.group g).slot = (s.group g).slot) {n : Nat} (hn : n < 8) :
    (t.bySlot gs)[n]? = some (gs.find? (fun g => decide ((s.group g).slot = n))) := by
  rw [State.bySlot, List.getElem?_map, List.getElem?_range hn, Option.map_some, List.find?_congr (p₂ := fun g => decide ((s.group g).slot = n))]
  intro g hg
  rw [h g hg]

/-- What a plot holds after a slice that ends with a swap. -/
theorem State.sliceSwap_leaves {s : State} {p : Nat} {inc : ResidentSet} (hn : (activeGroups (s.plot p) ++ inc.groups).Nodup)
    (hs : ∀ g ∈ activeGroups (s.plot p) ++ inc.groups, (tabFind s.groups g).isSome = true) (im : Nat)
    (hpend : ∀ g ∈ activeGroups (s.plot p) ++ inc.groups, (s.group g).pend = []) (hq : ∀ g ∈ inc.groups, (s.group g).log = [] ∧ s.mwaitOp g = none) :
    let t := (s.sliceBoundary p).swap p inc im
    sliceRestarted s t p ∧ (t.plot p).shadow = none ∧ (t.plot p).spill = .drain ∧
      (t.plot p).outgoing = some { groups := activeGroups (s.plot p), image := some im } ∧ (t.plot p).blackout = s.cycle + 24 ∧
      (∀ n, n < 8 → (t.plot p).slots[n]? = some (inc.groups.find? (fun g => decide ((s.group g).slot = n)))) ∧
      (∀ g ∈ activeGroups (s.plot p), t.group g = { s.group g with
        loc := if (s.group g).loc = .gone then .gone else .shadow, swapcnt := ((s.group g).swapcnt + 1) % 2 ^ 32 }) ∧
      (∀ g ∈ inc.groups, t.group g = { s.group g with loc := if (s.group g).loc = .gone then .gone else .active, restoring := [] }) ∧
      (∀ g, g ∉ activeGroups (s.plot p) ++ inc.groups → tabFind t.groups g = tabFind s.groups g) ∧
      InAgenda t (s.cycle + 25) .spillEngine { a := p, b := 1 } ∧ (∃ n, n ≤ s.cycle ∧ InAgenda t n .placeCluster {}) ∧ SameMemory s t := by
  intro t
  have hslots := State.sliceBoundary_slots s p
  have hg := State.sliceBoundary_group s p
  rw [← hslots] at hn hs
  rw [← State.sliceBoundary_groups s p] at hs
  have hq' : ∀ g ∈ inc.groups, ((s.sliceBoundary p).group g).log = [] ∧ (s.sliceBoundary p).mwaitOp g = none := by
    intro g hin
    unfold State.mwaitOp
    rw [hg]
    exact hq g hin
  obtain ⟨hplot, hgroups, hspill, hplace, hmem⟩ := State.swap_leaves hn hs im hq'
  have hgroup (g : Nat) : t.group g = ((s.sliceBoundary p).banksMoved p inc).group g := by
    unfold State.group
    rw [hgroups]
  have hout {g : Nat} (h : g ∈ activeGroups (s.plot p)) : t.group g = { s.group g with
      loc := if (s.group g).loc = .gone then .gone else .shadow, swapcnt := ((s.group g).swapcnt + 1) % 2 ^ 32 } := by
    rw [hgroup, State.banksMoved_out hn hs (by rwa [hslots]), hg, Group.carriedOut_eq _ (hpend g (List.mem_append_left _ h))]
  have hin {g : Nat} (h : g ∈ inc.groups) : t.group g = { s.group g with
      loc := if (s.group g).loc = .gone then .gone else .active, restoring := [] } := by
    rw [hgroup, State.banksMoved_in hn hs h, hg, Group.carriedIn_eq (hq g h).1]
  rw [State.sliceBoundary_plot, State.sliceBoundary_cycle] at hplot
  rw [State.sliceBoundary_cycle] at hspill hplace
  refine ⟨?_, ?_, ?_, ?_, ?_, fun n hn8 => ?_, fun g => hout, fun g => hin, fun g h => ?_, hspill, hplace, (State.sliceBoundary_memory s p).trans hmem⟩
  · rw [sliceRestarted, hplot]
    exact ⟨rfl, rfl, rfl, rfl, rfl, rfl⟩
  · rw [hplot]; rfl
  · rw [hplot]; rfl
  · rw [hplot]; rfl
  · rw [hplot]; rfl
  · rw [hplot]
    refine State.bySlot_get (fun g h => ?_) hn8
    rw [← hgroup, hin h]
  · rw [hgroups, State.banksMoved_others hn (by rwa [hslots]), State.sliceBoundary_groups]

theorem State.haltHolds_iff (s : State) (p : Nat) : s.haltHolds p = true ↔ ∃ g ∈ activeGroups (s.plot p), (s.group g).halted = true := List.any_eq_true

/-- An expiry and a request do one thing where no group is halted and the banks can be exchanged. -/
theorem swap_runs {i : Instr} {s : State} (hi : i ∈ [.timeSliceExpiry, .hostSwapRequest]) (hh : s.haltHolds s.ev.a = false) {inc : ResidentSet} {im : Nat}
    (hr : s.swapTo s.ev.a = some (inc, im)) : exec i s = .next ((s.sliceBoundary s.ev.a).swap s.ev.a inc im) := by
  have htry : exec .timeSliceExpiry s = execTimeSliceExpiry s := rfl
  have hask : exec .hostSwapRequest s = execHostSwapRequest s := rfl
  rcases List.mem_pair.1 hi with rfl | rfl
  · rw [htry, execTimeSliceExpiry, hh, State.trySwap, hr]; rfl
  · rw [hask, execHostSwapRequest, hh, State.askSwap, hr]; rfl

theorem timeSliceExpiry_stays {s : State} (hh : s.haltHolds s.ev.a = false) (hr : s.swapTo s.ev.a = none) :
    exec .timeSliceExpiry s = .next (s.sliceBoundary s.ev.a) := by
  have htry : exec .timeSliceExpiry s = execTimeSliceExpiry s := rfl
  rw [htry, execTimeSliceExpiry, hh, State.trySwap, hr]
  rfl

theorem hostSwapRequest_stays {s : State} (hh : s.haltHolds s.ev.a = false) (hr : s.swapTo s.ev.a = none) :
    exec .hostSwapRequest s = .next (s.modPlot s.ev.a fun x => { x with swapAsked := false }) := by
  have hask : exec .hostSwapRequest s = execHostSwapRequest s := rfl
  rw [hask, execHostSwapRequest, hh, State.askSwap, hr]
  rfl

/-- A halted group defers either. -/
theorem swap_deferred {i : Instr} {s : State} (hi : i ∈ [.timeSliceExpiry, .hostSwapRequest]) (hh : s.haltHolds s.ev.a = true) : exec i s =
    .next (s.modPlot s.ev.a fun y => if i = .timeSliceExpiry then { y with expiryDeferred := true } else { y with swapAsked := true }) := by
  have htry : exec .timeSliceExpiry s = execTimeSliceExpiry s := rfl
  have hask : exec .hostSwapRequest s = execHostSwapRequest s := rfl
  rcases List.mem_pair.1 hi with rfl | rfl
  · rw [htry, execTimeSliceExpiry, hh]; rfl
  · rw [hask, execHostSwapRequest, hh]; rfl

theorem bankSwaps : BankSwaps := by
  intro i hi s p x out
  refine ⟨fun hh => swap_deferred hi ((State.haltHolds_iff s p).2 hh), fun hh => ?_⟩
  have hnot : s.haltHolds p = false := by
    rw [Bool.eq_false_iff, Ne, State.haltHolds_iff]
    rintro ⟨g, hg, h⟩
    exact absurd h (by simp [hh g hg])
  constructor
  · intro hr
    have hnone := State.swapTo_none hr
    exact ⟨fun h => h ▸ hostSwapRequest_stays hnot hnone, fun h => ⟨_, h ▸ timeSliceExpiry_stays hnot hnone, State.sliceBoundary_only s p⟩⟩
  · intro inc im hinc hpin hidle him hs hn hpend hq
    exact ⟨_, swap_runs hi hnot (State.swapTo_some hinc hpin hidle him), State.sliceSwap_leaves hn hs im hpend hq⟩

end Sys2Proof.Machine
end

section
/-! PROOFS. The spill engine. -/

namespace Sys2Proof.Machine

set_option Elab.async false
open Claims

/-! ## The groups that a home store leaves as they are

A store at a home slice drops copies in caches, which wakes the groups that watch a line; every other group keeps its state. One lemma for each function
on the way. -/

/-- The group waits in an `mwait`. -/
def Group.watches (g : Group) : Bool := match g.hold with | some (.mwait ..) => true | _ => false

/-- What a table holds for a group, unless it waits in an `mwait`. -/
def unwatched (gs : Tab Group) (k : Nat) : Option (Option Group) := if (tabGet {} gs k).watches then none else some (tabFind gs k)

theorem find_of_unwatched {s t : State} (h : unwatched t.groups = unwatched s.groups) {k : Nat} (hk : (s.group k).watches = false) :
    tabFind t.groups k = tabFind s.groups k := by
  have hk' : (tabGet {} s.groups k).watches = false := hk
  have h1 := congrFun h k
  simp only [unwatched, hk', Bool.false_eq_true, if_false] at h1
  split at h1
  · cases h1
  · exact Option.some.inj h1

/-- A group that waits in an `mwait` changes, and goes on waiting. -/
theorem unwatched_tabUpd {gs : Tab Group} {g : Nat} {f : Group → Group} (hg : (tabGet {} gs g).watches = true) (hf : (f (tabGet {} gs g)).watches = true) :
    unwatched (tabUpd gs g f) = unwatched gs := by
  funext k
  by_cases hk : k = g
  · subst hk
    obtain ⟨x, hx⟩ : ∃ x, tabFind gs k = some x := by
      cases hx : tabFind gs k with
      | none => rw [tabGet, hx] at hg; cases hg
      | some x => exact ⟨x, rfl⟩
    have hget : tabGet {} (tabUpd gs k f) k = f (tabGet {} gs k) := by simp [tabGet, hx]
    rw [unwatched, unwatched, hget, hg, hf]
    rfl
  · unfold unwatched tabGet
    rw [tabFind_tabUpd_ne gs f hk]

theorem State.ite_unwatched {c : Prop} [Decidable c] (s t : State) :
    unwatched (if c then s else t).groups = if c then unwatched s.groups else unwatched t.groups := by split <;> rfl

/-- A fold each of whose turns leaves those groups. -/
theorem State.foldl_unwatched {β : Type} {f : State → β → State} (h : ∀ t b, unwatched (f t b).groups = unwatched t.groups) (l : List β) (s : State) :
    unwatched (l.foldl f s).groups = unwatched s.groups := foldl_same (fun t : State => unwatched t.groups) f l s h

theorem State.foldl_groups {β : Type} {f : State → β → State} (h : ∀ t b, (f t b).groups = t.groups) (l : List β) (s : State) :
    (l.foldl f s).groups = s.groups := foldl_same State.groups f l s h

/-! ### Memory -/

theorem State.writeMem_groups (s : State) (a : Nat) (bs : List Byte) : (s.writeMem a bs).groups = s.groups :=
  (s.writeMem_onlyMemory a bs).field State.groups fun _ _ _ _ _ _ _ _ _ => rfl

theorem State.wakeFrame_groups (s : State) (p : Nat) : (s.wakeFrame p).groups = s.groups :=
  (s.wakeFrame_onlyMemory p).field State.groups fun _ _ _ _ _ _ _ _ _ => rfl

theorem State.clearTags_groups (s : State) (a n : Nat) : (s.clearTags a n).groups = s.groups :=
  State.foldl_groups (fun t i => by
    dsimp only
    split
    · unfold State.writeDesc
      split
      · exact t.wakeFrame_groups _
      · rfl
    · rfl) _ _

theorem State.storeMem_groups (s : State) (a : Nat) (bs : List Byte) : (s.storeMem a bs).groups = s.groups := by
  have h : ((s.writeMem a bs).clearTags a bs.length).groups = s.groups := by rw [State.clearTags_groups, State.writeMem_groups]
  unfold State.storeMem
  dsimp only
  split
  · exact h
  · exact h

theorem State.copyBlock_groups (s : State) (a b : Nat) : (s.copyBlock a b).groups = s.groups := by
  have poke (l : List Nat) (t : State) (f : Nat → Byte) : (l.foldl (fun t i => t.pokeByte (b + i) (f i)) t).groups = t.groups :=
    State.foldl_groups (fun t i => State.pokeByte_groups t _ _) l t
  simp only [State.copyBlock, apply_ite State.groups, ite_self, poke]

theorem State.enqueue_groups (s : State) (f : FqFields) (t : FqTarget) : (s.enqueue f t).groups = s.groups := by
  unfold State.enqueue State.fqPlace
  split
  · rw [State.writeMem_groups, State.modPgc_groups]
  · rfl

/-! ### The caches -/

@[simp] theorem State.wakeWatch_unwatched (s : State) (p l : Nat) : unwatched (s.wakeWatch p l).groups = unwatched s.groups :=
  State.foldl_unwatched (fun t x => by
    split
    next g =>
      split
      next d a r w n l' hm =>
        split
        · have hw : (t.group g).watches = true := by rw [Group.watches, hm]
          rw [State.afterOnce_groups]
          exact unwatched_tabUpd hw rfl
        · rfl
      next => rfl
    next => rfl) _ _

@[simp] theorem State.l1Drop_unwatched (s : State) (p a g : Nat) : unwatched (s.l1Drop p a g).groups = unwatched s.groups := by
  unfold State.l1Drop
  split
  · split
    · dsimp only
      split
      · exact State.wakeWatch_unwatched _ _ _
      · rfl
    · rfl
  · rfl

@[simp] theorem State.recallLine_unwatched (s : State) (a : Nat) : unwatched (s.recallLine a).groups = unwatched s.groups :=
  State.foldl_unwatched (fun t p => t.l1Drop_unwatched p _ _) _ _

theorem State.settleLine_groups (s : State) (a : Nat) : (s.settleLine a).groups = s.groups :=
  State.foldl_groups (fun t e => by
    unfold State.blockWritten
    dsimp only
    split <;> rfl) _ _

theorem State.loseLine_groups (s : State) (a : Nat) : (s.loseLine a).groups = s.groups := by
  refine State.foldl_groups (fun t e => ?_) _ s
  exact State.foldl_groups (fun v i => State.pokeByte_groups v _ _) _ t

@[simp] theorem State.l2Drop_unwatched (s : State) (a : Nat) : unwatched (s.l2Drop a).groups = unwatched s.groups := by
  unfold State.l2Drop
  split
  · rw [State.settleLine_groups, State.modDie_groups, State.recallLine_unwatched]
  · exact State.recallLine_unwatched _ _

@[simp] theorem State.l2Discard_unwatched (s : State) (a : Nat) : unwatched (s.l2Discard a).groups = unwatched s.groups := by
  rw [State.l2Discard, State.l2Drop_unwatched, State.loseLine_groups]

@[simp] theorem State.containLine_unwatched (s : State) (b : Nat) : unwatched (s.containLine b).groups = unwatched s.groups := by
  have poison (t : State) (bs : List Nat) : (bs.foldl (fun t b => t.setPoison (b * 64)) t).groups = t.groups := State.foldl_groups (f := fun t b => t.setPoison (b * 64)) (fun _ _ => rfl) bs t
  unfold State.containLine
  dsimp only
  split
  · rfl
  · split <;> simp [State.ite_unwatched, poison, State.enqueue_groups]

@[simp] theorem State.writeBackLine_unwatched (s : State) (l : Nat) : unwatched (s.writeBackLine l).groups = unwatched s.groups := by
  unfold State.writeBackLine
  split
  · split
    · exact State.l2Drop_unwatched _ _
    · exact State.containLine_unwatched _ _
  · exact State.l2Drop_unwatched _ _

@[simp] theorem State.quarantineWay_unwatched (s : State) (d sl w : Nat) : unwatched (s.quarantineWay d sl w).groups = unwatched s.groups := by
  have back (l : List Nat) (t : State) : unwatched (l.foldl State.writeBackLine t).groups = unwatched t.groups :=
    State.foldl_unwatched (fun t l => t.writeBackLine_unwatched l) l t
  have zero (t : State) (j : Nat) : (t.zeroScratchWay d sl j).groups = t.groups := by
    refine State.foldl_groups (fun t i => ?_) _ t
    rfl
  unfold State.quarantineWay
  dsimp only
  split <;> simp [back, zero]

@[simp] theorem State.l2Storage_unwatched (s : State) (a : Nat) : unwatched (s.l2Storage a).groups = unwatched s.groups := by
  unfold State.l2Storage State.l2Uncorrectable
  split
  · split <;> simp
  · rfl

theorem State.eccRead_groups (s : State) (a : Nat) : (s.eccRead a).groups = s.groups := by
  unfold State.eccRead State.eccReadAt
  dsimp only
  split
  · rfl
  · split
    · rfl
    · split
      · rfl
      · split
        · rfl
        · split
          · rw [State.modDie_groups, State.copyBlock_groups]
          · rfl

theorem State.eccGrain_groups (s : State) (g a : Nat) : (s.eccGrain g a).groups = s.groups := State.foldl_groups (fun t _ => t.eccRead_groups _) _ s

@[simp] theorem State.l2Evict_unwatched (s : State) (a : Nat) : unwatched (s.l2Evict a).groups = unwatched s.groups := by
  unfold State.l2Evict
  dsimp only
  split <;> simp [State.ite_unwatched]

@[simp] theorem State.l2Place_unwatched (a g : Nat) (b : BitVec 16) (n : Nat) (s : State) : unwatched (State.l2Place a g b n s).groups = unwatched s.groups := by
  induction n generalizing s with
  | zero => rfl
  | succ n ih =>
    unfold State.l2Place
    split
    · rfl
    · dsimp only
      split <;> simp [State.ite_unwatched, ih]

@[simp] theorem State.l2Ensure_unwatched (s : State) (a g : Nat) : unwatched (s.l2Ensure a g).1.groups = unwatched s.groups := by
  unfold State.l2Ensure
  dsimp only
  split
  · split
    · rw [State.modDie_groups, State.setL2, State.modDie_groups, State.ite_unwatched, State.eccGrain_groups, ite_self, State.l2Storage_unwatched]
    · exact State.l2Storage_unwatched _ _
  · rw [State.l2Place_unwatched, State.eccGrain_groups, State.l2Storage_unwatched]

theorem State.setDir_groups (s : State) (a : Nat) (e : Option DirEntry) : (s.setDir a e).groups = s.groups := by
  unfold State.setDir
  split
  · split <;> rfl
  · rfl

@[simp] theorem State.invalidateQuad_unwatched (s : State) (q a : Nat) (k : Option Nat) : unwatched (s.invalidateQuad q a k).groups = unwatched s.groups :=
  State.foldl_unwatched (fun t p => by
    split
    · rfl
    · exact t.l1Drop_unwatched _ _ _) _ _

@[simp] theorem State.serveHome_unwatched (s : State) (a g : Nat) : unwatched (s.serveHome a g).groups = unwatched s.groups := by
  unfold State.serveHome
  dsimp only
  rw [State.setDir_groups]
  split
  · exact State.l2Ensure_unwatched _ _ _
  · rw [State.foldl_unwatched fun t q => t.invalidateQuad_unwatched q a none, State.l2Ensure_unwatched]

theorem State.homeStore_unwatched (s : State) (a : Nat) (bs : List Byte) : unwatched (s.homeStore a bs).groups = unwatched s.groups := by
  rw [State.homeStore, State.storeMem_groups, State.ownHome, State.ite_unwatched, State.serveHome_unwatched, ite_self]

theorem State.uncached_groups (s : State) (a : Nat) : (s.uncached a).1.groups = s.groups := by
  unfold State.uncached
  dsimp only
  split
  · rfl
  · exact s.wakeFrame_groups _

/-! ### Images -/

theorem State.imageStore_leaves (s : State) (c va : Nat) (bs : List Byte) :
    (s.imageStore c va bs).cycle = s.cycle ∧ unwatched (s.imageStore c va bs).groups = unwatched s.groups := by
  constructor
  · refine State.foldl_cycle (fun t k => ?_) _ s
    split <;> simp
  · refine State.foldl_unwatched (fun t k => ?_) _ s
    split
    · rw [State.homeStore_unwatched, State.uncached_groups]
    · rfl

theorem State.imagesStore_leaves (s : State) (p : Nat) (r : ResidentSet) :
    (s.imagesStore p r).cycle = s.cycle ∧ unwatched (s.imagesStore p r).groups = unwatched s.groups :=
  ⟨State.foldl_cycle (fun t c => (t.imageStore_leaves c _ _).1) _ s, State.foldl_unwatched (fun t c => (t.imageStore_leaves c _ _).2) _ s⟩

/-! ## The steps of the spill engine -/

theorem spillEngine_eq (s : State) : exec .spillEngine s = .next (match (s.plot s.ev.a).spill with
    | .idle => s
    | .drain => if s.ev.flag then s.spillFails s.ev.a else s.spillDrain s.ev.a (decide (s.ev.b = 1))
    | .save => if s.ev.b = 2 then s.spillSaved s.ev.a else s
    | .restoreTeams => if s.ev.b = 2 then s.teamsRestored s.ev.a else s
    | .restoreSet => if s.ev.b = 2 then s.setRestored s.ev.a else s) := rfl

section
variable {s : State} {p : Nat} {r : ResidentSet}

/-- Nothing drains: the set is saved at once. -/
theorem State.spillDrain_empty (first : Bool) (hr : (s.plot p).outgoing = some r)
    (hcb : ∀ g ∈ r.groups, (s.team (s.group g).team).cb = [] ∧ (s.team (s.group g).team).commits = []) : s.spillDrain p first = s.spillSave p := by
  have hempty {i : Nat} (hi : i ∈ s.teamsOf r.groups) : (s.team i).cb = [] ∧ (s.team i).commits = [] := by
    rw [State.teamsOf, List.mem_eraseDups] at hi
    obtain ⟨g, hg, rfl⟩ := List.mem_map.1 hi
    exact hcb g hg
  have hsame : (((s.teamsOf (Option.getD (some r) {}).groups).filter fun t => (s.team t).live).foldl
      (fun (t : State) i => if (t.team i).cb.isEmpty then t else t.beginCommit i .spill) s) = s := by
    refine foldl_fixed_of_mem fun i hi => ?_
    rw [(hempty (List.mem_of_mem_filter hi)).1]
    rfl
  rw [State.spillDrain, hr, hsame, ite_self, if_neg]
  rw [List.any_eq_true]
  rintro ⟨i, hi, h⟩
  obtain ⟨hb, hc⟩ := hempty (List.mem_of_mem_filter hi)
  rw [hb, hc] at h
  cases h

/-- Every page of an image belongs to a context with a part in the set. -/
theorem State.mem_imagePages {e : Nat × Nat} (he : e ∈ s.imagePages p r) : ∃ g ∈ r.groups, ∃ k < 8,
    e = ((s.group g).ctx, (s.ctx (s.group g).ctx).spillArea.toNat + (2 * p + r.image.getD 0) * 0x80000 + 65536 * k) := by
  rw [State.imagePages, List.mem_flatMap] at he
  obtain ⟨c, hc, he⟩ := he
  rw [State.ctxsOf, List.mem_eraseDups] at hc
  obtain ⟨g, hg, rfl⟩ := List.mem_map.1 hc
  obtain ⟨k, hk, rfl⟩ := List.mem_map.1 he
  exact ⟨g, hg, k, List.mem_range.1 hk, rfl⟩

/-- A set whose pages can all be written is saved. -/
theorem State.spillSave_writes (hr : (s.plot p).outgoing = some r) (hm : s.pgc.moving = [])
    (hok : ∀ g ∈ r.groups, ∀ k, k < 8 → ∃ dpa pte, (s.translateWalk (s.group g).ctx
      ((s.ctx (s.group g).ctx).spillArea.toNat + (2 * p + r.image.getD 0) * 0x80000 + 65536 * k) .write).2 = .ok dpa pte) :
    s.spillSave p = ((s.imagesStore p r).modPlot p fun x => { x with spill := .save }).after (768 + s.shareSum (s.teamsOf r.groups) / 256)
      .spillEngine { a := p, b := 2 } := by
  have hrest : (s.imagePages p r).any (fun e => s.isMoving e.1 e.2) = false := by
    simp [State.isMoving, hm]
  have hgood : (s.imagePages p r).findSome? (fun e => match (s.translateWalk e.1 e.2 .write).2 with | .ok _ _ => none | x => some (e, x)) = none := by
    rw [List.findSome?_eq_none_iff]
    intro e he
    obtain ⟨g, hg, k, hk, rfl⟩ := State.mem_imagePages he
    obtain ⟨dpa, pte, h⟩ := hok g hg k hk
    rw [h]
  rw [State.spillSave, hr]
  dsimp only [Option.getD_some]
  rw [if_neg (by rw [hrest]; decide)]
  split
  next h => cases h.symm.trans hgood
  next h => cases h.symm.trans hgood
  next => rfl

end

/-- The plot changes, and the engine goes on after a step's time. -/
def State.spillNext (s : State) (p : Nat) (f : Plot → Plot) (n : Nat) : State := (s.modPlot p f).after n .spillEngine { a := p, b := 2 }

theorem State.spillNext_plot (s : State) (p : Nat) (f : Plot → Plot) (n : Nat) : (s.spillNext p f n).plot p = f (s.plot p) := State.plot_modPlot_same s p f

theorem State.spillNext_inAgenda (s : State) (p : Nat) (f : Plot → Plot) (n : Nat) : InAgenda (s.spillNext p f n) (s.cycle + n) .spillEngine { a := p, b := 2 } :=
  State.atCycle_inAgenda (s.modPlot p f) _ _ _

/-- The drain of a set without buffered stores. -/
theorem spillEngine_drain {s : State} (hx : (s.plot s.ev.a).spill = .drain) (hf : s.ev.flag = false) (hm : s.pgc.moving = []) {r : ResidentSet}
    (hr : (s.plot s.ev.a).outgoing = some r) (hcb : ∀ g ∈ r.groups, (s.team (s.group g).team).cb = [] ∧ (s.team (s.group g).team).commits = [])
    (hok : ∀ g ∈ r.groups, ∀ k, k < 8 → ∃ dpa pte, (s.translateWalk (s.group g).ctx
      ((s.ctx (s.group g).ctx).spillArea.toNat + (2 * s.ev.a + r.image.getD 0) * 0x80000 + 65536 * k) .write).2 = .ok dpa pte) :
    ∃ t n, exec .spillEngine s = .next t ∧ (t.plot s.ev.a).spill = .save ∧ 768 ≤ n ∧ InAgenda t (s.cycle + n) .spillEngine { a := s.ev.a, b := 2 } ∧
      unwatched t.groups = unwatched s.groups := by
  obtain ⟨hcycle, hgroups⟩ := s.imagesStore_leaves s.ev.a r
  have hrun : exec .spillEngine s = .next ((s.imagesStore s.ev.a r).spillNext s.ev.a (fun x => { x with spill := .save })
      (768 + s.shareSum (s.teamsOf r.groups) / 256)) := by
    rw [spillEngine_eq, hx, hf]
    dsimp only
    rw [if_neg Bool.false_ne_true, State.spillDrain_empty _ hr hcb, State.spillSave_writes hr hm hok]
    rfl
  refine ⟨_, 768 + s.shareSum (s.teamsOf r.groups) / 256, hrun, ?_, Nat.le_add_right _ _, ?_, hgroups⟩
  · rw [State.spillNext_plot]
  · rw [← hcycle]
    exact State.spillNext_inAgenda _ _ _ _

/-- A group of a list stands elsewhere after its list has moved. -/
theorem State.group_moveAll {s : State} {gs : List Nat} {place : Loc} (hn : gs.Nodup) {g : Nat} (hg : g ∈ gs) (hs : (tabFind s.groups g).isSome = true) :
    (s.modGroups gs fun y => y.moveTo place).group g = { s.group g with loc := if (s.group g).loc = .gone then .gone else place } := by
  rw [State.group_modGroups hn hg hs, Group.moveTo_eq]

section
variable {s : State} {r : ResidentSet} (hn : r.groups.Nodup) (hs : ∀ g ∈ r.groups, (tabFind s.groups g).isSome = true)
include hn hs

/-- The set has been saved. -/
theorem spillEngine_saved (hx : (s.plot s.ev.a).spill = .save) (hb : s.ev.b = 2) (hr : (s.plot s.ev.a).outgoing = some r) :
    ∃ t n, exec .spillEngine s = .next t ∧ (t.plot s.ev.a).spill = .restoreTeams ∧ (t.plot s.ev.a).outgoing = none ∧
      (t.plot s.ev.a).spilled = (s.plot s.ev.a).spilled ++ [r] ∧
      (∀ g ∈ r.groups, t.group g = { s.group g with loc := if (s.group g).loc = .gone then .gone else .spilled (r.image.getD 0) }) ∧
      (∀ g, g ∉ r.groups → tabFind t.groups g = tabFind s.groups g) ∧ 1 ≤ n ∧ InAgenda t (s.cycle + n) .spillEngine { a := s.ev.a, b := 2 } := by
  have hrun : exec .spillEngine s = .next ((s.modGroups r.groups fun y => y.moveTo (.spilled (r.image.getD 0))).spillNext s.ev.a
      (fun y => { y with outgoing := none, spilled := y.spilled ++ [r], spill := .restoreTeams })
      (Nat.max 1 (s.shareSum (s.teamsOf (activeGroups (s.plot s.ev.a))) / 256))) := by
    rw [spillEngine_eq, hx, hb]
    dsimp only
    rw [if_pos rfl, State.spillSaved, hr]
    dsimp only
    rw [State.foldl_modGroup]
    rfl
  refine ⟨_, _, hrun, ?_, ?_, ?_, fun g hg => State.group_moveAll hn hg (hs g hg), fun g hg => State.find_modGroups_others hn hg, Nat.le_max_left _ _,
    State.spillNext_inAgenda (s.modGroups r.groups _) _ _ _⟩
  · rw [State.spillNext_plot]
  · rw [State.spillNext_plot]
  · rw [State.spillNext_plot]
    rfl

/-- A set has been restored. -/
theorem spillEngine_restored {rest : List ResidentSet} (hx : (s.plot s.ev.a).spill = .restoreSet) (hb : s.ev.b = 2)
    (hr : (s.plot s.ev.a).spilled = r :: rest) : ∃ t, exec .spillEngine s = .next t ∧ (t.plot s.ev.a).spill = .idle ∧ (t.plot s.ev.a).spilled = rest ∧
      (t.plot s.ev.a).shadow = some { groups := r.groups } ∧
      (∀ g ∈ r.groups, t.group g = { s.group g with loc := if (s.group g).loc = .gone then .gone else .shadow }) ∧
      (∀ g, g ∉ r.groups → tabFind t.groups g = tabFind s.groups g) := by
  have hrun : exec .spillEngine s = .next ((s.modGroups r.groups fun y => y.moveTo .shadow).modPlot s.ev.a
      fun x => { x with shadow := some { groups := r.groups }, spilled := rest, spill := .idle }) := by
    rw [spillEngine_eq, hx, hb]
    dsimp only
    rw [if_pos rfl, State.setRestored, hr]
    dsimp only
    rw [State.foldl_modGroup]
  refine ⟨_, hrun, ?_, ?_, ?_, fun g hg => State.group_moveAll hn hg (hs g hg), fun g hg => State.find_modGroups_others hn hg⟩
  · rw [State.plot_modPlot_same]
  · rw [State.plot_modPlot_same]
  · rw [State.plot_modPlot_same]

end

theorem State.teamsRestored_eq (s : State) (p : Nat) : ∃ f : Plot → Plot,
    (∀ x, (f x).spilled = x.spilled ∧ (f x).spill = if x.spilled.isEmpty then .idle else .restoreSet) ∧
    s.teamsRestored p = if (s.plot p).spilled.isEmpty then s.modPlot p f else s.spillNext p f 768 := by
  refine ⟨?f, ?parts, ?eq⟩
  case eq =>
    unfold State.teamsRestored
    dsimp only
    rw [State.plot_modPlot_same]
    rfl
  case parts => exact fun x => ⟨rfl, rfl⟩

/-- The incoming teams' state has been restored. -/
theorem spillEngine_teams {s : State} (hx : (s.plot s.ev.a).spill = .restoreTeams) (hb : s.ev.b = 2) :
    ∃ t, exec .spillEngine s = .next t ∧ t.groups = s.groups ∧ (t.plot s.ev.a).spilled = (s.plot s.ev.a).spilled ∧
      ((s.plot s.ev.a).spilled = [] → (t.plot s.ev.a).spill = .idle ∧ t.agenda = s.agenda) ∧
      ((s.plot s.ev.a).spilled ≠ [] → (t.plot s.ev.a).spill = .restoreSet ∧ InAgenda t (s.cycle + 768) .spillEngine { a := s.ev.a, b := 2 }) := by
  have hrun : exec .spillEngine s = .next (s.teamsRestored s.ev.a) := by
    rw [spillEngine_eq, hx, hb]
    rfl
  obtain ⟨f, hf, heq⟩ := s.teamsRestored_eq s.ev.a
  obtain ⟨hspilled, hspill⟩ := hf (s.plot s.ev.a)
  rw [heq] at hrun
  cases h : (s.plot s.ev.a).spilled with
  | nil =>
    rw [h] at hrun hspill
    refine ⟨s.modPlot s.ev.a f, hrun, rfl, ?_, fun _ => ⟨?_, rfl⟩, fun hne => absurd rfl hne⟩
    · exact (congrArg Plot.spilled (State.plot_modPlot_same s s.ev.a f)).trans (hspilled.trans h)
    · exact (congrArg Plot.spill (State.plot_modPlot_same s s.ev.a f)).trans hspill
  | cons r rest =>
    rw [h] at hrun hspill
    refine ⟨s.spillNext s.ev.a f 768, hrun, rfl, ?_, fun hnil => absurd hnil (List.cons_ne_nil _ _), fun _ => ⟨?_, State.spillNext_inAgenda s s.ev.a f 768⟩⟩
    · exact (congrArg Plot.spilled (State.spillNext_plot s s.ev.a f 768)).trans (hspilled.trans h)
    · exact (congrArg Plot.spill (State.spillNext_plot s s.ev.a f 768)).trans hspill

theorem spillSteps : SpillSteps := by
  intro s p x
  refine ⟨fun h => ?_, fun hx hf hm r hr hcb hok => ?_, fun hx hb r hr hn hs => spillEngine_saved hn hs hx hb hr, fun hx hb => spillEngine_teams hx hb,
    fun hx hb r rest hr hn hs => spillEngine_restored hn hs hx hb hr⟩
  · have h' : (s.plot s.ev.a).spill = .idle := h
    rw [spillEngine_eq, h']
  · obtain ⟨t, n, hrun, hsave, hn, hag, hgroups⟩ := spillEngine_drain hx hf hm hr hcb hok
    refine ⟨t, n, hrun, hsave, hn, hag, fun g hg => find_of_unwatched hgroups ?_⟩
    unfold Group.watches
    split
    next d a y w k l heq => exact absurd heq (hg d a y w k l)
    next => rfl

/-- Settles O52: a swap is followed group by group through its two lists, a drain through the caches that the image's stores pass. -/
theorem bankSwapping : Obligations.BankSwapping := ⟨bankSwaps, spillSteps⟩

end Sys2Proof.Machine
end

section
/-! PROOFS. The tick stop, trace rings, and slots that stay empty. -/

namespace Sys2Proof.Machine

set_option Elab.async false
open Claims

/-! ## The tick stop -/

theorem tstopArm_eq {s : State} {late : Bool}
    (h : (decide (s.regs.tstopt.toNat < s.tick) || (decide (s.regs.tstopt.toNat = s.tick) && decide (s.cycle % 2 = 1))) = late) :
    let s1 := s.modRegs (fun r => { r with arm := true, tstopt := if late then BitVec.ofNat 64 (s.tick + 1) else r.tstopt })
    exec .tstopArm s = .next (if !late && decide (s.regs.tstopt.toNat = s.tick) then { s1 with agenda := { due := s.cycle, what := .tickStop } :: s1.agenda }
      else s1) := by
  rw [← h]
  rfl

theorem tstopArm_arms (s : State) : let n := s.regs.tstopt.toNat
    (s.tick < n → ∃ t, exec .tstopArm s = .next t ∧ t.regs = { s.regs with arm := true } ∧ t.agenda = s.agenda) ∧
    (n < s.tick ∨ (n = s.tick ∧ s.cycle % 2 = 1) → ∃ t, exec .tstopArm s = .next t ∧ t.regs = { s.regs with arm := true, tstopt := BitVec.ofNat 64 (s.tick + 1) } ∧
      t.agenda = s.agenda) ∧
    (n = s.tick → s.cycle % 2 = 0 → ∃ t, exec .tstopArm s = .next t ∧ t.regs = { s.regs with arm := true } ∧
      t.agenda = { due := s.cycle, what := .tickStop } :: s.agenda) := by
  intro n
  refine ⟨fun h => ?_, fun h => ?_, fun h h2 => ?_⟩
  · have hne : s.regs.tstopt.toNat ≠ s.tick := (Nat.ne_of_lt h).symm
    rw [tstopArm_eq (late := false) (by simp [hne, show s.tick ≤ s.regs.tstopt.toNat from h.le]), decide_eq_false hne]
    exact ⟨_, rfl, rfl, rfl⟩
  · rw [tstopArm_eq (late := true) (by simpa [n] using h)]
    exact ⟨_, rfl, rfl, rfl⟩
  · have heq : s.regs.tstopt.toNat = s.tick := h
    rw [tstopArm_eq (late := false) (by simp [heq, h2]), decide_eq_true heq]
    exact ⟨_, rfl, rfl, rfl⟩

theorem tickStop_eq (s : State) : exec .tickStop s = .next (if s.regs.arm then { s with regs := { s.regs with stopped := true } } else s) := rfl

theorem tstopRelease_eq (s : State) : exec .tstopRelease s =
    .next (s.regs.haltReqs.foldl (fun (t : State) v => t.haltRequest v) (s.modRegs fun r => { r with stopped := false, arm := false, haltReqs := [] })) := rfl

theorem tstopRelease_quiet {s : State} (h : s.regs.haltReqs = []) :
    exec .tstopRelease s = .next { s with regs := { s.regs with stopped := false, arm := false } } := by
  rw [tstopRelease_eq, h]
  exact congrArg (fun q => (Host.Outcome.next { s with regs := { s.regs with stopped := false, arm := false, haltReqs := q } } : Result)) h.symm

theorem tstopRelease_halts {s : State} {v : DWord} (h : s.regs.haltReqs = [v]) (hv : v.extractLsb' 0 2 = 0) :
    exec .tstopRelease s = .next ((s.modRegs fun r => { r with stopped := false, arm := false, haltReqs := [] }).after 0 .halt { v := v }) := by
  have hstep : haltStep v = some .halt := by
    have h0 : fld v.toNat 0 2 = 0 := by
      have h1 := congrArg BitVec.toNat hv
      simpa [BitVec.extractLsb'_toNat, fld] using h1
    unfold haltStep
    rw [h0]
    rfl
  rw [tstopRelease_eq, h, List.foldl_cons, List.foldl_nil, State.haltRequest, hstep]
  rfl

/-! ## Trace rings -/

/-- The ring that a write orders may be taken. -/
def ringOk (s : State) (v : Nat) : Prop :=
  v = 0 ∨ (v % 2 ^ 21 = 0 ∧ ∀ i, i < 32 → v / 65536 + i < s.hbmFrames ∧ (s.frame (v / 65536 + i)).reserved = true)

theorem trringWrite_takes {s : State} (ha : s.ev.a < 6) (h : ringOk s s.ev.v.toNat) :
    exec .trringWrite s = .next (s.modDie s.ev.a fun x => { x with trRing := s.ev.v }) := by
  have hrun : exec .trringWrite s = execTrringWrite s := rfl
  rw [hrun, execTrringWrite]
  rw [if_pos]
  refine ⟨ha, ?_⟩
  simpa [ringOk] using h

theorem trringWrite_ignores {s : State} (h : ¬ ringOk s s.ev.v.toNat) : exec .trringWrite s = .next s := by
  have hrun : exec .trringWrite s = execTrringWrite s := rfl
  rw [hrun, execTrringWrite]
  rw [if_neg]
  rintro ⟨-, hok⟩
  exact h (by simpa [ringOk] using hok)

/-! ## Empty slots -/

theorem emptySlot_other {s : State} (h : s.todo.head? ≠ some s.ev.a) : exec .emptySlot s = .next s := by
  have hrun : exec .emptySlot s = execEmptySlot s := rfl
  rw [hrun, execEmptySlot, if_neg h]

theorem emptySlot_idle {s t : State} {p : Nat} {rest : List Nat} (ha : s.ev.a = p) (ht : s.todo = p :: rest) (h : s.unitTurn p = .idle t) :
    exec .emptySlot s = .next t := by
  have hrun : exec .emptySlot s = execEmptySlot s := rfl
  rw [hrun, execEmptySlot, ha, ht, if_pos (by rfl), h]

/-- A charge to a plot. -/
theorem State.charge_charges {s : State} {p : Nat} (hp : p < 384) (r : Nat) : Charges s (s.charge p r).endTurn p r := by
  have hplot : ((s.charge p r).endTurn).plot p = { s.plot p with stall := tabMod 0 (s.plot p).stall r fun n => (n + 1) % 2 ^ 64 } := by
    rw [State.charge, if_pos hp]
    exact State.plot_modPlot_same s p fun x => { x with stall := tabMod 0 x.stall r fun n => (n + 1) % 2 ^ 64 }
  refine ⟨fun k => ?_, by rw [hplot], fun q hq => ?_, ?_, ?_, ?_⟩
  · rw [hplot]
    dsimp only
    split
    next h => rw [h, tabGet_tabMod_same]
    next h => rw [tabGet_tabMod_ne _ _ _ h]
  · rw [State.charge, if_pos hp]
    exact State.plot_modPlot_ne s (fun x => { x with stall := tabMod 0 x.stall r fun n => (n + 1) % 2 ^ 64 }) hq
  all_goals rw [State.charge, if_pos hp]
  · rfl
  · rfl
  · exact ⟨fun _ => rfl, fun _ => rfl, fun _ => rfl⟩

theorem State.charge_leaves (s : State) (p r : Nat) : (s.charge p r).groups = s.groups ∧ SameMemory s (s.charge p r).endTurn := by
  unfold State.charge
  split
  · exact ⟨rfl, fun _ => rfl, fun _ => rfl, fun _ => rfl⟩
  · exact ⟨rfl, fun _ => rfl, fun _ => rfl, fun _ => rfl⟩

theorem State.charge_todo (s : State) (p r : Nat) : (s.charge p r).todo = s.todo := by
  unfold State.charge
  split <;> rfl

/-- A slot without a group. -/
theorem emptySlot_noGroup {s : State} {p : Nat} {rest : List Nat} (ha : s.ev.a = p) (ht : s.todo = p :: rest) (hp : p ≠ 385) (hg : s.slotGroup p = none) :
    ∃ t, exec .emptySlot s = .next t ∧ t.todo = rest ∧ t.groups = s.groups ∧ SameMemory s t ∧ (p < 384 → Charges s t p 12) := by
  have hturn : s.unitTurn p = .idle (s.charge p stNoGroup).endTurn := by
    rw [State.unitTurn, if_neg hp, hg]
  obtain ⟨hgroups, hmem⟩ := s.charge_leaves p stNoGroup
  refine ⟨_, emptySlot_idle ha ht hturn, ?_, hgroups, hmem, fun h => State.charge_charges h _⟩
  rw [State.endTurn, State.charge_todo, ht]
  rfl

theorem State.slotEmpty_charges {s : State} {gid : Nat} {g : Group} (hf : tabFind s.groups gid = some g) (hc : ∀ c, g.clause = some c → c.second = false)
    (p r : Nat) : s.slotEmpty gid p r = (s.charge p r).endTurn := by
  rw [State.slotEmpty, State.group_eq hf]
  cases hcl : g.clause with
  | none => rfl
  | some c => rw [Option.map_some, hc c hcl]

section
variable {s : State} {p gid : Nat} {g : Group} {rest : List Nat} (ha : s.ev.a = p) (ht : s.todo = p :: rest) (hp : p < 384) (hs : s.slotGroup p = some gid)
  (hf : tabFind s.groups gid = some g)
include ha ht hp hs hf

/-- The turn of a slot's group that is charged. -/
theorem emptySlot_charges {r : Nat} (h : s.groupTurn gid g = .idle (s.charge p r).endTurn) : ∃ t, exec .emptySlot s = .next t ∧ Charges s t p r := by
  refine ⟨_, emptySlot_idle ha ht ?_, State.charge_charges hp r⟩
  rw [State.unitTurn, if_neg (by omega), hs]
  dsimp only
  rw [hf]
  exact h

variable (hplot : g.plot = p) (hc : ∀ c, g.clause = some c → c.second = false)
include hplot hc

/-- What holds a slot's group up, in the order of R404. -/
theorem emptySlot_held :
    let dark := s.cycle ≤ (s.plot p).blackout ∧ 0 < (s.plot p).blackout
    let still := g.halted = true ∧ g.stepping = false
    (g.loc ≠ .active → ∃ t, exec .emptySlot s = .next t ∧ Charges s t p 12) ∧
    (g.loc = .active → dark → ∃ t, exec .emptySlot s = .next t ∧ Charges s t p 15) ∧
    (g.loc = .active → ¬ dark → still → ∃ t, exec .emptySlot s = .next t ∧ Charges s t p 13) ∧
    (g.loc = .active → ¬ dark → ¬ still → s.faultHeld gid g = true → ∃ t, exec .emptySlot s = .next t ∧ Charges s t p 10) ∧
    (∀ h r, g.loc = .active → ¬ dark → ¬ still → s.faultHeld gid g = false → g.hold = some h → heldReason h = some r →
      ∃ t, exec .emptySlot s = .next t ∧ Charges s t p r) := by
  intro dark still
  have hslot (r : Nat) := State.slotEmpty_charges hf hc p r
  have hdark : (p < 384 ∧ s.cycle ≤ (s.plot p).blackout ∧ 0 < (s.plot p).blackout) ↔ dark := and_iff_right hp
  have hstill : (g.halted && !g.stepping) = true ↔ still := by simp [still]
  have key {r : Nat} (h : s.groupTurn gid g = .idle (s.charge p r).endTurn) := emptySlot_charges ha ht hp hs hf h
  refine ⟨fun hl => key ?_, fun hl hd => key ?_, fun hl hd hst => key ?_, fun hl hd hst hh => key ?_, fun h r hl hd hst hh hhold hr => key ?_⟩
  all_goals rw [State.groupTurn, hplot]; dsimp only
  · rw [if_pos hl]; rfl
  all_goals rw [if_neg (not_not.2 hl)]
  · rw [if_pos (hdark.2 hd), hslot]; rfl
  all_goals rw [if_neg (mt hdark.1 hd)]
  · rw [if_pos (hstill.2 hst), hslot]; rfl
  all_goals rw [if_neg (mt hstill.1 hst)]
  · rw [if_pos hh, hslot]; rfl
  · rw [if_neg (by simp [hh]), hhold]
    dsimp only
    rw [hslot]
    have hreason : s.holdReason g h = r := by
      cases h <;> cases hr <;> rfl
    rw [hreason]

end

/-! ## Eligible groups -/

theorem tabSorted_keys_nodup {α : Type} {t : Tab α} (h : tabSorted t = true) : (t.map (fun e => e.1)).Nodup := by
  induction t with
  | nil => exact List.nodup_nil
  | cons e t ih =>
    obtain ⟨hlt, ht⟩ := tabSorted_cons.1 h
    refine List.nodup_cons.2 ⟨fun hm => ?_, ih ht⟩
    obtain ⟨f, hf, heq⟩ := List.mem_map.1 hm
    have hlt' : e.1 < f.1 := hlt f hf
    exact Nat.ne_of_gt hlt' heq

/-- A fold over the plots of the machine each of whose turns changes the plot that it stands at. -/
theorem State.plot_foldl {s : State} (hs : tabSorted s.plots = true) {f : State → Nat × Plot → State} {val : Nat × Plot → Plot → Plot}
    (hsame : ∀ t e, (f t e).plot e.1 = val e (t.plot e.1)) (hne : ∀ t e q, q ≠ e.1 → (f t e).plot q = t.plot q) (p : Nat) :
    (s.plots.foldl f s).plot p = match tabFind s.plots p with | some x => val (p, x) x | none => s.plot p := by
  obtain ⟨out, hits⟩ := foldl_keyed (key := fun e : Nat × Plot => e.1) (get := State.plot) hsame hne s.plots s
  cases hp : tabFind s.plots p with
  | some x =>
    have hx : s.plot p = x := by rw [State.plot, tabGet, hp]
    have h := hits (tabSorted_keys_nodup hs) (p, x) (tabFind_mem hp)
    dsimp only at h ⊢
    rw [h, hx]
  | none =>
    refine out p fun hm => ?_
    obtain ⟨e, he, rfl⟩ := List.mem_map.1 hm
    rw [tabFind_of_mem hs he] at hp
    cases hp

/-- How many groups of a plot's slots have a word to issue. -/
def State.eligibleAt (s : State) (x : Plot) : Nat :=
  (x.slots.filter (fun y => match y with
    | some gid => (match tabFind s.groups gid with | some g => s.wouldIssue gid g | none => false) | none => false)).length

/-- One plot's count of eligible groups. -/
def State.countAt (s t : State) (e : Nat × Plot) : State :=
  if s.eligibleAt e.2 = 0 then t else t.modPlot e.1 fun x => { x with eligNow := s.eligibleAt e.2 }

theorem State.countEligible_eq (s : State) : s.countEligible = s.plots.foldl s.countAt s := rfl

theorem State.countEligible_groups (s : State) : s.countEligible.groups = s.groups ∧ s.countEligible.todo = s.todo := by
  rw [State.countEligible_eq]
  refine ⟨foldl_same State.groups _ _ _ fun t e => ?_, foldl_same State.todo _ _ _ fun t e => ?_⟩
  all_goals
    unfold State.countAt
    split <;> rfl

theorem State.countEligible_plot {s : State} (hs : tabSorted s.plots = true) {p : Nat} {x : Plot} (hx : tabFind s.plots p = some x) :
    s.countEligible.plot p = { x with eligNow := if s.eligibleAt x = 0 then x.eligNow else s.eligibleAt x } := by
  rw [State.countEligible_eq, State.plot_foldl hs (f := s.countAt) (val := fun e x => { x with eligNow := if s.eligibleAt e.2 = 0 then x.eligNow else s.eligibleAt e.2 }),
    hx]
  · intro t e
    unfold State.countAt
    split
    · rfl
    · exact State.plot_modPlot_same t e.1 fun x => { x with eligNow := s.eligibleAt e.2 }
  · intro t e q hq
    unfold State.countAt
    split
    · rfl
    · exact State.plot_modPlot_ne t (fun x => { x with eligNow := s.eligibleAt e.2 }) hq

theorem emptySlot_counts {s : State} {rest : List Nat} (ha : s.ev.a = 385) (ht : s.todo = 385 :: rest) : exec .emptySlot s = .next s.countEligible.endTurn :=
  emptySlot_idle ha ht (if_pos rfl)

/-- A plot whose count enters ELIG1 to ELIG8. -/
def Plot.countFolded (x : Plot) (n : Nat) : Plot :=
  if n = 0 then x else { x with elig := tabMod 0 x.elig n (fun k => (k + 1) % 2 ^ 64), eligNow := 0 }

theorem State.foldElig_plot {s : State} (hs : tabSorted s.plots = true) (p : Nat) : s.foldElig.plot p = (s.plot p).countFolded (s.plot p).eligNow := by
  rw [State.foldElig, State.plot_foldl hs (val := fun e x => x.countFolded e.2.eligNow)]
  · cases hp : tabFind s.plots p with
    | some x =>
      have hx : s.plot p = x := by rw [State.plot, tabGet, hp]
      rw [hx]
    | none =>
      have hx : s.plot p = {} := by rw [State.plot, tabGet, hp]
      rw [hx]
      rfl
  · intro t e
    unfold Plot.countFolded
    split
    · rfl
    · exact State.plot_modPlot_same t e.1 _
  · intro t e q hq
    split
    · rfl
    · exact State.plot_modPlot_ne t _ hq

theorem State.foldElig_elig {s : State} (hs : tabSorted s.plots = true) (p k : Nat) : let n := (s.plot p).eligNow
    tabGet 0 (s.foldElig.plot p).elig k = (if k = n ∧ n ≠ 0 then (tabGet 0 (s.plot p).elig k + 1) % 2 ^ 64 else tabGet 0 (s.plot p).elig k) := by
  intro n
  rw [State.foldElig_plot hs, Plot.countFolded]
  split
  next h => rw [if_neg fun h' => h'.2 h]
  next h =>
    dsimp only
    split
    next hk => rw [hk.1, tabGet_tabMod_same]
    next hk => rw [tabGet_tabMod_ne _ _ _ fun h' => hk ⟨h', h⟩]

theorem State.plotCount_elig (s : State) (p : Nat) {n : Nat} (hn : n < 8) : s.plotCount p (0x041 + n) = tabGet 0 (s.plot p).elig (n + 1) := by
  rw [State.plotCount]
  dsimp only
  rw [if_neg (by omega), if_pos (by omega)]
  congr 1
  omega

/-- ELIG0 is what CYCLE leaves of the others. -/
theorem State.plotCount_elig0 (s : State) (p : Nat) : s.plotCount p 0x040 < 2 ^ 64 ∧
    (s.plotCount p 0x040 + ((s.plot p).elig.filter (fun e => decide (e.1 ≠ 0))).foldl (fun m e => m + e.2) 0) % 2 ^ 64 = s.plotCycle p % 2 ^ 64 := by
  have hsum : (s.plot p).elig.foldl (fun m e => if e.1 = 0 then m else m + e.2) 0 =
      ((s.plot p).elig.filter (fun e => decide (e.1 ≠ 0))).foldl (fun m e => m + e.2) 0 := by
    rw [List.foldl_filter]
    congr 1
    funext m e
    by_cases h : e.1 = 0 <;> simp [h]
  rw [State.plotCount]
  dsimp only
  rw [if_pos rfl, hsum]
  constructor
  · exact Nat.mod_lt _ (by decide)
  · omega

theorem stopsRingsSlots : StopsRingsSlots := by
  refine ⟨tstopArm_arms, tickStop_eq, fun s h => tstopRelease_quiet h, fun s v h hv => ?_, fun s => ⟨trringWrite_takes, trringWrite_ignores⟩,
    fun s => emptySlot_other, fun s p rest => emptySlot_noGroup, fun s p gid g rest ha ht hp hs hf hplot hc => emptySlot_held ha ht hp hs hf hplot hc,
    fun s rest ha ht hs => ?_, fun s p k hs => State.foldElig_elig hs p k, fun s p n hn => s.plotCount_elig p hn, State.plotCount_elig0,
    fun s p rest t => emptySlot_idle⟩
  · exact ⟨_, tstopRelease_halts h hv, rfl, rfl, rfl, State.atCycle_inAgenda (s.modRegs _) _ _ _⟩
  · obtain ⟨hgroups, htodo⟩ := s.countEligible_groups
    refine ⟨_, emptySlot_counts ha ht, ?_, hgroups, fun p x hx => State.countEligible_plot hs hx⟩
    rw [State.endTurn, htodo, ht]
    rfl

end Sys2Proof.Machine
end

section
/-! PROOFS. The lines of the instruction cache. -/

namespace Sys2Proof.Machine

set_option Elab.async false
open Claims

/-! ## What a fill of the L2 leaves

With no error recorded and no frame DEAD, an eviction writes nothing: it moves lines and their copies, and wakes groups that watch one. -/

/-- The state without what the caches' bookkeeping changes. -/
def State.bare (s : State) : State := { s with plots := [], groups := [], agenda := [], dies := [], versions := [], under := [] }

/-- Only bookkeeping of the caches differs, and no instruction cache does. -/
structure CacheOnly (s t : State) : Prop where
  bare : t.bare = s.bare
  lines : ∀ p, (t.plot p).icache = (s.plot p).icache

/-- No error is recorded and no frame is DEAD. -/
structure AtRest (s : State) : Prop where
  alive : ∀ f, (s.frame f).dead = false
  ecc : s.eccErrors = []
  l2 : s.l2Errors = []

theorem CacheOnly.refl (s : State) : CacheOnly s s := ⟨rfl, fun _ => rfl⟩

theorem CacheOnly.trans {s t v : State} (a : CacheOnly s t) (b : CacheOnly t v) : CacheOnly s v :=
  ⟨b.bare.trans a.bare, fun p => (b.lines p).trans (a.lines p)⟩

/-- What does not look at the caches reads as it did. -/
theorem CacheOnly.read {s t : State} (h : CacheOnly s t) {α : Type} (q : State → α) (hq : ∀ v : State, q v.bare = q v) : q t = q s := by
  rw [← hq t, ← hq s, h.bare]

theorem CacheOnly.atRest {s t : State} (h : CacheOnly s t) (r : AtRest s) : AtRest t where
  alive f := (h.read (fun v => (v.frame f).dead) fun _ => rfl).trans (r.alive f)
  ecc := (h.read State.eccErrors fun _ => rfl).trans r.ecc
  l2 := (h.read State.l2Errors fun _ => rfl).trans r.l2

theorem CacheOnly.foldl {β : Type} {f : State → β → State} {s : State} (l : List β) (h : ∀ t, CacheOnly s t → ∀ b, CacheOnly t (f t b)) :
    CacheOnly s (l.foldl f s) := List.foldlRecOn l f (CacheOnly.refl s) fun t ht b _ => ht.trans (h t ht b)

theorem AtRest.deadAt {s : State} (r : AtRest s) (p : Nat) : s.deadAt p = false := by simp [State.deadAt, r.alive]

theorem CacheOnly.memory {s t : State} (h : CacheOnly s t) (r : AtRest s) : SameMemory s t := by
  have hr := h.atRest r
  have hphys (a : Nat) : t.phys a = s.phys a := h.read (fun v => v.phys a) fun _ => rfl
  have hmem : t.mem = s.mem := h.read State.mem fun _ => rfl
  have hdesc : t.desc = s.desc := h.read State.desc fun _ => rfl
  have hpoison : t.poison = s.poison := h.read State.poison fun _ => rfl
  refine ⟨fun a => ?_, fun a => ?_, fun a => ?_⟩
  · simp only [State.readByte, State.rawByte, r.deadAt, hr.deadAt, hphys, hmem]
  · simp only [State.readDesc, r.deadAt, hr.deadAt, hphys, hdesc]
  · simp only [State.poisoned, r.deadAt, hr.deadAt, hphys, hpoison]

theorem State.modPlot_cacheOnly (s : State) (p : Nat) {f : Plot → Plot} (hf : ∀ x, (f x).icache = x.icache) : CacheOnly s (s.modPlot p f) where
  bare := rfl
  lines q := by
    by_cases hq : q = p
    · rw [hq, State.plot_modPlot_same, hf]
    · rw [State.plot_modPlot_ne s f hq]

theorem CacheOnly.modDie {s t : State} (h : CacheOnly s t) (d : Nat) (f : Die → Die) : CacheOnly s (t.modDie d f) := h.trans ⟨rfl, fun _ => rfl⟩

theorem State.wakeWatch_cacheOnly (s : State) (p l : Nat) : CacheOnly s (s.wakeWatch p l) :=
  CacheOnly.foldl _ fun t _ x => by
    split
    · split
      · split
        · unfold State.afterOnce
          split
          · exact ⟨rfl, fun _ => rfl⟩
          · exact ⟨rfl, fun _ => rfl⟩
        · exact CacheOnly.refl t
      · exact CacheOnly.refl t
    · exact CacheOnly.refl t

theorem State.l1Drop_cacheOnly (s : State) (p a g : Nat) : CacheOnly s (s.l1Drop p a g) := by
  unfold State.l1Drop
  split
  · split
    · dsimp only
      split
      · refine CacheOnly.trans ?_ (State.wakeWatch_cacheOnly _ _ _)
        exact s.modPlot_cacheOnly p fun _ => rfl
      · exact s.modPlot_cacheOnly p fun _ => rfl
    · exact CacheOnly.refl s
  · exact CacheOnly.refl s

theorem State.recallLine_cacheOnly (s : State) (a : Nat) : CacheOnly s (s.recallLine a) := CacheOnly.foldl _ fun t _ p => t.l1Drop_cacheOnly p _ _

section
variable {s : State} (r : AtRest s)
include r

theorem AtRest.blockWritten (b : Nat) : CacheOnly s (s.blockWritten b) := by
  unfold State.blockWritten
  dsimp only
  rw [if_neg (by simp [r.alive]), r.ecc]
  refine ⟨?_, fun _ => rfl⟩
  exact congrArg (fun e => { s.bare with eccErrors := e }) r.ecc.symm

theorem AtRest.settleLine (a : Nat) : CacheOnly s (s.settleLine a) := by
  have h : CacheOnly s ((s.under.filter (fun e => decide (e.1 / 8 = a / 512))).foldl (fun t e => t.blockWritten e.1) s) :=
    CacheOnly.foldl _ fun t ht e => (ht.atRest r).blockWritten e.1
  exact h.trans ⟨rfl, fun _ => rfl⟩

theorem AtRest.l2Drop (a : Nat) : CacheOnly s (s.l2Drop a) := by
  have hrecall := s.recallLine_cacheOnly a
  unfold State.l2Drop
  split
  · exact (hrecall.modDie _ _).trans (((hrecall.modDie _ _).atRest r).settleLine a)
  · exact hrecall

theorem AtRest.l2Storage (a : Nat) : s.l2Storage a = s := by
  rw [State.l2Storage, r.l2]
  rfl

theorem AtRest.eccGrain (g a : Nat) : s.eccGrain g a = s := by
  refine foldl_fixed_of_mem fun i _ => ?_
  rw [State.eccRead, State.eccReadAt, r.ecc]
  rfl

theorem AtRest.l2Evict (a : Nat) : CacheOnly s (s.l2Evict a) := by
  have hclean : ({ s with l2Errors := s.l2Errors.filter (fun b => decide (b / 8 ≠ a / 512)) } : State) = s := by
    rw [r.l2]
    exact congrArg (fun e => { s with l2Errors := e }) r.l2.symm
  unfold State.l2Evict
  dsimp only
  rw [hclean, r.l2Storage]
  split
  · rw [ite_self]
    exact r.l2Drop a
  · exact r.l2Drop a

end

theorem AtRest.l2Place {s : State} (r : AtRest s) (a g : Nat) (b : BitVec 16) (n : Nat) : CacheOnly s (State.l2Place a g b n s) := by
  induction n generalizing s with
  | zero => exact CacheOnly.refl s
  | succ n ih =>
    unfold State.l2Place
    split
    · exact CacheOnly.refl s
    next w _ =>
      have goesOn {t : State} (h : CacheOnly s t) {c : Prop} [Decidable c] (d : Nat) (f : Die → Die) :
          CacheOnly s (if c then State.l2Place a g b n t else t.modDie d f) := by
        split
        · exact h.trans (ih (h.atRest r))
        · exact h.modDie d f
      dsimp only
      split
      · exact goesOn (r.l2Evict _) _ _
      · exact goesOn (CacheOnly.refl s) _ _

theorem AtRest.l2Ensure {s : State} (r : AtRest s) (a g : Nat) : CacheOnly s (s.l2Ensure a g).1 := by
  unfold State.l2Ensure
  dsimp only
  rw [r.l2Storage, r.eccGrain]
  split
  · split
    · rw [ite_self]
      exact ((CacheOnly.refl s).modDie _ _).modDie _ _
    · exact CacheOnly.refl s
  · exact r.l2Place _ _ _ _

/-! ## Fetched lines -/

/-- A plot waits for a line no more. -/
def Plot.fetched (x : Plot) (c vline : Nat) : Plot := { x with fetching := x.fetching.filter (fun e => decide (e ≠ (c, vline))) }

section
variable {s m : State} {p c va : Nat} (ha : s.ev.a = p) (hb : s.ev.b = c) (hv : s.ev.v.toNat / 64 * 64 = va)
include ha hb hv

theorem icacheFill_unasked (h : ((s.plot p).fetching.contains (c, va / 64)) = false) : exec .icacheFill s = .next s := by
  have hrun : exec .icacheFill s = execIcacheFill s := rfl
  rw [hrun, execIcacheFill, ha, hb, hv, h]
  rfl

variable (hf : (s.plot p).fetching.contains (c, va / 64) = true)
include hf

theorem icacheFill_moving (h : s.isMoving c va = true) : exec .icacheFill s = .next (s.after 1 .icacheFill { a := p, b := c, v := s.ev.v }) := by
  have hrun : exec .icacheFill s = execIcacheFill s := rfl
  rw [hrun, execIcacheFill, ha, hb, hv, hf, h]
  rfl

variable (hm : s.isMoving c va = false)
include hm

theorem icacheFill_perm (h : s.translate p c va .fetch = (m, .perm)) : exec .icacheFill s =
    .next ((m.modPlot p fun x => x.fetched c (va / 64)).modPlot p fun y => { y with fetchFail := y.fetchFail ++
      [(c, va / 64, { cls := 7, cause := 19, addr := BitVec.ofNat 64 va })] }) := by
  have hrun : exec .icacheFill s = execIcacheFill s := rfl
  rw [hrun, execIcacheFill, ha, hb, hv, hf, hm, h]
  rfl

theorem icacheFill_waits {dpa pte n : Nat} (h : s.translate p c va .fetch = (m, .ok dpa pte)) (hw : m.blockWait dpa = some (n + 1)) :
    exec .icacheFill s = .next (m.after (n + 1) .icacheFill { a := p, b := c, v := s.ev.v }) := by
  have hrun : exec .icacheFill s = execIcacheFill s := rfl
  rw [hrun, execIcacheFill, ha, hb, hv, hf, hm, h]
  dsimp only
  rw [hw]
  rfl

/-- The state in which a line is read: the L2 has it where the page may be cached. -/
def State.lineHome (t : State) (dpa pte c : Nat) : State :=
  if cacheable dpa pte then (if (t.l2Ensure dpa (pteGrain pte)).2 then (t.l2Ensure dpa (pteGrain pte)).1.servePool dpa pte c else (t.l2Ensure dpa (pteGrain pte)).1)
  else t

theorem icacheFill_reads {dpa pte : Nat} (h : s.translate p c va .fetch = (m, .ok dpa pte)) (hw : m.blockWait dpa = none) (he : m.eccErrors = [])
    (hp : m.poisoned dpa = false) : exec .icacheFill s =
      .next (((m.lineHome dpa pte c).fetchLine p c va dpa).1.modPlot p fun y => y.addLine ((m.lineHome dpa pte c).fetchLine p c va dpa).2) := by
  have hrun : exec .icacheFill s = execIcacheFill s := rfl
  rw [hrun, execIcacheFill, ha, hb, hv, hf, hm, h]
  dsimp only
  rw [hw, eccMiss_none he, hp]
  rfl

end

theorem blockWait_atRest {s : State} (h : FramesAtRest s) (dpa : Nat) : s.blockWait dpa = none := by
  obtain ⟨hframes, hswitch⟩ := h
  have hframe (f : Nat) : (s.frame f).zeroing = none ∧ (s.frame f).fill = none := by
    unfold State.frame tabGet
    cases hf : tabFind s.frames f with
    | none => exact ⟨rfl, rfl⟩
    | some x =>
      obtain ⟨-, hz, hfill⟩ := hframes _ (tabFind_mem hf)
      exact ⟨hz, hfill⟩
  have hbm (q : Nat) : s.hbmWait q = 0 := by
    unfold State.hbmWait
    rw [(hframe _).1, hswitch]
    split <;> rfl
  have hfill : s.fillWait dpa = 0 := by
    unfold State.fillWait
    split
    next f _ => rw [(hframe f).2]
    next => rfl
  rw [State.blockWait, hbm, hfill]
  split <;> rfl

theorem AtRest.of {s : State} (h : FramesAtRest s) (he : s.eccErrors = []) (hl : s.l2Errors = []) : AtRest s where
  alive f := by
    unfold State.frame tabGet
    cases hf : tabFind s.frames f with
    | none => rfl
    | some x => exact (h.1 _ (tabFind_mem hf)).1
  ecc := he
  l2 := hl

/-- Outside the pool the page cache has no part in a fill. -/
theorem State.servePool_outside {s : State} {dpa : Nat} (h : isPool dpa = false) (pte c : Nat) : s.servePool dpa pte c = s := by
  rw [State.servePool, State.pageCache, h]
  rfl

theorem lineHome_cacheOnly {m : State} {dpa pte : Nat} (c : Nat) (hr : FramesAtRest m) (he : m.eccErrors = [])
    (h : cacheable dpa pte = false ∨ (m.l2Errors = [] ∧ isPool dpa = false)) : CacheOnly m (m.lineHome dpa pte c) ∧ SameMemory m (m.lineHome dpa pte c) := by
  unfold State.lineHome
  split
  next hc =>
    obtain h | ⟨hl, hpool⟩ := h
    · rw [hc] at h; cases h
    · have r := AtRest.of hr he hl
      rw [State.servePool_outside hpool, ite_self]
      exact ⟨r.l2Ensure _ _, (r.l2Ensure _ _).memory r⟩
  next => exact ⟨CacheOnly.refl m, SameMemory.refl m⟩

theorem Plot.addLine_mem (x : Plot) (l : ILine) : l ∈ (x.addLine l).icache := List.mem_append_right _ (List.mem_singleton_self l)

theorem Plot.addLine_fetching (x : Plot) (l : ILine) : (l.ctx, l.vline) ∉ (x.addLine l).fetching := by
  simp [Plot.addLine]

/-- The cache holds at most 512 lines. -/
theorem Plot.addLine_length {x : Plot} (l : ILine) (h : x.icache.length ≤ 512) : (x.addLine l).icache.length ≤ 512 := by
  have hkeep := List.length_filter_le (fun y => !(decide (y.ctx = l.ctx) && decide (y.vline = l.vline))) x.icache
  unfold Plot.addLine
  dsimp only
  rw [List.length_append, List.length_singleton]
  split
  · omega
  · rw [List.length_drop]
    omega

/-- The line of a context at an address, as memory holds it, without breakpoint bits. -/
def State.plainLine (s : State) (c va dpa : Nat) : ILine :=
  { ctx := c, vline := va / 64, words := (List.range 16).map (fun i => BitVec.ofNat 32 (s.readNat (dpa + 4 * i) 4)),
    marks := if descFmt (s.readDesc dpa) = 0 then (s.readDesc dpa).extractLsb' 16 16 else 0, checked := hasMeta dpa, brk := 0 }

/-- Without a breakpoint map a line has no breakpoint bits. -/
theorem State.fetchLine_plain {s : State} {c : Nat} (h : fld (tabGet 0 s.regs.brkMap c).toNat 0 57 = 0) (p va dpa : Nat) :
    s.fetchLine p c va dpa = (s, s.plainLine c va dpa) := by
  have hbits : s.brkBits p c va = (s, 0) := by rw [State.brkBits, if_pos (.inl h)]
  rw [State.fetchLine, hbits, State.plainLine]

theorem SameMemory.readNat {s t : State} (h : SameMemory s t) (a n : Nat) : t.readNat a n = s.readNat a n := by
  simp only [State.readNat, State.readMem, h.1]

theorem icacheFill_fills {s m : State} {p c va dpa pte : Nat} (ha : s.ev.a = p) (hb : s.ev.b = c) (hv : s.ev.v.toNat / 64 * 64 = va)
    (hf : (s.plot p).fetching.contains (c, va / 64) = true) (hm : s.isMoving c va = false) (h : s.translate p c va .fetch = (m, .ok dpa pte))
    (hr : FramesAtRest m) (he : m.eccErrors = []) (hp : m.poisoned dpa = false)
    (hl2 : cacheable dpa pte = false ∨ (m.l2Errors = [] ∧ isPool dpa = false)) (hbrk : fld (tabGet 0 m.regs.brkMap c).toNat 0 57 = 0) :
    ∃ t l, exec .icacheFill s = .next t ∧ l ∈ (t.plot p).icache ∧ l.ctx = c ∧ l.vline = va / 64 ∧
      (∀ i, i < 16 → l.words[i]? = some (BitVec.ofNat 32 (m.readNat (dpa + 4 * i) 4))) ∧
      (descFmt (m.readDesc dpa) = 0 → l.marks = (m.readDesc dpa).extractLsb' 16 16) ∧ l.checked = hasMeta dpa ∧ l.brk = 0 ∧
      (c, va / 64) ∉ (t.plot p).fetching ∧ ((m.plot p).icache.length ≤ 512 → (t.plot p).icache.length ≤ 512) ∧ SameMemory m t := by
  obtain ⟨hcache, hmem⟩ := lineHome_cacheOnly c hr he hl2
  have hregs : (m.lineHome dpa pte c).regs = m.regs := hcache.read State.regs fun _ => rfl
  have hline := State.fetchLine_plain (s := m.lineHome dpa pte c) (by rw [hregs]; exact hbrk) p va dpa
  have hrun := icacheFill_reads ha hb hv hf hm h (blockWait_atRest hr dpa) he hp
  rw [hline] at hrun
  refine ⟨_, (m.lineHome dpa pte c).plainLine c va dpa, hrun, ?_, rfl, rfl, fun i hi => ?_, fun hd => ?_, rfl, rfl, ?_, fun hlen => ?_, hmem.trans (State.modPlot_memory _ _ _)⟩
  · rw [State.plot_modPlot_same]
    exact Plot.addLine_mem _ _
  · rw [State.plainLine, List.getElem?_map, List.getElem?_range hi, Option.map_some, hmem.readNat]
  · rw [State.plainLine, hmem.2.1, if_pos hd]
  · rw [State.plot_modPlot_same]
    exact Plot.addLine_fetching _ _
  · rw [State.plot_modPlot_same]
    exact Plot.addLine_length _ (by rw [hcache.lines]; exact hlen)

theorem instructionLines : InstructionLines := by
  intro s p c va ha hb hv
  refine ⟨icacheFill_unasked ha hb hv, fun hf => ⟨icacheFill_moving ha hb hv hf, fun hm m => ⟨fun h => ?_, fun dpa pte n h => icacheFill_waits ha hb hv hf hm h,
    fun dpa pte h hr he hp hl2 hbrk => icacheFill_fills ha hb hv hf hm h hr he hp hl2 hbrk⟩⟩⟩
  refine ⟨_, icacheFill_perm ha hb hv hf hm h, ?_, ?_, rfl⟩
  · rw [State.plot_modPlot_same]
    exact List.mem_append_right _ (List.mem_singleton_self _)
  · rw [State.plot_modPlot_same, State.plot_modPlot_same]
    simp [Plot.fetched]

/-- Settles O53: the tick stop, the rings and the slots by their cases, a line through the fill of the L2 that brings it. -/
theorem stopsRingsLines : Obligations.StopsRingsLines := ⟨stopsRingsSlots, instructionLines⟩

end Sys2Proof.Machine
end

section
/-! PROOFS. A context reset that meets an error of its own memory. -/

namespace Sys2Proof.Machine

set_option Elab.async false
open Claims

/-! ## A record that a reset leaves

The tables of context 0 map frame 9. The block of their leaf entry is dirty in the L2 under the context's owner tag, and an uncorrectable error of it has not
been found yet (R363). Step 6 of the reset sets PTE.DEAD in that entry (R274): the home slice reads the line, finds the error, and sends a CONTAIN record of
the context after step 5 has dropped the context's records. -/

/-- Address of the leaf entry. -/
def deadLeafAt : Nat := 0x104128

/-- Five levels of tables, the last entry a leaf that maps frame 9. -/
def leafTables : List (Nat × Nat) :=
  [(0x100008, 0x101001), (0x101010, 0x102001), (0x102018, 0x103001), (0x103020, 0x104101), (deadLeafAt, 0x73 + 9 * 2 ^ 21)]

/-- The line of the leaf entry, with the block of the entry dirty for context 0. -/
def dirtyLeafLine : L2Line := { line := deadLeafAt / 512, grain := 512, valid := 0xFFFF, dirty := 0x0300, owner := 0 }

/-- A device whose context 0 has its tables at 0x100000. -/
def leafMapped : State :=
  leafTables.foldl (fun s e => s.writeMem e.1 (natBytes 8 e.2)) (State.reset.modCtx 0 fun x => { x with ptroot := 0x100000, en := true })

/-- The same device, with an error in the L2's copy of the leaf entry. -/
def leafInError : State :=
  { leafMapped.modDie 0 (fun x => { x with l2 := [(l2Base deadLeafAt, dirtyLeafLine)] }) with
    under := [(deadLeafAt / 64, 0, 0)], l2Errors := [deadLeafAt / 64], ev := { a := 0 } }

theorem leafInError_idle : (leafInError.ctx 0).busy = false := by decide +kernel

theorem leafInError_maps : leafInError.ctxFrames 0 = [9] ∧ (leafInError.ctxLeaves 0).map (fun l => l.2.2) = [deadLeafAt] := by decide +kernel

/-- The reset leaves a CONTAIN record of the context. -/
theorem leafInError_leaves : (leafInError.askReset 0 false).pgc.fq.map (fun e => (fqKind e.2.data, fqCtx e.2.data)) = [(13, 0)] := by decide +kernel

theorem contextReset_asked {s : State} (hb : s.ev.b ≠ 1) : exec .contextReset s = .next (s.askReset s.ev.a s.ev.flag) := by
  have hrun : exec .contextReset s = execContextReset s := rfl
  rw [hrun, execContextReset, if_neg hb]

theorem not_resetSteps : ¬ ResetSteps := by
  intro h
  obtain ⟨t, hrun, -, -, -, -, -, -, -, -, -, -, hrecords, -⟩ := h.1 leafInError 0 rfl (by decide) leafInError_idle
  obtain rfl : leafInError.askReset 0 false = t := by
    injection (contextReset_asked (s := leafInError) (by decide)).symm.trans hrun
  obtain ⟨e, he, hkind⟩ := List.mem_map.1 (leafInError_leaves ▸ List.mem_singleton_self ((13, 0) : Nat × Nat))
  obtain ⟨hk, hc⟩ := Prod.mk.inj hkind
  exact (hrecords rfl).1 e he (by rw [hk]; rfl) hc

/-- Refutes O57: a reset that the host asks for can leave a fault record of the context. Its step 6 writes PTE.DEAD in a leaf entry whose L2 line has an error,
and the CONTAIN record of that error comes after step 5 has dropped the context's records. -/
theorem not_resets : ¬ Obligations.Resets := fun h => not_resetSteps h.2.1

end Sys2Proof.Machine
end

section
/-! PROOFS. Words and instructions: a word is made of its fields, a field of the parts that a form reads, and the decoder and the encoder undo each
other. -/

namespace Sys2Proof

set_option Elab.async false

/-! ## Parts of a joined vector -/

theorem extract_append_hi {n m : Nat} (x : BitVec n) (y : BitVec m) : (x ++ y).extractLsb' m n = x := by
  rw [extract_hi _ _ _ _ le_rfl, Nat.sub_self, extract_all]

theorem extract_append_lo {n m : Nat} (x : BitVec n) (y : BitVec m) : (x ++ y).extractLsb' 0 m = y := by
  rw [extract_lo _ _ _ _ (by omega), extract_all]

/-- Two neighbouring ranges of bits make the range of both. -/
theorem extract_join {w : Nat} (x : BitVec w) (s m n : Nat) : x.extractLsb' (s + m) n ++ x.extractLsb' s m = x.extractLsb' s (n + m) := by
  refine BitVec.eq_of_getLsbD_eq fun i hi => ?_
  rw [BitVec.getLsbD_append]
  by_cases h : i < m
  · simp [h, hi]
  · simp [h, hi, show s + m + (i - m) = s + i by omega, show i - m < n by omega]

/-! ## Constants and offsets across several fields (R79) -/

theorem layout_imm12 : (∀ b f : BitVec 6, (b ++ f).extractLsb' 6 6 = b ∧ (b ++ f).extractLsb' 0 6 = f) ∧
    ∀ i : BitVec 12, i.extractLsb' 6 6 ++ i.extractLsb' 0 6 = i :=
  ⟨fun b f => ⟨extract_append_hi b f, extract_append_lo b f⟩, fun i => (extract_join i 0 6 6).trans (extract_all i)⟩

theorem layout_imm18 : (∀ a b f : BitVec 6, (a ++ b ++ f).extractLsb' 12 6 = a ∧ (a ++ b ++ f).extractLsb' 6 6 = b ∧ (a ++ b ++ f).extractLsb' 0 6 = f) ∧
    ∀ i : BitVec 18, i.extractLsb' 12 6 ++ i.extractLsb' 6 6 ++ i.extractLsb' 0 6 = i := by
  refine ⟨fun a b f => ⟨?_, ?_, extract_append_lo _ f⟩, fun i => ?_⟩
  · exact (extract_hi _ f 12 6 (by decide)).trans (extract_append_hi a b)
  · exact (extract_hi _ f 6 6 (by decide)).trans (extract_append_lo a b)
  · rw [extract_join i 6 6 6]
    exact (extract_join i 0 6 12).trans (extract_all i)

theorem layout_imm24 : (∀ d a b f : BitVec 6, (d ++ a ++ b ++ f).extractLsb' 18 6 = d ∧ (d ++ a ++ b ++ f).extractLsb' 12 6 = a ∧
      (d ++ a ++ b ++ f).extractLsb' 6 6 = b ∧ (d ++ a ++ b ++ f).extractLsb' 0 6 = f) ∧
    ∀ i : BitVec 24, i.extractLsb' 18 6 ++ i.extractLsb' 12 6 ++ i.extractLsb' 6 6 ++ i.extractLsb' 0 6 = i := by
  refine ⟨fun d a b f => ?_, fun i => ?_⟩
  · obtain ⟨hd, ha, hb⟩ := layout_imm18.1 d a b
    exact ⟨(extract_hi _ f 18 6 (by decide)).trans hd, (extract_hi _ f 12 6 (by decide)).trans ha, (extract_hi _ f 6 6 (by decide)).trans hb,
      extract_append_lo _ f⟩
  · rw [extract_join i 12 6 6, extract_join i 6 6 12]
    exact (extract_join i 0 6 18).trans (extract_all i)

/-! ## Fields that hold several parts

Each layout says what stands in its places when the field is made of its parts, and that a field which passes the decoder's test of its constant bits is
made of the parts that are read from it. -/

/-- D of a compare: mask and condition (R73). -/
theorem layout_compare : (∀ (k : BitVec 3) (c : BitVec 4), (k ++ c : BitVec 7).extractLsb' 4 3 = k ∧ (k ++ c : BitVec 7).extractLsb' 0 4 = c) ∧
    ∀ d : BitVec 7, d.extractLsb' 4 3 ++ d.extractLsb' 0 4 = d := by decide

/-- B of a reduction: segment and operation (R144). -/
theorem layout_reduction : (∀ (s : BitVec 4) (p : BitVec 3), (s ++ p : BitVec 7).extractLsb' 3 4 = s ∧ (s ++ p : BitVec 7).extractLsb' 0 3 = p) ∧
    ∀ b : BitVec 7, b.extractLsb' 3 4 ++ b.extractLsb' 0 3 = b := by decide

/-- B of a shuffle: the offset (R143). -/
theorem layout_shuffle : (∀ e : BitVec 3, (0#4 ++ e : BitVec 7).extractLsb' 3 4 = 0 ∧ (0#4 ++ e : BitVec 7).extractLsb' 0 3 = e) ∧
    ∀ b : BitVec 7, b.extractLsb' 3 4 = 0 → 0#4 ++ b.extractLsb' 0 3 = b := by decide

/-- B of a lane access: flag select, hint and base (R74). -/
theorem layout_access : (∀ (f n : BitVec 1) (s : BitVec 5), (f ++ n ++ s : BitVec 7).extractLsb' 6 1 = f ∧ (f ++ n ++ s : BitVec 7).extractLsb' 5 1 = n ∧
      (f ++ n ++ s : BitVec 7).extractLsb' 0 5 = s) ∧
    ∀ b : BitVec 7, b.extractLsb' 6 1 ++ b.extractLsb' 5 1 ++ b.extractLsb' 0 5 = b := by decide

/-- B of a tile access: flag select and tile (R74). -/
theorem layout_tile : (∀ (f : BitVec 1) (t : BitVec 5), (f ++ 0#1 ++ t : BitVec 7).extractLsb' 6 1 = f ∧ (f ++ 0#1 ++ t : BitVec 7).extractLsb' 5 1 = 0 ∧
      (f ++ 0#1 ++ t : BitVec 7).extractLsb' 0 5 = t) ∧
    ∀ b : BitVec 7, b.extractLsb' 5 1 = 0 → b.extractLsb' 6 1 ++ 0#1 ++ b.extractLsb' 0 5 = b := by decide

/-- X of an atomic: scope and return (R74). -/
theorem layout_atomic : (∀ (c : BitVec 2) (r : BitVec 1), (c ++ r : BitVec 3).extractLsb' 1 2 = c ∧ (c ++ r : BitVec 3).extractLsb' 0 1 = r) ∧
    ∀ x : BitVec 3, x.extractLsb' 1 2 ++ x.extractLsb' 0 1 = x := by decide

/-- A mask index, and the rows of `rrel` (R60, R80). -/
theorem layout_three : (∀ k : BitVec 3, (0#3 ++ k : BitVec 6).extractLsb' 3 3 = 0 ∧ (0#3 ++ k : BitVec 6).extractLsb' 0 3 = k) ∧
    ∀ f : BitVec 6, f.extractLsb' 3 3 = 0 → 0#3 ++ f.extractLsb' 0 3 = f := by decide

/-- F of `scmp` and of `launch` (R34, R79). -/
theorem layout_one_four : (∀ (u : BitVec 1) (c : BitVec 4), (0#1 ++ u ++ c : BitVec 6).extractLsb' 5 1 = 0 ∧ (0#1 ++ u ++ c : BitVec 6).extractLsb' 4 1 = u ∧
      (0#1 ++ u ++ c : BitVec 6).extractLsb' 0 4 = c) ∧
    ∀ f : BitVec 6, f.extractLsb' 5 1 = 0 → 0#1 ++ f.extractLsb' 4 1 ++ f.extractLsb' 0 4 = f := by decide

/-- F of the barrier forms: scope and barrier (R173). -/
theorem layout_barrier : (∀ (s : BitVec 2) (n : BitVec 4), (s ++ n : BitVec 6).extractLsb' 4 2 = s ∧ (s ++ n : BitVec 6).extractLsb' 0 4 = n) ∧
    ∀ f : BitVec 6, f.extractLsb' 4 2 ++ f.extractLsb' 0 4 = f := by decide

/-- F of `fence`: kind and scope (R177). -/
theorem layout_fence : (∀ (k : BitVec 2) (s : BitVec 3), (0#1 ++ k ++ s : BitVec 6).extractLsb' 5 1 = 0 ∧ (0#1 ++ k ++ s : BitVec 6).extractLsb' 3 2 = k ∧
      (0#1 ++ k ++ s : BitVec 6).extractLsb' 0 3 = s) ∧
    ∀ f : BitVec 6, f.extractLsb' 5 1 = 0 → 0#1 ++ f.extractLsb' 3 2 ++ f.extractLsb' 0 3 = f := by decide

/-- F of `racq` (R60). -/
theorem layout_racq : (∀ n : BitVec 3, (0#3 ++ n : BitVec 6).extractLsb' 4 2 = 0 ∧ (0#3 ++ n : BitVec 6).extractLsb' 3 1 = 0 ∧
      (0#3 ++ n : BitVec 6).extractLsb' 0 3 = n) ∧
    ∀ f : BitVec 6, f.extractLsb' 4 2 = 0 → ¬ f.extractLsb' 3 1 = 1 → 0#3 ++ f.extractLsb' 0 3 = f := by decide

/-- F of `racq.try` (R60). -/
theorem layout_racqTry : (∀ n : BitVec 3, (1#3 ++ n : BitVec 6).extractLsb' 4 2 = 0 ∧ (1#3 ++ n : BitVec 6).extractLsb' 3 1 = 1 ∧
      (1#3 ++ n : BitVec 6).extractLsb' 0 3 = n) ∧
    ∀ f : BitVec 6, f.extractLsb' 4 2 = 0 → f.extractLsb' 3 1 = 1 → 1#3 ++ f.extractLsb' 0 3 = f := by decide

/-- F of `sld`: width, sign, flag select and scale (R79). -/
theorem layout_sld : (∀ (w : BitVec 2) (s f : BitVec 1) (c : BitVec 2), (w ++ s ++ f ++ c : BitVec 6).extractLsb' 4 2 = w ∧
      (w ++ s ++ f ++ c : BitVec 6).extractLsb' 3 1 = s ∧ (w ++ s ++ f ++ c : BitVec 6).extractLsb' 2 1 = f ∧
      (w ++ s ++ f ++ c : BitVec 6).extractLsb' 0 2 = c) ∧
    ∀ f : BitVec 6, f.extractLsb' 4 2 ++ f.extractLsb' 3 1 ++ f.extractLsb' 2 1 ++ f.extractLsb' 0 2 = f := by decide

/-- F of `sst`: as that of `sld`, without a sign (R79). -/
theorem layout_sst : (∀ (w : BitVec 2) (f : BitVec 1) (c : BitVec 2), (w ++ 0#1 ++ f ++ c : BitVec 6).extractLsb' 4 2 = w ∧
      (w ++ 0#1 ++ f ++ c : BitVec 6).extractLsb' 3 1 = 0 ∧ (w ++ 0#1 ++ f ++ c : BitVec 6).extractLsb' 2 1 = f ∧
      (w ++ 0#1 ++ f ++ c : BitVec 6).extractLsb' 0 2 = c) ∧
    ∀ f : BitVec 6, f.extractLsb' 3 1 = 0 → f.extractLsb' 4 2 ++ 0#1 ++ f.extractLsb' 2 1 ++ f.extractLsb' 0 2 = f := by decide

/-- F of `rld` and `rst`: as that of `sst`, 64 bits wide (R208, R209). -/
theorem layout_reference : (∀ (f : BitVec 1) (c : BitVec 2), (6#3 ++ f ++ c : BitVec 6).extractLsb' 4 2 = 3 ∧ (6#3 ++ f ++ c : BitVec 6).extractLsb' 3 1 = 0 ∧
      (6#3 ++ f ++ c : BitVec 6).extractLsb' 2 1 = f ∧ (6#3 ++ f ++ c : BitVec 6).extractLsb' 0 2 = c) ∧
    ∀ f : BitVec 6, f.extractLsb' 3 1 = 0 → f.extractLsb' 4 2 = 3 → 6#3 ++ f.extractLsb' 2 1 ++ f.extractLsb' 0 2 = f := by decide

/-- F of `satom`: scope, operation and flag select (R205). -/
theorem layout_satom : (∀ (s : BitVec 2) (p : BitVec 3) (f : BitVec 1), (s ++ p ++ f : BitVec 6).extractLsb' 4 2 = s ∧
      (s ++ p ++ f : BitVec 6).extractLsb' 1 3 = p ∧ (s ++ p ++ f : BitVec 6).extractLsb' 0 1 = f) ∧
    ∀ f : BitVec 6, f.extractLsb' 4 2 ++ f.extractLsb' 1 3 ++ f.extractLsb' 0 1 = f := by decide

/-- F of `pub`: flag select, state and scope (R210). -/
theorem layout_pub : (∀ (f z : BitVec 1) (s : BitVec 2), (0#2 ++ f ++ z ++ s : BitVec 6).extractLsb' 4 2 = 0 ∧ (0#2 ++ f ++ z ++ s : BitVec 6).extractLsb' 3 1 = f ∧
      (0#2 ++ f ++ z ++ s : BitVec 6).extractLsb' 2 1 = z ∧ (0#2 ++ f ++ z ++ s : BitVec 6).extractLsb' 0 2 = s) ∧
    ∀ f : BitVec 6, f.extractLsb' 4 2 = 0 → 0#2 ++ f.extractLsb' 3 1 ++ f.extractLsb' 2 1 ++ f.extractLsb' 0 2 = f := by decide

/-- F with one bit only, mostly the flag select (R81). -/
theorem layout_one : (∀ f : BitVec 1, (0#5 ++ f : BitVec 6).extractLsb' 1 5 = 0 ∧ (0#5 ++ f : BitVec 6).extractLsb' 0 1 = f) ∧
    ∀ f : BitVec 6, f.extractLsb' 1 5 = 0 → 0#5 ++ f.extractLsb' 0 1 = f := by decide

/-- F of `cpy` (R223). -/
theorem layout_cpy : (∀ f : BitVec 1, (0#5 ++ f : BitVec 6).extractLsb' 2 4 = 0 ∧ (0#5 ++ f : BitVec 6).extractLsb' 1 1 = 0) ∧
    ∀ f : BitVec 6, f.extractLsb' 2 4 = 0 → ¬ f.extractLsb' 1 1 = 1 → 0#5 ++ f.extractLsb' 0 1 = f := by decide

/-- F of `cpy.ce` (R223). -/
theorem layout_cpyCe : (∀ f : BitVec 1, (1#5 ++ f : BitVec 6).extractLsb' 2 4 = 0 ∧ (1#5 ++ f : BitVec 6).extractLsb' 1 1 = 1 ∧
      (1#5 ++ f : BitVec 6).extractLsb' 0 1 = f) ∧
    ∀ f : BitVec 6, f.extractLsb' 2 4 = 0 → f.extractLsb' 1 1 = 1 → 1#5 ++ f.extractLsb' 0 1 = f := by decide

/-- F of `mxz.define` and of `mxq`: slot and flag select (R246, R247). -/
theorem layout_mxzDefine : (∀ (s : BitVec 3) (f : BitVec 1), (0#2 ++ s ++ f : BitVec 6).extractLsb' 4 2 = 0 ∧ (0#2 ++ s ++ f : BitVec 6).extractLsb' 1 3 = s ∧
      (0#2 ++ s ++ f : BitVec 6).extractLsb' 0 1 = f) ∧
    ∀ f : BitVec 6, f.extractLsb' 4 2 = 0 → 0#2 ++ f.extractLsb' 1 3 ++ f.extractLsb' 0 1 = f := by decide

/-- F of `mxz.clr` (R246). -/
theorem layout_mxzClr : (∀ (s : BitVec 3) (f : BitVec 1), (1#2 ++ s ++ f : BitVec 6).extractLsb' 4 2 = 1 ∧ (1#2 ++ s ++ f : BitVec 6).extractLsb' 1 3 = s ∧
      (1#2 ++ s ++ f : BitVec 6).extractLsb' 0 1 = f) ∧
    ∀ f : BitVec 6, f.extractLsb' 4 2 = 1 → 1#2 ++ f.extractLsb' 1 3 ++ f.extractLsb' 0 1 = f := by decide

/-- F of `mxz.free` (R246): the one operation that is left. -/
theorem layout_mxzFree : (∀ (s : BitVec 3) (f : BitVec 1), (2#2 ++ s ++ f : BitVec 6).extractLsb' 4 2 = 2 ∧ (2#2 ++ s ++ f : BitVec 6).extractLsb' 1 3 = s ∧
      (2#2 ++ s ++ f : BitVec 6).extractLsb' 0 1 = f) ∧
    ∀ f : BitVec 6, ¬ f.extractLsb' 4 2 = 0 → ¬ f.extractLsb' 4 2 = 3 → ¬ f.extractLsb' 4 2 = 1 → 2#2 ++ f.extractLsb' 1 3 ++ f.extractLsb' 0 1 = f := by decide

/-- F of `svinit` (R255). -/
theorem layout_svinit : (∀ t m : BitVec 1, (0#4 ++ t ++ m : BitVec 6).extractLsb' 3 3 = 0 ∧ (0#4 ++ t ++ m : BitVec 6).extractLsb' 2 1 = 0) ∧
    ∀ f : BitVec 6, f.extractLsb' 3 3 = 0 → f.extractLsb' 2 1 = 0 → 0#4 ++ f.extractLsb' 1 1 ++ f.extractLsb' 0 1 = f := by decide

/-- F of `svget` (R256). -/
theorem layout_svget : (∀ c f : BitVec 1, (0#4 ++ c ++ f : BitVec 6).extractLsb' 2 4 = 0 ∧ (0#4 ++ c ++ f : BitVec 6).extractLsb' 1 1 = c ∧
      (0#4 ++ c ++ f : BitVec 6).extractLsb' 0 1 = f) ∧
    ∀ f : BitVec 6, f.extractLsb' 2 4 = 0 → 0#4 ++ f.extractLsb' 1 1 ++ f.extractLsb' 0 1 = f := by decide

/-! ## A word is made of its fields -/

theorem packLane_fields {w : Word} (h : w.extractLsb' 31 1 = 0#1) :
    packLane (wordOp w) (w.extractLsb' 17 7) (w.extractLsb' 10 7) (w.extractLsb' 3 7) (w.extractLsb' 0 3) = w := by
  rw [packLane, wordOp, ← h, extract_join w 24 7 1, extract_join w 17 7 8, extract_join w 10 7 15, extract_join w 3 7 22]
  exact (extract_join w 0 3 29).trans (extract_all w)

theorem packUni_fields {w : Word} (h : w.extractLsb' 31 1 = 1#1) :
    packUni (wordOp w) (w.extractLsb' 18 6) (w.extractLsb' 12 6) (w.extractLsb' 6 6) (w.extractLsb' 0 6) = w := by
  rw [packUni, wordOp, ← h, extract_join w 24 7 1, extract_join w 18 6 8, extract_join w 12 6 14, extract_join w 6 6 20]
  exact (extract_join w 0 6 26).trans (extract_all w)

theorem packPfx_fields {w : Word} (h : w.extractLsb' 31 1 = 1#1) (hop : wordOp w = 0x7F#7) (hlow : w.extractLsb' 0 8 = 0#8) :
    packPfx (w.extractLsb' 21 3) (w.extractLsb' 20 1) (w.extractLsb' 17 3) (w.extractLsb' 16 1) (w.extractLsb' 9 7) (w.extractLsb' 8 1) = w := by
  have hff : w.extractLsb' 24 8 = 0xFF#8 := (extract_join w 24 7 1).symm.trans (by rw [h, show w.extractLsb' 24 7 = _ from hop]; rfl)
  rw [packPfx, ← hff, ← hlow, extract_join w 21 3 8, extract_join w 20 1 11, extract_join w 17 3 12, extract_join w 16 1 15, extract_join w 9 7 16,
    extract_join w 8 1 23]
  exact (extract_join w 0 8 24).trans (extract_all w)

/-! ## Encoding undoes decoding -/

/-- What a decoder answers for the word `w`: an instruction only where `w` is its one word. -/
def AnswersFor (r : Except DecodeError Instr) (w : Word) : Prop := ∀ i, r = .ok i → encode i = [w] ∧ wordCount i = 1

theorem answersFor_error {e : DecodeError} {w : Word} : AnswersFor (.error e) w := nofun

theorem answersFor_ok {i : Instr} {v w : Word} (he : encode i = [v]) (hc : wordCount i = 1) (hv : v = w) : AnswersFor (.ok i) w := by
  rintro j ⟨⟩
  exact ⟨hv ▸ he, hc⟩

/-- A lane word answers for its fields: arm by arm, the encoding gives back the opcode and each field, a composed field by its layout. -/
theorem decodeLane_answersFor (op : Nat) (d a b : BitVec 7) (x : BitVec 3) : AnswersFor (decodeLane op d a b x) (packLane (BitVec.ofNat 7 op) d a b x) := by
  unfold decodeLane
  repeat' split
  all_goals try exact answersFor_error
  all_goals refine answersFor_ok rfl rfl ?_
  all_goals simp [layout_compare, layout_reduction, layout_shuffle, layout_access, layout_tile, layout_atomic, *]

/-- A uniform word answers for its fields. -/
theorem decodeUni_answersFor (op : Nat) (d a b f : BitVec 6) : AnswersFor (decodeUni op d a b f) (packUni (BitVec.ofNat 7 op) d a b f) := by
  unfold decodeUni
  repeat' split
  all_goals try exact answersFor_error
  all_goals refine answersFor_ok rfl rfl ?_
  all_goals simp_all [layout_imm12, layout_imm18, layout_imm24, layout_three, layout_one_four, layout_barrier, layout_fence, layout_racq, layout_racqTry, layout_sld,
    layout_sst, layout_reference, layout_satom, layout_pub, layout_one, layout_cpy, layout_cpyCe, layout_mxzDefine, layout_mxzClr, layout_mxzFree,
    layout_svinit, layout_svget]

theorem decodePfx_answersFor {w : Word} (h : w.extractLsb' 31 1 = 1#1) (hop : wordOp w = 0x7F#7) : AnswersFor (decodePfx w) w := by
  unfold decodePfx
  split
  · next hlow => exact answersFor_ok rfl rfl (packPfx_fields h hop hlow)
  · exact answersFor_error
/-! ## The four kinds of words -/

theorem decode_lane {w : Word} (hbit : w.extractLsb' 31 1 = 0#1) (rest : List Word) :
    decode (w :: rest) = decodeLane (wordOp w).toNat (w.extractLsb' 17 7) (w.extractLsb' 10 7) (w.extractLsb' 3 7) (w.extractLsb' 0 3) :=
  if_pos hbit

theorem decode_pfx {w : Word} (hbit : w.extractLsb' 31 1 = 1#1) (hop : wordOp w = 0x7F#7) (rest : List Word) : decode (w :: rest) = decodePfx w :=
  (if_neg (by rw [hbit]; decide)).trans (if_pos hop)

theorem decode_lit {w : Word} (hbit : w.extractLsb' 31 1 = 1#1) (hop : wordOp w = 0x17#7 ∨ wordOp w = 0x18#7) (rest : List Word) :
    decode (w :: rest) = decodeLit (wordOp w).toNat (w.extractLsb' 18 6) (w.extractLsb' 12 6) (w.extractLsb' 6 6) (w.extractLsb' 0 6) rest :=
  (if_neg (by rw [hbit]; decide)).trans ((if_neg (by obtain h | h := hop <;> rw [h] <;> decide)).trans (if_pos hop))

theorem decode_uni {w : Word} (hbit : w.extractLsb' 31 1 = 1#1) (hpfx : wordOp w ≠ 0x7F#7) (hlit : ¬ (wordOp w = 0x17#7 ∨ wordOp w = 0x18#7)) (rest : List Word) :
    decode (w :: rest) = decodeUni (wordOp w).toNat (w.extractLsb' 18 6) (w.extractLsb' 12 6) (w.extractLsb' 6 6) (w.extractLsb' 0 6) :=
  (if_neg (by rw [hbit]; decide)).trans ((if_neg hpfx).trans (if_neg hlit))

/-- Bit 31 tells the lane set from the uniform set (R69, R79). -/
theorem lane_or_uniform (w : Word) : w.extractLsb' 31 1 = 0#1 ∨ w.extractLsb' 31 1 = 1#1 := by
  generalize w.extractLsb' 31 1 = bit
  revert bit
  decide

theorem decodeLit_encode {op : BitVec 7} (hop : op = 0x17#7 ∨ op = 0x18#7) {d a b f : BitVec 6} {rest : List Word} {i : Instr}
    (h : decodeLit op.toNat d a b f rest = .ok i) :
    encode i = (packUni op d a b f :: rest).take (wordCount i) ∧ wordCount i ≤ (packUni op d a b f :: rest).length := by
  unfold decodeLit at h
  split at h
  · next hz =>
    obtain ⟨rfl, rfl, rfl⟩ := hz
    obtain rfl | rfl := hop
    · match rest with
      | [] => cases h
      | lit :: rest =>
        cases h
        exact ⟨rfl, by simp [wordCount]⟩
    · match rest with
      | [] | [_] => cases h
      | lo :: hi :: rest =>
        cases h
        exact ⟨rfl, by simp [wordCount]⟩
  · cases h

/-- The answer of a decoder for one word, as `EncodeDecode` states it of a list of words. -/
theorem AnswersFor.encode_take {r : Except DecodeError Instr} {w : Word} (ha : AnswersFor r w) {i : Instr} (h : r = .ok i) (rest : List Word) :
    encode i = (w :: rest).take (wordCount i) ∧ wordCount i ≤ (w :: rest).length := by
  obtain ⟨he, hc⟩ := ha i h
  rw [he, hc]
  simp

theorem encode_of_decode : Claims.EncodeDecode := by
  intro ws i h
  match ws with
  | [] => cases h
  | w :: rest =>
    obtain hbit | hbit := lane_or_uniform w
    · rw [decode_lane hbit] at h
      have ha := decodeLane_answersFor (wordOp w).toNat (w.extractLsb' 17 7) (w.extractLsb' 10 7) (w.extractLsb' 3 7) (w.extractLsb' 0 3)
      rw [BitVec.ofNat_toNat, BitVec.setWidth_eq, packLane_fields hbit] at ha
      exact ha.encode_take h rest
    · by_cases hpfx : wordOp w = 0x7F#7
      · rw [decode_pfx hbit hpfx] at h
        exact (decodePfx_answersFor hbit hpfx).encode_take h rest
      · by_cases hlit : wordOp w = 0x17#7 ∨ wordOp w = 0x18#7
        · rw [decode_lit hbit hlit] at h
          have hl := decodeLit_encode hlit h
          rwa [packUni_fields hbit] at hl
        · rw [decode_uni hbit hpfx hlit] at h
          have ha := decodeUni_answersFor (wordOp w).toNat (w.extractLsb' 18 6) (w.extractLsb' 12 6) (w.extractLsb' 6 6) (w.extractLsb' 0 6)
          rw [BitVec.ofNat_toNat, BitVec.setWidth_eq, packUni_fields hbit] at ha
          exact ha.encode_take h rest

/-! ## Opcodes that no form has -/

theorem decodeLane_unassigned {op : Nat} (h : Claims.laneUnassigned op = true) (d a b : BitVec 7) (x : BitVec 3) :
    decodeLane op d a b x = .error .unassigned := by
  unfold decodeLane
  split
  case h_106 => rfl
  all_goals exact absurd h (by decide)

theorem decodeUni_unassigned {op : Nat} (h : Claims.uniUnassigned op = true) (d a b f : BitVec 6) : decodeUni op d a b f = .error .unassigned := by
  unfold decodeUni
  split
  case h_94 => rfl
  all_goals exact absurd h (by decide)

/-- The opcode of a word as a number. -/
theorem wordOp_toNat (w : Word) : (wordOp w).toNat = w.toNat / 2 ^ 24 % 128 := by
  simp [wordOp, BitVec.extractLsb'_toNat, Nat.shiftRight_eq_div_pow]

theorem extract_31 (w : Word) : w.extractLsb' 31 1 = BitVec.ofBool (w.getLsbD 31) := by
  refine BitVec.eq_of_getLsbD_eq fun i hi => ?_
  obtain rfl : i = 0 := by omega
  simp

theorem unassignedOpcodesRefused : Claims.UnassignedOpcodesRefused := by
  refine fun w rest => ⟨fun hbit h => ?_, fun hbit h => ?_⟩
  · rw [decode_lane (by rw [extract_31, hbit]; rfl)]
    exact decodeLane_unassigned (by rwa [wordOp_toNat]) _ _ _ _
  · have hop : ∀ k : BitVec 7, Claims.uniUnassigned k.toNat = false → wordOp w ≠ k := by
      rintro k hk rfl
      rw [wordOp_toNat, h] at hk
      cases hk
    rw [decode_uni (by rw [extract_31, hbit]; rfl) (hop _ (by decide)) (not_or.2 ⟨hop _ (by decide), hop _ (by decide)⟩)]
    exact decodeUni_unassigned (by rwa [wordOp_toNat]) _ _ _ _

/-- Settles O5: each arm of the decoder answers for its own word, and the opcodes that R72 and R84 leave out reach no arm. -/
theorem decodeExact : Obligations.DecodeExact := ⟨encode_of_decode, unassignedOpcodesRefused⟩

/-! ## Decoding undoes encoding -/

theorem decode_packPfx (k : BitVec 3) (z : BitVec 1) (r : BitVec 3) (s : BitVec 1) (c : BitVec 7) (v : BitVec 1) (rest : List Word) :
    decode (packPfx k z r s c v :: rest) = .ok (.xpfx k z r s c v) := by
  have hop : wordOp (packPfx k z r s c v) = 0x7F#7 := by
    rw [wordOp]
    show (0xFF#8 ++ k ++ z ++ r ++ s ++ c ++ v ++ 0#8 : BitVec (8 + 3 + 1 + 3 + 1 + 7 + 1 + 8)).extractLsb' 24 7 = 0x7F#7
    rw [extract_hi _ _ _ _ (by decide), extract_hi _ _ _ _ (by decide), extract_hi _ _ _ _ (by decide), extract_hi _ _ _ _ (by decide),
      extract_hi _ _ _ _ (by decide), extract_hi _ _ _ _ (by decide), extract_hi _ _ _ _ (by decide)]
    decide
  simp [decode, packPfx_msb, hop, decodePfx]

theorem decode_slit (d : BitVec 6) (l : Word) (rest : List Word) : decode (packUni 0x17#7 d 0#6 0#6 0#6 :: l :: rest) = .ok (.slit d l) := by
  simp [decode, wordOp_packUni, decodeLit]

theorem decode_slit64 (d : BitVec 6) (l h : Word) (rest : List Word) :
    decode (packUni 0x18#7 d 0#6 0#6 0#6 :: l :: h :: rest) = .ok (.slit64 d l h) := by
  simp [decode, wordOp_packUni, decodeLit]

/-- The decoder reads back every instruction. Where the fields of its word are the operands as they stand, the arm of the opcode answers at once; where a
field is made of several parts, its layout gives them back, and the arm's tests of constant bits pass. -/
theorem decode_encode (i : Instr) (rest : List Word) (hi : encode i ≠ []) : decode (encode i ++ rest) = .ok i := by
  cases i
  case vaddI32 | vsubI32 | vaddsI32 | vaddsN32 | vsubsI32 | vsubsN32 | vmulI32 | vmulhI32 | vmulhN32 | vmadI32 | vminI32 | vmaxI32 | vminN32 | vmaxN32
    | vand | vor | vxor | vandn | vshl | vshrN32 | vshrI32 | vrol | vunI | vmov | vli | vsel | vlane | vaddF32 | vsubF32 | vmulF32 | vfmaF32 | vminF32
    | vmaxF32 | vunF32 | vsfuF32 | vdivF32 | vcopysignF32 | vaddF64 | vmulF64 | vfmaF64 | vminF64 | vmaxF64 | vunF64 | vdivF64 | vsqrtF64 | vaddBf16x2
    | vmulBf16x2 | vfmaBf16x2 | vmaxBf16x2 | vaddF16x2 | vmulF16x2 | vfmaF16x2 | vmaxF16x2 | vcvt | vpk8 | vupk8 | vpk4 | vupk4 | vshflIdx | vswp2 |
    vdot4I8 | vdot4N8 | vdot8I4 | vdot4E4m3 | vdsq4E4m3 | vdsq2Bf16 | vhamm | vsieve =>
    exact decode_packLane _ _ _ _ _ rest
  case vcmpI32 | vcmpN32 | vcmpF32 | vcmpF64 | vred | vscan | vldB8 | vldI8 | vldB16 | vldI16 | vldB32 | vldB64 | vldB128 | vldf | vstB8 | vstB16 |
    vstB32 | vstB64 | vstB128 | vstf | vatomAddN32 | vatomAddF32 | vatomMinI32 | vatomMaxI32 | vatomMinN32 | vatomMaxN32 | vatomAnd | vatomOr |
    vatomXor | vatomXchg | vatomCas | vatomAddN64 =>
    refine (decode_packLane _ _ _ _ _ rest).trans (congrArg Except.ok ?_)
    simp [layout_compare, layout_reduction, layout_access, layout_atomic]
  case vshflXor | vshflUp | vshflDn | vldt | vstt =>
    refine (decode_packLane _ _ _ _ _ rest).trans ((if_pos ?_).trans (congrArg Except.ok ?_))
    all_goals simp [layout_shuffle, layout_tile]
  case sadd | ssub | smul | smulhI64 | smulhN64 | sdiv | srem | sand | sor | sxor | sshl | sshr | smin | smax | sun | sshli | sshri | sext | sexts |
    sins | sselnz | radd | rtag | rbase | oinit | ofree | ostat | oreset | callx | jmpx | exit | nop | fenceng | advNeed | advCold | advWarm | tstat |
    tdrop | tdropFree | svinitFree | hsig | tresReplay | tresSkip | tresKill | icinv | icinvAll | mark | tlbiRange | tlbiContext | tlbiDevice |
    leaseInstall | leaseRenew | leaseReturn | leaseRead | pmove | bias | psplit | acntRead | acntReadClear | acntWrite =>
    exact decode_packUni _ _ _ _ _ rest (by decide) (by decide) (by decide)
  case saddi | sandi | sori | sli | raddi | br | bz | bnz | call | wfl | bar | barr | barw | mwait | sld | satom | srd | swr | trap | brk =>
    refine (decode_packUni _ _ _ _ _ rest (by decide) (by decide) (by decide)).trans (congrArg Except.ok ?_)
    simp [layout_imm12, layout_imm18, layout_imm24, layout_barrier, layout_sld, layout_satom]
  case scmp | sbal | kset | sfirst | bkany | bknone | bl | fence | rrel | sst | pub | pfh | tset | cpyq | mxp | mxd | mxzDefine | mxq | svget | launch
    | lwait =>
    refine (decode_packUni _ _ _ _ _ rest (by decide) (by decide) (by decide)).trans ((if_pos ?_).trans (congrArg Except.ok ?_))
    all_goals simp [layout_imm18, layout_three, layout_one_four, layout_fence, layout_sst, layout_pub, layout_one, layout_mxzDefine, layout_svget]
  case kop | racqTry | rld | rst | cpyCe | svinit =>
    refine (decode_packUni _ _ _ _ _ rest (by decide) (by decide) (by decide)).trans ((if_pos ?_).trans ((if_pos ?_).trans (congrArg Except.ok ?_)))
    all_goals simp [layout_three, layout_racqTry, layout_reference, layout_cpyCe, layout_svinit, layout_svget]
  case racq | cpy | mxzClr | mxzFree =>
    refine (decode_packUni _ _ _ _ _ rest (by decide) (by decide) (by decide)).trans ?_
    simp [decodeUni, layout_racq, layout_cpy, layout_one, layout_mxzClr, layout_mxzFree]
  case slit d l => exact decode_slit d l rest
  case slit64 d lo up => exact decode_slit64 d lo up rest
  case xpfx k z r s c v => exact decode_packPfx k z r s c v rest
  all_goals exact absurd rfl hi

/-- Settles O2: constructor by constructor, the fields of the encoding are the operands. -/
theorem decodeEncode : Obligations.DecodeEncode := decode_encode
end Sys2Proof
end

section
/-! PROOFS. Words that the manual works out, the registers of a group, and XPFX. -/

namespace Sys2Proof.Machine

set_option Elab.async false
open Claims

/-! ## Worked words -/

/-- Settles O1: each list of words begins with the encoding of its instruction, which the decoder reads back. -/
theorem workedWordsDecode : Obligations.WorkedWordsDecode := by
  have hword : ∀ e ∈ workedWords, encode e.2 ++ e.1.drop (wordCount e.2) = e.1 ∧ encode e.2 ≠ [] := by decide
  intro e he
  obtain ⟨hwords, hne⟩ := hword e he
  exact hwords ▸ decode_encode e.2 _ hne

/-! ## Registers after a write (R80, R151) -/

theorem Group.readDesc_writeDesc (g : Group) (r r' : Nat) {q q' : Nat} (hq : q < 4) (hq' : q' < 4) (x : BitVec 48) :
    (g.writeDesc r q x).readDesc r' q' = if r' = r ∧ q' = q then x else g.readDesc r' q' :=
  g.readDesc_giveDesc hq hq' (some x)

/-- A read of s63 gives zero, whatever was written; any other read gives the last value written. -/
theorem Group.readS_after_writeS (g : Group) (n m : Nat) (x : SReg) : (g.writeS n x).readS m = if m = 63 then {} else if m = n then x else g.readS m := by
  rw [Group.readS_writeS]
  by_cases h63 : m = 63
  · simp [h63, Group.readS]
  · simp [h63, eq_comm]

theorem Group.readK_after_writeK (g : Group) (b : Mask) (n m : Nat) (x : Mask) :
    (g.writeK n x).readK b m = if m = 0 then b else if m = n then x else g.readK b m := by
  by_cases h0 : m = 0
  · simp [h0, Group.readK]
  · rw [Group.readK_writeK g b x h0, if_neg h0]

/-! ## Words with mask indices (R79, R80, R84)

A statement writes a word as its bit 31 and OP in one byte, and then its fields; a mask index is three zero bits and the index. -/

theorem append_index {n : Nat} (x : BitVec n) (k : BitVec 3) : (x ++ 0#3 ++ k : BitVec (n + 6)) = x ++ (0#3 ++ k : BitVec 6) := BitVec.append_assoc

theorem append_offset {n : Nat} (x : BitVec n) (a b f : BitVec 6) : (x ++ a ++ b ++ f : BitVec (n + 18)) = x ++ (a ++ b ++ f : BitVec 18) := by
  have hab : (x ++ a ++ b : BitVec (n + 12)) = x ++ (a ++ b : BitVec 12) := BitVec.append_assoc
  have habf : (x ++ (a ++ b : BitVec 12) ++ f : BitVec (n + 18)) = x ++ ((a ++ b : BitVec 12) ++ f : BitVec 18) := BitVec.append_assoc
  exact (congrArg (fun y : BitVec (n + 12) => (y ++ f : BitVec (n + 12 + 6))) hab).trans habf

theorem word_indexA (op : BitVec 7) (d b f : BitVec 6) (k : BitVec 3) :
    ((1#1 ++ op) ++ d ++ 0#3 ++ k ++ b ++ f : Word) = packUni op d (0#3 ++ k) b f :=
  congrArg (fun x : BitVec 20 => (x ++ b ++ f : Word)) (append_index ((1#1 ++ op) ++ d) k)

theorem word_indexD (op : BitVec 7) (k : BitVec 3) (a b f : BitVec 6) :
    ((1#1 ++ op) ++ 0#3 ++ k ++ a ++ b ++ f : Word) = packUni op (0#3 ++ k) a b f :=
  congrArg (fun x : BitVec 14 => (x ++ a ++ b ++ f : Word)) (append_index (1#1 ++ op) k)

theorem word_indices (op : BitVec 7) (k j n p : BitVec 3) :
    ((1#1 ++ op) ++ 0#3 ++ k ++ 0#3 ++ j ++ 0#3 ++ n ++ 0#3 ++ p : Word) = packUni op (0#3 ++ k) (0#3 ++ j) (0#3 ++ n) (0#3 ++ p) := by
  rw [append_index, append_index, append_index, append_index]
  rfl

theorem word_offset (op : BitVec 7) (k : BitVec 3) (o : BitVec 18) :
    ((1#1 ++ op) ++ 0#3 ++ k ++ o : Word) = packUni op (0#3 ++ k) (o.extractLsb' 12 6) (o.extractLsb' 6 6) (o.extractLsb' 0 6) := by
  have ho := append_offset ((1#1 ++ op) ++ (0#3 ++ k)) (o.extractLsb' 12 6) (o.extractLsb' 6 6) (o.extractLsb' 0 6)
  rw [layout_imm18.2 o] at ho
  rw [append_index]
  exact ho.symm

/-- The one word of an instruction decodes to it. -/
theorem decode_word {w : Word} {i : Instr} (h : [w] = encode i) : decode [w] = .ok i := by
  have hd := decode_encode i [] (h ▸ List.cons_ne_nil w [])
  rwa [List.append_nil, ← h] at hd

/-- The decoder answers no instruction. -/
def Refuses (r : Except DecodeError Instr) : Prop := ∃ e, r = .error e

theorem refuses_error {e : DecodeError} : Refuses (.error e) := ⟨e, rfl⟩

theorem refuses_ite {c : Prop} [Decidable c] {x y : Except DecodeError Instr} (hx : c → Refuses x) (hy : ¬ c → Refuses y) : Refuses (if c then x else y) := by
  split
  · exact hx ‹_›
  · exact hy ‹_›

/-- The tests of an arm whose one mask index has an upper bit set. -/
theorem refuses_index {c z : Prop} [Decidable c] [Decidable z] {x : Except DecodeError Instr} {e e' : DecodeError} (h : ¬ z) :
    Refuses (if c then if z then x else .error e' else .error e) :=
  refuses_ite (fun _ => refuses_ite (fun hz => absurd hz h) fun _ => refuses_error) fun _ => refuses_error

theorem upper_index_bits : ∀ a : BitVec 6, 8 ≤ a.toNat → ¬ a.extractLsb' 3 3 = 0 := by decide

theorem decode_refuses {op : BitVec 7} {d a b f : BitVec 6} (hop : op ≠ 127#7 ∧ op ≠ 23#7 ∧ op ≠ 24#7) (h : Refuses (decodeUni op.toNat d a b f)) :
    ∃ e, decode [((1#1 ++ op) ++ d ++ a ++ b ++ f : Word)] = .error e := by
  obtain ⟨hpfx, hlit, hlit64⟩ := hop
  obtain ⟨e, he⟩ := h
  exact ⟨e, (decode_packUni op d a b f [] hpfx hlit hlit64).trans he⟩

theorem kop_refuses {d a b : BitVec 6} (f : BitVec 6) (h : 8 ≤ d.toNat ∨ 8 ≤ a.toNat ∨ 8 ≤ b.toNat) : Refuses (decodeUni 0x2A d a b f) := by
  have hz : ¬ (d.extractLsb' 3 3 = 0 ∧ a.extractLsb' 3 3 = 0 ∧ b.extractLsb' 3 3 = 0) := fun ⟨hd, ha, hb⟩ =>
    h.elim (fun h => upper_index_bits d h hd) (fun h => h.elim (fun h => upper_index_bits a h ha) (fun h => upper_index_bits b h hb))
  exact refuses_ite (fun _ => refuses_ite (fun h => absurd h hz) (fun _ => refuses_ite (fun _ => refuses_error) (fun _ => refuses_error)))
    (fun _ => refuses_error)

/-! ## A written mask that is k0 (R80) -/

/-- A word that fails one of its causes 2 to 5, whatever its registers hold, is ILLEGAL. -/
theorem checks_illegal {i : Instr} {u : Issuer} (s : State) {m n : Nat} (hf : fieldCause u i = some m) (hw : wordCause u i = some n) :
    ∃ c, checks i u s = some { cls := 1, cause := c } := by
  unfold checks
  cases hp : u.g.pgc && pgcIllegal i
  · cases hr : regsWait s u i
    · exact ⟨m, by simp [firstOf, needs, hf, ill, fail, clsIllegal]⟩
    · exact ⟨n, by simp [firstOf, needs, hw, ill, fail, clsIllegal]⟩
  · exact ⟨1, rfl⟩

/-- A uniform word whose codes are outside their lists is ILLEGAL whatever XPFX precedes it. -/
theorem checks_codes {i : Instr} {u : Issuer} (s : State) {w : UniForm} (hl : laneForm i = none) (hw : uniForm i = some w) (hc : w.codes = false) :
    ∃ c, checks i u s = some { cls := 1, cause := c } := by
  have hstatic : staticCause i = some (if w.fields then 3 else 2) := by
    simp only [staticCause, hl, hw, UniForm.cause, hc]
    cases w.fields <;> rfl
  cases hp : u.hasPfx
  · exact checks_illegal (m := if w.fields then 3 else 2) (n := if w.fields then 3 else 2) s (by simp [fieldCause, hl, hp, hstatic])
      (by simp [wordCause, hl, hp, hstatic])
  · exact checks_illegal (m := 5) (n := 5) s (by simp [fieldCause, hl, hp]) (by simp [wordCause, hl, hp])

/-- Settles O7: the tables of the registers, the words of the forms with mask indices, and the check of a written mask. -/
theorem registerFiles : Obligations.RegisterFiles := by
  refine ⟨Group.readS_after_writeS, Group.readK_after_writeK, Group.readV_writeV, fun g n m x => g.readF_writeF n x m,
    fun g r q r' q' x hq hq' => g.readDesc_writeDesc r r' hq hq' x,
    fun d a k j n p o => ⟨?_, ?_, ?_, ?_, ?_, ?_, ?_⟩, fun d a b f => ⟨fun ha => ?_, fun hd => ?_, fun hb => ?_⟩, fun u s a j n p => ⟨?_, ?_⟩⟩
  · exact decode_word (congrArg (fun w => [w]) (word_indexA 0x28#7 d 0#6 0#6 k))
  · exact decode_word (congrArg (fun w => [w]) (word_indexD 0x29#7 k a 0#6 0#6))
  · exact decode_word (congrArg (fun w => [w]) (word_indices 0x2A#7 k j n p))
  · exact decode_word (congrArg (fun w => [w]) (word_indexA 0x2B#7 d 0#6 0#6 k))
  · exact decode_word (congrArg (fun w => [w]) (word_offset 0x33#7 k o))
  · exact decode_word (congrArg (fun w => [w]) (word_offset 0x34#7 k o))
  · exact decode_word (congrArg (fun w => [w]) (word_offset 0x35#7 k o))
  · have hz := upper_index_bits a ha
    simp only [List.forall_mem_cons]
    refine ⟨?_, ?_, ?_, nofun⟩
    · exact decode_refuses (op := 0x28#7) (by decide) (refuses_index hz)
    · exact decode_refuses (op := 0x2A#7) (by decide) (kop_refuses f (.inr (.inl ha)))
    · exact decode_refuses (op := 0x2B#7) (by decide) (refuses_index hz)
  · have hz := upper_index_bits d hd
    simp only [List.forall_mem_cons]
    refine ⟨?_, ?_, ?_, ?_, ?_, nofun⟩
    · exact decode_refuses (op := 0x29#7) (by decide) (refuses_index hz)
    · exact decode_refuses (op := 0x2A#7) (by decide) (kop_refuses f (.inl hd))
    · exact decode_refuses (op := 0x33#7) (by decide) (refuses_ite (absurd · hz) fun _ => refuses_error)
    · exact decode_refuses (op := 0x34#7) (by decide) (refuses_ite (absurd · hz) fun _ => refuses_error)
    · exact decode_refuses (op := 0x35#7) (by decide) (refuses_ite (absurd · hz) fun _ => refuses_error)
  · exact decode_refuses (op := 0x2A#7) (by decide) (kop_refuses f (.inr (.inr hb)))
  · exact checks_codes s rfl rfl rfl
  · exact checks_codes s rfl rfl rfl
/-! ## XPFX (R76-R78) -/

/-- The clause of a unit whose XPFX waits for the lane word. -/
def Clause.prefixed (c : Clause) (p : Prefix) : Clause := { c with idx := c.idx + 1, pfx := some p }

/-- An XPFX before a lane word changes its clause only: XPFX waits there. -/
theorem execXpfx_prefixes {u : Issuer} {s : State} {k r : BitVec 3} {z sat v : BitVec 1} {c : BitVec 7} {w : Word} (hu : s.issuer? = some u)
    (hc : checks (.xpfx k z r sat c v) u s = none) (hw : u.c.words[u.c.idx + 1]? = some w) (hlane : w.getLsbD 31 = false) :
    exec (.xpfx k z r sat c v) s = .next (s.modGroup u.gid fun g =>
      { g with clause := some (u.c.prefixed { k := k, z := decide (z = 1), rm := r, sat := decide (sat = 1), c := c, cv := decide (v = 1) }) }) := by
  have hcause : xpfxCause u.c = none := by simp only [xpfxCause, hw, hlane, Bool.false_eq_true, if_false]
  show execXpfx k z r sat c v s = _
  simp only [execXpfx, hu, hc, hcause]
  rfl

/-- Settles O16: only the place in the clause has changed, which holds the XPFX fields. -/
theorem prefixApplies : Obligations.PrefixApplies := by
  intro u s k z r sat c v w hu hc hw hlane
  have hg := State.issuer_group hu
  refine ⟨_, execXpfx_prefixes hu hc hw hlane, ⟨?_, fun j hj => ?_, fun _ => rfl, rfl, fun _ => rfl, fun _ => rfl, fun _ => rfl⟩, rfl, ?_⟩
  · rw [State.group_eq (by simp [hg]; rfl)]
    rfl
  · simp [tabFind_tabUpd_ne _ _ hj]
  · rw [State.group_eq (by simp [hg]; rfl)]
    rfl

end Sys2Proof.Machine
end

section
/-! PROOFS. Lane constants, `vsel`, and the compares. -/

namespace Sys2Proof.Machine

set_option Elab.async false
open Claims

/-! ## Numbers of n bits -/

theorem sextInt_eq_toInt (v n : Nat) : sextInt v n = (BitVec.ofNat n v).toInt := by
  cases n with
  | zero => simp [sextInt, BitVec.of_length_zero, Nat.mod_one]
  | succ n =>
    rw [sextInt, BitVec.toInt_eq_toNat_cond, BitVec.toNat_ofNat, Nat.add_sub_cancel, pow_succ]
    have e : (v % (2 ^ n * 2) < 2 ^ n) = (2 * (v % (2 ^ n * 2)) < 2 ^ n * 2) := by
      rw [Nat.mul_comm (2 ^ n) 2, Nat.mul_lt_mul_left (by decide)]
    simp only [e]
    push_cast
    rfl

theorem intBits_eq_toNat (i : Int) (n : Nat) : intBits i n = (BitVec.ofInt n i).toNat := by
  rw [intBits, BitVec.toNat_ofInt]
  push_cast
  rfl

/-! ## The results of a lane word -/

/-- The results of one element, as the statements write them. -/
theorem pendElem_eq (u : Issuer) (o : Opnd) (r c : Nat) (f : Nat → Nat × Fp) :
    u.pendElem o r c ((List.range 64).map fun k => if u.incl.getLsbD k then f k else (0, 0)) = elementResults u o r c f := by
  have hat (k : Nat) (hk : k < 64) : ((List.range 64).map fun k => if u.incl.getLsbD k then f k else (0, 0)).getD k (0, 0) =
      if u.incl.getLsbD k then f k else (0, 0) := by simp [hk]
  have hvals (j : Nat) : (mapLanes fun k => if u.incl.getLsbD k then BitVec.ofNat 32
        ((((List.range 64).map fun k => if u.incl.getLsbD k then f k else (0, 0)).getD k (0, 0)).1 / 2 ^ (32 * j)) else 0) =
      (List.range 64).map fun k => if u.incl.getLsbD k then BitVec.ofNat 32 ((f k).1 / 2 ^ (32 * j)) else 0 := by
    refine List.map_congr_left fun k hk => ?_
    rw [hat k (List.mem_range.1 hk)]
    split <;> rfl
  have hfp : orFp ((laneList u.incl).map fun k => (((List.range 64).map fun k => if u.incl.getLsbD k then f k else (0, 0)).getD k (0, 0)).2) =
      ((List.range 64).filter fun k => u.incl.getLsbD k).foldl (fun a k => a ||| (f k).2) 0 := by
    rw [orFp, laneList, List.map_congr_left (g := fun k => (f k).2) fun k hk => ?_, List.foldl_map]
    obtain ⟨hk, hin⟩ := List.mem_filter.1 hk
    rw [hat k (List.mem_range.1 hk), if_pos hin]
  simp only [Issuer.pendElem, elementResults, hvals, hfp]

theorem blockResults_eq (u : Issuer) (o : Opnd) (f : Nat → Nat → Nat → Nat × Fp) :
    o.elems.flatMap (fun e => u.pendElem o e.1 e.2 ((List.range 64).map fun k => if u.incl.getLsbD k then f e.1 e.2 k else (0, 0))) = blockResults u o f := by
  simp only [pendElem_eq, Opnd.elems, blockResults, List.flatMap_assoc, List.flatMap_map]

/-- Only the 64 lanes count. -/
theorem blockResults_congr (u : Issuer) (o : Opnd) {f g : Nat → Nat → Nat → Nat × Fp} (h : ∀ r c k, k < 64 → f r c k = g r c k) :
    blockResults u o f = blockResults u o g := by
  rw [← blockResults_eq, ← blockResults_eq]
  have helem (e : Nat × Nat) : ((List.range 64).map fun k => if u.incl.getLsbD k then f e.1 e.2 k else (0, 0)) =
      (List.range 64).map fun k => if u.incl.getLsbD k then g e.1 e.2 k else (0, 0) :=
    List.map_congr_left fun k hk => by rw [h _ _ _ (List.mem_range.1 hk)]
  simp only [helem]

/-- A word that runs `laneMap` leaves the results of its elements, lane by lane. -/
theorem laneMap_result {i : Instr} {u : Issuer} {s : State} {l : LaneForm} {o : Opnd} {f : Issuer → LaneForm → Nat → Nat → Nat → Nat × Fp}
    {v : LaneForm → Nat → Nat → Nat → Nat × Fp} (h : Issues i u s) (hl : laneForm i = some l) (ho : l.dst = some o) (hf : flagSel i = none)
    (hrun : exec i s = laneMap i s f) (hv : ∀ r c k, k < 64 → f u l r c k = v l r c k) : LaneResult i u s v := by
  obtain ⟨-, hm, hfwd⟩ := blockWord_of (s := s) hl ho hf
  refine ⟨l, o, hl, ho, ?_⟩
  rw [hrun, laneMap, laneVec, issue_own h hm (hfwd _ u), ← blockResults_congr u o hv, ← blockResults_eq]
  simp only [hl, ho]

theorem laneConstantsAndSelect : LaneConstantsAndSelect := by
  refine ⟨fun d n x u s h => ?_, fun d x u s h => ?_, fun d a b m u s h => ?_⟩
  · refine laneMap_result h rfl rfl rfl (by unfold exec; rfl) fun r c k _ => ?_
    rw [i32, sextInt_eq_toInt, intBits_eq_toNat, BitVec.ofNat_toNat, BitVec.setWidth_eq]
    rfl
  · exact laneMap_result h rfl rfl rfl (by unfold exec; rfl) fun r c k hk => by rw [w32, Nat.mod_eq_of_lt (by omega)]
  · exact laneMap_result h rfl rfl rfl (by unfold exec; rfl) fun r c k _ => rfl

/-! ## Compares (R131) -/

theorem laneBit_getLsbD {k : Nat} (h : k < 64) (n : Nat) : (laneBit k).getLsbD n = true ↔ k = n := by
  rw [laneBit, BitVec.getLsbD_ofNat, Nat.testBit_two_pow, Bool.and_eq_true, decide_eq_true_eq, decide_eq_true_eq]
  omega

/-- The lanes that a scan of lanes gathers into a mask. -/
theorem gathered_getLsbD {α : Type} (q : α → Bool) (l : List (Nat × α)) (m : Mask) (hl : ∀ e ∈ l, e.1 < 64) (n : Nat) :
    (l.foldl (fun m e => if q e.2 then m ||| laneBit e.1 else m) m).getLsbD n = true ↔ m.getLsbD n = true ∨ ∃ e ∈ l, e.1 = n ∧ q e.2 = true := by
  induction l generalizing m with
  | nil => simp
  | cons e l ih =>
    rw [List.foldl_cons, ih _ fun x hx => hl x (List.mem_cons_of_mem _ hx)]
    cases hq : q e.2
    · simp [hq]
    · rw [if_pos rfl, BitVec.getLsbD_or, Bool.or_eq_true, laneBit_getLsbD (hl e List.mem_cons_self)]
      simp [hq, or_assoc]

theorem orFp_getLsbD (l : List Fp) (n : Nat) : (orFp l).getLsbD n = true ↔ ∃ x ∈ l, x.getLsbD n = true := by
  have hfold (a : Fp) : (l.foldl (fun a b => a ||| b) a).getLsbD n = true ↔ a.getLsbD n = true ∨ ∃ x ∈ l, x.getLsbD n = true := by
    induction l generalizing a with
    | nil => simp
    | cons x l ih => simp [ih, or_assoc]
  simpa [orFp] using hfold 0

theorem Opnd.mem_elems (o : Opnd) (r c : Nat) : (r, c) ∈ o.elems ↔ r < o.rows ∧ c < o.cols := by simp [Opnd.elems]

theorem mem_laneList (m : Mask) (n : Nat) : n ∈ laneList m ↔ n < 64 ∧ m.getLsbD n = true := by simp [laneList]

/-- What a compare finds in a lane for the elements of the block. -/
def Issuer.found (u : Issuer) (l : LaneForm) (f : Nat → Nat → Bool × Fp) (n : Nat) : List (Bool × Fp) :=
  (l.src 0).elems.map fun e => f (elemA u l e.1 e.2 n) (elemB u l e.1 e.2 n)

/-- The included lanes, each with what the compare finds there. -/
def Issuer.compared (u : Issuer) (l : LaneForm) (f : Nat → Nat → Bool × Fp) : List (Nat × List (Bool × Fp)) :=
  (laneList u.incl).map fun n => (n, u.found l f n)

section
variable (u : Issuer) (l : LaneForm) (f : Nat → Nat → Bool × Fp)

theorem Issuer.mem_found (n : Nat) (z : Bool × Fp) :
    z ∈ u.found l f n ↔ ∃ r c, (r < (l.src 0).rows ∧ c < (l.src 0).cols) ∧ f (elemA u l r c n) (elemB u l r c n) = z := by
  simp [Issuer.found, Opnd.mem_elems]

theorem Issuer.mem_compared (x : Nat × List (Bool × Fp)) :
    x ∈ u.compared l f ↔ ∃ n, (n < 64 ∧ u.incl.getLsbD n = true) ∧ (n, u.found l f n) = x := by
  simp [Issuer.compared, mem_laneList]

/-- The mask of a compare: the included lanes in which every element holds. -/
theorem compared_mask {n : Nat} (hn : n < 64) :
    ((u.compared l f).foldl (fun (m : Mask) e => if e.2.all (fun z => z.1) then m ||| laneBit e.1 else m) 0).getLsbD n = true ↔
      u.incl.getLsbD n = true ∧ ∀ r c, r < (l.src 0).rows → c < (l.src 0).cols → (f (elemA u l r c n) (elemB u l r c n)).1 = true := by
  have hlane (x) (hx : x ∈ u.compared l f) : x.1 < 64 := by
    obtain ⟨k, ⟨hk, -⟩, rfl⟩ := (u.mem_compared l f x).1 hx
    exact hk
  rw [gathered_getLsbD (fun zs : List (Bool × Fp) => zs.all fun z => z.1) _ _ hlane n]
  constructor
  · rintro (h0 | ⟨x, hx, rfl, hall⟩)
    · simp at h0
    · obtain ⟨k, ⟨-, hin⟩, rfl⟩ := (u.mem_compared l f x).1 hx
      exact ⟨hin, fun r c hr hc => List.all_eq_true.1 hall _ ((u.mem_found l f k _).2 ⟨r, c, ⟨hr, hc⟩, rfl⟩)⟩
  · rintro ⟨hin, hall⟩
    refine .inr ⟨(n, u.found l f n), (u.mem_compared l f _).2 ⟨n, ⟨hn, hin⟩, rfl⟩, rfl, List.all_eq_true.2 fun z hz => ?_⟩
    obtain ⟨r, c, ⟨hr, hc⟩, rfl⟩ := (u.mem_found l f n z).1 hz
    exact hall r c hr hc

/-- The exceptions of a compare: those of every element of an included lane. -/
theorem compared_exceptions (e : Nat) :
    (orFp ((u.compared l f).flatMap fun x => x.2.map fun z => z.2)).getLsbD e = true ↔
      ∃ n r c, n < 64 ∧ u.incl.getLsbD n = true ∧ r < (l.src 0).rows ∧ c < (l.src 0).cols ∧ (f (elemA u l r c n) (elemB u l r c n)).2.getLsbD e = true := by
  rw [orFp_getLsbD]
  constructor
  · rintro ⟨y, hy, he⟩
    obtain ⟨x, hx, hy⟩ := List.mem_flatMap.1 hy
    obtain ⟨n, ⟨hn, hin⟩, rfl⟩ := (u.mem_compared l f x).1 hx
    obtain ⟨z, hz, rfl⟩ := List.mem_map.1 hy
    obtain ⟨r, c, ⟨hr, hc⟩, rfl⟩ := (u.mem_found l f n z).1 hz
    exact ⟨n, r, c, hn, hin, hr, hc, he⟩
  · rintro ⟨n, r, c, hn, hin, hr, hc, he⟩
    have hz := (u.mem_found l f n _).2 ⟨r, c, ⟨hr, hc⟩, rfl⟩
    exact ⟨_, List.mem_flatMap.2 ⟨_, (u.mem_compared l f _).2 ⟨n, ⟨hn, hin⟩, rfl⟩, List.mem_map_of_mem hz⟩, he⟩

end

/-- What the one pending result of a compare holds (R131). -/
def ComparesTo (i : Instr) (k : BitVec 3) (u : Issuer) (s : State) (l : LaneForm) (f : Nat → Nat → Bool × Fp) : Prop :=
  ∃ p : Pending, exec i s = .next (finish u i (.ok (s.pendAll u i [p]))) ∧ p.reg = .k k.toNat ∧ p.lanes = (if u.pfx.z then u.lanes else u.incl) ∧
    (∀ n, n < 64 → (p.bits.getLsbD n = true ↔ u.incl.getLsbD n = true ∧
      ∀ r c, r < (l.src 0).rows → c < (l.src 0).cols → (f (elemA u l r c n) (elemB u l r c n)).1 = true)) ∧
    (∀ e, e < 6 → (p.fp.getLsbD e = true ↔ ∃ n r c, n < 64 ∧ u.incl.getLsbD n = true ∧ r < (l.src 0).rows ∧ c < (l.src 0).cols ∧
      (f (elemA u l r c n) (elemB u l r c n)).2.getLsbD e = true))

theorem laneCompare_result {i : Instr} {k : BitVec 3} {u : Issuer} {s : State} {l : LaneForm} {f : Nat → Nat → Bool × Fp} (h : Issues i u s)
    (hl : laneForm i = some l) (hk : l.km = some k.toNat) (hm : isMatched i = false) (hf : State.isForwarded s u i = false) (hrun : exec i s = laneCompare i s f) :
    ComparesTo i k u s l f := by
  rw [laneCompare, issue_own h hm hf] at hrun
  simp only [hl, hk] at hrun
  exact ⟨_, hrun, rfl, rfl, fun n hn => compared_mask u l f hn, fun e _ => compared_exceptions u l f e⟩

/-- The conditions of R73 on whole numbers. -/
theorem cmpI_eq_cond (c : BitVec 4) (a b : Int) : cmpI c.toNat a b = Claims.cond c (decide (a < b)) (decide (a = b)) := by
  unfold cmpI Claims.cond
  split
  all_goals rw [← Bool.coe_iff_coe]
  all_goals simp
  all_goals omega

theorem signed_cond (c : BitVec 4) (m n : Nat) :
    Claims.cond c ((BitVec.ofNat 32 m).slt (BitVec.ofNat 32 n)) (BitVec.ofNat 32 m == BitVec.ofNat 32 n) = cmpI c.toNat (s32 m) (s32 n) := by
  rw [cmpI_eq_cond, s32, s32, sextInt_eq_toInt, sextInt_eq_toInt, BitVec.slt]
  congr 1
  rw [← Bool.coe_iff_coe]
  simp [BitVec.toInt_inj]

theorem unsigned_cond (c : BitVec 4) (m n : Nat) : Claims.cond c (decide (m < n)) (decide (m = n)) = cmpI c.toNat m n := by
  rw [cmpI_eq_cond]
  simp

theorem laneCompares : LaneCompares := by
  intro i u s k holds h hi
  suffices hc : ∃ l, laneForm i = some l ∧ ComparesTo i k u s l holds from hc
  obtain ⟨c, a, b, x, rfl, rfl⟩ | ⟨c, a, b, x, rfl, rfl⟩ | ⟨c, a, b, x, rfl, rfl⟩ | ⟨c, a, b, x, rfl, rfl⟩ := hi
  · simp only [signed_cond]
    exact ⟨_, rfl, laneCompare_result h rfl rfl rfl rfl (by unfold exec; rfl)⟩
  · simp only [unsigned_cond]
    exact ⟨_, rfl, laneCompare_result h rfl rfl rfl rfl (by unfold exec; rfl)⟩
  · exact ⟨_, rfl, laneCompare_result h rfl rfl rfl rfl (by unfold exec; rfl)⟩
  · exact ⟨_, rfl, laneCompare_result h rfl rfl rfl rfl (by unfold exec; rfl)⟩

end Sys2Proof.Machine
end

section
/-! PROOFS. The compares on floats (R73, R96, R131). -/

namespace Sys2Proof.Machine

set_option Elab.async false
open Claims

/-- A number m·2^e of a sign. -/
def signedNumber (neg : Bool) (m : Nat) (e : Int) : ℚ := if neg then -((m : ℚ) * 2 ^ e) else (m : ℚ) * 2 ^ e

/-- What an exact value stands for. -/
def Val.number : Val → Number
  | .nan sig => .nan sig
  | .inf neg => .inf neg
  | .fin neg m e => .num neg (signedNumber neg m e)

/-! ## A code stands for the same in the model and in the statements -/

theorem fraction_scaled (m fb : Nat) (e : ℤ) : (m : ℚ) / 2 ^ fb * 2 ^ e = (m : ℚ) * 2 ^ (e - fb) := by
  rw [zpow_sub₀ two_ne_zero, zpow_natCast]
  ring

theorem one_add_fraction_scaled (m fb : Nat) (e : ℤ) : (1 + (m : ℚ) / 2 ^ fb) * 2 ^ e = ((2 ^ fb + m : Nat) : ℚ) * 2 ^ (e - fb) := by
  rw [← fraction_scaled]
  push_cast
  rw [add_div, div_self (by positivity)]

theorem unpack_number {f : Fmt} (h : f.hasInf = true) (c : Nat) : (unpack f c).number = Claims.number f c := by
  have hquiet (m : Nat) : (m / 2 ^ (f.fb - 1) = 0) = (m < 2 ^ (f.fb - 1)) := by simp [Nat.div_eq_zero_iff]
  simp only [unpack, Claims.number, Nat.testBit_eq_decide_div_mod_eq, h, hquiet, Bool.true_and, Bool.not_true, Bool.and_false, Bool.false_and,
    Bool.false_eq_true, decide_eq_true_eq, and_true, if_false]
  by_cases htop : c / 2 ^ f.fb % 2 ^ f.eb = 2 ^ f.eb - 1
  · simp only [if_pos htop]
    split <;> rfl
  · simp only [htop, false_and, if_false]
    by_cases hsub : c / 2 ^ f.fb % 2 ^ f.eb = 0
    · simp only [if_pos hsub, Val.number, signedNumber, fraction_scaled, decide_eq_true_eq]
    · simp only [if_neg hsub, Val.number, signedNumber, one_add_fraction_scaled, decide_eq_true_eq]

/-! ## Order -/

/-- A mantissa brought to a lower exponent stands for the same number. -/
theorem sm_scaled (neg : Bool) (m : Nat) {e base : Int} (h : base ≤ e) : (sm neg m e base : ℚ) * 2 ^ base = signedNumber neg m e := by
  have hpow : (2 : ℚ) ^ (e - base).toNat * 2 ^ base = 2 ^ e := by
    rw [← zpow_natCast, Int.toNat_of_nonneg (by omega), ← zpow_add₀ two_ne_zero, Int.sub_add_cancel]
  cases neg <;> simp [sm, signedNumber, mul_assoc, hpow]

theorem sm_lt_sm (n₁ n₂ : Bool) (m₁ m₂ : Nat) (e₁ e₂ : Int) :
    sm n₁ m₁ e₁ (minInt e₁ e₂) < sm n₂ m₂ e₂ (minInt e₁ e₂) ↔ signedNumber n₁ m₁ e₁ < signedNumber n₂ m₂ e₂ := by
  have h₁ : minInt e₁ e₂ ≤ e₁ := by unfold minInt; split <;> omega
  have h₂ : minInt e₁ e₂ ≤ e₂ := by unfold minInt; split <;> omega
  rw [← sm_scaled n₁ m₁ h₁, ← sm_scaled n₂ m₂ h₂, mul_lt_mul_iff_left₀ (by positivity), Int.cast_lt]

@[simp] theorem Val.number_isNaN (v : Val) : v.number.isNaN = v.isNan := by cases v <;> rfl

theorem ltV_eq_isBelow {a b : Val} (ha : a.isNan = false) (hb : b.isNan = false) : ltV a b = isBelow a.number b.number := by
  cases a with
  | nan s => cases ha
  | inf n => cases b with
    | nan s => cases hb
    | inf n' => rfl
    | fin n' m' e' => rfl
  | fin n m e => cases b with
    | nan s => cases hb
    | inf n' => rfl
    | fin n' m' e' => exact decide_eq_decide.2 (sm_lt_sm n n' m m' e e')

/-- Two numbers are in exactly one of the three relations. -/
theorem isBelow_trichotomy {x y : Number} (hx : x.isNaN = false) (hy : y.isNaN = false) :
    isEqual x y = (!isBelow x y && !isBelow y x) ∧ isBelow y x = (!isBelow x y && !isEqual x y) := by
  cases x with
  | nan s => cases hx
  | inf n => cases y with
    | nan s => cases hy
    | inf k => revert n k; decide
    | num k q => cases n <;> exact ⟨rfl, rfl⟩
  | num n p => cases y with
    | nan s => cases hy
    | inf k => cases k <;> exact ⟨rfl, rfl⟩
    | num k q =>
      simp only [isBelow, isEqual]
      obtain h | rfl | h := lt_trichotomy p q
      · simp [h, h.ne, h.not_gt]
      · simp
      · simp [h, h.ne', h.not_gt]

/-! ## The conditions of R73 -/

theorem cmpV_eq_floatCond {c : BitVec 4} (hc : c.toNat ∈ [0, 1, 2, 3, 4, 5, 8, 9]) (a b : Val) :
    cmpV c.toNat a b = floatCond c a.number b.number := by
  simp only [List.mem_cons, List.not_mem_nil, or_false] at hc
  unfold cmpV floatCond
  rw [a.number_isNaN, b.number_isNaN]
  cases hun : a.isNan || b.isNan
  case true =>
    obtain h | h | h | h | h | h | h | h := hc <;> simp [h]
  case false =>
    obtain ⟨ha, hb⟩ := Bool.or_eq_false_iff.1 hun
    obtain ⟨heq, habove⟩ := isBelow_trichotomy (a.number_isNaN.trans ha) (b.number_isNaN.trans hb)
    have heqV : eqV a b = isEqual a.number b.number := by
      rw [heq, eqV, ha, hb, ltV_eq_isBelow ha hb, ltV_eq_isBelow hb ha, Bool.not_false, Bool.true_and, Bool.true_and]
    simp only [heqV, ltV_eq_isBelow ha hb, ltV_eq_isBelow hb ha, habove, Claims.cond]
    obtain h | h | h | h | h | h | h | h := hc <;> simp [h]

theorem sigFl_eq_signalling (a b : Val) : sigFl [a, b] = signalling [a.number, b.number] := by
  have hsig (v : Val) : Number.nan true = v.number ↔ v.isSig = true := by cases v <;> simp [Val.number, Val.isSig, eq_comm]
  simp [sigFl, signalling, hsig]

theorem floatCompares : FloatCompares := by
  intro f hf c a b hc _ _
  have hinf : f.hasInf = true := by
    obtain rfl | rfl : f = f32 ∨ f = f64 := by simpa using hf
    all_goals rfl
  simp only [cmpF, cmpV_eq_floatCond hc, sigFl_eq_signalling, unpack_number hinf]

/-- Settles O13: the constants and `vsel` element by element, a compare's mask and exceptions as gathered over the included lanes, and the float conditions
by the order that the codes' numbers have. -/
theorem laneSelections : Obligations.LaneSelections := ⟨laneConstantsAndSelect, laneCompares, floatCompares⟩

end Sys2Proof.Machine
end

section
/-! PROOFS. Memory at reset, and a loader's words that reach the pool (R397). -/

namespace Sys2Proof.Machine

set_option Elab.async false
open Claims

/-! ## A loader's metadata words that reach past the HBM (R397)

`fabricDesc` writes a word for every block that its list names, whether the block lies in HBM or not, and a pool block that a frame caches has its word in
that frame. A list long enough to reach the pool therefore writes the word of a frame's block a second time. -/

/-- Caches the first block of the pool's unit at 2^48. -/
def poolFrame : Frame := { tag := some (2 ^ 32), valid := BitVec.twoPow 1024 0 }

/-- The pool's unit stands in frame 32768, and a loader's request comes that begins at address 0: no bytes, and metadata words. -/
def poolCached (ds : List (BitVec 48)) (d : Tab (BitVec 48)) : State :=
  { State.reset with frames := [(32768, poolFrame)], desc := d, ev := { ext := .request (.write 0 [] ds) } }

section
variable (ds : List (BitVec 48)) (d : Tab (BitVec 48))

theorem poolCached_next : exec .fabricMemRequest (poolCached ds d) = .next ((poolCached ds d).fabricDesc 0 ds) := rfl

theorem poolCached_atRest : MemoryAtRest (poolCached ds d) := by
  refine ⟨rfl, rfl, ?_, rfl⟩
  intro e he
  obtain rfl := List.mem_singleton.1 he
  exact ⟨rfl, rfl, rfl⟩

theorem poolCached_awake (p : Nat) : (poolCached ds d).deadAt p = false := by
  have hdead : ((poolCached ds d).frame (frameOf p)).dead = false := by
    have hframe : (poolCached ds d).frame (frameOf p) = tabGet {} [(32768, poolFrame)] (frameOf p) := rfl
    rw [hframe]
    by_cases h : 32768 = frameOf p <;> simp [tabGet, tabFind, h, poolFrame]
  simp [State.deadAt, hdead]

theorem poolCached_wakeFrame (p : Nat) : (poolCached ds d).wakeFrame p = poolCached ds d :=
  if_neg (by rw [poolCached_awake]; exact Bool.false_ne_true)

theorem poolCached_hbm : (poolCached ds d).hbmFrames = 4128768 := by
  have hparity : (poolCached ds d).boot.parity = true := rfl
  simp [State.hbmFrames, State.hbmGib, hparity]

/-- The pool block at 2^48 has its word with the first block of the frame. -/
theorem poolCached_phys : (poolCached ds d).phys (2 ^ 48) = 32768 * 65536 := by
  have hdie : (poolCached ds d).homeDie (2 ^ 32 * 65536) = 0 := by
    have hhbm : isHbm (poolCached ds d) (2 ^ 32 * 65536) = false := by simp [isHbm, poolCached_hbm]
    have hscratch : scratchOf (2 ^ 32 * 65536) = none := by decide
    have hbits : fld (2 ^ 32 * 65536) 16 2 ^^^ fld (2 ^ 32 * 65536) 24 2 = 0 := by decide
    simp only [State.homeDie, hhbm, hscratch, hbits, Bool.false_eq_true, if_false]
  have hunits : (poolCached ds d).unitFrames (2 ^ 32) = [32768, 32769, 32770, 32771, 32772, 32773, 32774, 32775] := by
    simp only [State.unitFrames, hdie, State.dieFrames, poolCached_hbm]
    decide
  have hpool : isPool (2 ^ 48) = true := by decide
  have hunit : frameOf (2 ^ 48) = 2 ^ 32 := by decide
  have hframe : (poolCached ds d).frame 32768 = poolFrame := rfl
  have hfor : (poolCached ds d).frameFor (2 ^ 32) = some 32768 := by
    rw [State.frameFor, hunits, List.find?_cons, hframe]
    rfl
  have hblock : poolFrame.valid.getLsbD (2 ^ 48 % 65536 / 64) = true := by simp [poolFrame]
  simp only [State.phys, State.frameHolding, hpool, hunit, hfor, hframe, hblock, if_true]
  norm_num

theorem poolCached_writeDesc (b : Nat) (x : BitVec 48) : ∃ d', (poolCached ds d).writeDesc b x = poolCached ds d' := by
  unfold State.writeDesc
  split
  · exact ⟨_, by simp only [poolCached_wakeFrame]; rfl⟩
  · exact ⟨d, rfl⟩

/-- A step of `fabricDesc` from address 0. -/
def writeWord (t : State) (p : Nat × BitVec 48) : State := if hasMeta (0 / 64 * 64 + 64 * p.1) then t.writeDesc (0 / 64 * 64 + 64 * p.1) p.2 else t

/-- Words that are written change words only. -/
theorem poolCached_words (l : List (Nat × BitVec 48)) : ∃ d', l.foldl writeWord (poolCached ds d) = poolCached ds d' := by
  induction l generalizing d with
  | nil => exact ⟨d, rfl⟩
  | cons p l ih =>
    obtain ⟨d', hd'⟩ : ∃ d', writeWord (poolCached ds d) p = poolCached ds d' := by
      unfold writeWord
      split
      · exact poolCached_writeDesc ds d _ p.2
      · exact ⟨d, rfl⟩
    rw [List.foldl_cons, hd']
    exact ih d'

/-- The word of the pool block, written last, stands in the frame's first block. -/
theorem poolCached_last (l : List (BitVec 48)) (hl : l.length = 2 ^ 42) :
    ((poolCached (l ++ [1]) d).fabricDesc 0 (l ++ [1])).readDesc (32768 * 65536) = 1 := by
  have hzip : (List.range (l ++ [1]).length).zip (l ++ [1]) = (List.range l.length).zip l ++ [(2 ^ 42, 1)] := by
    rw [List.length_append, List.length_singleton, List.range_succ, List.zip_append (by simp), hl]
    rfl
  obtain ⟨d', hd'⟩ := poolCached_words (l ++ [1]) d ((List.range l.length).zip l)
  have hfold : (poolCached (l ++ [1]) d).fabricDesc 0 (l ++ [1]) = writeWord (poolCached (l ++ [1]) d') (2 ^ 42, 1) := by
    rw [← hd']
    exact (congrArg (fun z => List.foldl writeWord _ z) hzip).trans (by rw [List.foldl_append, List.foldl_cons, List.foldl_nil])
  have hlast : writeWord (poolCached (l ++ [1]) d') (2 ^ 42, 1) =
      poolCached (l ++ [1]) (tabSet 0 d' (32768 * 65536 / 64) 1) := by
    have haddr : 0 / 64 * 64 + 64 * 2 ^ 42 = 2 ^ 48 := by norm_num
    have hmeta : hasMeta (2 ^ 48) = true := by decide
    rw [writeWord, haddr, if_pos hmeta, State.writeDesc, if_pos hmeta]
    simp only [poolCached_phys, poolCached_wakeFrame]
    rfl
  have hphys : (poolCached (l ++ [1]) (tabSet 0 d' (32768 * 65536 / 64) 1)).phys (32768 * 65536) = 32768 * 65536 := by
    have hpool : isPool (32768 * 65536) = false := by decide
    simp only [State.phys, State.frameHolding, hpool, Bool.false_eq_true, if_false]
  have hmeta : hasMeta (32768 * 65536) = true := by decide
  rw [hfold, hlast, State.readDesc, if_pos hmeta]
  simp only [hphys, poolCached_awake, Bool.false_eq_true, if_false]
  exact tabGet_tabSet_same (0 : BitVec 48) d' (32768 * 65536 / 64) 1
end

/-- Refutes O58: a loader's list of 2^42 + 1 metadata words, all zero but the last, reaches the pool block that the first block of frame 32768 caches, and
leaves the word 1 there, where the list has zero. -/
theorem not_outsideAccesses : ¬ Obligations.OutsideAccesses := by
  rintro ⟨-, -, -, -, hrequests⟩
  set l : List (BitVec 48) := List.replicate (2 ^ 42) 0 with hl
  obtain ⟨-, hwrite, -⟩ := hrequests (poolCached (l ++ [1]) []) rfl rfl (poolCached_atRest _ _)
  obtain ⟨t, ht, -, -, hwords⟩ := hwrite 0 [] (l ++ [1]) rfl (Nat.zero_le _)
  obtain rfl := Host.Outcome.next.inj ((poolCached_next _ _).symm.trans ht)
  have hlen : l.length = 2 ^ 42 := List.length_replicate
  have hblock := hwords (32768 * 1024) (by rw [List.length_append, hlen]; norm_num) (by rw [poolCached_hbm]; norm_num)
  have hzero : (l ++ [1]).getD (32768 * 1024) 0 = (0 : BitVec 48) := by
    rw [List.getD_append _ _ _ _ (by rw [hlen]; norm_num), hl, List.getD_replicate (0 : BitVec 48) (by norm_num)]
  rw [show 0 / 64 * 64 + 64 * (32768 * 1024) = 32768 * 65536 by norm_num, poolCached_last [] l hlen, hzero] at hblock
  exact absurd hblock (by decide)

/-- Settles O59: at reset no byte is listed. -/
theorem memoryStartsCanonical : Obligations.MemoryStartsCanonical := by
  unfold Obligations.MemoryStartsCanonical
  decide

end Sys2Proof.Machine
end

section
/-! PROOFS. Rounding, and the codes of the scalar formats (R96-R105). -/

namespace Sys2Proof.Machine

set_option Elab.async false
open Claims

/-! ## Rounding to a whole number -/

/-- Whether a mode takes a number between n and n + 1, at t above n, to n + 1. -/
def roundsUp (rm : RM) (n : ℤ) (t : ℚ) : Bool :=
  match rm with
  | .rne => decide (1 / 2 < t) || (decide (t = 1 / 2) && decide (n % 2 = 1))
  | .rna => if 0 ≤ n then decide (1 / 2 ≤ t) else decide (1 / 2 < t)
  | .rtz => decide (n < 0)
  | .rdn => false
  | .rup => true

@[simp] theorem toWhole_intCast (rm : RM) (n : ℤ) : toWhole rm (n : ℚ) = n := by
  have hup : ⌊(n : ℚ) + 1 / 2⌋ = n := Int.floor_eq_iff.2 ⟨by linarith, by linarith⟩
  have hdown : ⌈(n : ℚ) - 1 / 2⌉ = n := Int.ceil_eq_iff.2 ⟨by linarith, by linarith⟩
  have hhalf : (0 : ℚ) ≠ 1 / 2 := by norm_num
  cases rm <;> simp [toWhole, hup, hdown, hhalf, -one_div]

theorem toWhole_between (rm : RM) (n : ℤ) {t : ℚ} (h0 : 0 < t) (h1 : t < 1) :
    toWhole rm (n + t) = if roundsUp rm n t then n + 1 else n := by
  have hfloor : ⌊(n : ℚ) + t⌋ = n := Int.floor_eq_iff.2 ⟨by linarith, by linarith⟩
  have hceil : ⌈(n : ℚ) + t⌉ = n + 1 := Int.ceil_eq_iff.2 ⟨by push_cast; linarith, by push_cast; linarith⟩
  have hfract : Int.fract ((n : ℚ) + t) = t := by rw [Int.fract, hfloor]; ring
  have hsign : (0 : ℚ) ≤ n + t ↔ 0 ≤ n := by
    constructor
    · intro h
      have : (-1 : ℚ) < n := by linarith
      have : (-1 : ℤ) < n := by exact_mod_cast this
      omega
    · intro h
      have : (0 : ℚ) ≤ n := by exact_mod_cast h
      linarith
  have hhalf : ⌊(n : ℚ) + t + 1 / 2⌋ = if 1 / 2 ≤ t then n + 1 else n := by
    split
    · exact Int.floor_eq_iff.2 ⟨by push_cast; linarith, by push_cast; linarith⟩
    · exact Int.floor_eq_iff.2 ⟨by linarith, by linarith⟩
  have hhalf' : ⌈(n : ℚ) + t - 1 / 2⌉ = if 1 / 2 < t then n + 1 else n := by
    split
    · exact Int.ceil_eq_iff.2 ⟨by push_cast; linarith, by push_cast; linarith⟩
    · exact Int.ceil_eq_iff.2 ⟨by linarith, by linarith⟩
  cases rm with
  | rtz => simp only [toWhole, roundsUp, hsign, hfloor, hceil, decide_eq_true_eq]; split <;> split <;> omega
  | rdn => simp [toWhole, roundsUp, hfloor]
  | rup => simp [toWhole, roundsUp, hceil]
  | rna =>
    simp only [toWhole, roundsUp, hsign, hhalf, hhalf']
    split <;> simp
  | rne =>
    simp only [toWhole, roundsUp, hfract, hfloor, hhalf]
    obtain h | h | h := lt_trichotomy t (1 / 2)
    · simp [h.ne, h.not_gt, h.not_ge, -one_div]
    · obtain hn | hn : n % 2 = 0 ∨ n % 2 = 1 := by omega
      all_goals simp [h, hn]
    · simp [h.ne', h, h.le, -one_div]

/-- A magnitude strictly between n and n + 1 moves away from zero where its signed number moves up, or under a minus does not. -/
theorem roundBits_between (rm : RM) (neg : Bool) {m k : Nat} (h : m % 2 ^ k ≠ 0) :
    let n := m / 2 ^ k
    let t : ℚ := (m % 2 ^ k : Nat) / 2 ^ k
    roundBits rm neg m k = (if (if neg then !roundsUp rm (-(n : ℤ) - 1) (1 - t) else roundsUp rm n t) then n + 1 else n, true) := by
  intro n t
  have hpos : (0 : ℚ) < 2 ^ k := by positivity
  have hgt : 1 / 2 < t ↔ 2 ^ k < 2 * (m % 2 ^ k) := by
    rw [div_lt_div_iff₀ two_pos hpos, one_mul, mul_comm]; exact_mod_cast Iff.rfl
  have hge : 1 / 2 ≤ t ↔ 2 ^ k ≤ 2 * (m % 2 ^ k) := by
    rw [div_le_div_iff₀ two_pos hpos, one_mul, mul_comm]; exact_mod_cast Iff.rfl
  have heq : t = 1 / 2 ↔ 2 * (m % 2 ^ k) = 2 ^ k := by
    rw [div_eq_div_iff hpos.ne' two_ne_zero, one_mul, mul_comm]; exact_mod_cast Iff.rfl
  have hgt' : 1 / 2 < 1 - t ↔ ¬ 2 ^ k ≤ 2 * (m % 2 ^ k) := by rw [← hge, not_le, lt_sub_comm]; norm_num
  have hge' : 1 / 2 ≤ 1 - t ↔ ¬ 2 ^ k < 2 * (m % 2 ^ k) := by rw [← hgt, not_lt, le_sub_comm]; norm_num
  have heq' : 1 - t = 1 / 2 ↔ 2 * (m % 2 ^ k) = 2 ^ k := by rw [← heq, sub_eq_iff_eq_add, ← sub_eq_iff_eq_add', eq_comm]; norm_num
  have hpar : (n : ℤ) % 2 = 1 ↔ n % 2 = 1 := by omega
  have hpar' : (-(n : ℤ) - 1) % 2 = 1 ↔ ¬ n % 2 = 1 := by clear_value n; omega
  have hsign : ¬ (n : ℤ) < 0 := (Int.natCast_nonneg n).not_gt
  have hsign' : -(n : ℤ) - 1 < 0 := by clear_value n; omega
  have hup : (match rm with
      | .rne => decide (2 ^ k < 2 * (m % 2 ^ k)) || (decide (2 * (m % 2 ^ k) = 2 ^ k) && decide (n % 2 = 1))
      | .rna => decide (2 ^ k ≤ 2 * (m % 2 ^ k))
      | .rtz => false
      | .rdn => neg
      | .rup => !neg) = if neg then !roundsUp rm (-(n : ℤ) - 1) (1 - t) else roundsUp rm n t := by
    cases rm with
    | rne =>
      simp only [roundsUp, hgt, heq, hpar, hgt', heq', hpar']
      obtain h | h | h := lt_trichotomy (2 ^ k) (2 * (m % 2 ^ k))
      · simp [h, h.le, h.ne']
      · simp [h.symm, -Nat.mod_two_not_eq_one]
      · simp [h.ne, h.not_gt, h.not_ge]
    | rna => cases neg with
      | false => simp [roundsUp, hge, -one_div]
      | true => simp only [roundsUp, if_neg (not_le.2 hsign'), hgt', decide_not, Bool.not_not, if_true]
    | rtz => cases neg <;> simp only [roundsUp, hsign, hsign'] <;> simp
    | rdn => cases neg <;> rfl
    | rup => cases neg <;> rfl
  simp only [roundBits, if_neg h]
  exact congrArg₂ _ (congrArg (fun b : Bool => if b = true then n + 1 else n) hup) rfl

/-- `roundBits` is the rounding of R100 of m / 2^k under a sign. -/
theorem toWhole_signed (rm : RM) (neg : Bool) (m k : Nat) :
    toWhole rm (if neg then -((m : ℚ) / 2 ^ k) else (m : ℚ) / 2 ^ k) =
      (if neg then -((roundBits rm neg m k).1 : ℤ) else (roundBits rm neg m k).1) ∧
    ((roundBits rm neg m k).2 = false ↔ ((roundBits rm neg m k).1 : ℚ) = (m : ℚ) / 2 ^ k) := by
  have hpos : (0 : ℚ) < 2 ^ k := by positivity
  have hm : (m : ℚ) / 2 ^ k = (m / 2 ^ k : Nat) + (m % 2 ^ k : Nat) / 2 ^ k := by
    rw [eq_comm, add_div' _ _ _ hpos.ne', div_left_inj' hpos.ne']
    exact_mod_cast Nat.div_add_mod' m (2 ^ k)
  by_cases h : m % 2 ^ k = 0
  · have hres : roundBits rm neg m k = (m / 2 ^ k, false) := by simp [roundBits, h]
    rw [hres, hm, h]
    generalize m / 2 ^ k = n
    have hx : (if neg then -((n : ℚ) + (0 : Nat) / 2 ^ k) else (n : ℚ) + (0 : Nat) / 2 ^ k) = ((if neg then -(n : ℤ) else n : ℤ) : ℚ) := by
      cases neg <;> simp
    rw [hx, toWhole_intCast]
    simp
  · rw [roundBits_between rm neg h]
    generalize m / 2 ^ k = n at hm ⊢
    set t : ℚ := (m % 2 ^ k : Nat) / 2 ^ k with ht
    have h0 : 0 < t := div_pos (by exact_mod_cast Nat.pos_of_ne_zero h) hpos
    have h1 : t < 1 := by rw [ht, div_lt_one hpos]; exact_mod_cast Nat.mod_lt _ (by positivity)
    have hne (b : Bool) : ((if b then n + 1 else n : Nat) : ℚ) ≠ (m : ℚ) / 2 ^ k := by
      rw [hm]; cases b
      · simpa using h0.ne'
      · simpa using h1.ne'
    refine ⟨?_, iff_of_false Bool.true_eq_false_eq_False (hne _)⟩
    rw [hm]
    cases neg with
    | false => simpa using toWhole_between rm n h0 h1
    | true =>
      have hflip : -((n : ℚ) + t) = ((-(n : ℤ) - 1 : ℤ) : ℚ) + (1 - t) := by push_cast; ring
      simp only [if_true, hflip]
      rw [toWhole_between rm _ (by linarith) (by linarith)]
      cases roundsUp rm (-(n : ℤ) - 1) (1 - t) <;> simp
      ring

/-! ## Numbers m·2^e -/

theorem signedNumber_eq_mul (neg : Bool) (m : Nat) (e g : Int) : signedNumber neg m e = signedNumber neg m (e - g) * 2 ^ g := by
  have h : (2 : ℚ) ^ e = 2 ^ (e - g) * 2 ^ g := by rw [← zpow_add₀ two_ne_zero, sub_add_cancel]
  cases neg <;> simp [signedNumber, h, mul_assoc]

@[simp] theorem abs_signedNumber (neg : Bool) (m : Nat) (e : Int) : |signedNumber neg m e| = (m : ℚ) * 2 ^ e := by
  have h : (0 : ℚ) ≤ (m : ℚ) * 2 ^ e := by positivity
  cases neg <;> simp [signedNumber, abs_of_nonneg h]

theorem signedNumber_eq_zero {neg : Bool} {m : Nat} {e : Int} : signedNumber neg m e = 0 ↔ m = 0 := by
  cases neg <;> simp [signedNumber, (zpow_pos (two_pos : (0 : ℚ) < 2) e).ne']

/-- m·2^e as a multiple of a smaller power of two. -/
theorem signedNumber_shift (neg : Bool) (m : Nat) {e g : Int} (h : g ≤ e) : signedNumber neg (m * 2 ^ (e - g).toNat) g = signedNumber neg m e := by
  have hpow : (2 : ℚ) ^ (e - g).toNat * 2 ^ g = 2 ^ e := by
    rw [← zpow_natCast, Int.toNat_of_nonneg (by omega), ← zpow_add₀ two_ne_zero, sub_add_cancel]
  cases neg <;> simp [signedNumber, mul_assoc, hpow]

theorem topExp_eq_log {m : Nat} (hm : m ≠ 0) (e : Int) : Int.log 2 ((m : ℚ) * 2 ^ e) = topExp m e := by
  have hpos : (0 : ℚ) < (m : ℚ) * 2 ^ e := by positivity
  have hlow : (2 : ℚ) ^ m.log2 ≤ m := by exact_mod_cast Nat.log2_self_le hm
  have hhigh : (m : ℚ) < 2 ^ (m.log2 + 1) := by exact_mod_cast Nat.lt_log2_self
  apply le_antisymm
  · rw [← Int.lt_add_one_iff, ← Int.lt_zpow_iff_log_lt one_lt_two hpos, topExp,
      show e + (m.log2 : ℤ) + 1 = ((m.log2 + 1 : ℕ) : ℤ) + e by push_cast; ring,
      Nat.cast_ofNat, zpow_add₀ two_ne_zero, zpow_natCast]
    exact mul_lt_mul_of_pos_right hhigh (by positivity)
  · rw [← Int.zpow_le_iff_le_log one_lt_two hpos, topExp, add_comm, Nat.cast_ofNat, zpow_add₀ two_ne_zero, zpow_natCast]
    exact mul_le_mul_of_nonneg_right hlow (by positivity)

/-! ## Rounding to a grid -/

/-- `roundTo` is the rounding to a multiple of 2^g, and says whether the number has changed. -/
theorem toGrid_signedNumber (rm : RM) (neg : Bool) (m : Nat) (e g : Int) :
    toGrid rm (signedNumber neg m e) g = signedNumber neg (roundTo rm neg m e g).1 g ∧
    ((roundTo rm neg m e g).2 = false ↔ toGrid rm (signedNumber neg m e) g = signedNumber neg m e) := by
  have hpow : (2 : ℚ) ^ g ≠ 0 := (zpow_pos two_pos g).ne'
  by_cases h : g ≤ e
  · have hgrid : toGrid rm (signedNumber neg m e) g = signedNumber neg (m * 2 ^ (e - g).toNat) g := by
      have hint : signedNumber neg (m * 2 ^ (e - g).toNat) g / 2 ^ g =
          ((if neg then -((m * 2 ^ (e - g).toNat : Nat) : ℤ) else (m * 2 ^ (e - g).toNat : Nat) : ℤ) : ℚ) := by
        cases neg <;> simp [signedNumber, hpow, neg_div]
      rw [toGrid, ← signedNumber_shift neg m h, hint, toWhole_intCast, ← hint, div_mul_cancel₀ _ hpow]
    have hres : roundTo rm neg m e g = (m * 2 ^ (e - g).toNat, false) := if_pos h
    rw [hgrid, hres]
    exact ⟨rfl, iff_of_true rfl (signedNumber_shift neg m h)⟩
  · obtain ⟨hwhole, hflag⟩ := toWhole_signed rm neg m (g - e).toNat
    have hquot : signedNumber neg m e / 2 ^ g = if neg then -((m : ℚ) / 2 ^ (g - e).toNat) else (m : ℚ) / 2 ^ (g - e).toNat := by
      have hk : (m : ℚ) / 2 ^ (g - e).toNat = (m : ℚ) * 2 ^ (e - g) := by
        rw [← zpow_natCast, Int.toNat_of_nonneg (by omega), ← neg_sub g e, zpow_neg, div_eq_mul_inv]
      rw [signedNumber_eq_mul neg m e g, mul_div_cancel_right₀ _ hpow, hk]
      rfl
    have hres : roundTo rm neg m e g = roundBits rm neg m (g - e).toNat := if_neg h
    have hgrid : toGrid rm (signedNumber neg m e) g = signedNumber neg (roundBits rm neg m (g - e).toNat).1 g := by
      rw [toGrid, hquot, hwhole]
      cases neg <;> simp [signedNumber]
    rw [hres, hgrid]
    refine ⟨rfl, hflag.trans ?_⟩
    rw [← div_mul_cancel₀ (signedNumber neg m e) hpow, hquot]
    cases neg <;> simp [signedNumber, hpow]

theorem roundBits_exact {rm : RM} {neg : Bool} {m k : Nat} (h : m % 2 ^ k = 0) : roundBits rm neg m k = (m / 2 ^ k, false) := if_pos h

theorem roundBits_le {rm : RM} {neg : Bool} {m k N : Nat} (h : m ≤ N * 2 ^ k) : (roundBits rm neg m k).1 ≤ N := by
  by_cases hr : m % 2 ^ k = 0
  · rw [roundBits_exact hr]
    exact Nat.div_le_of_le_mul (by rwa [mul_comm])
  · have hlt : m / 2 ^ k < N := (Nat.div_lt_iff_lt_mul (by positivity)).2 (lt_of_le_of_ne h fun he => hr (by rw [he, Nat.mul_mod_left]))
    rw [roundBits_between rm neg hr]
    generalize (if neg = true then _ else _ : Bool) = up
    cases up <;> simp <;> omega

theorem le_roundBits {rm : RM} {neg : Bool} {m k N : Nat} (h : N * 2 ^ k ≤ m) : N ≤ (roundBits rm neg m k).1 := by
  have hq : N ≤ m / 2 ^ k := (Nat.le_div_iff_mul_le (by positivity)).2 h
  by_cases hr : m % 2 ^ k = 0
  · rwa [roundBits_exact hr]
  · rw [roundBits_between rm neg hr]
    generalize (if neg = true then _ else _ : Bool) = up
    cases up <;> simp <;> omega

/-- An exponent moved to the other side of an order. -/
theorem scaled_le_scaled {a b : Nat} {e g : Int} (h : e ≤ g) : (a : ℚ) * 2 ^ e ≤ b * 2 ^ g ↔ a ≤ b * 2 ^ (g - e).toNat := by
  have hpow : (2 : ℚ) ^ g = 2 ^ (g - e).toNat * 2 ^ e := by
    rw [← zpow_natCast, Int.toNat_of_nonneg (by omega), ← zpow_add₀ two_ne_zero, sub_add_cancel]
  rw [hpow, ← mul_assoc, mul_le_mul_iff_left₀ (zpow_pos two_pos e)]
  exact_mod_cast Iff.rfl

theorem scaled_le_scaled' {a b : Nat} {e g : Int} (h : g ≤ e) : (a : ℚ) * 2 ^ e ≤ b * 2 ^ g ↔ a * 2 ^ (e - g).toNat ≤ b := by
  have hpow : (2 : ℚ) ^ e = 2 ^ (e - g).toNat * 2 ^ g := by
    rw [← zpow_natCast, Int.toNat_of_nonneg (by omega), ← zpow_add₀ two_ne_zero, sub_add_cancel]
  rw [hpow, ← mul_assoc, mul_le_mul_iff_left₀ (zpow_pos two_pos g)]
  exact_mod_cast Iff.rfl

/-- Rounding to a grid does not pass a multiple of its step. -/
theorem roundTo_le {rm : RM} {neg : Bool} {m N : Nat} {e g : Int} (h : (m : ℚ) * 2 ^ e ≤ N * 2 ^ g) : (roundTo rm neg m e g).1 ≤ N := by
  unfold roundTo
  split
  case isTrue hle => exact (scaled_le_scaled' hle).1 h
  case isFalse hle => exact roundBits_le ((scaled_le_scaled (by omega)).1 h)

theorem le_roundTo {rm : RM} {neg : Bool} {m N : Nat} {e g : Int} (h : (N : ℚ) * 2 ^ g ≤ m * 2 ^ e) : N ≤ (roundTo rm neg m e g).1 := by
  unfold roundTo
  split
  case isTrue hle => exact (scaled_le_scaled hle).1 h
  case isFalse hle => exact le_roundBits ((scaled_le_scaled' (by omega)).1 h)

/-! ## Codes of a format -/

/-- What the formats of the device have in common. -/
structure Fmt.Regular (f : Fmt) : Prop where
  fraction : 1 ≤ f.fb
  exponent : 2 ≤ f.eb
  nan_of_inf : f.hasInf = true → f.hasNan = true
  canonical : f.hasNan = true → canonNan f = Claims.canonical f

theorem Fmt.regular {f : Fmt} (h : f ∈ [f64, f32, bf16, f16, e5m2, e4m3, fp4, a96]) : f.Regular := by
  have hall : ∀ f ∈ [f64, f32, bf16, f16, e5m2, e4m3, fp4, a96], 1 ≤ f.fb ∧ 2 ≤ f.eb ∧ (f.hasInf = true → f.hasNan = true) ∧
      (f.hasNan = true → canonNan f = Claims.canonical f) := by decide
  obtain ⟨h₁, h₂, h₃, h₄⟩ := hall f h
  exact ⟨h₁, h₂, h₃, h₄⟩

/-- The code of a sign, an exponent field and a fraction. -/
def codeOf (f : Fmt) (neg : Bool) (E M : Nat) : Nat := signBit f neg + (E * 2 ^ f.fb + M)

section
variable {f : Fmt} {neg : Bool} {E M : Nat}

theorem codeOf_eq (f : Fmt) (neg : Bool) (E M : Nat) : codeOf f neg E M = (neg.toNat * 2 ^ f.eb + E) * 2 ^ f.fb + M := by
  cases neg <;> simp [codeOf, signBit, pow_add, add_mul, add_assoc]

theorem codeOf_fraction (hM : M < 2 ^ f.fb) : codeOf f neg E M % 2 ^ f.fb = M := by
  rw [codeOf_eq, Nat.mul_add_mod', Nat.mod_eq_of_lt hM]

theorem codeOf_upper (hM : M < 2 ^ f.fb) : codeOf f neg E M / 2 ^ f.fb = neg.toNat * 2 ^ f.eb + E := by
  rw [codeOf_eq, Nat.mul_comm, Nat.mul_add_div (by positivity), Nat.div_eq_of_lt hM, Nat.add_zero]

theorem codeOf_exponent (hE : E < 2 ^ f.eb) (hM : M < 2 ^ f.fb) : codeOf f neg E M / 2 ^ f.fb % 2 ^ f.eb = E := by
  rw [codeOf_upper hM, Nat.mul_add_mod', Nat.mod_eq_of_lt hE]

theorem codeOf_sign (hE : E < 2 ^ f.eb) (hM : M < 2 ^ f.fb) : (codeOf f neg E M).testBit (f.eb + f.fb) = neg := by
  rw [Nat.testBit_eq_decide_div_mod_eq, Nat.add_comm, pow_add, ← Nat.div_div_eq_div_mul, codeOf_upper hM, Nat.mul_comm,
    Nat.mul_add_div (by positivity), Nat.div_eq_of_lt hE]
  cases neg <;> rfl

theorem codeOf_isCode (hE : E < 2 ^ f.eb) (hM : M < 2 ^ f.fb) : isCode f (codeOf f neg E M) := by
  have hcode : isCode f (codeOf f neg E M) ↔ codeOf f neg E M / 2 ^ f.fb < 2 ^ (1 + f.eb) := by
    rw [isCode, Nat.div_lt_iff_lt_mul (by positivity), ← pow_add]
  rw [hcode, codeOf_upper hM, pow_add]
  cases neg <;> simp <;> omega

end

/-- Every code is that of its fields. -/
theorem exists_codeOf {f : Fmt} {c : Nat} (h : isCode f c) : ∃ neg E M, E < 2 ^ f.eb ∧ M < 2 ^ f.fb ∧ c = codeOf f neg E M := by
  refine ⟨decide (c / 2 ^ f.fb / 2 ^ f.eb = 1), c / 2 ^ f.fb % 2 ^ f.eb, c % 2 ^ f.fb, Nat.mod_lt _ (by positivity), Nat.mod_lt _ (by positivity), ?_⟩
  have htop : c / 2 ^ f.fb / 2 ^ f.eb < 2 := by
    rw [Nat.div_div_eq_div_mul, ← pow_add, Nat.div_lt_iff_lt_mul (by positivity), ← pow_succ']
    rwa [isCode, show 1 + f.eb + f.fb = f.fb + f.eb + 1 by omega] at h
  have hsign : (decide (c / 2 ^ f.fb / 2 ^ f.eb = 1)).toNat = c / 2 ^ f.fb / 2 ^ f.eb := by
    generalize c / 2 ^ f.fb / 2 ^ f.eb = b at htop ⊢
    obtain rfl | rfl : b = 0 ∨ b = 1 := by omega
    all_goals rfl
  rw [codeOf_eq, hsign, Nat.div_add_mod', Nat.div_add_mod']

/-! ## The numbers of codes -/

/-- The exponent field and the fraction of the largest magnitude. -/
theorem maxMag_fields {f : Fmt} (h : f.Regular) :
    maxMag f / 2 ^ f.fb = (if f.hasInf then 2 ^ f.eb - 2 else 2 ^ f.eb - 1) ∧
    maxMag f % 2 ^ f.fb = (if f.hasInf = false ∧ f.hasNan = true then 2 ^ f.fb - 2 else 2 ^ f.fb - 1) := by
  have hfb : 2 ≤ 2 ^ f.fb := Nat.le_self_pow (by have := h.fraction; omega) 2
  have heb : 4 ≤ 2 ^ f.eb := Nat.pow_le_pow_right two_pos h.exponent
  have hfields {X Y : Nat} (hY : Y < 2 ^ f.fb) : (X * 2 ^ f.fb + Y) / 2 ^ f.fb = X ∧ (X * 2 ^ f.fb + Y) % 2 ^ f.fb = Y := by
    constructor
    · rw [Nat.mul_comm, Nat.mul_add_div (by positivity), Nat.div_eq_of_lt hY, Nat.add_zero]
    · rw [Nat.mul_add_mod', Nat.mod_eq_of_lt hY]
  have hinf : (2 ^ f.eb - 1) * 2 ^ f.fb - 1 = (2 ^ f.eb - 2) * 2 ^ f.fb + (2 ^ f.fb - 1) := by
    obtain ⟨x, hx⟩ := Nat.exists_eq_add_of_le' heb
    rw [hx, show x + 4 - 1 = x + 2 + 1 by omega, show x + 4 - 2 = x + 2 by omega, Nat.succ_mul, Nat.add_sub_assoc (by omega)]
  have hfin {k : Nat} (hk : k ≤ 2) : 2 ^ (f.eb + f.fb) - k = (2 ^ f.eb - 1) * 2 ^ f.fb + (2 ^ f.fb - k) := by
    obtain ⟨x, hx⟩ := Nat.exists_eq_add_of_le' heb
    rw [pow_add, hx, show x + 4 - 1 = x + 3 by omega, show x + 4 = x + 3 + 1 by omega, Nat.succ_mul, Nat.add_sub_assoc (by omega)]
  cases hi : f.hasInf
  · cases hn : f.hasNan
    · simpa [maxMag, hi, hn, hfin (k := 1) (by omega)] using hfields (X := 2 ^ f.eb - 1) (Y := 2 ^ f.fb - 1) (by omega)
    · simpa [maxMag, hi, hn, hfin (k := 2) (by omega)] using hfields (X := 2 ^ f.eb - 1) (Y := 2 ^ f.fb - 2) (by omega)
  · simpa [maxMag, hi, hinf] using hfields (X := 2 ^ f.eb - 2) (Y := 2 ^ f.fb - 1) (by omega)

/-- The significand and the exponent of a magnitude's fields. -/
def fieldsValue (f : Fmt) (neg : Bool) (E M : Nat) : ℚ :=
  if E = 0 then signedNumber neg M (1 - f.bias - f.fb) else signedNumber neg (2 ^ f.fb + M) (E - f.bias - f.fb)

theorem mag_le_maxMag_iff (f : Fmt) {E M : Nat} (hM : M < 2 ^ f.fb) :
    E * 2 ^ f.fb + M ≤ maxMag f ↔ E < maxMag f / 2 ^ f.fb ∨ (E = maxMag f / 2 ^ f.fb ∧ M ≤ maxMag f % 2 ^ f.fb) := by
  have hYlt : maxMag f % 2 ^ f.fb < 2 ^ f.fb := Nat.mod_lt _ (by positivity)
  have hdiv := Nat.div_add_mod' (maxMag f) (2 ^ f.fb)
  obtain hlt | heq | hgt := Nat.lt_trichotomy E (maxMag f / 2 ^ f.fb)
  · have := Nat.mul_le_mul_right (2 ^ f.fb) (Nat.succ_le_of_lt hlt)
    rw [Nat.succ_mul] at this
    exact iff_of_true (by omega) (.inl hlt)
  · rw [heq]
    constructor
    · intro hle; exact .inr ⟨rfl, by omega⟩
    · rintro (h | ⟨-, h⟩) <;> omega
  · have := Nat.mul_le_mul_right (2 ^ f.fb) (Nat.succ_le_of_lt hgt)
    rw [Nat.succ_mul] at this
    exact iff_of_false (by omega) (by omega)

/-- A magnitude up to the largest is a number, and the ones above are not. -/
theorem finite_iff {f : Fmt} (h : f.Regular) {E M : Nat} (hE : E < 2 ^ f.eb) (hM : M < 2 ^ f.fb) :
    E * 2 ^ f.fb + M ≤ maxMag f ↔
      ¬ (E = 2 ^ f.eb - 1 ∧ f.hasInf = true) ∧ ¬ (E = 2 ^ f.eb - 1 ∧ M = 2 ^ f.fb - 1 ∧ f.hasNan = true) := by
  obtain ⟨hX, hY⟩ := maxMag_fields h
  have hfb : 2 ≤ 2 ^ f.fb := Nat.le_self_pow (by have := h.fraction; omega) 2
  have heb : 4 ≤ 2 ^ f.eb := Nat.pow_le_pow_right two_pos h.exponent
  rw [mag_le_maxMag_iff f hM, hX, hY]
  cases hi : f.hasInf <;> cases hn : f.hasNan <;> simp <;> omega

theorem number_codeOf {f : Fmt} (h : f.Regular) {neg : Bool} {E M : Nat} (hE : E < 2 ^ f.eb) (hM : M < 2 ^ f.fb)
    (hfin : E * 2 ^ f.fb + M ≤ maxMag f) : Claims.number f (codeOf f neg E M) = .num neg (fieldsValue f neg E M) := by
  obtain ⟨h₁, h₂⟩ := (finite_iff h hE hM).1 hfin
  simp only [Claims.number, codeOf_sign hE hM, codeOf_exponent hE hM, codeOf_fraction hM, if_neg h₁, if_neg h₂, fieldsValue, signedNumber,
    fraction_scaled, one_add_fraction_scaled]
  by_cases hE0 : E = 0 <;> cases neg <;> simp only [hE0, if_true, if_false, Bool.false_eq_true]

theorem number_codeOf_special {f : Fmt} (h : f.Regular) {neg : Bool} {E M : Nat} (hE : E < 2 ^ f.eb) (hM : M < 2 ^ f.fb)
    (hfin : ¬ E * 2 ^ f.fb + M ≤ maxMag f) : E = 2 ^ f.eb - 1 ∧ Claims.number f (codeOf f neg E M) =
      if f.hasInf = true ∧ M = 0 then .inf neg else .nan (f.hasInf && decide (M < 2 ^ (f.fb - 1))) := by
  rw [finite_iff h hE hM] at hfin
  simp only [Claims.number, codeOf_sign hE hM, codeOf_exponent hE hM, codeOf_fraction hM]
  cases hi : f.hasInf with
  | true =>
    have htop : E = 2 ^ f.eb - 1 := by rw [hi] at hfin; tauto
    simp [htop]
  | false =>
    have htop : E = 2 ^ f.eb - 1 ∧ M = 2 ^ f.fb - 1 ∧ f.hasNan = true := by rw [hi] at hfin; simpa using hfin
    simp [htop]

theorem number_infCode {f : Fmt} (h : f.hasInf = true) (neg : Bool) : isCode f (infCode f neg) ∧ Claims.number f (infCode f neg) = .inf neg := by
  have hE : 2 ^ f.eb - 1 < 2 ^ f.eb := Nat.sub_lt (by positivity) one_pos
  have hM : 0 < 2 ^ f.fb := by positivity
  have hcode : infCode f neg = codeOf f neg (2 ^ f.eb - 1) 0 := rfl
  rw [hcode]
  refine ⟨codeOf_isCode hE hM, ?_⟩
  simp only [Claims.number, codeOf_sign hE hM, codeOf_exponent hE hM, codeOf_fraction hM, h, and_self, if_true]

/-- The largest magnitude's number. -/
theorem largest_eq {f : Fmt} (h : f.Regular) :
    largest f = ((maxMag f % 2 ^ f.fb + 2 ^ f.fb : Nat) : ℚ) * 2 ^ (((maxMag f / 2 ^ f.fb : Nat) : ℤ) - f.bias - f.fb) := by
  obtain ⟨hX, hY⟩ := maxMag_fields h
  have hfb : 2 ≤ 2 ^ f.fb := Nat.le_self_pow (by have := h.fraction; omega) 2
  have heb : 4 ≤ 2 ^ f.eb := Nat.pow_le_pow_right two_pos h.exponent
  have hpow : (2 : ℚ) ^ f.fb ≠ 0 := by positivity
  rw [zpow_sub₀ two_ne_zero _ (f.fb : ℤ), zpow_natCast, hX, hY]
  have hcast {a k : Nat} (h : k ≤ 2 ^ a) : ((2 ^ a - k : Nat) : ℤ) = 2 ^ a - k ∧ ((2 ^ a - k : Nat) : ℚ) = 2 ^ a - k := by
    constructor <;> push_cast [Nat.cast_sub h] <;> rfl
  cases hi : f.hasInf <;> cases hn : f.hasNan <;>
    simp [largest, hi, hn, hcast (a := f.eb) (k := 1) (by omega), hcast (a := f.eb) (k := 2) (by omega), hcast (a := f.fb) (k := 1) (by omega),
      hcast (a := f.fb) (k := 2) (by omega)] <;> field_simp <;> ring

/-! ## Delivery -/

theorem canonNan_eq {f : Fmt} (h : f.Regular) (hn : f.hasNan = true) : canonNan f = Claims.canonical f := h.canonical hn

/-- Two magnitudes with full significands are in the order of their exponents, then of their significands. -/
theorem full_lt_full {fb a b : Nat} {x y : Int} (ha : 2 ^ fb ≤ a) (ha' : a < 2 ^ (fb + 1)) (hb : 2 ^ fb ≤ b) (hb' : b < 2 ^ (fb + 1)) :
    (a : ℚ) * 2 ^ x < b * 2 ^ y ↔ x < y ∨ (x = y ∧ a < b) := by
  have hexp {a b : Nat} {x y : Int} (ha' : a < 2 ^ (fb + 1)) (hb : 2 ^ fb ≤ b) (h : x < y) : (a : ℚ) * 2 ^ x < b * 2 ^ y := by
    rw [← not_le, scaled_le_scaled' h.le, not_le]
    obtain ⟨k, hk⟩ := Int.eq_ofNat_of_zero_le (show 0 ≤ y - x - 1 by omega)
    rw [show (y - x).toNat = k + 1 by omega]
    calc a < 2 ^ fb * 2 ^ 1 := by rwa [← pow_add]
      _ ≤ b * 2 ^ (k + 1) := Nat.mul_le_mul hb (Nat.pow_le_pow_right two_pos (by omega))
  obtain h | rfl | h := lt_trichotomy x y
  · exact iff_of_true (hexp ha' hb h) (.inl h)
  · rw [mul_lt_mul_iff_left₀ (zpow_pos two_pos x)]
    simp
  · exact iff_of_false (hexp hb' ha h).not_gt (by omega)

/-- A significand of fb + 2 bits that has carried, brought back to fb + 1 bits, and its exponent. -/
def carried (f : Fmt) (n : Nat) : Nat := if n = 2 ^ (f.fb + 1) then 2 ^ f.fb else n
def carriedExp (f : Fmt) (n : Nat) (g : Int) : Int := if n = 2 ^ (f.fb + 1) then g + 1 else g

theorem carried_value (f : Fmt) (neg : Bool) (n : Nat) (g : Int) : signedNumber neg (carried f n) (carriedExp f n g) = signedNumber neg n g := by
  unfold carried carriedExp
  split
  case isTrue h =>
    have : (2 : ℚ) ^ (g + 1) = 2 * 2 ^ g := by rw [zpow_add₀ two_ne_zero, zpow_one, mul_comm]
    cases neg <;> simp [signedNumber, h, this, pow_succ] <;> ring
  case isFalse => rfl

theorem carried_lt {f : Fmt} {n : Nat} (h : n ≤ 2 ^ (f.fb + 1)) : carried f n < 2 ^ (f.fb + 1) := by
  unfold carried
  split
  · exact Nat.pow_lt_pow_right one_lt_two (by omega)
  · omega

theorem le_carried {f : Fmt} {n : Nat} (h : 2 ^ f.fb ≤ n) : 2 ^ f.fb ≤ carried f n := by
  unfold carried
  split <;> omega

/-- The code of a significand on the format's grid. -/
theorem number_magCode {f : Fmt} (h : f.Regular) (neg : Bool) {n : Nat} {g : Int} (hn : n < 2 ^ (f.fb + 1)) (hg : 1 - (f.bias : Int) - f.fb ≤ g)
    (hsub : n < 2 ^ f.fb → g = 1 - (f.bias : Int) - f.fb) (hle : (n : ℚ) * 2 ^ g ≤ largest f) :
    isCode f (signBit f neg + magCode f n g) ∧ Claims.number f (signBit f neg + magCode f n g) = .num neg (signedNumber neg n g) := by
  obtain ⟨hX, -⟩ := maxMag_fields h
  have heb : 4 ≤ 2 ^ f.eb := Nat.pow_le_pow_right two_pos h.exponent
  have hXlt : 2 ≤ maxMag f / 2 ^ f.fb ∧ maxMag f / 2 ^ f.fb < 2 ^ f.eb := by rw [hX]; split <;> omega
  obtain ⟨hX2, hXlt⟩ := hXlt
  unfold magCode
  split
  case isTrue hsmall =>
    have hcode : signBit f neg + n = codeOf f neg 0 n := by simp [codeOf]
    have hmag : 0 * 2 ^ f.fb + n ≤ maxMag f := (mag_le_maxMag_iff f hsmall).2 (.inl (by omega))
    rw [hcode, number_codeOf h (by omega) hsmall hmag, hsub hsmall]
    exact ⟨codeOf_isCode (by omega) hsmall, rfl⟩
  case isFalse hfull =>
    rw [not_lt] at hfull
    obtain ⟨E, hE⟩ : ∃ E : Nat, g = (E : Int) - f.bias - f.fb := ⟨(g + f.fb + f.bias).toNat, by omega⟩
    have hto : (g + f.fb + f.bias).toNat = E := by omega
    have hM : n - 2 ^ f.fb < 2 ^ f.fb := by rw [pow_succ] at hn; omega
    have hY : maxMag f % 2 ^ f.fb < 2 ^ f.fb := Nat.mod_lt _ (by positivity)
    rw [largest_eq h, ← not_lt, full_lt_full (by omega) (by rw [pow_succ]; omega) hfull hn] at hle
    have hmag : E * 2 ^ f.fb + (n - 2 ^ f.fb) ≤ maxMag f := (mag_le_maxMag_iff f hM).2 (by omega)
    have hElt : E < 2 ^ f.eb := by omega
    rw [hto, show signBit f neg + (E * 2 ^ f.fb + (n - 2 ^ f.fb)) = codeOf f neg E (n - 2 ^ f.fb) from rfl, number_codeOf h hElt hM hmag]
    refine ⟨codeOf_isCode hElt hM, ?_⟩
    rw [fieldsValue, if_neg (by omega), Nat.add_sub_cancel' hfull, hE]

theorem number_maxCode {f : Fmt} (h : f.Regular) (neg : Bool) : isCode f (maxCode f neg) ∧ Claims.number f (maxCode f neg) = atLargest f neg := by
  obtain ⟨hX, -⟩ := maxMag_fields h
  have heb : 4 ≤ 2 ^ f.eb := Nat.pow_le_pow_right two_pos h.exponent
  have hXlt : maxMag f / 2 ^ f.fb ≠ 0 ∧ maxMag f / 2 ^ f.fb < 2 ^ f.eb := by rw [hX]; split <;> omega
  obtain ⟨hX0, hXlt⟩ := hXlt
  have hY : maxMag f % 2 ^ f.fb < 2 ^ f.fb := Nat.mod_lt _ (by positivity)
  have hcode : maxCode f neg = codeOf f neg (maxMag f / 2 ^ f.fb) (maxMag f % 2 ^ f.fb) := by rw [codeOf, Nat.div_add_mod']; rfl
  rw [hcode, number_codeOf h hXlt hY (by rw [Nat.div_add_mod'])]
  refine ⟨codeOf_isCode hXlt hY, ?_⟩
  rw [fieldsValue, if_neg hX0, Nat.add_comm, atLargest, largest_eq h]
  rfl

theorem number_signBit {f : Fmt} (h : f.Regular) (neg : Bool) : isCode f (signBit f neg) ∧ Claims.number f (signBit f neg) = .num neg 0 := by
  have hE : 0 < 2 ^ f.eb := by positivity
  have hM : 0 < 2 ^ f.fb := by positivity
  have hcode : signBit f neg = codeOf f neg 0 0 := by simp [codeOf]
  rw [hcode, number_codeOf h hE hM (by simp)]
  refine ⟨codeOf_isCode hE hM, ?_⟩
  cases neg <;> simp [fieldsValue, signedNumber]

theorem overflowCode_eq (f : Fmt) (rm : RM) (sat neg : Bool) : overflowCode f rm sat neg =
    if !f.hasNan then (maxCode f neg, fpOverflow ||| fpInexact ||| fpSaturated)
    else if sat then (maxCode f neg, fpOverflow ||| fpInexact ||| fpSaturated)
    else if away rm neg then (if f.hasInf then infCode f neg else canonNan f, fpOverflow ||| fpInexact)
    else (maxCode f neg, fpOverflow ||| fpInexact) := rfl

theorem overflowCode_overflowed {f : Fmt} (h : f.Regular) (rm : RM) (sat neg : Bool) : Overflowed f rm sat neg (overflowCode f rm sat neg) := by
  obtain ⟨hmax, hmax'⟩ := number_maxCode h neg
  rw [Overflowed, overflowCode_eq]
  cases hn : f.hasNan with
  | false => simpa using ⟨hmax, hmax', rfl⟩
  | true =>
    cases sat with
    | true => simpa using ⟨hmax, hmax', rfl⟩
    | false =>
      cases ha : away rm neg with
      | false => simpa using ⟨hmax, hmax', rfl⟩
      | true =>
        cases hi : f.hasInf with
        | false => simp [h.canonical hn]
        | true =>
          obtain ⟨hinf, hinf'⟩ := number_infCode hi neg
          simpa using ⟨hinf, hinf', rfl⟩

/-- A number rounded to fb + 1 bits has them, or has carried. -/
theorem topExp_full {f : Fmt} {rm : RM} {neg : Bool} {m : Nat} (hm : m ≠ 0) (e : Int) :
    2 ^ f.fb ≤ (roundTo rm neg m e (topExp m e - f.fb)).1 ∧ (roundTo rm neg m e (topExp m e - f.fb)).1 ≤ 2 ^ (f.fb + 1) := by
  have hlow : (2 : ℚ) ^ m.log2 ≤ m := by exact_mod_cast Nat.log2_self_le hm
  have hhigh : (m : ℚ) ≤ 2 ^ (m.log2 + 1) := by exact_mod_cast Nat.lt_log2_self.le
  have hscale (k : Nat) : (((2 : Nat) ^ (f.fb + k) : Nat) : ℚ) * 2 ^ (topExp m e - f.fb) = 2 ^ (m.log2 + k) * 2 ^ e := by
    rw [Nat.cast_pow, Nat.cast_ofNat, ← zpow_natCast, ← zpow_natCast, ← zpow_add₀ two_ne_zero, ← zpow_add₀ two_ne_zero, topExp]
    congr 1
    push_cast
    ring
  exact ⟨le_roundTo ((hscale 0).trans_le (mul_le_mul_of_nonneg_right hlow (by positivity))),
    roundTo_le (le_of_le_of_eq (mul_le_mul_of_nonneg_right hhigh (by positivity)) (hscale 1).symm)⟩

theorem smallest_le_largest {f : Fmt} (h : f.Regular) {g : Int} (hg : g ≤ 1 - (f.bias : Int) - f.fb) : ((2 ^ f.fb : Nat) : ℚ) * 2 ^ g ≤ largest f := by
  obtain ⟨hX, -⟩ := maxMag_fields h
  have heb : 4 ≤ 2 ^ f.eb := Nat.pow_le_pow_right two_pos h.exponent
  have hX2 : 2 ≤ maxMag f / 2 ^ f.fb := by rw [hX]; split <;> omega
  have hY : maxMag f % 2 ^ f.fb < 2 ^ f.fb := Nat.mod_lt _ (by positivity)
  rw [largest_eq h, ← not_lt, full_lt_full (by omega) (by rw [pow_succ]; omega) le_rfl (Nat.pow_lt_pow_right one_lt_two (by omega))]
  omega

/-- A non-zero number is rounded once, or overflows. -/
theorem deliver_fin {f : Fmt} (h : f.Regular) (rm : RM) (sat neg : Bool) {m : Nat} (hm : m ≠ 0) (e : Int) :
    Delivered f rm sat (.num neg (signedNumber neg m e)) (deliver f rm sat (.fin neg m e)) := by
  obtain ⟨hfull, hcarry⟩ := topExp_full (f := f) (rm := rm) (neg := neg) hm e
  have hlog : Int.log 2 |signedNumber neg m e| = topExp m e := by rw [abs_signedNumber, topExp_eq_log hm]
  have hround : rounded f rm (signedNumber neg m e) =
      toGrid rm (signedNumber neg m e) (if topExp m e - f.fb < 1 - (f.bias : Int) - f.fb then 1 - (f.bias : Int) - f.fb else topExp m e - f.fb) := by
    rw [rounded, hlog]
    congr 1
    split <;> omega
  have hY : maxMag f % 2 ^ f.fb < 2 ^ f.fb := Nat.mod_lt _ (by positivity)
  simp only [Delivered, deliver, if_neg hm, signedNumber_eq_zero, hround]
  set g : Int := if topExp m e - f.fb < 1 - (f.bias : Int) - f.fb then 1 - (f.bias : Int) - f.fb else topExp m e - f.fb with hg
  have hun : unbounded f rm (signedNumber neg m e) = signedNumber neg (roundTo rm neg m e (topExp m e - f.fb)).1 (topExp m e - f.fb) := by
    rw [unbounded, hlog, (toGrid_signedNumber rm neg m e _).1]
  have hunder : topExp m e - f.fb < 1 - (f.bias : Int) - f.fb → (roundTo rm neg m e g).1 ≤ 2 ^ f.fb := by
    intro hlt
    have hlt2 : (m : ℚ) * 2 ^ e < 2 ^ (topExp m e + 1) := by
      rw [← abs_signedNumber neg m e] at *
      have := Int.lt_zpow_succ_log_self (b := 2) one_lt_two |signedNumber neg m e|
      rwa [hlog] at this
    refine roundTo_le (hlt2.le.trans ?_)
    rw [Nat.cast_pow, Nat.cast_ofNat, ← zpow_natCast, ← zpow_add₀ two_ne_zero]
    exact zpow_le_zpow_right₀ one_le_two (by omega)
  have hsame : ¬ topExp m e - f.fb < 1 - (f.bias : Int) - f.fb → g = topExp m e - f.fb := fun hlt => if_neg hlt
  have hlow : 1 - (f.bias : Int) - f.fb ≤ g := by omega
  obtain ⟨hgrid, hexact⟩ := toGrid_signedNumber rm neg m e g
  have hunb : |unbounded f rm (signedNumber neg m e)| = carried f (roundTo rm neg m e (topExp m e - f.fb)).1 *
      2 ^ carriedExp f (roundTo rm neg m e (topExp m e - f.fb)).1 (topExp m e - f.fb) := by
    rw [hun, ← carried_value f neg, abs_signedNumber]
  set un := (roundTo rm neg m e (topExp m e - f.fb)).1 with hundef
  have hbig : (if un = 2 ^ (f.fb + 1) then topExp m e + 1 else topExp m e) = carriedExp f un (topExp m e - f.fb) + f.fb := by
    unfold carriedExp; split <;> omega
  have hmag : (if un = 2 ^ (f.fb + 1) then 2 ^ f.fb else un) = carried f un := rfl
  have hfull' := le_carried hfull
  have hcarry' := carried_lt hcarry
  have hover : largest f < |unbounded f rm (signedNumber neg m e)| ↔
      (((maxMag f / 2 ^ f.fb : Nat) : ℤ) - f.bias < carriedExp f un (topExp m e - f.fb) + f.fb ∨
        (carriedExp f un (topExp m e - f.fb) + f.fb = ((maxMag f / 2 ^ f.fb : Nat) : ℤ) - f.bias ∧ maxMag f % 2 ^ f.fb + 2 ^ f.fb < carried f un)) := by
    rw [hunb, largest_eq h, full_lt_full (by omega) (by rw [pow_succ]; omega) hfull' hcarry']
    omega
  have htiny : |unbounded f rm (signedNumber neg m e)| < 2 ^ (1 - (f.bias : ℤ)) ↔ carriedExp f un (topExp m e - f.fb) + f.fb < 1 - (f.bias : Int) := by
    have hone : (2 : ℚ) ^ (1 - (f.bias : ℤ)) = ((2 ^ f.fb : Nat) : ℚ) * 2 ^ (1 - (f.bias : ℤ) - f.fb) := by
      rw [Nat.cast_pow, Nat.cast_ofNat, ← zpow_natCast, ← zpow_add₀ two_ne_zero]; congr 1; ring
    rw [hunb, hone, full_lt_full hfull' hcarry' le_rfl (Nat.pow_lt_pow_right one_lt_two (by omega))]
    omega
  simp only [hbig, hmag, ← hover, htiny]
  split
  case isTrue => exact overflowCode_overflowed h rm sat neg
  case isFalse hno =>
    rw [not_lt] at hno
    have hle : (roundTo rm neg m e g).1 ≤ 2 ^ (f.fb + 1) := by
      by_cases hlt : topExp m e - f.fb < 1 - (f.bias : Int) - f.fb
      · exact (hunder hlt).trans (Nat.pow_le_pow_right two_pos (by omega))
      · rwa [hsame hlt, ← hundef]
    have hmax : (carried f (roundTo rm neg m e g).1 : ℚ) * 2 ^ carriedExp f (roundTo rm neg m e g).1 g ≤ largest f := by
      by_cases hlt : topExp m e - f.fb < 1 - (f.bias : Int) - f.fb
      · rw [← abs_signedNumber neg, carried_value, abs_signedNumber]
        exact (mul_le_mul_of_nonneg_right (by exact_mod_cast hunder hlt) (by positivity)).trans (smallest_le_largest h (by omega))
      · rwa [hsame hlt, ← hundef, ← hunb]
    have hsub : carried f (roundTo rm neg m e g).1 < 2 ^ f.fb → carriedExp f (roundTo rm neg m e g).1 g = 1 - (f.bias : Int) - f.fb := by
      intro hsmall
      have hlt : topExp m e - f.fb < 1 - (f.bias : Int) - f.fb := by
        by_contra hlt
        rw [hsame hlt, ← hundef] at hsmall
        omega
      rw [carriedExp, if_neg (by have := hunder hlt; rw [pow_succ]; omega)]
      omega
    have hlow' : 1 - (f.bias : Int) - f.fb ≤ carriedExp f (roundTo rm neg m e g).1 g := by unfold carriedExp; split <;> omega
    obtain ⟨hcode, hnum⟩ := number_magCode h neg (carried_lt hle) hlow' hsub hmax
    refine ⟨hcode, hnum.trans (by rw [carried_value, hgrid]), ?_⟩
    cases hr : (roundTo rm neg m e g).2 with
    | false => simp [hexact.1 hr]
    | true => simp [mt hexact.2 (by simp [hr])]

theorem deliver_delivered {f : Fmt} (h : f.Regular) (rm : RM) (sat : Bool) (v : Val) : Delivered f rm sat v.number (deliver f rm sat v) := by
  cases v with
  | nan s => cases hn : f.hasNan <;> simp [Val.number, Delivered, deliver, hn, h.canonical]
  | inf neg =>
    obtain ⟨hmax, hmax'⟩ := number_maxCode h neg
    simp only [Val.number, Delivered, deliver]
    cases hi : f.hasInf with
    | true =>
      obtain ⟨hinf, hinf'⟩ := number_infCode hi neg
      simpa using ⟨hinf, hinf', rfl⟩
    | false =>
      cases hn : f.hasNan with
      | false => simpa using ⟨hmax, hmax', rfl⟩
      | true => cases sat with
        | true => simpa using ⟨hmax, hmax', rfl⟩
        | false => simp [h.canonical hn]
  | fin neg m e =>
    by_cases hm : m = 0
    · obtain ⟨hz, hz'⟩ := number_signBit h neg
      simpa [Val.number, Delivered, deliver, hm, signedNumber] using ⟨hz, hz', rfl⟩
    · exact deliver_fin h rm sat neg hm e

/-! ## Exact results -/

theorem unpack_number_of_noInf {f : Fmt} (h : f.hasInf = false) (c : Nat) : (unpack f c).number = Claims.number f c := by
  simp only [unpack, Claims.number, Nat.testBit_eq_decide_div_mod_eq, h, Bool.false_and, Bool.false_eq_true, and_false, if_false, Bool.not_false,
    Bool.and_true, Bool.and_eq_true, decide_eq_true_eq]
  by_cases hnan : c / 2 ^ f.fb % 2 ^ f.eb = 2 ^ f.eb - 1 ∧ c % 2 ^ f.fb = 2 ^ f.fb - 1 ∧ f.hasNan = true
  · obtain ⟨h₁, h₂, h₃⟩ := hnan
    simp [h₁, h₂, h₃, Val.number]
  · rw [if_neg hnan, if_neg (by tauto)]
    by_cases hsub : c / 2 ^ f.fb % 2 ^ f.eb = 0
    · simp only [if_pos hsub, Val.number, signedNumber, fraction_scaled, decide_eq_true_eq]
    · simp only [if_neg hsub, Val.number, signedNumber, one_add_fraction_scaled, decide_eq_true_eq]

@[simp] theorem number_unpack (f : Fmt) (c : Nat) : (unpack f c).number = Claims.number f c := by
  cases h : f.hasInf with
  | true => exact unpack_number h c
  | false => exact unpack_number_of_noInf h c

/-- A number that a format holds. -/
def Fits (f : Fmt) (q : ℚ) : Prop :=
  ∃ neg n g, q = signedNumber neg n g ∧ n < 2 ^ (f.fb + 1) ∧ 1 - (f.bias : Int) - f.fb ≤ g ∧ |q| ≤ largest f

theorem toGrid_signedNumber_of_le (rm : RM) (neg : Bool) (m : Nat) {e g : Int} (h : g ≤ e) :
    toGrid rm (signedNumber neg m e) g = signedNumber neg m e := by
  refine (toGrid_signedNumber rm neg m e g).2.1 ?_
  rw [roundTo, if_pos h]

theorem topExp_le {m k : Nat} (hm : m ≠ 0) (h : m < 2 ^ (k + 1)) (e : Int) : topExp m e ≤ e + k := by
  have : m.log2 < k + 1 := (Nat.log2_lt hm).2 h
  unfold topExp
  omega

/-- A number that the format holds is delivered as it is, in every mode and without an exception. -/
theorem Fits.delivered_iff {f : Fmt} {q : ℚ} (hq : Fits f q) (rm : RM) (sat neg : Bool) (r : Nat × Fp) :
    Delivered f rm sat (.num neg q) r ↔ IsResult f (.num neg q) 0 r := by
  obtain ⟨s, n, g, rfl, hn, hg, hle⟩ := hq
  by_cases h0 : n = 0
  · have hz : signedNumber s n g = 0 := signedNumber_eq_zero.2 h0
    simp [Delivered, hz]
  · have hlog : Int.log 2 |signedNumber s n g| = topExp n g := by rw [abs_signedNumber, topExp_eq_log h0]
    have htop := topExp_le h0 hn g
    have hun : unbounded f rm (signedNumber s n g) = signedNumber s n g := by
      rw [unbounded, hlog]; exact toGrid_signedNumber_of_le rm s n (by omega)
    have hround : rounded f rm (signedNumber s n g) = signedNumber s n g := by
      rw [rounded, hlog]; exact toGrid_signedNumber_of_le rm s n (by omega)
    simp only [Delivered, signedNumber_eq_zero, if_neg h0, hun, hround, if_neg hle.not_gt, if_true]

/-- The fields of a code that stands for a number. -/
theorem exists_fields {f : Fmt} (h : f.Regular) {c : Nat} (hc : isCode f c) {neg : Bool} {q : ℚ} (hnum : Claims.number f c = .num neg q) :
    ∃ E M, E < 2 ^ f.eb ∧ M < 2 ^ f.fb ∧ E * 2 ^ f.fb + M ≤ maxMag f ∧ c = codeOf f neg E M ∧ q = fieldsValue f neg E M := by
  obtain ⟨s, E, M, hE, hM, rfl⟩ := exists_codeOf hc
  have hfin : E * 2 ^ f.fb + M ≤ maxMag f := by
    by_contra hfin
    rw [(number_codeOf_special h hE hM hfin).2] at hnum
    split_ifs at hnum
  rw [number_codeOf h hE hM hfin] at hnum
  obtain ⟨rfl, rfl⟩ := Number.num.inj hnum
  exact ⟨E, M, hE, hM, hfin, rfl, rfl⟩

theorem Fits.of_code {f : Fmt} (h : f.Regular) {c : Nat} (hc : isCode f c) {neg : Bool} {q : ℚ} (hnum : Claims.number f c = .num neg q) : Fits f q := by
  obtain ⟨E, M, hE, hM, hmag, rfl, rfl⟩ := exists_fields h hc hnum
  by_cases h0 : E = 0
  · refine ⟨neg, M, 1 - (f.bias : Int) - f.fb, by rw [fieldsValue, if_pos h0], by rw [pow_succ]; omega, le_rfl, ?_⟩
    rw [fieldsValue, if_pos h0, abs_signedNumber]
    exact (mul_le_mul_of_nonneg_right (by exact_mod_cast hM.le) (by positivity)).trans (smallest_le_largest h le_rfl)
  · refine ⟨neg, 2 ^ f.fb + M, (E : Int) - f.bias - f.fb, by rw [fieldsValue, if_neg h0], by rw [pow_succ]; omega, by omega, ?_⟩
    have hY : maxMag f % 2 ^ f.fb < 2 ^ f.fb := Nat.mod_lt _ (by positivity)
    rw [mag_le_maxMag_iff f hM] at hmag
    rw [fieldsValue, if_neg h0, abs_signedNumber, largest_eq h, ← not_lt,
      full_lt_full (Nat.le_add_left _ _) (by rw [pow_succ]; omega) (Nat.le_add_right _ _) (by rw [pow_succ]; omega)]
    omega

/-- The fields of two numbers that are equal are equal. -/
theorem fieldsValue_inj {f : Fmt} {neg neg' : Bool} {E M E' M' : Nat} (hM : M < 2 ^ f.fb) (hM' : M' < 2 ^ f.fb)
    (h : fieldsValue f neg E M = fieldsValue f neg' E' M') : E = E' ∧ M = M' := by
  have hexp {E M : Nat} (hM : M < 2 ^ f.fb) (h0 : E ≠ 0) {neg neg' : Bool} {M' : Nat} (hM' : M' < 2 ^ f.fb) :
      fieldsValue f neg' 0 M' ≠ fieldsValue f neg E M := by
    intro h
    have habs := congrArg abs h
    rw [fieldsValue, fieldsValue, if_pos rfl, if_neg h0, abs_signedNumber, abs_signedNumber] at habs
    have hle : ((2 ^ f.fb + M : Nat) : ℚ) * 2 ^ ((E : Int) - f.bias - f.fb) ≤ M' * 2 ^ (1 - (f.bias : Int) - f.fb) := habs.ge
    rw [scaled_le_scaled' (by omega)] at hle
    have := Nat.le_mul_of_pos_right (2 ^ f.fb + M) (show 0 < 2 ^ ((E : Int) - f.bias - f.fb - (1 - (f.bias : Int) - f.fb)).toNat by positivity)
    omega
  by_cases h0 : E = 0 <;> by_cases h0' : E' = 0
  · have habs := congrArg abs h
    rw [fieldsValue, fieldsValue, if_pos h0, if_pos h0', abs_signedNumber, abs_signedNumber, mul_left_inj' (by positivity)] at habs
    exact ⟨h0.trans h0'.symm, by exact_mod_cast habs⟩
  · subst h0
    exact absurd h (hexp hM' h0' hM)
  · subst h0'
    exact absurd h.symm (hexp hM h0 hM')
  · have habs := congrArg abs h
    rw [fieldsValue, fieldsValue, if_neg h0, if_neg h0', abs_signedNumber, abs_signedNumber] at habs
    have h₁ := mt (full_lt_full (fb := f.fb) (by omega) (by rw [pow_succ]; omega) (by omega) (by rw [pow_succ]; omega)).2 habs.not_lt
    have h₂ := mt (full_lt_full (fb := f.fb) (by omega) (by rw [pow_succ]; omega) (by omega) (by rw [pow_succ]; omega)).2 habs.not_gt
    omega

/-- Numbers and infinities have one code each. -/
theorem number_inj {f : Fmt} (h : f.Regular) {a b : Nat} (ha : isCode f a) (hb : isCode f b) (hab : Claims.number f a = Claims.number f b)
    (hnan : (Claims.number f a).isNaN = false) : a = b := by
  obtain ⟨s, E, M, hE, hM, rfl⟩ := exists_codeOf ha
  obtain ⟨s', E', M', hE', hM', rfl⟩ := exists_codeOf hb
  by_cases hfin : E * 2 ^ f.fb + M ≤ maxMag f
  · rw [number_codeOf h hE hM hfin] at hab
    obtain ⟨E'', M'', hE'', hM'', -, hcode, hval⟩ := exists_fields h hb hab.symm
    obtain ⟨rfl, rfl⟩ := fieldsValue_inj hM hM'' hval
    exact hcode.symm
  · obtain ⟨htop, hinf⟩ := number_codeOf_special (neg := s) h hE hM hfin
    have hM0 : f.hasInf = true ∧ M = 0 := by
      by_contra hno
      rw [hinf, if_neg hno] at hnan
      cases hnan
    rw [hinf, if_pos hM0] at hab
    have hfin' : ¬ E' * 2 ^ f.fb + M' ≤ maxMag f := by
      intro hfin'
      rw [number_codeOf h hE' hM' hfin'] at hab
      cases hab
    obtain ⟨htop', hinf'⟩ := number_codeOf_special (neg := s') h hE' hM' hfin'
    rw [hinf'] at hab
    split_ifs at hab with hM0'
    rw [Number.inf.inj hab, htop, htop', hM0.2, hM0'.2]

/-- Two results of one number are the same code. -/
theorem isResult_unique {f : Fmt} (h : f.Regular) {n : Number} (hn : n.isNaN = false) {fl : Fp} {r r' : Nat × Fp} (hr : IsResult f n fl r)
    (hr' : IsResult f n fl r') : r = r' := by
  obtain ⟨hc, hnum, hfl⟩ := hr
  obtain ⟨hc', hnum', hfl'⟩ := hr'
  exact Prod.ext (number_inj h hc hc' (hnum.trans hnum'.symm) (by rwa [hnum])) (hfl.trans hfl'.symm)

theorem hasInf_of_number {f : Fmt} {c : Nat} {neg : Bool} (h : Claims.number f c = .inf neg) : f.hasInf = true := by
  simp only [Claims.number] at h
  split at h
  case isTrue hinf => exact hinf.2
  case isFalse => split at h <;> cases h

/-- A code's number is delivered as that code. -/
theorem delivered_eq_code {f : Fmt} (h : f.Regular) {c : Nat} (hc : isCode f c) (hn : (Claims.number f c).isNaN = false) {rm : RM} {sat : Bool}
    {r : Nat × Fp} (hr : Delivered f rm sat (Claims.number f c) r) : r = (c, 0) := by
  have hres : IsResult f (Claims.number f c) 0 r := by
    cases hnum : Claims.number f c with
    | nan s => rw [hnum] at hn; cases hn
    | inf neg => rwa [hnum, Delivered, if_pos (hasInf_of_number hnum)] at hr
    | num neg q => rwa [hnum, (Fits.of_code h hc hnum).delivered_iff] at hr
  exact isResult_unique h hn hres ⟨hc, rfl, rfl⟩

theorem deliver_eq_code {f : Fmt} (h : f.Regular) {c : Nat} (hc : isCode f c) {v : Val} (hv : v.number = Claims.number f c)
    (hfin : v.isNan = false) (rm : RM) (sat : Bool) : deliver f rm sat v = (c, 0) :=
  delivered_eq_code h hc (by rw [← hv, Val.number_isNaN, hfin]) (hv ▸ deliver_delivered h rm sat v)

end Sys2Proof.Machine
end

section
/-! PROOFS. The exact operations, quotients and roots, delivered (R133, R135, R136). -/

namespace Sys2Proof.Machine

set_option Elab.async false
open Claims

/-! ## The exact operations -/

theorem finishF_delivers {f : Fmt} (h : f.Regular) (rm : RM) (sat : Bool) (v : Val × Fp) :
    Delivers f rm sat (v.1.number, v.2) (finishF f rm sat v) := ⟨_, deliver_delivered h rm sat v.1, rfl⟩

theorem signedNumber_true (m : Nat) (e : Int) : signedNumber true m e = -signedNumber false m e := rfl

theorem Val.number_neg (v : Val) : v.neg.number = minus v.number := by
  cases v with
  | nan s => rfl
  | inf n => rfl
  | fin n m e => cases n <;> simp [Val.neg, Val.number, minus, signedNumber]

/-- An integer at an exponent, as a sign and a magnitude. -/
theorem signedNumber_natAbs (t : ℤ) (e : Int) : signedNumber (decide (t < 0)) t.natAbs e = (t : ℚ) * 2 ^ e := by
  have habs : ((t.natAbs : ℕ) : ℚ) = |(t : ℚ)| := by rw [Nat.cast_natAbs, Int.cast_abs]
  by_cases h : t < 0
  · have : (t : ℚ) < 0 := by exact_mod_cast h
    simp [signedNumber, h, habs, abs_of_neg this]
  · have : (0 : ℚ) ≤ t := by exact_mod_cast not_lt.1 h
    simp [signedNumber, h, habs, abs_of_nonneg this]

theorem addV_fin_number (rm : RM) (n₁ n₂ : Bool) (m₁ m₂ : Nat) (e₁ e₂ : Int) :
    ((addV rm (.fin n₁ m₁ e₁) (.fin n₂ m₂ e₂)).1.number, (addV rm (.fin n₁ m₁ e₁) (.fin n₂ m₂ e₂)).2) =
      sumOf rm [.num n₁ (signedNumber n₁ m₁ e₁), .num n₂ (signedNumber n₂ m₂ e₂)] := by
  have h₁ : minInt e₁ e₂ ≤ e₁ := by unfold minInt; split <;> omega
  have h₂ : minInt e₁ e₂ ≤ e₂ := by unfold minInt; split <;> omega
  have hsum : signedNumber n₁ m₁ e₁ + signedNumber n₂ m₂ e₂ =
      ((sm n₁ m₁ e₁ (minInt e₁ e₂) + sm n₂ m₂ e₂ (minInt e₁ e₂) : ℤ) : ℚ) * 2 ^ minInt e₁ e₂ := by
    rw [← sm_scaled n₁ m₁ h₁, ← sm_scaled n₂ m₂ h₂]; push_cast; ring
  have hz (n : Bool) (q : ℚ) : ((n, q) = (true, (0 : ℚ))) = (n = true ∧ q = 0) ∧ ((n, q) = (false, (0 : ℚ))) = (n = false ∧ q = 0) := by
    simp
  have hpos : (0 : ℚ) < 2 ^ minInt e₁ e₂ := zpow_pos two_pos _
  simp only [addV, sumOf, List.any_cons, List.any_nil, Number.isNaN, Bool.or_false, Bool.false_eq_true, if_false, List.filterMap_cons, List.filterMap_nil,
    List.map_cons, List.map_nil, List.sum_cons, List.sum_nil, add_zero, List.all_cons, List.all_nil, Bool.and_true, hz, signedNumber_eq_zero, exactly, hsum]
  generalize sm n₁ m₁ e₁ (minInt e₁ e₂) + sm n₂ m₂ e₂ (minInt e₁ e₂) = t at hsum ⊢
  by_cases ht : t = 0
  · subst ht
    by_cases hm : m₁ = 0 ∧ m₂ = 0 ∧ n₁ = n₂
    · obtain ⟨rfl, rfl, rfl⟩ := hm
      cases n₁ <;> simp [Val.number, signedNumber]
    · have htrue : ¬ ((n₁ = true ∧ m₁ = 0) ∧ n₂ = true ∧ m₂ = 0) := by rintro ⟨⟨rfl, h⟩, rfl, h'⟩; exact hm ⟨h, h', rfl⟩
      have hfalse : ¬ ((n₁ = false ∧ m₁ = 0) ∧ n₂ = false ∧ m₂ = 0) := by rintro ⟨⟨rfl, h⟩, rfl, h'⟩; exact hm ⟨h, h', rfl⟩
      rw [if_pos rfl, if_neg hm]
      simp [htrue, hfalse, Val.number, signedNumber]
  · have hq : (t : ℚ) * 2 ^ minInt e₁ e₂ ≠ 0 := mul_ne_zero (by exact_mod_cast ht) hpos.ne'
    have hneg : (t : ℚ) * 2 ^ minInt e₁ e₂ < 0 ↔ t < 0 := by
      rw [mul_neg_iff]; simp [hpos, hpos.not_gt]
    simp [ht, hpos.ne', hneg, Val.number, signedNumber_natAbs]

/-- A sum with one operand a NaN. -/
theorem sumOf_nan (rm : RM) {x y : Number} (h : x.isNaN = true ∨ y.isNaN = true) : sumOf rm [x, y] = (.nan false, signalling [x, y]) := by
  have hinf : ([x, y].contains (.inf true) && [x, y].contains (.inf false)) = false := by
    cases x with
    | nan s => cases y with
      | inf n => cases n <;> simp
      | nan _ => simp
      | num _ _ => simp
    | inf n => cases y with
      | nan s => cases n <;> simp
      | inf _ => simp [Number.isNaN] at h
      | num _ _ => simp [Number.isNaN] at h
    | num n q => cases y with
      | inf n => cases n <;> simp
      | nan _ => simp
      | num _ _ => simp
  have hany : [x, y].any Number.isNaN = true := by simpa using h
  simp only [sumOf, hany, hinf, if_true, Bool.false_eq_true, if_false]
  exact congrArg _ (BitVec.or_zero)

/-- The exact sum of the model is that of the numbers. -/
theorem addV_number (rm : RM) (a b : Val) : ((addV rm a b).1.number, (addV rm a b).2) = sumOf rm [a.number, b.number] := by
  cases a with
  | nan s =>
    rw [sumOf_nan rm (.inl rfl), ← sigFl_eq_signalling]
    rfl
  | inf n => cases b with
    | nan s =>
      rw [sumOf_nan rm (.inr rfl), ← sigFl_eq_signalling]
      rfl
    | inf n' => cases n <;> cases n' <;> simp [addV, sumOf, Val.number, Number.isNaN]
    | fin n' m' e' => cases n <;> simp [addV, sumOf, Val.number, Number.isNaN]
  | fin n m e => cases b with
    | nan s =>
      rw [sumOf_nan rm (.inr rfl), ← sigFl_eq_signalling]
      rfl
    | inf n' => cases n' <;> simp [addV, sumOf, Val.number, Number.isNaN]
    | fin n' m' e' => exact addV_fin_number rm n n' m m' e e'

theorem signedNumber_mul (n n' : Bool) (m m' : Nat) (e e' : Int) :
    signedNumber (n != n') (m * m') (e + e') = signedNumber n m e * signedNumber n' m' e' := by
  have h : (2 : ℚ) ^ (e + e') = 2 ^ e * 2 ^ e' := zpow_add₀ two_ne_zero e e'
  cases n <;> cases n' <;> simp [signedNumber, h] <;> ring

theorem mulV_number (a b : Val) : ((mulV a b).1.number, (mulV a b).2) = product a.number b.number := by
  cases a with
  | nan s =>
    have h : product (Val.nan s).number b.number = (.nan false, signalling [(Val.nan s).number, b.number]) := by cases b <;> rfl
    rw [h, ← sigFl_eq_signalling]
    rfl
  | inf n => cases b with
    | nan s =>
      show _ = ((.nan false, signalling [(Val.inf n).number, (Val.nan s).number]) : Number × Fp)
      rw [← sigFl_eq_signalling]
      rfl
    | inf n' => rfl
    | fin n' m' e' => by_cases h : m' = 0 <;> simp [mulV, product, Val.number, signedNumber_eq_zero, h]
  | fin n m e => cases b with
    | nan s =>
      show _ = ((.nan false, signalling [(Val.fin n m e).number, (Val.nan s).number]) : Number × Fp)
      rw [← sigFl_eq_signalling]
      rfl
    | inf n' => by_cases h : m = 0 <;> simp [mulV, product, Val.number, signedNumber_eq_zero, h]
    | fin n' m' e' => simp only [mulV, product, Val.number, signedNumber_mul]

theorem sigFl_one (a : Val) : sigFl [a] = signalling [a.number] := by
  have h := sigFl_eq_signalling a a
  simpa [sigFl, signalling] using h

theorem fmaV_number (rm : RM) (a b c : Val) : ((fmaV rm a b c).1.number, (fmaV rm a b c).2) = productSum rm a.number b.number c.number := by
  have hp := mulV_number a b
  rw [productSum, ← hp, fmaV]
  dsimp only
  rw [Val.number_isNaN]
  split
  · rw [sigFl_one]
    rfl
  · rw [addV_number]

/-! ## Sticky bits -/

/-- A number strictly between two neighbouring multiples of a half: the whole number below it, and its side of the middle. -/
theorem between_halves {n k : ℤ} (hn : k = 2 * n ∨ k = 2 * n + 1) {z : ℚ} (hz : (k : ℚ) / 2 < z) (hz' : z < (k + 1) / 2) :
    0 < z - n ∧ z - n < 1 ∧ (1 / 2 < z - n ↔ k ≠ 2 * n) ∧ (1 / 2 ≤ z - n ↔ k ≠ 2 * n) ∧ ¬ z - n = 1 / 2 := by
  obtain rfl | rfl := hn
  · push_cast at hz hz'
    have hlt : z - n < 1 / 2 := by linarith
    exact ⟨by linarith, by linarith, iff_of_false hlt.not_gt (by simp), iff_of_false hlt.not_ge (by simp), hlt.ne⟩
  · push_cast at hz hz'
    have hgt : 1 / 2 < z - n := by linarith
    exact ⟨by linarith, by linarith, iff_of_true hgt (by omega), iff_of_true hgt.le (by omega), hgt.ne'⟩

theorem toWhole_between_halves (rm : RM) {k : ℤ} {x y : ℚ} (hx : (k : ℚ) / 2 < x) (hx' : x < (k + 1) / 2)
    (hy : (k : ℚ) / 2 < y) (hy' : y < (k + 1) / 2) :
    toWhole rm x = toWhole rm y := by
  obtain ⟨n, hn⟩ : ∃ n, k = 2 * n ∨ k = 2 * n + 1 := ⟨k / 2, by omega⟩
  obtain ⟨h0, h1, hgt, hge, heq⟩ := between_halves hn hx hx'
  obtain ⟨h0', h1', hgt', hge', heq'⟩ := between_halves hn hy hy'
  have hup : roundsUp rm n (x - n) = roundsUp rm n (y - n) := by cases rm <;> simp only [roundsUp, hgt, hge, heq, hgt', hge', heq']
  rw [← add_sub_cancel (n : ℚ) x, ← add_sub_cancel (n : ℚ) y, toWhole_between rm n h0 h1, toWhole_between rm n h0' h1', hup]

/-- Two numbers lie between the same two neighbouring multiples of 2^g. -/
def Beside (g : Int) (x y : ℚ) : Prop := ∃ k : ℤ, (k : ℚ) * 2 ^ g < x ∧ x < (k + 1) * 2 ^ g ∧ (k : ℚ) * 2 ^ g < y ∧ y < (k + 1) * 2 ^ g

theorem Beside.neg {g : Int} {x y : ℚ} (h : Beside g x y) : Beside g (-x) (-y) := by
  obtain ⟨k, hx, hx', hy, hy'⟩ := h
  exact ⟨-k - 1, by push_cast; linarith, by push_cast; linarith, by push_cast; linarith, by push_cast; linarith⟩

theorem Beside.symm {g : Int} {x y : ℚ} (h : Beside g x y) : Beside g y x := by
  obtain ⟨k, hx, hx', hy, hy'⟩ := h
  exact ⟨k, hy, hy', hx, hx'⟩

/-- Numbers beside each other on a grid are so on a coarser one. -/
theorem Beside.mono {g g' : Int} (hg : g ≤ g') {x y : ℚ} (h : Beside g x y) : Beside g' x y := by
  obtain ⟨k, hx, hx', hy, hy'⟩ := h
  obtain ⟨d, hd⟩ := Int.eq_ofNat_of_zero_le (show 0 ≤ g' - g by omega)
  have hpow : (2 : ℚ) ^ g' = 2 ^ d * 2 ^ g := by rw [← zpow_natCast, ← zpow_add₀ two_ne_zero]; congr 1; omega
  have hpos : (0 : ℚ) < 2 ^ g := zpow_pos two_pos g
  have hlow : (k / 2 ^ d : ℤ) * 2 ^ d ≤ k := Int.ediv_mul_le _ (by positivity)
  have hhigh : k + 1 ≤ (k / 2 ^ d + 1) * 2 ^ d := Int.lt_ediv_add_one_mul_self k (by positivity)
  have hlow' : ((k / 2 ^ d : ℤ) : ℚ) * 2 ^ g' ≤ k * 2 ^ g := by
    rw [hpow, ← mul_assoc]; exact mul_le_mul_of_nonneg_right (by exact_mod_cast hlow) hpos.le
  have hhigh' : (k + 1) * 2 ^ g ≤ (((k / 2 ^ d : ℤ) : ℚ) + 1) * 2 ^ g' := by
    rw [hpow, ← mul_assoc]; exact mul_le_mul_of_nonneg_right (by exact_mod_cast hhigh) hpos.le
  exact ⟨k / 2 ^ d, by linarith, by linarith, by linarith, by linarith⟩

/-- Numbers beside each other on a grid of half the step round to the same multiple, and neither is one. -/
theorem Beside.toGrid_eq {g : Int} {x y : ℚ} (h : Beside (g - 1) x y) (rm : RM) : toGrid rm x g = toGrid rm y g := by
  obtain ⟨k, hx, hx', hy, hy'⟩ := h
  have hpos : (0 : ℚ) < 2 ^ g := zpow_pos two_pos g
  have hpow : (2 : ℚ) ^ (g - 1) = 2 ^ g / 2 := by rw [zpow_sub_one₀ two_ne_zero, div_eq_mul_inv]
  rw [hpow] at hx hx' hy hy'
  rw [toGrid, toGrid, toWhole_between_halves rm (k := k) (x := x / 2 ^ g) (y := y / 2 ^ g)
      (by rw [lt_div_iff₀ hpos]; linarith) (by rw [div_lt_iff₀ hpos]; linarith)
    (by rw [lt_div_iff₀ hpos]; linarith) (by rw [div_lt_iff₀ hpos]; linarith)]

theorem Beside.ne_mul {g : Int} {x y : ℚ} (h : Beside g x y) (n : ℤ) : x ≠ n * 2 ^ g := by
  rintro rfl
  obtain ⟨k, hx, hx', -, -⟩ := h
  have hpos : (0 : ℚ) < 2 ^ g := zpow_pos two_pos g
  rw [mul_lt_mul_iff_left₀ hpos] at hx hx'
  have h₁ : k < n := by exact_mod_cast hx
  have h₂ : n < k + 1 := by exact_mod_cast hx'
  omega

theorem Beside.toGrid_ne {g g' : Int} {x y : ℚ} (h : Beside g x y) (hg : g ≤ g') (rm : RM) (z : ℚ) : toGrid rm z g' ≠ x :=
  ((h.mono hg).ne_mul (toWhole rm (z / 2 ^ g'))).symm

theorem Beside.pos_iff {g : Int} {x y : ℚ} (h : Beside g x y) : 0 < x ↔ 0 < y := by
  obtain ⟨k, hx, hx', hy, hy'⟩ := h
  have hpos : (0 : ℚ) < 2 ^ g := zpow_pos two_pos g
  by_cases hk : 0 ≤ k
  · have : (0 : ℚ) ≤ k * 2 ^ g := mul_nonneg (by exact_mod_cast hk) hpos.le
    exact iff_of_true (by linarith) (by linarith)
  · have : ((k : ℚ) + 1) * 2 ^ g ≤ 0 := mul_nonpos_of_nonpos_of_nonneg (by exact_mod_cast (by omega : k + 1 ≤ 0)) hpos.le
    exact iff_of_false (by linarith) (by linarith)

/-- Positive numbers beside each other below their highest bit have the same highest bit. -/
theorem Beside.log_eq {g : Int} {x y : ℚ} (h : Beside g x y) (hx : 0 < x) (hg : g ≤ Int.log 2 x) : Int.log 2 y = Int.log 2 x := by
  have hy : 0 < y := h.pos_iff.1 hx
  obtain ⟨k, h₁, h₁', h₂, h₂'⟩ := h.mono hg
  have hpos : (0 : ℚ) < 2 ^ Int.log 2 x := zpow_pos two_pos _
  have hlow := Int.zpow_log_le_self (b := 2) one_lt_two hx
  have hhigh := Int.lt_zpow_succ_log_self (b := 2) one_lt_two x
  rw [Nat.cast_ofNat] at hlow hhigh
  rw [zpow_add₀ two_ne_zero, zpow_one, mul_comm] at hhigh
  have hk₀ : 1 < k + 1 := by
    have : (1 : ℚ) * 2 ^ Int.log 2 x < (k + 1) * 2 ^ Int.log 2 x := by linarith
    rw [mul_lt_mul_iff_left₀ hpos] at this
    exact_mod_cast this
  have hk₁ : k < 2 := by
    have : (k : ℚ) * 2 ^ Int.log 2 x < 2 * 2 ^ Int.log 2 x := by linarith
    rw [mul_lt_mul_iff_left₀ hpos] at this
    exact_mod_cast this
  obtain rfl : k = 1 := by omega
  push_cast at h₂ h₂'
  apply le_antisymm
  · rw [← Int.lt_add_one_iff, ← Int.lt_zpow_iff_log_lt one_lt_two hy, Nat.cast_ofNat, zpow_add₀ two_ne_zero, zpow_one]
    linarith
  · rw [← Int.zpow_le_iff_le_log one_lt_two hy, Nat.cast_ofNat]
    linarith

/-- Two numbers of a sign that lie beside each other far below their highest bit deliver the same. -/
theorem Beside.delivered {f : Fmt} {g : Int} {x y : ℚ} (hxy : Beside g x y) (h0 : x ≠ 0) (hg : g + 1 ≤ Int.log 2 |x| - f.fb)
    {rm : RM} {sat neg : Bool} {r : Nat × Fp} (hr : Delivered f rm sat (.num neg x) r) : Delivered f rm sat (.num neg y) r := by
  have hy0 : y ≠ 0 := by simpa using hxy.symm.ne_mul 0
  have hlog : Int.log 2 |y| = Int.log 2 |x| := by
    obtain hx | hx := h0.lt_or_gt
    · have hneg := hxy.neg
      have hy : y < 0 := by have := hneg.pos_iff.1 (by linarith); linarith
      rw [abs_of_neg hx, abs_of_neg hy]
      exact hneg.log_eq (by linarith) (by rw [abs_of_neg hx] at hg; omega)
    · rw [abs_of_pos hx, abs_of_pos (hxy.pos_iff.1 hx)]
      exact hxy.log_eq hx (by rw [abs_of_pos hx] at hg; omega)
  have hun : unbounded f rm y = unbounded f rm x := by
    rw [unbounded, unbounded, hlog]
    exact (hxy.symm.mono (by omega)).toGrid_eq rm
  have hround : rounded f rm y = rounded f rm x := by
    rw [rounded, rounded, hlog]
    exact (hxy.symm.mono (by omega)).toGrid_eq rm
  have hne : rounded f rm x ≠ x := hxy.toGrid_ne (by omega) rm x
  have hne' : rounded f rm x ≠ y := hxy.symm.toGrid_ne (by omega) rm x
  simpa only [Delivered, if_neg h0, if_neg hy0, hun, hround, if_neg hne, if_neg hne'] using hr

theorem signedNumber_beside {neg : Bool} {m : Nat} {e : Int} {g : Int} {x : ℚ} (h : Beside g ((m : ℚ) * 2 ^ e) x) :
    Beside g (signedNumber neg m e) (if neg then -x else x) := by
  cases neg
  · exact h
  · exact h.neg

/-! ## Quotients -/

/-- A quotient cut off with a sticky last bit: equal to the exact one, or beside it. -/
theorem sticky_quotient {a b : Nat} (hb : b ≠ 0) (e : Int) :
    (((2 * (a / b) + if a % b = 0 then 0 else 1 : Nat) : ℚ) * 2 ^ (e - 1) = (a : ℚ) / b * 2 ^ e) ∨
    Beside e (((2 * (a / b) + if a % b = 0 then 0 else 1 : Nat) : ℚ) * 2 ^ (e - 1)) ((a : ℚ) / b * 2 ^ e) := by
  have hb' : (0 : ℚ) < b := by exact_mod_cast Nat.pos_of_ne_zero hb
  have hpos : (0 : ℚ) < 2 ^ e := zpow_pos two_pos e
  have hpow : (2 : ℚ) ^ (e - 1) = 2 ^ e / 2 := by rw [zpow_sub_one₀ two_ne_zero, div_eq_mul_inv]
  have hdiv : (a : ℚ) = (a / b : Nat) * b + (a % b : Nat) := by exact_mod_cast (Nat.div_add_mod' a b).symm
  have hlt : a % b < b := Nat.mod_lt a (Nat.pos_of_ne_zero hb)
  generalize a / b = q at hdiv ⊢
  generalize a % b = r at hdiv hlt ⊢
  split
  case isTrue h =>
    left
    rw [hpow, div_mul_eq_mul_div, eq_div_iff hb'.ne', hdiv, h]
    push_cast
    ring
  case isFalse h =>
    right
    have h0 : (0 : ℚ) < r := by exact_mod_cast Nat.pos_of_ne_zero h
    have h1 : (r : ℚ) < b := by exact_mod_cast hlt
    refine ⟨q, ?_, ?_, ?_, ?_⟩ <;> push_cast
    · rw [hpow]; linarith
    · rw [hpow]; linarith
    · rw [mul_lt_mul_iff_left₀ hpos, lt_div_iff₀ hb']; linarith
    · rw [mul_lt_mul_iff_left₀ hpos, div_lt_iff₀ hb']; linarith

theorem signedNumber_zero (n : Bool) (e : Int) : signedNumber n 0 e = 0 := signedNumber_eq_zero.2 rfl

theorem signedNumber_div (n n' : Bool) (m m' : Nat) (e e' : Int) :
    signedNumber n m e / signedNumber n' m' e' = if n != n' then -((m : ℚ) / m' * 2 ^ (e - e')) else (m : ℚ) / m' * 2 ^ (e - e') := by
  have h : (2 : ℚ) ^ (e - e') = 2 ^ e / 2 ^ e' := zpow_sub₀ two_ne_zero e e'
  cases n <;> cases n' <;> simp [signedNumber, h, neg_div, div_neg, div_mul_div_comm]

theorem divV_fin_delivered {f : Fmt} (h : f.Regular) (hfb : f.fb ≤ 60) (rm : RM) (sat : Bool) (n₁ n₂ : Bool)
    {m₁ m₂ : Nat} (h₁ : m₁ ≠ 0) (h₂ : m₂ ≠ 0)
    (e₁ e₂ : Int) : Delivered f rm sat (.num (n₁ != n₂) (signedNumber n₁ m₁ e₁ / signedNumber n₂ m₂ e₂))
      (deliver f rm sat (divV (.fin n₁ m₁ e₁) (.fin n₂ m₂ e₂)).1) := by
  set k := 70 + Nat.log2 m₂ with hk
  set a := m₁ * 2 ^ k with ha
  have hval : (divV (.fin n₁ m₁ e₁) (.fin n₂ m₂ e₂)).1 = .fin (n₁ != n₂) (2 * (a / m₂) + if a % m₂ = 0 then 0 else 1) (e₁ - e₂ - k - 1) := by
    simp only [divV, if_neg h₁, if_neg h₂, ← hk, ← ha]
  have hexact : (m₁ : ℚ) / m₂ * 2 ^ (e₁ - e₂) = (a : ℚ) / m₂ * 2 ^ (e₁ - e₂ - k) := by
    rw [ha, zpow_sub₀ two_ne_zero _ (k : ℤ), zpow_natCast]
    push_cast
    field_simp
  have hbits : 2 ^ 69 ≤ a / m₂ := by
    rw [Nat.le_div_iff_mul_le (Nat.pos_of_ne_zero h₂)]
    calc 2 ^ 69 * m₂ ≤ 2 ^ 69 * 2 ^ (m₂.log2 + 1) := Nat.mul_le_mul_left _ Nat.lt_log2_self.le
      _ = 1 * 2 ^ k := by rw [one_mul, ← pow_add]; congr 1; omega
      _ ≤ a := Nat.mul_le_mul_right _ (Nat.pos_of_ne_zero h₁)
  have hd := deliver_delivered h rm sat (divV (.fin n₁ m₁ e₁) (.fin n₂ m₂ e₂)).1
  rw [hval, Val.number] at hd
  rw [hval, signedNumber_div, hexact]
  obtain heq | hbes := sticky_quotient (a := a) h₂ (e₁ - e₂ - k)
  · rw [← heq]
    exact hd
  · have hm : (2 * (a / m₂) + if a % m₂ = 0 then 0 else 1) ≠ 0 := by omega
    refine (signedNumber_beside hbes).delivered ?_ ?_ hd
    · rwa [ne_eq, signedNumber_eq_zero]
    · rw [abs_signedNumber, topExp_eq_log hm]
      have : 70 ≤ (2 * (a / m₂) + if a % m₂ = 0 then 0 else 1).log2 := (Nat.le_log2 hm).2 (by omega)
      unfold topExp
      omega

theorem divV_delivers {f : Fmt} (h : f.Regular) (hfb : f.fb ≤ 60) (rm : RM) (sat : Bool) (a b : Val) :
    Delivers f rm sat (quotient a.number b.number) (finishF f rm sat (divV a b)) := by
  have hother (hnum : ((divV a b).1.number, (divV a b).2) = quotient a.number b.number) :
      Delivers f rm sat (quotient a.number b.number) (finishF f rm sat (divV a b)) :=
    hnum ▸ finishF_delivers h rm sat (divV a b)
  cases a with
  | nan s =>
    apply hother
    have hq : quotient (Val.nan s).number b.number = (.nan false, signalling [(Val.nan s).number, b.number]) := by cases b <;> rfl
    rw [hq, ← sigFl_eq_signalling]
    rfl
  | inf n => cases b with
    | nan s =>
      apply hother
      show _ = ((.nan false, signalling [(Val.inf n).number, (Val.nan s).number]) : Number × Fp)
      rw [← sigFl_eq_signalling]
      rfl
    | inf n' => exact hother rfl
    | fin n' m' e' => exact hother rfl
  | fin n m e => cases b with
    | nan s =>
      apply hother
      show _ = ((.nan false, signalling [(Val.fin n m e).number, (Val.nan s).number]) : Number × Fp)
      rw [← sigFl_eq_signalling]
      rfl
    | inf n' => exact hother (by simp [divV, quotient, Val.number, signedNumber])
    | fin n' m' e' =>
      by_cases h' : m' = 0
      · exact hother (by by_cases h₀ : m = 0 <;> simp [divV, quotient, Val.number, signedNumber_eq_zero, h', h₀])
      by_cases h₀ : m = 0
      · exact hother (by simp [divV, quotient, Val.number, h', h₀, signedNumber_eq_zero, signedNumber_zero])
      · refine ⟨deliver f rm sat (divV (.fin n m e) (.fin n' m' e')).1, ?_, ?_⟩
        · simpa [quotient, Val.number, signedNumber_eq_zero, h'] using divV_fin_delivered h hfb rm sat n n' h₀ h' e e'
        · simp [finishF, quotient, Val.number, signedNumber_eq_zero, divV, h', h₀]

/-! ## Square roots -/

theorem isqrtLoop_eq_sqrt (n v x : Nat) (hx : v.sqrt ≤ x) (hn : x - v.sqrt < 2 ^ n) (hv : 0 < v) : isqrtLoop n v x = v.sqrt := by
  induction n generalizing x with
  | zero => simp only [isqrtLoop]; omega
  | succ n ih =>
    have hs : 0 < v.sqrt := Nat.sqrt_pos.2 hv
    have hlow : v.sqrt * v.sqrt ≤ v := Nat.sqrt_le v
    have hhigh : v < (v.sqrt + 1) * (v.sqrt + 1) := Nat.lt_succ_sqrt v
    have hge : v.sqrt ≤ (x + v / x) / 2 := by
      obtain ⟨d, rfl⟩ := Nat.exists_eq_add_of_le hx
      by_cases hd : v.sqrt ≤ d
      · exact (Nat.le_div_iff_mul_le two_pos).2 (by have := Nat.zero_le (v / (v.sqrt + d)); omega)
      · have hq : v.sqrt - d ≤ v / (v.sqrt + d) := by
          rw [Nat.le_div_iff_mul_le (by omega), mul_comm, ← Nat.sq_sub_sq]
          exact (Nat.sub_le _ _).trans (by rwa [sq])
        omega
    have hlt (h : v.sqrt < x) : v / x ≤ v.sqrt := by
      rw [← Nat.lt_succ_iff, Nat.div_lt_iff_lt_mul (by omega)]
      exact hhigh.trans_le (Nat.mul_le_mul_left _ h)
    unfold isqrtLoop
    dsimp only
    obtain rfl | hlt' := hx.eq_or_lt
    · rw [if_neg (by omega)]
    · have := hlt hlt'
      rw [if_pos (by omega)]
      exact ih _ hge (by rw [pow_succ] at hn; omega)

theorem isqrt_eq_sqrt (v : Nat) : isqrt v = v.sqrt := by
  unfold isqrt
  split
  case isTrue h => simp [h]
  case isFalse h =>
    have htop : v.sqrt < 2 ^ (v.log2 / 2 + 1) := by
      rw [Nat.sqrt_lt, ← pow_add]
      exact Nat.lt_log2_self.trans_le (Nat.pow_le_pow_right two_pos (by omega))
    refine isqrtLoop_eq_sqrt _ v _ htop.le ?_ (Nat.pos_of_ne_zero h)
    calc 2 ^ (v.log2 / 2 + 1) - v.sqrt ≤ 2 ^ (v.log2 / 2 + 1) := Nat.sub_le _ _
      _ < 2 ^ (v.log2 + 4) := Nat.pow_lt_pow_right one_lt_two (by omega)

/-- A square root cut off with a sticky last bit: the root of a number of whole steps. -/
theorem sqrtV_fin {m : Nat} (hm : m ≠ 0) (e : Int) : ∃ (k : Nat) (g : Int), 140 ≤ k ∧ 2 * g = e - k ∧
    sqrtV (.fin false m e) = (.fin false (2 * (m * 2 ^ k).sqrt + if (m * 2 ^ k).sqrt * (m * 2 ^ k).sqrt = m * 2 ^ k then 0 else 1) (g - 1), 0) := by
  refine ⟨if e % 2 = 0 then 140 else 141, (e - (if e % 2 = 0 then 140 else 141 : Nat)) / 2, by split <;> omega, by split <;> omega, ?_⟩
  simp only [sqrtV, if_neg hm, Bool.false_eq_true, if_false, isqrt_eq_sqrt]

/-- The highest bit of a root. -/
theorem log_sqrt {v : Nat} (hv : v ≠ 0) (g : Int) : Int.log 2 ((v : ℚ) * 2 ^ (2 * g)) / 2 = g + v.sqrt.log2 := by
  have hs : v.sqrt ≠ 0 := (Nat.sqrt_pos.2 (Nat.pos_of_ne_zero hv)).ne'
  have hlow : 2 * v.sqrt.log2 ≤ v.log2 := by
    rw [Nat.le_log2 hv, two_mul, pow_add]
    exact (Nat.mul_le_mul (Nat.log2_self_le hs) (Nat.log2_self_le hs)).trans (Nat.sqrt_le v)
  have hhigh : v.log2 < 2 * (v.sqrt.log2 + 1) := by
    rw [Nat.log2_lt hv, two_mul, pow_add]
    have : v.sqrt + 1 ≤ 2 ^ (v.sqrt.log2 + 1) := Nat.lt_log2_self
    exact (Nat.lt_succ_sqrt v).trans_le (Nat.mul_le_mul this this)
  rw [topExp_eq_log hv]
  unfold topExp
  omega

/-- The middle between two significands of fb + 1 bits has a square with more bits than a number of the format has. -/
theorem middle_not_root {fb n k N d : Nat} (hn : n ≠ 0) (hlt : n < 2 ^ (fb + 1)) (hN : 2 ^ fb ≤ N) :
    n * 2 ^ k ≠ ((2 * N + 1) * 2 ^ d) * ((2 * N + 1) * 2 ^ d) := by
  intro h
  have hodd : Nat.Coprime (2 * N + 1) (2 ^ k) := Nat.Coprime.pow_right k (by simp)
  have hdvd : 2 * N + 1 ∣ n := hodd.dvd_of_dvd_mul_right (h ▸ ⟨2 ^ d * ((2 * N + 1) * 2 ^ d), by ring⟩)
  have := Nat.le_of_dvd (Nat.pos_of_ne_zero hn) hdvd
  rw [pow_succ] at hlt
  omega

/-- A normal number that is rounded within the range. -/
theorem delivered_normal {f : Fmt} {rm : RM} {sat neg : Bool} {y W : ℚ} {l : Int} {r : Nat × Fp} (h0 : y ≠ 0) (hl : Int.log 2 |y| = l)
    (hlow : 1 - (f.bias : Int) ≤ l) (hW : toGrid rm y (l - f.fb) = W) (hmax : |W| ≤ largest f) (hmin : (2 : ℚ) ^ (1 - (f.bias : ℤ)) ≤ |W|)
    (hr : Delivered f rm sat (.num neg y) r) : IsResult f (.num neg W) (if W = y then 0 else fpInexact) r := by
  have hun : unbounded f rm y = W := by rw [unbounded, hl, hW]
  have hround : rounded f rm y = W := by rw [rounded, hl, max_eq_left hlow, hW]
  simpa only [Delivered, if_neg h0, hun, hround, if_neg hmax.not_gt, if_neg hmin.not_gt] using hr

/-- A positive number between two neighbouring multiples of a step, and not in their middle, rounds to one of them. -/
theorem toGrid_between (rm : RM) (N : Nat) {g : Int} {y : ℚ} (hlow : N * 2 ^ g < y) (hhigh : y < N * 2 ^ g + 2 ^ g) (htie : y ≠ N * 2 ^ g + 2 ^ g / 2) :
    toGrid rm y g = match rm with
      | .rtz => (N : ℚ) * 2 ^ g
      | .rdn => N * 2 ^ g
      | .rup => N * 2 ^ g + 2 ^ g
      | _ => if y < N * 2 ^ g + 2 ^ g / 2 then N * 2 ^ g else N * 2 ^ g + 2 ^ g := by
  have hpos : (0 : ℚ) < 2 ^ g := zpow_pos two_pos g
  have h0 : 0 < y / 2 ^ g - N := by rw [sub_pos, lt_div_iff₀ hpos]; exact hlow
  have h1 : y / 2 ^ g - N < 1 := by rw [sub_lt_iff_lt_add', div_lt_iff₀ hpos]; linarith
  have hgt : 1 / 2 < y / 2 ^ g - N ↔ ¬ y < N * 2 ^ g + 2 ^ g / 2 := by
    rw [lt_sub_iff_add_lt', lt_div_iff₀ hpos, not_lt, le_iff_lt_or_eq, or_iff_left htie.symm, add_mul, div_mul_eq_mul_div, one_mul]
  have heq : ¬ y / 2 ^ g - N = 1 / 2 := by
    rw [sub_eq_iff_eq_add', div_eq_iff hpos.ne', add_mul, div_mul_eq_mul_div, one_mul]; exact htie
  have hge : 1 / 2 ≤ y / 2 ^ g - N ↔ ¬ y < N * 2 ^ g + 2 ^ g / 2 := by rw [← hgt, le_iff_lt_or_eq, or_iff_left (Ne.symm heq)]
  have hround : toWhole rm (y / 2 ^ g) = if roundsUp rm (N : ℤ) (y / 2 ^ g - N) then (N : ℤ) + 1 else N := by
    rw [← toWhole_between rm _ h0 h1]; simp
  rw [toGrid, hround]
  cases rm with
  | rne => by_cases hy : y < N * 2 ^ g + 2 ^ g / 2 <;> simp only [roundsUp, hgt, heq, hy] <;> simp [add_mul]
  | rna => by_cases hy : y < N * 2 ^ g + 2 ^ g / 2 <;> simp only [roundsUp, hge, hy] <;> simp [add_mul]
  | rtz => simp [roundsUp]
  | rdn => simp [roundsUp]
  | rup => simp [roundsUp, add_mul]

/-- A root of `v` cut off with a sticky last bit, next to the multiples of 2^(d+1). -/
theorem sticky_root {v N d M : Nat} (hN : N = v.sqrt / 2 ^ (d + 1)) (hM : M = 2 * v.sqrt + if v.sqrt * v.sqrt = v then 0 else 1) :
    N * 2 ^ (d + 1) * (N * 2 ^ (d + 1)) ≤ v ∧ v < (N + 1) * 2 ^ (d + 1) * ((N + 1) * 2 ^ (d + 1)) ∧
    (N * 2 ^ (d + 1) * (N * 2 ^ (d + 1)) = v → M = 2 * (N * 2 ^ (d + 1))) ∧
    (N * 2 ^ (d + 1) * (N * 2 ^ (d + 1)) ≠ v → 2 * (N * 2 ^ (d + 1)) < M ∧ M < 2 * ((N + 1) * 2 ^ (d + 1))) ∧
    (v < (2 * N + 1) * 2 ^ d * ((2 * N + 1) * 2 ^ d) ↔ M < 2 * ((2 * N + 1) * 2 ^ d)) ∧
    (M = 2 * ((2 * N + 1) * 2 ^ d) → v = (2 * N + 1) * 2 ^ d * ((2 * N + 1) * 2 ^ d)) := by
  have hlow : N * 2 ^ (d + 1) ≤ v.sqrt := hN ▸ Nat.div_mul_le_self _ _
  have hhigh : v.sqrt < (N + 1) * 2 ^ (d + 1) := by
    rw [hN, Nat.add_mul, one_mul]
    exact Nat.lt_div_mul_add (by positivity)
  generalize N * 2 ^ (d + 1) = A at hlow ⊢
  generalize (N + 1) * 2 ^ (d + 1) = B at hhigh ⊢
  generalize (2 * N + 1) * 2 ^ d = H
  have hA : A * A = v → A = v.sqrt := fun h => by rw [← h, Nat.sqrt_eq]
  have hself : v.sqrt * v.sqrt ≤ v := Nat.sqrt_le v
  refine ⟨Nat.le_sqrt.1 hlow, Nat.sqrt_lt.1 hhigh, ?_, ?_, ?_, ?_⟩
  · intro h
    rw [hM, ← hA h, if_pos h]
    rfl
  · intro h
    have hsq : A = v.sqrt → ¬ v.sqrt * v.sqrt = v := fun he => he ▸ h
    split at hM <;> omega
  · rw [← Nat.sqrt_lt]
    split at hM <;> omega
  · intro h
    split at hM
    case isTrue hs => rw [← hs, show v.sqrt = H by omega]
    case isFalse => omega

/-- The model's root of a positive number, a number y next to the multiple N·s of the step s of the root: it is the root where that is a multiple, lies
strictly between N·s and the next multiple where it is not, and stands to the middle as the root does. -/
structure RootCut (fb : Nat) (q y : ℚ) (N : Nat) (s : ℚ) : Prop where
  step : s = 2 ^ (Int.log 2 q / 2 - (fb : ℤ))
  full : 2 ^ fb ≤ N
  lt : N < 2 ^ (fb + 1)
  log : Int.log 2 |y| = Int.log 2 q / 2
  below : N * s * (N * s) ≤ q
  above : q < (N * s + s) * (N * s + s)
  exact : N * s * (N * s) = q → y = N * s
  between : N * s * (N * s) ≠ q → N * s < y ∧ y < N * s + s ∧ y ≠ N * s + s / 2
  middle : q < (N * s + s / 2) * (N * s + s / 2) ↔ y < N * s + s / 2

theorem sqrtV_cut {fb : Nat} (hfb : fb ≤ 60) {n : Nat} {g : Int} (hn : n ≠ 0) (hlt₀ : n < 2 ^ (fb + 1)) :
    ∃ y N s, (sqrtV (.fin false n g)).1.number = .num false y ∧ RootCut fb ((n : ℚ) * 2 ^ g) y N s := by
  obtain ⟨k, b, hk, hb, hval⟩ := sqrtV_fin hn g
  set v := n * 2 ^ k with hv
  have hv0 : v ≠ 0 := Nat.mul_ne_zero hn (by positivity)
  have hR : v.sqrt ≠ 0 := (Nat.sqrt_pos.2 (Nat.pos_of_ne_zero hv0)).ne'
  have hq : (n : ℚ) * 2 ^ g = (v : ℚ) * 2 ^ (2 * b) := by
    rw [hv, hb, zpow_sub₀ two_ne_zero, zpow_natCast]; push_cast; field_simp
  have hlog : Int.log 2 ((n : ℚ) * 2 ^ g) / 2 = b + v.sqrt.log2 := by rw [hq, log_sqrt hv0 b]
  have hbits : 70 ≤ v.sqrt.log2 := by
    rw [Nat.le_log2 hR, Nat.le_sqrt, ← pow_add]
    exact (Nat.pow_le_pow_right two_pos hk).trans (Nat.le_mul_of_pos_left _ (Nat.pos_of_ne_zero hn))
  obtain ⟨d, hd⟩ : ∃ d, v.sqrt.log2 = fb + (d + 1) := ⟨v.sqrt.log2 - fb - 1, by omega⟩
  set N := v.sqrt / 2 ^ (d + 1) with hN
  have hNlow : 2 ^ fb ≤ N := by
    rw [hN, Nat.le_div_iff_mul_le (by positivity), ← pow_add, ← hd]
    exact Nat.log2_self_le hR
  have hNhigh : N < 2 ^ (fb + 1) := by
    rw [hN, Nat.div_lt_iff_lt_mul (by positivity), ← pow_add]
    exact Nat.lt_log2_self.trans_le (Nat.pow_le_pow_right two_pos (by omega))
  set M := 2 * v.sqrt + if v.sqrt * v.sqrt = v then 0 else 1 with hM
  obtain ⟨hlo, hhi, hexact, hopen, hmid, htie⟩ := sticky_root hN hM
  -- squares of multiples of 2^b against the number
  have hsq (x : Nat) : (x : ℚ) * 2 ^ b * (x * 2 ^ b) = ((x * x : Nat) : ℚ) * 2 ^ (2 * b) := by
    rw [two_mul, zpow_add₀ two_ne_zero]; push_cast; ring
  have hle (x : Nat) : (x : ℚ) * 2 ^ b * (x * 2 ^ b) ≤ n * 2 ^ g ↔ x * x ≤ v := by
    rw [hq, hsq, mul_le_mul_iff_left₀ (zpow_pos two_pos _)]; exact_mod_cast Iff.rfl
  have hlt (x : Nat) : (n : ℚ) * 2 ^ g < (x : ℚ) * 2 ^ b * (x * 2 ^ b) ↔ v < x * x := by rw [← not_le, hle, not_le]
  have heq (x : Nat) : (x : ℚ) * 2 ^ b * (x * 2 ^ b) = n * 2 ^ g ↔ x * x = v := by
    rw [hq, hsq, mul_left_inj' (zpow_pos two_pos _).ne']; exact_mod_cast Iff.rfl
  -- the multiples and the middle in units of 2^b, the root in units of 2^(b-1)
  have hlo' : (N : ℚ) * (2 ^ (d + 1) * 2 ^ b) = (N * 2 ^ (d + 1) : Nat) * 2 ^ b := by push_cast; ring
  have hhi' : (N : ℚ) * (2 ^ (d + 1) * 2 ^ b) + 2 ^ (d + 1) * 2 ^ b = ((N + 1) * 2 ^ (d + 1) : Nat) * 2 ^ b := by push_cast; ring
  have hmid' : (N : ℚ) * (2 ^ (d + 1) * 2 ^ b) + 2 ^ (d + 1) * 2 ^ b / 2 = ((2 * N + 1) * 2 ^ d : Nat) * 2 ^ b := by push_cast; ring
  have hunit (x : Nat) : (x : ℚ) * 2 ^ b = ((2 * x : Nat) : ℚ) * 2 ^ (b - 1) := by
    rw [zpow_sub_one₀ two_ne_zero]; push_cast; ring
  have hupos : (0 : ℚ) < 2 ^ (b - 1) := zpow_pos two_pos _
  refine ⟨(M : ℚ) * 2 ^ (b - 1), N, 2 ^ (d + 1) * 2 ^ b, by rw [hval]; rfl, ?_, hNlow, hNhigh, ?_, ?_, ?_, ?_, ?_, ?_⟩
  · rw [hlog, hd, ← zpow_natCast, ← zpow_add₀ two_ne_zero]; congr 1; push_cast; ring
  · have hM0 : M ≠ 0 := by omega
    have hbit : M.log2 = v.sqrt.log2 + 1 := by
      have h₁ := Nat.log2_self_le hR
      have h₂ : v.sqrt < 2 ^ (v.sqrt.log2 + 1) := Nat.lt_log2_self
      apply Nat.le_antisymm
      · rw [← Nat.lt_succ_iff, Nat.log2_lt hM0, Nat.succ_eq_add_one, pow_succ]
        split at hM <;> omega
      · rw [Nat.le_log2 hM0, pow_succ]
        omega
    rw [abs_of_nonneg (by positivity), topExp_eq_log hM0, topExp, hlog]
    omega
  · rwa [hlo', hle]
  · rwa [hhi', hlt]
  · rw [hlo', heq, hunit, mul_left_inj' hupos.ne', Nat.cast_inj]
    exact hexact
  · intro hne
    rw [hlo', ne_eq, heq] at hne
    obtain ⟨hM₁, hM₂⟩ := hopen hne
    rw [hmid', hhi', hlo', hunit, hunit, hunit, mul_lt_mul_iff_left₀ hupos, mul_lt_mul_iff_left₀ hupos, ne_eq, mul_left_inj' hupos.ne']
    exact ⟨by exact_mod_cast hM₁, by exact_mod_cast hM₂, fun he => middle_not_root hn hlt₀ hNlow (htie (by exact_mod_cast he))⟩
  · rw [hmid', hlt, hmid, hunit, mul_lt_mul_iff_left₀ hupos]
    exact_mod_cast Iff.rfl

/-- The correctly rounded root of a number of a format whose range holds it. -/
theorem RootCut.rootOf {f : Fmt} {q y : ℚ} {N : Nat} {s : ℚ} (h : RootCut f.fb q y N s) {rm : RM} {sat : Bool} {r : Nat × Fp}
    (hlow : 1 - (f.bias : ℤ) ≤ Int.log 2 q / 2) (hhigh : (2 : ℚ) ^ (Int.log 2 q / 2 + 1) ≤ largest f) (hr : Delivered f rm sat (.num false y) r) :
    RootOf f rm q r := by
  have hpos : 0 < s := h.step ▸ zpow_pos two_pos _
  have hscale (k : Nat) : (2 : ℚ) ^ (Int.log 2 q / 2 + k) = (2 ^ (f.fb + k) : Nat) * s := by
    rw [h.step, Nat.cast_pow, Nat.cast_ofNat, ← zpow_natCast, ← zpow_add₀ two_ne_zero]; congr 1; push_cast; ring
  have hfull : (2 : ℚ) ^ (Int.log 2 q / 2) ≤ N * s := by
    have := hscale 0
    rw [Nat.cast_zero, add_zero, add_zero] at this
    rw [this]
    exact mul_le_mul_of_nonneg_right (by exact_mod_cast h.full) hpos.le
  have htop : N * s + s ≤ 2 ^ (Int.log 2 q / 2 + 1) := by
    have := hscale 1
    rw [Nat.cast_one] at this
    rw [this, ← add_one_mul]
    exact mul_le_mul_of_nonneg_right (by exact_mod_cast h.lt) hpos.le
  have hNpos : 0 < N * s := (zpow_pos two_pos _).trans_le hfull
  have hpick {W : ℚ} (hy0 : y ≠ 0) (hW : toGrid rm y (Int.log 2 q / 2 - f.fb) = W) (hWlow : N * s ≤ W) (hWhigh : W ≤ N * s + s) :
      IsResult f (.num false W) (if W = y then 0 else fpInexact) r := by
    refine delivered_normal hy0 h.log hlow hW ?_ ?_ hr
    · rw [abs_of_pos (hNpos.trans_le hWlow)]
      exact (hWhigh.trans htop).trans hhigh
    · rw [abs_of_pos (hNpos.trans_le hWlow)]
      exact le_trans (zpow_le_zpow_right₀ one_le_two hlow) (hfull.trans hWlow)
  refine ⟨N, ?_⟩
  rw [← h.step]
  refine ⟨h.below, h.above, ?_⟩
  by_cases hex : N * s * (N * s) = q
  · have hy := h.exact hex
    have hgrid : toGrid rm y (Int.log 2 q / 2 - f.fb) = N * s := by
      rw [hy, toGrid, ← h.step, mul_div_cancel_right₀ _ hpos.ne']
      exact congrArg (fun z : ℤ => (z : ℚ) * s) (toWhole_intCast rm N)
    have hres := hpick (hy ▸ hNpos.ne') hgrid le_rfl (by linarith)
    rw [if_pos hex]
    rwa [if_pos hy.symm] at hres
  · obtain ⟨hlo, hhi, htie⟩ := h.between hex
    have hgrid := toGrid_between rm N (h.step ▸ hlo) (h.step ▸ hhi) (h.step ▸ htie)
    rw [← h.step] at hgrid
    have hor : toGrid rm y (Int.log 2 q / 2 - f.fb) = N * s ∨ toGrid rm y (Int.log 2 q / 2 - f.fb) = N * s + s := by
      rw [hgrid]
      cases rm with
      | rne => exact (em _).imp (fun h => if_pos h) (fun h => if_neg h)
      | rna => exact (em _).imp (fun h => if_pos h) (fun h => if_neg h)
      | rtz => exact .inl rfl
      | rdn => exact .inl rfl
      | rup => exact .inr rfl
    have hne : toGrid rm y (Int.log 2 q / 2 - f.fb) ≠ y := by rcases hor with h | h <;> rw [h] <;> [exact hlo.ne; exact hhi.ne']
    have hres := hpick (hNpos.trans hlo).ne' rfl (by rcases hor with h | h <;> rw [h]; linarith) (by rcases hor with h | h <;> rw [h]; linarith)
    rw [if_neg hne, hgrid] at hres
    rw [if_neg hex]
    simp only [h.middle]
    exact hres

/-! ## The smaller and the larger of two -/

theorem isLess_eq (a b : Val) (ha : a.isNan = false) (hb : b.isNan = false) :
    isLess a.number b.number = (ltV a b || (!ltV b a && a.sign && !b.sign)) := by
  rw [ltV_eq_isBelow ha hb, ltV_eq_isBelow hb ha]
  cases a with
  | nan s => cases ha
  | inf n => cases b with
    | nan s => cases hb
    | inf k => cases n <;> cases k <;> rfl
    | fin k m e => cases n <;> cases k <;> rfl
  | fin n m e => cases b with
    | nan s => cases hb
    | inf k => cases n <;> cases k <;> rfl
    | fin k m' e' =>
      simp only [Val.number, isLess, isBelow, Val.sign]
      obtain h | h | h := lt_trichotomy (signedNumber n m e) (signedNumber k m' e')
      · simp [h]
      · simp [h]
      · simp [h, h.not_gt, h.ne']

theorem ltV_asymm {a b : Val} (h : ltV a b = true) (ha : a.isNan = false) (hb : b.isNan = false) : ltV b a = false := by
  rw [ltV_eq_isBelow hb ha, (isBelow_trichotomy (a.number_isNaN.trans ha) (b.number_isNaN.trans hb)).2, ← ltV_eq_isBelow ha hb, h]
  rfl

theorem number_eq_of_not_ltV {a b : Val} (h : ltV a b = false) (h' : ltV b a = false) (ha : a.isNan = false) (hb : b.isNan = false)
    (hs : a.sign = b.sign) : a.number = b.number := by
  have heq : isEqual a.number b.number = true := by
    rw [(isBelow_trichotomy (a.number_isNaN.trans ha) (b.number_isNaN.trans hb)).1, ← ltV_eq_isBelow ha hb, ← ltV_eq_isBelow hb ha, h, h']
    rfl
  cases a with
  | nan s => cases ha
  | inf n => cases b with
    | nan s => cases hb
    | inf k => exact congrArg Number.inf hs
    | fin k m e => cases heq
  | fin n m e => cases b with
    | nan s => cases hb
    | inf k => cases heq
    | fin k m' e' => exact congrArg₂ Number.num hs (of_decide_eq_true heq)

theorem minMaxCode_eq_pick {f : Fmt} (h : f.Regular) (hn : f.hasNan = true) (larger : Bool) {a b : Nat} (ha : isCode f a) (hb : isCode f b) :
    minMaxCode f larger a b = pick f larger a b := by
  simp only [minMaxCode, pick, ← number_unpack f, sigFl_eq_signalling, ← h.canonical hn, Val.number_isNaN]
  cases hx : (unpack f a).isNan with
  | true => cases hy : (unpack f b).isNan <;> simp
  | false => cases hy : (unpack f b).isNan with
    | true => simp
    | false =>
      simp only [isLess_eq _ _ hx hy, isLess_eq _ _ hy hx, pickMin, hx, hy, Bool.and_false, Bool.false_eq_true, if_false]
      congr 1
      cases hlt : ltV (unpack f a) (unpack f b) with
      | true => cases larger <;> simp [ltV_asymm hlt hx hy]
      | false => cases hgt : ltV (unpack f b) (unpack f a) with
        | true => cases larger <;> simp
        | false =>
          have hsame (hs : (unpack f a).sign = (unpack f b).sign) : a = b := by
            have hnum := number_eq_of_not_ltV hlt hgt hx hy hs
            rw [number_unpack, number_unpack] at hnum
            exact number_inj h ha hb hnum (by rw [← number_unpack, Val.number_isNaN, hx])
          cases hs : (unpack f a).sign <;> cases hs' : (unpack f b).sign <;> cases larger <;> simp [hsame, hs, hs']

/-! ## Whole numbers and fractions -/

/-- The significand and the exponent of a finite code. -/
theorem unpack_fin_bounds {f : Fmt} {c : Nat} {n : Bool} {m : Nat} {e : Int} (h : unpack f c = .fin n m e) :
    m < 2 ^ (f.fb + 1) ∧ 1 - (f.bias : Int) - f.fb ≤ e ∧ e ≤ (2 ^ f.eb : Nat) - (f.bias : Int) - f.fb := by
  have hE : c / 2 ^ f.fb % 2 ^ f.eb < 2 ^ f.eb := Nat.mod_lt _ (by positivity)
  have hM : c % 2 ^ f.fb < 2 ^ f.fb := Nat.mod_lt _ (by positivity)
  rw [pow_succ]
  unfold unpack at h
  dsimp only at h
  split at h
  · split at h <;> cases h
  · split at h
    · cases h
    · split at h
      · cases h
        omega
      · cases h
        omega

theorem signedNumber_natCast (n : Bool) (m : Nat) : signedNumber n m 0 = ((if n then -(m : ℤ) else m : ℤ) : ℚ) := by
  cases n <;> simp [signedNumber]

/-- A number below its ones, as a quotient by a power of two. -/
theorem signedNumber_of_neg (n : Bool) (m : Nat) {e : Int} (h : ¬ 0 ≤ e) :
    signedNumber n m e = if n then -((m : ℚ) / 2 ^ (-e).toNat) else (m : ℚ) / 2 ^ (-e).toNat := by
  have hpow : (2 : ℚ) ^ e = (2 ^ (-e).toNat)⁻¹ := by rw [← zpow_natCast, ← zpow_neg]; congr 1; omega
  cases n <;> simp [signedNumber, hpow, div_eq_mul_inv]

/-- A number with no fraction is the integer of its significand. -/
theorem signedNumber_of_nonneg (n : Bool) (m : Nat) {e : Int} (h : 0 ≤ e) :
    signedNumber n m e = ((if n then -((m * 2 ^ e.toNat : Nat) : ℤ) else (m * 2 ^ e.toNat : Nat) : ℤ) : ℚ) := by
  rw [← signedNumber_natCast, ← signedNumber_shift n m h, sub_zero]

theorem rintV_number (rm : RM) (v : Val) : ((rintV rm v).1.number, (rintV rm v).2) = wholeOf rm v.number := by
  cases v with
  | nan s => rfl
  | inf n => rfl
  | fin n m e =>
    by_cases he : 0 ≤ e
    · simp only [rintV, if_pos he, Val.number, wholeOf, signedNumber_of_nonneg n m he, toWhole_intCast]
    · simp only [rintV, if_neg he, Val.number, wholeOf, signedNumber_of_neg n m he, (toWhole_signed rm n m _).1, signedNumber_natCast]

/-- A whole number up to 2^fb fits a format whose ones lie in its range. -/
theorem Fits.of_whole {f : Fmt} (h : f.Regular) (hone : f.fb + f.bias ≤ maxMag f / 2 ^ f.fb) (hbias : 1 ≤ f.bias + f.fb) (n : Bool) {m : Nat}
    (hm : m ≤ 2 ^ f.fb) : Fits f (signedNumber n m 0) := by
  refine ⟨n, m, 0, rfl, hm.trans_lt (Nat.pow_lt_pow_right one_lt_two (by omega)), by omega, ?_⟩
  have hY : maxMag f % 2 ^ f.fb < 2 ^ f.fb := Nat.mod_lt _ (by positivity)
  rw [abs_signedNumber]
  refine (mul_le_mul_of_nonneg_right (Nat.cast_le.2 hm) (by positivity)).trans ?_
  rw [largest_eq h, ← not_lt, full_lt_full (Nat.le_add_left _ _) (by rw [pow_succ]; omega) le_rfl (Nat.pow_lt_pow_right one_lt_two (by omega))]
  omega

/-- What does not need rounding is delivered the same in every mode. -/
theorem delivered_any_mode {f : Fmt} {x : Number} (hx : ∀ neg q, x = .num neg q → Fits f q) (rm rm' : RM) (sat : Bool) (r : Nat × Fp) :
    Delivered f rm sat x r ↔ Delivered f rm' sat x r := by
  cases x with
  | nan s => exact Iff.rfl
  | inf n => exact Iff.rfl
  | num neg q => rw [(hx neg q rfl).delivered_iff, (hx neg q rfl).delivered_iff]

theorem wholeOf_fits {f : Fmt} (h : f.Regular) (hone : f.fb + f.bias ≤ maxMag f / 2 ^ f.fb) (hbias : 1 ≤ f.bias + f.fb) {a : Nat} (ha : isCode f a)
    (rm : RM) {neg : Bool} {q : ℚ} (hq : (wholeOf rm (Claims.number f a)).1 = .num neg q) : Fits f q := by
  rw [← number_unpack, ← rintV_number] at hq
  cases hv : unpack f a with
  | nan s => rw [hv] at hq; cases hq
  | inf n => rw [hv] at hq; cases hq
  | fin n m e =>
    rw [hv] at hq
    by_cases he : 0 ≤ e
    · simp only [rintV, if_pos he] at hq
      exact Fits.of_code h ha (by rw [← number_unpack, hv, hq])
    · simp only [rintV, if_neg he, Val.number] at hq
      obtain ⟨rfl, rfl⟩ := Number.num.inj hq
      refine Fits.of_whole h hone hbias _ (roundBits_le ?_)
      calc m ≤ 2 ^ (f.fb + 1) := (unpack_fin_bounds hv).1.le
        _ ≤ 2 ^ f.fb * 2 ^ (-e).toNat := by rw [← pow_add]; exact Nat.pow_le_pow_right two_pos (by omega)

theorem rint_delivers {f : Fmt} (h : f.Regular) (hone : f.fb + f.bias ≤ maxMag f / 2 ^ f.fb) (hbias : 1 ≤ f.bias + f.fb) {a : Nat} (ha : isCode f a)
    (rm rm' : RM) : Delivers f rm false (wholeOf rm' (Claims.number f a)) (finishF f .rne false (rintV rm' (unpack f a))) := by
  obtain ⟨y, hy, hr⟩ := finishF_delivers h .rne false (rintV rm' (unpack f a))
  rw [rintV_number, number_unpack] at hy hr
  exact ⟨y, (delivered_any_mode (fun _ _ hq => wholeOf_fits h hone hbias ha rm' hq) .rne rm false y).1 hy, hr⟩

/-- The part after the point of a quotient by a power of two, under a sign. -/
theorem fract_signed (n : Bool) (m k : Nat) : Int.fract (if n then -((m : ℚ) / 2 ^ k) else (m : ℚ) / 2 ^ k) =
    ((if m % 2 ^ k = 0 then 0 else if n then 2 ^ k - m % 2 ^ k else m % 2 ^ k : Nat) : ℚ) / 2 ^ k := by
  have hpos : (0 : ℚ) < 2 ^ k := by positivity
  have hlt : m % 2 ^ k < 2 ^ k := Nat.mod_lt _ (by positivity)
  have hm : (m : ℚ) / 2 ^ k = (m / 2 ^ k : Nat) + (m % 2 ^ k : Nat) / 2 ^ k := by
    rw [eq_comm, add_div' _ _ _ hpos.ne', div_left_inj' hpos.ne']
    exact_mod_cast Nat.div_add_mod' m (2 ^ k)
  generalize m / 2 ^ k = q at hm
  generalize m % 2 ^ k = r at hm hlt ⊢
  have hlt' : (r : ℚ) < 2 ^ k := by exact_mod_cast hlt
  rw [hm, Int.fract_eq_iff]
  by_cases hr : r = 0
  · subst hr
    rw [if_pos rfl]
    refine ⟨by simp, by simp, if n then -(q : ℤ) else q, ?_⟩
    cases n <;> simp
  · have hr0 : (0 : ℚ) < r := by exact_mod_cast Nat.pos_of_ne_zero hr
    rw [if_neg hr]
    cases n with
    | false => exact ⟨by positivity, by simpa [div_lt_one hpos] using hlt', q, by simp⟩
    | true =>
      have hsub : ((2 ^ k - r : Nat) : ℚ) = 2 ^ k - r := by push_cast [Nat.cast_sub hlt.le]; rfl
      simp only [if_true, hsub]
      refine ⟨div_nonneg (by linarith) hpos.le, by rw [div_lt_one hpos]; linarith, -(q : ℤ) - 1, ?_⟩
      rw [sub_div, div_self hpos.ne']
      push_cast
      ring

theorem fracV_number (n : Bool) (m : Nat) (e : Int) : (fracV (.fin n m e)).1.number = .num false (Int.fract (signedNumber n m e)) ∧
    (fracV (.fin n m e)).2 = 0 := by
  by_cases he : 0 ≤ e
  · simp only [fracV, if_pos he, Val.number, signedNumber_of_nonneg n m he, Int.fract_intCast, signedNumber_zero, and_self]
  · simp only [fracV, if_neg he, Val.number, signedNumber_of_neg _ _ he, fract_signed, Bool.false_eq_true, if_false, and_self]

/-- The top bit of a word turned. -/
theorem xor_two_pow {a n : Nat} (h : a < 2 ^ (n + 1)) : (if a / 2 ^ n % 2 = 1 then a - 2 ^ n else a + 2 ^ n) = a ^^^ 2 ^ n := by
  have hsmall {r : Nat} (hr : r < 2 ^ n) : r ^^^ 2 ^ n = r + 2 ^ n := by
    have hor := Nat.two_pow_add_eq_or_of_lt hr 1
    rw [mul_one] at hor
    rw [Nat.add_comm, hor]
    refine Nat.eq_of_testBit_eq fun i => ?_
    rw [Nat.testBit_xor, Nat.testBit_or, Nat.testBit_two_pow]
    by_cases hi : n = i
    · subst hi
      simp [Nat.testBit_lt_two_pow hr]
    · simp [hi]
  by_cases hlt : a < 2 ^ n
  · rw [Nat.div_eq_of_lt hlt, if_neg (by decide), hsmall hlt]
  · obtain ⟨r, rfl⟩ := Nat.exists_eq_add_of_le' (not_lt.1 hlt)
    have hr : r < 2 ^ n := by rw [pow_succ] at h; omega
    rw [Nat.add_div_right _ (by positivity), Nat.div_eq_of_lt hr, if_pos rfl, ← hsmall hr, Nat.xor_assoc, Nat.xor_self, Nat.xor_zero, hsmall hr,
      Nat.add_sub_cancel]

/-! ## The element operations of the float words -/

theorem native_facts {f : Fmt} (hf : f ∈ [f64, f32, bf16, f16]) : f.Regular ∧ f.hasNan = true ∧ f.fb ≤ 60 := by
  have hall : ∀ f ∈ [f64, f32, bf16, f16], f ∈ [f64, f32, bf16, f16, e5m2, e4m3, fp4, a96] ∧ f.hasNan = true ∧ f.fb ≤ 60 := by decide
  obtain ⟨hmem, hnan, hfb⟩ := hall f hf
  exact ⟨Fmt.regular hmem, hnan, hfb⟩

theorem addF_delivers {f : Fmt} (h : f.Regular) (m : RM) (sat : Bool) (a b : Nat) :
    Delivers f m sat (sumOf m [Claims.number f a, Claims.number f b]) (addF f m sat a b) := by
  rw [← number_unpack, ← number_unpack, ← addV_number]
  exact finishF_delivers h m sat _

theorem subF_delivers {f : Fmt} (h : f.Regular) (m : RM) (sat : Bool) (a b : Nat) :
    Delivers f m sat (sumOf m [Claims.number f a, minus (Claims.number f b)]) (subF f m sat a b) := by
  rw [← number_unpack, ← number_unpack, ← Val.number_neg, ← addV_number]
  exact finishF_delivers h m sat _

theorem mulF_delivers {f : Fmt} (h : f.Regular) (m : RM) (sat : Bool) (a b : Nat) :
    Delivers f m sat (product (Claims.number f a) (Claims.number f b)) (mulF f m sat a b) := by
  rw [← number_unpack, ← number_unpack, ← mulV_number]
  exact finishF_delivers h m sat _

theorem fmaF_delivers {f : Fmt} (h : f.Regular) (m : RM) (sat : Bool) (a b c : Nat) :
    Delivers f m sat (productSum m (Claims.number f a) (Claims.number f b) (Claims.number f c)) (fmaF f m sat a b c) := by
  rw [← number_unpack, ← number_unpack, ← number_unpack, ← fmaV_number]
  exact finishF_delivers h m sat _

theorem divF_delivers {f : Fmt} (h : f.Regular) (hfb : f.fb ≤ 60) (m : RM) (sat : Bool) (a b : Nat) :
    Delivers f m sat (quotient (Claims.number f a) (Claims.number f b)) (divF f m sat a b) := by
  rw [← number_unpack, ← number_unpack]
  exact divV_delivers h hfb m sat _ _

/-- The range of a format holds the roots of its numbers. -/
theorem root_range {f : Fmt} (hf : f = f64 ∨ f = f32) {m : Nat} (hm : m ≠ 0) {c : Nat} {n : Bool} {e : Int} (hc : unpack f c = .fin n m e) :
    1 - (f.bias : ℤ) ≤ Int.log 2 ((m : ℚ) * 2 ^ e) / 2 ∧ (2 : ℚ) ^ (Int.log 2 ((m : ℚ) * 2 ^ e) / 2 + 1) ≤ largest f := by
  obtain ⟨hlt, hlow, hhigh⟩ := unpack_fin_bounds hc
  have hreg : f.Regular := Fmt.regular (by obtain rfl | rfl := hf <;> decide)
  have hfacts : f.fb + 1 ≤ f.bias ∧ 2 ^ f.eb + f.bias + 2 ≤ 2 * (maxMag f / 2 ^ f.fb) := by obtain rfl | rfl := hf <;> decide
  obtain ⟨hbias, hX⟩ := hfacts
  have htop := topExp_le hm hlt e
  have hbot : e ≤ topExp m e := by unfold topExp; omega
  have hY : (2 : ℚ) ^ (((maxMag f / 2 ^ f.fb : Nat) : ℤ) - f.bias) ≤ largest f := by
    have hone : (2 : ℚ) ^ (((maxMag f / 2 ^ f.fb : Nat) : ℤ) - f.bias) =
        (2 ^ f.fb : Nat) * 2 ^ (((maxMag f / 2 ^ f.fb : Nat) : ℤ) - f.bias - f.fb) := by
      rw [Nat.cast_pow, Nat.cast_ofNat, ← zpow_natCast, ← zpow_add₀ two_ne_zero]; congr 1; ring
    rw [hone, largest_eq hreg]
    exact mul_le_mul_of_nonneg_right (Nat.cast_le.2 (Nat.le_add_left _ _)) (by positivity)
  rw [topExp_eq_log hm]
  exact ⟨by omega, (zpow_le_zpow_right₀ one_le_two (by omega)).trans hY⟩

theorem sqrtV_rootOf {f : Fmt} (hf : f = f64 ∨ f = f32) (m : RM) (sat : Bool) {c n : Nat} {e : Int} (hn : n ≠ 0) (hc : unpack f c = .fin false n e) :
    RootOf f m ((n : ℚ) * 2 ^ e) (deliver f m sat (sqrtV (.fin false n e)).1) := by
  have hreg : f.Regular := Fmt.regular (by obtain rfl | rfl := hf <;> decide)
  obtain ⟨hlow, hhigh⟩ := root_range hf hn hc
  obtain ⟨y, N, s, hnum, hcut⟩ := sqrtV_cut (fb := f.fb) (by obtain rfl | rfl := hf <;> decide) hn (g := e) (unpack_fin_bounds hc).1
  exact hcut.rootOf hlow hhigh (hnum ▸ deliver_delivered hreg m sat _)

theorem sqrtV_flags {n : Nat} {e : Int} (hn : n ≠ 0) : (sqrtV (.fin false n e)).2 = 0 := by simp [sqrtV, hn]

theorem finishF_nan {f : Fmt} (hn : f.hasNan = true) (rm : RM) (sat s : Bool) (fl : Fp) : finishF f rm sat (.nan s, fl) = (canonNan f, fl) := by
  simp [finishF, deliver, hn]

theorem sqrtF_value (m : RM) (sat : Bool) {a : Nat} (ha : isCode f64 a) :
    match Claims.number f64 a with
    | .nan s => sqrtF f64 m sat a = (0x7FF8000000000000, if s then fpInvalid else 0)
    | .inf n => sqrtF f64 m sat a = if n then (0x7FF8000000000000, fpInvalid) else (a, 0)
    | .num n q => if q = 0 then sqrtF f64 m sat a = (a, 0) else if n then sqrtF f64 m sat a = (0x7FF8000000000000, fpInvalid)
      else RootOf f64 m q (sqrtF f64 m sat a) := by
  have hreg : f64.Regular := Fmt.regular (by decide)
  have hself {v : Val} (hv : v.number = Claims.number f64 a) (hn : v.isNan = false) : deliver f64 m sat v = (a, 0) := deliver_eq_code hreg ha hv hn m sat
  cases hv : unpack f64 a with
  | nan s =>
    rw [← number_unpack, hv]
    have hsig : sqrtV (.nan s) = (.nan false, if s then fpInvalid else 0) := by cases s <;> rfl
    simp only [Val.number, sqrtF, hv, hsig]
    exact finishF_nan rfl m sat false _
  | inf n =>
    have hnum : Claims.number f64 a = .inf n := by rw [← number_unpack, hv]; rfl
    simp only [hnum]
    cases n with
    | true => simp only [sqrtF, hv, if_true]; exact finishF_nan rfl m sat false _
    | false => simp only [sqrtF, hv, sqrtV, finishF, hself (v := .inf false) hnum.symm rfl]; rfl
  | fin n k e =>
    have hnum : Claims.number f64 a = .num n (signedNumber n k e) := by rw [← number_unpack, hv]; rfl
    simp only [hnum, signedNumber_eq_zero]
    by_cases hk : k = 0
    · have hz : (Val.fin n 0 0).number = Claims.number f64 a := by rw [hnum, hk, Val.number, signedNumber_zero, signedNumber_zero]
      simp only [hk, if_true, sqrtF, hv, sqrtV, finishF, hself hz rfl]
      rfl
    · rw [if_neg hk]
      cases n with
      | true =>
        simp only [if_true, sqrtF, hv, sqrtV, if_neg hk]
        exact finishF_nan rfl m sat false _
      | false =>
        have hfl : sqrtF f64 m sat a = deliver f64 m sat (sqrtV (.fin false k e)).1 := by
          simp only [sqrtF, hv, finishF, sqrtV_flags hk]
          exact Prod.ext rfl (BitVec.or_zero)
        rw [if_neg Bool.false_ne_true, hfl]
        exact sqrtV_rootOf (.inl rfl) m sat hk hv

end Sys2Proof.Machine
end

section
/-! PROOFS. Sums of several numbers, and what the float words compute (R133-R135, R138, R147). -/

namespace Sys2Proof.Machine

set_option Elab.async false
open Claims

/-! ## Sums of several numbers (R147) -/

/-- A number's sign is that of its value, but for a zero. -/
def Signed : Number → Prop
  | .num n q => q ≠ 0 → n = decide (q < 0)
  | _ => True

theorem Val.number_signed (v : Val) : Signed v.number := by
  cases v with
  | nan s => trivial
  | inf n => trivial
  | fin n m e =>
    intro h
    have hm : m ≠ 0 := fun h0 => h (signedNumber_eq_zero.2 h0)
    have hpos : (0 : ℚ) < (m : ℚ) * 2 ^ e := by positivity
    cases n with
    | false => simp [signedNumber, hpos.le]
    | true => simp [signedNumber, hpos]

/-- The numbers among the terms. -/
def finites (l : List Number) : List (Bool × ℚ) := l.filterMap (fun x => match x with | .num n q => some (n, q) | _ => none)

/-- The sign of an exact zero. -/
def zeroSign (rm : RM) (l : List (Bool × ℚ)) : Bool :=
  if l.all (fun x => decide (x = (true, 0))) then true else if l.all (fun x => decide (x = (false, 0))) then false else decide (rm = .rdn)

theorem sumOf_eq (rm : RM) (l : List Number) : sumOf rm l =
    if l.any Number.isNaN then (.nan false, signalling l ||| if l.contains (.inf true) && l.contains (.inf false) then fpInvalid else 0)
    else if l.contains (.inf true) && l.contains (.inf false) then (.nan false, fpInvalid)
    else if l.contains (.inf true) then (.inf true, 0)
    else if l.contains (.inf false) then (.inf false, 0)
    else (exactly ((finites l).map (fun x => x.2)).sum (zeroSign rm (finites l)), 0) := rfl

theorem finites_append (l l' : List Number) : finites (l ++ l') = finites l ++ finites l' := List.filterMap_append

/-- The sign of a zero sum, taken term by term. -/
theorem zeroSign_append (rm : RM) {l : List (Bool × ℚ)} (hl : l ≠ []) (n : Bool) (q : ℚ) (h0 : (l.map (fun x => x.2)).sum + q = 0) :
    zeroSign rm (l ++ [(n, q)]) =
      zeroSign rm [((if (l.map (fun x => x.2)).sum = 0 then zeroSign rm l else decide ((l.map (fun x => x.2)).sum < 0)),
          (l.map (fun x => x.2)).sum), (n, q)] := by
  have hsum {b : Bool} (h : l.all (fun x => decide (x = (b, 0))) = true) : (l.map (fun x => x.2)).sum = 0 := by
    refine List.sum_eq_zero fun y hy => ?_
    obtain ⟨x, hx, rfl⟩ := List.mem_map.1 hy
    exact congrArg Prod.snd (of_decide_eq_true (List.all_eq_true.1 h x hx))
  have hT := hsum (b := true)
  have hF := hsum (b := false)
  have hboth (h : l.all (fun x => decide (x = (true, 0))) = true) : l.all (fun x => decide (x = (false, 0))) = false := by
    obtain ⟨x, hx⟩ := List.exists_mem_of_ne_nil l hl
    rw [List.all_eq_false]
    refine ⟨x, hx, ?_⟩
    rw [of_decide_eq_true (List.all_eq_true.1 h x hx)]
    simp
  generalize (l.map (fun x => x.2)).sum = S at *
  simp only [zeroSign, List.all_append, List.all_cons, List.all_nil, Bool.and_true]
  generalize l.all (fun x => decide (x = (true, 0))) = T at *
  generalize l.all (fun x => decide (x = (false, 0))) = F at *
  by_cases hS : S = 0
  · obtain rfl : q = 0 := by rw [hS, zero_add] at h0; exact h0
    cases T <;> cases F <;> cases n <;> cases hD : decide (rm = RM.rdn) <;> simp_all
  · obtain rfl : T = false := by cases T; rfl; exact absurd (hT rfl) hS
    obtain rfl : F = false := by cases F; rfl; exact absurd (hF rfl) hS
    simp [hS]

theorem finites_ne_nil {l : List Number} (hl : l ≠ []) (hnan : l.any Number.isNaN = false) (ht : l.contains (.inf true) = false)
    (hf : l.contains (.inf false) = false) : finites l ≠ [] := by
  cases l with
  | nil => exact absurd rfl hl
  | cons x l => cases x with
    | nan s => simp [Number.isNaN] at hnan
    | inf n => cases n <;> simp at ht hf
    | num n q => simp [finites]

/-- A sum, taken term by term. -/
theorem sumOf_append (rm : RM) {l : List Number} (hl : l ≠ []) (v : Number) : (sumOf rm (l ++ [v])).1 = (sumOf rm [(sumOf rm l).1, v]).1 := by
  have hpair (x y : Number) (h : x.isNaN = true ∨ y.isNaN = true) : (sumOf rm [x, y]).1 = .nan false := by rw [sumOf_nan rm h]
  rw [sumOf_eq rm l, sumOf_eq rm (l ++ [v])]
  simp only [List.any_append, List.any_cons, List.any_nil, Bool.or_false, List.contains_append, List.contains_cons, List.contains_nil]
  cases hnan : l.any Number.isNaN with
  | true => simp [hpair (.nan false) v (.inl rfl)]
  | false =>
    cases hv : v.isNaN with
    | true => simp [hpair _ v (.inr hv)]
    | false =>
      cases ht : l.contains (.inf true) <;> cases hf : l.contains (.inf false)
      case true.true => simp [hpair (.nan false) v (.inl rfl)]
      case true.false =>
        cases v with
        | nan s => cases hv
        | inf n => cases n <;> rfl
        | num n q => rfl
      case false.true =>
        cases v with
        | nan s => cases hv
        | inf n => cases n <;> rfl
        | num n q => rfl
      case false.false =>
        cases v with
        | nan s => cases hv
        | inf n => cases n <;> rfl
        | num n q =>
          have hne := finites_ne_nil hl hnan ht hf
          have hzero := zeroSign_append rm hne n q
          simp only [finites_append, List.map_append, List.sum_append, sumOf_eq rm [_, _], exactly]
          generalize ((finites l).map (fun x => x.2)).sum = S at hzero ⊢
          have hfin (z : Bool) : finites [.num z S, .num n q] = [(z, S), (n, q)] := rfl
          have hone : finites [.num n q] = [(n, q)] := rfl
          by_cases h0 : S + q = 0
          · simp [Number.isNaN, hfin, hone, h0, hzero h0]
          · simp [Number.isNaN, hfin, hone, h0]

theorem sumOf_singleton (rm : RM) {x : Number} (hx : Signed x) (hn : x.isNaN = false) : (sumOf rm [x]).1 = x := by
  cases x with
  | nan s => cases hn
  | inf n => cases n <;> rfl
  | num n q =>
    have hq : (sumOf rm [.num n q]).1 = exactly q (zeroSign rm [(n, q)]) := by simp [sumOf_eq, finites, Number.isNaN]
    rw [hq, exactly]
    by_cases h0 : q = 0
    · cases n <;> simp [h0, zeroSign]
    · rw [if_neg h0, ← hx h0]

/-- The folded sum is the sum of the numbers. -/
theorem foldl_addV_number (rm : RM) {a : Val} {l l' : List Val} (hl : l ≠ []) (ha : a.number = (sumOf rm (l.map Val.number)).1) :
    (l'.foldl (fun acc v => (addV rm acc v).1) a).number = (sumOf rm ((l ++ l').map Val.number)).1 := by
  induction l' generalizing a l with
  | nil => simpa using ha
  | cons v l' ih =>
    have hstep : (addV rm a v).1.number = (sumOf rm ((l ++ [v]).map Val.number)).1 := by
      rw [List.map_append, List.map_singleton, sumOf_append rm (by simpa using hl), ← ha, ← addV_number]
    simpa using ih (by simp) hstep

theorem contains_inf_map (l : List Val) (n : Bool) : (l.map Val.number).contains (.inf n) = l.contains (.inf n) := by
  have hinf (v : Val) : (Number.inf n == v.number) = (Val.inf n == v) := by cases v <;> simp [Val.number, beq_eq_decide]
  induction l with
  | nil => rfl
  | cons v l ih => rw [List.map_cons, List.contains_cons, List.contains_cons, hinf, ih]

theorem sigFl_map (l : List Val) : sigFl l = signalling (l.map Val.number) := by
  have hsig (v : Val) : (Number.nan true == v.number) = v.isSig := by
    cases v with
    | nan s => cases s <;> rfl
    | inf n => rfl
    | fin n m e => rfl
  have hany : l.any Val.isSig = (l.map Val.number).contains (.nan true) := by
    induction l with
    | nil => rfl
    | cons v l ih => rw [List.any_cons, List.map_cons, List.contains_cons, ih, hsig]
  rw [sigFl, signalling, hany]

theorem sumOf_flags (rm : RM) (l : List Number) :
    (sumOf rm l).2 = signalling l ||| if l.contains (.inf true) && l.contains (.inf false) then fpInvalid else 0 := by
  rw [sumOf_eq]
  cases hnan : l.any Number.isNaN with
  | true => rfl
  | false =>
    have hsig : signalling l = 0 := by
      rw [signalling, if_neg]
      intro h
      have := List.any_eq_true (p := Number.isNaN).2 ⟨Number.nan true, List.contains_iff_mem.1 h, (rfl : Number.isNaN (.nan true) = true)⟩
      rw [hnan] at this
      cases this
    rw [hsig]
    cases l.contains (.inf true) <;> cases l.contains (.inf false) <;> rfl

theorem sumV_number (rm : RM) {a b : Val} {l : List Val} :
    ((sumV rm (a :: b :: l)).1.number, (sumV rm (a :: b :: l)).2) = sumOf rm ((a :: b :: l).map Val.number) := by
  refine Prod.ext ?_ ?_
  · have hpair : (addV rm a b).1.number = (sumOf rm ([a, b].map Val.number)).1 := congrArg Prod.fst (addV_number rm a b)
    exact foldl_addV_number rm (l := [a, b]) (by simp) hpair
  · rw [sumOf_flags, ← sigFl_map, contains_inf_map, contains_inf_map]
    rfl

/-! ## Distances -/

/-- A term of a distance, as a number and its exceptions. -/
theorem distTerms_number (f : Fmt) (sq : Bool) (n w a b : Nat) : (distTerms f sq n w a b).map (fun t => (t.1.number, t.2)) =
    (List.range n).map (fun i =>
      let x := Claims.number f (a / 2 ^ (w * i) % 2 ^ w)
      let y := Claims.number f (b / 2 ^ (w * i) % 2 ^ w)
      if sq then (let d := sumOf .rne [x, minus y]; ((product d.1 d.1).1, d.2 ||| (product d.1 d.1).2)) else product x y) := by
  rw [distTerms, List.map_map]
  refine List.map_congr_left fun i _ => ?_
  cases sq with
  | false => simpa [fld] using mulV_number (unpack f (fld a (w * i) w)) (unpack f (fld b (w * i) w))
  | true =>
    have hd := addV_number .rne (unpack f (fld a (w * i) w)) (unpack f (fld b (w * i) w)).neg
    rw [Val.number_neg, number_unpack, number_unpack] at hd
    simp only [Function.comp, if_true, fld] at *
    rw [← hd]
    simp only [← mulV_number]

theorem foldl_or (l : List (Number × Fp)) (e : Fp) : l.foldl (fun e x => e ||| x.2) e = e ||| orFp (l.map (fun x => x.2)) := by
  have hmove (l : List Fp) (e e' : Fp) : l.foldl (fun a b => a ||| b) (e ||| e') = e ||| l.foldl (fun a b => a ||| b) e' := by
    induction l generalizing e' with
    | nil => rfl
    | cons x l ih => rw [List.foldl_cons, List.foldl_cons, BitVec.or_assoc, ih]
  have h := hmove (l.map (fun x => x.2)) e 0
  rw [show e ||| (0 : Fp) = e from BitVec.or_zero, List.foldl_map] at h
  exact h

/-- The sum of a distance, rounded once, with the exceptions of the terms. -/
theorem distRes_delivers (p : Prefix) (c : Nat) {terms : List (Val × Fp)} (hne : terms ≠ []) {l : List (Number × Fp)}
    (hl : terms.map (fun t => (t.1.number, t.2)) = l) :
    Delivers f32 (p.mode .rne) false
      ((sumOf (p.mode .rne) (Claims.number f32 c :: l.map (fun x => x.1))).1,
        l.foldl (fun e x => e ||| x.2) (sumOf (p.mode .rne) (Claims.number f32 c :: l.map (fun x => x.1))).2) (distRes p c terms) := by
  subst hl
  obtain ⟨a, l, rfl⟩ := List.exists_cons_of_ne_nil hne
  have hsum := sumV_number (p.mode .rne) (a := unpack f32 c) (b := a.1) (l := l.map (fun t => t.1))
  simp only [List.map_cons, List.map_map, number_unpack] at hsum
  rw [foldl_or]
  simp only [List.map_cons, List.map_map, Function.comp_def] at hsum ⊢
  rw [← hsum]
  let v := sumV (p.mode .rne) (unpack f32 c :: a.1 :: l.map (fun t => t.1))
  exact finishF_delivers (Fmt.regular (by decide)) (p.mode .rne) false (v.1, v.2 ||| orFp (a.2 :: l.map (fun t => t.2)))

theorem unaryF_values {f : Fmt} (hf : f = f64 ∨ f = f32) (m : RM) {a : Nat} (ha : isCode f a) :
    let x := Claims.number f a
    let top := 2 ^ (f.eb + f.fb)
    unaryF f m 0 a = (a ^^^ top, 0) ∧ unaryF f m 1 a = (a % top, 0) ∧
    Delivers f m false (wholeOf .rdn x) (unaryF f m 2 a) ∧ Delivers f m false (wholeOf .rup x) (unaryF f m 3 a) ∧
    Delivers f m false (wholeOf .rtz x) (unaryF f m 4 a) ∧ Delivers f m false (wholeOf m x) (unaryF f m 5 a) ∧
    (match x with
      | .nan s => unaryF f m 6 a = (Claims.canonical f, if s then fpInvalid else 0)
      | .inf _ => unaryF f m 6 a = (Claims.canonical f, fpInvalid)
      | .num _ q => ∃ e, Delivered f .rtz false (.num false (Int.fract q)) ((unaryF f m 6 a).1, e) ∧ (unaryF f m 6 a).2 = e &&& fpInexact) := by
  have hreg : f.Regular := Fmt.regular (by obtain rfl | rfl := hf <;> decide)
  have hfacts : f.fb + f.bias ≤ maxMag f / 2 ^ f.fb ∧ 1 ≤ f.bias + f.fb ∧ f.hasNan = true := by obtain rfl | rfl := hf <;> decide
  obtain ⟨hone, hbias, hnan⟩ := hfacts
  have hrint (rm' : RM) := rint_delivers hreg hone hbias ha m rm'
  refine ⟨?_, rfl, hrint .rdn, hrint .rup, hrint .rtz, hrint m, ?_⟩
  · have ha' : a < 2 ^ (f.eb + f.fb + 1) := by rwa [isCode, show 1 + f.eb + f.fb = f.eb + f.fb + 1 by omega] at ha
    exact congrArg (·, (0 : Fp)) (xor_two_pow ha')
  · have hsix : unaryF f m 6 a = ((deliver f .rtz false (fracV (unpack f a)).1).1,
        ((deliver f .rtz false (fracV (unpack f a)).1).2 &&& fpInexact) ||| (fracV (unpack f a)).2) := rfl
    have hquiet (fl : Fp) : ((0 : Fp) &&& fpInexact) ||| fl = fl := by rw [show (0 : Fp) &&& fpInexact = 0 from rfl]; exact BitVec.zero_or
    rw [hsix, ← number_unpack]
    cases unpack f a with
    | nan s => simp only [Val.number, fracV, deliver, if_pos hnan, hquiet, hreg.canonical hnan]
    | inf n => simp only [Val.number, fracV, deliver, if_pos hnan, hquiet, hreg.canonical hnan]
    | fin n k e =>
      obtain ⟨hnum, hfl⟩ := fracV_number n k e
      refine ⟨_, hnum ▸ deliver_delivered hreg .rtz false _, ?_⟩
      rw [hfl]
      exact BitVec.or_zero

/-! ## The float words (R133-R135, R138, R147) -/

theorem floatArithmetic : FloatArithmetic := by
  refine ⟨rfl, rfl, rfl, rfl, ?_, fun m sat a ha => sqrtF_value m sat ha, ?_, ?_⟩
  · intro f hf m sat a b c ha hb hc
    obtain ⟨hreg, hnan, hfb⟩ := native_facts hf
    exact ⟨addF_delivers hreg m sat a b, subF_delivers hreg m sat a b, mulF_delivers hreg m sat a b, fmaF_delivers hreg m sat a b c,
      divF_delivers hreg hfb m sat a b, minMaxCode_eq_pick hreg hnan false ha hb, minMaxCode_eq_pick hreg hnan true ha hb⟩
  · intro f hf m a ha
    exact unaryF_values (by simpa using hf) m ha
  · intro p a b c _ _ _
    exact ⟨distRes_delivers p c (by simp [distTerms]) (distTerms_number e4m3 false 4 8 a b),
      distRes_delivers p c (by simp [distTerms]) (distTerms_number e4m3 true 4 8 a b),
      distRes_delivers p c (by simp [distTerms]) (distTerms_number bf16 true 2 16 a b)⟩

end Sys2Proof.Machine
end

section
/-! PROOFS. The float lane words, the conversions, and the exact points of the special functions (R104, R133-R141, R147). -/

namespace Sys2Proof.Machine

set_option Elab.async false
open Claims

/-! ## The results of the float words -/

/-- A word whose results are an element operation's on A, B and the addend. -/
def ElementWord (i : Instr) (f : Prefix → Nat → Nat → Nat → Nat × Fp) : Prop :=
  ∀ u s, Issues i u s → LaneResult i u s fun l r c k => f u.pfx (elemA u l r c k) (elemB u l r c k) (elemC u l r c k)

section
variable {i : Instr} {l : LaneForm} {o : Opnd}

theorem elementWord_un {f : Prefix → Nat → Nat × Fp} (hl : laneForm i = some l) (ho : l.dst = some o) (hf : flagSel i = none)
    (hrun : ∀ s, exec i s = laneUn i s f) : ElementWord i fun p x _ _ => f p x :=
  fun _ s h => laneMap_result h hl ho hf (hrun s) fun _ _ _ _ => rfl

theorem elementWord_bin {f : Prefix → Nat → Nat → Nat × Fp} (hl : laneForm i = some l) (ho : l.dst = some o) (hf : flagSel i = none)
    (hrun : ∀ s, exec i s = laneBin i s f) : ElementWord i fun p x y _ => f p x y :=
  fun _ s h => laneMap_result h hl ho hf (hrun s) fun _ _ _ _ => rfl

theorem elementWord_tri {f : Prefix → Nat → Nat → Nat → Nat × Fp} (hl : laneForm i = some l) (ho : l.dst = some o) (hf : flagSel i = none)
    (hrun : ∀ s, exec i s = laneTri i s f) : ElementWord i f :=
  fun _ s h => laneMap_result h hl ho hf (hrun s) fun _ _ _ _ => rfl
end

/-- The words of `floatElement` on one source, on two, and on two and the addend. -/
theorem elementWord_of_floatElement {i : Instr} {f : Prefix → Nat → Nat → Nat → Nat × Fp} (hf : floatElement i = some f) : ElementWord i f := by
  unfold floatElement at hf
  split at hf
  case h_29 => cases hf
  all_goals obtain rfl := Option.some.inj hf
  case h_9 | h_14 | h_17 => exact elementWord_un rfl rfl rfl fun _ => rfl
  case h_1 | h_2 | h_3 | h_5 | h_6 | h_7 | h_10 | h_11 | h_13 | h_15 | h_16 | h_18 | h_19 | h_21 | h_22 | h_23 | h_25 =>
    exact elementWord_bin rfl rfl rfl fun _ => rfl
  case h_4 | h_12 | h_20 | h_24 | h_26 | h_27 | h_28 => exact elementWord_tri rfl rfl rfl fun _ => rfl
  case h_8 =>
    simp only [Nat.mul_comm (2 ^ 31)]
    exact elementWord_bin rfl rfl rfl fun _ => rfl

theorem floatElementWords : FloatElementWords := fun _ u s _ h hf => elementWord_of_floatElement hf u s h

/-! ## `vsfu.f32` and the conversions -/

/-- What `laneMap` leaves for a word that issues. -/
theorem laneMap_next {i : Instr} {u : Issuer} {s : State} {l : LaneForm} {o : Opnd} {f : Issuer → LaneForm → Nat → Nat → Nat → Nat × Fp}
    (h : Issues i u s) (hl : laneForm i = some l) (ho : l.dst = some o) (hf : flagSel i = none) :
    laneMap i s f = .next (finish u i (.ok (s.pendAll u i (blockResults u o (f u l))))) := by
  obtain ⟨-, hm, hfwd⟩ := blockWord_of (s := s) hl ho hf
  rw [laneMap, laneVec, issue_own h hm (hfwd _ u), ← blockResults_eq]
  simp only [hl, ho]

theorem laneSpecialFunctions : LaneSpecialFunctions := by
  intro d a f x u s l o h hl ho
  have hrun : exec (.vsfuF32 d a f x) s = laneMap (.vsfuF32 d a f x) { s with fresh := s.fresh + 4096 } fun u l r c k =>
      sfu f.toNat (sfuNumber s.fresh r c k) (u.g.elem (l.src 0) r c k) := rfl
  rw [hrun, laneMap_next (h.vsfu_fresh _) hl ho rfl]
  rfl

theorem laneConversionWords : LaneConversionWords := by
  refine ⟨fun d a c x u s h => ?_, fun d a c x u s h => ?_, fun d a c x u s h => ?_, fun d a c x u s h => ?_, fun d a c x u s h => ?_⟩
  · exact laneMap_result h rfl rfl rfl (by unfold exec; rfl) fun r c k _ => rfl
  · exact laneMap_result h rfl rfl rfl (by unfold exec; rfl) fun r c k _ => rfl
  · exact laneMap_result h rfl rfl rfl (by unfold exec; rfl) fun r c k _ => rfl
  · exact laneMap_result h rfl rfl rfl (by unfold exec; rfl) fun r c k _ => rfl
  · exact laneMap_result h rfl rfl rfl (by unfold exec; rfl) fun r c k _ => rfl

/-! ## Conversions (R104, R139-R141) -/

theorem convF_converted {f : Fmt} (hf : f ∈ [f64, f32, bf16, f16, e5m2, e4m3, fp4, a96]) (g : Fmt) (m : RM) (sat : Bool) (a : Nat) :
    Converted g f m sat a (convF g f m sat a) := by
  rw [Converted, ← number_unpack, ← sigFl_one]
  exact finishF_delivers (Fmt.regular hf) m sat (unpack g a, sigFl [unpack g a])

theorem ofInt_delivers {f : Fmt} (hf : f ∈ [f64, f32, bf16, f16, e5m2, e4m3, fp4, a96]) (m : RM) (i : ℤ) :
    Delivers f m false (whole i, 0) (ofInt f m i) := by
  have hnum : (intV i).number = whole i := by rw [intV, Val.number, signedNumber_natAbs, zpow_zero, mul_one, whole]
  refine ⟨_, hnum ▸ deliver_delivered (Fmt.regular hf) m false (intV i), ?_⟩
  exact Prod.ext rfl BitVec.or_zero.symm

/-- The whole number that a finite value is rounded to, and whether it has changed. -/
theorem toWhole_fin (rm : RM) (n : Bool) (m : Nat) (e : Int) :
    let r := if 0 ≤ e then (m * 2 ^ e.toNat, false) else roundBits rm n m (-e).toNat
    toWhole rm (signedNumber n m e) = (if n then -(r.1 : ℤ) else r.1) ∧
        (r.2 = false ↔ (toWhole rm (signedNumber n m e) : ℚ) = signedNumber n m e) := by
  by_cases he : 0 ≤ e
  · simp only [if_pos he, signedNumber_of_nonneg n m he, toWhole_intCast, true_and]
  · obtain ⟨hwhole, hflag⟩ := toWhole_signed rm n m (-e).toNat
    simp only [if_neg he, signedNumber_of_neg n m he, hwhole, hflag]
    refine ⟨trivial, ?_⟩
    cases n <;> simp

theorem toInt_toInteger (f : Fmt) (rm : RM) (lo hi : ℤ) (n a : Nat) : ToInteger rm lo hi n (Claims.number f a) (toInt f rm lo hi n a) := by
  rw [← number_unpack]
  unfold toInt
  cases unpack f a with
  | nan s => simp [Val.number, ToInteger, convInt, intBits]
  | inf neg => cases neg <;> rfl
  | fin neg m e =>
    obtain ⟨hwhole, hflag⟩ := toWhole_fin rm neg m e
    simp only [Val.number, ToInteger, convInt, ← hwhole, ← hflag]
    generalize (if 0 ≤ e then (m * 2 ^ e.toNat, false) else roundBits rm neg m (-e).toNat).2 = inexact
    generalize toWhole rm (signedNumber neg m e) = i
    by_cases hlo : i < lo
    · simp only [if_pos hlo]
      rfl
    · by_cases hhi : hi < i
      · simp only [if_neg hlo, if_pos hhi]
        rfl
      · simp only [if_neg hlo, if_neg hhi]
        cases inexact <;> rfl

theorem intoHalf_value {old : Nat} (h : old < 2 ^ 32) (hi : Bool) (r : Nat × Fp) :
    intoHalf hi old r = (if hi then old % 2 ^ 16 + 2 ^ 16 * r.1 else old / 2 ^ 16 * 2 ^ 16 + r.1, r.2) := by
  rw [intoHalf, Nat.mod_eq_of_lt (a := old / 2 ^ 16) (by omega)]

/-- The low bits of a signed word are those of the word. -/
theorem ofInt_toInt_ofNat {n : Nat} (hn : n ≤ 32) (w : Nat) : BitVec.ofInt n (BitVec.ofNat 32 w).toInt = BitVec.ofNat n w := by
  have h : BitVec.ofInt n (BitVec.ofNat 32 w).toInt = (BitVec.ofNat 32 w).signExtend n := rfl
  rw [h, BitVec.signExtend_eq_setWidth_of_le _ hn, BitVec.setWidth_ofNat_of_le hn]

theorem narrow_signed {n : Nat} (hn : n ≤ 32) {lo hi : ℤ} (hlo : lo < 0) (sat : Bool) (w : Nat) :
    narrow sat lo hi n (BitVec.ofNat 32 w).toInt =
      if sat = false then (((BitVec.ofNat n w).signExtend 32).toNat, 0)
      else if (BitVec.ofNat 32 w).toInt < lo then ((lo % 2 ^ 32).toNat, fpSaturated)
      else if hi < (BitVec.ofNat 32 w).toInt then ((hi % 2 ^ 32).toNat, fpSaturated) else (((BitVec.ofNat 32 w).toInt % 2 ^ 32).toNat, 0) := by
  cases sat with
  | false =>
    rw [narrow, narrowInt, if_neg Bool.false_ne_true, if_pos hlo, if_pos rfl, intBits_eq_toNat _ n, sextInt_eq_toInt, BitVec.ofNat_toNat, BitVec.setWidth_eq,
      ofInt_toInt_ofNat hn, intBits_eq_toNat]
    rfl
  | true =>
    rw [narrow, narrowInt, if_pos rfl, if_neg Bool.true_eq_false_eq_False]
    split
    · rfl
    · split <;> rfl

theorem narrow_unsigned {n w : Nat} (hn : n ≤ 32) {hi : ℤ} (sat : Bool) :
    narrow sat 0 hi n w =
      if sat = false then (w % 2 ^ n, 0)
      else if (w : ℤ) < 0 then ((0 % 2 ^ 32 : ℤ).toNat, fpSaturated)
      else if hi < (w : ℤ) then ((hi % 2 ^ 32).toNat, fpSaturated) else (((w : ℤ) % 2 ^ 32).toNat, 0) := by
  cases sat with
  | false =>
    rw [narrow, narrowInt, if_neg Bool.false_ne_true, if_neg (lt_irrefl _), if_pos rfl,
        intBits_eq_toNat, intBits_eq_toNat, BitVec.ofInt_natCast, BitVec.ofInt_natCast,
      BitVec.toNat_ofNat, BitVec.toNat_ofNat, Nat.mod_eq_of_lt (Nat.lt_of_lt_of_le (Nat.mod_lt _ (by positivity)) (Nat.pow_le_pow_right two_pos hn))]
  | true =>
    rw [narrow, narrowInt, if_pos rfl, if_neg Bool.true_eq_false_eq_False]
    split
    · rfl
    · split <;> rfl

theorem convert_narrow (p : Prefix) (w old : Nat) : ∀ code n (signed? : Bool),
    (code, n, signed?) ∈ [(0x13, 8, true), (0x14, 16, true), (0x15, 8, false), (0x16, 16, false)] →
      let i : ℤ := if signed? then (BitVec.ofNat 32 w).toInt else w
      let lo : ℤ := if signed? then -2 ^ (n - 1) else 0
      let hi : ℤ := if signed? then 2 ^ (n - 1) - 1 else 2 ^ n - 1
      let bits := fun (k : ℤ) => (k % 2 ^ 32).toNat
      convert p code w old =
        if p.sat = false then (if signed? then ((BitVec.ofNat n w).signExtend 32).toNat else w % 2 ^ n, 0)
        else if i < lo then (bits lo, fpSaturated) else if hi < i then (bits hi, fpSaturated) else (bits i, 0) := by
  have hs : s32 w = (BitVec.ofNat 32 w).toInt := sextInt_eq_toInt w 32
  have h₁ : convert p 0x13 w old = narrow p.sat (-128) 127 8 (BitVec.ofNat 32 w).toInt := hs ▸ rfl
  have h₂ : convert p 0x14 w old = narrow p.sat (-32768) 32767 16 (BitVec.ofNat 32 w).toInt := hs ▸ rfl
  have h₃ : convert p 0x15 w old = narrow p.sat 0 255 8 w := rfl
  have h₄ : convert p 0x16 w old = narrow p.sat 0 65535 16 w := rfl
  simp only [List.mem_cons, List.not_mem_nil, or_false, Prod.mk.injEq]
  rintro code n sg (⟨rfl, rfl, rfl⟩ | ⟨rfl, rfl, rfl⟩ | ⟨rfl, rfl, rfl⟩ | ⟨rfl, rfl, rfl⟩)
  · rw [h₁, narrow_signed (by decide) (by decide)]; norm_num
  · rw [h₂, narrow_signed (by decide) (by decide)]; norm_num
  · rw [h₃, narrow_unsigned (by decide)]; norm_num
  · rw [h₄, narrow_unsigned (by decide)]; norm_num

theorem conversionValues : ConversionValues := by
  refine ⟨fun p a old ha hold => ?_, fun p a ha => ?_, fun a ha => ?_⟩
  · have hs : s32 (a % 2 ^ 32) = (BitVec.ofNat 32 (a % 2 ^ 32)).toInt := sextInt_eq_toInt _ _
    have hmod : a % 2 ^ 32 % 2 ^ 16 = a % 2 ^ 16 := Nat.mod_mod_of_dvd a (by decide)
    have hdiv : a % 2 ^ 32 / 2 ^ 16 % 2 ^ 16 = a / 2 ^ 16 % 2 ^ 16 := by omega
    refine ⟨toInt_toInteger _ _ _ _ _ _, toInt_toInteger _ _ _ _ _ _, ?_, ofInt_delivers (by decide) _ _, convF_converted (by decide) _ _ _ _,
      convF_converted (by decide) _ _ _ _, toInt_toInteger _ _ _ _ _ _, ?_, toInt_toInteger _ _ _ _ _ _, ?_, ?_, ?_, ?_⟩
    · rw [← hs]
      exact ofInt_delivers (by decide) _ _
    · rw [← hs]
      exact ofInt_delivers (by decide) _ _
    · simp only [List.mem_cons, List.not_mem_nil, or_false, Prod.mk.injEq]
      rintro code hi f (⟨rfl, rfl, rfl⟩ | ⟨rfl, rfl, rfl⟩ | ⟨rfl, rfl, rfl⟩ | ⟨rfl, rfl, rfl⟩)
      all_goals exact ⟨_, convF_converted (by decide) _ _ _ _, congrArg Prod.fst (intoHalf_value hold _ _)⟩
    · simp only [List.mem_cons, List.not_mem_nil, or_false, Prod.mk.injEq]
      rintro code hi f (⟨rfl, rfl, rfl⟩ | ⟨rfl, rfl, rfl⟩ | ⟨rfl, rfl, rfl⟩ | ⟨rfl, rfl, rfl⟩)
      · rw [if_neg Bool.false_ne_true, ← hmod]; exact convF_converted (by decide) _ _ _ _
      · rw [if_pos rfl, ← hdiv]; exact convF_converted (by decide) _ _ _ _
      · rw [if_neg Bool.false_ne_true, ← hmod]; exact convF_converted (by decide) _ _ _ _
      · rw [if_pos rfl, ← hdiv]; exact convF_converted (by decide) _ _ _ _
    · simp only [List.mem_cons, List.not_mem_nil, or_false, Prod.mk.injEq]
      rintro code f g (⟨rfl, rfl, rfl⟩ | ⟨rfl, rfl, rfl⟩)
      all_goals
        rw [if_neg Bool.false_ne_true, if_pos trivial, ← hmod, ← hdiv]
        exact ⟨_, _, convF_converted (by decide) _ _ _ _, convF_converted (by decide) _ _ _ _, rfl⟩
    · exact convert_narrow p _ old
  · refine ⟨?_, ?_⟩
    · simp only [List.mem_cons, List.not_mem_nil, or_false, Prod.mk.injEq]
      rintro code lo hi n (⟨rfl, rfl, rfl, rfl⟩ | ⟨rfl, rfl, rfl, rfl⟩ | ⟨rfl, rfl, rfl, rfl⟩)
      all_goals exact toInt_toInteger _ _ _ _ _ _
    · simp only [List.mem_cons, List.not_mem_nil, or_false, Prod.mk.injEq]
      rintro code f (⟨rfl, rfl⟩ | ⟨rfl, rfl⟩ | ⟨rfl, rfl⟩)
      all_goals exact convF_converted (by decide) _ _ _ _
  · refine ⟨?_, ?_, fun _ => ?_, ?_, fun _ => convF_converted (by decide) _ _ _ _⟩
    · rw [← sextInt_eq_toInt]
      exact ofInt_delivers (by decide) _ _
    · have hbyte : unpackFrom 0x02 a = ofInt f32 .rne (a : ℤ) := congrArg (fun n : Nat => ofInt f32 .rne n) (Nat.mod_eq_of_lt ha)
      rw [hbyte]
      exact ofInt_delivers (by decide) _ _
    · rw [← sextInt_eq_toInt]
      exact ofInt_delivers (by decide) _ _
    · simp only [List.mem_cons, List.not_mem_nil, or_false, Prod.mk.injEq]
      rintro code f (⟨rfl, rfl⟩ | ⟨rfl, rfl⟩)
      all_goals exact convF_converted (by decide) _ _ _ _

/-- Settles O12: the words element by element, and each conversion by the delivery of its exact number. -/
theorem laneConversions : Obligations.LaneConversions := ⟨laneConversionWords, conversionValues⟩

/-! ## The exact points of the special functions (R136, R137) -/

/-- An exact result in the range of FP32 is delivered as it is, without a flag. -/
theorem sfuDeliver_exact (n : Nat) {v : Val} {neg : Bool} {q : ℚ} (hfl : sfuFlags v = 0) (hv : v.number = .num neg q) (hq : Fits f32 q) :
    IsResult f32 (.num neg q) 0 (sfuDeliver 0 n v) := by
  have hd := deliver_delivered (f := f32) (Fmt.regular (by decide)) .rne false v
  rw [hv, hq.delivered_iff] at hd
  obtain ⟨hcode, hnum, -⟩ := hd
  have hres : sfuDeliver 0 n v = ((deliver f32 .rne false v).1, 0) := by
    rw [sfuDeliver, hfl, if_neg (by decide), if_pos rfl]
  rw [hres]
  exact ⟨hcode, hnum, rfl⟩

theorem largest_f32 : (2 : ℚ) ^ (127 : ℤ) ≤ largest f32 := by norm_num [largest, f32]

theorem fits_f32 {neg : Bool} {m : Nat} {e : Int} (hm : m < 2 ^ 24) (he : -149 ≤ e) (hmax : (m : ℚ) * 2 ^ e ≤ 2 ^ (127 : ℤ)) :
    Fits f32 (signedNumber neg m e) :=
  ⟨neg, m, e, rfl, hm, he, by rw [abs_signedNumber]; exact hmax.trans largest_f32⟩

theorem sfuFlags_of_range {neg : Bool} {m : Nat} {e : Int} (hlow : -149 ≤ e) (hhigh : m ≠ 0 → topExp m e < 128) : sfuFlags (.fin neg m e) = 0 := by
  by_cases hm : m = 0
  · simp [sfuFlags, hm]
  · have htop : ¬ 128 ≤ topExp m e := not_le.2 (hhigh hm)
    have hexact : (roundTo .rtz neg m e (-149)).2 = false := by rw [roundTo, if_pos hlow]
    simp [sfuFlags, hm, htop, hexact]

/-- The finite codes of FP32. -/
theorem unpack_f32_of_num {a : Nat} {neg : Bool} {q : ℚ} (hnum : Claims.number f32 a = .num neg q) :
    ∃ m e, unpack f32 a = .fin neg m e ∧ q = signedNumber neg m e ∧ m < 2 ^ 24 ∧ -149 ≤ e ∧ e ≤ 106 := by
  rw [← number_unpack] at hnum
  cases hv : unpack f32 a with
  | nan s => rw [hv] at hnum; cases hnum
  | inf n => rw [hv] at hnum; cases hnum
  | fin n m e =>
    rw [hv] at hnum
    obtain ⟨rfl, rfl⟩ := Number.num.inj hnum
    obtain ⟨hm, hlow, hhigh⟩ := unpack_fin_bounds hv
    simp only [f32] at hm hlow hhigh
    exact ⟨m, e, rfl, rfl, hm, by omega, by omega⟩

/-- An integer is its sign and its magnitude. -/
theorem natAbs_of_signed {neg : Bool} {m : Nat} {e : Int} {k : ℤ} (h : signedNumber neg m e = k) : (m : ℚ) * 2 ^ e = k.natAbs := by
  have := congrArg abs h
  rwa [abs_signedNumber, ← Int.cast_abs, ← Nat.cast_natAbs] at this

/-- The fixed-point form of a whole number, and of its fraction bits. -/
theorem fxOf_whole {m K : Nat} {e : Int} (h : (m : ℚ) * 2 ^ e = K) (he : -512 ≤ e) : fxOf m e = K * fxOne := by
  have hcast : ((m * 2 ^ (e + fxBits).toNat : Nat) : ℚ) = (K * fxOne : Nat) := by
    have hpow : (2 : ℚ) ^ (e + fxBits).toNat = 2 ^ e * 2 ^ fxBits := by
      rw [← zpow_natCast, ← zpow_natCast, ← zpow_add₀ two_ne_zero, Int.toNat_of_nonneg (by simp only [fxBits]; omega)]
    rw [fxOne, Nat.cast_mul, Nat.cast_mul, Nat.cast_pow, Nat.cast_pow, Nat.cast_ofNat, hpow, ← mul_assoc, h]
  rw [fxOf, if_pos (by simp only [fxBits]; omega)]
  exact_mod_cast hcast

/-- A number that is whole has no bits below its ones. -/
theorem whole_bits {m K : Nat} {e : Int} (h : (m : ℚ) * 2 ^ e = K) (he : ¬ 0 ≤ e) : m = K * 2 ^ (-e).toNat := by
  have hpow : (2 : ℚ) ^ (-e).toNat * 2 ^ e = 1 := by
    rw [← zpow_natCast, Int.toNat_of_nonneg (by omega), ← zpow_add₀ two_ne_zero, neg_add_cancel, zpow_zero]
  have hcast : (m : ℚ) = (K * 2 ^ (-e).toNat : Nat) := by
    rw [Nat.cast_mul, ← h, Nat.cast_pow, Nat.cast_ofNat, mul_assoc, mul_comm (2 ^ e), hpow, mul_one]
  exact_mod_cast hcast

theorem exactExp2_whole {neg : Bool} {m : Nat} {e k : Int} (hk : signedNumber neg m e = k) (hm : m ≠ 0) (he : -512 ≤ e)
    (hlow : -300 < k) (hhigh : k < 300) :
    exactExp2 neg m e = .fin false 1 k := by
  have hpos : 0 < fxOne := by unfold fxOne; positivity
  have hwhole := fxOf_whole (natAbs_of_signed hk) he
  have hval : (0 : ℚ) < (m : ℚ) * 2 ^ e := by positivity
  have hsign : if neg then k < 0 else 0 < k := by
    cases neg with
    | true => have : (k : ℚ) < 0 := by rw [← hk, signedNumber, if_pos rfl]; linarith
              exact_mod_cast this
    | false => have : (0 : ℚ) < k := by rw [← hk, signedNumber, if_neg Bool.false_ne_true]; exact hval
               exact_mod_cast this
  simp only [exactExp2, hwhole, Nat.mul_mod_left, Nat.mul_div_cancel _ hpos, if_true]
  cases neg with
  | true =>
    simp only [if_true] at hsign ⊢
    rw [if_neg (by omega), show -(k.natAbs : ℤ) = k by omega]
  | false =>
    simp only [Bool.false_eq_true, if_false] at hsign ⊢
    rw [if_neg (by omega), show (k.natAbs : ℤ) = k by omega]

theorem exp2_exact {n a : Nat} {neg : Bool} {q : ℚ} (hnum : Claims.number f32 a = .num neg q) {k : ℤ} (hk : q = k)
    (hlow : -149 ≤ k) (hhigh : k ≤ 127) :
    IsResult f32 (.num false (2 ^ k)) 0 (sfu 3 n a) := by
  obtain ⟨m, e, hv, rfl, hm, he, -⟩ := unpack_f32_of_num hnum
  have habs := natAbs_of_signed hk
  have hflags : sfuFlags (.fin false 1 k) = 0 := sfuFlags_of_range hlow fun _ => by rw [topExp, show Nat.log2 1 = 0 by decide]; omega
  have hone : (Val.fin false 1 k).number = .num false (2 ^ k) := by simp [Val.number, signedNumber]
  have hfits : Fits f32 ((2 : ℚ) ^ k) := by
    have := fits_f32 (neg := false) (m := 1) (e := k) (by decide) hlow (by rw [Nat.cast_one, one_mul]; exact zpow_le_zpow_right₀ one_le_two hhigh)
    simpa [signedNumber] using this
  have hvalue : (if m = 0 then Val.fin false 1 0 else exactExp2 neg m e) = .fin false 1 k := by
    by_cases hm0 : m = 0
    · rw [hm0, signedNumber_zero] at hk
      rw [if_pos hm0, show k = 0 by exact_mod_cast hk.symm]
    · rw [if_neg hm0, exactExp2_whole hk hm0 (by omega) (by omega) (by omega)]
  have hwhole : (decide (m = 0) || decide (0 ≤ e) || decide (m % 2 ^ (-e).toNat = 0)) = true := by
    by_cases he0 : 0 ≤ e
    · simp [he0]
    · simp [whole_bits habs he0]
  have hres : sfu 3 n a = sfuDeliver 0 n (.fin false 1 k) := by
    simp only [sfu, hv, hvalue, hwhole, hflags, decide_true, Bool.and_self, if_true]
  rw [hres]
  exact sfuDeliver_exact n hflags hone hfits

theorem exactLog2_power {m : Nat} {e k : Int} (hk : (m : ℚ) * 2 ^ e = 2 ^ k) (hm : m < 2 ^ 24) :
    m = 2 ^ m.log2 ∧ topExp m e = k ∧ exactLog2 m e = intV k := by
  have hm0 : m ≠ 0 := by rintro rfl; rw [Nat.cast_zero, zero_mul] at hk; exact (zpow_pos two_pos k).ne hk
  have htop : topExp m e = k := by
    rw [← topExp_eq_log hm0, hk]
    exact Int.log_zpow one_lt_two k
  have hpow : m = 2 ^ m.log2 := by
    have hcast : (m : ℚ) = (2 ^ m.log2 : Nat) := by
      rw [← mul_left_inj' (zpow_pos (two_pos : (0 : ℚ) < 2) e).ne', hk, Nat.cast_pow, Nat.cast_ofNat, ← zpow_natCast,
          ← zpow_add₀ two_ne_zero, ← htop, topExp, add_comm]
    exact_mod_cast hcast
  have hlog : m.log2 < 24 := (Nat.log2_lt hm0).2 hm
  refine ⟨hpow, htop, ?_⟩
  have hone : fxOf m (e - topExp m e) = fxOne := by
    have h1 : (m : ℚ) * 2 ^ (e - topExp m e) = (1 : Nat) := by
      rw [zpow_sub₀ two_ne_zero, ← mul_div_assoc, hk, htop, div_self (zpow_pos two_pos k).ne', Nat.cast_one]
    rw [fxOf_whole h1 (by unfold topExp; omega), one_mul]
  rw [htop] at hone
  rw [exactLog2, htop]
  simp only [hone, if_true]

theorem log2_exact {n a : Nat} {neg : Bool} {q : ℚ} (hnum : Claims.number f32 a = .num neg q) {k : ℤ} (hk : q = 2 ^ k) :
    IsResult f32 (.num (decide (k < 0)) k) 0 (sfu 4 n a) := by
  obtain ⟨m, e, hv, rfl, hm, he, he'⟩ := unpack_f32_of_num hnum
  have hpos : (0 : ℚ) < 2 ^ k := zpow_pos two_pos k
  obtain rfl : neg = false := by
    cases neg with
    | false => rfl
    | true =>
      have : (0 : ℚ) ≤ (m : ℚ) * 2 ^ e := by positivity
      rw [signedNumber, if_pos rfl] at hk
      linarith
  obtain ⟨hpow, htop, hlog⟩ := exactLog2_power hk hm
  have hm0 : m ≠ 0 := by rw [hpow]; positivity
  have hbound : k.natAbs < 2 ^ 8 := by
    have : m.log2 < 24 := (Nat.log2_lt hm0).2 hm
    unfold topExp at htop
    omega
  have hnumk : (intV k).number = .num (decide (k < 0)) k := by rw [intV, Val.number, signedNumber_natAbs, zpow_zero, mul_one]
  have hres : sfu 4 n a = sfuDeliver 0 n (intV k) := by
    simp only [sfu, hv, if_neg hm0, Bool.false_eq_true, if_false, ← hpow, if_true, hlog]
  rw [hres]
  refine sfuDeliver_exact n ?_ hnumk ?_
  · exact sfuFlags_of_range (by decide) fun h0 => by
      have : k.natAbs.log2 < 8 := (Nat.log2_lt h0).2 hbound
      unfold topExp
      omega
  · have := fits_f32 (neg := decide (k < 0)) (m := k.natAbs) (e := 0) (by omega) (by decide) (by
      rw [zpow_zero, mul_one]
      have h1 : (k.natAbs : ℚ) ≤ 2 ^ 8 := by exact_mod_cast hbound.le
      exact h1.trans (by norm_num))
    rwa [signedNumber_natAbs, zpow_zero, mul_one] at this

/-- A turn by a multiple of a quarter, for a number of J halves. -/
theorem exactTrig_halves (c neg : Bool) {m J : Nat} {e : Int} (h : 2 * ((m : ℚ) * 2 ^ e) = J) : exactTrig c neg m e =
    let qq := if c then (J + 1) % 4 else J % 4
    if qq % 2 = 0 then .fin (if c then false else neg) 0 0 else .fin (decide (2 ≤ qq) != (if c then false else neg)) 1 0 := by
  by_cases he : 1 ≤ e
  · have hJ : J % 4 = 0 := by
      have hpow : (2 : ℚ) ^ e = 2 * 2 ^ (e - 1).toNat := by
        rw [← zpow_natCast, Int.toNat_of_nonneg (by omega), ← zpow_one_add₀ two_ne_zero, add_sub_cancel]
      have hcast : (J : ℚ) = (4 * (m * 2 ^ (e - 1).toNat) : Nat) := by rw [← h, hpow]; push_cast; ring
      have hJ : J = 4 * (m * 2 ^ (e - 1).toNat) := by exact_mod_cast hcast
      omega
    have hJ' : (J + 1) % 4 = 1 := by omega
    rw [exactTrig, if_pos he]
    cases c <;> simp [hJ, hJ']
  · rw [exactTrig, if_neg he]
    set k := (-e).toNat with hk
    have hJ : 2 * m = J * 2 ^ k := by
      have hpow : (2 : ℚ) ^ k * 2 ^ e = 1 := by
        rw [← zpow_natCast, Int.toNat_of_nonneg (by omega), ← zpow_add₀ two_ne_zero, neg_add_cancel, zpow_zero]
      have hcast : ((2 * m : Nat) : ℚ) = (J * 2 ^ k : Nat) := by
        push_cast
        rw [← h, show 2 * ((m : ℚ) * 2 ^ e) * 2 ^ k = 2 * m * (2 ^ k * 2 ^ e) by ring, hpow, mul_one]
      exact_mod_cast hcast
    have hu : 2 * (m % 2 ^ (k + 1)) = J % 4 * 2 ^ k := by
      rw [← Nat.mul_mod_mul_left, hJ, show 2 * 2 ^ (k + 1) = 4 * 2 ^ k by ring, Nat.mul_mod_mul_right]
    have hq : 2 * (m % 2 ^ (k + 1)) / 2 ^ k = J % 4 := by rw [hu, Nat.mul_div_cancel _ (by positivity)]
    have hrest : 2 * (m % 2 ^ (k + 1)) % 2 ^ k = 0 := by rw [hu, Nat.mul_mod_left]
    have hnext : (J % 4 + 1) % 4 = (J + 1) % 4 := by omega
    simp only [hq, hrest, hnext, if_true]

/-- A multiple of one half has its bits where R137 fixes the result. -/
theorem trigFixed_halves {m J : Nat} {e : Int} (h : 2 * ((m : ℚ) * 2 ^ e) = J) : sfu.trigFixed m e = true := by
  by_cases he : -2 ≤ e
  · simp [sfu.trigFixed, he]
  · have hJ : m = 2 * J * 2 ^ (-e - 2).toNat := by
      have hpow : (2 : ℚ) ^ (-e - 2).toNat * 2 ^ e * 4 = 1 := by
        rw [← zpow_natCast, Int.toNat_of_nonneg (by omega), ← zpow_add₀ two_ne_zero, show -e - 2 + e = -2 by ring]
        norm_num
      have hcast : (m : ℚ) = (2 * J * 2 ^ (-e - 2).toNat : Nat) := by
        push_cast
        rw [← h, show 2 * (2 * ((m : ℚ) * 2 ^ e)) * 2 ^ (-e - 2).toNat = m * (2 ^ (-e - 2).toNat * 2 ^ e * 4) by ring, hpow, mul_one]
      exact_mod_cast hcast
    have hmod : m % 2 ^ (-e - 2).toNat = 0 := by rw [hJ, Nat.mul_mod_left]
    simp [sfu.trigFixed, hmod]

theorem sfuDeliver_zero (n : Nat) (s : Bool) : IsResult f32 (.num s 0) 0 (sfuDeliver 0 n (.fin s 0 0)) :=
  sfuDeliver_exact n (sfuFlags_of_range (by decide) (absurd rfl)) (by rw [Val.number, signedNumber_zero])
    (by have := fits_f32 (neg := s) (m := 0) (e := 0) (by decide) (by decide) (by norm_num); rwa [signedNumber_zero] at this)

theorem sfuDeliver_one (n : Nat) (s : Bool) : IsResult f32 (.num s (if s then -1 else 1)) 0 (sfuDeliver 0 n (.fin s 1 0)) := by
  have hone : signedNumber s 1 0 = if s then -1 else 1 := by cases s <;> simp [signedNumber]
  refine sfuDeliver_exact n (sfuFlags_of_range (by decide) fun _ => by rw [topExp, show Nat.log2 1 = 0 by decide]; decide) (by rw [Val.number, hone]) ?_
  have := fits_f32 (neg := s) (m := 1) (e := 0) (by decide) (by decide) (by norm_num)
  rwa [hone] at this

/-- `sinpi` and `cospi` of a number of halves. -/
theorem sinpi_cospi_halves (n : Nat) {a J : Nat} {neg : Bool} {q : ℚ} (hnum : Claims.number f32 a = .num neg q) (hJ : 2 * |q| = J) :
    (J % 2 = 0 → IsResult f32 (.num neg 0) 0 (sfu 5 n a) ∧
      IsResult f32 (.num (decide (2 ≤ (J + 1) % 4)) (if decide (2 ≤ (J + 1) % 4) then -1 else 1)) 0 (sfu 6 n a)) ∧
    (J % 2 = 1 → IsResult f32 (.num (decide (2 ≤ J % 4) != neg) (if decide (2 ≤ J % 4) != neg then -1 else 1)) 0 (sfu 5 n a) ∧
      IsResult f32 (.num false 0) 0 (sfu 6 n a)) := by
  obtain ⟨m, e, hv, rfl, -, -, -⟩ := unpack_f32_of_num hnum
  rw [abs_signedNumber] at hJ
  have hsin : sfu 5 n a = sfuDeliver 0 n (exactTrig false neg m e) := by simp only [sfu, hv, trigFixed_halves hJ, if_true]
  have hcos : sfu 6 n a = sfuDeliver 0 n (exactTrig true neg m e) := by simp only [sfu, hv, trigFixed_halves hJ, if_true]
  rw [hsin, hcos, exactTrig_halves false neg hJ, exactTrig_halves true neg hJ]
  simp only [Bool.false_eq_true, if_false, if_true, Bool.bne_false]
  refine ⟨fun h => ?_, fun h => ?_⟩
  · have h₁ : J % 4 % 2 = 0 := by omega
    have h₂ : ¬ (J + 1) % 4 % 2 = 0 := by omega
    simp only [h₁, h₂, if_true, if_false]
    exact ⟨sfuDeliver_zero n neg, sfuDeliver_one n _⟩
  · have h₁ : ¬ J % 4 % 2 = 0 := by omega
    have h₂ : (J + 1) % 4 % 2 = 0 := by omega
    simp only [h₁, h₂, if_true, if_false]
    exact ⟨sfuDeliver_one n _, sfuDeliver_zero n false⟩

theorem sinpi_cospi_whole (n : Nat) {a : Nat} {neg : Bool} {k : ℤ} (hnum : Claims.number f32 a = .num neg k) :
    IsResult f32 (.num neg 0) 0 (sfu 5 n a) ∧ IsResult f32 (.num (decide (k % 2 = 1)) (if k % 2 = 1 then -1 else 1)) 0 (sfu 6 n a) := by
  have hJ : 2 * |(k : ℚ)| = (2 * k.natAbs : Nat) := by rw [← Int.cast_abs, Nat.cast_mul, Nat.cast_natAbs]; rfl
  have hodd : (2 ≤ (2 * k.natAbs + 1) % 4) = (k % 2 = 1) := by rw [eq_iff_iff]; omega
  have h := (sinpi_cospi_halves n hnum hJ).1 (by omega)
  simpa only [hodd, decide_eq_true_eq] using h

theorem sinpi_cospi_half (n : Nat) {a : Nat} {neg : Bool} {k : ℤ} (hnum : Claims.number f32 a = .num neg (k + 1 / 2)) :
    IsResult f32 (.num (decide (k % 2 = 1)) (if k % 2 = 1 then -1 else 1)) 0 (sfu 5 n a) ∧ IsResult f32 (.num false 0) 0 (sfu 6 n a) := by
  have htwo : (2 : ℚ) * (k + 1 / 2) = ((2 * k + 1 : ℤ) : ℚ) := by push_cast; ring
  have hJ : 2 * |(k + 1 / 2 : ℚ)| = ((2 * k + 1).natAbs : Nat) := by
    rw [← abs_two, ← abs_mul, abs_two, htwo, ← Int.cast_abs, Nat.cast_natAbs]
  have hsign : neg = decide (k < 0) := by
    have hs : Signed (Claims.number f32 a) := by rw [← number_unpack]; exact Val.number_signed _
    rw [hnum] at hs
    have hne : (k + 1 / 2 : ℚ) ≠ 0 := fun h0 => by
      have : ((2 * k + 1 : ℤ) : ℚ) = 0 := by rw [← htwo, h0, mul_zero]
      have : (2 * k + 1 : ℤ) = 0 := by exact_mod_cast this
      omega
    have hneg : (k + 1 / 2 : ℚ) < 0 ↔ k < 0 := by
      have htwice : (k + 1 / 2 : ℚ) < 0 ↔ ((2 * k + 1 : ℤ) : ℚ) < 0 := by rw [← htwo]; constructor <;> intro h <;> linarith
      rw [htwice, Int.cast_lt_zero]
      omega
    rw [hs hne, decide_eq_decide.2 hneg]
  have hodd : (decide (2 ≤ (2 * k + 1).natAbs % 4) != neg) = decide (k % 2 = 1) := by
    by_cases hk : k < 0
    · rw [hsign, decide_eq_true hk, Bool.bne_true, ← decide_not, decide_eq_decide]
      omega
    · rw [hsign, decide_eq_false hk, Bool.bne_false, decide_eq_decide]
      omega
  have h := (sinpi_cospi_halves n hnum hJ).2 (by omega)
  simpa only [hodd, decide_eq_true_eq] using h

theorem sqrt_root {n a : Nat} {neg : Bool} {q : ℚ} (hnum : Claims.number f32 a = .num neg q) (hpos : 0 < q) :
    ∃ y, RootOf f32 .rne q y ∧ sfu 2 n a = (y.1, 0) := by
  obtain ⟨m, e, hv, rfl, -, -, -⟩ := unpack_f32_of_num hnum
  have hm : m ≠ 0 := fun h0 => hpos.ne' (signedNumber_eq_zero.2 h0)
  obtain rfl : neg = false := by
    cases neg with
    | false => rfl
    | true =>
      have : (0 : ℚ) ≤ (m : ℚ) * 2 ^ e := by positivity
      rw [signedNumber, if_pos rfl] at hpos
      linarith
  refine ⟨_, sqrtV_rootOf (.inr rfl) .rne false hm hv, ?_⟩
  simp only [sfu, hv, sqrtV_flags hm]

theorem specialFunctionEdges : SpecialFunctionEdges := by
  intro n
  have hlog : sfu 4 n 0x3F800000 = (0, 0) := by
    have hone : Claims.number f32 0x3F800000 = .num false 1 := by norm_num [Claims.number, f32, Nat.testBit_eq_decide_div_mod_eq]
    have hzero : IsResult f32 (.num false 0) 0 (0, 0) :=
        ⟨(number_signBit (f := f32) (Fmt.regular (by decide)) false).1, (number_signBit (f := f32) (Fmt.regular (by decide)) false).2, rfl⟩
    have h := log2_exact (n := n) hone (k := 0) (by norm_num)
    rw [Int.cast_zero] at h
    exact isResult_unique (f := f32) (Fmt.regular (by decide)) rfl h hzero
  refine ⟨fun op _ => ⟨rfl, rfl⟩, rfl, rfl, rfl, rfl, rfl, rfl, rfl, rfl, rfl, rfl, rfl, rfl, rfl, hlog, rfl, rfl, rfl, rfl, rfl, rfl, rfl, rfl, ?_⟩
  intro a neg q ha hnum
  refine ⟨fun k hk hlow hhigh => exp2_exact hnum hk hlow hhigh, fun k hk => log2_exact hnum hk, fun k hk => sinpi_cospi_whole n (hk ▸ hnum),
    fun k hk => sinpi_cospi_half n (hk ▸ hnum), fun hpos => ?_⟩
  exact sqrt_root hnum hpos

/-- Settles O11: the words element by element; every exact result rounded once by one theorem about the delivery of a number; the exact points of the
special functions, whose values FP32 holds. -/
theorem floatLaneWords : Obligations.FloatLaneWords := ⟨floatElementWords, floatArithmetic, laneSpecialFunctions, specialFunctionEdges⟩

end Sys2Proof.Machine
end

section
/-! PROOFS. Frames at rest while the caches take and give up lines (R262-R265, R275). -/

namespace Sys2Proof.Machine

set_option Elab.async false
open Claims

/-! ## What the caches' bookkeeping leaves of a frame that is not DEAD

A write-back may start the zero fill of a DEAD frame (R275), which touches that frame alone. -/

/-- The state without what the caches' bookkeeping and the zero fills of frames change. -/
def State.stripped (s : State) : State :=
  { s.bare with mem := [], desc := [], poison := [], eccErrors := [], scrub := [], frames := [] }

/-- A write-back to a frame would fill it first. -/
def State.fillable (s : State) (f : Nat) : Bool := decide (f < s.hbmFrames) && (s.frame f).dead

/-- No error is recorded, and the frame is not DEAD. -/
structure FrameAtRest (f : Nat) (s : State) : Prop where
  alive : s.fillable f = false
  ecc : s.eccErrors = []
  l2 : s.l2Errors = []

/-- From one state to the other the frame stays at rest and its bytes and descriptors stay. -/
structure Spares (f : Nat) (s t : State) : Prop where
  stripped : t.stripped = s.stripped
  bytes : ∀ p, frameOf p = f → tabGet 0 t.mem p = tabGet 0 s.mem p
  descs : ∀ b, b / 1024 = f → tabGet 0 t.desc b = tabGet 0 s.desc b
  rest : FrameAtRest f t

theorem Spares.read {f : Nat} {s t : State} (h : Spares f s t) {α : Type} (q : State → α) (hq : ∀ v : State, q v.stripped = q v) : q t = q s := by
  rw [← hq t, ← hq s, h.stripped]

theorem Spares.trans {f : Nat} {s t v : State} (a : Spares f s t) (b : Spares f t v) : Spares f s v :=
  ⟨b.stripped.trans a.stripped, fun p hp => (b.bytes p hp).trans (a.bytes p hp), fun p hp => (b.descs p hp).trans (a.descs p hp), b.rest⟩

theorem FrameAtRest.refl {f : Nat} {s : State} (r : FrameAtRest f s) : Spares f s s := ⟨rfl, fun _ _ => rfl, fun _ _ => rfl, r⟩

/-- What changes only the caches' own tables spares every frame. -/
theorem FrameAtRest.of_bare {f : Nat} {s t : State} (r : FrameAtRest f s) (h : t.bare = s.bare) : Spares f s t := by
  have field {α : Type} (q : State → α) (hq : ∀ v : State, q v.bare = q v) : q t = q s := by rw [← hq t, ← hq s, h]
  have hmem : t.mem = s.mem := field State.mem fun _ => rfl
  have hdesc : t.desc = s.desc := field State.desc fun _ => rfl
  refine ⟨?_, fun p _ => by rw [hmem], fun b _ => by rw [hdesc], ?_, ?_, ?_⟩
  · unfold State.stripped
    rw [h]
  · exact (field (fun v => v.fillable f) fun _ => rfl).trans r.alive
  · exact (field State.eccErrors fun _ => rfl).trans r.ecc
  · exact (field State.l2Errors fun _ => rfl).trans r.l2

theorem FrameAtRest.of_cacheOnly {f : Nat} {s t : State} (r : FrameAtRest f s) (h : CacheOnly s t) : Spares f s t := r.of_bare h.bare

theorem Spares.cacheOnly {f : Nat} {s t v : State} (h : Spares f s t) (hv : CacheOnly t v) : Spares f s v := h.trans (h.rest.of_cacheOnly hv)

theorem Spares.bare {f : Nat} {s t v : State} (h : Spares f s t) (hv : v.bare = t.bare) : Spares f s v := h.trans (h.rest.of_bare hv)

theorem Spares.modDie {f : Nat} {s t : State} (h : Spares f s t) (d : Nat) (k : Die → Die) : Spares f s (t.modDie d k) := h.bare rfl

theorem FrameAtRest.foldl {β : Type} {f : Nat} {g : State → β → State} {s : State} (r : FrameAtRest f s) (l : List β)
    (h : ∀ t b, FrameAtRest f t → Spares f t (g t b)) : Spares f s (l.foldl g s) :=
  foldl_keeps (Spares f s) g l s r.refl fun t b ht => ht.trans (h t b ht.rest)

theorem isHbm_eq (s : State) (a : Nat) : isHbm s a = decide (frameOf a < s.hbmFrames) := by
  unfold isHbm frameOf
  rw [decide_eq_decide, Nat.div_lt_iff_lt_mul (by decide)]

theorem State.fillable_frameOf (s : State) (a : Nat) : s.fillable (frameOf a) = (isHbm s a && (s.frame (frameOf a)).dead) := by
  rw [isHbm_eq]
  rfl

/-- The zero fill of another frame. -/
theorem FrameAtRest.fillDead {f k : Nat} {s : State} (r : FrameAtRest f s) (h : k ≠ f) : Spares f s (s.fillDead k) := by
  obtain ⟨halive, hecc, hl2⟩ := r
  have hframe : (s.fillDead k).frame f = s.frame f := tabGet_tabSet_ne _ _ _ (Ne.symm h)
  refine ⟨rfl, fun p hp => ?_, fun b hb => ?_, ?_, ?_, hl2⟩
  · have hk : p / 64 / 1024 ≠ k := by
      unfold frameOf at hp
      omega
    show tabGet 0 (s.mem.filter _) p = _
    unfold tabGet
    rw [tabFind_filter_key (fun p => decide (p / 64 / 1024 ≠ k) || (tabFind s.under (p / 64)).isSome), if_pos (by simp [hk])]
  · show tabGet 0 (s.desc.filter _) b = _
    unfold tabGet
    rw [tabFind_filter_key (fun b => decide (b / 1024 ≠ k) || (tabFind s.under b).isSome), if_pos (by simp [hb, Ne.symm h])]
  · show (decide (f < s.hbmFrames) && ((s.fillDead k).frame f).dead) = false
    rw [hframe]
    exact halive
  · show s.eccErrors.filter _ = []
    rw [hecc]
    rfl

section
variable {f : Nat} {s : State} (r : FrameAtRest f s)
include r

theorem FrameAtRest.blockWritten (b : Nat) : Spares f s (s.blockWritten b) := by
  have written {t : State} (h : Spares f s t) (c : Nat) :
      Spares f s { t with versions := tabMod 0 t.versions c (fun n => n + 1), eccErrors := t.eccErrors.filter (fun e => decide (e.1 ≠ c)) } := by
    refine h.bare ?_
    rw [h.rest.ecc]
    exact congrArg (fun e => { t.bare with eccErrors := e }) h.rest.ecc.symm
  unfold State.blockWritten
  dsimp only
  split
  next hd =>
    refine written (r.fillDead fun hk => ?_) _
    rw [← State.fillable_frameOf, hk, r.alive] at hd
    cases hd
  next => exact written r.refl _

theorem FrameAtRest.settleLine (a : Nat) : Spares f s (s.settleLine a) := by
  have h : Spares f s ((s.under.filter (fun e => decide (e.1 / 8 = a / 512))).foldl (fun t e => t.blockWritten e.1) s) :=
    r.foldl _ fun t e ht => ht.blockWritten e.1
  exact h.bare rfl

theorem FrameAtRest.l2Drop (a : Nat) : Spares f s (s.l2Drop a) := by
  have h := r.of_cacheOnly (s.recallLine_cacheOnly a)
  unfold State.l2Drop
  split
  · exact (h.modDie _ _).trans ((h.modDie _ _).rest.settleLine a)
  · exact h

theorem FrameAtRest.l2Storage (a : Nat) : s.l2Storage a = s := by
  rw [State.l2Storage, r.l2]
  rfl

theorem FrameAtRest.eccGrain (g a : Nat) : s.eccGrain g a = s := by
  refine foldl_fixed_of_mem fun i _ => ?_
  rw [State.eccRead, State.eccReadAt, r.ecc]
  rfl

theorem FrameAtRest.l2Evict (a : Nat) : Spares f s (s.l2Evict a) := by
  have hclean : ({ s with l2Errors := s.l2Errors.filter (fun b => decide (b / 8 ≠ a / 512)) } : State) = s := by
    rw [r.l2]
    exact congrArg (fun e => { s with l2Errors := e }) r.l2.symm
  unfold State.l2Evict
  dsimp only
  rw [hclean, r.l2Storage]
  split
  · rw [ite_self]
    exact r.l2Drop a
  · exact r.l2Drop a

end

theorem FrameAtRest.l2Place {f : Nat} {s : State} (r : FrameAtRest f s) (a g : Nat) (b : BitVec 16) (n : Nat) :
    Spares f s (State.l2Place a g b n s) := by
  induction n generalizing s with
  | zero => exact r.refl
  | succ n ih =>
    unfold State.l2Place
    split
    · exact r.refl
    · have goesOn {t : State} (h : Spares f s t) {c : Prop} [Decidable c] (d : Nat) (k : Die → Die) :
          Spares f s (if c then State.l2Place a g b n t else t.modDie d k) := by
        split
        · exact h.trans (ih h.rest)
        · exact h.bare rfl
      dsimp only
      split
      · exact goesOn (r.l2Evict _) _ _
      · exact goesOn r.refl _ _

theorem FrameAtRest.l2Ensure {f : Nat} {s : State} (r : FrameAtRest f s) (a g : Nat) : Spares f s (s.l2Ensure a g).1 := by
  unfold State.l2Ensure
  dsimp only
  rw [r.l2Storage, r.eccGrain]
  split
  · split
    · rw [ite_self]
      exact r.of_bare rfl
    · exact r.refl
  · exact r.l2Place _ _ _ _

/-! ## Requests to the home slice -/

theorem State.l1Set_cacheOnly (s : State) (p a g : Nat) (c : Coh) : CacheOnly s (s.l1Set p a g c) := by
  unfold State.l1Set
  extract_lets x set lru way old evicted l s1
  have h : CacheOnly s s1 := s.modPlot_cacheOnly p fun _ => rfl
  clear_value evicted
  split
  · exact h.trans (s1.wakeWatch_cacheOnly p _)
  · exact h

@[simp] theorem State.l1Set_unwatched (s : State) (p a g : Nat) (c : Coh) : unwatched (s.l1Set p a g c).groups = unwatched s.groups := by
  unfold State.l1Set
  extract_lets x set lru way old evicted l s1
  clear_value evicted
  split
  · exact s1.wakeWatch_unwatched p _
  · rfl

theorem State.l1Touch_cacheOnly (s : State) (p a : Nat) : CacheOnly s (s.l1Touch p a) := by
  unfold State.l1Touch
  split
  · exact s.modPlot_cacheOnly p fun _ => rfl
  · exact CacheOnly.refl s

theorem State.l1Touch_groups (s : State) (p a : Nat) : (s.l1Touch p a).groups = s.groups := by
  unfold State.l1Touch
  split <;> rfl

theorem State.invalidateQuad_cacheOnly (s : State) (q a : Nat) (k : Option Nat) : CacheOnly s (s.invalidateQuad q a k) :=
  CacheOnly.foldl _ fun t _ p => by
    split
    · exact CacheOnly.refl t
    · exact t.l1Drop_cacheOnly p _ _

theorem State.setDir_cacheOnly (s : State) (a : Nat) (e : Option DirEntry) : CacheOnly s (s.setDir a e) := by
  unfold State.setDir
  split
  · split
    · exact (CacheOnly.refl s).modDie _ _
    · exact CacheOnly.refl s
  · exact CacheOnly.refl s

section
variable {f : Nat} {s : State} (r : FrameAtRest f s)
include r

theorem FrameAtRest.serveWrite (p a g : Nat) : Spares f s (s.serveWrite p a g) := by
  have h := r.l2Ensure a g
  unfold State.serveWrite
  dsimp only
  split
  · exact h
  · refine Spares.cacheOnly ?_ (State.l1Set_cacheOnly _ _ _ _ _)
    refine Spares.cacheOnly ?_ (State.setDir_cacheOnly _ _ _)
    split
    · exact h
    · exact h.cacheOnly (CacheOnly.foldl _ fun t _ q => t.invalidateQuad_cacheOnly q _ _)

theorem FrameAtRest.serveHome (a g : Nat) : Spares f s (s.serveHome a g) := by
  have h := r.l2Ensure a g
  unfold State.serveHome
  dsimp only
  refine Spares.cacheOnly ?_ (State.setDir_cacheOnly _ _ _)
  split
  · exact h
  · exact h.cacheOnly (CacheOnly.foldl _ fun t _ q => t.invalidateQuad_cacheOnly q _ _)

theorem FrameAtRest.deadAt {p : Nat} (hp : frameOf p = f) : s.deadAt p = false := by
  have h := r.alive
  rw [← hp, State.fillable_frameOf] at h
  rw [State.deadAt, h, Bool.false_and]

/-- A block of the frame becomes dirty. -/
theorem FrameAtRest.l2Dirty {a : Nat} (ha : frameOf a = f) (c : Nat) : Spares f s (s.l2Dirty a c) := by
  have keep {t : State} (h : Spares f s t) : Spares f s (t.keepUnder a) := by
    unfold State.keepUnder
    dsimp only
    split
    · exact h
    · rw [h.rest.deadAt ha, if_neg Bool.false_ne_true]
      exact h.bare rfl
  unfold State.l2Dirty
  split
  · split
    · dsimp only
      refine Spares.bare (keep ?_) rfl
      split
      · exact r.settleLine a
      · exact r.refl
    · exact r.refl
  · exact r.refl

theorem FrameAtRest.homeWrite {a : Nat} (ha : frameOf a = f) (hpool : isPool a = false) (e c : Nat) : Spares f s (s.homeWrite a e c) := by
  unfold State.homeWrite
  dsimp only
  rw [State.servePool_outside hpool, ite_self]
  split
  · exact r.refl
  · exact (r.serveHome _ _).trans ((r.serveHome _ _).rest.l2Dirty ha c)

theorem FrameAtRest.touchWrite {a : Nat} (ha : frameOf a = f) (hpool : isPool a = false) (p e c : Nat) : Spares f s (s.touchWrite p a e c) := by
  have dirty {t : State} (h : Spares f s t) : Spares f s (t.l2Dirty a c) := h.trans (h.rest.l2Dirty ha c)
  unfold State.touchWrite
  dsimp only
  rw [State.servePool_outside hpool, ite_self]
  split
  · exact r.refl
  · split
    · exact dirty (r.of_cacheOnly (State.l1Touch_cacheOnly _ _ _))
    · exact dirty (r.of_cacheOnly (State.l1Set_cacheOnly _ _ _ _ _))
    · exact dirty (r.serveWrite _ _ _)

end

@[simp] theorem State.serveWrite_unwatched (s : State) (p a g : Nat) : unwatched (s.serveWrite p a g).groups = unwatched s.groups := by
  unfold State.serveWrite
  dsimp only
  split
  · exact State.l2Ensure_unwatched _ _ _
  · rw [State.l1Set_unwatched, State.setDir_groups]
    split
    · exact State.l2Ensure_unwatched _ _ _
    · rw [State.foldl_unwatched fun t q => t.invalidateQuad_unwatched q a _, State.l2Ensure_unwatched]

theorem State.l2Dirty_groups (s : State) (a c : Nat) : (s.l2Dirty a c).groups = s.groups := by
  have keep (t : State) : (t.keepUnder a).groups = t.groups := by
    unfold State.keepUnder
    dsimp only
    repeat' split
    all_goals rfl
  unfold State.l2Dirty
  split
  · split
    · dsimp only
      rw [State.setL2, State.modDie_groups, keep]
      split
      · exact State.settleLine_groups _ _
      · rfl
    · rfl
  · rfl

theorem State.homeWrite_unwatched {a : Nat} (s : State) (hpool : isPool a = false) (e c : Nat) :
    unwatched (s.homeWrite a e c).groups = unwatched s.groups := by
  unfold State.homeWrite
  dsimp only
  rw [State.servePool_outside hpool, ite_self]
  split
  · rfl
  · rw [State.l2Dirty_groups, State.serveHome_unwatched]

theorem State.touchWrite_unwatched {a : Nat} (s : State) (hpool : isPool a = false) (p e c : Nat) :
    unwatched (s.touchWrite p a e c).groups = unwatched s.groups := by
  unfold State.touchWrite
  dsimp only
  rw [State.servePool_outside hpool, ite_self]
  split
  · rfl
  · rw [State.l2Dirty_groups]
    split
    · rw [State.l1Touch_groups]
    · exact State.l1Set_unwatched _ _ _ _ _
    · exact State.serveWrite_unwatched _ _ _ _

end Sys2Proof.Machine
end

section
/-! PROOFS. Reads after writes of bytes and descriptors (R108, R296). -/

namespace Sys2Proof.Machine

set_option Elab.async false
open Claims

/-! ## What a read finds after a write -/

/-- Bytes stand where they stood, and the same places read zero. -/
structure SamePlaces (s t : State) : Prop where
  phys : ∀ a, t.phys a = s.phys a
  dead : ∀ p, t.deadAt p = s.deadAt p

theorem SamePlaces.refl (s : State) : SamePlaces s s := ⟨fun _ => rfl, fun _ => rfl⟩

theorem SamePlaces.trans {s t v : State} (a : SamePlaces s t) (b : SamePlaces t v) : SamePlaces s v :=
  ⟨fun x => (b.phys x).trans (a.phys x), fun x => (b.dead x).trans (a.dead x)⟩

theorem SamePlaces.readByte {s t : State} (h : SamePlaces s t) (hm : t.mem = s.mem) (a : Nat) : t.readByte a = s.readByte a := by
  rw [State.readByte, State.rawByte, h.phys, h.dead, hm]
  rfl

theorem SamePlaces.readDesc {s t : State} (h : SamePlaces s t) (hd : t.desc = s.desc) (a : Nat) : t.readDesc a = s.readDesc a := by
  simp only [State.readDesc, h.phys, h.dead, hd]

/-- The write of a block's dirty bit moves no byte. -/
theorem State.markDirty_places (s : State) (a : Nat) : SamePlaces s (s.markDirty a) := by
  unfold State.markDirty
  split
  next k _ =>
    generalize hf : (fun x : Frame => { x with dirty := x.dirty ||| BitVec.ofNat 1024 (2 ^ (a % 65536 / 64)) }) = f
    have htag (x : Frame) : (f x).tag = x.tag := by rw [← hf]
    have hvalid (x : Frame) : (f x).valid = x.valid := by rw [← hf]
    have hdead (x : Frame) : (f x).dead = x.dead := by rw [← hf]
    have frame (j : Nat) : ((s.modFrame k f).frame j).tag = (s.frame j).tag ∧ ((s.modFrame k f).frame j).valid = (s.frame j).valid ∧
        ((s.modFrame k f).frame j).dead = (s.frame j).dead := by
      by_cases h : j = k
      · have : (s.modFrame k f).frame j = f (s.frame j) := by simp [h, State.frame]
        rw [this]
        exact ⟨htag _, hvalid _, hdead _⟩
      · have : (s.modFrame k f).frame j = s.frame j := tabGet_tabSet_ne _ _ _ h
        rw [this]
        exact ⟨rfl, rfl, rfl⟩
    have hframeFor (u : Nat) : (s.modFrame k f).frameFor u = s.frameFor u := by
      have hfun : (fun j => decide (((s.modFrame k f).frame j).tag = some u)) = fun j => decide ((s.frame j).tag = some u) :=
        funext fun j => by rw [(frame j).1]
      exact congrArg (fun q => ((s.unitFrames u).find? q)) hfun
    refine ⟨fun x => ?_, fun p => ?_⟩
    · simp only [State.phys, State.frameHolding, hframeFor, (frame _).2.1]
    · rw [State.deadAt, (frame _).2.2]
      rfl
  next => exact SamePlaces.refl s

/-- A write to a place that is not DEAD is the write of one byte of memory. -/
theorem State.writeByte_awake {s : State} {a : Nat} (h : s.deadAt (s.phys a) = false) (b : Byte) :
    SamePlaces s (s.writeByte a b) ∧ (s.writeByte a b).mem = tabSet 0 s.mem (s.phys a) b ∧ (s.writeByte a b).desc = s.desc := by
  have hpoke : SamePlaces s (s.pokeByte (s.phys a) b) := ⟨fun x => s.phys_pokeByte _ x b, fun x => s.deadAt_pokeByte _ x b⟩
  have hw : s.writeByte a b = (s.pokeByte (s.phys a) b).markDirty a := by
    rw [State.writeByte, State.wakeFrame, h]
    rfl
  rw [hw]
  refine ⟨hpoke.trans (State.markDirty_places _ _), State.markDirty_mem _ _, ?_⟩
  unfold State.markDirty
  split <;> rfl

theorem State.readByte_writeByte {s : State} {a : Nat} (h : s.deadAt (s.phys a) = false) (b : Byte) (x : Nat) :
    (s.writeByte a b).readByte x = if s.phys x = s.phys a then b else s.readByte x := by
  obtain ⟨hp, hm, -⟩ := State.writeByte_awake h b
  rw [State.readByte, State.rawByte, hp.phys, hp.dead, hm]
  by_cases hx : s.phys x = s.phys a
  · rw [if_pos hx, hx, h, tabGet_tabSet_same]
    rfl
  · rw [if_neg hx, tabGet_tabSet_ne _ _ _ hx]
    rfl

/-- A descriptor's write in a frame that is not DEAD. -/
theorem State.writeDesc_awake {s : State} {a : Nat} (h : s.deadAt (s.phys a) = false) (d : BitVec 48) :
    s.writeDesc a d = if hasMeta a then { s with desc := tabSet 0 s.desc (s.phys a / 64) d } else s := by
  have hw : s.wakeFrame (s.phys a) = s := by
    rw [State.wakeFrame, h]
    rfl
  unfold State.writeDesc
  dsimp only
  rw [hw]

theorem State.writeDesc_places {s : State} {a : Nat} (h : s.deadAt (s.phys a) = false) (d : BitVec 48) :
    SamePlaces s (s.writeDesc a d) ∧ (s.writeDesc a d).mem = s.mem := by
  rw [State.writeDesc_awake h]
  split <;> exact ⟨⟨fun _ => rfl, fun _ => rfl⟩, rfl⟩

/-- The two addresses stand in one block. -/
theorem deadAt_block (s : State) {p q : Nat} (h : p / 64 = q / 64) : s.deadAt p = s.deadAt q := by
  have hf : frameOf p = frameOf q := by
    unfold frameOf
    omega
  rw [State.deadAt, State.deadAt, isHbm_eq, isHbm_eq, hf, h]

theorem State.readDesc_writeDesc {s : State} {a : Nat} (h : s.deadAt (s.phys a) = false) (d : BitVec 48) (x : Nat) :
    (s.writeDesc a d).readDesc x = if hasMeta a = true ∧ hasMeta x = true ∧ s.phys x / 64 = s.phys a / 64 then d else s.readDesc x := by
  rw [State.writeDesc_awake h]
  cases ha : hasMeta a
  · simp
  cases hx : hasMeta x
  · simp [State.readDesc, hx]
  rw [if_pos rfl]
  show (if hasMeta x then (if s.deadAt (s.phys x) then 0 else tabGet 0 (tabSet 0 s.desc (s.phys a / 64) d) (s.phys x / 64)) else 0) = _
  by_cases hp : s.phys x / 64 = s.phys a / 64
  · simp [hx, hp, deadAt_block s hp, h]
  · simp [State.readDesc, hx, hp, tabGet_tabSet_ne]

/-! ### Within one block -/

section
variable {a : Nat} (ha : a % 64 = 0) {k : Nat} (hk : k < 64)
include ha hk

theorem hasMeta_block : hasMeta (a + k) = hasMeta a := by
  simp only [hasMeta, isHost]
  congr 2 <;> exact decide_eq_decide.2 (by omega)

theorem isPool_block : isPool (a + k) = isPool a := by
  simp only [isPool]
  congr 1 <;> exact decide_eq_decide.2 (by omega)

theorem State.phys_block (s : State) : s.phys (a + k) = s.phys a + k := by
  have hf : frameOf (a + k) = frameOf a := by
    unfold frameOf
    omega
  have hb : (a + k) % 65536 / 64 = a % 65536 / 64 := by omega
  have hh : s.frameHolding (a + k) = s.frameHolding a := by
    simp only [State.frameHolding, isPool_block ha hk, hf, hb]
  rw [State.phys, State.phys, hh]
  split <;> omega

end

/-- A block's place is a block. -/
theorem State.phys_aligned (s : State) {a : Nat} (ha : a % 64 = 0) : s.phys a % 64 = 0 := by
  rw [State.phys]
  split <;> omega

section
variable {s : State} {a : Nat} (ha : a % 64 = 0) {k : Nat} (hk : k < 64)
include ha hk

theorem State.physBlock_block : s.phys (a + k) / 64 = s.phys a / 64 := by
  have h := s.phys_aligned ha
  rw [State.phys_block ha hk]
  omega

theorem State.readDesc_block : s.readDesc (a + k) = s.readDesc a := by
  have hp : s.phys (a + k) / 64 = s.phys a / 64 := State.physBlock_block ha hk
  simp only [State.readDesc, hasMeta_block ha hk, hp, deadAt_block s hp]

theorem State.awake_block (h : s.deadAt (s.phys a) = false) : s.deadAt (s.phys (a + k)) = false := by
  rw [deadAt_block s (State.physBlock_block ha hk), h]

theorem State.writeDesc_block (h : s.deadAt (s.phys a) = false) (d : BitVec 48) : s.writeDesc (a + k) d = s.writeDesc a d := by
  rw [State.writeDesc_awake (State.awake_block ha hk h), State.writeDesc_awake h, hasMeta_block ha hk, State.physBlock_block ha hk]

end

end Sys2Proof.Machine
end

section
/-! PROOFS. Commits (R286-R290). -/

namespace Sys2Proof.Machine

set_option Elab.async false
open Claims

/-! ## The write of an entry -/

theorem tabFind_none_of_notMem {α : Type} {t : Tab α} {k : Nat} (h : k ∉ t.map fun e => e.1) : tabFind t k = none :=
  Option.eq_none_iff_forall_ne_some.2 fun _ hx => h (List.mem_map_of_mem (f := fun e => e.1) (tabFind_mem hx))

/-- The bytes of an entry at their places. -/
def State.putBytes (s : State) (a : Nat) (bs : Tab Byte) : State := bs.foldl (fun u b => u.writeByte (a + b.1) b.2) s

theorem State.writeMem_eq_putBytes (s : State) (a : Nat) (bs : List Byte) : s.writeMem a bs = s.putBytes a ((List.range bs.length).zip bs) := by
  induction bs generalizing s a with
  | nil => rfl
  | cons b l ih =>
    have hturn (u : State) (x : Nat × Byte) : u.writeByte (a + 1 + x.1) x.2 = u.writeByte (a + (x.1 + 1)) x.2 := by
      rw [Nat.add_right_comm, Nat.add_assoc]
    show (s.writeByte a b).writeMem (a + 1) l = _
    rw [ih, List.length_cons, List.range_succ_eq_map, List.zip_cons_cons, List.zip_map_left]
    simp only [State.putBytes, List.foldl_cons, List.foldl_map, hturn]
    rfl

section
variable {s : State} {a : Nat} (ha : a % 64 = 0)
include ha

theorem State.putBytes_awake (h : s.deadAt (s.phys a) = false) {bs : Tab Byte} (hb : ∀ x ∈ bs, x.1 < 64) :
    SamePlaces s (s.putBytes a bs) ∧ (s.putBytes a bs).desc = s.desc ∧ OnlyMemory s (s.putBytes a bs) ∧
      (s.putBytes a bs).mem = bs.foldl (fun m b => tabSet 0 m (s.phys a + b.1) b.2) s.mem := by
  induction bs generalizing s with
  | nil => exact ⟨SamePlaces.refl s, rfl, rfl, rfl⟩
  | cons b l ih =>
    obtain ⟨hb0, hl⟩ := List.forall_mem_cons.1 hb
    obtain ⟨hp, hm, hd⟩ := State.writeByte_awake (State.awake_block ha hb0 h) b.2
    obtain ⟨ip, id, io, im⟩ := ih (s := s.writeByte (a + b.1) b.2) (by rw [hp.phys, hp.dead, h]) hl
    refine ⟨hp.trans ip, id.trans hd, (s.writeByte_onlyMemory _ _).trans io, ?_⟩
    rw [List.foldl_cons, ← State.phys_block ha hb0, ← hm, ← hp.phys a]
    exact im

/-- Bytes of one block are read as written, and every other place reads as before. -/
theorem State.readByte_putBytes (h : s.deadAt (s.phys a) = false) {bs : Tab Byte} (hb : ∀ x ∈ bs, x.1 < 64) (hs : tabSorted bs = true) (x : Nat) :
    (∀ k, k < 64 → s.phys x = s.phys a + k →
      (s.putBytes a bs).readByte x = match tabFind bs k with | some b => b | none => s.readByte x) ∧
    ((∀ k, k < 64 → s.phys x ≠ s.phys a + k) → (s.putBytes a bs).readByte x = s.readByte x) := by
  obtain ⟨hp, -, -, hm⟩ := State.putBytes_awake ha h hb
  have hread : (s.putBytes a bs).readByte x = if s.deadAt (s.phys x) then 0 else
      tabGet 0 (bs.foldl (fun m b => tabSet 0 m (s.phys a + b.1) b.2) s.mem) (s.phys x) := by
    rw [State.readByte, State.rawByte, hp.phys, hp.dead, hm]
  obtain ⟨hout, hin⟩ := foldl_keyed (get := tabGet 0) (key := fun b : Nat × Byte => s.phys a + b.1) (f := fun m b => tabSet 0 m (s.phys a + b.1) b.2)
    (val := fun b _ => b.2) (fun m b => tabGet_tabSet_same _ _ _ _) (fun m b k hk => tabGet_tabSet_ne _ _ _ hk) bs s.mem
  have unwritten (hx : s.phys x ∉ bs.map fun b => s.phys a + b.1) : (s.putBytes a bs).readByte x = s.readByte x := by
    rw [hread, hout _ hx]
    rfl
  constructor
  · intro k hk hx
    by_cases hmem : k ∈ bs.map fun b => b.1
    · obtain ⟨b, hbm, rfl⟩ := List.mem_map.1 hmem
      have hnodup : (bs.map fun b => s.phys a + b.1).Nodup := by
        have := (tabSorted_keys_nodup hs).map (f := fun k => s.phys a + k) fun _ _ e => Nat.add_left_cancel e
        rwa [List.map_map] at this
      have hawake : s.deadAt (s.phys x) = false := by
        rw [hx, ← State.phys_block ha hk]
        exact State.awake_block ha hk h
      rw [hread, hawake, hx, hin hnodup b hbm, tabFind_of_mem hs hbm]
      rfl
    · rw [tabFind_none_of_notMem hmem]
      refine unwritten fun hx' => hmem ?_
      obtain ⟨b, hbm, hb'⟩ := List.mem_map.1 hx'
      exact List.mem_map.2 ⟨b, hbm, by omega⟩
  · intro hx
    refine unwritten fun hx' => ?_
    obtain ⟨b, hbm, hb'⟩ := List.mem_map.1 hx'
    exact hx _ (hb b hbm) hb'.symm

end

/-! ### Reference tags -/

/-- Only the descriptor of a block has changed. -/
structure Retags (a : Nat) (s t : State) (d : BitVec 48) : Prop where
  places : SamePlaces s t
  mem : t.mem = s.mem
  only : OnlyMemory s t
  desc : hasMeta a = true → t.readDesc a = d
  other : ∀ x, s.phys x / 64 ≠ s.phys a / 64 → t.readDesc x = s.readDesc x

theorem Retags.trans {a : Nat} {s t v : State} {d e : BitVec 48} (h : Retags a s t d) (i : Retags a t v e) : Retags a s v e :=
  ⟨h.places.trans i.places, i.mem.trans h.mem, h.only.trans i.only, i.desc, fun x hx =>
    (i.other x (by rwa [h.places.phys, h.places.phys])).trans (h.other x hx)⟩

theorem Retags.refl (a : Nat) (s : State) : Retags a s s (s.readDesc a) :=
  ⟨SamePlaces.refl s, rfl, rfl, fun _ => rfl, fun _ _ => rfl⟩

theorem Retags.writeDesc {s : State} {a : Nat} (h : s.deadAt (s.phys a) = false) (d : BitVec 48) : Retags a s (s.writeDesc a d) d := by
  obtain ⟨hp, hm⟩ := State.writeDesc_places h d
  refine ⟨hp, hm, ?_, fun ha => by rw [State.readDesc_writeDesc h, if_pos ⟨ha, ha, rfl⟩], fun x hx => by
    rw [State.readDesc_writeDesc h, if_neg fun hw => hx hw.2.2]⟩
  rw [State.writeDesc_awake h]
  split <;> rfl

/-- Changes of one descriptor, one after another. -/
theorem Retags.foldl {β : Type} {f : State → β → State} {g : BitVec 48 → β → BitVec 48} {a : Nat} {l : List β}
    (hf : ∀ u, u.deadAt (u.phys a) = false → ∀ x ∈ l, Retags a u (f u x) (g (u.readDesc a) x)) (s : State) (h : s.deadAt (s.phys a) = false) :
    Retags a s (l.foldl f s) (l.foldl g (s.readDesc a)) := by
  induction l generalizing s with
  | nil => exact Retags.refl a s
  | cons x l ih =>
    have h1 := hf s h x List.mem_cons_self
    have h2 := h1.trans (ih (fun u hu y hy => hf u hu y (List.mem_cons_of_mem x hy)) (f s x) (by rw [h1.places.phys, h1.places.dead, h]))
    refine ⟨h2.places, h2.mem, h2.only, fun ha => (h2.desc ha).trans ?_, h2.other⟩
    rw [List.foldl_cons, h1.desc ha]

section
variable {a : Nat} (ha : a % 64 = 0) {u : State} (h : u.deadAt (u.phys a) = false)
include ha h

theorem Retags.tagWords {w : Nat} (hw : w < 8) (on : Bool) :
    Retags a u (u.tagWords (a + 8 * w) 1 on) (descSetTag (u.readDesc a) w on) := by
  have hword : (a + 8 * w) % 64 / 8 = w := by omega
  show Retags a u (u.writeDesc (a + 8 * w) (descSetTag (u.readDesc (a + 8 * w)) ((a + 8 * w) % 64 / 8) on)) _
  rw [State.writeDesc_block ha (by omega) h, State.readDesc_block ha (by omega), hword]
  exact Retags.writeDesc h _

theorem Retags.clearTags {k : Nat} (hk : k < 64) : Retags a u (u.clearTags (a + k) 1)
    (if descFmt (u.readDesc a) = 0x40 then descSetTag (u.readDesc a) (k / 8) false else u.readDesc a) := by
  have hword : (a + k) % 64 / 8 = k / 8 := by omega
  show Retags a u (if descFmt (u.readDesc (a + k)) = 0x40 then u.writeDesc (a + k) (descSetTag (u.readDesc (a + k)) ((a + k) % 64 / 8) false) else u) _
  rw [State.writeDesc_block ha hk h, State.readDesc_block ha hk, hword]
  split
  · exact Retags.writeDesc h _
  · exact Retags.refl a u

end

theorem descFmt_eq_obj (d : BitVec 48) : descFmt d = 0x40 ↔ d.setWidth 8 = 0x40#8 := by
  rw [descFmt, show d.setWidth 8 = d.extractLsb' 0 8 from by ext; simp, ← BitVec.toNat_inj]
  rfl

/-- In an OBJ block a tag is one bit of the descriptor. -/
theorem getLsbD_descSetTag {d : BitVec 48} (hd : d.setWidth 8 = 0x40#8) {i : Nat} (on : Bool) {n : Nat} (hn : n < 48) :
    (descSetTag d i on).getLsbD n = if n = 16 + i then on else d.getLsbD n := by
  have hbit : (BitVec.ofNat 48 (2 ^ (16 + i))).getLsbD n = decide (n = 16 + i) := by
    rw [BitVec.getLsbD_ofNat, Nat.testBit_two_pow, decide_eq_true hn, Bool.true_and, decide_eq_decide]
    exact eq_comm
  unfold descSetTag
  cases on
  · rw [if_neg Bool.false_ne_true, BitVec.getLsbD_and, BitVec.getLsbD_not, hbit]
    by_cases h : n = 16 + i
    · rw [decide_eq_true h, if_pos h, Bool.not_true, Bool.and_false, Bool.and_false]
    · rw [decide_eq_false h, if_neg h, decide_eq_true hn, Bool.not_false, Bool.and_true, Bool.and_true]
  · rw [if_pos rfl, if_pos ((descFmt_eq_obj d).2 hd), BitVec.getLsbD_or, hbit]
    by_cases h : n = 16 + i
    · rw [decide_eq_true h, if_pos h, Bool.or_true]
    · rw [decide_eq_false h, if_neg h, Bool.or_false]

theorem setWidth_eq_of_low {n m : Nat} {c d : BitVec n} (h : ∀ i, i < m → c.getLsbD i = d.getLsbD i) : c.setWidth m = d.setWidth m := by
  refine BitVec.eq_of_getLsbD_eq fun i hi => ?_
  rw [BitVec.getLsbD_setWidth, BitVec.getLsbD_setWidth, h i hi]

theorem setWidth_of_setWidth {c d : BitVec 48} (h : c.setWidth 16 = d.setWidth 16) : c.setWidth 8 = d.setWidth 8 := by
  have key (x : BitVec 48) : (x.setWidth 16).setWidth 8 = x.setWidth 8 := BitVec.setWidth_setWidth_of_le _ (by decide)
  rw [← key c, ← key d, h]

/-- The tags of some words of an OBJ block change, each to a value of its own. -/
theorem foldl_descSetTag (on : Nat → Bool) {ws : List Nat} {d : BitVec 48} (hd : d.setWidth 8 = 0x40#8) (hw : ∀ w ∈ ws, w < 8) :
    (ws.foldl (fun c w => descSetTag c w (on w)) d).setWidth 16 = d.setWidth 16 ∧
      ∀ w, w < 8 → (ws.foldl (fun c w => descSetTag c w (on w)) d).getLsbD (16 + w) = if w ∈ ws then on w else d.getLsbD (16 + w) := by
  induction ws generalizing d with
  | nil => exact ⟨rfl, fun w _ => by simp⟩
  | cons x l ih =>
    obtain ⟨hx, hl⟩ := List.forall_mem_cons.1 hw
    have hlow : (descSetTag d x (on x)).setWidth 16 = d.setWidth 16 :=
      setWidth_eq_of_low fun i hi => by rw [getLsbD_descSetTag hd _ (by omega), if_neg (by omega)]
    obtain ⟨i1, i2⟩ := ih ((setWidth_of_setWidth hlow).trans hd) hl
    refine ⟨i1.trans hlow, fun w hw8 => ?_⟩
    rw [List.foldl_cons, i2 w hw8, getLsbD_descSetTag hd _ (by omega)]
    by_cases hwl : w ∈ l
    · rw [if_pos hwl, if_pos (List.mem_cons_of_mem x hwl)]
    · rw [if_neg hwl]
      by_cases hwx : w = x
      · rw [hwx, if_pos rfl, if_pos List.mem_cons_self]
      · rw [if_neg (by omega), if_neg (by simp [hwx, hwl])]

/-- The tag of a word is cleared where the block is an OBJ block. -/
def clearTag (d : BitVec 48) (w : Nat) : BitVec 48 := if descFmt d = 0x40 then descSetTag d w false else d

theorem foldl_clearTag_obj {ws : List Nat} {d : BitVec 48} (hd : d.setWidth 8 = 0x40#8) :
    ws.foldl clearTag d = ws.foldl (fun c w => descSetTag c w false) d := by
  induction ws generalizing d with
  | nil => rfl
  | cons x l ih =>
    have hlow : (descSetTag d x false).setWidth 8 = d.setWidth 8 :=
      setWidth_eq_of_low fun i hi => by rw [getLsbD_descSetTag hd _ (by omega), if_neg (by omega)]
    rw [List.foldl_cons, List.foldl_cons, clearTag, if_pos ((descFmt_eq_obj d).2 hd), ih (hlow.trans hd)]

theorem foldl_clearTag_other {ws : List Nat} {d : BitVec 48} (hd : d.setWidth 8 ≠ 0x40#8) : ws.foldl clearTag d = d :=
  foldl_fixed_of_mem fun w _ => by rw [clearTag, if_neg (mt (descFmt_eq_obj d).1 hd)]

/-! ### The whole entry -/

/-- The descriptor of the block of an entry once it is written (R108, R209, R296). -/
def CBEntry.descAfter (e : CBEntry) (pte : Nat) (old : BitVec 48) : BitVec 48 :=
  match e.desc with
  | some d => d
  | none =>
    if pteFmt pte = 2 then ((e.bytes.map (fun b => b.1 / 8)).eraseDups).foldl (fun c w => descSetTag c w (e.tags.getLsbD w)) old
    else (e.bytes.map (fun b => b.1 / 8)).foldl clearTag old

/-- The caches take the sectors that an entry writes. -/
def State.takeSectors (s : State) (t : Team) (e : CBEntry) (a pte : Nat) : State :=
  if e.na && (s.l1State (s.l1Home t.plot a) a).isNone && cacheable a pte then s.homeWrite a pte t.ctx
  else (entrySectors e).foldl (fun u i => u.touchWrite t.plot (a + 32 * i) pte t.ctx) s

/-- The descriptor that an entry gives its block. -/
def State.giveEntryDesc (s : State) (e : CBEntry) (a : Nat) : State := match e.desc with | some d => s.writeDesc a d | none => s

/-- The reference tags that an entry gives its block. -/
def State.giveEntryTags (s : State) (e : CBEntry) (a pte : Nat) : State :=
  if pteFmt pte = 2 then ((e.bytes.map (fun b => b.1 / 8)).eraseDups).foldl (fun u w => u.tagWords (a + 8 * w) 1 (e.tags.getLsbD w)) s
  else e.bytes.foldl (fun u b => u.clearTags (a + b.1) 1) s

/-- An entry's write, part by part. -/
theorem State.writeEntry_eq (s : State) (t : Team) (e : CBEntry) (a pte : Nat) : s.writeEntry t e a pte =
    if (List.range 64).all (fun i => (tabFind e.bytes i).isSome) then
      (((((s.takeSectors t e a pte).putBytes a e.bytes).giveEntryTags e a pte).giveEntryDesc e a).clearPoison a)
    else ((((s.takeSectors t e a pte).putBytes a e.bytes).giveEntryTags e a pte).giveEntryDesc e a) := rfl

theorem Retags.giveEntry {u : State} {e : CBEntry} {a pte : Nat} (ha : a % 64 = 0) (h : u.deadAt (u.phys a) = false) (hb : ∀ x ∈ e.bytes, x.1 < 64) :
    Retags a u ((u.giveEntryTags e a pte).giveEntryDesc e a) (e.descAfter pte (u.readDesc a)) := by
  have hword : ∀ w ∈ (e.bytes.map (fun b => b.1 / 8)).eraseDups, w < 8 := by
    intro w hw
    obtain ⟨x, hx, rfl⟩ := List.mem_map.1 (List.mem_eraseDups.1 hw)
    have := hb x hx
    omega
  have htags : Retags a u (u.giveEntryTags e a pte) (if pteFmt pte = 2 then
      ((e.bytes.map (fun b => b.1 / 8)).eraseDups).foldl (fun c w => descSetTag c w (e.tags.getLsbD w)) (u.readDesc a)
      else (e.bytes.map (fun b => b.1 / 8)).foldl clearTag (u.readDesc a)) := by
    unfold State.giveEntryTags
    split
    · exact Retags.foldl (fun v hv w hw => Retags.tagWords ha hv (hword w hw) _) u h
    · rw [List.foldl_map]
      exact Retags.foldl (fun v hv x hx => Retags.clearTags ha hv (hb x hx)) u h
  unfold State.giveEntryDesc CBEntry.descAfter
  cases e.desc with
  | none => exact htags
  | some d => exact htags.trans (Retags.writeDesc (by rw [htags.places.phys, htags.places.dead, h]) d)

theorem clearPoison_places (s : State) (a : Nat) : SamePlaces s (s.clearPoison a) ∧ (s.clearPoison a).mem = s.mem ∧ (s.clearPoison a).desc = s.desc ∧
    OnlyMemory s (s.clearPoison a) := ⟨⟨fun _ => rfl, fun _ => rfl⟩, rfl, rfl, rfl⟩

theorem Spares.places {f : Nat} {s t : State} (h : Spares f s t) (r : FrameAtRest f s) {a : Nat} (ha : frameOf a = f) (hp : isPool a = false) :
    t.phys a = a ∧ s.phys a = a ∧ t.readByte a = s.readByte a ∧ t.readDesc a = s.readDesc a := by
  have phys (v : State) : v.phys a = a := by rw [State.phys, State.frameHolding, hp]; rfl
  have hblock : a / 64 / 1024 = f := by
    rw [← ha, frameOf, Nat.div_div_eq_div_mul]
  refine ⟨phys t, phys s, ?_, ?_⟩
  · simp only [State.readByte, State.rawByte, phys, r.deadAt ha, h.rest.deadAt ha, h.bytes a ha]
  · simp only [State.readDesc, phys, r.deadAt ha, h.rest.deadAt ha, h.descs _ hblock]

section
variable {s : State} {a : Nat} (ha : a % 64 = 0) (hp : isPool a = false) (r : FrameAtRest (frameOf a) s)
include ha hp r

/-- The caches' part leaves the block's bytes and descriptor. -/
theorem State.takeSectors_spares (t : Team) {e : CBEntry} (pte : Nat) (hb : ∀ x ∈ e.bytes, x.1 < 64) :
    Spares (frameOf a) s (s.takeSectors t e a pte) ∧ unwatched (s.takeSectors t e a pte).groups = unwatched s.groups := by
  have sector (i : Nat) (hi : i ∈ entrySectors e) : frameOf (a + 32 * i) = frameOf a ∧ isPool (a + 32 * i) = false := by
    obtain ⟨x, hx, rfl⟩ := List.mem_map.1 (List.mem_eraseDups.1 hi)
    have := hb x hx
    refine ⟨?_, by rw [isPool_block ha (by omega), hp]⟩
    unfold frameOf
    omega
  unfold State.takeSectors
  split
  · exact ⟨r.homeWrite rfl hp _ _, State.homeWrite_unwatched s hp _ _⟩
  · refine List.foldlRecOn (motive := fun u => Spares (frameOf a) s u ∧ unwatched u.groups = unwatched s.groups) _ _ ⟨r.refl, rfl⟩ fun u hu i hi => ?_
    obtain ⟨hf, hpool⟩ := sector i hi
    exact ⟨hu.1.trans (hu.1.rest.touchWrite hf hpool _ _ _), (State.touchWrite_unwatched u hpool _ _ _).trans hu.2⟩

/-- The write of an entry: its bytes, its block's descriptor, and what it leaves. -/
theorem State.writeEntry_writes (t : Team) {e : CBEntry} (pte : Nat) (hb : ∀ x ∈ e.bytes, x.1 < 64) (hs : tabSorted e.bytes = true) :
    (∀ k, k < 64 → (s.writeEntry t e a pte).readByte (a + k) = match tabFind e.bytes k with | some b => b | none => s.readByte (a + k)) ∧
    (isHost a = false → (s.writeEntry t e a pte).readDesc a = e.descAfter pte (s.readDesc a)) ∧
    (s.writeEntry t e a pte).teams = s.teams ∧ (s.writeEntry t e a pte).cycle = s.cycle ∧
    unwatched (s.writeEntry t e a pte).groups = unwatched s.groups := by
  obtain ⟨hsp, hun⟩ := State.takeSectors_spares ha hp r t pte hb
  rw [State.writeEntry_eq]
  generalize s.takeSectors t e a pte = s1 at hsp hun
  obtain ⟨hphys, -, -, hdesc⟩ := hsp.places r rfl hp
  have hawake : s1.deadAt (s1.phys a) = false := by rw [hphys]; exact hsp.rest.deadAt rfl
  obtain ⟨bp, bd, bo, -⟩ := State.putBytes_awake ha hawake hb
  have hbytes (k : Nat) (hk : k < 64) : (s1.putBytes a e.bytes).readByte (a + k) =
      match tabFind e.bytes k with | some b => b | none => s.readByte (a + k) := by
    have hf : frameOf (a + k) = frameOf a := by
      unfold frameOf
      omega
    rw [(State.readByte_putBytes ha hawake hb hs (a + k)).1 k hk (s1.phys_block ha hk),
      (hsp.places r hf (by rw [isPool_block ha hk, hp])).2.2.1]
  have hawake2 : (s1.putBytes a e.bytes).deadAt ((s1.putBytes a e.bytes).phys a) = false := by rw [bp.phys, bp.dead, hawake]
  have htags := Retags.giveEntry (pte := pte) ha hawake2 hb
  have written {t : State} (hpl : SamePlaces (s1.putBytes a e.bytes) t) (hm : t.mem = (s1.putBytes a e.bytes).mem)
      (ho : OnlyMemory (s1.putBytes a e.bytes) t) (hd : hasMeta a = true → t.readDesc a = e.descAfter pte ((s1.putBytes a e.bytes).readDesc a)) :
      (∀ k, k < 64 → t.readByte (a + k) = match tabFind e.bytes k with | some b => b | none => s.readByte (a + k)) ∧
      (isHost a = false → t.readDesc a = e.descAfter pte (s.readDesc a)) ∧ t.teams = s.teams ∧ t.cycle = s.cycle ∧
      unwatched t.groups = unwatched s.groups := by
    have hall : OnlyMemory s1 t := bo.trans ho
    refine ⟨fun k hk => (hpl.readByte hm _).trans (hbytes k hk), fun hh => ?_, ?_, ?_, ?_⟩
    · rw [hd (by simp [hasMeta, hh]), bp.readDesc bd, hdesc]
    · exact (hall.field State.teams fun _ _ _ _ _ _ _ _ _ => rfl).trans (hsp.read State.teams fun _ => rfl)
    · exact (hall.field State.cycle fun _ _ _ _ _ _ _ _ _ => rfl).trans (hsp.read State.cycle fun _ => rfl)
    · rw [hall.field State.groups fun _ _ _ _ _ _ _ _ _ => rfl, hun]
  split
  · obtain ⟨cp, cm, cd, co⟩ := clearPoison_places (((s1.putBytes a e.bytes).giveEntryTags e a pte).giveEntryDesc e a) a
    exact written (htags.places.trans cp) (cm.trans htags.mem) (htags.only.trans co) fun hm => (cp.readDesc cd a).trans (htags.desc hm)
  · exact written htags.places htags.mem htags.only htags.desc

end

/-! ## The steps of a commit -/

theorem State.team_eq {s : State} {k : Nat} {t : Team} (h : tabFind s.teams k = some t) : s.team k = t := by
  simp [State.team, tabGet, h]

theorem State.find_modTeam {s : State} {k : Nat} {t : Team} (h : tabFind s.teams k = some t) (f : Team → Team) :
    tabFind (s.modTeam k f).teams k = some (f t) := by
  simp [h]

theorem State.startDrain_teams (s : State) (tid : Nat) : (s.startDrain tid).teams = s.teams := by
  unfold State.startDrain
  repeat' split
  · rfl
  · rfl
  · rfl
  · exact foldl_same State.teams _ _ s fun u e => rfl

/-- A commit's beginning in its team: it stands behind those that have begun, and takes the entries that none of them holds. -/
theorem State.beginCommit_team {s : State} {tid : Nat} {tm : Team} (h : tabFind s.teams tid = some tm) (hp : tm.paired = false) (k : CommitKind) :
    ((s.beginCommit tid k).team tid).commits = tm.commits ++ [{ id := s.nextId, kind := k, unpaired := false, sig := tm.sig }] ∧
      ((s.beginCommit tid k).team tid).cb = tm.cb.map (fun e => if e.commit = none then { e with commit := some s.nextId } else e) := by
  have hbegun := State.find_modTeam (s := s.bump) h fun x => { x with
    commits := x.commits ++ [{ id := s.nextId, kind := k, unpaired := x.paired, sig := x.sig }], sig := 0,
    cb := x.cb.map (fun e => if e.commit.isNone then { e with commit := some s.nextId } else e) }
  have hteam {t : State} (ht : t.teams = (s.bump.modTeam tid fun x => { x with
      commits := x.commits ++ [{ id := s.nextId, kind := k, unpaired := x.paired, sig := x.sig }], sig := 0,
      cb := x.cb.map (fun e => if e.commit.isNone then { e with commit := some s.nextId } else e) }).teams) :
      (t.team tid).commits = tm.commits ++ [{ id := s.nextId, kind := k, unpaired := false, sig := tm.sig }] ∧
      (t.team tid).cb = tm.cb.map (fun e => if e.commit = none then { e with commit := some s.nextId } else e) := by
    rw [← ht] at hbegun
    rw [State.team_eq hbegun, hp]
    exact ⟨rfl, List.map_congr_left fun e _ => by simp [Option.isNone_iff_eq_none]⟩
  unfold State.beginCommit
  dsimp only
  rw [State.team_eq h, hp, if_neg Bool.false_ne_true]
  split
  · exact hteam rfl
  · exact hteam (State.startDrain_teams _ _)

/-- A commit point of a team with one group (R288). -/
theorem commitPoint_one {s : State} {gid : Nat} {g : Group} (ha : (s.team s.ev.a).allGroups = [gid]) (hg : tabFind s.groups gid = some g)
    (ho : g.ops = []) (har : g.arrivals = []) :
    (∀ kind scope, g.hold = some (.fence kind scope true none) → commitFor (s.team s.ev.a) gid none = false →
      exec .commitPoint s = .next (s.beginCommit s.ev.a (.fence gid scope))) ∧ (g.hold = none → exec .commitPoint s = .next s) := by
  have hrun : exec .commitPoint s = .next (s.groupPoints s.ev.a gid) := by
    show execCommitPoint s = _
    rw [execCommitPoint, ha]
    rfl
  refine ⟨fun kind scope hh hc => ?_, fun hh => ?_⟩
  · rw [hrun, State.groupPoints, State.group_eq hg, hh, ho, har]
    dsimp only [List.foldl_nil]
    rw [hc]
    rfl
  · rw [hrun, State.groupPoints, State.group_eq hg, hh, ho, har]
    rfl

/-! ### The drain of one entry -/

theorem State.translate_cycle (s : State) (p c a : Nat) (u : Use) : (s.translate p c a u).1.cycle = s.cycle := by
  have hlook : (s.lookup p c a u.writes).1.cycle = s.cycle := by
    unfold State.lookup
    split
    · rfl
    · split
      · rfl
      · dsimp only
        split
        · exact State.walkEcc_cycle _ _ _
        · rw [State.tlbFill, State.modPlot_cycle, State.l2tlbFill, State.modDie_cycle, State.setAD_cycle, State.walkEcc_cycle]
  unfold State.translate
  dsimp only
  split <;> exact hlook

theorem State.isMoving_none {s : State} (h : s.pgc.moving = []) (c a : Nat) : s.isMoving c a = false := by
  rw [State.isMoving, h]
  rfl

section
variable {s m : State} {tid blk dpa pte : Nat} {tm : Team} {c : Commit} {rest : List Commit} {e : CBEntry}
  (ht : tabFind s.teams tid = some tm) (hc : tm.commits = c :: rest) (hu : c.unpaired = false)
  (hf : tm.cb.find? (fun y => decide (y.blk = blk) && decide (y.commit = some c.id) && !y.faulted) = some e) (hm : s.pgc.moving = [])
  (hx : s.translate tm.plot tm.ctx (blk * 64) (if e.desc.isSome then .fmtWrite else .write) = (m, .ok dpa pte)) (he : m.eccErrors = [])
include ht hc hu hf hm hx he

/-- An entry whose write has not been sent is sent (R289). -/
theorem State.drainEntry_sends (hs : e.sent = false) : ∃ road : Road, (s.Whole → m.Whole → road.leads) ∧
    s.drainEntry tid blk = (m.markSent tid blk c.id).along road 0 .commitEntryDrain { a := tid, b := blk } := by
  refine ⟨do pure ((← s.xlatRoad tm.plot tm.ctx (blk * 64) true) + (← m.placeRoad tm.plot dpa pte true)), fun hw hw' => ?_, ?_⟩
  · exact Road.leads_bind (State.xlatRoad_leads hw _ _ _ _) fun _ => Road.leads_bind (State.placeRoad_leads hw' _ _ _ _) fun _ => Road.leads_ok _
  · simp only [State.drainEntry, State.team_eq ht, hc, hu, hf, State.isMoving_none hm, hx, eccMiss_none he, hs, Bool.false_eq_true, if_false,
      Bool.not_false, if_true]

/-- One whose write has been sent is written, and leaves the buffer. -/
theorem State.drainEntry_writes (hs : e.sent = true) (hp : m.poisoned dpa = false) (hd : m.deadAt (m.phys dpa) = false) (hb : m.blockWait dpa = none) :
    s.drainEntry tid blk = ((m.writeEntry tm e dpa pte).dropEntry tid blk c.id).markCommitted tid := by
  have hun : m.uncached dpa = (m, 0) := by
    rw [State.uncached, State.wakeFrame, hd]
    simp [hb]
  simp only [State.drainEntry, State.team_eq ht, hc, hu, hf, State.isMoving_none hm, hx, eccMiss_none he, hs, hun, hb, hp, Option.getD_none, ite_self,
    Nat.lt_irrefl, Bool.false_and, Bool.false_eq_true, if_false, Bool.not_true]

end

/-- The step of a live team drains the entry that it names and looks at its oldest commit. -/
theorem commitEntryDrain_runs {s t : State} {tid blk : Nat} (hev : s.ev = { a := tid, b := blk }) (hl : (s.team tid).live = true)
    (hd : s.drainEntry tid blk = t) (htl : (t.team tid).live = true) : exec .commitEntryDrain s = .next (t.commitCheck tid) := by
  show execCommitEntryDrain s = _
  unfold execCommitEntryDrain
  rw [hev]
  dsimp only
  rw [hl, hd, if_neg Bool.false_ne_true, htl]
  rfl

/-- A commit that still has an entry goes on. -/
theorem State.commitCheck_waits {t : State} {tid : Nat} {x : Team} {c : Commit} {rest : List Commit} (h : tabFind t.teams tid = some x)
    (hc : x.commits = c :: rest) {e : CBEntry} (he : e ∈ x.cb) (hid : e.commit = some c.id) : t.commitCheck tid = t := by
  have hany : x.cb.any (fun y => decide (y.commit = some c.id)) = true := List.any_eq_true.2 ⟨e, he, by simp [hid]⟩
  rw [State.commitCheck, State.team_eq h, hc]
  dsimp only
  rw [hany, if_pos (.inr rfl)]

/-- With its last entry a commit ends, and its fence goes on. -/
theorem State.commitCheck_ends {t : State} {tid gid kind scope : Nat} {x : Team} {c : Commit} {g : Group} {b : Bool} {fin : Option Nat}
    (h : tabFind t.teams tid = some x) (hc : x.commits = [c]) (hu : c.unpaired = false) (hk : c.kind = .fence gid scope) (hcb : x.cb = [])
    (hg : tabFind t.groups gid = some g) (hh : g.hold = some (.fence kind scope b fin)) :
    (t.commitCheck tid).mem = t.mem ∧ SamePlaces t (t.commitCheck tid) ∧ tabFind (t.commitCheck tid).teams tid = some { x with commits := [] } ∧
      tabFind (t.commitCheck tid).groups gid = some { g with hold := some (.fence kind scope true (some t.cycle)) } := by
  have hend := State.find_modTeam h fun y => { y with commits := [] }
  have hdrain : (t.modTeam tid fun y => { y with commits := [] }).startDrain tid = t.modTeam tid fun y => { y with commits := [] } := by
    rw [State.startDrain, State.team_eq hend]
  have hrun : t.commitCheck tid = (t.modTeam tid fun y => { y with commits := [] }).commitFinish tid (.fence gid scope) := by
    rw [State.commitCheck, State.team_eq h, hc]
    dsimp only
    rw [hcb, hu, if_neg (by simp), hdrain, hk]
  rw [hrun]
  refine ⟨rfl, ⟨fun _ => rfl, fun _ => rfl⟩, hend, ?_⟩
  simp [State.commitFinish, hg, hh]

/-- The team once an entry of it has been written. -/
def Team.drained (tm : Team) (blk id : Nat) : Team :=
  { tm with cb := tm.cb.filter (fun e => !(decide (e.blk = blk) && decide (e.commit = some id))), committed := true }

section
variable {s m : State} {tid blk dpa pte : Nat} {tm : Team} {c : Commit} {rest : List Commit} {e : CBEntry}
  (hev : s.ev = { a := tid, b := blk }) (ht : tabFind s.teams tid = some tm) (hl : tm.live = true) (hc : tm.commits = c :: rest)
  (hu : c.unpaired = false) (hf : tm.cb.find? (fun y => decide (y.blk = blk) && decide (y.commit = some c.id) && !y.faulted) = some e)
  (hm : s.pgc.moving = [])
  (hx : s.translate tm.plot tm.ctx (blk * 64) (if e.desc.isSome then .fmtWrite else .write) = (m, .ok dpa pte)) (he : m.eccErrors = [])
  (hteams : m.teams = s.teams)
include hev ht hl hc hu hf hm hx he hteams

/-- The drain of an entry that has been sent: what memory, the team and the groups are before the commit is looked at. -/
theorem commitEntryDrain_written (hs : e.sent = true) (hp : (m.eccMiss dpa).poisoned dpa = false) (hb : m.blockWait dpa = none)
    (hbytes : ∀ x ∈ e.bytes, x.1 < 64) (hsort : tabSorted e.bytes = true) (hpool : isPool dpa = false) (ha : dpa % 64 = 0) (hl2 : m.l2Errors = [])
    (hdead : (isHbm m (m.phys dpa) && (m.frame (frameOf (m.phys dpa))).dead) = false) :
    ∃ t : State, exec .commitEntryDrain s = .next (t.commitCheck tid) ∧
      (∀ k, k < 64 → t.readByte (dpa + k) = match tabFind e.bytes k with | some x => x | none => m.readByte (dpa + k)) ∧
      (isHost dpa = false → t.readDesc dpa = e.descAfter pte (m.readDesc dpa)) ∧ tabFind t.teams tid = some (tm.drained blk c.id) ∧
      t.cycle = s.cycle ∧ unwatched t.groups = unwatched m.groups := by
  have hphys : m.phys dpa = dpa := by
    rw [State.phys, State.frameHolding, hpool]
    rfl
  have r : FrameAtRest (frameOf dpa) m := ⟨by rw [State.fillable_frameOf, ← hdead, hphys], he, hl2⟩
  rw [eccMiss_none he] at hp
  obtain ⟨wbytes, wdesc, wteams, wcycle, wgroups⟩ := State.writeEntry_writes ha hpool r tm pte hbytes hsort
  have hdrain := State.drainEntry_writes ht hc hu hf hm hx he hs hp (r.deadAt (by rw [hphys])) hb
  generalize m.writeEntry tm e dpa pte = w at wbytes wdesc wteams wcycle wgroups hdrain
  have hteam : tabFind ((w.dropEntry tid blk c.id).markCommitted tid).teams tid = some (tm.drained blk c.id) :=
    State.find_modTeam (State.find_modTeam (by rw [wteams, hteams, ht]) _) _
  refine ⟨_, commitEntryDrain_runs hev (by rw [State.team_eq ht, hl]) hdrain (by rw [State.team_eq hteam]; exact hl), wbytes, wdesc, hteam, ?_, wgroups⟩
  have hcyc := State.translate_cycle s tm.plot tm.ctx (blk * 64) (if e.desc.isSome then .fmtWrite else .write)
  rw [hx] at hcyc
  exact wcycle.trans hcyc

end

/-- What the write of an entry leaves of its block's descriptor (R108, R209, R296). -/
theorem CBEntry.descAfter_facts {e : CBEntry} (hb : ∀ y ∈ e.bytes, y.1 < 64) (pte : Nat) (old : BitVec 48) :
    (∀ d, e.desc = some d → e.descAfter pte old = d) ∧
    (e.desc = none → pteFmt pte = 2 → old.setWidth 8 = 0x40#8 → (e.descAfter pte old).setWidth 16 = old.setWidth 16 ∧
      ∀ w, w < 8 → (e.descAfter pte old).getLsbD (16 + w) =
        if e.bytes.any (fun z => decide (z.1 / 8 = w)) then e.tags.getLsbD w else old.getLsbD (16 + w)) ∧
    (e.desc = none → pteFmt pte ≠ 2 → old.setWidth 8 = 0x40#8 → (e.descAfter pte old).setWidth 16 = old.setWidth 16 ∧
      ∀ w, w < 8 → (e.descAfter pte old).getLsbD (16 + w) =
        if e.bytes.any (fun z => decide (z.1 / 8 = w)) then false else old.getLsbD (16 + w)) ∧
    (e.desc = none → pteFmt pte ≠ 2 → old.setWidth 8 ≠ 0x40#8 → e.descAfter pte old = old) := by
  have hwords : ∀ w ∈ e.bytes.map (fun b => b.1 / 8), w < 8 := by
    intro w hw
    obtain ⟨x, hx, rfl⟩ := List.mem_map.1 hw
    have := hb x hx
    omega
  have hany (w : Nat) : w ∈ e.bytes.map (fun b => b.1 / 8) ↔ e.bytes.any (fun z => decide (z.1 / 8 = w)) = true := by
    simp [List.mem_map, List.any_eq_true]
  refine ⟨fun d hd => by rw [CBEntry.descAfter, hd], fun hd h2 ho => ?_, fun hd h2 ho => ?_, fun hd h2 ho => ?_⟩
  · obtain ⟨h1, h2'⟩ := foldl_descSetTag e.tags.getLsbD (ws := (e.bytes.map (fun b => b.1 / 8)).eraseDups) ho fun w hw =>
      hwords w (List.mem_eraseDups.1 hw)
    rw [CBEntry.descAfter, hd]
    dsimp only
    rw [if_pos h2]
    exact ⟨h1, fun w hw => by simp only [h2' w hw, List.mem_eraseDups, hany]⟩
  · obtain ⟨h1, h2'⟩ := foldl_descSetTag (fun _ => false) ho hwords
    rw [CBEntry.descAfter, hd]
    dsimp only
    rw [if_neg h2, foldl_clearTag_obj ho]
    exact ⟨h1, fun w hw => by simp only [h2' w hw, hany]⟩
  · rw [CBEntry.descAfter, hd]
    dsimp only
    rw [if_neg h2, foldl_clearTag_other ho]

/-- An entry whose write has not been sent is sent over its way. -/
theorem commitEntryDrain_sends {s m : State} {tid blk dpa pte : Nat} {tm : Team} {c : Commit} {e : CBEntry} (hev : s.ev = { a := tid, b := blk })
    (ht : tabFind s.teams tid = some tm) (hl : tm.live = true) (hc : tm.commits = [c]) (hu : c.unpaired = false) (hcb : tm.cb = [e])
    (hblk : e.blk = blk) (hid : e.commit = some c.id) (hfa : e.faulted = false) (hs : e.sent = false) (hd : e.desc = none) (hm : s.pgc.moving = [])
    (hx : s.translate tm.plot tm.ctx (blk * 64) .write = (m, .ok dpa pte)) (hteams : m.teams = s.teams) (he : m.eccErrors = [])
    (hw : ∀ e ∈ s.plots, e.2.culled = false) (hw' : ∀ e ∈ m.plots, e.2.culled = false) :
    ∃ t n, exec .commitEntryDrain s = .next t ∧ InAgenda t (m.cycle + n) .commitEntryDrain s.ev ∧ (t.team tid).cb = [{ e with sent := true }] ∧
      (t.team tid).commits = [c] ∧ SameMemory m t := by
  have hf : tm.cb.find? (fun y => decide (y.blk = blk) && decide (y.commit = some c.id) && !y.faulted) = some e := by simp [hcb, hblk, hid, hfa]
  obtain ⟨road, hroad, hdrain⟩ := State.drainEntry_sends ht hc hu hf hm (by rw [hd]; exact hx) he hs
  obtain ⟨n, rfl⟩ := hroad (State.whole_of hw) (State.whole_of hw')
  have hteam : tabFind ((m.markSent tid blk c.id).along (.ok n) 0 .commitEntryDrain { a := tid, b := blk }).teams tid =
      some { tm with cb := [{ e with sent := true }] } := by
    refine (State.find_modTeam (s := m) (by rw [hteams, ht]) _).trans ?_
    simp [hcb, hblk, hid]
  have hrun := commitEntryDrain_runs hev (by rw [State.team_eq ht, hl]) hdrain (by rw [State.team_eq hteam]; exact hl)
  rw [State.commitCheck_waits hteam hc (List.mem_singleton_self _) hid] at hrun
  refine ⟨_, 0 + n, hrun, ?_, ?_, ?_, ⟨fun _ => rfl, fun _ => rfl, fun _ => rfl⟩⟩
  · rw [hev]
    exact State.after_inAgenda _ _ _ _
  · rw [State.team_eq hteam]
  · rw [State.team_eq hteam]
    exact hc

/-- Settles O42: a commit takes the entries that none holds; an entry's write moves the block's bytes and tags and nothing else of its frame, whatever the
caches evict for it. -/
theorem commits : Obligations.Commits := by
  refine ⟨fun s tid k tm h hp => State.beginCommit_team h hp k,
    fun s gid kind scope g ha hg ho har => ⟨(commitPoint_one ha hg ho har).1 kind scope, (commitPoint_one ha hg ho har).2⟩, ?_, ?_, ?_, ?_⟩
  · intro s m tid blk dpa pte gid kind scope tm c e g fin b hev ht hl hc hu hk hcb hblk hid hfa hs hd hb hsort hm hx hp hpool
      ha _ hteams hl2 he hdead hbw hg hh
    have hf : tm.cb.find? (fun y => decide (y.blk = blk) && decide (y.commit = some c.id) && !y.faulted) = some e := by simp [hcb, hblk, hid, hfa]
    obtain ⟨t, hrun, hbytes, -, hteam, hcycle, hgroups⟩ :=
      commitEntryDrain_written hev ht hl hc hu hf hm (by rw [hd]; exact hx) he hteams hs hp hbw hb hsort hpool ha hl2 hdead
    have hempty : (tm.drained blk c.id).cb = [] := by simp [Team.drained, hcb, hblk, hid]
    have hfound : tabFind t.groups gid = some g := by
      rw [find_of_unwatched hgroups (by rw [State.group_eq hg, Group.watches, hh]), hg]
    obtain ⟨emem, eplaces, eteam, egroup⟩ := State.commitCheck_ends hteam hc hu hk hempty hfound hh
    refine ⟨_, hrun, fun k hk => (eplaces.readByte emem _).trans (hbytes k hk), ?_, ?_, ?_, by rw [egroup, hcycle]⟩
    · rw [State.team_eq eteam]
      exact hempty
    · rw [State.team_eq eteam]
    · rw [State.team_eq eteam]
      rfl
  · intro s m tid blk dpa pte tm c rest e x hev ht hl hc hu hf hs hxm hxb hxc hb hsort hm hx hp hpool ha hteams hl2 he hdead hbw
    obtain ⟨t, hrun, hbytes, hdesc, hteam, -, -⟩ :=
      commitEntryDrain_written hev ht hl hc hu hf hm hx he hteams hs hp hbw hb hsort hpool ha hl2 hdead
    have hstays : x ∈ (tm.drained blk c.id).cb := List.mem_filter.2 ⟨hxm, by simp [hxb]⟩
    rw [State.commitCheck_waits hteam hc hstays hxc] at hrun
    refine ⟨t, hrun, hbytes, fun hh => ?_, ?_, ?_, ?_⟩
    · rw [hdesc hh]
      exact CBEntry.descAfter_facts hb pte _
    · rw [State.team_eq hteam]
      rfl
    · rw [State.team_eq hteam]
      rfl
    · rw [State.team_eq hteam]
      rfl
  · intro s m tid blk dpa pte tm c e hev ht hl hc hu hcb hblk hid hfa hs hd hm hx hteams he _ hw hw'
    exact commitEntryDrain_sends hev ht hl hc hu hcb hblk hid hfa hs hd hm hx hteams he hw hw'
  · intro s hl
    show execCommitEntryDrain s = _
    unfold execCommitEntryDrain
    dsimp only
    rw [hl]
    rfl

end Sys2Proof.Machine
end

section
/-! PROOFS. The arithmetic of a pass (R109-R116). -/

namespace Sys2Proof.Machine

set_option Elab.async false
open Claims

/-! ## The expanded elements of a granule -/

/-- A value with its exceptions, as a number with its exceptions. -/
def numbered (v : Val × Fp) : Number × Fp := (v.1.number, v.2)

theorem intV_number (i : ℤ) : (intV i).number = whole i := by
  rw [intV, Val.number, signedNumber_natAbs, zpow_zero, mul_one, whole]

theorem microOf_eq {b : Nat} : microOf b = ((microScale b).1 : ℚ) * 2 ^ (microScale b).2 := by
  unfold microOf microScale
  by_cases h : b / 32 = 0
  · rw [if_pos h, if_pos h, zpow_neg, div_eq_mul_inv]
    norm_num
  · rw [if_neg h, if_neg h]
    dsimp only
    rw [show ((b / 32 : Nat) : ℤ) - 8 = ((b / 32 : Nat) : ℤ) - 3 + (-5 : ℤ) by ring, zpow_add₀ two_ne_zero]
    push_cast
    rw [zpow_neg]
    norm_num
    ring

/-- The element of a code of its format. -/
theorem elemVal_number (fmt : Nat) {raw : Nat} (h : raw < 2 ^ elementBits fmt) : (elemVal fmt raw).number = elementNumber fmt raw := by
  unfold elemVal elementNumber
  split
  · exact number_unpack _ _
  · exact number_unpack _ _
  · exact number_unpack _ _
  · exact number_unpack _ _
  · exact (intV_number _).trans (congrArg whole (sextInt_eq_toInt _ _))
  · exact (intV_number _).trans (congrArg (fun n : Nat => whole n) (Nat.mod_eq_of_lt h))
  · exact (intV_number _).trans (congrArg whole (sextInt_eq_toInt _ _))
  · exact number_unpack _ _
  · exact number_unpack _ _
  · exact number_unpack _ _

theorem fld_descAux (d : BitVec 48) (j : Nat) (hj : j < 4) : fld (descAux d) (8 * j) 8 = (d.extractLsb' (16 + 8 * j) 8).toNat := by
  rw [fld, descAux, BitVec.extractLsb'_toNat, BitVec.extractLsb'_toNat, Nat.shiftRight_eq_div_pow, Nat.shiftRight_eq_div_pow]
  interval_cases j <;> omega

theorem signedNumber_scaled (n : Bool) (m k : Nat) (e f : Int) (scl : Nat) :
    signedNumber n (m * k) (e + f + (scl : ℤ) - 127) = signedNumber n m e * ((k : ℚ) * 2 ^ f) * 2 ^ ((scl : ℤ) - 127) := by
  have hz : (2 : ℚ) ^ (e + f + (scl : ℤ) - 127) = 2 ^ e * 2 ^ f * 2 ^ ((scl : ℤ) - 127) := by
    rw [add_sub_assoc, zpow_add₀ two_ne_zero, zpow_add₀ two_ne_zero]
  unfold signedNumber
  rw [hz]
  push_cast
  split <;> ring

/-- The micro-scale of an element, as its factor. -/
def microFactor (fmt : Nat) (d : BitVec 48) (i : Nat) : ℚ := if fmt = 0x0C then microOf (d.extractLsb' (16 + 8 * (i / 32)) 8).toNat else 1

theorem elemMicro_eq (fmt : Nat) (d : BitVec 48) {i : Nat} (hi : i < 128) :
    microFactor fmt d i = ((elemMicro fmt (descAux d) i).1 : ℚ) * 2 ^ (elemMicro fmt (descAux d) i).2 := by
  unfold microFactor elemMicro
  split
  · rw [fld_descAux d _ (by omega), microOf_eq]
  · simp

/-- An element times its scales, with its exceptions (R113). -/
def scaled (x : Number) (scl : Nat) (mu : ℚ) : Number × Fp :=
  if scl = 255 then (.nan false, 0)
  else match x with
    | .nan s => (.nan false, if s then fpInvalid else 0)
    | .inf n => if mu = 0 then (.nan false, fpInvalid) else (.inf n, 0)
    | .num n q => (.num n (q * mu * 2 ^ ((scl : ℤ) - 127)), 0)

theorem expanded_eq (g : Granule) (i : Nat) : expanded g i = scaled (elementNumber (descFmt g.desc)
    (g.data.extractLsb' (elementBits (descFmt g.desc) * i) (elementBits (descFmt g.desc))).toNat) (descScl g.desc)
        (microFactor (descFmt g.desc) g.desc i) := rfl

/-- An expanded element of the model. -/
theorem expandElem_number (fmt scl : Nat) (d : BitVec 48) {i raw : Nat} (hi : i < 128) (hr : raw < 2 ^ elementBits fmt) :
    numbered (expandElem fmt scl (descAux d) i raw) = scaled (elementNumber fmt raw) scl (microFactor fmt d i) := by
  rw [elemMicro_eq fmt d hi, ← elemVal_number fmt hr]
  unfold expandElem scaled
  dsimp only
  generalize elemMicro fmt (descAux d) i = mu
  by_cases hs : scl = 255
  · rw [if_pos hs, if_pos hs]
    rfl
  rw [if_neg hs, if_neg hs]
  cases elemVal fmt raw with
  | nan s => rfl
  | inf n =>
    have hzero : (mu.1 : ℚ) * 2 ^ mu.2 = 0 ↔ mu.1 = 0 := by
      rw [mul_eq_zero, or_iff_left (zpow_ne_zero _ two_ne_zero), Nat.cast_eq_zero]
    simp only [Val.number, hzero]
    split <;> rfl
  | fin n m e =>
    simp only [numbered, Val.number, signedNumber_scaled]

theorem fmtClass_bits {fmt cls : Nat} (h : fmtClass fmt = some cls) : classBits cls = elementBits fmt ∧ cls ≤ 4 := by
  unfold fmtClass at h
  split at h <;> cases h
  all_goals exact ⟨rfl, by decide⟩

/-- The elements of a granule of a class. -/
theorem Granule.values_of_class {g : Granule} {cls : Nat} (h : fmtClass (descFmt g.desc) = some cls) :
    g.values.length = 8 * 2 ^ cls ∧ ∀ k, k < 8 * 2 ^ cls → ∃ v, g.values[k]? = some v ∧ numbered v = expanded g k := by
  obtain ⟨hbits, hcls⟩ := fmtClass_bits h
  have hvalues : g.values = (List.range (8 * 2 ^ cls)).map fun i => expandElem (descFmt g.desc) (descScl g.desc) (descAux g.desc) i
      (fld g.data.toNat (elementBits (descFmt g.desc) * i) (elementBits (descFmt g.desc))) := by
    rw [← hbits]
    show (match fmtClass (descFmt g.desc) with | some c => _ | none => _) = _
    rw [h]
    rfl
  refine ⟨by rw [hvalues, List.length_map, List.length_range], fun k hk => ⟨_, by rw [hvalues, List.getElem?_map, List.getElem?_range hk]; rfl, ?_⟩⟩
  have hk128 : k < 128 := by
    have : 2 ^ cls ≤ 2 ^ 4 := Nat.pow_le_pow_right (by decide) hcls
    omega
  dsimp only
  rw [fld_toNat, expandElem_number _ _ _ hk128 (BitVec.isLt _), expanded_eq]

/-! ## The tree of a pass -/

theorem a96_regular : a96.Regular := Fmt.regular (by simp)

/-- A value rounded to A96 stands for the number that its code names. -/
theorem toA96_delivers (v : Val × Fp) : ∃ c, Delivers a96 .rne false (v.1.number, v.2) c ∧
    ((toA96 v.1).1.number, (toA96 v.1).2 ||| v.2) = (Claims.number a96 c.1, c.2) :=
  ⟨_, ⟨_, deliver_delivered a96_regular .rne false v.1, rfl⟩, Prod.ext (number_unpack _ _) rfl⟩

theorem productOf_mxProduct (cls : Nat) (x y : Val × Fp) : ProductOf cls (numbered x) (numbered y) (numbered (mxProduct cls x y)) := by
  have hp := mulV_number x.1 y.1
  unfold ProductOf mxProduct
  dsimp only [numbered]
  rw [← hp]
  by_cases h : cls = 0
  · obtain ⟨c, hc, hq⟩ := toA96_delivers (mulV x.1 y.1)
    obtain ⟨hq1, hq2⟩ := Prod.ext_iff.1 hq
    rw [if_pos h, if_pos h]
    refine ⟨c, hc, Prod.ext hq1 ?_⟩
    rw [← hq2]
    simp only [BitVec.or_assoc, BitVec.or_comm (toA96 _).2]
  · rw [if_neg h, if_neg h]
    exact Prod.ext rfl BitVec.or_zero

/-- An addition of A96 is a node of the tree. -/
theorem nodeOf_a96Add (x y : Val × Fp) :
    NodeOf (numbered x) (numbered y) (numbered ((a96Add x.1 y.1).1, x.2 ||| y.2 ||| (a96Add x.1 y.1).2)) := by
  obtain ⟨c, hc, hq⟩ := toA96_delivers (addV .rne x.1 y.1)
  obtain ⟨hq1, hq2⟩ := Prod.ext_iff.1 hq
  rw [addV_number] at hc
  refine ⟨c, hc, Prod.ext hq1 ?_⟩
  show x.2 ||| y.2 ||| ((addV .rne x.1 y.1).2 ||| (toA96 _).2) = _
  rw [← hq2, BitVec.or_comm (addV .rne x.1 y.1).2]
  rfl

theorem pairUp_length {l : List (Val × Fp)} {n : Nat} (h : l.length = 2 * n) : (pairUp l).length = n := by
  induction l using pairUp.induct generalizing n with
  | case1 => rw [List.length_nil] at h; rw [pairUp, List.length_nil]; omega
  | case2 x => rw [List.length_singleton] at h; omega
  | case3 x y t ih =>
    obtain _ | n := n
    · cases h
    · rw [pairUp, List.length_cons, ih (n := n) (by simp only [List.length_cons] at h; omega)]

theorem pairUp_get {l : List (Val × Fp)} {j : Nat} {x y : Val × Fp} (hx : l[2 * j]? = some x) (hy : l[2 * j + 1]? = some y) :
    (pairUp l)[j]? = some ((a96Add x.1 y.1).1, x.2 ||| y.2 ||| (a96Add x.1 y.1).2) := by
  induction l using pairUp.induct generalizing j with
  | case1 => cases hx
  | case2 v => rw [List.getElem?_cons_succ] at hy; cases hy
  | case3 v w t ih =>
    obtain _ | j := j
    · cases hx
      cases hy
      rfl
    · exact ih hx hy

theorem treeOf_treeSum (n : Nat) (l : List (Val × Fp)) (h : l.length = 2 ^ n) : TreeOf n (l.map numbered) (numbered (treeSum n l)) := by
  induction n generalizing l with
  | zero =>
    obtain ⟨v, rfl⟩ := List.length_eq_one_iff.1 h
    rfl
  | succ n ih =>
    have hlen := pairUp_length (n := 2 ^ n) (by rw [h, pow_succ, Nat.mul_comm])
    refine ⟨(pairUp l).map numbered, ?_, fun j x y hx hy => ?_, ih _ hlen⟩
    · rw [List.length_map, List.length_map, hlen, h, pow_succ, Nat.mul_comm]
    · rw [List.getElem?_map, Option.map_eq_some_iff] at hx hy
      obtain ⟨v, hv, rfl⟩ := hx
      obtain ⟨w, hw, rfl⟩ := hy
      exact ⟨_, by rw [List.getElem?_map, pairUp_get hv hw]; rfl, nodeOf_a96Add v w⟩

/-- A96 has codes for every number and both infinities. -/
theorem delivered_isResult {x : Number} (hx : x.isNaN = false) {r : Nat × Fp} (h : Delivered a96 .rne false x r) :
    ∃ n fl, n.isNaN = false ∧ IsResult a96 n fl r := by
  have hinf : a96.hasInf = true := rfl
  cases x with
  | nan s => cases hx
  | inf n =>
    rw [Delivered, if_pos hinf] at h
    exact ⟨_, _, rfl, h⟩
  | num n q =>
    rw [Delivered] at h
    split at h
    · exact ⟨_, _, rfl, h⟩
    · split at h
      · rw [Overflowed, if_neg (by decide), if_neg (by cases n <;> decide), if_pos hinf] at h
        exact ⟨_, _, rfl, h⟩
      · exact ⟨_, _, rfl, h⟩

/-- What A96 delivers is a code that delivers itself. -/
theorem a96Code_toA96 (v : Val) : a96Code (toA96 v).1 = (deliver a96 .rne false v).1 := by
  cases hv : v.isNan with
  | true =>
    obtain ⟨s, rfl⟩ : ∃ s, v = .nan s := by cases v <;> simp_all [Val.isNan]
    revert s
    decide
  | false =>
    have hd := deliver_delivered a96_regular .rne false v
    rw [← Val.number_isNaN] at hv
    obtain ⟨n, fl, hn, hcode, hnum, -⟩ := delivered_isResult hv hd
    have hnan : (unpack a96 (deliver a96 .rne false v).1).isNan = false := by rw [← Val.number_isNaN, number_unpack, hnum, hn]
    have hself := deliver_eq_code a96_regular hcode (number_unpack _ _) hnan .rne false
    show (deliver a96 .rne false (unpack a96 _)).1 = _
    rw [hself]

/-- A pass's work on one entry is that of R112 to R116. -/
theorem passEntry_passOf {a b : Granule} {cls : Nat} (ha : fmtClass (descFmt a.desc) = some cls) (hb : fmtClass (descFmt b.desc) = some cls) (acc : Acc) :
    PassOf cls a b acc (passEntry cls a.values b.values acc) := by
  obtain ⟨hla, hga⟩ := Granule.values_of_class ha
  obtain ⟨hlb, hgb⟩ := Granule.values_of_class hb
  generalize hps : List.zipWith (mxProduct cls) a.values b.values = ps
  have hlen : ps.length = 8 * 2 ^ cls := by rw [← hps, List.length_zipWith, hla, hlb, Nat.min_self]
  have htree := treeOf_treeSum (3 + cls) ps (by rw [hlen, pow_add]; rfl)
  refine ⟨ps.map numbered, numbered (treeSum (3 + cls) ps), (finishF a96 .rne false (addV .rne (unpack a96 acc.toNat) (treeSum (3 + cls) ps).1)),
    by rw [List.length_map, hlen], fun k hk => ?_, htree, ?_, ?_⟩
  · obtain ⟨x, hx, hnx⟩ := hga k hk
    obtain ⟨y, hy, hny⟩ := hgb k hk
    refine ⟨numbered (mxProduct cls x y), ?_, hnx ▸ hny ▸ productOf_mxProduct cls x y⟩
    rw [← hps, List.getElem?_map, List.getElem?_zipWith, hx, hy]
    rfl
  · have hd := finishF_delivers a96_regular .rne false (addV .rne (unpack a96 acc.toNat) (treeSum (3 + cls) ps).1)
    rwa [addV_number, number_unpack] at hd
  · rw [passEntry, hps]
    refine Prod.ext (congrArg (BitVec.ofNat 96) (a96Code_toA96 _)) ?_
    show (treeSum (3 + cls) ps).2 ||| ((addV _ _ _).2 ||| (toA96 _).2) = _ ||| ((deliver _ _ _ _).2 ||| _)
    rw [BitVec.or_comm (addV _ _ _).2]
    rfl

theorem passArithmetic : PassArithmetic := by
  refine ⟨rfl, ?_, ?_, fun a b acc cls ha hb => passEntry_passOf ha hb acc⟩
  · intro fmt cls h
    fin_cases h <;> rfl
  · intro fmt h
    refine Option.eq_none_iff_forall_ne_some.2 fun c hc => h ?_
    unfold fmtClass at hc
    split at hc
    on_goal 11 => cases hc
    all_goals simp

end Sys2Proof.Machine
end

section
/-! PROOFS. Requests, grants and passes of the matrix engine (R235-R245). -/

namespace Sys2Proof.Machine

set_option Elab.async false
open Claims

/-! ## Requests and grants -/

@[simp] theorem State.quad_modQuad_same (s : State) (q : Nat) (f : Quad → Quad) : (s.modQuad q f).quad q = f (s.quad q) := tabGet_tabMod_same _ _ _ _

theorem State.afterOnce_quad (s : State) (n : Nat) (i : Instr) (e : Ev) (q : Nat) : (s.afterOnce n i e).quad q = s.quad q := by
  rw [State.quad, State.afterOnce_quads]
  rfl

/-- A pass that is not split takes an entry of its quad's table at its issue (R235, R240). -/
theorem mxp_issues {u : Issuer} {s : State} {a : BitVec 6} {f : BitVec 1} (h : Issues (.mxp a f) u s) (hs : mxSplit (u.mxpBlock a) = false) :
    let b := u.mxpBlock a
    let r := passReq u s.nextId b (u.g.granules (16 * mxARow b) (mxM b)) (u.g.granules (16 * mxBRow b) (mxN b)) none (some s.cycle)
    ∃ t, exec (.mxp a f) s = .next t ∧ tabFind (t.quad (plotQuad u.g.plot)).resv (s.nextId + 1) = some r ∧
      tabFind (t.group u.gid).ops s.nextId = some (u.capture (.mxp a f)) ∧
      (∀ n, (t.group u.gid).readF n = if u.flagOf (.mxp a f) = some n then u.g.readF n + 1 else u.g.readF n) ∧ SameMemory s t := by
  dsimp only
  generalize hr : passReq u s.nextId (u.mxpBlock a) _ _ none (some s.cycle) = r
  let g : Group := { (u.g.incF (u.capture (.mxp a f)).flag) with ops := tabPut u.g.ops s.nextId (u.capture (.mxp a f)) }
  let m := (s.startQuiet u (.mxp a f)).reserve (plotQuad u.g.plot) r
  have hrun : exec (.mxp a f) s = .next (finish u (.mxp a f) (.ok m)) := by
    show issue (.mxp a f) s _ = _
    rw [issue_own h rfl rfl]
    dsimp only
    rw [hs, hr]
    rfl
  have hg : tabFind m.groups u.gid = some g := by
    rw [show m.groups = (s.startQuiet u (.mxp a f)).groups from State.afterOnce_groups _ _ _ _]
    simp [State.startQuiet, State.issuer_group h.unit, g]
  have hq : (m.quad (plotQuad u.g.plot)).resv = tabPut (s.quad (plotQuad u.g.plot)).resv (s.nextId + 1) r := by
    rw [show m.quad _ = _ from State.afterOnce_quad _ _ _ _ _, State.quad_modQuad_same]
    rfl
  refine ⟨_, hrun, ?_, ?_, fun n => ?_, ?_⟩
  · rw [finish_ok_field (fun t => t.quad (plotQuad u.g.plot)) fun _ _ _ _ => rfl, hq, tabFind_tabPut_same]
  · exact (congrArg (fun t => tabFind t s.nextId) (finish_ok_group hg (fun x => x.ops) fun _ _ => rfl)).trans (tabFind_tabPut_same _ _ _)
  · rw [finish_ok_group hg (fun x => x.readF n) fun _ _ => rfl, ← u.capture_flag]
    exact u.g.readF_incF (u.capture (.mxp a f)).flag n
  · exact (SameMemory.trans (t := m) (State.afterOnce_memory _ _ _ _) (finish_ok_sequenced u (.mxp a f) m).elsewhere.memory)

/-- A path without an eligible request grants none. -/
theorem State.grantPath_none {s : State} {q : Nat} {d : Bool} (h : ∀ e ∈ (s.quad q).resv, e.2.drain = d → eligible (s.quad q) e = false) :
    s.grantPath q d = s := by
  have hf : (s.quad q).resv.filter (fun e => decide (e.2.drain = d) && eligible (s.quad q) e) = [] :=
    List.filter_eq_nil_iff.2 fun e he => by
      by_cases hd : e.2.drain = d <;> simp [hd, h e he]
  rw [State.grantPath]
  dsimp only
  rw [hf]
  rfl

theorem mxeGrant_idle {s : State} (h : ∀ e ∈ (s.quad s.ev.a).resv, eligible (s.quad s.ev.a) e = false) : exec .mxeGrant s = .next s := by
  have hno (d : Bool) : (s.quad s.ev.a).resv.any (fun e => decide (e.2.drain = d) && eligible (s.quad s.ev.a) e) = false :=
    List.any_eq_false.2 fun e he => by simp [h e he]
  show execMxeGrant s = _
  unfold execMxeGrant
  dsimp only
  rw [State.grantPath_none fun e he _ => h e he, State.grantPath_none fun e he _ => h e he]
  simp only [hno, Bool.false_eq_true, if_false]

/-- A pass takes the array: its request is granted, its slot fills. -/
def Quad.grantPass (x : Quad) (k cycle : Nat) (r : MxReq) (sl : AccSlot) : Quad :=
  { x with
    resv := tabPut x.resv k { r with granted := some cycle }
    slots := tabPut x.slots r.slot { sl with st := .filling }
    arrayFree := cycle + passCycles r.blk.toNat }

theorem Quad.grantPass_resv {x : Quad} {k : Nat} {r : MxReq} (h : x.resv = [(k, r)]) (cycle : Nat) (sl : AccSlot) :
    (x.grantPass k cycle r sl).resv = [(k, { r with granted := some cycle })] := by
  simp [Quad.grantPass, h, tabPut]

theorem State.modQuad_congr {s : State} {q : Nat} {f f' : Quad → Quad} (h : f (s.quad q) = f' (s.quad q)) : s.modQuad q f = s.modQuad q f' := by
  unfold State.modQuad tabMod
  rw [show tabGet {} s.quads q = s.quad q from rfl, h]

theorem State.slotTo_found {s : State} {q n : Nat} {sl : AccSlot} (h : tabFind (s.quad q).slots n = some sl) (st : SlotState) :
    s.slotTo q n st = s.modQuad q fun x => { x with slots := tabPut (s.quad q).slots n { sl with st := st } } :=
  State.modQuad_congr (by rw [h])

theorem State.modQuad_modQuad (s : State) (q : Nat) (f f' : Quad → Quad) : (s.modQuad q f).modQuad q f' = s.modQuad q fun x => f' (f x) := by
  have h : tabMod {} (tabMod {} s.quads q f) q f' = tabMod {} s.quads q fun x => f' (f x) := by
    simp [tabMod, tabPut_tabPut]
  exact congrArg (fun l => ({ s with quads := l } : State)) h

/-- The least request of the array's path is granted when the path is free. -/
theorem State.grantPath_pass {s : State} {q k : Nat} {r : MxReq} {sl : AccSlot}
    (hr : leastBy s.grantKey ((s.quad q).resv.filter (fun e => decide (e.2.drain = false) && eligible (s.quad q) e)) = some (k, r))
    (hsl : tabFind (s.quad q).slots r.slot = some sl) (hfree : (s.quad q).arrayFree ≤ s.cycle) :
    s.grantPath q false = (s.modQuad q fun x => x.grantPass k s.cycle r sl).after (16 + passCycles r.blk.toNat) .mxePassComplete { a := q, b := k } := by
  rw [State.grantPath]
  dsimp only
  rw [hr]
  dsimp only
  rw [if_neg Bool.false_ne_true, if_neg (Nat.not_lt.2 hfree), if_neg Bool.false_ne_true, if_neg Bool.false_ne_true,
    State.slotTo_found (sl := sl) (by rw [State.quad_modQuad_same]; exact hsl), State.modQuad_modQuad, State.modQuad_modQuad]
  refine congrArg (fun t : State => t.after _ _ _) (State.modQuad_congr ?_)
  rw [State.quad_modQuad_same]
  rfl

/-- The only request of a quad, for a pass: the array's path is free, so that it is granted (R236, R237). -/
theorem mxeGrant_one {s : State} {k : Nat} {r : MxReq} {sl : AccSlot} (hr : (s.quad s.ev.a).resv = [(k, r)]) (hd : r.drain = false)
    (he : r.entry.isSome = true) (hn : r.granted = none) (hsl : tabFind (s.quad s.ev.a).slots r.slot = some sl) (hst : sl.st = .ready)
    (hfree : (s.quad s.ev.a).arrayFree ≤ s.cycle) : exec .mxeGrant s =
      .next ((s.modQuad s.ev.a fun x => x.grantPass k s.cycle r sl).after (16 + passCycles r.blk.toNat) .mxePassComplete { a := s.ev.a, b := k }) := by
  have hold : olderReq (k, r) (k, r) = false := by
    cases h : r.entry <;> simp [olderReq, h]
  have helig : eligible (s.quad s.ev.a) (k, r) = true := by simp [eligible, he, hn, slotReady, hsl, hst, hr, hold]
  have hgrant := State.grantPath_pass (s := s) (q := s.ev.a) (k := k) (by
    rw [hr, List.filter_cons_of_pos (by rw [hd, helig]; rfl), List.filter_nil]
    rfl) hsl hfree
  generalize hv : (s.modQuad s.ev.a fun x => x.grantPass k s.cycle r sl).after (16 + passCycles r.blk.toNat) .mxePassComplete
      { a := s.ev.a, b := k } = v at hgrant ⊢
  have hquad : v.quad s.ev.a = (s.quad s.ev.a).grantPass k s.cycle r sl := by
    rw [← hv]
    exact State.quad_modQuad_same s s.ev.a fun x => x.grantPass k s.cycle r sl
  have hdone : ∀ e ∈ (v.quad s.ev.a).resv, eligible (v.quad s.ev.a) e = false := by
    rw [hquad, Quad.grantPass_resv hr]
    intro e hm
    rw [List.mem_singleton.1 hm]
    simp [eligible]
  have hno (d : Bool) : (v.quad s.ev.a).resv.any (fun e => decide (e.2.drain = d) && eligible (v.quad s.ev.a) e) = false :=
    List.any_eq_false.2 fun e hm => by simp [hdone e hm]
  show execMxeGrant s = _
  unfold execMxeGrant
  dsimp only
  rw [hgrant, State.grantPath_none fun e hm _ => hdone e hm]
  simp only [hno, Bool.false_eq_true, if_false]

/-- A broadcast that arrives where no B-source waits (R245). -/
theorem splitBroadcastArrival_waits {s : State} (h : (s.quad s.ev.a).resv = []) : exec .splitBroadcastArrival s =
    .next (s.modQuad s.ev.a (fun x => { x with bcasts := x.bcasts.map (fun y => if y.id = s.ev.b then { y with arrived := true } else y) })) := by
  show execSplitBroadcastArrival s = _
  rw [execSplitBroadcastArrival, State.formParts, State.quad_modQuad_same, h]
  rfl

/-! ## A pass -/

/-- Entries of the tiles of a slot stand at places of their own. -/
theorem accKey_inj {sl : AccSlot} {i j i' j' : Nat} (hj : j < 32 * sl.tc) (hj' : j' < 32 * sl.tc) (h : accKey sl i j = accKey sl i' j') :
    i = i' ∧ j = j' := by
  unfold accKey at h
  have hcell : sl.unit + i / 32 * sl.tc + j / 32 = sl.unit + i' / 32 * sl.tc + j' / 32 ∧ i % 32 = i' % 32 ∧ j % 32 = j' % 32 := by omega
  obtain ⟨htile, hi, hjm⟩ := hcell
  have hc : j / 32 < sl.tc := by omega
  have hc' : j' / 32 < sl.tc := by omega
  have hrow : i / 32 = i' / 32 := by
    have h1 : (i / 32 * sl.tc + j / 32) / sl.tc = i / 32 := by
      rw [Nat.mul_comm, Nat.mul_add_div (by omega), Nat.div_eq_of_lt hc, Nat.add_zero]
    have h2 : (i' / 32 * sl.tc + j' / 32) / sl.tc = i' / 32 := by
      rw [Nat.mul_comm, Nat.mul_add_div (by omega), Nat.div_eq_of_lt hc', Nat.add_zero]
    rw [← h1, ← h2, show i / 32 * sl.tc + j / 32 = i' / 32 * sl.tc + j' / 32 by omega]
  rw [hrow] at htile
  omega

/-- The entries that a pass may write, row by row. -/
def passCells (b : Nat) : List (Nat × Nat) := (List.range (mxM b)).flatMap (fun i => (List.range (mxN b)).map (fun j => (i, j)))

theorem mem_passCells {b : Nat} {e : Nat × Nat} : e ∈ passCells b ↔ e.1 < mxM b ∧ e.2 < mxN b := by
  obtain ⟨i, j⟩ := e
  simp [passCells]

theorem passCells_nodup (b : Nat) : (passCells b).Nodup := by
  unfold passCells
  rw [List.nodup_flatMap]
  refine ⟨fun i _ => List.nodup_range.map fun _ _ h => (Prod.mk.inj h).2, List.nodup_range.imp ?_⟩
  intro i i' hne
  rw [Function.onFun, List.disjoint_left]
  rintro ⟨a, c⟩ h h'
  obtain ⟨_, _, h1⟩ := List.mem_map.1 h
  obtain ⟨_, _, h2⟩ := List.mem_map.1 h'
  exact hne ((Prod.mk.inj h1).1.trans (Prod.mk.inj h2).1.symm)

/-- One entry's turn of a pass: its new value, its exceptions gathered. -/
def passTurn (sl : AccSlot) (v : Nat × Nat → Acc → Acc × Fp) (acc : Tab Acc × Fp) (e : Nat × Nat) : Tab Acc × Fp :=
  (tabSet 0 acc.1 (accKey sl e.1 e.2) (v e (tabGet 0 acc.1 (accKey sl e.1 e.2))).1, acc.2 ||| (v e (tabGet 0 acc.1 (accKey sl e.1 e.2))).2)

/-- Entries at places of their own, each changed in its turn: every one has its new value, every other place its old one, and an exception is one of an
entry or one from before. -/
theorem foldl_passTurn (sl : AccSlot) (v : Nat × Nat → Acc → Acc × Fp) {l : List (Nat × Nat)} (acc : Tab Acc) (fp : Fp)
    (h : (l.map fun e => accKey sl e.1 e.2).Nodup) :
    (∀ e ∈ l, tabGet 0 (l.foldl (passTurn sl v) (acc, fp)).1 (accKey sl e.1 e.2) = (v e (tabGet 0 acc (accKey sl e.1 e.2))).1) ∧
    (∀ k, k ∉ l.map (fun e => accKey sl e.1 e.2) → tabGet 0 (l.foldl (passTurn sl v) (acc, fp)).1 k = tabGet 0 acc k) ∧
    ∀ n, (l.foldl (passTurn sl v) (acc, fp)).2.getLsbD n = true ↔
      fp.getLsbD n = true ∨ ∃ e ∈ l, (v e (tabGet 0 acc (accKey sl e.1 e.2))).2.getLsbD n = true := by
  obtain ⟨hout, hin⟩ := foldl_keyed (key := fun e : Nat × Nat => accKey sl e.1 e.2) (f := passTurn sl v)
      (get := fun (x : Tab Acc × Fp) k => tabGet 0 x.1 k)
    (val := fun e a => (v e a).1) (fun x e => tabGet_tabSet_same _ _ _ _) (fun x e k hk => tabGet_tabSet_ne _ _ _ hk) l (acc, fp)
  refine ⟨hin h, hout, ?_⟩
  clear hout hin
  induction l generalizing acc fp with
  | nil => simp
  | cons c l ih =>
    rw [List.map_cons, List.nodup_cons] at h
    have hkeep (e : Nat × Nat) (he : e ∈ l) : tabGet 0 (passTurn sl v (acc, fp) c).1 (accKey sl e.1 e.2) = tabGet 0 acc (accKey sl e.1 e.2) :=
      tabGet_tabSet_ne _ _ _ fun hk => h.1 (hk ▸ List.mem_map_of_mem he)
    intro n
    rw [List.foldl_cons, show passTurn sl v (acc, fp) c = ((passTurn sl v (acc, fp) c).1, (passTurn sl v (acc, fp) c).2) from rfl, ih _ _ h.2 n]
    have hexc : (∃ e ∈ l, (v e (tabGet 0 (passTurn sl v (acc, fp) c).1 (accKey sl e.1 e.2))).2.getLsbD n = true) ↔
        ∃ e ∈ l, (v e (tabGet 0 acc (accKey sl e.1 e.2))).2.getLsbD n = true :=
      exists_congr fun e => and_congr_right fun he => by rw [hkeep e he]
    rw [hexc, passTurn, BitVec.getLsbD_or, Bool.or_eq_true, or_assoc, List.exists_mem_cons_iff]

/-- The new value of an entry of a pass (R241). -/
def passValue (r : MxReq) (e : Nat × Nat) (acc : Acc) : Acc × Fp :=
  passEntry (mxClass r.blk.toNat) ((r.a.map Granule.values).getD e.1 []) ((r.b.map Granule.values).getD e.2 []) acc

/-- The entries that a pass of a request computes. -/
def passWork (b : Nat) : List (Nat × Nat) := (passCells b).filter (fun e => !subTileSkipped (mxTri b) (mxDiag b) e.1 e.2)

/-- A pass of a request that is not part of a split pass. -/
theorem passQuad_eq {r : MxReq} (h : r.part = none) (x : Quad) (sl : AccSlot) :
    passQuad x sl r =
      { x with
        acc := ((passWork r.blk.toNat).foldl (passTurn sl (passValue r)) (x.acc, 0)).1
        slots := tabPut x.slots r.slot { sl with
          st := .ready
          status := sl.status ||| ((passWork r.blk.toNat).foldl (passTurn sl (passValue r)) (x.acc, 0)).2
          mask := if mxTri r.blk.toNat = 0 then sl.mask
            else (mxTri r.blk.toNat, mxDiag r.blk.toNat, mxConst r.blk.toNat, mxVal r.blk.toNat) } } := by
  have hd : mxDiag r.blk.toNat - 128 * ((r.part.getD 0 : Nat) : Int) = mxDiag r.blk.toNat := by
    rw [h]
    simp
  unfold passQuad
  dsimp only
  rw [hd]
  rfl

/-- What a pass leaves in its quad (R241, R243). -/
theorem passQuad_effect {r : MxReq} (hp : r.part = none) (x : Quad) {sl : AccSlot} (hn : mxN r.blk.toNat ≤ 32 * sl.tc) :
    let b := r.blk.toNat
    let q := passQuad x sl r
    (∀ i j, i < mxM b → j < mxN b → tabGet 0 q.acc (accKey sl i j) =
      if subTileSkipped (mxTri b) (mxDiag b) i j then tabGet 0 x.acc (accKey sl i j) else (passValue r (i, j) (tabGet 0 x.acc (accKey sl i j))).1) ∧
    (∀ k, (∀ i j, i < mxM b → j < mxN b → accKey sl i j ≠ k) → tabGet 0 q.acc k = tabGet 0 x.acc k) ∧
    ∃ sl', tabFind q.slots r.slot = some sl' ∧ sl'.st = .ready ∧ sl'.team = sl.team ∧ sl'.unit = sl.unit ∧
      (∀ e, e < 6 → (sl'.status.getLsbD e = true ↔ sl.status.getLsbD e = true ∨ ∃ i j, i < mxM b ∧ j < mxN b ∧
        subTileSkipped (mxTri b) (mxDiag b) i j = false ∧ (passValue r (i, j) (tabGet 0 x.acc (accKey sl i j))).2.getLsbD e = true)) ∧
      sl'.mask = if mxTri b = 0 then sl.mask else (mxTri b, mxDiag b, mxConst b, mxVal b) := by
  have hwork {e : Nat × Nat} : e ∈ passWork r.blk.toNat ↔
      (e.1 < mxM r.blk.toNat ∧ e.2 < mxN r.blk.toNat) ∧ subTileSkipped (mxTri r.blk.toNat) (mxDiag r.blk.toNat) e.1 e.2 = false := by
    rw [passWork, List.mem_filter, mem_passCells, Bool.not_eq_true']
  have hinj {e e' : Nat × Nat} (he : e.2 < mxN r.blk.toNat) (he' : e'.2 < mxN r.blk.toNat) (hk : accKey sl e.1 e.2 = accKey sl e'.1 e'.2) : e = e' := by
    obtain ⟨h1, h2⟩ := accKey_inj (Nat.lt_of_lt_of_le he hn) (Nat.lt_of_lt_of_le he' hn) hk
    exact Prod.ext h1 h2
  have hnodup : ((passWork r.blk.toNat).map fun e => accKey sl e.1 e.2).Nodup :=
    ((passCells_nodup _).filter _).map_on fun e he e' he' hk => hinj (hwork.1 he).1.2 (hwork.1 he').1.2 hk
  obtain ⟨hin, hout, hexc⟩ := foldl_passTurn sl (passValue r) x.acc 0 hnodup
  dsimp only
  rw [passQuad_eq hp]
  refine ⟨fun i j hi hj => ?_, fun k hk => ?_, _, tabFind_tabPut_same _ _ _, rfl, rfl, rfl, fun e _ => ?_, rfl⟩
  · by_cases hs : subTileSkipped (mxTri r.blk.toNat) (mxDiag r.blk.toNat) i j = true
    · rw [if_pos hs]
      refine hout _ fun hmem => ?_
      obtain ⟨c, hc, hck⟩ := List.mem_map.1 hmem
      obtain ⟨⟨-, hc2⟩, hcs⟩ := hwork.1 hc
      rw [hinj (e' := (i, j)) hc2 hj hck, hs] at hcs
      cases hcs
    · rw [if_neg hs]
      exact hin (i, j) (hwork.2 ⟨⟨hi, hj⟩, Bool.eq_false_iff.2 hs⟩)
  · refine hout k fun hmem => ?_
    obtain ⟨c, hc, hck⟩ := List.mem_map.1 hmem
    exact hk c.1 c.2 (hwork.1 hc).1.1 (hwork.1 hc).1.2 hck
  · rw [BitVec.getLsbD_or, Bool.or_eq_true, hexc]
    refine or_congr_right ?_
    constructor
    · rintro (h0 | ⟨c, hc, hb⟩)
      · simp at h0
      · exact ⟨c.1, c.2, (hwork.1 hc).1.1, (hwork.1 hc).1.2, (hwork.1 hc).2, hb⟩
    · rintro ⟨i, j, hi, hj, hs, hb⟩
      exact .inr ⟨(i, j), hwork.2 ⟨⟨hi, hj⟩, hs⟩, hb⟩

/-- A word without results completes: its flag counts down and nothing else of its group's registers changes. -/
theorem completeOp_bare {s : State} {gid op : Nat} {g : Group} {o : MemOp} (hg : tabFind s.groups gid = some g) (ho : tabFind g.ops op = some o)
    (hf : o.fwd = none) (hr : o.res = []) (hs : o.sres = none) (h : g.frontier ≠ [] ∨ g.clause.isSome = true ∨ g.hold.isSome = true) :
    s.completeOp gid op = s.modGroup gid fun x => (x.recapture s.cycle).ended op o := by
  have hwrite (x : Group) : (x.writeResults o).writeShadows o = x := by
    have hx : x.writeResults o = x := by
      rw [Group.writeResults, hr, hs]
      rfl
    rw [hx, Group.writeShadows, hr]
    split <;> rfl
  have hop : tabFind (g.recapture s.cycle).ops op = some (o.recapture g s.cycle) := by
    refine (tabFind_map _ _ _).trans ?_
    rw [ho]
    rfl
  have hflag : (o.recapture g s.cycle).flag = o.flag := o.recapture_reads g s.cycle MemOp.flag fun _ _ _ _ => rfl
  have hfwd : (o.recapture g s.cycle).fwd = none := (o.recapture_reads g s.cycle MemOp.fwd fun _ _ _ _ => rfl).trans hf
  have hex : ((g.recapture s.cycle).ended op o).exited = false := Group.goesOn_not_exited (by
    rwa [Group.ended_reads _ op Group.frontier fun _ _ _ => rfl, Group.ended_reads _ op Group.clause fun _ _ _ => rfl,
      Group.ended_reads _ op Group.hold fun _ _ _ => rfl])
  have hg1 : tabFind (s.modGroup gid fun x => x.recapture s.cycle).groups gid = some (g.recapture s.cycle) := by simp [hg]
  simp only [State.completeOp, State.group_eq hg, ho, hwrite, State.endOp, State.group_eq hg1, hop, hfwd, Option.bind_some, hflag, State.modGroup_modGroup]
  exact exitCheck_goesOn (g := (g.recapture s.cycle).ended op o) (by simp [hg, Group.ended]) hex

/-- A pass completes (R237). -/
theorem mxePassComplete_passes {s : State} {r : MxReq} {sl : AccSlot} {g : Group} {o : MemOp} (hr : tabFind (s.quad s.ev.a).resv s.ev.b = some r)
    (ha : r.asrc = none) (hsl : tabFind (s.quad s.ev.a).slots r.slot = some sl) (ht : sl.team = r.team) (hst : sl.st = .filling)
    (hg : tabFind s.groups r.gid = some g) (ho : tabFind g.ops r.op = some o) (hf : o.fwd = none) (hres : o.res = []) (hs : o.sres = none)
    (hgo : g.frontier ≠ [] ∨ g.clause.isSome = true ∨ g.hold.isSome = true) :
    ∃ t, exec .mxePassComplete s = .next t ∧
      t.quad s.ev.a = { passQuad (s.quad s.ev.a) sl r with resv := tabDel (passQuad (s.quad s.ev.a) sl r).resv s.ev.b } ∧
      tabFind t.groups r.gid = some ((g.recapture s.cycle).ended r.op o) ∧ SameMemory s t := by
  let f : Quad → Quad := fun x =>
    match tabFind x.slots r.slot with
    | some sl => if sl.team = r.team ∧ sl.st = .filling then passQuad x sl r else x
    | none => x
  let m := (s.modQuad s.ev.a f).unreserve s.ev.a s.ev.b
  have hfq : f (s.quad s.ev.a) = passQuad (s.quad s.ev.a) sl r := by
    show (match tabFind (s.quad s.ev.a).slots r.slot with | some sl => _ | none => _) = _
    rw [hsl]
    exact if_pos ⟨ht, hst⟩
  have hrun : exec .mxePassComplete s = .next (m.partSettled r) := by
    show execMxePassComplete s = _
    unfold execMxePassComplete
    dsimp only
    rw [hr] <;> rfl
  have hgroups : m.groups = s.groups := State.afterOnce_groups _ _ _ _
  have hcycle : m.cycle = s.cycle := State.afterOnce_cycle _ _ _ _
  have hquad : m.quad s.ev.a = { passQuad (s.quad s.ev.a) sl r with resv := tabDel (passQuad (s.quad s.ev.a) sl r).resv s.ev.b } := by
    show (State.afterOnce _ _ _ _).quad s.ev.a = _
    rw [State.afterOnce_quad, State.quad_modQuad_same, State.quad_modQuad_same, hfq]
  have hdone : m.partSettled r = m.modGroup r.gid fun x => (x.recapture s.cycle).ended r.op o := by
    rw [State.partSettled, ha]
    dsimp only
    rw [completeOp_bare (by rw [hgroups]; exact hg) ho hf hres hs hgo, hcycle]
  rw [hdone] at hrun
  refine ⟨_, hrun, hquad, ?_, SameMemory.trans (t := m) (State.afterOnce_memory _ _ _ _) (State.modGroup_rest _ _ _).2.1⟩
  rw [State.modGroup_groups, tabFind_tabUpd_same, hgroups, hg]
  rfl

theorem matrixPasses : MatrixPasses := by
  refine ⟨fun u s a f h hs => ?_, fun s h => mxeGrant_idle h, fun s k r sl hr hd he hn hsl hst hfree => ?_,
    fun s k r sl g o hk hr ha hp hsl ht hst _ hn hg ho hf hres hs hgo => ?_, fun s h => splitBroadcastArrival_waits h⟩
  · obtain ⟨t, hrun, hresv, hop, hflag, hmem⟩ := mxp_issues h hs
    exact ⟨t, _, hrun, hresv, rfl, rfl, rfl, rfl, rfl, rfl, rfl, rfl, rfl, rfl, hop, hflag, hmem⟩
  · have hclass : passCycles r.blk.toNat = if (r.blk.extractLsb' 40 3).toNat ≤ 1 then 512 else 128 := by
      rw [passCycles, mxClass, fld_toNat]
    dsimp only
    rw [← hclass]
    have hquad := State.quad_modQuad_same s s.ev.a fun x => x.grantPass k s.cycle r sl
    refine ⟨_, mxeGrant_one hr hd he hn hsl hst hfree, (congrArg Quad.resv hquad).trans (Quad.grantPass_resv hr _ _),
      (congrArg (fun x : Quad => tabFind x.slots r.slot) hquad).trans (tabFind_tabPut_same _ _ _), congrArg Quad.arrayFree hquad,
          State.after_inAgenda _ _ _ _,
      rfl, ⟨fun _ => rfl, fun _ => rfl, fun _ => rfl⟩⟩
  · subst hk
    obtain ⟨t, hrun, hquad, hgroup, hmem⟩ := mxePassComplete_passes hr ha hsl ht hst hg ho hf hres hs hgo
    obtain ⟨hin, hout, hslot⟩ := passQuad_effect hp (s.quad s.ev.a) hn
    refine ⟨t, hrun, ?_⟩
    dsimp only
    rw [hquad, State.group_eq hgroup]
    exact ⟨hin, hout, hslot, tabFind_tabDel_same _ _, tabFind_tabDel_same _ _, Group.ended_f _ _ _,
      Group.ended_reads _ r.op Group.v fun _ _ _ => rfl, hmem⟩

end Sys2Proof.Machine
end

section
/-! PROOFS. The drains of the matrix engine (R248-R252). -/

namespace Sys2Proof.Machine

set_option Elab.async false
open Claims

/-! ## The rows of a drain -/

theorem awake_atRest {s : State} (h : FramesAtRest s) (p : Nat) : s.deadAt p = false := by
  have hframe : (s.frame (frameOf p)).dead = false := by
    unfold State.frame tabGet
    cases hf : tabFind s.frames (frameOf p) with
    | none => rfl
    | some x => exact (h.1 _ (tabFind_mem hf)).1
  simp [State.deadAt, hframe]

theorem uncached_atRest {s : State} (h : FramesAtRest s) (a : Nat) : s.uncached a = (s, 0) := by
  have hw : s.wakeFrame (s.phys a) = s := by
    rw [State.wakeFrame, awake_atRest h]
    rfl
  unfold State.uncached
  dsimp only
  rw [hw, ite_self, blockWait_atRest h]
  rfl

theorem drainWait_atRest {s : State} (h : FramesAtRest s) (r : MxReq) : s.drainWait r = (s, 0) := by
  have hlate (l : List Nat) : l.foldl (fun m d => Nat.max m ((s.blockWait d).getD 0)) 0 = 0 :=
    foldl_fixed_of_mem fun d _ => by rw [blockWait_atRest h]; rfl
  have hplaces (l : List Nat) : l.foldl (fun (x : State × Nat) d => ((x.1.uncached d).1, Nat.max x.2 (x.1.uncached d).2)) (s, 0) = (s, 0) :=
    foldl_fixed_of_mem fun d _ => by rw [uncached_atRest h]; rfl
  unfold State.drainWait
  dsimp only
  rw [hlate]
  split
  · rfl
  · exact hplaces _

/-- The table of the bytes of a list, by their offsets. -/
theorem zip_offsets (bs : List Byte) : tabSorted ((List.range bs.length).zip bs) = true ∧
    ∀ k, tabFind ((List.range bs.length).zip bs) k = bs[k]? := by
  have key (l : List Byte) (n : Nat) : tabSorted ((List.range' n l.length).zip l) = true ∧ (∀ e ∈ (List.range' n l.length).zip l, n ≤ e.1) ∧
      ∀ k, tabFind ((List.range' n l.length).zip l) (n + k) = l[k]? := by
    induction l generalizing n with
    | nil => exact ⟨rfl, by simp, fun k => rfl⟩
    | cons b l ih =>
      obtain ⟨hs, hle, hfind⟩ := ih (n + 1)
      rw [List.length_cons, List.range'_succ, List.zip_cons_cons]
      refine ⟨tabSorted_cons.2 ⟨hle, hs⟩, List.forall_mem_cons.2 ⟨Nat.le_refl n, fun e he => Nat.le_of_succ_le (hle e he)⟩, fun k => ?_⟩
      obtain _ | k := k
      · simp [tabFind]
      · have hk := hfind k
        rw [Nat.add_assoc, Nat.add_comm 1 k] at hk
        rw [tabFind, if_neg (by omega), hk]
        rfl
  obtain ⟨hs, -, hfind⟩ := key bs 0
  rw [List.range_eq_range']
  exact ⟨hs, fun k => by rw [← hfind k, Nat.zero_add]⟩

/-- From one state to the other only the block of an address has been written. -/
structure WritesBlock (a : Nat) (s t : State) : Prop where
  places : SamePlaces s t
  only : OnlyMemory s t
  bytes : ∀ x, s.phys x / 64 ≠ s.phys a / 64 → t.readByte x = s.readByte x
  descs : ∀ x, s.phys x / 64 ≠ s.phys a / 64 → t.readDesc x = s.readDesc x

theorem Retags.writesBlock {a : Nat} {s t : State} {d : BitVec 48} (h : Retags a s t d) : WritesBlock a s t :=
  ⟨h.places, h.only, fun x _ => h.places.readByte h.mem x, h.other⟩

theorem WritesBlock.trans {a : Nat} {s t v : State} (h : WritesBlock a s t) (i : WritesBlock a t v) : WritesBlock a s v :=
  ⟨h.places.trans i.places, h.only.trans i.only, fun x hx => (i.bytes x (by rwa [h.places.phys, h.places.phys])).trans (h.bytes x hx),
    fun x hx => (i.descs x (by rwa [h.places.phys, h.places.phys])).trans (h.descs x hx)⟩

/-- A plain store of a whole block. -/
theorem State.storeMem_block {s : State} {a : Nat} (ha : a % 64 = 0) (h : s.deadAt (s.phys a) = false) {bs : List Byte} (hlen : bs.length = 64) :
    WritesBlock a s (s.storeMem a bs) ∧ ∀ k, k < 64 → (s.storeMem a bs).readByte (a + k) = bs.getD k 0 := by
  obtain ⟨hsorted, hfind⟩ := zip_offsets bs
  have hoff : ∀ x ∈ (List.range bs.length).zip bs, x.1 < 64 := by
    intro x hx
    rw [← hlen]
    exact List.mem_range.1 (List.of_mem_zip hx).1
  rw [State.storeMem, State.writeMem_eq_putBytes]
  rw [if_pos ⟨ha, hlen⟩, hlen]
  rw [hlen] at hsorted hfind hoff
  obtain ⟨bp, bd, bo, -⟩ := State.putBytes_awake ha h hoff
  have hread := State.readByte_putBytes ha h hoff hsorted
  generalize s.putBytes a ((List.range 64).zip bs) = u at bp bd bo hread ⊢
  have hu : u.deadAt (u.phys a) = false := by rw [bp.phys, bp.dead, h]
  have htags : Retags a u (u.clearTags a 64) _ :=
    Retags.foldl (f := fun u k => u.clearTags (a + k) 1) (g := fun d k => clearTag d (k / 8)) (l := List.range 64)
        (fun v hv k hk => Retags.clearTags ha hv (List.mem_range.1 hk)) u hu
  obtain ⟨cp, cm, cd, co⟩ := clearPoison_places (u.clearTags a 64) a
  have hlast : SamePlaces u ((u.clearTags a 64).clearPoison a) := htags.places.trans cp
  have hbyte (x : Nat) : ((u.clearTags a 64).clearPoison a).readByte x = u.readByte x := hlast.readByte (cm.trans htags.mem) x
  refine ⟨⟨bp.trans hlast, bo.trans (htags.only.trans co), fun x hx => ?_, fun x hx => ?_⟩, fun k hk => ?_⟩
  · rw [hbyte, (hread x).2 fun k hk hxk => hx ?_]
    have := s.phys_aligned ha
    omega
  · rw [cp.readDesc cd, htags.other x (by rwa [bp.phys, bp.phys]), bp.readDesc bd]
  · rw [hbyte, (hread (a + k)).1 k hk (s.phys_block ha hk), hfind]
    rw [List.getD_eq_getElem?_getD, List.getElem?_eq_getElem (hlen.symm ▸ hk)]
    rfl

/-- A granule of a drain in memory that the slices do not hold (R251). -/
theorem State.drainWrite_effect {s : State} {c a : Nat} (ha : a % 64 = 0) (h : s.deadAt (s.phys a) = false) (hl : (s.l2Line a).isNone = true) (g : Granule) :
    WritesBlock a s (s.drainWrite c a g) ∧ (∀ k, k < 64 → (s.drainWrite c a g).readByte (a + k) = g.data.extractLsb' (8 * k) 8) ∧
      (isHost a = false → (s.drainWrite c a g).readDesc a = g.desc) := by
  obtain ⟨hw, hbytes⟩ := State.storeMem_block (s := s) ha h (natBytes_length 64 g.data.toNat)
  have hrun : s.drainWrite c a g = (s.storeMem a (natBytes 64 g.data.toNat)).writeDesc a g.desc := by
    rw [State.drainWrite, Option.isNone_iff_eq_none.1 hl]
    rfl
  rw [hrun]
  generalize s.storeMem a (natBytes 64 g.data.toNat) = u at hw hbytes ⊢
  have htag := Retags.writeDesc (s := u) (by rw [hw.places.phys, hw.places.dead, h]) g.desc
  refine ⟨hw.trans htag.writesBlock, fun k hk => ?_, fun hh => htag.desc (by simp [hasMeta, hh])⟩
  rw [htag.places.readByte htag.mem, hbytes k hk, natBytes_getD hk]
  apply BitVec.eq_of_toNat_eq
  rw [BitVec.toNat_ofNat, BitVec.extractLsb'_toNat, Nat.shiftRight_eq_div_pow]

/-- Granules at blocks of their own, written one after another. -/
theorem foldl_drainWrite {c : Nat} {dpa : Nat → Nat} {l : List (Granule × Nat)} {s : State} (h : ∀ p, s.deadAt p = false)
    (hd : ∀ e ∈ l, dpa e.2 % 64 = 0 ∧ (s.l2Line (dpa e.2)).isNone = true)
    (hne : l.Pairwise fun e e' => s.phys (dpa e.2) / 64 ≠ s.phys (dpa e'.2) / 64) :
    let t := l.foldl (fun t e => t.drainWrite c (dpa e.2) e.1) s
    SamePlaces s t ∧ OnlyMemory s t ∧
      (∀ e ∈ l, (∀ n, n < 64 → t.readByte (dpa e.2 + n) = e.1.data.extractLsb' (8 * n) 8) ∧
          (isHost (dpa e.2) = false → t.readDesc (dpa e.2) = e.1.desc)) ∧
      ∀ a, (∀ e ∈ l, s.phys a / 64 ≠ s.phys (dpa e.2) / 64) → t.readByte a = s.readByte a ∧ t.readDesc a = s.readDesc a := by
  induction l generalizing s with
  | nil => exact ⟨SamePlaces.refl s, rfl, by simp, fun _ _ => ⟨rfl, rfl⟩⟩
  | cons e l ih =>
    obtain ⟨⟨ha, hl⟩, hd'⟩ := List.forall_mem_cons.1 hd
    obtain ⟨hfirst, hrest⟩ := List.pairwise_cons.1 hne
    obtain ⟨hw, hbytes, hdesc⟩ := State.drainWrite_effect (c := c) ha (h _) hl e.1
    rw [List.foldl_cons]
    generalize s.drainWrite c (dpa e.2) e.1 = u at hw hbytes hdesc ⊢
    have hline (a : Nat) : u.l2Line a = s.l2Line a := hw.only.field (fun v => v.l2Line a) fun _ _ _ _ _ _ _ _ _ => rfl
    obtain ⟨ip, io, iw, ir⟩ := ih (s := u) (fun p => by rw [hw.places.dead, h]) (fun x hx => ⟨(hd' x hx).1, by rw [hline]; exact (hd' x hx).2⟩)
      (hrest.imp fun {x y} hxy => by rwa [hw.places.phys, hw.places.phys])
    refine ⟨hw.places.trans ip, hw.only.trans io, List.forall_mem_cons.2 ⟨⟨fun n hn => ?_, fun hh => ?_⟩, iw⟩, fun a hne' => ?_⟩
    · rw [(ir _ fun x hx => ?_).1, hbytes n hn]
      rw [hw.places.phys, hw.places.phys, State.physBlock_block ha hn]
      exact hfirst x hx
    · rw [(ir _ fun x hx => ?_).2, hdesc hh]
      rw [hw.places.phys, hw.places.phys]
      exact hfirst x hx
    · obtain ⟨h1, h2⟩ := List.forall_mem_cons.1 hne'
      obtain ⟨rb, rd⟩ := ir a fun x hx => by
        rw [hw.places.phys, hw.places.phys]
        exact h2 x hx
      exact ⟨rb.trans (hw.bytes a h1), rd.trans (hw.descs a h1)⟩

/-- The next row is due: its number stands in the request. -/
def State.nextRow (s : State) (r x : MxReq) : State :=
  (s.modQuad s.ev.a (fun y => { y with resv := tabPut y.resv s.ev.b { x with row := r.row + 1 } })).after 1
    (if r.row + 1 < drM r.blk.toNat then .mxdRowWrite else .mxdDrainComplete) { a := s.ev.a, b := s.ev.b }

/-- What a row of a drain into memory writes. -/
def State.writeRow (s : State) (r : MxReq) (row : List Granule) : State :=
  (row.zip (List.range row.length)).foldl (fun (t : State) e =>
    match r.xlat.find? (fun y => decide (y.1 = drDst r.blk.toNat / 64 + r.row * (drPitch r.blk.toNat / 64) + e.2)) with
    | some y => t.drainWrite (s.team r.team).ctx y.2 e.1
    | none => t) s

section
variable {s : State} {r : MxReq} {sl : AccSlot} (hr : tabFind (s.quad s.ev.a).resv s.ev.b = some r)
  (hsl : tabFind (s.quad s.ev.a).slots r.slot = some sl) (hc : r.cut = false) (ht : sl.team = r.team) (he : s.eccErrors = [])
  (hp : s.drainPoisoned r = false) (hf : FramesAtRest s)
include hr hsl hc ht he hp hf

/-- A row whose blocks are at hand is worked out and put away. -/
theorem mxdRowWrite_row : exec .mxdRowWrite s =
    .next (if drToReg r.blk.toNat then
        s.nextRow r { r with
          status := r.status ||| (s.drainRow s.ev.a sl r (drI0 r.blk.toNat + r.row)).2
          out := r.out ++ (s.drainRow s.ev.a sl r (drI0 r.blk.toNat + r.row)).1.map (fun g => (16 * drVRow r.blk.toNat + r.row / 4, r.row % 4, g)) }
      else
        let t := s.writeRow r (s.drainRow s.ev.a sl r (drI0 r.blk.toNat + r.row)).1
        (t.modQuad s.ev.a (fun y => { y with resv := tabPut y.resv s.ev.b { r with
          status := r.status ||| (s.drainRow s.ev.a sl r (drI0 r.blk.toNat + r.row)).2, row := r.row + 1 } })).after 1
          (if r.row + 1 < drM r.blk.toNat then .mxdRowWrite else .mxdDrainComplete) { a := s.ev.a, b := s.ev.b }) := by
  have hecc : s.drainEcc r = s := by
    rw [State.drainEcc, he]
    rfl
  show execMxdRowWrite s = _
  unfold execMxdRowWrite
  dsimp only
  rw [hr]
  dsimp only
  rw [hsl]
  dsimp only
  rw [if_neg (by rw [hc, ht]; simp), hecc, hp, if_neg Bool.false_ne_true, drainWait_atRest hf, if_neg (Nat.lt_irrefl 0)]
  split <;> rfl

end

/-! ## A drain's block, its last row, its end -/

theorem State.afterOnce_group (s : State) (n : Nat) (i : Instr) (e : Ev) (g : Nat) : (s.afterOnce n i e).group g = s.group g := by
  rw [State.group, State.afterOnce_groups, State.group]

/-- A drain whose checks pass waits for its range locks (R250). -/
theorem mxdBlockCheck_passes {s m m2 : State} {gid op k : Nat} {g : Group} {o : MemOp} {blk : BitVec 512} {e : MxReq} {xl : List (Nat × Nat)}
    (hev : s.ev = { a := gid, b := op }) (hg : tabFind s.groups gid = some g) (ho : tabFind g.ops op = some o) (hst : o.st = .issued)
    (hb : s.behindEarlier gid op o = false) (hm : s.opMoving gid o = false) (hs : s.shareAway gid o = false) (hf : s.fillsWait gid o = 0)
    (he : (s.mxdEntry (plotQuad g.plot) op).isSome = true) (hr : s.readBlock gid o.base = (m, none, some blk))
    (hc : ((if drToReg blk.toNat then m else m.markCommitted g.team).modOp gid op (fun y => { y with blk := blk })).drainCheck g blk.toNat = none)
    (hd : ((if drToReg blk.toNat then m else m.markCommitted g.team).modOp gid op (fun y => { y with blk := blk })).drainBlocks g blk.toNat = (m2, none, xl))
    (hmg : m.groups = s.groups)
    (hm2 : m2.groups = ((if drToReg blk.toNat then m else m.markCommitted g.team).modOp gid op (fun y => { y with blk := blk })).groups)
    (hk : m2.mxdEntry (plotQuad g.plot) op = some (k, e)) :
    ∃ t o', exec .mxdBlockCheck s = .next t ∧
      tabFind (t.quad (plotQuad g.plot)).resv k = some { e with slot := drSlot blk.toNat, blk := blk, xlat := xl } ∧
      tabFind (t.group gid).ops op = some o' ∧ o'.st = .performed ∧ o'.blk = blk ∧
      (t.plot g.plot).waiting = (m2.plot g.plot).waiting ++ [{ owner := op, ranges := drRanges g op blk.toNat }] ∧ SameMemory m2 t := by
  let ops1 := tabPut g.ops op { o with blk := blk }
  have hgroups : (if drToReg blk.toNat then m else m.markCommitted g.team).groups = s.groups := by split <;> exact hmg
  have hg2 : tabFind m2.groups gid = some { g with ops := ops1 } := by
    rw [hm2]
    exact State.modOp_found (by rw [hgroups, hg]) ho _
  have ho2 : tabFind ops1 op = some { o with blk := blk } := tabFind_tabPut_same _ _ _
  let t1 := m2.modQuad (plotQuad g.plot) (fun y => { y with resv := tabPut y.resv k { e with slot := drSlot blk.toNat, blk := blk, xlat := xl } })
  let t2 := (t1.modOp gid op fun y => { y with st := .performed }).modOp gid op fun y => { y with left := if drToReg blk.toNat then 1 else 0 }
  let t3 := t2.modPlot g.plot fun y => { y with waiting := y.waiting ++ [{ owner := op, ranges := drRanges g op blk.toNat }] }
  let t := t3.afterOnce 0 .cpyRegister { a := g.plot }
  have hperf : t1.opPerformed gid op = t1.modOp gid op fun y => { y with st := .performed } :=
    opPerformed_unlogged (s := t1) hg2 ho2 fun n hn => by cases hst.symm.trans hn
  have hrun : exec .mxdBlockCheck s = .next t := by
    show Host.Outcome.next (s.inTurn s.ev.a s.ev.b .mxdBlockCheck fun o => s.performDrainBlock s.ev.a s.ev.b o) = _
    rw [hev]
    dsimp only
    rw [inTurn_now hg ho hm hb hs hf]
    unfold State.performDrainBlock
    dsimp only
    rw [State.group_eq hg, Option.isNone_eq_false_iff.2 he, if_neg (by simp), if_neg Bool.false_ne_true, State.withBlock, hr]
    dsimp only
    rw [hc]
    dsimp only
    rw [hd]
    dsimp only
    rw [hk]
    dsimp only
    rw [hperf]
  let o1 : MemOp := { o with blk := blk, st := .performed }
  let o2 : MemOp := { o1 with left := if drToReg blk.toNat then 1 else 0 }
  have hg1 : tabFind (t1.modOp gid op fun y => { y with st := .performed }).groups gid = some { g with ops := tabPut ops1 op o1 } :=
    State.modOp_found (s := t1) hg2 ho2 fun y => { y with st := .performed }
  have hg2 : tabFind t2.groups gid = some { g with ops := tabPut (tabPut ops1 op o1) op o2 } :=
    State.modOp_found hg1 (tabFind_tabPut_same ops1 op o1) fun y => { y with left := if drToReg blk.toNat then 1 else 0 }
  have hgt : tabFind t.groups gid = some { g with ops := tabPut (tabPut ops1 op o1) op o2 } :=
    (congrArg (fun x => tabFind x gid) (State.afterOnce_groups _ 0 .cpyRegister { a := g.plot })).trans hg2
  refine ⟨t, o2, hrun, ?_, ?_, rfl, rfl, ?_, ?_⟩
  · rw [show t.quad _ = _ from State.afterOnce_quad _ _ _ _ _]
    show tabFind (t1.quad (plotQuad g.plot)).resv k = _
    rw [State.quad_modQuad_same, tabFind_tabPut_same]
  · rw [State.group_eq hgt]
    exact tabFind_tabPut_same _ _ _
  · rw [show t.plot _ = _ from State.afterOnce_plot _ _ _ _ _, State.plot_modPlot_same]
    rfl
  · have hmem1 : SameMemory m2 t1 := ⟨fun _ => rfl, fun _ => rfl, fun _ => rfl⟩
    have hmem2 : SameMemory t1 t2 := (State.modGroup_rest t1 gid _).2.1.trans (State.modGroup_rest _ gid _).2.1
    have hmem3 : SameMemory t2 t3 := ⟨fun _ => rfl, fun _ => rfl, fun _ => rfl⟩
    exact ((hmem1.trans hmem2).trans hmem3).trans (State.afterOnce_memory t3 0 .cpyRegister { a := g.plot })

/-- A quad's table after an entry is written. -/
theorem State.resv_put (s : State) (q k : Nat) (r : MxReq) :
    tabFind ((s.modQuad q fun y => { y with resv := tabPut y.resv k r }).quad q).resv k = some r := by
  rw [State.quad_modQuad_same]
  exact tabFind_tabPut_same _ _ _

/-- A row of a drain has the granules of its block (R251). -/
theorem State.drainRow_length (s : State) (q : Nat) (sl : AccSlot) (r : MxReq) (i : Nat) : (s.drainRow q sl r i).1.length = drGrans r.blk.toNat := by
  have hfold (f : List Granule × Fp → Nat → List Granule × Fp) (hf : ∀ a n, (f a n).1.length = a.1.length + 1)
      (l : List Nat) (a : List Granule × Fp) :
      (l.foldl f a).1.length = a.1.length + l.length := by
    induction l generalizing a with
    | nil => rfl
    | cons g l ih => rw [List.foldl_cons, ih, hf, List.length_cons, Nat.add_right_comm, Nat.add_assoc]
  rw [State.drainRow, hfold _ (fun _ _ => List.length_append), List.length_range, List.length_nil, Nat.zero_add]

section
variable {s : State} {r : MxReq} {sl : AccSlot} (hr : tabFind (s.quad s.ev.a).resv s.ev.b = some r)
  (hsl : tabFind (s.quad s.ev.a).slots r.slot = some sl) (hc : r.cut = false) (ht : sl.team = r.team)
include hr hsl hc ht

/-- A row of a register drain is kept for the completion (R251). -/
theorem mxdRowWrite_register (he : s.eccErrors = []) (hp : s.drainPoisoned r = false) (hf : FramesAtRest s) (hd : drToReg r.blk.toNat = true) :
    ∃ t r', exec .mxdRowWrite s = .next t ∧ tabFind (t.quad s.ev.a).resv s.ev.b = some r' ∧ r'.row = r.row + 1 ∧
      r'.out = r.out ++ (s.drainRow s.ev.a sl r (drI0 r.blk.toNat + r.row)).1.map (fun x => (16 * drVRow r.blk.toNat + r.row / 4, r.row % 4, x)) ∧
      InAgenda t (s.cycle + 1) (if r.row + 1 < drM r.blk.toNat then .mxdRowWrite else .mxdDrainComplete) { a := s.ev.a, b := s.ev.b } ∧
      t.groups = s.groups ∧ SameMemory s t := by
  have hrun := mxdRowWrite_row hr hsl hc ht he hp hf
  rw [if_pos hd] at hrun
  refine ⟨_, _, hrun, State.resv_put _ _ _ _, rfl, rfl, State.after_inAgenda _ _ _ _, rfl,
    ⟨fun _ => rfl, fun _ => rfl, fun _ => rfl⟩⟩

/-- A row of a memory drain is written at its places (R251). -/
theorem mxdRowWrite_memory {dpa : Nat → Nat} (he : s.eccErrors = []) (hp : s.drainPoisoned r = false) (hd : drToReg r.blk.toNat = false)
    (hf : FramesAtRest s)
    (hplace : ∀ k, k < drGrans r.blk.toNat →
      (r.xlat.find? (fun y => decide (y.1 = drDst r.blk.toNat / 64 + r.row * (drPitch r.blk.toNat / 64) + k))).map (fun y => y.2) = some (dpa k) ∧
      dpa k % 64 = 0 ∧ (s.l2Line (dpa k)).isNone = true)
    (hne : ∀ i j, i < drGrans r.blk.toNat → j < drGrans r.blk.toNat → i ≠ j → s.phys (dpa i) / 64 ≠ s.phys (dpa j) / 64) :
    let row := s.drainRow s.ev.a sl r (drI0 r.blk.toNat + r.row)
    ∃ t r', exec .mxdRowWrite s = .next t ∧ tabFind (t.quad s.ev.a).resv s.ev.b = some r' ∧ r'.row = r.row + 1 ∧ r'.status = r.status ||| row.2 ∧
      (∀ k x, k < drGrans r.blk.toNat → row.1[k]? = some x → (∀ n, n < 64 → t.readByte (dpa k + n) = x.data.extractLsb' (8 * n) 8) ∧
        (isHost (dpa k) = false → t.readDesc (dpa k) = x.desc)) ∧
      (∀ a, (∀ k, k < drGrans r.blk.toNat → s.phys a / 64 ≠ s.phys (dpa k) / 64) → t.readByte a = s.readByte a ∧ t.readDesc a = s.readDesc a) ∧
      InAgenda t (s.cycle + 1) (if r.row + 1 < drM r.blk.toNat then .mxdRowWrite else .mxdDrainComplete) { a := s.ev.a, b := s.ev.b } ∧
      t.groups = s.groups := by
  have hrun := mxdRowWrite_row hr hsl hc ht he hp hf
  have hlen := s.drainRow_length s.ev.a sl r (drI0 r.blk.toNat + r.row)
  rw [if_neg (by rw [hd]; exact Bool.false_ne_true)] at hrun
  dsimp only at hrun ⊢
  generalize s.drainRow s.ev.a sl r (drI0 r.blk.toNat + r.row) = row at hrun hlen ⊢
  have hrange {e : Granule × Nat} (he : e ∈ row.1.zip (List.range row.1.length)) : e.2 < drGrans r.blk.toNat :=
    hlen ▸ List.mem_range.1 (List.of_mem_zip he).2
  have hwrite : s.writeRow r row.1 = (row.1.zip (List.range row.1.length)).foldl (fun t e => t.drainWrite (s.team r.team).ctx (dpa e.2) e.1) s := by
    refine List.foldl_ext _ _ _ fun t e hm => ?_
    obtain ⟨y, hy, hyd⟩ := Option.map_eq_some_iff.1 (hplace e.2 (hrange hm)).1
    rw [hy, ← hyd]
  obtain ⟨-, wo, ww, wr⟩ := foldl_drainWrite (c := (s.team r.team).ctx) (dpa := dpa) (l := row.1.zip (List.range row.1.length)) (s := s)
    (awake_atRest hf) (fun e hm => (hplace e.2 (hrange hm)).2) (by
      have hsorted : (row.1.zip (List.range row.1.length)).Pairwise fun e e' => e.2 ≠ e'.2 := by
        rw [← List.pairwise_map (f := Prod.snd), List.map_snd_zip (by rw [List.length_range])]
        exact List.nodup_range
      exact hsorted.imp_of_mem fun he he' h => hne _ _ (hrange he) (hrange he') h)
  rw [← hwrite] at wo ww wr
  generalize s.writeRow r row.1 = v at wo ww wr hrun
  have hcycle : v.cycle = s.cycle := wo.field State.cycle fun _ _ _ _ _ _ _ _ _ => rfl
  refine ⟨_, { r with row := r.row + 1, status := r.status ||| row.2 }, hrun, State.resv_put _ _ _ _, rfl, rfl,
    fun k x hk hx => ?_, fun a ha => wr a fun e hm => ha e.2 (hrange hm), ?_, wo.field State.groups fun _ _ _ _ _ _ _ _ _ => rfl⟩
  · refine ww (x, k) (List.mem_of_getElem? (i := k) ?_)
    rw [List.getElem?_zip_eq_some]
    exact ⟨hx, List.getElem?_range (hlen.symm ▸ hk)⟩
  · rw [← hcycle]
    exact State.after_inAgenda _ _ _ _

end

/-! ## The end of a drain, and a granule in a register -/

theorem tabFind_foldl_tabDel {α : Type} {ks : List Nat} {k : Nat} (h : k ∈ ks) (t : Tab α) : tabFind (ks.foldl tabDel t) k = none := by
  have hgone (l : List Nat) (t : Tab α) (ht : tabFind t k = none) : tabFind (l.foldl tabDel t) k = none := by
    induction l generalizing t with
    | nil => exact ht
    | cons j l ih =>
      refine ih _ ?_
      by_cases hj : k = j
      · rw [hj, tabFind_tabDel_same]
      · rw [tabFind_tabDel_ne _ hj, ht]
  obtain ⟨a, b, rfl⟩ := List.append_of_mem h
  rw [List.foldl_append, List.foldl_cons]
  exact hgone b _ (tabFind_tabDel_same _ _)

theorem Quad.drained_resv (x : Quad) (r : MxReq) (sl : AccSlot) (v : Tab MxReq) :
    ({ x with resv := v } : Quad).drained r sl = { x.drained r sl with resv := v } := by
  unfold Quad.drained
  dsimp only
  split <;> rfl

/-- What a drain's end leaves of its slot and of its region (R252). -/
theorem Quad.drained_effect (x : Quad) (r : MxReq) (sl : AccSlot) :
    tabFind (x.drained r sl).slots r.slot = some { sl with st := .ready, status := if drZero r.blk.toNat then 0 else sl.status } ∧
    (∀ i j, i < drM r.blk.toNat → j < drN r.blk.toNat → drZero r.blk.toNat = true →
      tabGet 0 (x.drained r sl).acc (accKey sl (drI0 r.blk.toNat + i) (drJ0 r.blk.toNat + j)) = 0) ∧
    (drZero r.blk.toNat = false → (x.drained r sl).acc = x.acc) := by
  unfold Quad.drained
  dsimp only
  split
  · next hz =>
    refine ⟨by simp, fun i j hi hj _ => ?_, fun h => (Bool.false_ne_true (h.symm.trans hz)).elim⟩
    have hmem : accKey sl (drI0 r.blk.toNat + i) (drJ0 r.blk.toNat + j) ∈ (List.range (drM r.blk.toNat)).flatMap fun i =>
        (List.range (drN r.blk.toNat)).map fun j => accKey sl (drI0 r.blk.toNat + i) (drJ0 r.blk.toNat + j) :=
      List.mem_flatMap.2 ⟨i, List.mem_range.2 hi, List.mem_map.2 ⟨j, List.mem_range.2 hj, rfl⟩⟩
    rw [tabGet, tabFind_foldl_tabDel hmem]
  · next hz => exact ⟨by simp, fun _ _ _ _ h => (hz h).elim, fun _ => rfl⟩

theorem State.afterOnce_ctxs (s : State) (n : Nat) (i : Instr) (e : Ev) : (s.afterOnce n i e).ctxs = s.ctxs := by
  unfold State.afterOnce
  split <;> rfl

/-- What a drain's end does to the tables: its entry and its locks are free, its slot is ready. -/
def State.drainFreed (s : State) (r : MxReq) (sl : AccSlot) : State :=
  ((s.unreserve s.ev.a s.ev.b).rltRelease r.plot r.op).modQuad s.ev.a fun y => y.drained r sl

theorem State.drainFreed_effect (s : State) (r : MxReq) (sl : AccSlot) :
    (s.drainFreed r sl).groups = s.groups ∧ (s.drainFreed r sl).ctxs = s.ctxs ∧
    (s.drainFreed r sl).quad s.ev.a = { (s.quad s.ev.a).drained r sl with resv := tabDel (s.quad s.ev.a).resv s.ev.b } ∧
    ∀ e ∈ ((s.drainFreed r sl).plot r.plot).rlt, e.owner ≠ r.op := by
  refine ⟨(State.afterOnce_groups _ 0 .cpyRegister { a := r.plot }).trans (State.afterOnce_groups _ 0 .mxeGrant { a := s.ev.a }),
    (State.afterOnce_ctxs _ 0 .cpyRegister { a := r.plot }).trans (State.afterOnce_ctxs _ 0 .mxeGrant { a := s.ev.a }), ?_, fun e he => ?_⟩
  · rw [State.drainFreed, State.quad_modQuad_same, State.rltRelease, State.afterOnce_quad]
    show ((s.unreserve s.ev.a s.ev.b).quad s.ev.a).drained r sl = _
    rw [State.unreserve, State.afterOnce_quad, State.quad_modQuad_same]
    exact Quad.drained_resv _ _ _ _
  · have hrlt : ((s.drainFreed r sl).plot r.plot).rlt = ((s.unreserve s.ev.a s.ev.b).plot r.plot).rlt.filter fun e => decide (e.owner ≠ r.op) := by
      show (((s.unreserve s.ev.a s.ev.b).rltRelease r.plot r.op).plot r.plot).rlt = _
      rw [State.rltRelease, State.afterOnce_plot, State.plot_modPlot_same]
    rw [hrlt] at he
    exact of_decide_eq_true (p := e.owner ≠ r.op) (List.mem_filter.1 he).2

/-- A uniform word whose operation holds its result has completed with it, whatever its counts and whatever exceptions it has raised. -/
theorem completed_gives {s t : State} {gid op d c l n : Nat} {g : Group} {o : MemOp} {x : DWord} {ops : Tab MemOp} {fp : BitVec 6} {fo : Nat × BitVec 6}
    (hp : PlainOp s gid op g o d)
    (ht : tabFind t.groups gid = some (({ g with ops := ops, fpstat := fp, fpOr := fo } : Group).completed op
      { o with left := l, status := n, sres := some { val := x } } c))
    (hother : SameGroupsBut gid s t) : CompletesWith s t gid op g o d x := by
  let o1 : MemOp := { o with left := l, status := n, sres := some { val := x } }
  refine ⟨_, ht, tabFind_tabDel_same _ _, fun k _ => ?_, Group.readF_completed _ op _ hp.whole, ?_,
    Group.completed_reads _ op _ Group.k hp.whole fun _ _ _ _ _ _ => rfl, ?_, hother⟩
  · rw [Group.readS_completed _ op (o := o1) _ hp.whole, show uniDest o1.word = some d from hp.dest]
    simp only [eq_comm (a := k)]
    rfl
  · rw [Group.completed_v _ op (o := o1) _ hp.whole, show o1.res = [] from hp.noLanes]
    rfl
  · rw [Group.completed_desc, Group.writeShadows_other _ (o := o1) (uniform_not_vldf hp.uniform)]
    exact Group.writeResults_reads _ Group.desc hp.whole fun _ _ _ => rfl

/-- A uniform word raises exceptions and completes with a value: one change of its group. -/
theorem completes_raising {s m : State} {gid op d c : Nat} {g : Group} {o : MemOp} (hp : PlainOp s gid op g o d) (hm : m.groups = s.groups) (fp : Fp)
    (x : DWord) :
    ∃ f, ((m.modGroup gid fun y => y.orFp c fp).modOp gid op fun y => { y with sres := some { val := x } }).completeOp gid op = m.modGroup gid f ∧
      CompletesWith s (m.modGroup gid f) gid op g o d x ∧ ((m.modGroup gid f).group gid).fpstat = g.fpstat ||| fp := by
  let o1 : MemOp := { o with sres := some { val := x } }
  let g1 : Group := { g.orFp c fp with ops := tabPut g.ops op o1 }
  have hg : tabFind (m.modGroup gid fun y => y.orFp c fp).groups gid = some (g.orFp c fp) := by simp [hm, hp.group]
  have hg1 : tabFind _ gid = some g1 := State.modOp_found hg hp.oper fun y => { y with sres := some { val := x } }
  rw [completeOp_goesOn (o := o1) hg1 (tabFind_tabPut_same _ _ _) hp.alone hp.whole hp.goesOn, State.modOp, State.modGroup_modGroup,
    State.modGroup_modGroup]
  refine ⟨_, rfl, ?_⟩
  generalize hf : (fun y : Group => _) = f
  have hdone : tabFind (m.modGroup gid f).groups gid = some (g1.completed op o1 m.cycle) := by
    rw [State.modGroup_groups, tabFind_tabUpd_same, hm, hp.group, ← hf]
    simp only [Option.map_some]
    rw [show tabFind (g.orFp c fp).ops op = some o from hp.oper]
    rfl
  refine ⟨completed_gives hp hdone fun k hk => ?_, ?_⟩
  · rw [← hm]
    exact tabFind_tabUpd_ne _ _ hk
  · rw [State.group_eq hdone]
    exact Group.completed_reads _ op _ Group.fpstat hp.whole fun _ _ _ _ _ _ => rfl

/-- A drain that ends, without rows for a register (R252). -/
theorem mxdDrainComplete_eq {s : State} {r : MxReq} {sl : AccSlot} (hr : tabFind (s.quad s.ev.a).resv s.ev.b = some r)
    (hsl : tabFind (s.quad s.ev.a).slots r.slot = some sl) (hc : r.cut = false) (ht : sl.team = r.team) (hout : r.out = [])
    (htr : (s.ctx (s.team r.team).ctx).trace = false) :
    exec .mxdDrainComplete s = .next ((((s.drainFreed r sl).modGroup r.gid fun y => y.orFp s.cycle (sl.status ||| r.status)).modOp r.gid r.op
      fun y => { y with sres := some { val := (sl.status ||| r.status).setWidth 64 } }).completeOp r.gid r.op) := by
  have htrace (f : Group → Group) (die kind tag gs pl tm aux v : Nat) :
      ((s.drainFreed r sl).modGroup r.gid f).trace die kind tag (s.team r.team).ctx gs pl tm aux v = (s.drainFreed r sl).modGroup r.gid f := by
    refine if_neg ?_
    rw [State.ctx, State.modGroup_ctxs, (s.drainFreed_effect r sl).2.1]
    rw [State.ctx] at htr
    rw [htr]
    exact Bool.false_ne_true
  show execMxdDrainComplete s = _
  unfold execMxdDrainComplete
  dsimp only
  rw [hr]
  dsimp only
  rw [hsl]
  dsimp only
  rw [if_neg (by rw [hc, ht]; simp), hout]
  exact congrArg (fun y => Host.Outcome.next ((State.modOp y r.gid r.op fun y =>
    { y with sres := some { val := (sl.status ||| r.status).setWidth 64 } }).completeOp r.gid r.op)) (htrace _ _ _ _ _ _ _ _ _)

/-- The lanes and the shadow of a granule written into a quarter of a register (R251). -/
theorem Group.writeGranule_effect (g : Group) (r q : Nat) (x : Granule) (l : Nat) (hl : l < 64) :
    laneOf ((g.writeGranule r q x).readV r) l = (if l / 16 = q then x.data.extractLsb' (32 * (l % 16)) 32 else laneOf (g.readV r) l) ∧
    (g.writeGranule r q x).readDesc r q = x.desc := by
  refine ⟨?_, tabGet_tabSet_same _ _ _ _⟩
  let v := mapLanes fun l => BitVec.ofNat 32 (fld x.data.toNat (32 * (l % 16)) 32)
  have hmask : (BitVec.ofNat 64 (0xFFFF * 2 ^ (16 * q))).getLsbD l = decide (l / 16 = q) := by
    rw [BitVec.getLsbD_ofNat, decide_eq_true hl, Bool.true_and, Nat.testBit_mul_two_pow, show 0xFFFF = 2 ^ 16 - 1 from rfl,
      Nat.testBit_two_pow_sub_one, ← Bool.decide_and, decide_eq_decide]
    omega
  show laneOf ((g.writeVM _ r v).readV r) l = _
  rw [Group.writeVM, Group.readV_writeV, if_pos rfl, laneOf_mergeLanes _ _ _ hl, hmask, laneOf_mapLanes _ hl]
  simp only [decide_eq_true_eq]
  rw [fld_toNat, BitVec.ofNat_toNat, BitVec.setWidth_eq]

theorem matrixDrains : MatrixDrains := by
  refine ⟨fun s m m2 gid op k g o blk e xl hev hg ho hst hb hm hs hf he hr => ?_,
    fun s r sl hr hsl hc ht he hp hd hf => mxdRowWrite_register hr hsl hc ht he hp hf hd,
    fun s r sl dpa hr hsl hc ht he hp hd hf hplace hne => mxdRowWrite_memory hr hsl hc ht he hp hd hf hplace hne,
    fun s r sl g o d hr hsl hc ht hout htr hp => ?_, fun g r q x l _ hl => g.writeGranule_effect r q x l hl⟩
  · exact fun hcheck hblocks hmg hm2 hk => mxdBlockCheck_passes hev hg ho hst hb hm hs hf he hr hcheck hblocks hmg hm2 hk
  · obtain ⟨hgroups, -, hquad, hrlt⟩ := s.drainFreed_effect r sl
    obtain ⟨f, hend, hdone, hfp⟩ := completes_raising (c := s.cycle) hp hgroups (sl.status ||| r.status) ((sl.status ||| r.status).setWidth 64)
    obtain ⟨hslot, hzero, hkeep⟩ := (s.quad s.ev.a).drained_effect r sl
    have hq : ((s.drainFreed r sl).modGroup r.gid f).quad s.ev.a = _ := hquad
    refine ⟨_, (mxdDrainComplete_eq hr hsl hc ht hout htr).trans (congrArg _ hend), hdone, hfp, ?_⟩
    rw [hq]
    exact ⟨hslot, hzero, hkeep, tabFind_tabDel_same _ _, hrlt⟩

/-- Settles O39: requests are entered and granted, a pass's entries are keyed apart so each changes once, the tree of one entry is the claims' own, and a
drain's rows are written one after another at places of their own. -/
theorem matrixWork : Obligations.MatrixWork := ⟨matrixPasses, passArithmetic, matrixDrains⟩

end Sys2Proof.Machine
end

section
/-! PROOFS. Copies inside the team's share, and the end of a command (R224, R226-R230). -/

namespace Sys2Proof.Machine

set_option Elab.async false
open Claims

/-! ## An engine's accesses to the team's share (R223, R226) -/

/-- An engine's steps end well with a value and leave a state. -/
def CeM.Gives {α : Type} (m : CeM α) (s : State) (a : α) (t : State) : Prop := m.run.run s = (.ok a, t)

theorem CeM.Gives.pure {α : Type} (a : α) (s : State) : CeM.Gives (Pure.pure a) s a s := rfl

theorem CeM.Gives.change (f : State → State) (s : State) : CeM.Gives (modify f) s ⟨⟩ (f s) := rfl

theorem CeM.Gives.bind {α β : Type} {m : CeM α} {f : α → CeM β} {s t v : State} {a : α} {b : β} (hm : m.Gives s a t) (hf : (f a).Gives t b v) :
    (m >>= f).Gives s b v := by
  unfold CeM.Gives at *
  rw [ExceptT.run_bind, StateT.run_bind, hm]
  exact hf

theorem CeM.Gives.getBind {β : Type} {f : State → CeM β} {s v : State} {b : β} (hf : (f s).Gives s b v) : (get >>= f).Gives s b v :=
  .bind (m := get) (a := s) (t := s) rfl hf

/-- `n` bytes of the share from an offset on. -/
def Team.bytesAt (tm : Team) (off n : Nat) : List Byte := (List.range n).map fun i => tabGet 0 tm.shmem (off + i)

@[simp] theorem Team.bytesAt_length (tm : Team) (off n : Nat) : (tm.bytesAt off n).length = n := by
  simp [Team.bytesAt]

/-- Bytes written into a team's share, and its waiting groups woken. -/
def State.putShare (s : State) (tid off : Nat) (bs : List Byte) : State :=
  (s.modTeam tid fun t => { t with shmem := ((List.range bs.length).zip bs).foldl (fun m p => tabSet 0 m (off + p.1) p.2) t.shmem }).wakeWord tid
    (sharedWindow.toNat + off) bs.length

theorem spaceOf_shared {off : Nat} (h : off < 2 ^ 32) : spaceOf (BitVec.ofNat 64 (sharedWindow.toNat + off)) = .shared off := by
  have hw : sharedWindow.toNat = 0xFF000000 * 2 ^ 32 := rfl
  have hv : (BitVec.ofNat 64 (sharedWindow.toNat + off)).toNat = 0xFF000000 * 2 ^ 32 + off := by
    rw [BitVec.toNat_ofNat, hw, Nat.mod_eq_of_lt (by omega)]
  unfold spaceOf
  rw [hv, if_neg (by omega), if_pos (by omega), show (0xFF000000 * 2 ^ 32 + off) % 2 ^ 32 = off by omega]

section
variable {s : State} {c : Cmd} {tm : Team} {off n : Nat} (ht : tabFind s.teams c.team = some tm) (hl : tm.live = true)
  (hn : off + n ≤ 4096 * tm.shared) (hs : 4096 * tm.shared < 2 ^ 32)
include ht hl hn hs

theorem cePlace_share (u : Use) (rep : Bool) : (cePlace c (sharedWindow.toNat + off) n u rep).Gives s (.sh off) s := by
  have hteam : s.team c.team = tm := by simp [State.team, tabGet, ht]
  unfold cePlace
  refine .getBind ?_
  dsimp only
  rw [spaceOf_shared (by omega)]
  dsimp only
  rw [hteam, hl, decide_eq_true hn]
  exact .pure _ _

theorem ceReadBlock_share (rep : Bool) : (ceReadBlock c (sharedWindow.toNat + off) n rep).Gives s (tm.bytesAt off n) s := by
  have hteam : s.team c.team = tm := by simp [State.team, tabGet, ht]
  refine .bind (cePlace_share ht hl hn hs _ rep) ?_
  dsimp only
  refine .getBind ?_
  rw [hteam]
  exact .pure _ _

/-- A read inside one block. -/
theorem ceRead_share (rep : Bool) (fuel : Nat) (hb : off % 64 + n ≤ 64) (h0 : 0 < n) :
    (ceRead c rep (fuel + 2) (sharedWindow.toNat + off) n).Gives s (tm.bytesAt off n) s := by
  have hw : sharedWindow.toNat = 64 * 0x3FC000000000000 := rfl
  have hk : Nat.min n (64 - (sharedWindow.toNat + off) % 64) = n := Nat.min_eq_left (by omega)
  unfold ceRead
  rw [if_neg (by omega), hk]
  refine .bind (ceReadBlock_share ht hl hn hs rep) (.bind (a := []) (t := s) ?_ ?_)
  · unfold ceRead
    rw [if_pos (Nat.sub_self n)]
    exact .pure _ _
  · rw [List.append_nil]
    exact .pure _ _

theorem ceDesc_share (rep : Bool) (h0 : 0 < n) : (ceDesc c (sharedWindow.toNat + off) rep).Gives s none s :=
  .bind (cePlace_share ht hl (n := 1) (by omega) hs _ rep) (.pure _ _)

theorem ceWrite_share {bs : List Byte} (hlen : bs.length = n) (d : Option (BitVec 48)) (u : Use) :
    (ceWrite c (sharedWindow.toNat + off) bs d u).Gives s ⟨⟩ (s.putShare c.team off bs) := by
  refine .bind (cePlace_share ht hl (hlen ▸ hn) hs u false) ?_
  exact .change _ _

end

/-! ## What a write into the share changes -/

/-- Only agenda, groups and teams differ, and the registers of the groups do not. -/
def OnlyShares (s t : State) : Prop := { t with groups := s.groups, teams := s.teams, agenda := s.agenda } = s ∧ AllRegisters s t

theorem OnlyShares.refl (s : State) : OnlyShares s s := ⟨rfl, allRegisters_of_groups rfl⟩

theorem OnlyShares.trans {s t v : State} (a : OnlyShares s t) (b : OnlyShares t v) : OnlyShares s v := by
  refine ⟨?_, allRegisters_trans a.2 b.2⟩
  rw [← a.1, ← b.1]

/-- A component that is none of the three is as it was. -/
theorem OnlyShares.field {s t : State} (h : OnlyShares s t) {α : Type} (q : State → α)
    (hq : ∀ (t : State) g m a, q { t with groups := g, teams := m, agenda := a } = q t) : q t = q s :=
  (hq _ _ _ _).symm.trans (congrArg q h.1)

theorem State.afterOnce_onlyShares (s : State) (n : Nat) (i : Instr) (e : Ev) : OnlyShares s (s.afterOnce n i e) :=
  ⟨by unfold State.afterOnce; split <;> rfl, allRegisters_of_groups (State.afterOnce_groups _ _ _ _)⟩

/-- Waking the waits of a word changes holds of groups, and brings the wakes. -/
theorem State.wakeWord_effect (s : State) (tid a n : Nat) : OnlyShares s (s.wakeWord tid a n) ∧ (s.wakeWord tid a n).teams = s.teams := by
  unfold State.wakeWord
  generalize (s.team tid).groups = l
  induction l generalizing s with
  | nil => exact ⟨OnlyShares.refl s, rfl⟩
  | cons g l ih =>
    rw [List.foldl_cons]
    split
    · split
      · next _ d w r _ nx k _ _ =>
        obtain ⟨hw, ht⟩ := ih ((s.modGroup g fun y => { y with hold := some (.mwait d w r true nx k) }).afterOnce 0 .mwaitWake { a := g })
        have hmod : OnlyShares s (s.modGroup g fun y => { y with hold := some (.mwait d w r true nx k) }) :=
          ⟨rfl, allRegisters_modGroup _ _ fun y => sameRegisters_refl y⟩
        refine ⟨(hmod.trans (State.afterOnce_onlyShares _ _ _ _)).trans hw, ht.trans ?_⟩
        unfold State.afterOnce
        split <;> rfl
      · exact ih s
    · exact ih s

theorem tabGet_writeList (t : Tab Byte) (off : Nat) (bs : List Byte) (a : Nat) :
    tabGet 0 (((List.range bs.length).zip bs).foldl (fun m p => tabSet 0 m (off + p.1) p.2) t) a =
      if off ≤ a ∧ a < off + bs.length then bs.getD (a - off) 0 else tabGet 0 t a := by
  obtain ⟨hout, hin⟩ := foldl_keyed (get := tabGet 0) (key := fun p : Nat × Byte => off + p.1) (f := fun m p => tabSet 0 m (off + p.1) p.2)
    (val := fun p _ => p.2) (fun m p => tabGet_tabSet_same _ _ _ _) (fun m p k hk => tabGet_tabSet_ne _ _ _ hk) ((List.range bs.length).zip bs) t
  have hkeys : ((List.range bs.length).zip bs).map (fun p => off + p.1) = (List.range bs.length).map fun i => off + i :=
    List.map_map.symm.trans (congrArg (List.map fun i => off + i) (List.map_fst_zip (l₂ := bs) (by rw [List.length_range])))
  rw [hkeys] at hout hin
  split
  · next h =>
    have hi : a - off < bs.length := by omega
    have hmem : (a - off, bs[a - off]) ∈ (List.range bs.length).zip bs :=
      List.mem_of_getElem? (List.getElem?_zip_eq_some.2 ⟨List.getElem?_range hi, List.getElem?_eq_getElem hi⟩)
    have hval := hin (List.nodup_range.map fun _ _ e => Nat.add_left_cancel e) _ hmem
    rw [Nat.add_sub_cancel' h.1] at hval
    rw [hval, List.getD_eq_getElem _ _ hi]
  · next h =>
    refine hout a fun hmem => h ?_
    obtain ⟨i, hi, rfl⟩ := List.mem_map.1 hmem
    exact ⟨Nat.le_add_right _ _, Nat.add_lt_add_left (List.mem_range.1 hi) _⟩

theorem State.putShare_effect {s : State} {tid off : Nat} {tm : Team} (ht : tabFind s.teams tid = some tm) (bs : List Byte) :
    OnlyShares s (s.putShare tid off bs) ∧
    ∀ a, tabGet 0 ((s.putShare tid off bs).team tid).shmem a = if off ≤ a ∧ a < off + bs.length then bs.getD (a - off) 0 else tabGet 0 tm.shmem a := by
  let m := s.modTeam tid fun t => { t with shmem := ((List.range bs.length).zip bs).foldl (fun m p => tabSet 0 m (off + p.1) p.2) t.shmem }
  obtain ⟨hw, hteams⟩ := State.wakeWord_effect m tid (sharedWindow.toNat + off) bs.length
  refine ⟨OnlyShares.trans (t := m) ⟨rfl, allRegisters_of_groups rfl⟩ hw, fun a => ?_⟩
  have hm : m.team tid = { tm with shmem := ((List.range bs.length).zip bs).foldl (fun m p => tabSet 0 m (off + p.1) p.2) tm.shmem } := by
    simp [State.team, tabGet, m, State.modTeam, ht]
  rw [State.putShare, State.team, show State.teams _ = m.teams from hteams]
  exact (congrArg (fun x : Team => tabGet 0 x.shmem a) hm).trans (tabGet_writeList _ _ _ _)

/-! ## A command runs to its end (R226, R391) -/

theorem State.afterOnce_teams (s : State) (n : Nat) (i : Instr) (e : Ev) : (s.afterOnce n i e).teams = s.teams := by
  unfold State.afterOnce
  split <;> rfl

/-- A command of an engine ends with a status: its completion is due at once, and its engine is free of it. -/
theorem State.cmdEnds_effect {s : State} {id : Nat} {c : Cmd} (hc : tabFind s.cmds id = some c) (status : Nat) :
    tabFind (s.cmdEnds id status).cmds id = some { c with status := status, st := .finished } ∧
    ((s.ce c.ce).busy = some id → ((s.cmdEnds id status).ce c.ce).busy = none) ∧
    InAgenda (s.cmdEnds id status) s.cycle .ceCommandComplete { a := c.ce, b := id } ∧
    (s.cmdEnds id status).groups = s.groups ∧ (s.cmdEnds id status).teams = s.teams ∧ SameMemory s (s.cmdEnds id status) := by
  let m := s.modCmd id fun x => { x with status := status, st := .finished }
  let m1 := m.modCe c.ce fun x => { x with busy := if x.busy = some id then none else x.busy }
  let v := m1.afterOnce 0 .ceSegment { a := c.ce }
  have hends : s.cmdEnds id status = v.after 0 .ceCommandComplete { a := c.ce, b := id } := by
    unfold State.cmdEnds State.cmd?
    rw [hc]
    rfl
  have hcycle : v.cycle = s.cycle := State.afterOnce_cycle _ _ _ _
  rw [hends]
  refine ⟨?_, ?_, ?_, State.afterOnce_groups m1 _ _ _, State.afterOnce_teams m1 _ _ _, ?_⟩
  · show tabFind v.cmds id = _
    rw [State.afterOnce_cmds]
    show tabFind (tabUpd s.cmds id _) id = _
    rw [tabFind_tabUpd_same, hc]
    rfl
  · intro hb
    rw [State.ce] at hb
    simp [State.ce, v, m1, m, State.afterOnce_ces, hb]
  · rw [← hcycle]
    exact State.after_inAgenda v 0 _ _
  · have hm : SameMemory s m1 := ⟨fun _ => rfl, fun _ => rfl, fun _ => rfl⟩
    have hv : SameMemory v (v.after 0 .ceCommandComplete { a := c.ce, b := id }) := ⟨fun _ => rfl, fun _ => rfl, fun _ => rfl⟩
    exact (hm.trans (State.afterOnce_memory m1 _ _ _)).trans hv

/-- A command whose bytes are all written in the share, and that forms no checksum, ends with status 0. -/
theorem State.cmdWritten_share {s : State} {c : Cmd} {d : Nat} (id : Nat) (hsum : cmCsum c.blk.toNat = 0)
    (hdst : s.cmdDst c = sharedWindow.toNat + d) (hd : d < 2 ^ 32) : s.cmdWritten id c = s.cmdEnds id 0 := by
  have hpeer : isPeer 0 = false := rfl
  unfold State.cmdWritten
  dsimp only
  rw [hsum, hdst, spaceOf_shared hd]
  simp [hpeer]

/-- What a command has moved: its place, its sum's length, its granules. -/
def Cmd.moved (c : Cmd) (p l k o : Nat) : Cmd := { c with pos := p, sumLen := l, skip := k, out := o }

/-- An engine holds a command at its first byte, whose ends lie in its team's share and which forms no checksum. -/
structure ShareCmd (s : State) (id : Nat) (c : Cmd) (tm : Team) (so d : Nat) : Prop where
  engine : s.ev.a = c.ce
  busy : (s.ce c.ce).busy = some id
  cmd : tabFind s.cmds id = some c
  first : c.pos = 0
  unsummed : cmCsum c.blk.toNat = 0
  src : s.cmdSrc c = sharedWindow.toNat + so
  dst : s.cmdDst c = sharedWindow.toNat + d
  team : tabFind s.teams c.team = some tm
  live : tm.live = true
  small : 4096 * tm.shared < 2 ^ 32

/-- A command that one piece finishes. -/
theorem runPieces_ends {piece : Cmd → CeM Cmd} {s t : State} {id so d p l k o : Nat} {c : Cmd} {tm : Team} (h : ShareCmd s id c tm so d) (hp : 0 < p)
    (htot : cmTotal c.blk.toNat = p) (hd : d < 2 ^ 32) (hrun : (piece c).Gives s (c.moved p l k o) t) (ht : OnlyShares s t) :
    ∃ v c', State.runPieces piece id (c.pos + 4096) 4200 s = v ∧ tabFind v.cmds id = some c' ∧ c'.status = 0 ∧ c'.st = .finished ∧ c'.pos = p ∧
      v.teams = t.teams ∧ (v.ce c.ce).busy = none ∧ InAgenda v s.cycle .ceCommandComplete { a := c.ce, b := id } ∧ AllRegisters s v ∧
      SameMemory s v := by
  let c1 : Cmd := c.moved p l k o
  let u := t.modCmd id fun x => { c1 with pages := x.pages }
  have hcmds : t.cmds = s.cmds := ht.field State.cmds fun _ _ _ _ => rfl
  have hu : tabFind u.cmds id = some c1 := by
    show tabFind (tabUpd t.cmds id _) id = _
    rw [tabFind_tabUpd_same, hcmds, h.cmd]
    rfl
  have hdst1 : u.cmdDst c1 = sharedWindow.toNat + d := (ht.field (fun x => x.cmdDst c) fun _ _ _ _ => rfl).trans h.dst
  have hturns : State.runPieces piece id (c.pos + 4096) 4200 s = u.cmdEnds id 0 := by
    rw [State.runPieces, State.cmd?, h.cmd]
    dsimp only
    rw [htot, h.first, if_neg (by omega), if_neg (by decide), show (piece c).run.run s = (.ok c1, t) from hrun]
    dsimp only
    rw [State.runPieces, State.cmd?, show tabFind (State.cmds _) id = some c1 from hu]
    dsimp only
    rw [if_pos (show cmTotal c1.blk.toNat ≤ c1.pos from Nat.le_of_eq htot)]
    exact State.cmdWritten_share id h.unsummed hdst1 hd
  obtain ⟨hcmd, hbusy, hag, hgr, hteams, hmem⟩ := State.cmdEnds_effect hu 0
  have hce : (u.ce c.ce).busy = some id := (congrArg Ce.busy (ht.field (fun x => x.ce c.ce) fun _ _ _ _ => rfl)).trans h.busy
  have hcycle : u.cycle = s.cycle := ht.field State.cycle fun _ _ _ _ => rfl
  refine ⟨_, _, hturns, hcmd, rfl, rfl, rfl, hteams, hbusy hce, hcycle ▸ hag,
    allRegisters_trans ht.2 (allRegisters_of_groups hgr), SameMemory.trans (t := u) ?_ hmem⟩
  exact ⟨fun a => ht.field (fun x => x.readByte a) fun _ _ _ _ => rfl, fun a => ht.field (fun x => x.readDesc a) fun _ _ _ _ => rfl,
    fun a => ht.field (fun x => x.poisoned a) fun _ _ _ _ => rfl⟩

/-- A step of an engine without a command of its kind does nothing. -/
theorem ceSeg_eq {s : State} {i : Instr} {k : Nat} {piece : Cmd → CeM Cmd} (h : (i, k, piece) ∈ kindStep) : exec i s = .next (s.ceSeg k piece) := by
  simp only [kindStep, List.mem_cons, Prod.mk.injEq, List.not_mem_nil, or_false] at h
  rcases h with ⟨rfl, rfl, rfl⟩ | ⟨rfl, rfl, rfl⟩ | ⟨rfl, rfl, rfl⟩ | ⟨rfl, rfl, rfl⟩ | ⟨rfl, rfl, rfl⟩ | ⟨rfl, rfl, rfl⟩ <;> rfl

theorem State.ceSeg_idle {s : State} (h : (s.ce s.ev.a).busy = none) (k : Nat) (piece : Cmd → CeM Cmd) : s.ceSeg k piece = s := by
  unfold State.ceSeg
  rw [h]

theorem State.ceSeg_busy {s : State} {id : Nat} {c : Cmd} (h : (s.ce s.ev.a).busy = some id) (hc : tabFind s.cmds id = some c) (k : Nat)
    (piece : Cmd → CeM Cmd) : s.ceSeg k piece = if cmKind c.blk.toNat = k then State.runPieces piece id (c.pos + 4096) 4200 s else s := by
  unfold State.ceSeg State.cmd?
  rw [h]
  dsimp only
  rw [hc]

/-! ## Pieces of COPY, FILL, REDUCE, GATHER and SCATTER in the share (R226) -/

theorem Cmd.hash_unsummed {c : Cmd} (h : cmCsum c.blk.toNat = 0) (bs : List Byte) : c.hash bs = { c with sumLen := c.sumLen + bs.length } := by
  unfold Cmd.hash
  rw [h]
  rfl

/-- A step that may be left out where its value is known. -/
theorem CeM.Gives.iteBind {α β : Type} {p : Prop} [Decidable p] {m : CeM α} {f : α → CeM β} {s v : State} {a : α} {b : β} (hm : m.Gives s a s)
    (hf : (f a).Gives s b v) : (if p then m >>= f else f a).Gives s b v := by
  split
  · exact .bind hm hf
  · exact hf

section
variable {s : State} {c : Cmd} {tm : Team} {lo hi z : Nat} (ht : tabFind s.teams c.team = some tm) (hl : tm.live = true)
  (hs : 4096 * tm.shared < 2 ^ 32) (hsum : cmCsum c.blk.toNat = 0) (h0 : 0 < z) (hhi : hi + z ≤ 4096 * tm.shared) (hbhi : hi % 64 + z ≤ 64)
include ht hl hs hsum h0 hhi hbhi

omit ht hl hs hsum h0 hhi in
/-- The piece takes the whole of what is left: it lies in one block. -/
theorem pieceLen_whole : Nat.min z (64 - (sharedWindow.toNat + hi) % 64) = z := by
  have hw : sharedWindow.toNat = 64 * 0x3FC000000000000 := rfl
  exact Nat.min_eq_left (by omega)

omit h0 in
/-- A FILL writes its pattern. -/
theorem cePiece_fills (hk : cmKind c.blk.toNat = 1) {src : Nat} (hmove : (ceMove c).Gives s (src, sharedWindow.toNat + hi, z) s) :
    (cePiece c).Gives s (c.moved (c.pos + z) (c.sumLen + z) c.skip c.out)
      (s.putShare c.team hi ((List.range z).map fun i => BitVec.ofNat 8 (fld (cmAux c.blk.toNat) (8 * ((c.pos + i) % 8)) 8))) := by
  unfold cePiece
  refine .getBind (.bind hmove ?_)
  dsimp only
  rw [pieceLen_whole hbhi, if_pos hk]
  refine .bind (ceWrite_share ht hl hhi hs (by simp) none .write) ?_
  rw [Cmd.hash_unsummed hsum, List.length_map, List.length_range]
  exact .pure _ _

variable (hlo : lo + z ≤ 4096 * tm.shared) (hblo : lo % 64 + z ≤ 64)
  (hmove : (ceMove c).Gives s (sharedWindow.toNat + lo, sharedWindow.toNat + hi, z) s)
include hlo hblo hmove

/-- COPY, GATHER and SCATTER write the source's bytes. -/
theorem cePiece_copies (hk : cmKind c.blk.toNat ≠ 1) (hk5 : cmKind c.blk.toNat ≠ 5) :
    (cePiece c).Gives s (c.moved (c.pos + z) (c.sumLen + z) c.skip c.out) (s.putShare c.team hi (tm.bytesAt lo z)) := by
  unfold cePiece
  refine .getBind (.bind hmove ?_)
  dsimp only
  rw [pieceLen_whole hbhi, if_neg hk]
  refine .bind (ceRead_share ht hl hlo hs false 1 hblo h0) ?_
  rw [if_neg hk5]
  refine .iteBind (ceDesc_share ht hl hlo hs false h0) ?_
  refine .bind (cePlace_share ht hl (n := 1) (by omega) hs .read false) ?_
  refine .bind (cePlace_share ht hl (n := 1) (by omega) hs _ false) ?_
  have hgot : received c (decide (cmKind c.blk.toNat = 0) && ((Place.sh lo).peer || (Place.sh hi).peer)) (tm.bytesAt lo z) = tm.bytesAt lo z := by
    unfold received Place.peer
    simp
  rw [hgot]
  refine .bind (ceWrite_share ht hl hhi hs (by simp) none _) ?_
  rw [Cmd.hash_unsummed hsum, Team.bytesAt_length]
  exact .pure _ _

/-- REDUCE writes the sums. -/
theorem cePiece_reduces (hk : cmKind c.blk.toNat = 5) (hsums : (reduceBytes (cmA96 c.blk.toNat) (tm.bytesAt hi z) (tm.bytesAt lo z)).length = z) :
    (cePiece c).Gives s (c.moved (c.pos + z) (c.sumLen + z) c.skip c.out)
      (s.putShare c.team hi (reduceBytes (cmA96 c.blk.toNat) (tm.bytesAt hi z) (tm.bytesAt lo z))) := by
  have hteam : s.team c.team = tm := by simp [State.team, tabGet, ht]
  have hplace := cePlace_share (c := c) ht hl hhi hs .atomic false
  unfold cePiece
  refine .getBind (.bind hmove ?_)
  dsimp only
  rw [pieceLen_whole hbhi, if_neg (by omega)]
  refine .bind (ceRead_share ht hl hlo hs false 1 hblo h0) ?_
  rw [if_pos hk]
  refine .bind hplace ?_
  dsimp only
  refine .getBind ?_
  refine .bind hplace ?_
  dsimp only
  refine .bind (.pure _ _) (.bind hplace ?_)
  rw [hteam]
  refine .bind (ceWrite_share ht hl hhi hs hsums none _) ?_
  rw [if_neg (show ¬(Place.sh hi).peer = true from Bool.false_ne_true), Cmd.hash_unsummed hsum, Team.bytesAt_length]
  exact .pure _ _

end

/-! ## The bytes of a piece (R107, R226) -/

theorem Team.bytesAt_getD (tm : Team) (off : Nat) {n i : Nat} (h : i < n) : (tm.bytesAt off n).getD i 0 = tabGet 0 tm.shmem (off + i) := by
  simp [Team.bytesAt, List.getD, h]

/-- Four bytes of the share as a number. -/
theorem bytesNat_four (a b c d : Byte) : bytesNat [a, b, c, d] = (d ++ c ++ b ++ a).toNat := by
  simp only [bytesNat, BitVec.toNat_append]
  have ha := a.isLt
  have hb := b.isLt
  have hc := c.isLt
  rw [← Nat.shiftLeft_add_eq_or_of_lt (by omega), ← Nat.shiftLeft_add_eq_or_of_lt (by omega), ← Nat.shiftLeft_add_eq_or_of_lt (by omega)]
  simp only [Nat.shiftLeft_eq]
  omega

theorem Team.bytesNat_bytesAt (tm : Team) (off : Nat) : bytesNat (tm.bytesAt off 4) =
    (tabGet 0 tm.shmem (off + 3) ++ tabGet 0 tm.shmem (off + 2) ++ tabGet 0 tm.shmem (off + 1) ++ tabGet 0 tm.shmem off).toNat :=
  bytesNat_four _ _ _ _

/-- A word of a longer stretch of the share. -/
theorem Team.bytesAt_word (tm : Team) (off : Nat) {n i : Nat} (h : 4 * i + 4 ≤ n) :
    ((tm.bytesAt off n).drop (4 * i)).take 4 = tm.bytesAt (off + 4 * i) 4 := by
  refine List.ext_getElem? fun j => ?_
  simp only [Team.bytesAt, List.getElem?_take, List.getElem?_drop, List.getElem?_map, Nat.add_assoc]
  by_cases hj : j < 4
  · rw [if_pos hj, List.getElem?_range (by omega), List.getElem?_range hj]
    rfl
  · rw [if_neg hj, List.getElem?_eq_none (by simpa using hj)]
    rfl

theorem natBytes_four (v : Nat) : natBytes 4 v = (List.range 4).map fun q => BitVec.ofNat 8 (v / 2 ^ (8 * q)) := by
  refine List.ext_getElem (by simp [natBytes_length]) fun q h _ => ?_
  rw [natBytes_length] at h
  have hq := natBytes_getD h v
  rw [List.getD_eq_getElem _ _ (by rw [natBytes_length]; exact h)] at hq
  rw [hq]
  simp

/-- The sums of a REDUCE in FP32, word by word. -/
theorem reduceBytes_words (tm : Team) (hi lo : Nat) {n : Nat} (h4 : n % 4 = 0) :
    reduceBytes false (tm.bytesAt hi n) (tm.bytesAt lo n) = (List.range (n / 4)).flatMap fun i => (List.range 4).map fun q =>
      BitVec.ofNat 8 ((addF f32 .rne false (bytesNat (tm.bytesAt (hi + 4 * i) 4)) (bytesNat (tm.bytesAt (lo + 4 * i) 4))).1 / 2 ^ (8 * q)) := by
  unfold reduceBytes
  dsimp only
  rw [if_neg Bool.false_ne_true, Team.bytesAt_length]
  refine List.flatMap_congr fun i hi => ?_
  have hle : 4 * i + 4 ≤ n := by
    have := List.mem_range.1 hi
    omega
  rw [if_neg Bool.false_ne_true, Team.bytesAt_word _ _ hle, Team.bytesAt_word _ _ hle, natBytes_four]

/-- What a COPY, a FILL or an FP32 REDUCE writes is what R226 leaves at each place. -/
theorem copiedByte_reduce {b : Nat} (tm : Team) (hi lo : Nat) {n i : Nat} (hk : cmKind b = 5) (h4 : n % 4 = 0) (h : i < n) :
    (reduceBytes false (tm.bytesAt hi n) (tm.bytesAt lo n)).getD i 0 =
      copiedByte b (fun i => tabGet 0 tm.shmem (hi + i)) (fun i => tabGet 0 tm.shmem (lo + i)) i := by
  have hword (off : Nat) : bytesNat (tm.bytesAt (off + 4 * (i / 4)) 4) = (tabGet 0 tm.shmem (off + (i / 4 * 4 + 3)) ++
      tabGet 0 tm.shmem (off + (i / 4 * 4 + 2)) ++ tabGet 0 tm.shmem (off + (i / 4 * 4 + 1)) ++ tabGet 0 tm.shmem (off + i / 4 * 4)).toNat := by
    rw [Team.bytesNat_bytesAt, Nat.mul_comm]
    rfl
  have hrow := getElem?_rowsOfFour (fun i q => BitVec.ofNat 8 ((addF f32 .rne false (bytesNat (tm.bytesAt (hi + 4 * i) 4))
    (bytesNat (tm.bytesAt (lo + 4 * i) 4))).1 / 2 ^ (8 * q))) (n / 4) (k := i / 4) (q := i % 4) (by omega) (by omega)
  rw [Nat.div_add_mod] at hrow
  rw [reduceBytes_words tm hi lo h4, List.getD, hrow, hword, hword]
  unfold copiedByte
  rw [hk]
  rfl

theorem reduceBytes_length (tm : Team) (hi lo : Nat) {n : Nat} (h4 : n % 4 = 0) : (reduceBytes false (tm.bytesAt hi n) (tm.bytesAt lo n)).length = n := by
  rw [reduceBytes_words tm hi lo h4]
  simp only [List.length_flatMap, List.length_map, List.length_range, List.map_const', List.sum_replicate, smul_eq_mul]
  omega

theorem copiedByte_fill {b : Nat} (old new : Nat → Byte) {n i : Nat} (hk : cmKind b = 1) (h : i < n) :
    ((List.range n).map fun i => BitVec.ofNat 8 (fld (cmAux b) (8 * ((0 + i) % 8)) 8)).getD i 0 = copiedByte b old new i := by
  unfold copiedByte
  rw [hk]
  simp only [List.getD, List.getElem?_map, List.getElem?_range h, Option.map_some, Option.getD_some, Nat.zero_add]
  exact BitVec.eq_of_toNat_eq (by simp [fld])

theorem copiedByte_copy {b : Nat} (tm : Team) (lo : Nat) (old : Nat → Byte) {n i : Nat} (hk : cmKind b = 0) (h : i < n) :
    (tm.bytesAt lo n).getD i 0 = copiedByte b old (fun i => tabGet 0 tm.shmem (lo + i)) i := by
  rw [Team.bytesAt_getD tm lo h]
  unfold copiedByte
  rw [hk]
  rfl

/-! ## Where a command's bytes come from and go -/

theorem ceMove_linear {s : State} {c : Cmd} {lo hi : Nat} (hk : cmKind c.blk.toNat = 0 ∨ cmKind c.blk.toNat = 1 ∨ cmKind c.blk.toNat = 5)
    (hp : c.pos = 0) (hsrc : s.cmdSrc c = lo) (hdst : s.cmdDst c = hi) : (ceMove c).Gives s (lo, hi, cmLen c.blk.toNat) s := by
  unfold ceMove
  refine .getBind ?_
  dsimp only
  rw [hsrc, hdst, hp]
  rcases hk with h | h | h <;> rw [h] <;> exact .pure _ _

/-- A command of elements: its index names one end (R226). -/
theorem ceMove_indexed {s : State} {id x so d lo hi : Nat} {c : Cmd} {tm : Team} (h : ShareCmd s id c tm so d) (hx : x % 4 = 0)
    (hxs : x + 4 ≤ 4096 * tm.shared) (haux : cmAux c.blk.toNat = sharedWindow.toNat + x)
    (hk : (cmKind c.blk.toNat = 3 ∧ lo = so + bytesNat (tm.bytesAt x 4) * cmElem c.blk.toNat ∧ hi = d) ∨
      (cmKind c.blk.toNat = 4 ∧ lo = so ∧ hi = d + bytesNat (tm.bytesAt x 4) * cmElem c.blk.toNat)) :
    (ceMove c).Gives s (sharedWindow.toNat + lo, sharedWindow.toNat + hi, cmElem c.blk.toNat) s := by
  have hidx := ceRead_share (c := c) h.team h.live hxs h.small false 0 (by omega) (by omega)
  unfold ceMove
  refine .getBind ?_
  dsimp only
  rw [h.src, h.dst, h.first, haux, Nat.zero_div, Nat.mul_zero, Nat.zero_mod, Nat.add_zero]
  rcases hk with ⟨hk, rfl, rfl⟩ | ⟨hk, rfl, rfl⟩ <;> rw [hk] <;> refine .bind hidx ?_
  · rw [Nat.add_zero, Nat.add_zero, Nat.sub_zero, Nat.add_assoc]
    exact .pure _ _
  · rw [Nat.add_zero, Nat.add_zero, Nat.sub_zero, Nat.add_assoc]
    exact .pure _ _

/-! ## The steps of an engine (R226) -/

/-- The step ends the command with status 0 after `n` bytes, and the share of its team reads as `mem`. -/
def EndsInShare (s : State) (i : Instr) (id : Nat) (c : Cmd) (n : Nat) (mem : Nat → Byte) : Prop :=
  ∃ t c', exec i s = .next t ∧ tabFind t.cmds id = some c' ∧ c'.status = 0 ∧ c'.st = .finished ∧ c'.pos = n ∧
    (∀ a, tabGet 0 (t.team c.team).shmem a = mem a) ∧
    (t.ce c.ce).busy = none ∧ InAgenda t s.cycle .ceCommandComplete { a := c.ce, b := id } ∧ AllRegisters s t ∧ SameMemory s t

/-- A command that one piece into the share finishes: the bytes of the piece stand there. -/
theorem ceSeg_share {s : State} {i : Instr} {id k so d hi p l q o : Nat} {piece : Cmd → CeM Cmd} {c : Cmd} {tm : Team} {bs : List Byte}
    {mem : Nat → Byte} (h : ShareCmd s id c tm so d) (hkind : (i, k, piece) ∈ kindStep) (hk : cmKind c.blk.toNat = k) (hp : 0 < p)
    (htot : cmTotal c.blk.toNat = p) (hd : d < 2 ^ 32) (hrun : (piece c).Gives s (c.moved p l q o) (s.putShare c.team hi bs)) (hlen : bs.length = p)
    (hmem : ∀ j, j < p → bs.getD j 0 = mem j) :
    EndsInShare s i id c p fun a => if hi ≤ a ∧ a < hi + p then mem (a - hi) else tabGet 0 tm.shmem a := by
  obtain ⟨honly, hshare⟩ := State.putShare_effect h.team (off := hi) bs
  obtain ⟨t, c', hv, hcmd, hst, hfin, hpos, hteams, hrest⟩ := runPieces_ends h hp htot hd hrun honly
  obtain ⟨hbusy, hag, hreg, hsame⟩ := hrest
  refine ⟨t, c', ?_, hcmd, hst, hfin, hpos, fun a => ?_, hbusy, hag, hreg, hsame⟩
  · rw [ceSeg_eq hkind, State.ceSeg_busy (h.engine ▸ h.busy) h.cmd, if_pos hk, hv]
  · rw [State.team, hteams]
    refine (hshare a).trans ?_
    rw [hlen]
    exact ite_congr rfl (fun ha => hmem _ (by omega)) fun _ => rfl

/-- A COPY, a FILL and an FP32 REDUCE inside one block of the share (R226). -/
theorem bytesMove {s : State} {i : Instr} {id so d n : Nat} {c : Cmd} {tm : Team} (h : ShareCmd s id c tm so d)
    (hk : (i = .ceCopy ∧ cmKind c.blk.toNat = 0) ∨ (i = .ceFill ∧ cmKind c.blk.toNat = 1) ∨
      (i = .ceReduce ∧ cmKind c.blk.toNat = 5 ∧ cmA96 c.blk.toNat = false ∧ n % 4 = 0))
    (hlen : cmLen c.blk.toNat = n) (h0 : 0 < n) (hbs : so % 64 + n ≤ 64) (hbd : d % 64 + n ≤ 64) (hss : so + n ≤ 4096 * tm.shared)
    (hds : d + n ≤ 4096 * tm.shared) :
    EndsInShare s i id c n fun a => if d ≤ a ∧ a < d + n then
      copiedByte c.blk.toNat (fun i => tabGet 0 tm.shmem (d + i)) (fun i => tabGet 0 tm.shmem (so + i)) (a - d) else tabGet 0 tm.shmem a := by
  have hcmd := h
  obtain ⟨-, -, -, hpos, hsum, hsrc, hdst, ht, hl, hs⟩ := hcmd
  have hmove := ceMove_linear (by omega) hpos hsrc hdst
  rw [hlen] at hmove
  have htot : cmTotal c.blk.toNat = n := by
    rw [cmTotal, if_neg (by omega), hlen]
  obtain ⟨k, bs, hkind, hk', hbl, hval, hrun⟩ : ∃ k bs, (i, k, cePiece) ∈ kindStep ∧ cmKind c.blk.toNat = k ∧ bs.length = n ∧
      (∀ j, j < n → bs.getD j 0 = copiedByte c.blk.toNat (fun i => tabGet 0 tm.shmem (d + i)) (fun i => tabGet 0 tm.shmem (so + i)) j) ∧
      (cePiece c).Gives s (c.moved (c.pos + n) (c.sumLen + n) c.skip c.out) (s.putShare c.team d bs) := by
    rcases hk with ⟨rfl, hk⟩ | ⟨rfl, hk⟩ | ⟨rfl, hk, ha96, h4⟩
    · exact ⟨0, _, by simp [kindStep], hk, tm.bytesAt_length so n, fun j hj => copiedByte_copy tm so _ hk hj,
        cePiece_copies ht hl hs hsum h0 hds hbd hss hbs hmove (by omega) (by omega)⟩
    · have hrun := cePiece_fills ht hl hs hsum hds hbd hk hmove
      exact ⟨1, _, by simp [kindStep], hk, by simp, fun j hj => by rw [hpos]; exact copiedByte_fill _ _ hk hj, hrun⟩
    · have hsums := reduceBytes_length tm d so h4
      rw [← ha96] at hsums
      exact ⟨5, _, by simp [kindStep], hk, hsums, fun j hj => by rw [ha96]; exact copiedByte_reduce tm d so hk h4 hj,
        cePiece_reduces ht hl hs hsum h0 hds hbd hss hbs hmove hk hsums⟩
  rw [hpos, Nat.zero_add] at hrun
  exact ceSeg_share h hkind hk' h0 htot (by omega) hrun hbl hval

theorem commandsMove : CommandsMove := by
  refine ⟨fun s i k piece h => ⟨fun hb => ?_, fun id c hb hc => ?_⟩, ?_⟩
  · rw [ceSeg_eq h, State.ceSeg_idle hb]
  · rw [ceSeg_eq h, State.ceSeg_busy hb hc]
  · intro s i id so d n c tm hev hb hc hk hlen h0 _ hsum hpos _ hsrc hdst hbs hbd ht hl hss hds hs
    exact bytesMove ⟨hev, hb, hc, hpos, hsum, hsrc, hdst, ht, hl, hs⟩ hk hlen h0 hbs hbd hss hds

/-! ## GATHER, SCATTER and CONVERT in the share (R226) -/

/-- A GATHER and a SCATTER of one element. -/
theorem elementMoves {s : State} {i : Instr} {id x so d lo hi : Nat} {c : Cmd} {tm : Team} (h : ShareCmd s id c tm so d)
    (hk : (i = .ceGather ∧ cmKind c.blk.toNat = 3 ∧ lo = so + bytesNat (tm.bytesAt x 4) * cmElem c.blk.toNat ∧ hi = d) ∨
      (i = .ceScatter ∧ cmKind c.blk.toNat = 4 ∧ lo = so ∧ hi = d + bytesNat (tm.bytesAt x 4) * cmElem c.blk.toNat))
    (hlen : cmLen c.blk.toNat = 1) (hsz : cmEszl c.blk.toNat ≤ 4) (haux : cmAux c.blk.toNat = sharedWindow.toNat + x) (hx : x % 4 = 0)
    (hso : so % cmElem c.blk.toNat = 0) (hdz : d % cmElem c.blk.toNat = 0) (hxs : x + 4 ≤ 4096 * tm.shared)
    (hlos : lo + cmElem c.blk.toNat ≤ 4096 * tm.shared) (hhis : hi + cmElem c.blk.toNat ≤ 4096 * tm.shared) :
    EndsInShare s i id c (cmElem c.blk.toNat) fun a =>
      if hi ≤ a ∧ a < hi + cmElem c.blk.toNat then tabGet 0 tm.shmem (lo + (a - hi)) else tabGet 0 tm.shmem a := by
  have hsmall := h.small
  have hdvd : cmElem c.blk.toNat ∣ 64 := (Nat.pow_dvd_pow 2 hsz).trans ⟨4, rfl⟩
  have h0 : 0 < cmElem c.blk.toNat := Nat.two_pow_pos _
  have hblock {a : Nat} (ha : a % cmElem c.blk.toNat = 0) : a % 64 + cmElem c.blk.toNat ≤ 64 := by
    have hda : cmElem c.blk.toNat ∣ a % 64 := (Nat.dvd_mod_iff hdvd).2 (Nat.dvd_of_mod_eq_zero ha)
    exact Nat.le_of_lt_add_of_dvd (by have := Nat.mod_lt a (show 0 < 64 by omega); omega) (Dvd.dvd.add hda (Nat.dvd_refl _)) hdvd
  obtain ⟨k, hkind, hk', hk34, hends, hloz, hhiz, hle⟩ : ∃ k, (i, k, cePiece) ∈ kindStep ∧ cmKind c.blk.toNat = k ∧ (k = 3 ∨ k = 4) ∧
      ((cmKind c.blk.toNat = 3 ∧ lo = so + bytesNat (tm.bytesAt x 4) * cmElem c.blk.toNat ∧ hi = d) ∨
        (cmKind c.blk.toNat = 4 ∧ lo = so ∧ hi = d + bytesNat (tm.bytesAt x 4) * cmElem c.blk.toNat)) ∧
      lo % cmElem c.blk.toNat = 0 ∧ hi % cmElem c.blk.toNat = 0 ∧ d ≤ hi := by
    rcases hk with ⟨rfl, hk, rfl, rfl⟩ | ⟨rfl, hk, rfl, rfl⟩
    · exact ⟨3, by simp [kindStep], hk, .inl rfl, .inl ⟨hk, rfl, rfl⟩, by rw [Nat.add_mul_mod_self_right, hso], hdz, Nat.le_refl _⟩
    · exact ⟨4, by simp [kindStep], hk, .inr rfl, .inr ⟨hk, rfl, rfl⟩, hso, by rw [Nat.add_mul_mod_self_right, hdz], Nat.le_add_right _ _⟩
  have hmove := ceMove_indexed h hx hxs haux hends
  have hrun := cePiece_copies h.team h.live h.small h.unsummed h0 hhis (hblock hhiz) hlos (hblock hloz) hmove (by omega) (by omega)
  rw [h.first, Nat.zero_add] at hrun
  have htot : cmTotal c.blk.toNat = cmElem c.blk.toNat := by
    rw [cmTotal, if_pos (by omega), hlen, Nat.one_mul]
  exact ceSeg_share (mem := fun j => tabGet 0 tm.shmem (lo + j)) h hkind hk' h0 htot (by omega) hrun (tm.bytesAt_length _ _)
    fun j hj => tm.bytesAt_getD _ hj

theorem expandGranule_length {fmt k : Nat} (h : fmtClass fmt = some k) (scl aux data : Nat) :
    (expandGranule fmt scl aux data).length = classElems k := by
  unfold expandGranule
  rw [h]
  simp

/-- The values of a block of the share (R226). -/
def Team.valuesAt (tm : Team) (fmt off : Nat) : List Val := (expandGranule fmt 127 0x60606060 (bytesNat (tm.bytesAt off 64))).map fun x => x.1

theorem cmRowLen_whole {b : Nat} (hf : cmFrag b = false) (hl : cmLen b = 64) : Nat.max 1 (cmRowLen b) = 64 := by
  simp [cmRowLen, cmRows, hf, hl]

/-- The team whose share has been written. -/
theorem State.putShare_team {s : State} {tid off : Nat} {tm : Team} (ht : tabFind s.teams tid = some tm) (bs : List Byte) :
    ∃ m, tabFind (s.putShare tid off bs).teams tid = some { tm with shmem := m } := by
  refine ⟨((List.range bs.length).zip bs).foldl (fun m p => tabSet 0 m (off + p.1) p.2) tm.shmem, ?_⟩
  rw [State.putShare, (State.wakeWord_effect _ _ _ _).2]
  simp [State.modTeam, ht]

section
variable {s : State} {id : Nat} {c : Cmd} {tm : Team} {so d k : Nat} (h : ShareCmd s id c tm so d) (hfrag : cmFrag c.blk.toNat = false)
  (hf0 : cmSfmt c.blk.toNat ≠ 0) (hk : fmtClass (cmSfmt c.blk.toNat) = some k) (hskip : c.skip = 0) (hss : so + 64 ≤ 4096 * tm.shared)
include h hfrag hf0 hk hskip hss

/-- The one granule of a source of 64 bytes. -/
theorem convTake_granule {need : Nat} (h0 : 0 < need) (hle : classElems k ≤ need) :
    ∃ l, (convTake c 64 130 c need).Gives s (c.moved 64 l 0 c.out, tm.valuesAt (cmSfmt c.blk.toNat) so) s := by
  have hvals : (tm.valuesAt (cmSfmt c.blk.toNat) so).length = classElems k := by
    rw [Team.valuesAt, List.length_map, expandGranule_length hk]
  have htake : ((tm.valuesAt (cmSfmt c.blk.toNat) so).drop 0).take need = tm.valuesAt (cmSfmt c.blk.toNat) so := by
    rw [List.drop_zero, List.take_of_length_le (by omega)]
  obtain ⟨l, hhash⟩ : ∃ l, (if c.sumLen ≤ 0 then c.hash (tm.bytesAt so 64) else c) = { c with sumLen := l } := by
    split
    · exact ⟨_, Cmd.hash_unsummed h.unsummed _⟩
    · exact ⟨c.sumLen, rfl⟩
  refine ⟨l, ?_⟩
  unfold convTake
  rw [if_neg (by rw [h.first]; omega)]
  refine .getBind ?_
  dsimp only
  rw [hfrag, if_neg Bool.false_ne_true, if_neg Bool.false_ne_true, h.src, h.first, Nat.mul_zero, Nat.add_zero, Nat.add_zero]
  refine .bind (ceReadBlock_share h.team h.live hss h.small _) ?_
  refine .bind (ceDesc_share h.team h.live hss h.small _ (by omega)) ?_
  dsimp only
  rw [if_neg hf0, hk, if_neg (by simp), hhash, hskip]
  rw [show List.map _ (expandGranule _ _ _ _) = tm.valuesAt (cmSfmt c.blk.toNat) so from rfl, htake, Nat.zero_add, if_pos rfl]
  refine .bind (a := (c.moved 64 l 0 c.out, [])) (t := s) ?_ ?_
  · show (convTake c 64 129 (c.moved 64 l 0 c.out) _).Gives s _ s
    unfold convTake
    rw [if_pos (.inr (Nat.le_refl 64))]
    exact .pure _ _
  · rw [List.append_nil]
    exact .pure _ _

/-- A CONVERT of one granule writes the granule of its values in the destination's format. -/
theorem convPiece_granule {n : Nat} (hlen : cmLen c.blk.toNat = 64) (hn : fmtClass (cmCfmt c.blk.toNat) = some n) (hkn : classElems k ≤ classElems n)
    (hegc : cmEgc c.blk.toNat = false) (hout : c.out = 0) (hds : d + 64 ≤ 4096 * tm.shared) :
    ∃ l, (convPiece c).Gives s (c.moved 64 l 0 1)
      (s.putShare c.team d (natBytes 64 (blockOut (cmCfmt c.blk.toNat) .rne false (tm.valuesAt (cmSfmt c.blk.toNat) so)).2.1)) := by
  have h0 : 0 < classElems n := Nat.mul_pos (by decide) (Nat.two_pow_pos n)
  obtain ⟨l, htake⟩ := convTake_granule h hfrag hf0 hk hskip hss h0 hkn
  refine ⟨l, ?_⟩
  unfold convPiece
  dsimp only
  rw [hk, hegc, hfrag, hn, cmRowLen_whole hfrag hlen, h.first, hout]
  rw [if_neg (by simp), if_neg (by simp), if_neg Bool.false_ne_true]
  refine .bind htake (.getBind ?_)
  dsimp only
  rw [if_neg Bool.false_ne_true, h.dst, Nat.mul_zero, Nat.add_zero]
  refine .bind (ceWrite_share h.team h.live hds h.small (natBytes_length _ _) _ _) ?_
  obtain ⟨m, hm⟩ := State.putShare_team (off := d) h.team
    (natBytes 64 (blockOut (cmCfmt c.blk.toNat) .rne false (tm.valuesAt (cmSfmt c.blk.toNat) so)).2.1)
  refine .bind (cePlace_share hm h.live (n := 1) (show d + 1 ≤ 4096 * tm.shared by omega) h.small _ _) ?_
  rw [if_neg (show ¬(Place.sh d).peer = true from Bool.false_ne_true), if_neg (by simp)]
  exact .pure _ _

end

theorem elementsMove : ElementsMove := by
  refine ⟨?_, ?_⟩
  · intro s i id x so d lo hi c tm hev hb hc b z v hk hlen hsz hsum hpos _ _ hsrc hdst haux hx hso hdz ht hl hxs hlos hhis hs
    have hv : v.toNat = bytesNat (tm.bytesAt x 4) := (tm.bytesNat_bytesAt x).symm
    rw [hv] at hk
    exact elementMoves ⟨hev, hb, hc, hpos, hsum, hsrc, hdst, ht, hl, hs⟩ hk hlen hsz haux hx hso hdz hxs hlos hhis
  · intro s id so d k n c tm hev hb hc b hkind hlen hegc hfrag hsum hf0 hk hn hkn hpos hskip hout _ hsrc hdst _ _ ht hl hss hds hs values bytes
    have h : ShareCmd s id c tm so d := ⟨hev, hb, hc, hpos, hsum, hsrc, hdst, ht, hl, hs⟩
    have hkind2 : cmKind c.blk.toNat = 2 := hkind
    obtain ⟨l, hrun⟩ := convPiece_granule h hfrag hf0 hk hskip hss hlen hn hkn hegc hout hds
    have htot : cmTotal c.blk.toNat = 64 := by
      rw [cmTotal, if_neg (by omega), hlen]
    exact ceSeg_share (i := .ceConvert) (mem := fun j => bytes.getD j 0) h (by simp [kindStep]) hkind2 (by decide) htot (by omega) hrun
      (natBytes_length _ _) fun _ _ => rfl

/-! ## The end of a command (R224, R227, R229, R230, R394) -/

/-- A command is out of the device: its entry, its queue entry and its locks are free. -/
theorem State.dropCmd_effect {s : State} {id : Nat} {c : Cmd} (hc : tabFind s.cmds id = some c) :
    tabFind (s.dropCmd id).cmds id = none ∧ id ∉ ((s.dropCmd id).ce c.ce).queue ∧ (∀ e ∈ ((s.dropCmd id).plot c.plot).rlt, e.owner ≠ id) ∧
    (s.dropCmd id).groups = s.groups ∧ (s.dropCmd id).ctxs = s.ctxs ∧ SameMemory s (s.dropCmd id) := by
  let m := ({ s with cmds := tabDel s.cmds id } : State).modCe c.ce fun x =>
    { x with queue := x.queue.filter (fun i => decide (i ≠ id)), busy := if x.busy = some id then none else x.busy }
  let m1 := m.rltRelease c.plot id
  have hdrop : s.dropCmd id = m1.afterOnce 0 .ceSegment { a := c.ce } := by
    unfold State.dropCmd State.cmd?
    rw [hc]
  have hmem : SameMemory s m := ⟨fun _ => rfl, fun _ => rfl, fun _ => rfl⟩
  have hrel : SameMemory m m1 := SameMemory.trans (t := m.modPlot c.plot fun x => { x with
    rlt := x.rlt.filter (fun e => decide (e.owner ≠ id)), waiting := x.waiting.filter (fun e => decide (e.owner ≠ id)) })
    ⟨fun _ => rfl, fun _ => rfl, fun _ => rfl⟩ (State.afterOnce_memory _ _ _ _)
  rw [hdrop]
  refine ⟨?_, ?_, ?_, ?_, ?_, (hmem.trans hrel).trans (State.afterOnce_memory _ _ _ _)⟩
  · exact (congrArg (fun x => tabFind x id) ((State.afterOnce_cmds m1 _ _ _).trans (State.afterOnce_cmds _ _ _ _))).trans
      (tabFind_tabDel_same s.cmds id)
  · simp [State.ce, State.afterOnce_ces, m1, m, State.rltRelease]
  · simp [State.afterOnce_plot, m1, State.rltRelease]
  · exact (State.afterOnce_groups _ _ _ _).trans (State.afterOnce_groups _ _ _ _)
  · exact (State.afterOnce_ctxs _ _ _ _).trans (State.afterOnce_ctxs _ _ _ _)

/-- A command of its own skips no other. -/
theorem State.skipAfter_alone (s : State) {c : Cmd} (h : c.batch = false) : s.skipAfter c = s := by
  have hmap : s.cmds.map (fun e => if c.batch ∧ e.2.op = c.op ∧ c.idx < e.2.idx then (e.1, { e.2 with status := 9 }) else e) = s.cmds := by
    simp [h]
  unfold State.skipAfter
  rw [hmap]

/-- The last command of a word that stands alone gives its status to the word, which completes. -/
theorem State.cmdCounts_alone {s m : State} {c : Cmd} {g : Group} {o : MemOp} {d : Nat} (hm : m.groups = s.groups)
    (hp : PlainOp s c.gid c.op g o d) (hleft : o.left = 1) (hst : o.status = 0) (hbatch : c.batch = false) :
    ∃ f, m.cmdCounts c = m.modGroup c.gid f ∧ CompletesWith s (m.modGroup c.gid f) c.gid c.op g o d (BitVec.ofNat 64 c.status) := by
  let o1 : MemOp := { o with left := 0, status := c.status }
  let o2 : MemOp := { o1 with sres := some { val := BitVec.ofNat 64 c.status } }
  let ops := tabPut (tabPut g.ops c.op o1) c.op o2
  have hg : tabFind m.groups c.gid = some g := hm ▸ hp.group
  have hg1 := State.modOp_found hg hp.oper fun y => { y with left := 0, status := c.status }
  have hg2 := State.modOp_found hg1 (tabFind_tabPut_same g.ops c.op o1) fun y => { y with sres := some { val := BitVec.ofNat 64 c.status } }
  have hstatus : (if o.status ≠ 0 ∨ c.status = 0 then o.status else if c.batch = true then c.idx * 256 + c.status else c.status) = c.status := by
    rw [hst, hbatch]
    split
    · omega
    · rfl
  have hcounts : m.cmdCounts c = ((m.modOp c.gid c.op fun y => { y with left := 0, status := c.status }).modOp c.gid c.op
      fun y => { y with sres := some { val := BitVec.ofNat 64 c.status } }).completeOp c.gid c.op := by
    unfold State.cmdCounts
    rw [State.group_eq hg, hp.oper]
    dsimp only
    rw [hstatus, hleft, if_pos (Nat.le_refl 1)]
  rw [hcounts, completeOp_goesOn (o := o2) hg2 (tabFind_tabPut_same _ _ _) hp.alone hp.whole hp.goesOn, State.modOp, State.modOp,
    State.modGroup_modGroup, State.modGroup_modGroup]
  refine ⟨_, rfl, ?_⟩
  generalize hf : (fun y : Group => _) = f
  have hdone : tabFind (m.modGroup c.gid f).groups c.gid = some (({ g with ops := ops } : Group).completed c.op o2 m.cycle) := by
    rw [State.modGroup_groups, tabFind_tabUpd_same, hg, ← hf]
    simp [hp.oper, ops, o1, o2]
  refine completed_gives hp hdone fun k hk => ?_
  rw [← hm]
  exact tabFind_tabUpd_ne _ _ hk

/-- What the end of a command that stands alone does (R230 steps 3 and 4). -/
theorem State.cmdDone_alone {m : State} {id : Nat} {c : Cmd} (hc : tabFind m.cmds id = some c) (hbatch : c.batch = false) (htiles : c.tiles = false)
    (htr : (m.ctx c.ctx).trace = false) : m.cmdDone id c = ((m.dropCmd id).cmdCounts c).afterOnce 0 .ceDispatch { a := c.plot } := by
  obtain ⟨-, -, -, -, hctxs, -⟩ := State.dropCmd_effect hc
  have htrace (die kind tag gs pl tm aux v : Nat) : (m.dropCmd id).trace die kind tag c.ctx gs pl tm aux v = m.dropCmd id := by
    refine if_neg ?_
    rw [State.ctx, hctxs, show (tabGet {} m.ctxs c.ctx).trace = false from htr]
    exact Bool.false_ne_true
  have htilesEnd : m.tilesAtEnd c (decide (c.status = 0)) = m := if_neg (by rw [htiles]; exact Bool.false_ne_true)
  unfold State.cmdDone
  dsimp only
  rw [State.skipAfter_alone m hbatch, ite_self, htilesEnd, htrace]

/-- The end of a command without checksum and signal word: it leaves the device and counts at its word. -/
theorem ceCommandComplete_plain {s : State} {id : Nat} {c : Cmd} (hev : s.ev.b = id) (hc : tabFind s.cmds id = some c)
    (hsig : cmSigen c.blk.toNat = false) (hsum : cmCsum c.blk.toNat = 0) (hbatch : c.batch = false) (htiles : c.tiles = false)
    (htr : (s.ctx c.ctx).trace = false) :
    ∃ m c1, exec .ceCommandComplete s = .next (((m.dropCmd id).cmdCounts c1).afterOnce 0 .ceDispatch { a := c.plot }) ∧
      tabFind m.cmds id = some c1 ∧ (∃ x, c1 = { c with sum := x }) ∧ m.groups = s.groups ∧ SameMemory s m := by
  obtain ⟨m, x, hm, hc1, hgroups, hctxs, hmem⟩ : ∃ m x, (if s.ev.flag = true then s else s.endSum id c) = m ∧
      tabFind m.cmds id = some { c with sum := x } ∧ m.groups = s.groups ∧ m.ctxs = s.ctxs ∧ SameMemory s m := by
    split
    · exact ⟨s, c.sum, rfl, hc, rfl, rfl, SameMemory.refl s⟩
    · refine ⟨s.modCmd id fun x => { x with sum := 0 }, 0, if_pos (.inl hsum), ?_, rfl, rfl, ⟨fun _ => rfl, fun _ => rfl, fun _ => rfl⟩⟩
      show tabFind (tabUpd s.cmds id _) id = _
      rw [tabFind_tabUpd_same, hc]
      rfl
  refine ⟨m, { c with sum := x }, ?_, hc1, ⟨x, rfl⟩, hgroups, hmem⟩
  show execCeCommandComplete s = _
  unfold execCeCommandComplete State.cmd?
  dsimp only
  rw [hev, hc]
  dsimp only
  rw [hm, hc1]
  dsimp only
  rw [State.cmdSignal, if_pos (by rw [hsig]; rfl)]
  refine congrArg Host.Outcome.next (State.cmdDone_alone hc1 hbatch htiles ?_)
  rw [State.ctx, hctxs]
  exact htr

theorem commandsComplete : CommandsComplete := by
  refine ⟨?_, ?_, ?_, ?_⟩
  · intro s id dst c g o hev hc hsig hsum hbatch htiles htr hg ho hleft hst hf hw hr hl hd hgo
    have hp : PlainOp s c.gid c.op g o dst := ⟨hg, ho, hf, hw, hr, hl, hd, hgo⟩
    obtain ⟨m, c1, hexec, hc1, ⟨x, rfl⟩, hgroups, hmem⟩ := ceCommandComplete_plain hev hc hsig hsum hbatch htiles htr
    obtain ⟨hcmds, hqueue, hrlt, hgr, -, hdrop⟩ := State.dropCmd_effect hc1
    obtain ⟨f, hcount, h, hh, hgone, hs, hflag, hv, hk, -, hother⟩ := State.cmdCounts_alone (m := m.dropCmd id) (c := { c with sum := x })
      (hgr.trans hgroups) hp hleft hst hbatch
    rw [hcount] at hexec
    refine ⟨_, h, hexec, ?_, hgone, ?_, hs, hflag, hv, hk, ?_, ?_, ?_, ?_⟩
    · rw [State.afterOnce_groups]
      exact hh
    · rw [State.afterOnce_cmds]
      exact hcmds
    · rw [State.afterOnce_plot]
      exact hrlt
    · rw [State.ce, State.afterOnce_ces]
      exact hqueue
    · intro k hk
      rw [State.afterOnce_groups]
      exact hother k hk
    · exact ((hmem.trans hdrop).trans (State.modGroup_rest _ _ _).2.1).trans (State.afterOnce_memory _ _ _ _)
  · intro s id c hev hc hst hce
    let m := s.modCmd id fun c => { c with sum := BitVec.ofNat 32 s.ev.b }
    have hm : tabFind m.cmds id = some { c with sum := BitVec.ofNat 32 s.ev.b } := by
      show tabFind (tabUpd s.cmds id _) id = _
      rw [tabFind_tabUpd_same, hc]
      rfl
    obtain ⟨hcmd, -, hag, hgr, -, hmem⟩ := State.cmdEnds_effect hm (if s.ev.flag then 5 else 0)
    refine ⟨m.cmdEnds id (if s.ev.flag then 5 else 0), ?_, hcmd, hce ▸ hag, hgr,
        SameMemory.trans (t := m) ⟨fun _ => rfl, fun _ => rfl, fun _ => rfl⟩ hmem⟩
    show execPeerWriteCompletion s = _
    unfold execPeerWriteCompletion State.cmd?
    dsimp only
    rw [hev, hc]
    dsimp only
    rw [if_pos ⟨hst, hce⟩]
  · intro s h
    show execPeerWriteCompletion s = _
    unfold execPeerWriteCompletion State.cmd?
    dsimp only
    split
    · next c hc => rw [if_neg fun hst => h _ (tabFind_mem hc) hst.1]
    · rfl
  · intro s c x id hx
    have hmap : (s.skipAfter c).cmds = s.cmds.map fun e =>
        (e.1, if c.batch = true ∧ e.2.op = c.op ∧ c.idx < e.2.idx then { e.2 with status := 9 } else e.2) := by
      refine List.map_congr_left fun e _ => ?_
      split <;> rfl
    rw [hmap, tabFind_map s.cmds fun y => if c.batch = true ∧ y.op = c.op ∧ c.idx < y.idx then { y with status := 9 } else y, hx]
    rfl

/-- Settles O37: a command inside the share takes two turns, its one piece and its end; its word completes with its status. -/
theorem copyData : Obligations.CopyData := ⟨commandsMove, elementsMove, commandsComplete⟩

end Sys2Proof.Machine
end
